-- ==== Sys2Proof/Word.lean ====
section
/-! DEFINITION. The widths of the device's data: bytes, register words, exchange words, vector
halfwords, exponents and the 40-bit lane accumulators. -/

namespace Sys2Proof

/-- One byte of a memory. -/
abbrev Byte := BitVec 8
/-- A 16-bit vector element or table point (R75, R110). -/
abbrev Half := BitVec 16
/-- A register, a general lane register, or one 32-bit slot instruction (R10, R75, R118). -/
abbrev Word := BitVec 32
/-- An exchange word, an intake record or a table record (R84, R105, R112). -/
abbrev DWord := BitVec 64
/-- A leg command (R159). -/
abbrev QWord := BitVec 128
/-- A lane accumulator: 9 integer and 30 fraction bits beside its sign (R75). -/
abbrev Acc40 := BitVec 40

end Sys2Proof
end

