-- ==== Sys2Proof/Machine/Bits.lean ====
section
/-! DEFINITION. Bit fields of numbers, signed readings, saturating counts and byte order. -/

namespace Sys2Proof.Machine

/-- The `w` bits of `v` from bit `lo` up. -/
def bitsOf (v lo w : Nat) : Nat := v / 2 ^ lo % 2 ^ w

/-- Bit `i` of `v`. -/
def bitOf (v i : Nat) : Bool := v / 2 ^ i % 2 == 1

/-- A flag as a bit. -/
def flagBit (b : Bool) : Nat := if b then 1 else 0

/-- `v` with its `w` bits from bit `lo` up replaced by `x`. -/
def withBits (v lo w x : Nat) : Nat := v - bitsOf v lo w * 2 ^ lo + x % 2 ^ w * 2 ^ lo

/-- A `w`-bit number read as a two's-complement integer. -/
def signed (w v : Nat) : Int := if v % 2 ^ w < 2 ^ (w - 1) then (v % 2 ^ w : Nat) else ((v % 2 ^ w : Nat) : Int) - 2 ^ w

/-- The low `w` bits of an integer. -/
def lowBits (w : Nat) (x : Int) : Nat := (x % 2 ^ w).toNat

/-- A count of `w` bits that stays at its largest value. -/
def satInc (w v : Nat) : Nat := if v + 1 < 2 ^ w then v + 1 else 2 ^ w - 1

/-- Values packed from bit 0 up, each with its width (R506). -/
def pack : List (Nat × Nat) → Nat
  | [] => 0
  | (v, w) :: t => v % 2 ^ w + 2 ^ w * pack t

/-- The number that bytes spell, the first the least significant (R80). -/
def leNat : List Byte → Nat
  | [] => 0
  | b :: t => b.toNat + 256 * leNat t

/-- `n` bytes of a number, the least significant first. -/
def leBytes : Nat → Nat → List Byte
  | 0, _ => []
  | n + 1, v => BitVec.ofNat 8 v :: leBytes n (v / 256)

/-- The number that bytes spell, the first the most significant. -/
def beNat (l : List Byte) : Nat := l.foldl (fun acc b => acc * 256 + b.toNat) 0

/-- One bit of a cyclic redundancy code of `w` bits, most significant bit first. -/
def crcBit (w poly crc : Nat) (b : Bool) : Nat :=
  let top := bitOf crc (w - 1) != b
  let sh := crc * 2 % 2 ^ w
  if top then sh ^^^ poly else sh

/-- A cyclic redundancy code of `w` bits over bytes, most significant bit first, without reflection. -/
def crcMsb (w poly : Nat) : Nat → List Byte → Nat
  | crc, [] => crc
  | crc, x :: t =>
    crcMsb w poly ([7, 6, 5, 4, 3, 2, 1, 0].foldl (fun c i => crcBit w poly c (bitOf x.toNat i)) crc) t

/-- `n` bytes of a number, the most significant first. -/
def beBytes (n v : Nat) : List Byte := (leBytes n v).reverse

/-- An integer between two limits. -/
def clampInt (lo hi x : Int) : Int := if x < lo then lo else if hi < x then hi else x

/-- The largest number whose square is at most `n`, found bit by bit from bit `k` down. -/
def isqrtFrom (n : Nat) : Nat → Nat → Nat
  | 0, r => r
  | k + 1, r => isqrtFrom n k (if (r + 2 ^ k) * (r + 2 ^ k) ≤ n then r + 2 ^ k else r)

/-- The integer square root of a number below 2^96. -/
def isqrt (n : Nat) : Nat := isqrtFrom n 48 0

end Sys2Proof.Machine
end

