-- ==== Sys2Proof/Machine/Flags.lean ====
section
/-! DEFINITION. The LANE_STATUS flags and the arithmetic that sets them: rounding, saturation, the two number classes
(R87 to R98). -/

namespace Sys2Proof.Machine

/-- The sticky flags of LANE_STATUS (R97). -/
abbrev flagSat : Nat := 1
abbrev flagOvf : Nat := 2
abbrev flagExpu : Nat := 4
abbrev flagEvtLate : Nat := 8
abbrev flagAddr : Nat := 16
abbrev flagExchRef : Nat := 32

/-- A flag where a condition holds. -/
def flagIf (c : Bool) (f : Nat) : Nat := if c then f else 0

/-- Division by 2^n rounded to nearest, a tie to the even result: the rule of R90. -/
def roundShift (x : Int) (n : Nat) : Int :=
  if n = 0 then x
  else
    let q := x / 2 ^ n
    let r := x % 2 ^ n
    if r < 2 ^ (n - 1) then q else if 2 ^ (n - 1) < r then q + 1 else if q % 2 = 0 then q else q + 1

/-- A quotient by a positive integer rounded to nearest, a tie to the even result. -/
def roundDiv (x m : Int) : Int :=
  let q := x / m
  let r := x % m
  if 2 * r < m then q else if m < 2 * r then q + 1 else if q % 2 = 0 then q else q + 1

/-- Saturation to Q15: the value and whether it saturated (R88). -/
def satQ15 (x : Int) : Int × Bool :=
  if x < -32768 then (-32768, true) else if 32767 < x then (32767, true) else (x, false)

/-- Saturation to the accumulator's range (R89). -/
def satAcc (x : Int) : Int × Bool :=
  if x < -549755813888 then (-549755813888, true)
  else if 549755813887 < x then (549755813887, true) else (x, false)

/-- The Q15 operand of a word: its low half (R87). -/
def q15 (w : Word) : Int := signed 16 w.toNat

/-- A Q15 result, sign-extended (R87). -/
def ofQ15 (x : Int) : Word := BitVec.ofInt 32 x

/-- The magnitude of a Q15 value; that of 0x8000 is 0x7FFF and sets sat (R88). -/
def absQ15 (x : Int) : Int × Bool := satQ15 (if x < 0 then -x else x)

/-- An accumulator as an integer of 30 fraction bits (R75). -/
def accInt (a : Acc40) : Int := a.toInt

/-- Extraction of a Q15 value with a left shift, 9 to 15 acting as 8 (R90, R125). -/
def extract (a : Acc40) (s : Nat) : Int × Bool := satQ15 (roundShift (accInt a * 2 ^ min s 8) 15)

/-- The element mantissas of a vector (R75, R91). -/
def vecElems (m : QWord) : List Int := (List.range 8).map (fun i => signed 16 (bitsOf m.toNat (16 * i) 16))

/-- A vector of mantissas. -/
def vecPack : List Int → Nat
  | [] => 0
  | x :: t => lowBits 16 x + 65536 * vecPack t

/-- A vector result: mantissas and exponent as stored, and the flags it sets. -/
structure VecResult where
  m : QWord
  e : Byte
  flags : Nat
  deriving DecidableEq, Repr

/-- The limits on a result's exponent, for operations other than BNORM (R95). -/
def limitExp (ms : List Int) (e : Int) : VecResult :=
  if e < -128 then
    ⟨BitVec.ofNat 128 (vecPack (ms.map (fun x => roundShift x (-128 - e).toNat))), BitVec.ofInt 8 (-128), flagExpu⟩
  else if 127 < e then
    ⟨BitVec.ofNat 128 (vecPack (ms.map (fun x => if x < 0 then -32768 else if 0 < x then 32767 else 0))),
      BitVec.ofInt 8 127, flagOvf⟩
  else ⟨BitVec.ofNat 128 (vecPack ms), BitVec.ofInt 8 e, 0⟩

/-- A mantissa moved right to a larger exponent; a move of 16 or more gives 0 (R93). -/
def alignRight (x : Int) (n : Nat) : Int := if 16 ≤ n then 0 else roundShift x n

/-- Element-wise sum or difference (R93). DEDUCED: a halved sum that rounds to +1.0 is 0x7FFF, as R90 saturates it. -/
def vecAdd (m1 : QWord) (e1 : Byte) (m2 : QWord) (e2 : Byte) (subtract : Bool) : VecResult :=
  let e := max e1.toInt e2.toInt
  let a := (vecElems m1).map (fun x => alignRight x (e - e1.toInt).toNat)
  let b := (vecElems m2).map (fun x => alignRight x (e - e2.toInt).toNat)
  let s := List.zipWith (fun x y => if subtract then x - y else x + y) a b
  if s.any (fun x => (satQ15 x).2) then limitExp (s.map (fun x => (satQ15 (roundShift x 1)).1)) (e + 1) else limitExp s e

/-- Products with 30 fraction bits to mantissas (R94). Below the least exponent the deficit joins the shift of the exact product, so
that none is rounded twice (R95). -/
def vecScale (ps : List Int) (e : Int) : VecResult :=
  let one := ps.any (fun p => p == 1073741824)
  let e1 := if one then e + 1 else e
  let n := if one then 16 else 15
  if e1 < -128 then
    ⟨BitVec.ofNat 128 (vecPack (ps.map (fun p => roundShift p (n + (-128 - e1).toNat)))), BitVec.ofInt 8 (-128), flagExpu⟩
  else limitExp (ps.map (fun p => roundShift p n)) e1

/-- Element-wise product (R94). -/
def vecMul (m1 : QWord) (e1 : Byte) (m2 : QWord) (e2 : Byte) : VecResult :=
  vecScale (List.zipWith (fun x y => x * y) (vecElems m1) (vecElems m2)) (e1.toInt + e2.toInt)

/-- Product with a Q15 scalar of exponent 0 (R94). -/
def vecScalar (m : QWord) (e : Byte) (q : Int) : VecResult := vecScale ((vecElems m).map (fun x => x * q)) e.toInt

/-- The largest magnitude of a vector; that of 0x8000 counts as 1 (R92). -/
def vecMax : List Int → Nat
  | [] => 0
  | x :: t => max x.natAbs (vecMax t)

/-- Left shifts, at most `n`, that bring a magnitude into [0.5, 1) (R92). -/
def normShift : Nat → Nat → Nat
  | 0, _ => 0
  | n + 1, x => if 16384 ≤ x then 0 else normShift n (2 * x) + 1

/-- Normalisation (R92, R95). -/
def vecNorm (m : QWord) (e : Byte) : VecResult :=
  let ms := vecElems m
  let big := vecMax ms
  if big = 0 then ⟨m, BitVec.ofInt 8 (-128), 0⟩
  else if 32768 ≤ big then
    if e.toInt = 127 then ⟨m, e, flagOvf⟩
    else ⟨BitVec.ofNat 128 (vecPack (ms.map (fun x => roundShift x 1))), BitVec.ofInt 8 (e.toInt + 1), 0⟩
  else
    let n := normShift 15 big
    let room := (e.toInt + 128).toNat
    ⟨BitVec.ofNat 128 (vecPack (ms.map (fun x => x * 2 ^ min n room))), BitVec.ofInt 8 (e.toInt - min n room),
      flagIf (decide (room < n)) flagExpu⟩

/-- One element to Q15: shifted by its exponent, rounded, saturated (R96). -/
def vecToQ (m : QWord) (e : Byte) (i : Nat) : Int × Bool :=
  let x := signed 16 (bitsOf m.toNat (16 * i) 16)
  if e.toInt < 0 then satQ15 (roundShift x (-e.toInt).toNat) else satQ15 (x * 2 ^ e.toInt.toNat)

end Sys2Proof.Machine
end

