-- ==== Sys2Proof/Config.lean ====
section
/-! DEFINITION. The values the spec leaves open, as constants without a body: a claim about them holds
whatever they are. -/

namespace Sys2Proof

/-- The value taken by the n-th use of a value the spec leaves open. -/
opaque Config.freeWord : Nat → Word

/-- The n-th choice between two outcomes the spec allows. -/
opaque Config.freeBool : Nat → Bool

/-- How far the lane's internal sine table lies from the exact sine at an angle, in units of 2^-40; the model
cuts it to the bound of R126. -/
opaque Config.sinError : Word → Int

/-- The same for the cosine (R126). -/
opaque Config.cosError : Word → Int

/-- The accuracy and variance of the device's own clock and its identity, as its Announce messages give them (R46). -/
opaque Config.ownQuality : BitVec 24
opaque Config.ownIdentity : BitVec 64

/-- Which direction status bit dir shows as 1: upwards, or downwards (R259). -/
opaque Config.dirSense : Bool

/-- The engines of the Cellar (R386): SHA-256; ECDSA P-256, which verifies a signature of a hash under a public key, signs a hash
with a private key and the n-th draw of random data, and derives a public key; AES-256-GCM, as its key stream and its tag
over a ciphertext, each for a key and a nonce; and the key of a purpose, derived from the device-unique key and the owner
wrapping key (R406). -/
opaque Config.sha256 : List Byte → BitVec 256
opaque Config.ecdsaVerify : List Byte → BitVec 256 → List Byte → Bool
opaque Config.ecdsaSign : List Byte → BitVec 256 → Nat → BitVec 512
opaque Config.ecdsaPublic : List Byte → BitVec 512
opaque Config.gcmStream : BitVec 256 → List Byte → Nat → Byte
opaque Config.gcmTag : BitVec 256 → List Byte → List Byte → BitVec 128
opaque Config.sealKey : List Byte → Nat → BitVec 256

/-- A frame as the MACsec engine sends it, for a suite, a key, a packet number and the frame (R409). -/
opaque Config.macsecFrame : Bool → List Byte → Nat → List Byte → List Byte

/-- The frame inside one received, for a suite, a key and the frame; none where the MACsec engine does not accept it (R409). -/
opaque Config.macsecOpen : Bool → List Byte → List Byte → Option (List Byte)

/-- The damage d[i][j] of one full cycle, from a module's coefficients, the bin's centre range in 0.25 °C and its centre mean in
0.5 °C (R424); empty coefficients stand for the calibration's default. -/
opaque Config.cycleDamage : List Byte → Int → Int → Nat

/-- The factor a_k of a thermal cell as Q15, from its time constant in ms and the sub-tick length in lane cycles (R421). -/
opaque Config.cellDecay : Nat → Nat → BitVec 16

/-- What the spec's reference programs leave unstated: the integral gain of the field-weakening regulator (R234), the number of DAC
codes for a compensator output of 1.0 and the sign of the poles in its difference equation (R287), the voltage of a chopper
unit's DC-link word at Q15 value 1.0, and the resistor temperature, in 0.1 °C, of a word (R308). -/
opaque Config.weakenGain : Nat → Nat
opaque Config.dacCodes : Nat → Nat
opaque Config.poleSign : Nat → Bool
opaque Config.linkVolts : Nat → Nat
opaque Config.resistorTemp : Nat → Int → Int

end Sys2Proof
end

