-- ==== Sys2Proof/Machine/Events.lean ====
section
/-! DEFINITION. The numbers of the event sources (R507, R538). -/

namespace Sys2Proof.Machine

/-- The number of an event source. -/
abbrev Src := Nat

namespace Ev

abbrev CHIP_FAULT : Src := 0x00
abbrev GUARD_VIOLATION : Src := 0x01
abbrev WRITE_COLLISION : Src := 0x02
abbrev FABRIC_STARVE : Src := 0x03
abbrev BUS_ERROR : Src := 0x04
abbrev MEM_ACCESS_REFUSED : Src := 0x05
abbrev E2E_ERROR : Src := 0x06
abbrev MEM_CORRECTED : Src := 0x07
abbrev MEM_UNCORR : Src := 0x08
abbrev SCRUB_LATE : Src := 0x09
abbrev IND_BUSY : Src := 0x0A
abbrev TIME_LOCKED : Src := 0x10
abbrev TIME_HOLDOVER : Src := 0x11
abbrev TIME_STEP : Src := 0x12
abbrev TICK_CFG_REFUSED : Src := 0x13
abbrev BLOCK_FAULT : Src := 0x18
abbrev REGION_FAULT : Src := 0x19
abbrev LANE_OVERRUN : Src := 0x1A
abbrev EXCH_TIMEOUT : Src := 0x1B
abbrev OWN_REFUSED : Src := 0x1C
abbrev COMMIT_NOT_OWNER : Src := 0x1D
abbrev COMMIT_COLLISION : Src := 0x1E
abbrev LEG_OVERRUN : Src := 0x1F
abbrev LANE_ADDR : Src := 0x20
abbrev LANE_MEM_REFUSED : Src := 0x21
abbrev LANE_ILLEGAL : Src := 0x22
abbrev LANE_EVT_LATE : Src := 0x23
abbrev EXCH_REFUSED : Src := 0x24
abbrev EXCH_CFG_REFUSED : Src := 0x25
abbrev LANE_SIG0 : Src := 0x26
abbrev LANE_SIG1 : Src := 0x27
abbrev LANE_SIG2 : Src := 0x28
abbrev LANE_SIG3 : Src := 0x29
abbrev HANDSHAKE_TIMEOUT : Src := 0x30
abbrev CROSS_COMMAND : Src := 0x31
abbrev HSL_INTERLOCK : Src := 0x32
abbrev LEG_CFG_REFUSED : Src := 0x33
abbrev BOOT_UV : Src := 0x34
abbrev LEG_FAULT : Src := 0x35
abbrev DEPTH_LIMITED : Src := 0x36
abbrev ADC_TRIG_LOST : Src := 0x38
abbrev ADC_CHECK_FAIL : Src := 0x39
abbrev ADC_CHECK_STARVED : Src := 0x3A
abbrev AFE_CFG_REFUSED : Src := 0x3B
abbrev SD_ALIGN_LOST : Src := 0x3C
abbrev SD_OVERCURRENT : Src := 0x3D
abbrev SD_STUCK : Src := 0x3E
abbrev WIN_TRIP : Src := 0x3F
abbrev ZCD_UNMAPPED : Src := 0x40
abbrev DAC_READBACK : Src := 0x41
abbrev DAC_RB_STARVED : Src := 0x42
abbrev FB_CFG_REFUSED : Src := 0x48
abbrev QEP_ILLEGAL : Src := 0x49
abbrev QEP_INDEX : Src := 0x4A
abbrev HALL_SKIP : Src := 0x4B
abbrev HALL_INVALID : Src := 0x4C
abbrev SSI_BUSY : Src := 0x4D
abbrev SSI_ERR : Src := 0x4E
abbrev PROBE_LATCH : Src := 0x4F
abbrev FEEDBACK_FAULT : Src := 0x50
abbrev ENABLE_REFUSED_CONFIG : Src := 0x58
abbrev ENABLE_REFUSED_BUSY : Src := 0x59
abbrev ENABLE_REFUSED_LOCKED : Src := 0x5A
abbrev ENABLE_REFUSED_FAULT : Src := 0x5B
abbrev ENABLE_REFUSED_TAG : Src := 0x5C
abbrev ENABLE_TIMEOUT : Src := 0x5D
abbrev ASC_EXIT_REFUSED : Src := 0x5E
abbrev UNIT_CFG_REFUSED : Src := 0x5F
abbrev SHED_ABORT : Src := 0x60
abbrev SHED_RESTORE : Src := 0x61
abbrev SHD_CFG_REFUSED : Src := 0x62
abbrev RF_CFG_REFUSED : Src := 0x63
abbrev DMA_QFULL : Src := 0x68
abbrev DMA_DONE : Src := 0x69
abbrev DMA_ERROR : Src := 0x6A
abbrev CAP_CFG_REFUSED : Src := 0x6B
abbrev CAP_DONE : Src := 0x6C
abbrev OV3_TRIP : Src := 0x70
abbrev DCLINK_UV : Src := 0x71
abbrev DEBUG_SPLIT : Src := 0x72
abbrev SAFE_CFG_REFUSED : Src := 0x73
abbrev SF_CFG_REFUSED : Src := 0x74
abbrev SF_DEMAND : Src := 0x75
abbrev SS1_STOP : Src := 0x76
abbrev SF_BOUND_EXCEEDED : Src := 0x77
abbrev LOCKOUT_RESET : Src := 0x78
abbrev LOCKOUT_RESET_REFUSED : Src := 0x79
abbrev LOCKOUT_RESET_TIMEOUT : Src := 0x7A
abbrev SCH_ERROR : Src := 0x80
abbrev SCH_FAULT : Src := 0x81
abbrev SCH_REARM_REFUSED : Src := 0x82
abbrev SCH_CFG_REFUSED : Src := 0x83
abbrev CELLAR_DONE : Src := 0x88
abbrev CEL_CMD_REFUSED : Src := 0x89
abbrev CEL_LOCK_VIOLATION : Src := 0x8A
abbrev VINTAGE_NVS_LOST : Src := 0x8B
abbrev TAG_LOST : Src := 0x8C
abbrev TAG_AUTH_FAIL : Src := 0x8D
abbrev TAG_SWAP : Src := 0x8E
abbrev TAG_LIFE_FOREIGN : Src := 0x8F
abbrev TAG_CFG_REFUSED : Src := 0x90
abbrev MACSEC_PN_LOW : Src := 0x91
abbrev NVS_DONE : Src := 0x98
abbrev NVS_UNCORR : Src := 0x99
abbrev NVS_WRITE_REFUSED : Src := 0x9A
abbrev NVS_QFULL : Src := 0x9B
abbrev PORT_CFG_REFUSED : Src := 0xA0
abbrev LINK_DMA_ERROR : Src := 0xA1
abbrev MTB_REFUSED : Src := 0xA2
abbrev MTB_BUSY : Src := 0xA3
abbrev MTB_NORESP : Src := 0xA4
abbrev AXL_ROLE_ERR : Src := 0xA5
abbrev AXL_DOWN : Src := 0xA6
abbrev AXL_TIME_REFUSED : Src := 0xA7
abbrev AXL_SWITCH : Src := 0xA8
abbrev AXL_SLOT_LOST : Src := 0xA9
abbrev AXL_SLOT_LATE : Src := 0xAA
abbrev AXL_CFG_REFUSED : Src := 0xAB
abbrev AXL_BUDGET_LOST : Src := 0xAC
abbrev PORT_RX : Src := 0xAD
abbrev PORT_TX : Src := 0xAE
abbrev SW0 : Src := 0xC0
abbrev DEV_READY : Src := 0xE0
abbrev STARTUP_FAIL : Src := 0xE1
abbrev LANE_RESTART_REFUSED : Src := 0xE2
abbrev RACK_ARMED : Src := 0xE3
abbrev RACK_REFUSED : Src := 0xE4
abbrev RACK_SWITCH : Src := 0xE5
abbrev RACK_COMMIT : Src := 0xE6
abbrev UNRACK : Src := 0xE7
abbrev TRIM_REFUSED : Src := 0xE8
abbrev CHIP_RACK_REFUSED : Src := 0xE9
abbrev CHIP_RACK_COMMIT : Src := 0xEA
abbrev CHIP_UNRACK : Src := 0xEB
abbrev SF_UPDATE_ENTER : Src := 0xEC
abbrev SF_UPDATE_EXIT : Src := 0xED
abbrev HSL_TEST_DONE : Src := 0xEE

end Ev

end Sys2Proof.Machine
end

