-- ==== Sys2Proof/Machine/Fields.lean ====
section
/-! DEFINITION. The fields of the device's registers: offset in the register's space, lowest bit and width,
from the register tables of the spec. -/

namespace Sys2Proof.Machine

/-- A register field: the register's offset in its space, the lowest bit and the number of bits. -/
structure Fld where
  off : Nat
  lo : Nat
  w : Nat
  deriving DecidableEq, Repr

namespace F

/-- LEG_OWN (R14). -/
abbrev LEG_OWN : Fld := ⟨0x100, 0, 32⟩
abbrev LEG_OWN_unit0 : Fld := ⟨0x100, 0, 5⟩
abbrev LEG_OWN_valid0 : Fld := ⟨0x100, 7, 1⟩
abbrev LEG_OWN_unit1 : Fld := ⟨0x100, 8, 5⟩
abbrev LEG_OWN_valid1 : Fld := ⟨0x100, 15, 1⟩
abbrev LEG_OWN_unit2 : Fld := ⟨0x100, 16, 5⟩
abbrev LEG_OWN_valid2 : Fld := ⟨0x100, 23, 1⟩
abbrev LEG_OWN_unit3 : Fld := ⟨0x100, 24, 5⟩
abbrev LEG_OWN_valid3 : Fld := ⟨0x100, 31, 1⟩
/-- FAB_WRR0 (R30). -/
abbrev FAB_WRR0 : Fld := ⟨0x40040000, 0, 32⟩
abbrev FAB_WRR0_ac0 : Fld := ⟨0x40040000, 0, 4⟩
abbrev FAB_WRR0_ac1 : Fld := ⟨0x40040000, 4, 4⟩
abbrev FAB_WRR0_dma0 : Fld := ⟨0x40040000, 8, 4⟩
abbrev FAB_WRR0_dma1 : Fld := ⟨0x40040000, 12, 4⟩
abbrev FAB_WRR0_dma2 : Fld := ⟨0x40040000, 16, 4⟩
abbrev FAB_WRR0_dma3 : Fld := ⟨0x40040000, 20, 4⟩
/-- FAB_WRR1 (R30). -/
abbrev FAB_WRR1 : Fld := ⟨0x40040004, 0, 32⟩
abbrev FAB_WRR1_eth0 : Fld := ⟨0x40040004, 0, 4⟩
abbrev FAB_WRR1_eth1 : Fld := ⟨0x40040004, 4, 4⟩
abbrev FAB_WRR1_eth2 : Fld := ⟨0x40040004, 8, 4⟩
abbrev FAB_WRR1_eth3 : Fld := ⟨0x40040004, 12, 4⟩
abbrev FAB_WRR1_eth4 : Fld := ⟨0x40040004, 16, 4⟩
abbrev FAB_WRR1_eth5 : Fld := ⟨0x40040004, 20, 4⟩
abbrev FAB_WRR1_axl0 : Fld := ⟨0x40040004, 24, 4⟩
abbrev FAB_WRR1_axl1 : Fld := ⟨0x40040004, 28, 4⟩
/-- FAB_WRR2 (R30). -/
abbrev FAB_WRR2 : Fld := ⟨0x40040008, 0, 32⟩
abbrev FAB_WRR2_can0 : Fld := ⟨0x40040008, 0, 4⟩
abbrev FAB_WRR2_can1 : Fld := ⟨0x40040008, 4, 4⟩
abbrev FAB_WRR2_can2 : Fld := ⟨0x40040008, 8, 4⟩
abbrev FAB_WRR2_can3 : Fld := ⟨0x40040008, 12, 4⟩
abbrev FAB_WRR2_can4 : Fld := ⟨0x40040008, 16, 4⟩
abbrev FAB_WRR2_can5 : Fld := ⟨0x40040008, 20, 4⟩
abbrev FAB_WRR2_can6 : Fld := ⟨0x40040008, 24, 4⟩
abbrev FAB_WRR2_can7 : Fld := ⟨0x40040008, 28, 4⟩
/-- FAB_WRR3 (R30). -/
abbrev FAB_WRR3 : Fld := ⟨0x4004000C, 0, 32⟩
abbrev FAB_WRR3_lin0 : Fld := ⟨0x4004000C, 0, 4⟩
abbrev FAB_WRR3_lin1 : Fld := ⟨0x4004000C, 4, 4⟩
/-- FAB_TAGS (R30). -/
abbrev FAB_TAGS : Fld := ⟨0x40040010, 0, 32⟩
abbrev FAB_TAGS_in_use : Fld := ⟨0x40040010, 0, 9⟩
abbrev FAB_TAGS_safety_in_use : Fld := ⟨0x40040010, 16, 5⟩
/-- FAB_STARVE (R30). -/
abbrev FAB_STARVE : Fld := ⟨0x40040014, 0, 32⟩
abbrev FAB_STARVE_master : Fld := ⟨0x40040014, 0, 5⟩
abbrev FAB_STARVE_count : Fld := ⟨0x40040014, 16, 16⟩
/-- BLK_CAUSE (R38). -/
abbrev BLK_CAUSE : Fld := ⟨0x40, 0, 32⟩
abbrev BLK_CAUSE_cause : Fld := ⟨0x40, 0, 8⟩
abbrev BLK_CAUSE_first : Fld := ⟨0x40, 8, 3⟩
abbrev BLK_CAUSE_first_valid : Fld := ⟨0x40, 15, 1⟩
abbrev BLK_CAUSE_ts_invalid : Fld := ⟨0x40, 16, 1⟩
/-- BLK_CAUSE_TS_LO (R38). -/
abbrev BLK_CAUSE_TS_LO : Fld := ⟨0x44, 0, 32⟩
abbrev BLK_CAUSE_TS_LO_ns : Fld := ⟨0x44, 0, 32⟩
/-- BLK_CAUSE_TS_HI (R38). -/
abbrev BLK_CAUSE_TS_HI : Fld := ⟨0x48, 0, 32⟩
abbrev BLK_CAUSE_TS_HI_ns : Fld := ⟨0x48, 0, 32⟩
/-- BLK_CAUSE_CNT (R38). -/
abbrev BLK_CAUSE_CNT : Fld := ⟨0x4C, 0, 32⟩
abbrev BLK_CAUSE_CNT_count : Fld := ⟨0x4C, 0, 16⟩
/-- RGN_CAUSE (R38). -/
abbrev RGN_CAUSE : Fld := ⟨0x40, 0, 32⟩
abbrev RGN_CAUSE_cause : Fld := ⟨0x40, 0, 8⟩
abbrev RGN_CAUSE_first : Fld := ⟨0x40, 8, 3⟩
abbrev RGN_CAUSE_first_valid : Fld := ⟨0x40, 15, 1⟩
abbrev RGN_CAUSE_ts_invalid : Fld := ⟨0x40, 16, 1⟩
/-- RGN_CAUSE_TS_LO (R38). -/
abbrev RGN_CAUSE_TS_LO : Fld := ⟨0x44, 0, 32⟩
abbrev RGN_CAUSE_TS_LO_ns : Fld := ⟨0x44, 0, 32⟩
/-- RGN_CAUSE_TS_HI (R38). -/
abbrev RGN_CAUSE_TS_HI : Fld := ⟨0x48, 0, 32⟩
abbrev RGN_CAUSE_TS_HI_ns : Fld := ⟨0x48, 0, 32⟩
/-- RGN_CAUSE_CNT (R38). -/
abbrev RGN_CAUSE_CNT : Fld := ⟨0x4C, 0, 32⟩
abbrev RGN_CAUSE_CNT_count : Fld := ⟨0x4C, 0, 16⟩
/-- CHIP_CAUSE (R38). -/
abbrev CHIP_CAUSE : Fld := ⟨0x40020040, 0, 32⟩
abbrev CHIP_CAUSE_cause : Fld := ⟨0x40020040, 0, 8⟩
abbrev CHIP_CAUSE_first : Fld := ⟨0x40020040, 8, 3⟩
abbrev CHIP_CAUSE_first_valid : Fld := ⟨0x40020040, 15, 1⟩
abbrev CHIP_CAUSE_ts_invalid : Fld := ⟨0x40020040, 16, 1⟩
/-- CHIP_CAUSE_TS_LO (R38). -/
abbrev CHIP_CAUSE_TS_LO : Fld := ⟨0x40020044, 0, 32⟩
abbrev CHIP_CAUSE_TS_LO_ns : Fld := ⟨0x40020044, 0, 32⟩
/-- CHIP_CAUSE_TS_HI (R38). -/
abbrev CHIP_CAUSE_TS_HI : Fld := ⟨0x40020048, 0, 32⟩
abbrev CHIP_CAUSE_TS_HI_ns : Fld := ⟨0x40020048, 0, 32⟩
/-- CHIP_CAUSE_CNT (R38). -/
abbrev CHIP_CAUSE_CNT : Fld := ⟨0x4002004C, 0, 32⟩
abbrev CHIP_CAUSE_CNT_count : Fld := ⟨0x4002004C, 0, 16⟩
/-- TRL_CTRL (R73). -/
abbrev TRL_CTRL : Fld := ⟨0x40000000, 0, 32⟩
abbrev TRL_CTRL_gm_enable : Fld := ⟨0x40000000, 0, 1⟩
abbrev TRL_CTRL_src : Fld := ⟨0x40000000, 1, 1⟩
abbrev TRL_CTRL_apply : Fld := ⟨0x40000000, 4, 1⟩
/-- TRL_STATUS (R73). -/
abbrev TRL_STATUS : Fld := ⟨0x40000004, 0, 32⟩
abbrev TRL_STATUS_state : Fld := ⟨0x40000004, 0, 3⟩
abbrev TRL_STATUS_port : Fld := ⟨0x40000004, 4, 3⟩
abbrev TRL_STATUS_apply_pending : Fld := ⟨0x40000004, 8, 1⟩
abbrev TRL_STATUS_rephasing : Fld := ⟨0x40000004, 9, 1⟩
/-- TRL_TIME_LO (R73). -/
abbrev TRL_TIME_LO : Fld := ⟨0x40000008, 0, 32⟩
abbrev TRL_TIME_LO_ns : Fld := ⟨0x40000008, 0, 32⟩
/-- TRL_TIME_HI (R73). -/
abbrev TRL_TIME_HI : Fld := ⟨0x4000000C, 0, 32⟩
abbrev TRL_TIME_HI_ns : Fld := ⟨0x4000000C, 0, 32⟩
/-- TRL_TIME_FRAC (R73). -/
abbrev TRL_TIME_FRAC : Fld := ⟨0x40000010, 0, 32⟩
abbrev TRL_TIME_FRAC_frac : Fld := ⟨0x40000010, 0, 16⟩
/-- TRL_OFFSET (R73). -/
abbrev TRL_OFFSET : Fld := ⟨0x40000014, 0, 32⟩
abbrev TRL_OFFSET_ns : Fld := ⟨0x40000014, 0, 32⟩
/-- TRL_HOLD_ERR (R73). -/
abbrev TRL_HOLD_ERR : Fld := ⟨0x40000018, 0, 32⟩
abbrev TRL_HOLD_ERR_ns : Fld := ⟨0x40000018, 0, 32⟩
/-- TRL_HOLD_TIME (R73). -/
abbrev TRL_HOLD_TIME : Fld := ⟨0x4000001C, 0, 32⟩
abbrev TRL_HOLD_TIME_ms : Fld := ⟨0x4000001C, 0, 32⟩
/-- TRL_PERIOD (R73). -/
abbrev TRL_PERIOD : Fld := ⟨0x40000020, 0, 32⟩
abbrev TRL_PERIOD_cycles : Fld := ⟨0x40000020, 0, 18⟩
/-- TRL_EPOCH_LO (R73). -/
abbrev TRL_EPOCH_LO : Fld := ⟨0x40000024, 0, 32⟩
abbrev TRL_EPOCH_LO_ns : Fld := ⟨0x40000024, 0, 32⟩
/-- TRL_EPOCH_HI (R73). -/
abbrev TRL_EPOCH_HI : Fld := ⟨0x40000028, 0, 32⟩
abbrev TRL_EPOCH_HI_ns : Fld := ⟨0x40000028, 0, 32⟩
/-- TRL_SLEW (R73). -/
abbrev TRL_SLEW : Fld := ⟨0x4000002C, 0, 32⟩
abbrev TRL_SLEW_step : Fld := ⟨0x4000002C, 0, 6⟩
/-- TRL_PHASE_ERR (R73). -/
abbrev TRL_PHASE_ERR : Fld := ⟨0x40000030, 0, 32⟩
abbrev TRL_PHASE_ERR_steps : Fld := ⟨0x40000030, 0, 32⟩
/-- TRL_TICK_CNT (R73). -/
abbrev TRL_TICK_CNT : Fld := ⟨0x40000034, 0, 32⟩
abbrev TRL_TICK_CNT_k : Fld := ⟨0x40000034, 0, 32⟩
/-- TRL_PORT (R73). -/
abbrev TRL_PORT : Fld := ⟨0x40000038, 0, 32⟩
abbrev TRL_PORT_enable : Fld := ⟨0x40000038, 0, 6⟩
/-- TRL_ASYM (R73). -/
abbrev TRL_ASYM : Fld := ⟨0x40000040, 0, 32⟩
abbrev TRL_ASYM_asym : Fld := ⟨0x40000040, 0, 16⟩
/-- RGN_PHASE0 (R74). -/
abbrev RGN_PHASE0 : Fld := ⟨0x60, 0, 32⟩
abbrev RGN_PHASE0_compute : Fld := ⟨0x60, 0, 10⟩
abbrev RGN_PHASE0_exchange : Fld := ⟨0x60, 16, 10⟩
/-- RGN_PHASE1 (R74). -/
abbrev RGN_PHASE1 : Fld := ⟨0x64, 0, 32⟩
abbrev RGN_PHASE1_commit : Fld := ⟨0x64, 0, 10⟩
abbrev RGN_PHASE1_commit_point : Fld := ⟨0x64, 16, 10⟩
/-- RGN_SUBTICK (R74). -/
abbrev RGN_SUBTICK : Fld := ⟨0x68, 0, 32⟩
abbrev RGN_SUBTICK_blk0 : Fld := ⟨0x68, 0, 2⟩
abbrev RGN_SUBTICK_blk1 : Fld := ⟨0x68, 2, 2⟩
abbrev RGN_SUBTICK_blk2 : Fld := ⟨0x68, 4, 2⟩
abbrev RGN_SUBTICK_blk3 : Fld := ⟨0x68, 6, 2⟩
/-- BLK_OVR (R67). -/
abbrev BLK_OVR : Fld := ⟨0x50, 0, 32⟩
abbrev BLK_OVR_count : Fld := ⟨0x50, 0, 16⟩
abbrev BLK_OVR_last : Fld := ⟨0x50, 16, 1⟩
abbrev BLK_OVR_max_cycles : Fld := ⟨0x50, 17, 15⟩
/-- BLK_OVR_MAX (R67). -/
abbrev BLK_OVR_MAX : Fld := ⟨0x54, 0, 32⟩
abbrev BLK_OVR_MAX_cycles : Fld := ⟨0x54, 0, 18⟩
/-- LANE_STATUS (R97). -/
abbrev LANE_STATUS : Fld := ⟨0x20, 0, 32⟩
abbrev LANE_STATUS_sat : Fld := ⟨0x20, 0, 1⟩
abbrev LANE_STATUS_ovf : Fld := ⟨0x20, 1, 1⟩
abbrev LANE_STATUS_expu : Fld := ⟨0x20, 2, 1⟩
abbrev LANE_STATUS_evt_late : Fld := ⟨0x20, 3, 1⟩
abbrev LANE_STATUS_addr : Fld := ⟨0x20, 4, 1⟩
abbrev LANE_STATUS_exch_ref : Fld := ⟨0x20, 5, 1⟩
abbrev LANE_STATUS_lim : Fld := ⟨0x20, 8, 1⟩
/-- LANE_STATE (R97). -/
abbrev LANE_STATE : Fld := ⟨0x24, 0, 32⟩
abbrev LANE_STATE_state : Fld := ⟨0x24, 0, 2⟩
abbrev LANE_STATE_wait : Fld := ⟨0x24, 4, 3⟩
abbrev LANE_STATE_slot : Fld := ⟨0x24, 8, 1⟩
abbrev LANE_STATE_tbank : Fld := ⟨0x24, 9, 1⟩
abbrev LANE_STATE_pc : Fld := ⟨0x24, 16, 12⟩
/-- LANE_ENTRY (R97). -/
abbrev LANE_ENTRY : Fld := ⟨0x28, 0, 32⟩
abbrev LANE_ENTRY_a : Fld := ⟨0x28, 0, 12⟩
abbrev LANE_ENTRY_b : Fld := ⟨0x28, 16, 12⟩
/-- LANE_WCET (R152). -/
abbrev LANE_WCET : Fld := ⟨0x2C, 0, 32⟩
abbrev LANE_WCET_a : Fld := ⟨0x2C, 0, 16⟩
abbrev LANE_WCET_b : Fld := ⟨0x2C, 16, 16⟩
/-- LANE_EVC_LIVE (R97). -/
abbrev LANE_EVC_LIVE : Fld := ⟨0x30, 0, 32⟩
abbrev LANE_EVC_LIVE_bits : Fld := ⟨0x30, 0, 32⟩
/-- LANE_EVC_PREV (R97). -/
abbrev LANE_EVC_PREV : Fld := ⟨0x34, 0, 32⟩
abbrev LANE_EVC_PREV_bits : Fld := ⟨0x34, 0, 32⟩
/-- EXCH_CH_A (R105). -/
abbrev EXCH_CH_A : Fld := ⟨0x400, 0, 32⟩
abbrev EXCH_CH_A_producer : Fld := ⟨0x400, 0, 2⟩
abbrev EXCH_CH_A_consumers : Fld := ⟨0x400, 4, 4⟩
abbrev EXCH_CH_A_unit : Fld := ⟨0x400, 8, 5⟩
abbrev EXCH_CH_A_words : Fld := ⟨0x400, 16, 6⟩
abbrev EXCH_CH_A_valid : Fld := ⟨0x400, 31, 1⟩
/-- EXCH_CH_B (R105). -/
abbrev EXCH_CH_B : Fld := ⟨0x800, 0, 32⟩
abbrev EXCH_CH_B_producer : Fld := ⟨0x800, 0, 2⟩
abbrev EXCH_CH_B_consumers : Fld := ⟨0x800, 4, 4⟩
abbrev EXCH_CH_B_unit : Fld := ⟨0x800, 8, 5⟩
abbrev EXCH_CH_B_words : Fld := ⟨0x800, 16, 6⟩
abbrev EXCH_CH_B_valid : Fld := ⟨0x800, 31, 1⟩
/-- LEG_CFG (R185). -/
abbrev LEG_CFG : Fld := ⟨0x0, 0, 32⟩
abbrev LEG_CFG_mode : Fld := ⟨0x0, 0, 3⟩
abbrev LEG_CFG_upd : Fld := ⟨0x0, 4, 2⟩
abbrev LEG_CFG_lock : Fld := ⟨0x0, 8, 1⟩
abbrev LEG_CFG_div : Fld := ⟨0x0, 9, 7⟩
abbrev LEG_CFG_pcsw : Fld := ⟨0x0, 16, 1⟩
/-- LEG_PERIOD (R185). -/
abbrev LEG_PERIOD : Fld := ⟨0x4, 0, 32⟩
abbrev LEG_PERIOD_period : Fld := ⟨0x4, 0, 24⟩
/-- LEG_PHASE (R185). -/
abbrev LEG_PHASE : Fld := ⟨0x8, 0, 32⟩
abbrev LEG_PHASE_offset : Fld := ⟨0x8, 0, 24⟩
/-- LEG_DT (R185). -/
abbrev LEG_DT : Fld := ⟨0xC, 0, 32⟩
abbrev LEG_DT_dt_r : Fld := ⟨0xC, 0, 16⟩
abbrev LEG_DT_dt_f : Fld := ⟨0xC, 16, 16⟩
/-- LEG_HS (R185). -/
abbrev LEG_HS : Fld := ⟨0x10, 0, 32⟩
abbrev LEG_HS_timeout : Fld := ⟨0x10, 0, 12⟩
abbrev LEG_HS_fb_pol : Fld := ⟨0x10, 12, 1⟩
abbrev LEG_HS_flt_pol : Fld := ⟨0x10, 13, 1⟩
abbrev LEG_HS_flt_filt : Fld := ⟨0x10, 16, 8⟩
/-- LEG_MINON (R185). -/
abbrev LEG_MINON : Fld := ⟨0x14, 0, 32⟩
abbrev LEG_MINON_min_on : Fld := ⟨0x14, 0, 16⟩
/-- LEG_STATE (R185). -/
abbrev LEG_STATE : Fld := ⟨0x18, 0, 32⟩
abbrev LEG_STATE_state : Fld := ⟨0x18, 0, 3⟩
abbrev LEG_STATE_drv_h : Fld := ⟨0x18, 4, 1⟩
abbrev LEG_STATE_drv_l : Fld := ⟨0x18, 5, 1⟩
abbrev LEG_STATE_off_h : Fld := ⟨0x18, 6, 1⟩
abbrev LEG_STATE_off_l : Fld := ⟨0x18, 7, 1⟩
abbrev LEG_STATE_next_valid : Fld := ⟨0x18, 8, 1⟩
abbrev LEG_STATE_next_sealed : Fld := ⟨0x18, 9, 1⟩
abbrev LEG_STATE_soft : Fld := ⟨0x18, 10, 1⟩
abbrev LEG_STATE_hsl : Fld := ⟨0x18, 12, 1⟩
/-- LEG_CNT (R185). -/
abbrev LEG_CNT : Fld := ⟨0x1C, 0, 32⟩
abbrev LEG_CNT_c : Fld := ⟨0x1C, 0, 24⟩
/-- LEG_PEFF (R185). -/
abbrev LEG_PEFF : Fld := ⟨0x20, 0, 32⟩
abbrev LEG_PEFF_period : Fld := ⟨0x20, 0, 24⟩
/-- LEG_FAULT (R185). -/
abbrev LEG_FAULT : Fld := ⟨0x24, 0, 32⟩
abbrev LEG_FAULT_cause : Fld := ⟨0x24, 0, 6⟩
abbrev LEG_FAULT_first : Fld := ⟨0x24, 8, 3⟩
abbrev LEG_FAULT_first_valid : Fld := ⟨0x24, 15, 1⟩
abbrev LEG_FAULT_on_h : Fld := ⟨0x24, 16, 1⟩
abbrev LEG_FAULT_on_l : Fld := ⟨0x24, 17, 1⟩
/-- LEG_FAULT_TS_LO (R185). -/
abbrev LEG_FAULT_TS_LO : Fld := ⟨0x28, 0, 32⟩
abbrev LEG_FAULT_TS_LO_ns : Fld := ⟨0x28, 0, 32⟩
/-- LEG_FAULT_TS_HI (R185). -/
abbrev LEG_FAULT_TS_HI : Fld := ⟨0x2C, 0, 32⟩
abbrev LEG_FAULT_TS_HI_ns : Fld := ⟨0x2C, 0, 32⟩
/-- LEG_CNT_A (R185). -/
abbrev LEG_CNT_A : Fld := ⟨0x30, 0, 32⟩
abbrev LEG_CNT_A_xcmd : Fld := ⟨0x30, 0, 16⟩
abbrev LEG_CNT_A_hs_to : Fld := ⟨0x30, 16, 16⟩
/-- LEG_CNT_B (R185). -/
abbrev LEG_CNT_B : Fld := ⟨0x34, 0, 32⟩
abbrev LEG_CNT_B_ovr : Fld := ⟨0x34, 0, 16⟩
abbrev LEG_CNT_B_nonowner : Fld := ⟨0x34, 16, 16⟩
/-- LEG_TRIPS (R185). -/
abbrev LEG_TRIPS : Fld := ⟨0x38, 0, 32⟩
abbrev LEG_TRIPS_trip : Fld := ⟨0x38, 0, 16⟩
abbrev LEG_TRIPS_hard : Fld := ⟨0x38, 16, 16⟩
/-- LEG_EDGES_H (R185). -/
abbrev LEG_EDGES_H : Fld := ⟨0x3C, 0, 32⟩
abbrev LEG_EDGES_H_count : Fld := ⟨0x3C, 0, 32⟩
/-- LEG_EDGES_L (R185). -/
abbrev LEG_EDGES_L : Fld := ⟨0x40, 0, 32⟩
abbrev LEG_EDGES_L_count : Fld := ⟨0x40, 0, 32⟩
/-- LEG_GUARD (R185). -/
abbrev LEG_GUARD : Fld := ⟨0x44, 0, 32⟩
abbrev LEG_GUARD_fb_en_h : Fld := ⟨0x44, 0, 1⟩
abbrev LEG_GUARD_fb_en_l : Fld := ⟨0x44, 1, 1⟩
/-- LEG_DIRECT (R185). -/
abbrev LEG_DIRECT : Fld := ⟨0x48, 0, 32⟩
abbrev LEG_DIRECT_pump_en : Fld := ⟨0x48, 0, 1⟩
abbrev LEG_DIRECT_boot_ok : Fld := ⟨0x48, 8, 1⟩
abbrev LEG_DIRECT_boot_uv_cnt : Fld := ⟨0x48, 16, 16⟩
/-- LEG_CBC (R185). -/
abbrev LEG_CBC : Fld := ⟨0x4C, 0, 32⟩
abbrev LEG_CBC_count : Fld := ⟨0x4C, 0, 32⟩
/-- LEG_CUR (R185). -/
abbrev LEG_CUR : Fld := ⟨0x50, 0, 32⟩
abbrev LEG_CUR_w : Fld := ⟨0x50, 0, 32⟩
/-- LEG_NEXT (R185). -/
abbrev LEG_NEXT : Fld := ⟨0x60, 0, 32⟩
abbrev LEG_NEXT_w : Fld := ⟨0x60, 0, 32⟩
/-- HSL_DTFLOOR (R165). -/
abbrev HSL_DTFLOOR : Fld := ⟨0x40020100, 0, 32⟩
abbrev HSL_DTFLOOR_floor : Fld := ⟨0x40020100, 0, 16⟩
/-- LEG_CMP (R220). -/
abbrev LEG_CMP : Fld := ⟨0x80, 0, 32⟩
abbrev LEG_CMP_t_en : Fld := ⟨0x80, 0, 1⟩
abbrev LEG_CMP_t_pol : Fld := ⟨0x80, 1, 1⟩
abbrev LEG_CMP_h_pol : Fld := ⟨0x80, 2, 1⟩
abbrev LEG_CMP_t_latch : Fld := ⟨0x80, 3, 1⟩
abbrev LEG_CMP_blank_src : Fld := ⟨0x80, 4, 2⟩
abbrev LEG_CMP_blank : Fld := ⟨0x80, 8, 9⟩
/-- LEG_TDAC (R220). -/
abbrev LEG_TDAC : Fld := ⟨0x84, 0, 32⟩
abbrev LEG_TDAC_code : Fld := ⟨0x84, 0, 10⟩
/-- LEG_HDAC (R220). -/
abbrev LEG_HDAC : Fld := ⟨0x88, 0, 32⟩
abbrev LEG_HDAC_code : Fld := ⟨0x88, 0, 10⟩
/-- LEG_SLOPE (R220). -/
abbrev LEG_SLOPE : Fld := ⟨0x8C, 0, 32⟩
abbrev LEG_SLOPE_slope : Fld := ⟨0x8C, 0, 12⟩
/-- LEG_CMPSTAT (R220). -/
abbrev LEG_CMPSTAT : Fld := ⟨0x90, 0, 32⟩
abbrev LEG_CMPSTAT_t_out : Fld := ⟨0x90, 0, 1⟩
abbrev LEG_CMPSTAT_h_out : Fld := ⟨0x90, 1, 1⟩
abbrev LEG_CMPSTAT_blanked : Fld := ⟨0x90, 2, 1⟩
abbrev LEG_CMPSTAT_thr : Fld := ⟨0x90, 16, 10⟩
/-- ADC_SEQ_CFG (R221). -/
abbrev ADC_SEQ_CFG : Fld := ⟨0x1000, 0, 32⟩
abbrev ADC_SEQ_CFG_trig : Fld := ⟨0x1000, 0, 3⟩
abbrev ADC_SEQ_CFG_leg : Fld := ⟨0x1000, 4, 5⟩
abbrev ADC_SEQ_CFG_bnd : Fld := ⟨0x1000, 9, 2⟩
abbrev ADC_SEQ_CFG_delay : Fld := ⟨0x1000, 16, 12⟩
abbrev ADC_SEQ_CFG_n : Fld := ⟨0x1000, 28, 3⟩
abbrev ADC_SEQ_CFG_sw : Fld := ⟨0x1000, 31, 1⟩
/-- ADC_SEQ_STAT (R221). -/
abbrev ADC_SEQ_STAT : Fld := ⟨0x1004, 0, 32⟩
abbrev ADC_SEQ_STAT_count : Fld := ⟨0x1004, 0, 16⟩
abbrev ADC_SEQ_STAT_lost : Fld := ⟨0x1004, 16, 8⟩
abbrev ADC_SEQ_STAT_max_delay : Fld := ⟨0x1004, 24, 8⟩
/-- ADC_SEQ_ENT (R221). -/
abbrev ADC_SEQ_ENT : Fld := ⟨0x1010, 0, 32⟩
abbrev ADC_SEQ_ENT_ch : Fld := ⟨0x1010, 0, 5⟩
abbrev ADC_SEQ_ENT_gain : Fld := ⟨0x1010, 8, 1⟩
abbrev ADC_SEQ_ENT_zero : Fld := ⟨0x1010, 16, 14⟩
/-- SD_CLK (R222). -/
abbrev SD_CLK : Fld := ⟨0x1200, 0, 32⟩
abbrev SD_CLK_div0 : Fld := ⟨0x1200, 0, 8⟩
abbrev SD_CLK_div1 : Fld := ⟨0x1200, 8, 8⟩
abbrev SD_CLK_run0 : Fld := ⟨0x1200, 16, 1⟩
abbrev SD_CLK_run1 : Fld := ⟨0x1200, 17, 1⟩
/-- SD_CFG (R222). -/
abbrev SD_CFG : Fld := ⟨0x1240, 0, 32⟩
abbrev SD_CFG_en : Fld := ⟨0x1240, 0, 1⟩
abbrev SD_CFG_clk : Fld := ⟨0x1240, 1, 1⟩
abbrev SD_CFG_align : Fld := ⟨0x1240, 2, 1⟩
abbrev SD_CFG_blk : Fld := ⟨0x1240, 4, 2⟩
abbrev SD_CFG_cond : Fld := ⟨0x1240, 6, 1⟩
abbrev SD_CFG_osr : Fld := ⟨0x1240, 7, 9⟩
abbrev SD_CFG_dly : Fld := ⟨0x1240, 16, 3⟩
abbrev SD_CFG_osr1 : Fld := ⟨0x1240, 24, 6⟩
abbrev SD_CFG_oc_en : Fld := ⟨0x1240, 31, 1⟩
/-- SD_OC (R222). -/
abbrev SD_OC : Fld := ⟨0x1280, 0, 32⟩
abbrev SD_OC_thr : Fld := ⟨0x1280, 0, 15⟩
/-- SD_OCMASK (R222). -/
abbrev SD_OCMASK : Fld := ⟨0x12C0, 0, 32⟩
abbrev SD_OCMASK_legs : Fld := ⟨0x12C0, 0, 32⟩
/-- SD_STAT (R222). -/
abbrev SD_STAT : Fld := ⟨0x1300, 0, 32⟩
abbrev SD_STAT_stuck : Fld := ⟨0x1300, 0, 16⟩
abbrev SD_STAT_oc : Fld := ⟨0x1300, 16, 16⟩
/-- WIN_CFG (R223). -/
abbrev WIN_CFG : Fld := ⟨0x1400, 0, 32⟩
abbrev WIN_CFG_en : Fld := ⟨0x1400, 0, 1⟩
abbrev WIN_CFG_pol : Fld := ⟨0x1400, 1, 1⟩
abbrev WIN_CFG_latch : Fld := ⟨0x1400, 2, 1⟩
abbrev WIN_CFG_cond : Fld := ⟨0x1400, 3, 1⟩
abbrev WIN_CFG_hsl : Fld := ⟨0x1400, 4, 1⟩
abbrev WIN_CFG_src : Fld := ⟨0x1400, 8, 7⟩
abbrev WIN_CFG_leg : Fld := ⟨0x1400, 16, 5⟩
abbrev WIN_CFG_filt : Fld := ⟨0x1400, 24, 8⟩
/-- WIN_DAC (R223). -/
abbrev WIN_DAC : Fld := ⟨0x1404, 0, 32⟩
abbrev WIN_DAC_code : Fld := ⟨0x1404, 0, 10⟩
/-- WIN_STAT (R223). -/
abbrev WIN_STAT : Fld := ⟨0x1408, 0, 32⟩
abbrev WIN_STAT_out : Fld := ⟨0x1408, 0, 1⟩
abbrev WIN_STAT_latched : Fld := ⟨0x1408, 1, 1⟩
abbrev WIN_STAT_count : Fld := ⟨0x1408, 16, 16⟩
/-- RGN_ZCD (R223). -/
abbrev RGN_ZCD : Fld := ⟨0x1500, 0, 32⟩
abbrev RGN_ZCD_win : Fld := ⟨0x1500, 0, 4⟩
abbrev RGN_ZCD_blank : Fld := ⟨0x1500, 8, 8⟩
abbrev RGN_ZCD_en : Fld := ⟨0x1500, 16, 1⟩
/-- RGN_RB_CTRL (R223). -/
abbrev RGN_RB_CTRL : Fld := ⟨0x1600, 0, 32⟩
abbrev RGN_RB_CTRL_timeout : Fld := ⟨0x1600, 0, 8⟩
/-- RGN_RB_STAT (R223). -/
abbrev RGN_RB_STAT : Fld := ⟨0x1604, 0, 32⟩
abbrev RGN_RB_STAT_passes : Fld := ⟨0x1604, 0, 16⟩
abbrev RGN_RB_STAT_fails : Fld := ⟨0x1604, 16, 16⟩
/-- RGN_RB_FAIL0 (R223). -/
abbrev RGN_RB_FAIL0 : Fld := ⟨0x1608, 0, 32⟩
abbrev RGN_RB_FAIL0_trip : Fld := ⟨0x1608, 0, 32⟩
/-- RGN_RB_FAIL1 (R223). -/
abbrev RGN_RB_FAIL1 : Fld := ⟨0x160C, 0, 32⟩
abbrev RGN_RB_FAIL1_hard : Fld := ⟨0x160C, 0, 32⟩
/-- RGN_RB_FAIL2 (R223). -/
abbrev RGN_RB_FAIL2 : Fld := ⟨0x1610, 0, 32⟩
abbrev RGN_RB_FAIL2_win : Fld := ⟨0x1610, 0, 16⟩
/-- RGN_ADCCHK (R223). -/
abbrev RGN_ADCCHK : Fld := ⟨0x1614, 0, 32⟩
abbrev RGN_ADCCHK_fail : Fld := ⟨0x1614, 0, 4⟩
abbrev RGN_ADCCHK_starved : Fld := ⟨0x1614, 8, 4⟩
/-- WG_CFG (R247). -/
abbrev WG_CFG : Fld := ⟨0x1800, 0, 32⟩
abbrev WG_CFG_en : Fld := ⟨0x1800, 0, 1⟩
abbrev WG_CFG_sp : Fld := ⟨0x1800, 1, 2⟩
abbrev WG_CFG_t_win : Fld := ⟨0x1800, 16, 16⟩
/-- WG_STAT (R247). -/
abbrev WG_STAT : Fld := ⟨0x1804, 0, 32⟩
abbrev WG_STAT_scale : Fld := ⟨0x1804, 0, 17⟩
abbrev WG_STAT_limited : Fld := ⟨0x1804, 17, 1⟩
abbrev WG_STAT_infeasible : Fld := ⟨0x1804, 18, 1⟩
/-- WG_CNT (R247). -/
abbrev WG_CNT : Fld := ⟨0x1808, 0, 32⟩
abbrev WG_CNT_count : Fld := ⟨0x1808, 0, 32⟩
/-- WG_WIN (R247). -/
abbrev WG_WIN : Fld := ⟨0x180C, 0, 32⟩
abbrev WG_WIN_win : Fld := ⟨0x180C, 0, 24⟩
/-- FB_CFG (R281). -/
abbrev FB_CFG : Fld := ⟨0x1C00, 0, 32⟩
abbrev FB_CFG_en : Fld := ⟨0x1C00, 0, 1⟩
abbrev FB_CFG_src : Fld := ⟨0x1C00, 1, 2⟩
abbrev FB_CFG_trig : Fld := ⟨0x1C00, 4, 2⟩
abbrev FB_CFG_leg : Fld := ⟨0x1C00, 8, 5⟩
abbrev FB_CFG_blk : Fld := ⟨0x1C00, 13, 2⟩
abbrev FB_CFG_filt : Fld := ⟨0x1C00, 16, 8⟩
abbrev FB_CFG_pp : Fld := ⟨0x1C00, 24, 4⟩
/-- FB_BIND (R281). -/
abbrev FB_BIND : Fld := ⟨0x1C04, 0, 32⟩
abbrev FB_BIND_unit : Fld := ⟨0x1C04, 0, 5⟩
abbrev FB_BIND_en : Fld := ⟨0x1C04, 8, 1⟩
/-- FB_OFS (R281). -/
abbrev FB_OFS : Fld := ⟨0x1C08, 0, 32⟩
abbrev FB_OFS_offset : Fld := ⟨0x1C08, 0, 32⟩
/-- FB_QEP (R281). -/
abbrev FB_QEP : Fld := ⟨0x1C0C, 0, 32⟩
abbrev FB_QEP_lines : Fld := ⟨0x1C0C, 0, 16⟩
abbrev FB_QEP_idx_mode : Fld := ⟨0x1C0C, 16, 2⟩
abbrev FB_QEP_idx_gate : Fld := ⟨0x1C0C, 18, 1⟩
abbrev FB_QEP_dir : Fld := ⟨0x1C0C, 19, 1⟩
/-- FB_IDX (R281). -/
abbrev FB_IDX : Fld := ⟨0x1C10, 0, 32⟩
abbrev FB_IDX_tol : Fld := ⟨0x1C10, 0, 8⟩
/-- FB_IDX_AT (R281). -/
abbrev FB_IDX_AT : Fld := ⟨0x1C14, 0, 32⟩
abbrev FB_IDX_AT_at : Fld := ⟨0x1C14, 0, 32⟩
/-- FB_HALL (R281). -/
abbrev FB_HALL : Fld := ⟨0x1C18, 0, 32⟩
abbrev FB_HALL_map : Fld := ⟨0x1C18, 0, 18⟩
abbrev FB_HALL_interp : Fld := ⟨0x1C18, 20, 1⟩
/-- FB_ZS (R281). -/
abbrev FB_ZS : Fld := ⟨0x1C1C, 0, 32⟩
abbrev FB_ZS_timeout : Fld := ⟨0x1C1C, 0, 24⟩
/-- RES_CFG (R281). -/
abbrev RES_CFG : Fld := ⟨0x1C20, 0, 32⟩
abbrev RES_CFG_adc_s : Fld := ⟨0x1C20, 0, 2⟩
abbrev RES_CFG_adc_c : Fld := ⟨0x1C20, 2, 2⟩
abbrev RES_CFG_ch_s : Fld := ⟨0x1C20, 4, 4⟩
abbrev RES_CFG_ch_c : Fld := ⟨0x1C20, 8, 4⟩
abbrev RES_CFG_phase : Fld := ⟨0x1C20, 16, 12⟩
/-- RES_EXC (R281). -/
abbrev RES_EXC : Fld := ⟨0x1C24, 0, 32⟩
abbrev RES_EXC_half : Fld := ⟨0x1C24, 0, 18⟩
abbrev RES_EXC_amp : Fld := ⟨0x1C24, 20, 9⟩
abbrev RES_EXC_run : Fld := ⟨0x1C24, 31, 1⟩
/-- RES_LOOP (R281). -/
abbrev RES_LOOP : Fld := ⟨0x1C28, 0, 32⟩
abbrev RES_LOOP_bw : Fld := ⟨0x1C28, 0, 12⟩
abbrev RES_LOOP_trk : Fld := ⟨0x1C28, 16, 12⟩
/-- RES_LIM (R281). -/
abbrev RES_LIM : Fld := ⟨0x1C2C, 0, 32⟩
abbrev RES_LIM_amp_lo : Fld := ⟨0x1C2C, 0, 16⟩
abbrev RES_LIM_amp_hi : Fld := ⟨0x1C2C, 16, 16⟩
/-- RES_MON (R281). -/
abbrev RES_MON : Fld := ⟨0x1C30, 0, 32⟩
abbrev RES_MON_amp : Fld := ⟨0x1C30, 0, 16⟩
abbrev RES_MON_err : Fld := ⟨0x1C30, 16, 16⟩
/-- FB_SSI (R281). -/
abbrev FB_SSI : Fld := ⟨0x1C34, 0, 32⟩
abbrev FB_SSI_port : Fld := ⟨0x1C34, 0, 2⟩
abbrev FB_SSI_bits : Fld := ⟨0x1C34, 2, 6⟩
abbrev FB_SSI_st : Fld := ⟨0x1C34, 8, 5⟩
abbrev FB_SSI_mt : Fld := ⟨0x1C34, 13, 5⟩
abbrev FB_SSI_gray : Fld := ⟨0x1C34, 18, 1⟩
abbrev FB_SSI_err_bit : Fld := ⟨0x1C34, 19, 1⟩
abbrev FB_SSI_jump : Fld := ⟨0x1C34, 20, 12⟩
/-- FB_FAULT (R281). -/
abbrev FB_FAULT : Fld := ⟨0x1C38, 0, 32⟩
abbrev FB_FAULT_cause : Fld := ⟨0x1C38, 0, 6⟩
abbrev FB_FAULT_first : Fld := ⟨0x1C38, 8, 3⟩
abbrev FB_FAULT_first_valid : Fld := ⟨0x1C38, 15, 1⟩
/-- FB_FAULT_TS_LO (R281). -/
abbrev FB_FAULT_TS_LO : Fld := ⟨0x1C3C, 0, 32⟩
abbrev FB_FAULT_TS_LO_ns : Fld := ⟨0x1C3C, 0, 32⟩
/-- FB_FAULT_TS_HI (R281). -/
abbrev FB_FAULT_TS_HI : Fld := ⟨0x1C40, 0, 32⟩
abbrev FB_FAULT_TS_HI_ns : Fld := ⟨0x1C40, 0, 32⟩
/-- FB_POS (R281). -/
abbrev FB_POS : Fld := ⟨0x1C44, 0, 32⟩
abbrev FB_POS_angle : Fld := ⟨0x1C44, 0, 32⟩
/-- FB_SPD (R281). -/
abbrev FB_SPD : Fld := ⟨0x1C48, 0, 32⟩
abbrev FB_SPD_speed : Fld := ⟨0x1C48, 0, 32⟩
/-- FB_TURNS (R281). -/
abbrev FB_TURNS : Fld := ⟨0x1C4C, 0, 32⟩
abbrev FB_TURNS_turns : Fld := ⟨0x1C4C, 0, 32⟩
/-- FB_ERR_A (R281). -/
abbrev FB_ERR_A : Fld := ⟨0x1C50, 0, 32⟩
abbrev FB_ERR_A_hall_inv : Fld := ⟨0x1C50, 0, 16⟩
abbrev FB_ERR_A_hall_skip : Fld := ⟨0x1C50, 16, 16⟩
/-- FB_ERR_B (R281). -/
abbrev FB_ERR_B : Fld := ⟨0x1C54, 0, 32⟩
abbrev FB_ERR_B_qep_ill : Fld := ⟨0x1C54, 0, 16⟩
abbrev FB_ERR_B_qep_idx : Fld := ⟨0x1C54, 16, 16⟩
/-- FB_ERR_C (R281). -/
abbrev FB_ERR_C : Fld := ⟨0x1C58, 0, 32⟩
abbrev FB_ERR_C_res_skip : Fld := ⟨0x1C58, 0, 16⟩
abbrev FB_ERR_C_ssi_err : Fld := ⟨0x1C58, 16, 16⟩
/-- PRB_CFG (R282). -/
abbrev PRB_CFG : Fld := ⟨0x1D00, 0, 32⟩
abbrev PRB_CFG_en : Fld := ⟨0x1D00, 0, 1⟩
abbrev PRB_CFG_edge : Fld := ⟨0x1D00, 1, 2⟩
abbrev PRB_CFG_ch : Fld := ⟨0x1D00, 3, 1⟩
abbrev PRB_CFG_slot : Fld := ⟨0x1D00, 4, 1⟩
abbrev PRB_CFG_filt : Fld := ⟨0x1D00, 8, 8⟩
/-- PRB_POS (R282). -/
abbrev PRB_POS : Fld := ⟨0x1D04, 0, 32⟩
abbrev PRB_POS_angle : Fld := ⟨0x1D04, 0, 32⟩
/-- PRB_TS_LO (R282). -/
abbrev PRB_TS_LO : Fld := ⟨0x1D08, 0, 32⟩
abbrev PRB_TS_LO_ns : Fld := ⟨0x1D08, 0, 32⟩
/-- PRB_TS_HI (R282). -/
abbrev PRB_TS_HI : Fld := ⟨0x1D0C, 0, 32⟩
abbrev PRB_TS_HI_ns : Fld := ⟨0x1D0C, 0, 32⟩
/-- PRB_STAT (R282). -/
abbrev PRB_STAT : Fld := ⟨0x1D10, 0, 32⟩
abbrev PRB_STAT_new : Fld := ⟨0x1D10, 0, 1⟩
abbrev PRB_STAT_ovf : Fld := ⟨0x1D10, 1, 1⟩
abbrev PRB_STAT_count : Fld := ⟨0x1D10, 16, 16⟩
/-- SHD_CFG (R301). -/
abbrev SHD_CFG : Fld := ⟨0x1A00, 0, 32⟩
abbrev SHD_CFG_en : Fld := ⟨0x1A00, 0, 1⟩
abbrev SHD_CFG_step_all : Fld := ⟨0x1A00, 1, 1⟩
abbrev SHD_CFG_win_en : Fld := ⟨0x1A00, 2, 1⟩
abbrev SHD_CFG_rate_en : Fld := ⟨0x1A00, 3, 1⟩
abbrev SHD_CFG_unit : Fld := ⟨0x1A00, 4, 5⟩
abbrev SHD_CFG_win : Fld := ⟨0x1A00, 12, 4⟩
abbrev SHD_CFG_ramp : Fld := ⟨0x1A00, 16, 5⟩
abbrev SHD_CFG_holdoff : Fld := ⟨0x1A00, 24, 8⟩
/-- SHD_LEGS (R301). -/
abbrev SHD_LEGS : Fld := ⟨0x1A04, 0, 32⟩
abbrev SHD_LEGS_legs : Fld := ⟨0x1A04, 0, 32⟩
/-- SHD_THR (R301). -/
abbrev SHD_THR : Fld := ⟨0x1A08, 0, 32⟩
abbrev SHD_THR_shed : Fld := ⟨0x1A08, 0, 10⟩
abbrev SHD_THR_add : Fld := ⟨0x1A08, 16, 10⟩
/-- SHD_THR2 (R301). -/
abbrev SHD_THR2 : Fld := ⟨0x1A0C, 0, 32⟩
abbrev SHD_THR2_rate : Fld := ⟨0x1A0C, 0, 10⟩
abbrev SHD_THR2_dwell : Fld := ⟨0x1A0C, 16, 8⟩
abbrev SHD_THR2_n_min : Fld := ⟨0x1A0C, 24, 5⟩
/-- SHD_STAT (R301). -/
abbrev SHD_STAT : Fld := ⟨0x1A10, 0, 32⟩
abbrev SHD_STAT_n_act : Fld := ⟨0x1A10, 0, 5⟩
abbrev SHD_STAT_state : Fld := ⟨0x1A10, 8, 2⟩
abbrev SHD_STAT_j : Fld := ⟨0x1A10, 16, 5⟩
abbrev SHD_STAT_leg : Fld := ⟨0x1A10, 24, 5⟩
/-- SHD_CNT (R301). -/
abbrev SHD_CNT : Fld := ⟨0x1A14, 0, 32⟩
abbrev SHD_CNT_sheds : Fld := ⟨0x1A14, 0, 16⟩
abbrev SHD_CNT_aborts : Fld := ⟨0x1A14, 16, 16⟩
/-- SHD_ACT (R301). -/
abbrev SHD_ACT : Fld := ⟨0x1A18, 0, 32⟩
abbrev SHD_ACT_legs : Fld := ⟨0x1A18, 0, 32⟩
/-- HSL_OV3SRC (R319). -/
abbrev HSL_OV3SRC : Fld := ⟨0x40020300, 0, 32⟩
abbrev HSL_OV3SRC_mask : Fld := ⟨0x40020300, 0, 16⟩
/-- HSL_OV3ACT (R319). -/
abbrev HSL_OV3ACT : Fld := ⟨0x40020310, 0, 32⟩
abbrev HSL_OV3ACT_act : Fld := ⟨0x40020310, 0, 32⟩
/-- HSL_OV3SEL (R319). -/
abbrev HSL_OV3SEL : Fld := ⟨0x40020318, 0, 32⟩
abbrev HSL_OV3SEL_off : Fld := ⟨0x40020318, 0, 32⟩
/-- HSL_OV3CFG (R319). -/
abbrev HSL_OV3CFG : Fld := ⟨0x4002031C, 0, 32⟩
abbrev HSL_OV3CFG_hold : Fld := ⟨0x4002031C, 0, 8⟩
abbrev HSL_OV3CFG_release : Fld := ⟨0x4002031C, 16, 8⟩
/-- HSL_OV3STAT (R319). -/
abbrev HSL_OV3STAT : Fld := ⟨0x40020320, 0, 32⟩
abbrev HSL_OV3STAT_active : Fld := ⟨0x40020320, 0, 1⟩
abbrev HSL_OV3STAT_count : Fld := ⟨0x40020320, 16, 16⟩
/-- HSL_OV3_TS_LO (R319). -/
abbrev HSL_OV3_TS_LO : Fld := ⟨0x40020324, 0, 32⟩
abbrev HSL_OV3_TS_LO_ns : Fld := ⟨0x40020324, 0, 32⟩
/-- HSL_OV3_TS_HI (R319). -/
abbrev HSL_OV3_TS_HI : Fld := ⟨0x40020328, 0, 32⟩
abbrev HSL_OV3_TS_HI_ns : Fld := ⟨0x40020328, 0, 32⟩
/-- HSL_SAFE (R339). -/
abbrev HSL_SAFE : Fld := ⟨0x40020400, 0, 32⟩
abbrev HSL_SAFE_kind : Fld := ⟨0x40020400, 0, 2⟩
abbrev HSL_SAFE_asc_high : Fld := ⟨0x40020400, 2, 1⟩
abbrev HSL_SAFE_unlock : Fld := ⟨0x40020400, 3, 1⟩
abbrev HSL_SAFE_t1 : Fld := ⟨0x40020400, 4, 12⟩
abbrev HSL_SAFE_lock_hard : Fld := ⟨0x40020400, 16, 1⟩
abbrev HSL_SAFE_lock_n : Fld := ⟨0x40020400, 17, 3⟩
abbrev HSL_SAFE_asc_step : Fld := ⟨0x40020400, 24, 8⟩
/-- HSL_UFIN (R340). -/
abbrev HSL_UFIN : Fld := ⟨0x40020480, 0, 32⟩
abbrev HSL_UFIN_sig_en : Fld := ⟨0x40020480, 0, 1⟩
abbrev HSL_UFIN_rb_en : Fld := ⟨0x40020480, 1, 1⟩
/-- HSL_SOFTSLOT (R341). -/
abbrev HSL_SOFTSLOT : Fld := ⟨0x40020500, 0, 32⟩
abbrev HSL_SOFTSLOT_unit : Fld := ⟨0x40020500, 0, 5⟩
abbrev HSL_SOFTSLOT_valid : Fld := ⟨0x40020500, 7, 1⟩
/-- UNIT_CFG (R342). -/
abbrev UNIT_CFG : Fld := ⟨0x2000, 0, 32⟩
abbrev UNIT_CFG_class : Fld := ⟨0x2000, 0, 4⟩
abbrev UNIT_CFG_en_to : Fld := ⟨0x2000, 8, 8⟩
abbrev UNIT_CFG_quiet : Fld := ⟨0x2000, 16, 16⟩
/-- UNIT_CTRL (R342). -/
abbrev UNIT_CTRL : Fld := ⟨0x2004, 0, 32⟩
abbrev UNIT_CTRL_enable : Fld := ⟨0x2004, 0, 1⟩
abbrev UNIT_CTRL_disable : Fld := ⟨0x2004, 1, 1⟩
abbrev UNIT_CTRL_asc_exit : Fld := ⟨0x2004, 2, 1⟩
abbrev UNIT_CTRL_release : Fld := ⟨0x2004, 3, 1⟩
/-- UNIT_STAT (R343). -/
abbrev UNIT_STAT : Fld := ⟨0x2008, 0, 32⟩
abbrev UNIT_STAT_state : Fld := ⟨0x2008, 0, 3⟩
abbrev UNIT_STAT_action : Fld := ⟨0x2008, 4, 3⟩
abbrev UNIT_STAT_window : Fld := ⟨0x2008, 8, 1⟩
abbrev UNIT_STAT_hsl : Fld := ⟨0x2008, 9, 1⟩
abbrev UNIT_STAT_lock_pend : Fld := ⟨0x2008, 10, 1⟩
abbrev UNIT_STAT_fault : Fld := ⟨0x2008, 11, 1⟩
abbrev UNIT_STAT_ovr : Fld := ⟨0x2008, 12, 1⟩
abbrev UNIT_STAT_limited : Fld := ⟨0x2008, 13, 1⟩
/-- UNIT_CAUSE (R342). -/
abbrev UNIT_CAUSE : Fld := ⟨0x200C, 0, 32⟩
abbrev UNIT_CAUSE_cause : Fld := ⟨0x200C, 0, 9⟩
abbrev UNIT_CAUSE_first : Fld := ⟨0x200C, 12, 4⟩
abbrev UNIT_CAUSE_first_valid : Fld := ⟨0x200C, 16, 1⟩
/-- UNIT_ATTR (R342). -/
abbrev UNIT_ATTR : Fld := ⟨0x2010, 0, 32⟩
abbrev UNIT_ATTR_leg : Fld := ⟨0x2010, 0, 7⟩
abbrev UNIT_ATTR_side : Fld := ⟨0x2010, 8, 2⟩
/-- UNIT_CAUSE_TS_LO (R342). -/
abbrev UNIT_CAUSE_TS_LO : Fld := ⟨0x2014, 0, 32⟩
abbrev UNIT_CAUSE_TS_LO_ns : Fld := ⟨0x2014, 0, 32⟩
/-- UNIT_CAUSE_TS_HI (R342). -/
abbrev UNIT_CAUSE_TS_HI : Fld := ⟨0x2018, 0, 32⟩
abbrev UNIT_CAUSE_TS_HI_ns : Fld := ⟨0x2018, 0, 32⟩
/-- UNIT_CNT (R342). -/
abbrev UNIT_CNT : Fld := ⟨0x201C, 0, 32⟩
abbrev UNIT_CNT_faults : Fld := ⟨0x201C, 0, 16⟩
abbrev UNIT_CNT_refused : Fld := ⟨0x201C, 16, 16⟩
/-- HSL_STAT (R383). -/
abbrev HSL_STAT : Fld := ⟨0x40020000, 0, 32⟩
abbrev HSL_STAT_lockout : Fld := ⟨0x40020000, 0, 1⟩
abbrev HSL_STAT_split : Fld := ⟨0x40020000, 1, 1⟩
abbrev HSL_STAT_debug_split : Fld := ⟨0x40020000, 2, 1⟩
abbrev HSL_STAT_sto_a : Fld := ⟨0x40020000, 4, 1⟩
abbrev HSL_STAT_sto_b : Fld := ⟨0x40020000, 5, 1⟩
abbrev HSL_STAT_safe_ack : Fld := ⟨0x40020000, 6, 1⟩
abbrev HSL_STAT_reset_armed : Fld := ⟨0x40020000, 8, 1⟩
abbrev HSL_STAT_uv : Fld := ⟨0x40020000, 9, 1⟩
/-- HSL_SPLIT (R383). -/
abbrev HSL_SPLIT : Fld := ⟨0x40020004, 0, 32⟩
abbrev HSL_SPLIT_split : Fld := ⟨0x40020004, 0, 1⟩
/-- HSL_TRIP (R383). -/
abbrev HSL_TRIP : Fld := ⟨0x40020050, 0, 32⟩
abbrev HSL_TRIP_cause : Fld := ⟨0x40020050, 0, 10⟩
abbrev HSL_TRIP_first : Fld := ⟨0x40020050, 12, 4⟩
abbrev HSL_TRIP_first_valid : Fld := ⟨0x40020050, 16, 1⟩
/-- HSL_SFFAULT (R383). -/
abbrev HSL_SFFAULT : Fld := ⟨0x40020054, 0, 32⟩
abbrev HSL_SFFAULT_fault : Fld := ⟨0x40020054, 0, 8⟩
/-- HSL_UNLOCK (R383). -/
abbrev HSL_UNLOCK : Fld := ⟨0x40020058, 0, 32⟩
abbrev HSL_UNLOCK_word : Fld := ⟨0x40020058, 0, 32⟩
/-- HSL_RSTAUTH (R383). -/
abbrev HSL_RSTAUTH : Fld := ⟨0x4002005C, 0, 32⟩
abbrev HSL_RSTAUTH_con : Fld := ⟨0x4002005C, 0, 5⟩
abbrev HSL_RSTAUTH_en : Fld := ⟨0x4002005C, 7, 1⟩
/-- HSL_STO (R383). -/
abbrev HSL_STO : Fld := ⟨0x40020200, 0, 32⟩
abbrev HSL_STO_filt : Fld := ⟨0x40020200, 0, 10⟩
abbrev HSL_STO_disc : Fld := ⟨0x40020200, 16, 8⟩
/-- HSL_WD (R383). -/
abbrev HSL_WD : Fld := ⟨0x40020204, 0, 32⟩
abbrev HSL_WD_period : Fld := ⟨0x40020204, 0, 10⟩
abbrev HSL_WD_open : Fld := ⟨0x40020204, 16, 8⟩
/-- HSL_WDCHAL (R383). -/
abbrev HSL_WDCHAL : Fld := ⟨0x40020208, 0, 32⟩
abbrev HSL_WDCHAL_chal : Fld := ⟨0x40020208, 0, 16⟩
abbrev HSL_WDCHAL_count : Fld := ⟨0x40020208, 16, 16⟩
/-- HSL_WDRESP0 (R383). -/
abbrev HSL_WDRESP0 : Fld := ⟨0x4002020C, 0, 32⟩
abbrev HSL_WDRESP0_resp : Fld := ⟨0x4002020C, 0, 16⟩
/-- HSL_WDRESP1 (R383). -/
abbrev HSL_WDRESP1 : Fld := ⟨0x40020210, 0, 32⟩
abbrev HSL_WDRESP1_resp : Fld := ⟨0x40020210, 0, 16⟩
/-- HSL_SAFEOUT (R383). -/
abbrev HSL_SAFEOUT : Fld := ⟨0x40020220, 0, 32⟩
abbrev HSL_SAFEOUT_sf : Fld := ⟨0x40020220, 0, 8⟩
abbrev HSL_SAFEOUT_delay : Fld := ⟨0x40020220, 8, 8⟩
abbrev HSL_SAFEOUT_fb_en : Fld := ⟨0x40020220, 16, 1⟩
abbrev HSL_SAFEOUT_fb_pol : Fld := ⟨0x40020220, 17, 1⟩
abbrev HSL_SAFEOUT_fb_time : Fld := ⟨0x40020220, 18, 6⟩
abbrev HSL_SAFEOUT_req : Fld := ⟨0x40020220, 24, 1⟩
/-- HSL_SAFEOUTSTAT (R383). -/
abbrev HSL_SAFEOUTSTAT : Fld := ⟨0x40020228, 0, 32⟩
abbrev HSL_SAFEOUTSTAT_out : Fld := ⟨0x40020228, 0, 2⟩
abbrev HSL_SAFEOUTSTAT_fb : Fld := ⟨0x40020228, 4, 2⟩
abbrev HSL_SAFEOUTSTAT_mism : Fld := ⟨0x40020228, 16, 16⟩
/-- HSL_SFACT (R383). -/
abbrev HSL_SFACT : Fld := ⟨0x40020240, 0, 32⟩
abbrev HSL_SFACT_act : Fld := ⟨0x40020240, 0, 32⟩
/-- HSL_SFREQ (R383). -/
abbrev HSL_SFREQ : Fld := ⟨0x40020248, 0, 32⟩
abbrev HSL_SFREQ_req : Fld := ⟨0x40020248, 0, 8⟩
/-- HSL_SFDONE (R383). -/
abbrev HSL_SFDONE : Fld := ⟨0x4002024C, 0, 32⟩
abbrev HSL_SFDONE_done : Fld := ⟨0x4002024C, 0, 8⟩
/-- HSL_SFSTAT (R383). -/
abbrev HSL_SFSTAT : Fld := ⟨0x40020250, 0, 32⟩
abbrev HSL_SFSTAT_demand : Fld := ⟨0x40020250, 0, 8⟩
abbrev HSL_SFSTAT_acting : Fld := ⟨0x40020250, 8, 8⟩
abbrev HSL_SFSTAT_pins : Fld := ⟨0x40020250, 16, 1⟩
/-- HSL_UVSRC (R383). -/
abbrev HSL_UVSRC : Fld := ⟨0x40020260, 0, 32⟩
abbrev HSL_UVSRC_mask : Fld := ⟨0x40020260, 0, 16⟩
/-- HSL_UVCFG (R383). -/
abbrev HSL_UVCFG : Fld := ⟨0x40020270, 0, 32⟩
abbrev HSL_UVCFG_trip : Fld := ⟨0x40020270, 0, 1⟩
/-- HSL_SF_CFG (R384). -/
abbrev HSL_SF_CFG : Fld := ⟨0x40020600, 0, 32⟩
abbrev HSL_SF_CFG_type : Fld := ⟨0x40020600, 0, 3⟩
abbrev HSL_SF_CFG_mode : Fld := ⟨0x40020600, 3, 1⟩
abbrev HSL_SF_CFG_pins : Fld := ⟨0x40020600, 4, 1⟩
abbrev HSL_SF_CFG_con_en : Fld := ⟨0x40020600, 5, 1⟩
abbrev HSL_SF_CFG_con : Fld := ⟨0x40020600, 8, 5⟩
/-- HSL_SF_UNITS (R384). -/
abbrev HSL_SF_UNITS : Fld := ⟨0x40020604, 0, 32⟩
abbrev HSL_SF_UNITS_units : Fld := ⟨0x40020604, 0, 32⟩
/-- HSL_SF_P1 (R384). -/
abbrev HSL_SF_P1 : Fld := ⟨0x40020608, 0, 32⟩
abbrev HSL_SF_P1_p1 : Fld := ⟨0x40020608, 0, 32⟩
/-- HSL_SF_P2 (R384). -/
abbrev HSL_SF_P2 : Fld := ⟨0x4002060C, 0, 32⟩
abbrev HSL_SF_P2_p2 : Fld := ⟨0x4002060C, 0, 32⟩
/-- HSL_SF_CEIL (R384). -/
abbrev HSL_SF_CEIL : Fld := ⟨0x40020610, 0, 32⟩
abbrev HSL_SF_CEIL_ceil : Fld := ⟨0x40020610, 0, 24⟩
/-- HSL_SF_WC (R384). -/
abbrev HSL_SF_WC : Fld := ⟨0x40020614, 0, 32⟩
abbrev HSL_SF_WC_wc : Fld := ⟨0x40020614, 0, 32⟩
/-- SCH_STAT (R385). -/
abbrev SCH_STAT : Fld := ⟨0x40050000, 0, 32⟩
abbrev SCH_STAT_unknown : Fld := ⟨0x40050000, 0, 16⟩
abbrev SCH_STAT_faults : Fld := ⟨0x40050000, 16, 16⟩
/-- SCH_CON_CFG (R385). -/
abbrev SCH_CON_CFG : Fld := ⟨0x40050100, 0, 32⟩
abbrev SCH_CON_CFG_en : Fld := ⟨0x40050100, 0, 1⟩
abbrev SCH_CON_CFG_dir : Fld := ⟨0x40050100, 1, 1⟩
abbrev SCH_CON_CFG_accept_ns : Fld := ⟨0x40050100, 2, 1⟩
abbrev SCH_CON_CFG_lock : Fld := ⟨0x40050100, 3, 1⟩
abbrev SCH_CON_CFG_port : Fld := ⟨0x40050100, 4, 5⟩
abbrev SCH_CON_CFG_len : Fld := ⟨0x40050100, 16, 7⟩
abbrev SCH_CON_CFG_div : Fld := ⟨0x40050100, 24, 8⟩
/-- SCH_CON_ID (R385). -/
abbrev SCH_CON_ID : Fld := ⟨0x40050104, 0, 32⟩
abbrev SCH_CON_ID_id : Fld := ⟨0x40050104, 0, 32⟩
/-- SCH_CON_SID (R385). -/
abbrev SCH_CON_SID : Fld := ⟨0x40050108, 0, 32⟩
abbrev SCH_CON_SID_sid : Fld := ⟨0x40050108, 0, 32⟩
/-- SCH_CON_AGE (R385). -/
abbrev SCH_CON_AGE : Fld := ⟨0x4005010C, 0, 32⟩
abbrev SCH_CON_AGE_max_age : Fld := ⟨0x4005010C, 0, 16⟩
abbrev SCH_CON_AGE_skew : Fld := ⟨0x4005010C, 16, 16⟩
/-- SCH_CON_WD (R385). -/
abbrev SCH_CON_WD : Fld := ⟨0x40050110, 0, 32⟩
abbrev SCH_CON_WD_wd : Fld := ⟨0x40050110, 0, 24⟩
/-- SCH_CON_HOLD (R385). -/
abbrev SCH_CON_HOLD : Fld := ⟨0x40050114, 0, 32⟩
abbrev SCH_CON_HOLD_ceiling : Fld := ⟨0x40050114, 0, 16⟩
abbrev SCH_CON_HOLD_peer_err : Fld := ⟨0x40050114, 16, 16⟩
/-- SCH_CON_CTRL (R385). -/
abbrev SCH_CON_CTRL : Fld := ⟨0x40050118, 0, 32⟩
abbrev SCH_CON_CTRL_rearm : Fld := ⟨0x40050118, 0, 1⟩
abbrev SCH_CON_CTRL_reset_req : Fld := ⟨0x40050118, 1, 1⟩
/-- SCH_CON_STAT (R385). -/
abbrev SCH_CON_STAT : Fld := ⟨0x4005011C, 0, 32⟩
abbrev SCH_CON_STAT_state : Fld := ⟨0x4005011C, 0, 2⟩
abbrev SCH_CON_STAT_errs : Fld := ⟨0x4005011C, 4, 2⟩
abbrev SCH_CON_STAT_last_err : Fld := ⟨0x4005011C, 8, 4⟩
abbrev SCH_CON_STAT_fault : Fld := ⟨0x4005011C, 12, 3⟩
abbrev SCH_CON_STAT_toggle : Fld := ⟨0x4005011C, 15, 1⟩
abbrev SCH_CON_STAT_seq : Fld := ⟨0x4005011C, 16, 16⟩
/-- SCH_CON_CNT (R385). -/
abbrev SCH_CON_CNT : Fld := ⟨0x40050120, 0, 32⟩
abbrev SCH_CON_CNT_valid : Fld := ⟨0x40050120, 0, 16⟩
abbrev SCH_CON_CNT_errors : Fld := ⟨0x40050120, 16, 16⟩
/-- SCH_CON_CNT2 (R385). -/
abbrev SCH_CON_CNT2 : Fld := ⟨0x40050124, 0, 32⟩
abbrev SCH_CON_CNT2_excess : Fld := ⟨0x40050124, 0, 16⟩
abbrev SCH_CON_CNT2_faults : Fld := ⟨0x40050124, 16, 16⟩
/-- SCH_CON_AGEV (R385). -/
abbrev SCH_CON_AGEV : Fld := ⟨0x40050128, 0, 32⟩
abbrev SCH_CON_AGEV_age : Fld := ⟨0x40050128, 0, 32⟩
/-- SCH_BUF (R385). -/
abbrev SCH_BUF : Fld := ⟨0x40051000, 0, 32⟩
abbrev SCH_BUF_data : Fld := ⟨0x40051000, 0, 32⟩
/-- CEL_STAT (R388). -/
abbrev CEL_STAT : Fld := ⟨0x40030000, 0, 32⟩
abbrev CEL_STAT_state : Fld := ⟨0x40030000, 0, 3⟩
abbrev CEL_STAT_provisioned : Fld := ⟨0x40030000, 4, 1⟩
abbrev CEL_STAT_field : Fld := ⟨0x40030000, 5, 1⟩
abbrev CEL_STAT_busy : Fld := ⟨0x40030000, 8, 1⟩
abbrev CEL_STAT_locked : Fld := ⟨0x40030000, 9, 1⟩
/-- CEL_CMD (R388). -/
abbrev CEL_CMD : Fld := ⟨0x40030004, 0, 32⟩
abbrev CEL_CMD_op : Fld := ⟨0x40030004, 0, 8⟩
abbrev CEL_CMD_arg : Fld := ⟨0x40030004, 16, 16⟩
/-- CEL_PTR (R388). -/
abbrev CEL_PTR : Fld := ⟨0x40030008, 0, 32⟩
abbrev CEL_PTR_addr : Fld := ⟨0x40030008, 0, 32⟩
/-- CEL_LEN (R388). -/
abbrev CEL_LEN : Fld := ⟨0x4003000C, 0, 32⟩
abbrev CEL_LEN_len : Fld := ⟨0x4003000C, 0, 21⟩
/-- CEL_RES (R388). -/
abbrev CEL_RES : Fld := ⟨0x40030010, 0, 32⟩
abbrev CEL_RES_code : Fld := ⟨0x40030010, 0, 8⟩
abbrev CEL_RES_op : Fld := ⟨0x40030010, 8, 8⟩
abbrev CEL_RES_done : Fld := ⟨0x40030010, 16, 1⟩
/-- CEL_ALARM (R388). -/
abbrev CEL_ALARM : Fld := ⟨0x40030014, 0, 32⟩
abbrev CEL_ALARM_cause : Fld := ⟨0x40030014, 0, 6⟩
/-- CEL_CNT (R388). -/
abbrev CEL_CNT : Fld := ⟨0x40030018, 0, 32⟩
abbrev CEL_CNT_refused : Fld := ⟨0x40030018, 0, 16⟩
abbrev CEL_CNT_verified : Fld := ⟨0x40030018, 16, 16⟩
/-- CEL_VINT (R388). -/
abbrev CEL_VINT : Fld := ⟨0x40030044, 0, 32⟩
abbrev CEL_VINT_v : Fld := ⟨0x40030044, 0, 32⟩
/-- CEL_FLOOR (R388). -/
abbrev CEL_FLOOR : Fld := ⟨0x40030064, 0, 32⟩
abbrev CEL_FLOOR_v : Fld := ⟨0x40030064, 0, 32⟩
/-- CEL_BUMP (R388). -/
abbrev CEL_BUMP : Fld := ⟨0x40030084, 0, 32⟩
abbrev CEL_BUMP_used : Fld := ⟨0x40030084, 0, 7⟩
/-- CEL_SLOTS (R388). -/
abbrev CEL_SLOTS : Fld := ⟨0x400300A0, 0, 32⟩
abbrev CEL_SLOTS_present : Fld := ⟨0x400300A0, 0, 4⟩
abbrev CEL_SLOTS_revoked : Fld := ⟨0x400300A0, 8, 4⟩
/-- TAG_MAP (R411). -/
abbrev TAG_MAP : Fld := ⟨0x40030400, 0, 32⟩
abbrev TAG_MAP_bus : Fld := ⟨0x40030400, 0, 1⟩
abbrev TAG_MAP_addr : Fld := ⟨0x40030400, 4, 4⟩
abbrev TAG_MAP_unit : Fld := ⟨0x40030400, 8, 5⟩
abbrev TAG_MAP_module : Fld := ⟨0x40030400, 16, 4⟩
abbrev TAG_MAP_resp : Fld := ⟨0x40030400, 24, 2⟩
abbrev TAG_MAP_valid : Fld := ⟨0x40030400, 31, 1⟩
/-- TAG_STAT (R411). -/
abbrev TAG_STAT : Fld := ⟨0x40030404, 0, 32⟩
abbrev TAG_STAT_state : Fld := ⟨0x40030404, 0, 3⟩
abbrev TAG_STAT_trust : Fld := ⟨0x40030404, 4, 2⟩
abbrev TAG_STAT_fails : Fld := ⟨0x40030404, 16, 16⟩
/-- TAG_LIFE (R411). -/
abbrev TAG_LIFE : Fld := ⟨0x40030408, 0, 32⟩
abbrev TAG_LIFE_consumed : Fld := ⟨0x40030408, 0, 32⟩
/-- TAG_FACT (R411). -/
abbrev TAG_FACT : Fld := ⟨0x4003040C, 0, 32⟩
abbrev TAG_FACT_factor : Fld := ⟨0x4003040C, 0, 16⟩
abbrev TAG_FACT_alloc : Fld := ⟨0x4003040C, 16, 16⟩
/-- RF_CH (R423). -/
abbrev RF_CH : Fld := ⟨0x1E00, 0, 32⟩
abbrev RF_CH_en : Fld := ⟨0x1E00, 0, 1⟩
abbrev RF_CH_blk : Fld := ⟨0x1E00, 1, 2⟩
abbrev RF_CH_addr : Fld := ⟨0x1E00, 4, 18⟩
abbrev RF_CH_dtmin : Fld := ⟨0x1E00, 24, 8⟩
/-- RF_STAT (R423). -/
abbrev RF_STAT : Fld := ⟨0x1E04, 0, 32⟩
abbrev RF_STAT_cycles : Fld := ⟨0x1E04, 0, 16⟩
abbrev RF_STAT_depth : Fld := ⟨0x1E04, 16, 7⟩
abbrev RF_STAT_ovf : Fld := ⟨0x1E04, 24, 1⟩
/-- RF_CFG (R423). -/
abbrev RF_CFG : Fld := ⟨0x1F00, 0, 32⟩
abbrev RF_CFG_hyst : Fld := ⟨0x1F00, 0, 8⟩
abbrev RF_CFG_dt_w : Fld := ⟨0x1F00, 8, 8⟩
abbrev RF_CFG_tm0 : Fld := ⟨0x1F00, 16, 8⟩
abbrev RF_CFG_tm_w : Fld := ⟨0x1F00, 24, 8⟩
/-- RF_BASE (R423). -/
abbrev RF_BASE : Fld := ⟨0x1F04, 0, 32⟩
abbrev RF_BASE_addr : Fld := ⟨0x1F04, 10, 10⟩
/-- LIFE_HOURS (R428). -/
abbrev LIFE_HOURS : Fld := ⟨0x40030600, 0, 32⟩
abbrev LIFE_HOURS_hours : Fld := ⟨0x40030600, 0, 24⟩
/-- LIFE_KM (R428). -/
abbrev LIFE_KM : Fld := ⟨0x40030604, 0, 32⟩
abbrev LIFE_KM_km : Fld := ⟨0x40030604, 0, 24⟩
/-- LIFE_MARGIN (R428). -/
abbrev LIFE_MARGIN : Fld := ⟨0x40030608, 0, 32⟩
abbrev LIFE_MARGIN_margin : Fld := ⟨0x40030608, 0, 32⟩
/-- LIFE_BAND (R428). -/
abbrev LIFE_BAND : Fld := ⟨0x4003060C, 0, 32⟩
abbrev LIFE_BAND_band : Fld := ⟨0x4003060C, 0, 32⟩
/-- LIFE_FMIN (R428). -/
abbrev LIFE_FMIN : Fld := ⟨0x40030610, 0, 32⟩
abbrev LIFE_FMIN_f_min : Fld := ⟨0x40030610, 0, 16⟩
abbrev LIFE_FMIN_tag_derate : Fld := ⟨0x40030610, 16, 16⟩
/-- BLK_MEMERR (R438). -/
abbrev BLK_MEMERR : Fld := ⟨0x70, 0, 32⟩
abbrev BLK_MEMERR_ce : Fld := ⟨0x70, 0, 16⟩
abbrev BLK_MEMERR_ue_a : Fld := ⟨0x70, 16, 1⟩
abbrev BLK_MEMERR_ue_b : Fld := ⟨0x70, 17, 1⟩
abbrev BLK_MEMERR_ue_data : Fld := ⟨0x70, 18, 1⟩
abbrev BLK_MEMERR_ue_t0 : Fld := ⟨0x70, 19, 1⟩
abbrev BLK_MEMERR_ue_t1 : Fld := ⟨0x70, 20, 1⟩
/-- BLK_MEMERR_ADDR (R438). -/
abbrev BLK_MEMERR_ADDR : Fld := ⟨0x74, 0, 32⟩
abbrev BLK_MEMERR_ADDR_addr : Fld := ⟨0x74, 0, 32⟩
/-- RGN_MEMERR (R438). -/
abbrev RGN_MEMERR : Fld := ⟨0x70, 0, 32⟩
abbrev RGN_MEMERR_ce : Fld := ⟨0x70, 0, 16⟩
abbrev RGN_MEMERR_ue : Fld := ⟨0x70, 16, 16⟩
/-- RGN_MEMERR_ADDR (R438). -/
abbrev RGN_MEMERR_ADDR : Fld := ⟨0x74, 0, 32⟩
abbrev RGN_MEMERR_ADDR_addr : Fld := ⟨0x74, 0, 32⟩
/-- MEM_CHIP (R438). -/
abbrev MEM_CHIP : Fld := ⟨0x40040100, 0, 32⟩
abbrev MEM_CHIP_ce : Fld := ⟨0x40040100, 0, 16⟩
abbrev MEM_CHIP_e2e : Fld := ⟨0x40040100, 16, 16⟩
/-- MEM_CHIP_ADDR (R438). -/
abbrev MEM_CHIP_ADDR : Fld := ⟨0x40040104, 0, 32⟩
abbrev MEM_CHIP_ADDR_addr : Fld := ⟨0x40040104, 0, 32⟩
/-- MEM_SCRUB (R438). -/
abbrev MEM_SCRUB : Fld := ⟨0x40040108, 0, 32⟩
abbrev MEM_SCRUB_period : Fld := ⟨0x40040108, 0, 16⟩
/-- NVS_SUBMIT (R446). -/
abbrev NVS_SUBMIT : Fld := ⟨0x1000, 0, 32⟩
abbrev NVS_SUBMIT_addr : Fld := ⟨0x1000, 0, 32⟩
/-- NVS_STAT (R446). -/
abbrev NVS_STAT : Fld := ⟨0x1004, 0, 32⟩
abbrev NVS_STAT_queued : Fld := ⟨0x1004, 0, 4⟩
abbrev NVS_STAT_busy : Fld := ⟨0x1004, 4, 1⟩
abbrev NVS_STAT_boot_slot : Fld := ⟨0x1004, 8, 1⟩
/-- NVS_CNT (R446). -/
abbrev NVS_CNT : Fld := ⟨0x1008, 0, 32⟩
abbrev NVS_CNT_ce : Fld := ⟨0x1008, 0, 16⟩
abbrev NVS_CNT_bch : Fld := ⟨0x1008, 16, 16⟩
/-- NVS_CNT2 (R446). -/
abbrev NVS_CNT2 : Fld := ⟨0x100C, 0, 32⟩
abbrev NVS_CNT2_ue : Fld := ⟨0x100C, 0, 16⟩
abbrev NVS_CNT2_refused : Fld := ⟨0x100C, 16, 16⟩
/-- NVS_SCRUB (R446). -/
abbrev NVS_SCRUB : Fld := ⟨0x1010, 0, 32⟩
abbrev NVS_SCRUB_interval : Fld := ⟨0x1010, 0, 16⟩
/-- NVS_UE_SECT (R446). -/
abbrev NVS_UE_SECT : Fld := ⟨0x1014, 0, 32⟩
abbrev NVS_UE_SECT_sector : Fld := ⟨0x1014, 0, 16⟩
/-- DMA_PUSH (R451). -/
abbrev DMA_PUSH : Fld := ⟨0x2800, 0, 32⟩
abbrev DMA_PUSH_addr : Fld := ⟨0x2800, 0, 32⟩
/-- DMA_CTRL (R451). -/
abbrev DMA_CTRL : Fld := ⟨0x2804, 0, 32⟩
abbrev DMA_CTRL_resume : Fld := ⟨0x2804, 0, 1⟩
abbrev DMA_CTRL_flush : Fld := ⟨0x2804, 1, 1⟩
/-- DMA_STAT (R451). -/
abbrev DMA_STAT : Fld := ⟨0x2808, 0, 32⟩
abbrev DMA_STAT_queued : Fld := ⟨0x2808, 0, 7⟩
abbrev DMA_STAT_state : Fld := ⟨0x2808, 8, 2⟩
abbrev DMA_STAT_code : Fld := ⟨0x2808, 12, 4⟩
abbrev DMA_STAT_done : Fld := ⟨0x2808, 16, 16⟩
/-- DMA_STAT2 (R451). -/
abbrev DMA_STAT2 : Fld := ⟨0x280C, 0, 32⟩
abbrev DMA_STAT2_qfull : Fld := ⟨0x280C, 0, 16⟩
abbrev DMA_STAT2_errors : Fld := ⟨0x280C, 16, 16⟩
/-- DMA_CUR (R451). -/
abbrev DMA_CUR : Fld := ⟨0x2810, 0, 32⟩
abbrev DMA_CUR_addr : Fld := ⟨0x2810, 0, 32⟩
/-- CAP_CFG (R456). -/
abbrev CAP_CFG : Fld := ⟨0x2900, 0, 32⟩
abbrev CAP_CFG_arm : Fld := ⟨0x2900, 0, 1⟩
abbrev CAP_CFG_soft : Fld := ⟨0x2900, 1, 1⟩
abbrev CAP_CFG_n : Fld := ⟨0x2900, 16, 4⟩
/-- CAP_SMP (R456). -/
abbrev CAP_SMP : Fld := ⟨0x2904, 0, 32⟩
abbrev CAP_SMP_smp : Fld := ⟨0x2904, 0, 2⟩
abbrev CAP_SMP_blk : Fld := ⟨0x2904, 2, 2⟩
abbrev CAP_SMP_leg : Fld := ⟨0x2904, 4, 5⟩
abbrev CAP_SMP_div : Fld := ⟨0x2904, 12, 8⟩
abbrev CAP_SMP_dly : Fld := ⟨0x2904, 20, 12⟩
/-- CAP_TRIG (R456). -/
abbrev CAP_TRIG : Fld := ⟨0x2908, 0, 32⟩
abbrev CAP_TRIG_src : Fld := ⟨0x2908, 0, 2⟩
abbrev CAP_TRIG_win : Fld := ⟨0x2908, 4, 4⟩
abbrev CAP_TRIG_evt : Fld := ⟨0x2908, 8, 8⟩
/-- CAP_LEN (R456). -/
abbrev CAP_LEN : Fld := ⟨0x290C, 0, 32⟩
abbrev CAP_LEN_pre : Fld := ⟨0x290C, 0, 16⟩
abbrev CAP_LEN_post : Fld := ⟨0x290C, 16, 16⟩
/-- CAP_BASE (R456). -/
abbrev CAP_BASE : Fld := ⟨0x2910, 0, 32⟩
abbrev CAP_BASE_addr : Fld := ⟨0x2910, 12, 8⟩
/-- CAP_SEL (R456). -/
abbrev CAP_SEL : Fld := ⟨0x2914, 0, 32⟩
abbrev CAP_SEL_w0 : Fld := ⟨0x2914, 0, 8⟩
abbrev CAP_SEL_w1 : Fld := ⟨0x2914, 8, 8⟩
abbrev CAP_SEL_w2 : Fld := ⟨0x2914, 16, 8⟩
abbrev CAP_SEL_w3 : Fld := ⟨0x2914, 24, 8⟩
/-- CAP_STAT (R456). -/
abbrev CAP_STAT : Fld := ⟨0x2924, 0, 32⟩
abbrev CAP_STAT_state : Fld := ⟨0x2924, 0, 2⟩
/-- CAP_POS (R456). -/
abbrev CAP_POS : Fld := ⟨0x2928, 0, 32⟩
abbrev CAP_POS_start : Fld := ⟨0x2928, 0, 16⟩
abbrev CAP_POS_count : Fld := ⟨0x2928, 16, 16⟩
/-- CAP_POS2 (R456). -/
abbrev CAP_POS2 : Fld := ⟨0x292C, 0, 32⟩
abbrev CAP_POS2_trig : Fld := ⟨0x292C, 0, 16⟩
/-- CAP_TS_LO (R456). -/
abbrev CAP_TS_LO : Fld := ⟨0x2930, 0, 32⟩
abbrev CAP_TS_LO_ns : Fld := ⟨0x2930, 0, 32⟩
/-- CAP_TS_HI (R456). -/
abbrev CAP_TS_HI : Fld := ⟨0x2934, 0, 32⟩
abbrev CAP_TS_HI_ns : Fld := ⟨0x2934, 0, 32⟩
/-- PORT_CTRL (R461). -/
abbrev PORT_CTRL : Fld := ⟨0x0, 0, 32⟩
abbrev PORT_CTRL_en : Fld := ⟨0x0, 0, 1⟩
abbrev PORT_CTRL_loop : Fld := ⟨0x0, 1, 1⟩
/-- PORT_STAT (R461). -/
abbrev PORT_STAT : Fld := ⟨0x4, 0, 32⟩
abbrev PORT_STAT_up : Fld := ⟨0x4, 0, 1⟩
abbrev PORT_STAT_code : Fld := ⟨0x4, 4, 4⟩
/-- PORT_CNT (R461). -/
abbrev PORT_CNT : Fld := ⟨0x8, 0, 32⟩
abbrev PORT_CNT_rx : Fld := ⟨0x8, 0, 16⟩
abbrev PORT_CNT_rx_err : Fld := ⟨0x8, 16, 16⟩
/-- PORT_CNT2 (R461). -/
abbrev PORT_CNT2 : Fld := ⟨0xC, 0, 32⟩
abbrev PORT_CNT2_tx : Fld := ⟨0xC, 0, 16⟩
abbrev PORT_CNT2_tx_err : Fld := ⟨0xC, 16, 16⟩
/-- RING_TXBASE (R461). -/
abbrev RING_TXBASE : Fld := ⟨0x40, 0, 32⟩
abbrev RING_TXBASE_addr : Fld := ⟨0x40, 5, 27⟩
/-- RING_TXLEN (R461). -/
abbrev RING_TXLEN : Fld := ⟨0x44, 0, 32⟩
abbrev RING_TXLEN_len : Fld := ⟨0x44, 0, 11⟩
/-- RING_TXDB (R461). -/
abbrev RING_TXDB : Fld := ⟨0x48, 0, 32⟩
abbrev RING_TXDB_db : Fld := ⟨0x48, 0, 1⟩
/-- RING_RXBASE (R461). -/
abbrev RING_RXBASE : Fld := ⟨0x50, 0, 32⟩
abbrev RING_RXBASE_addr : Fld := ⟨0x50, 5, 27⟩
/-- RING_RXLEN (R461). -/
abbrev RING_RXLEN : Fld := ⟨0x54, 0, 32⟩
abbrev RING_RXLEN_len : Fld := ⟨0x54, 0, 11⟩
/-- RING_RXDB (R461). -/
abbrev RING_RXDB : Fld := ⟨0x58, 0, 32⟩
abbrev RING_RXDB_db : Fld := ⟨0x58, 0, 1⟩
/-- RING_STAT (R461). -/
abbrev RING_STAT : Fld := ⟨0x5C, 0, 32⟩
abbrev RING_STAT_tx : Fld := ⟨0x5C, 0, 10⟩
abbrev RING_STAT_rx : Fld := ⟨0x5C, 16, 10⟩
/-- ETH_CFG (R467). -/
abbrev ETH_CFG : Fld := ⟨0x100, 0, 32⟩
abbrev ETH_CFG_ms : Fld := ⟨0x100, 0, 1⟩
abbrev ETH_CFG_bypass : Fld := ⟨0x100, 8, 1⟩
/-- ETH_MAC_LO (R467). -/
abbrev ETH_MAC_LO : Fld := ⟨0x104, 0, 32⟩
abbrev ETH_MAC_LO_addr : Fld := ⟨0x104, 0, 32⟩
/-- ETH_MAC_HI (R467). -/
abbrev ETH_MAC_HI : Fld := ⟨0x108, 0, 32⟩
abbrev ETH_MAC_HI_addr : Fld := ⟨0x108, 0, 16⟩
/-- ETH_SCH (R467). -/
abbrev ETH_SCH : Fld := ⟨0x10C, 0, 32⟩
abbrev ETH_SCH_etype : Fld := ⟨0x10C, 0, 16⟩
/-- ETH_SCHDST_LO (R467). -/
abbrev ETH_SCHDST_LO : Fld := ⟨0x110, 0, 32⟩
abbrev ETH_SCHDST_LO_addr : Fld := ⟨0x110, 0, 32⟩
/-- ETH_SCHDST_HI (R467). -/
abbrev ETH_SCHDST_HI : Fld := ⟨0x114, 0, 32⟩
abbrev ETH_SCHDST_HI_addr : Fld := ⟨0x114, 0, 16⟩
/-- ETH_PLCA (R467). -/
abbrev ETH_PLCA : Fld := ⟨0x118, 0, 32⟩
abbrev ETH_PLCA_node_id : Fld := ⟨0x118, 0, 8⟩
abbrev ETH_PLCA_node_cnt : Fld := ⟨0x118, 8, 8⟩
abbrev ETH_PLCA_burst : Fld := ⟨0x118, 16, 8⟩
abbrev ETH_PLCA_to : Fld := ⟨0x118, 24, 8⟩
/-- ETH_CNT3 (R467). -/
abbrev ETH_CNT3 : Fld := ⟨0x11C, 0, 32⟩
abbrev ETH_CNT3_long : Fld := ⟨0x11C, 0, 16⟩
abbrev ETH_CNT3_filt : Fld := ⟨0x11C, 16, 16⟩
/-- ETH_MC_LO (R467). -/
abbrev ETH_MC_LO : Fld := ⟨0x140, 0, 32⟩
abbrev ETH_MC_LO_addr : Fld := ⟨0x140, 0, 32⟩
/-- ETH_MC_HI (R467). -/
abbrev ETH_MC_HI : Fld := ⟨0x144, 0, 32⟩
abbrev ETH_MC_HI_addr : Fld := ⟨0x144, 0, 16⟩
abbrev ETH_MC_HI_valid : Fld := ⟨0x144, 31, 1⟩
/-- CAN_CFG (R471). -/
abbrev CAN_CFG : Fld := ⟨0x100, 0, 32⟩
abbrev CAN_CFG_mode : Fld := ⟨0x100, 0, 2⟩
abbrev CAN_CFG_pwm : Fld := ⟨0x100, 4, 1⟩
abbrev CAN_CFG_auto_rec : Fld := ⟨0x100, 5, 1⟩
abbrev CAN_CFG_sch_sdt : Fld := ⟨0x100, 8, 8⟩
/-- CAN_NBT (R471). -/
abbrev CAN_NBT : Fld := ⟨0x104, 0, 32⟩
abbrev CAN_NBT_brp : Fld := ⟨0x104, 0, 8⟩
abbrev CAN_NBT_tseg1 : Fld := ⟨0x104, 8, 8⟩
abbrev CAN_NBT_tseg2 : Fld := ⟨0x104, 16, 7⟩
abbrev CAN_NBT_sjw : Fld := ⟨0x104, 24, 7⟩
/-- CAN_DBT (R471). -/
abbrev CAN_DBT : Fld := ⟨0x108, 0, 32⟩
abbrev CAN_DBT_brp : Fld := ⟨0x108, 0, 5⟩
abbrev CAN_DBT_tseg1 : Fld := ⟨0x108, 8, 5⟩
abbrev CAN_DBT_tseg2 : Fld := ⟨0x108, 16, 4⟩
abbrev CAN_DBT_sjw : Fld := ⟨0x108, 24, 4⟩
/-- CAN_PWM (R471). -/
abbrev CAN_PWM : Fld := ⟨0x10C, 0, 32⟩
abbrev CAN_PWM_pwms : Fld := ⟨0x10C, 0, 6⟩
abbrev CAN_PWM_pwml : Fld := ⟨0x10C, 8, 6⟩
abbrev CAN_PWM_pwmo : Fld := ⟨0x10C, 16, 6⟩
/-- CAN_ERR (R471). -/
abbrev CAN_ERR : Fld := ⟨0x110, 0, 32⟩
abbrev CAN_ERR_tec : Fld := ⟨0x110, 0, 8⟩
abbrev CAN_ERR_rec : Fld := ⟨0x110, 8, 8⟩
abbrev CAN_ERR_state : Fld := ⟨0x110, 16, 2⟩
/-- CAN_FLT_ID (R471). -/
abbrev CAN_FLT_ID : Fld := ⟨0x180, 0, 32⟩
abbrev CAN_FLT_ID_id : Fld := ⟨0x180, 0, 29⟩
/-- CAN_FLT_MASK (R471). -/
abbrev CAN_FLT_MASK : Fld := ⟨0x184, 0, 32⟩
abbrev CAN_FLT_MASK_mask : Fld := ⟨0x184, 0, 29⟩
abbrev CAN_FLT_MASK_en : Fld := ⟨0x184, 31, 1⟩
/-- LIN_CFG (R473). -/
abbrev LIN_CFG : Fld := ⟨0x100, 0, 32⟩
abbrev LIN_CFG_role : Fld := ⟨0x100, 0, 1⟩
abbrev LIN_CFG_rate : Fld := ⟨0x100, 1, 16⟩
abbrev LIN_CFG_brk : Fld := ⟨0x100, 19, 5⟩
/-- LIN_RTAB (R473). -/
abbrev LIN_RTAB : Fld := ⟨0x104, 0, 32⟩
abbrev LIN_RTAB_addr : Fld := ⟨0x104, 4, 28⟩
/-- SSI_CFG (R475). -/
abbrev SSI_CFG : Fld := ⟨0x100, 0, 32⟩
abbrev SSI_CFG_div : Fld := ⟨0x100, 0, 12⟩
abbrev SSI_CFG_dcomp : Fld := ⟨0x100, 12, 8⟩
abbrev SSI_CFG_mono : Fld := ⟨0x100, 20, 8⟩
/-- MTB_CFG (R480). -/
abbrev MTB_CFG : Fld := ⟨0x100, 0, 32⟩
abbrev MTB_CFG_guard : Fld := ⟨0x100, 0, 8⟩
/-- MTB_CMD (R480). -/
abbrev MTB_CMD : Fld := ⟨0x104, 0, 32⟩
abbrev MTB_CMD_op : Fld := ⟨0x104, 0, 4⟩
abbrev MTB_CMD_addr : Fld := ⟨0x104, 4, 4⟩
abbrev MTB_CMD_len : Fld := ⟨0x104, 16, 9⟩
/-- MTB_SCMD (R480). -/
abbrev MTB_SCMD : Fld := ⟨0x108, 0, 32⟩
abbrev MTB_SCMD_op : Fld := ⟨0x108, 0, 4⟩
abbrev MTB_SCMD_addr : Fld := ⟨0x108, 4, 4⟩
abbrev MTB_SCMD_len : Fld := ⟨0x108, 16, 9⟩
/-- MTB_STAT (R480). -/
abbrev MTB_STAT : Fld := ⟨0x10C, 0, 32⟩
abbrev MTB_STAT_busy : Fld := ⟨0x10C, 0, 1⟩
abbrev MTB_STAT_pend : Fld := ⟨0x10C, 1, 1⟩
abbrev MTB_STAT_code : Fld := ⟨0x10C, 4, 4⟩
abbrev MTB_STAT_tstat : Fld := ⟨0x10C, 8, 8⟩
abbrev MTB_STAT_rlen : Fld := ⟨0x10C, 16, 9⟩
/-- MTB_CNT (R480). -/
abbrev MTB_CNT : Fld := ⟨0x110, 0, 32⟩
abbrev MTB_CNT_noresp : Fld := ⟨0x110, 0, 16⟩
abbrev MTB_CNT_crc : Fld := ⟨0x110, 16, 16⟩
/-- AXL_STAT (R492). -/
abbrev AXL_STAT : Fld := ⟨0x100, 0, 32⟩
abbrev AXL_STAT_state : Fld := ⟨0x100, 0, 2⟩
abbrev AXL_STAT_time_src : Fld := ⟨0x100, 4, 1⟩
/-- AXL_ASYM (R492). -/
abbrev AXL_ASYM : Fld := ⟨0x104, 0, 32⟩
abbrev AXL_ASYM_asym : Fld := ⟨0x104, 0, 16⟩
/-- AXL_OWD (R492). -/
abbrev AXL_OWD : Fld := ⟨0x108, 0, 32⟩
abbrev AXL_OWD_owd : Fld := ⟨0x108, 0, 20⟩
/-- AXL_PHERR (R492). -/
abbrev AXL_PHERR : Fld := ⟨0x10C, 0, 32⟩
abbrev AXL_PHERR_err : Fld := ⟨0x10C, 0, 32⟩
/-- AXL_BUDGET (R492). -/
abbrev AXL_BUDGET : Fld := ⟨0x110, 0, 32⟩
abbrev AXL_BUDGET_arr : Fld := ⟨0x110, 0, 18⟩
/-- AXL_CNT (R492). -/
abbrev AXL_CNT : Fld := ⟨0x114, 0, 32⟩
abbrev AXL_CNT_code : Fld := ⟨0x114, 0, 16⟩
abbrev AXL_CNT_crc : Fld := ⟨0x114, 16, 16⟩
/-- AXL_CNT2 (R492). -/
abbrev AXL_CNT2 : Fld := ⟨0x118, 0, 32⟩
abbrev AXL_CNT2_lost : Fld := ⟨0x118, 0, 16⟩
abbrev AXL_CNT2_late : Fld := ⟨0x118, 16, 16⟩
/-- AXL_CNT3 (R492). -/
abbrev AXL_CNT3 : Fld := ⟨0x11C, 0, 32⟩
abbrev AXL_CNT3_retry : Fld := ⟨0x11C, 0, 16⟩
abbrev AXL_CNT3_mmiss : Fld := ⟨0x11C, 16, 16⟩
/-- AXL_SLOT_CFG (R492). -/
abbrev AXL_SLOT_CFG : Fld := ⟨0x200, 0, 32⟩
abbrev AXL_SLOT_CFG_en : Fld := ⟨0x200, 0, 1⟩
abbrev AXL_SLOT_CFG_dir : Fld := ⟨0x200, 1, 1⟩
abbrev AXL_SLOT_CFG_rgn : Fld := ⟨0x200, 2, 2⟩
abbrev AXL_SLOT_CFG_ch : Fld := ⟨0x200, 4, 8⟩
abbrev AXL_SLOT_CFG_words : Fld := ⟨0x200, 12, 6⟩
abbrev AXL_SLOT_CFG_blk : Fld := ⟨0x200, 18, 4⟩
/-- AXL_SLOT_ADDR (R492). -/
abbrev AXL_SLOT_ADDR : Fld := ⟨0x204, 0, 32⟩
abbrev AXL_SLOT_ADDR_addr : Fld := ⟨0x204, 3, 15⟩
/-- RGN_IND_ADDR (R499). -/
abbrev RGN_IND_ADDR : Fld := ⟨0x3000, 0, 32⟩
abbrev RGN_IND_ADDR_addr : Fld := ⟨0x3000, 2, 30⟩
/-- RGN_IND_DATA (R499). -/
abbrev RGN_IND_DATA : Fld := ⟨0x3004, 0, 32⟩
abbrev RGN_IND_DATA_data : Fld := ⟨0x3004, 0, 32⟩
/-- RGN_IND_LOCK (R499). -/
abbrev RGN_IND_LOCK : Fld := ⟨0x3008, 0, 32⟩
abbrev RGN_IND_LOCK_owner : Fld := ⟨0x3008, 0, 5⟩
abbrev RGN_IND_LOCK_locked : Fld := ⟨0x3008, 8, 1⟩
/-- RGN_IND_STAT (R499). -/
abbrev RGN_IND_STAT : Fld := ⟨0x300C, 0, 32⟩
abbrev RGN_IND_STAT_unmapped : Fld := ⟨0x300C, 0, 1⟩
abbrev RGN_IND_STAT_expired : Fld := ⟨0x300C, 1, 1⟩
abbrev RGN_IND_STAT_busy : Fld := ⟨0x300C, 2, 1⟩
/-- RGN_SNAP_CTRL (R503). -/
abbrev RGN_SNAP_CTRL : Fld := ⟨0x3010, 0, 32⟩
abbrev RGN_SNAP_CTRL_snap : Fld := ⟨0x3010, 0, 1⟩
abbrev RGN_SNAP_CTRL_seq : Fld := ⟨0x3010, 16, 16⟩
/-- RGN_SNAP_TS_LO (R503). -/
abbrev RGN_SNAP_TS_LO : Fld := ⟨0x3014, 0, 32⟩
abbrev RGN_SNAP_TS_LO_ns : Fld := ⟨0x3014, 0, 32⟩
/-- RGN_SNAP_TS_HI (R503). -/
abbrev RGN_SNAP_TS_HI : Fld := ⟨0x3018, 0, 32⟩
abbrev RGN_SNAP_TS_HI_ns : Fld := ⟨0x3018, 0, 32⟩
/-- CHIP_IND_ADDR (R499). -/
abbrev CHIP_IND_ADDR : Fld := ⟨0x40060000, 0, 32⟩
abbrev CHIP_IND_ADDR_addr : Fld := ⟨0x40060000, 2, 30⟩
/-- CHIP_IND_DATA (R499). -/
abbrev CHIP_IND_DATA : Fld := ⟨0x40060004, 0, 32⟩
abbrev CHIP_IND_DATA_data : Fld := ⟨0x40060004, 0, 32⟩
/-- CHIP_IND_LOCK (R499). -/
abbrev CHIP_IND_LOCK : Fld := ⟨0x40060008, 0, 32⟩
abbrev CHIP_IND_LOCK_owner : Fld := ⟨0x40060008, 0, 5⟩
abbrev CHIP_IND_LOCK_locked : Fld := ⟨0x40060008, 8, 1⟩
/-- CHIP_IND_STAT (R499). -/
abbrev CHIP_IND_STAT : Fld := ⟨0x4006000C, 0, 32⟩
abbrev CHIP_IND_STAT_unmapped : Fld := ⟨0x4006000C, 0, 1⟩
abbrev CHIP_IND_STAT_expired : Fld := ⟨0x4006000C, 1, 1⟩
abbrev CHIP_IND_STAT_busy : Fld := ⟨0x4006000C, 2, 1⟩
/-- CHIP_SNAP_CTRL (R503). -/
abbrev CHIP_SNAP_CTRL : Fld := ⟨0x40060010, 0, 32⟩
abbrev CHIP_SNAP_CTRL_snap : Fld := ⟨0x40060010, 0, 1⟩
abbrev CHIP_SNAP_CTRL_all : Fld := ⟨0x40060010, 1, 1⟩
abbrev CHIP_SNAP_CTRL_seq : Fld := ⟨0x40060010, 16, 16⟩
/-- CHIP_SNAP_TS_LO (R503). -/
abbrev CHIP_SNAP_TS_LO : Fld := ⟨0x40060014, 0, 32⟩
abbrev CHIP_SNAP_TS_LO_ns : Fld := ⟨0x40060014, 0, 32⟩
/-- CHIP_SNAP_TS_HI (R503). -/
abbrev CHIP_SNAP_TS_HI : Fld := ⟨0x40060018, 0, 32⟩
abbrev CHIP_SNAP_TS_HI_ns : Fld := ⟨0x40060018, 0, 32⟩
/-- EVR_R (R514). -/
abbrev EVR_R : Fld := ⟨0x40010000, 0, 32⟩
abbrev EVR_R_src : Fld := ⟨0x40010000, 0, 8⟩
abbrev EVR_R_sval : Fld := ⟨0x40010000, 8, 8⟩
abbrev EVR_R_smask : Fld := ⟨0x40010000, 16, 8⟩
abbrev EVR_R_en : Fld := ⟨0x40010000, 31, 1⟩
/-- EVR_RG (R514). -/
abbrev EVR_RG : Fld := ⟨0x40010200, 0, 32⟩
abbrev EVR_RG_src : Fld := ⟨0x40010200, 0, 8⟩
abbrev EVR_RG_sval : Fld := ⟨0x40010200, 8, 8⟩
abbrev EVR_RG_smask : Fld := ⟨0x40010200, 16, 8⟩
abbrev EVR_RG_en : Fld := ⟨0x40010200, 31, 1⟩
/-- EVR_LN_R (R514). -/
abbrev EVR_LN_R : Fld := ⟨0x40010800, 0, 32⟩
abbrev EVR_LN_R_src : Fld := ⟨0x40010800, 0, 8⟩
abbrev EVR_LN_R_sval : Fld := ⟨0x40010800, 8, 8⟩
abbrev EVR_LN_R_smask : Fld := ⟨0x40010800, 16, 8⟩
abbrev EVR_LN_R_en : Fld := ⟨0x40010800, 31, 1⟩
/-- EVR_PEND (R514). -/
abbrev EVR_PEND : Fld := ⟨0x40010C00, 0, 32⟩
abbrev EVR_PEND_pend : Fld := ⟨0x40010C00, 0, 32⟩
/-- EVR_PENDG (R514). -/
abbrev EVR_PENDG : Fld := ⟨0x40010C10, 0, 32⟩
abbrev EVR_PENDG_pend : Fld := ⟨0x40010C10, 0, 32⟩
/-- EVR_CNT (R514). -/
abbrev EVR_CNT : Fld := ⟨0x40011000, 0, 32⟩
abbrev EVR_CNT_count : Fld := ⟨0x40011000, 0, 16⟩
/-- EVR_LOG_WR (R514). -/
abbrev EVR_LOG_WR : Fld := ⟨0x40011400, 0, 32⟩
abbrev EVR_LOG_WR_idx : Fld := ⟨0x40011400, 0, 8⟩
/-- EVR_LOG_RD (R514). -/
abbrev EVR_LOG_RD : Fld := ⟨0x40011404, 0, 32⟩
abbrev EVR_LOG_RD_idx : Fld := ⟨0x40011404, 0, 8⟩
/-- EVR_STAT (R514). -/
abbrev EVR_STAT : Fld := ⟨0x40011408, 0, 32⟩
abbrev EVR_STAT_lost : Fld := ⟨0x40011408, 0, 16⟩
/-- EVR_LOGEN (R514). -/
abbrev EVR_LOGEN : Fld := ⟨0x40011410, 0, 32⟩
abbrev EVR_LOGEN_en : Fld := ⟨0x40011410, 0, 32⟩
/-- EVR_SWRAISE (R514). -/
abbrev EVR_SWRAISE : Fld := ⟨0x40011430, 0, 32⟩
abbrev EVR_SWRAISE_sw : Fld := ⟨0x40011430, 0, 16⟩
/-- EVR_SWARG (R514). -/
abbrev EVR_SWARG : Fld := ⟨0x40011434, 0, 32⟩
abbrev EVR_SWARG_arg : Fld := ⟨0x40011434, 0, 32⟩
/-- EVR_LOG (R514). -/
abbrev EVR_LOG : Fld := ⟨0x40012000, 0, 32⟩
abbrev EVR_LOG_w : Fld := ⟨0x40012000, 0, 32⟩
/-- BLK_CTRL (R522). -/
abbrev BLK_CTRL : Fld := ⟨0x0, 0, 32⟩
abbrev BLK_CTRL_restart : Fld := ⟨0x0, 0, 1⟩
/-- DEV_STAT (R521). -/
abbrev DEV_STAT : Fld := ⟨0x40060100, 0, 32⟩
abbrev DEV_STAT_step : Fld := ⟨0x40060100, 0, 4⟩
abbrev DEV_STAT_ready : Fld := ⟨0x40060100, 4, 1⟩
abbrev DEV_STAT_fail : Fld := ⟨0x40060100, 8, 4⟩
abbrev DEV_STAT_ms : Fld := ⟨0x40060100, 16, 16⟩
/-- HSL_TEST (R521). -/
abbrev HSL_TEST : Fld := ⟨0x40020710, 0, 32⟩
abbrev HSL_TEST_inj : Fld := ⟨0x40020710, 0, 1⟩
abbrev HSL_TEST_cmp_seen : Fld := ⟨0x40020710, 1, 1⟩
abbrev HSL_TEST_run : Fld := ⟨0x40020710, 4, 1⟩
abbrev HSL_TEST_done : Fld := ⟨0x40020710, 8, 1⟩
abbrev HSL_TEST_pass : Fld := ⟨0x40020710, 9, 1⟩
abbrev HSL_TEST_leg : Fld := ⟨0x40020710, 16, 7⟩
abbrev HSL_TEST_cause : Fld := ⟨0x40020710, 24, 2⟩
/-- RGN_RACK_CTRL (R528). -/
abbrev RGN_RACK_CTRL : Fld := ⟨0x3100, 0, 32⟩
abbrev RGN_RACK_CTRL_arm : Fld := ⟨0x3100, 0, 1⟩
abbrev RGN_RACK_CTRL_cancel : Fld := ⟨0x3100, 1, 1⟩
abbrev RGN_RACK_CTRL_what : Fld := ⟨0x3100, 2, 2⟩
abbrev RGN_RACK_CTRL_loaded : Fld := ⟨0x3100, 4, 1⟩
abbrev RGN_RACK_CTRL_probation : Fld := ⟨0x3100, 16, 16⟩
/-- RGN_RACK_TICK (R528). -/
abbrev RGN_RACK_TICK : Fld := ⟨0x3104, 0, 32⟩
abbrev RGN_RACK_TICK_k : Fld := ⟨0x3104, 0, 32⟩
/-- RGN_RACK_STAT (R528). -/
abbrev RGN_RACK_STAT : Fld := ⟨0x3108, 0, 32⟩
abbrev RGN_RACK_STAT_state : Fld := ⟨0x3108, 0, 2⟩
abbrev RGN_RACK_STAT_slot : Fld := ⟨0x3108, 4, 1⟩
abbrev RGN_RACK_STAT_tbank : Fld := ⟨0x3108, 5, 1⟩
abbrev RGN_RACK_STAT_trim : Fld := ⟨0x3108, 6, 1⟩
abbrev RGN_RACK_STAT_left : Fld := ⟨0x3108, 16, 16⟩
/-- RGN_RACK_CNT (R528). -/
abbrev RGN_RACK_CNT : Fld := ⟨0x310C, 0, 32⟩
abbrev RGN_RACK_CNT_racks : Fld := ⟨0x310C, 0, 16⟩
abbrev RGN_RACK_CNT_unracks : Fld := ⟨0x310C, 16, 16⟩
/-- RGN_RESTART (R528). -/
abbrev RGN_RESTART : Fld := ⟨0x3110, 0, 32⟩
abbrev RGN_RESTART_dma : Fld := ⟨0x3110, 0, 1⟩
/-- RGN_RACK_MAP (R528). -/
abbrev RGN_RACK_MAP : Fld := ⟨0x3114, 0, 32⟩
abbrev RGN_RACK_MAP_addr : Fld := ⟨0x3114, 3, 17⟩
abbrev RGN_RACK_MAP_n : Fld := ⟨0x3114, 24, 8⟩
/-- CHIP_RACK (R532). -/
abbrev CHIP_RACK : Fld := ⟨0x40060110, 0, 32⟩
abbrev CHIP_RACK_go : Fld := ⟨0x40060110, 0, 1⟩
abbrev CHIP_RACK_slot : Fld := ⟨0x40060110, 1, 1⟩
abbrev CHIP_RACK_confirm : Fld := ⟨0x40060110, 2, 1⟩
abbrev CHIP_RACK_fail : Fld := ⟨0x40060110, 3, 1⟩
abbrev CHIP_RACK_prob : Fld := ⟨0x40060110, 8, 8⟩
abbrev CHIP_RACK_state : Fld := ⟨0x40060110, 16, 2⟩
abbrev CHIP_RACK_active : Fld := ⟨0x40060110, 20, 1⟩
abbrev CHIP_RACK_left : Fld := ⟨0x40060110, 24, 8⟩
/-- HSL_UPD (R534). -/
abbrev HSL_UPD : Fld := ⟨0x40020700, 0, 32⟩
abbrev HSL_UPD_req : Fld := ⟨0x40020700, 0, 1⟩
abbrev HSL_UPD_state : Fld := ⟨0x40020700, 8, 2⟩
abbrev HSL_UPD_tmax : Fld := ⟨0x40020700, 16, 8⟩

end F

end Sys2Proof.Machine
end

