-- ==== Sys2Proof/Machine/RegMap.lean ====
section
/-! DEFINITION. The register map: every register with its offset, its repetition, and the access code,
reset value and range of each of its fields, from the register tables of the spec (R8 to R11, R494). -/

namespace Sys2Proof.Machine

/-- The access codes of R9. `wos`, `wo0`, `wo1` and `woc` are write-only for secure-privileged masters, SC0,
SC1 and the Cellar; `rwg` and `w1cg` are guarded. -/
inductive Acc where
  | rw | ro | wo | w1c | rwg | w1cg | wos | wo0 | wo1 | woc
  deriving DecidableEq, Repr

/-- A field: lowest bit, width, access code, reset value and, where the spec gives one, the range that
a write is clamped to (R8). -/
structure FieldRow where
  lo : Nat
  w : Nat
  acc : Acc
  reset : Nat
  range : Option (Nat × Nat)
  deriving DecidableEq, Repr

/-- A register: its name, its offset in its space, the strides at which it repeats with the number of
repetitions, and its fields. -/
structure Row where
  name : String
  off : Nat
  strides : List (Nat × Nat)
  fields : List FieldRow
  deriving DecidableEq, Repr

/-- Registers of the leg space, part 0. -/
def legRows0 : List Row :=
  [⟨"LEG_CFG", 0x0, [], [⟨0, 3, .rw, 0, some (0, 3)⟩, ⟨4, 2, .rw, 1, none⟩, ⟨8, 1, .rw, 1, none⟩, ⟨9, 7, .rw, 1, some (1, 64)⟩, ⟨16, 1, .rw, 0, none⟩]⟩,
   ⟨"LEG_PERIOD", 0x4, [], [⟨0, 24, .rw, 512000, some (2560, 16777215)⟩]⟩,
   ⟨"LEG_PHASE", 0x8, [], [⟨0, 24, .rw, 0, none⟩]⟩,
   ⟨"LEG_DT", 0xC, [], [⟨0, 16, .rw, 5120, some (0, 64000)⟩, ⟨16, 16, .rw, 5120, some (0, 64000)⟩]⟩,
   ⟨"LEG_HS", 0x10, [], [⟨0, 12, .rw, 800, some (80, 4000)⟩, ⟨12, 1, .rw, 0, none⟩, ⟨13, 1, .rw, 0, none⟩, ⟨16, 8, .rw, 16, none⟩]⟩,
   ⟨"LEG_MINON", 0x14, [], [⟨0, 16, .rw, 2560, some (0, 64000)⟩]⟩,
   ⟨"LEG_STATE", 0x18, [], [⟨0, 3, .ro, 0, none⟩, ⟨4, 1, .ro, 0, none⟩, ⟨5, 1, .ro, 0, none⟩, ⟨6, 1, .ro, 0, none⟩, ⟨7, 1, .ro, 0, none⟩, ⟨8, 1, .ro, 0, none⟩, ⟨9, 1, .ro, 0, none⟩, ⟨10, 1, .ro, 0, none⟩, ⟨12, 1, .ro, 0, none⟩]⟩,
   ⟨"LEG_CNT", 0x1C, [], [⟨0, 24, .ro, 0, none⟩]⟩,
   ⟨"LEG_PEFF", 0x20, [], [⟨0, 24, .ro, 512000, none⟩]⟩,
   ⟨"LEG_FAULT", 0x24, [], [⟨0, 6, .w1c, 0, none⟩, ⟨8, 3, .ro, 0, none⟩, ⟨15, 1, .ro, 0, none⟩, ⟨16, 1, .ro, 0, none⟩, ⟨17, 1, .ro, 0, none⟩]⟩,
   ⟨"LEG_FAULT_TS_LO", 0x28, [], [⟨0, 32, .ro, 0, none⟩]⟩,
   ⟨"LEG_FAULT_TS_HI", 0x2C, [], [⟨0, 32, .ro, 0, none⟩]⟩,
   ⟨"LEG_CNT_A", 0x30, [], [⟨0, 16, .ro, 0, none⟩, ⟨16, 16, .ro, 0, none⟩]⟩,
   ⟨"LEG_CNT_B", 0x34, [], [⟨0, 16, .ro, 0, none⟩, ⟨16, 16, .ro, 0, none⟩]⟩,
   ⟨"LEG_TRIPS", 0x38, [], [⟨0, 16, .ro, 0, none⟩, ⟨16, 16, .ro, 0, none⟩]⟩,
   ⟨"LEG_EDGES_H", 0x3C, [], [⟨0, 32, .ro, 0, none⟩]⟩,
   ⟨"LEG_EDGES_L", 0x40, [], [⟨0, 32, .ro, 0, none⟩]⟩,
   ⟨"LEG_GUARD", 0x44, [], [⟨0, 1, .rwg, 1, none⟩, ⟨1, 1, .rwg, 1, none⟩]⟩,
   ⟨"LEG_DIRECT", 0x48, [], [⟨0, 1, .rw, 1, none⟩, ⟨8, 1, .ro, 0, none⟩, ⟨16, 16, .ro, 0, none⟩]⟩,
   ⟨"LEG_CBC", 0x4C, [], [⟨0, 32, .ro, 0, none⟩]⟩]

/-- Registers of the leg space, part 1. -/
def legRows1 : List Row :=
  [⟨"LEG_CUR", 0x50, [(0x4, 4)], [⟨0, 32, .ro, 0, none⟩]⟩,
   ⟨"LEG_NEXT", 0x60, [(0x4, 4)], [⟨0, 32, .ro, 0, none⟩]⟩,
   ⟨"LEG_CMP", 0x80, [], [⟨0, 1, .rw, 1, none⟩, ⟨1, 1, .rw, 0, none⟩, ⟨2, 1, .rw, 0, none⟩, ⟨3, 1, .rw, 0, none⟩, ⟨4, 2, .rw, 0, none⟩, ⟨8, 9, .rw, 0, some (0, 256)⟩]⟩,
   ⟨"LEG_TDAC", 0x84, [], [⟨0, 10, .rw, 1023, none⟩]⟩,
   ⟨"LEG_HDAC", 0x88, [], [⟨0, 10, .rw, 1023, none⟩]⟩,
   ⟨"LEG_SLOPE", 0x8C, [], [⟨0, 12, .rw, 0, none⟩]⟩,
   ⟨"LEG_CMPSTAT", 0x90, [], [⟨0, 1, .ro, 0, none⟩, ⟨1, 1, .ro, 0, none⟩, ⟨2, 1, .ro, 0, none⟩, ⟨16, 10, .ro, 1023, none⟩]⟩]

/-- Registers of the leg space. -/
def legRows : List Row := legRows0 ++ legRows1

/-- Registers of the blk space. -/
def blkRows : List Row :=
  [⟨"BLK_CAUSE", 0x40, [], [⟨0, 8, .w1c, 0, none⟩, ⟨8, 3, .ro, 0, none⟩, ⟨15, 1, .ro, 0, none⟩, ⟨16, 1, .ro, 0, none⟩]⟩,
   ⟨"BLK_CAUSE_TS_LO", 0x44, [], [⟨0, 32, .ro, 0, none⟩]⟩,
   ⟨"BLK_CAUSE_TS_HI", 0x48, [], [⟨0, 32, .ro, 0, none⟩]⟩,
   ⟨"BLK_CAUSE_CNT", 0x4C, [], [⟨0, 16, .ro, 0, none⟩]⟩,
   ⟨"BLK_OVR", 0x50, [], [⟨0, 16, .ro, 0, none⟩, ⟨16, 1, .ro, 0, none⟩, ⟨17, 15, .ro, 0, none⟩]⟩,
   ⟨"BLK_OVR_MAX", 0x54, [], [⟨0, 18, .ro, 0, none⟩]⟩,
   ⟨"LANE_STATUS", 0x20, [], [⟨0, 1, .w1c, 0, none⟩, ⟨1, 1, .w1c, 0, none⟩, ⟨2, 1, .w1c, 0, none⟩, ⟨3, 1, .w1c, 0, none⟩, ⟨4, 1, .w1c, 0, none⟩, ⟨5, 1, .w1c, 0, none⟩, ⟨8, 1, .ro, 0, none⟩]⟩,
   ⟨"LANE_STATE", 0x24, [], [⟨0, 2, .ro, 0, none⟩, ⟨4, 3, .ro, 0, none⟩, ⟨8, 1, .ro, 0, none⟩, ⟨9, 1, .ro, 0, none⟩, ⟨16, 12, .ro, 0, none⟩]⟩,
   ⟨"LANE_ENTRY", 0x28, [], [⟨0, 12, .rw, 0, none⟩, ⟨16, 12, .rw, 0, none⟩]⟩,
   ⟨"LANE_WCET", 0x2C, [], [⟨0, 16, .rw, 0, none⟩, ⟨16, 16, .rw, 0, none⟩]⟩,
   ⟨"LANE_EVC_LIVE", 0x30, [], [⟨0, 32, .ro, 0, none⟩]⟩,
   ⟨"LANE_EVC_PREV", 0x34, [], [⟨0, 32, .ro, 0, none⟩]⟩,
   ⟨"BLK_MEMERR", 0x70, [], [⟨0, 16, .ro, 0, none⟩, ⟨16, 1, .w1c, 0, none⟩, ⟨17, 1, .w1c, 0, none⟩, ⟨18, 1, .w1c, 0, none⟩, ⟨19, 1, .w1c, 0, none⟩, ⟨20, 1, .w1c, 0, none⟩]⟩,
   ⟨"BLK_MEMERR_ADDR", 0x74, [], [⟨0, 32, .ro, 0, none⟩]⟩,
   ⟨"BLK_CTRL", 0x0, [], [⟨0, 1, .wo, 0, none⟩]⟩]

/-- Registers of the rgn space, part 0. -/
def rgnRows0 : List Row :=
  [⟨"LEG_OWN", 0x100, [(0x4, 8)], [⟨0, 5, .rw, 0, none⟩, ⟨7, 1, .rw, 0, none⟩, ⟨8, 5, .rw, 0, none⟩, ⟨15, 1, .rw, 0, none⟩, ⟨16, 5, .rw, 0, none⟩, ⟨23, 1, .rw, 0, none⟩, ⟨24, 5, .rw, 0, none⟩, ⟨31, 1, .rw, 0, none⟩]⟩,
   ⟨"RGN_CAUSE", 0x40, [], [⟨0, 8, .w1c, 0, none⟩, ⟨8, 3, .ro, 0, none⟩, ⟨15, 1, .ro, 0, none⟩, ⟨16, 1, .ro, 0, none⟩]⟩,
   ⟨"RGN_CAUSE_TS_LO", 0x44, [], [⟨0, 32, .ro, 0, none⟩]⟩,
   ⟨"RGN_CAUSE_TS_HI", 0x48, [], [⟨0, 32, .ro, 0, none⟩]⟩,
   ⟨"RGN_CAUSE_CNT", 0x4C, [], [⟨0, 16, .ro, 0, none⟩]⟩,
   ⟨"RGN_PHASE0", 0x60, [], [⟨0, 10, .rw, 50, none⟩, ⟨16, 10, .rw, 750, none⟩]⟩,
   ⟨"RGN_PHASE1", 0x64, [], [⟨0, 10, .rw, 825, none⟩, ⟨16, 10, .rw, 900, none⟩]⟩,
   ⟨"RGN_SUBTICK", 0x68, [], [⟨0, 2, .rw, 0, none⟩, ⟨2, 2, .rw, 0, none⟩, ⟨4, 2, .rw, 0, none⟩, ⟨6, 2, .rw, 0, none⟩]⟩,
   ⟨"EXCH_CH_A", 0x400, [(0x4, 256)], [⟨0, 2, .rw, 0, none⟩, ⟨4, 4, .rw, 0, none⟩, ⟨8, 5, .rw, 0, none⟩, ⟨16, 6, .rw, 1, some (1, 32)⟩, ⟨31, 1, .rw, 0, none⟩]⟩,
   ⟨"EXCH_CH_B", 0x800, [(0x4, 256)], [⟨0, 2, .rw, 0, none⟩, ⟨4, 4, .rw, 0, none⟩, ⟨8, 5, .rw, 0, none⟩, ⟨16, 6, .rw, 1, some (1, 32)⟩, ⟨31, 1, .rw, 0, none⟩]⟩,
   ⟨"ADC_SEQ_CFG", 0x1000, [(0x80, 4), (0x40, 2)], [⟨0, 3, .rw, 0, none⟩, ⟨4, 5, .rw, 0, none⟩, ⟨9, 2, .rw, 0, none⟩, ⟨16, 12, .rw, 0, none⟩, ⟨28, 3, .rw, 0, none⟩, ⟨31, 1, .wo, 0, none⟩]⟩,
   ⟨"ADC_SEQ_STAT", 0x1004, [(0x80, 4), (0x40, 2)], [⟨0, 16, .ro, 0, none⟩, ⟨16, 8, .ro, 0, none⟩, ⟨24, 8, .ro, 0, none⟩]⟩,
   ⟨"ADC_SEQ_ENT", 0x1010, [(0x80, 4), (0x40, 2), (0x4, 8)], [⟨0, 5, .rw, 17, none⟩, ⟨8, 1, .rw, 0, none⟩, ⟨16, 14, .rw, 0, none⟩]⟩,
   ⟨"SD_CLK", 0x1200, [], [⟨0, 8, .rw, 40, some (40, 160)⟩, ⟨8, 8, .rw, 40, some (40, 160)⟩, ⟨16, 1, .rw, 0, none⟩, ⟨17, 1, .rw, 0, none⟩]⟩,
   ⟨"SD_CFG", 0x1240, [(0x4, 16)], [⟨0, 1, .rw, 0, none⟩, ⟨1, 1, .rw, 0, none⟩, ⟨2, 1, .rw, 0, none⟩, ⟨4, 2, .rw, 0, none⟩, ⟨6, 1, .rw, 0, none⟩, ⟨7, 9, .rw, 64, some (16, 256)⟩, ⟨16, 3, .rw, 0, none⟩, ⟨24, 6, .rw, 16, some (4, 32)⟩, ⟨31, 1, .rw, 0, none⟩]⟩,
   ⟨"SD_OC", 0x1280, [(0x4, 16)], [⟨0, 15, .rw, 32767, some (1, 32767)⟩]⟩,
   ⟨"SD_OCMASK", 0x12C0, [(0x4, 16)], [⟨0, 32, .rw, 0, none⟩]⟩,
   ⟨"SD_STAT", 0x1300, [], [⟨0, 16, .w1c, 0, none⟩, ⟨16, 16, .w1c, 0, none⟩]⟩,
   ⟨"WIN_CFG", 0x1400, [(0x10, 16)], [⟨0, 1, .rw, 0, none⟩, ⟨1, 1, .rw, 0, none⟩, ⟨2, 1, .rw, 0, none⟩, ⟨3, 1, .rw, 0, none⟩, ⟨4, 1, .rwg, 0, none⟩, ⟨8, 7, .rw, 0, some (0, 95)⟩, ⟨16, 5, .rw, 0, none⟩, ⟨24, 8, .rw, 0, none⟩]⟩,
   ⟨"WIN_DAC", 0x1404, [(0x10, 16)], [⟨0, 10, .rw, 512, none⟩]⟩]

/-- Registers of the rgn space, part 1. -/
def rgnRows1 : List Row :=
  [⟨"WIN_STAT", 0x1408, [(0x10, 16)], [⟨0, 1, .ro, 0, none⟩, ⟨1, 1, .w1c, 0, none⟩, ⟨16, 16, .ro, 0, none⟩]⟩,
   ⟨"RGN_ZCD", 0x1500, [(0x4, 32)], [⟨0, 4, .rw, 0, none⟩, ⟨8, 8, .rw, 0, none⟩, ⟨16, 1, .rw, 0, none⟩]⟩,
   ⟨"RGN_RB_CTRL", 0x1600, [], [⟨0, 8, .rw, 10, some (1, 255)⟩]⟩,
   ⟨"RGN_RB_STAT", 0x1604, [], [⟨0, 16, .ro, 0, none⟩, ⟨16, 16, .ro, 0, none⟩]⟩,
   ⟨"RGN_RB_FAIL0", 0x1608, [], [⟨0, 32, .w1c, 0, none⟩]⟩,
   ⟨"RGN_RB_FAIL1", 0x160C, [], [⟨0, 32, .w1c, 0, none⟩]⟩,
   ⟨"RGN_RB_FAIL2", 0x1610, [], [⟨0, 16, .w1c, 0, none⟩]⟩,
   ⟨"RGN_ADCCHK", 0x1614, [], [⟨0, 4, .w1c, 0, none⟩, ⟨8, 4, .w1c, 0, none⟩]⟩,
   ⟨"WG_CFG", 0x1800, [(0x10, 32)], [⟨0, 1, .rwg, 1, none⟩, ⟨1, 2, .rwg, 1, none⟩, ⟨16, 16, .rwg, 30720, some (0, 64000)⟩]⟩,
   ⟨"WG_STAT", 0x1804, [(0x10, 32)], [⟨0, 17, .ro, 65536, none⟩, ⟨17, 1, .ro, 0, none⟩, ⟨18, 1, .ro, 0, none⟩]⟩,
   ⟨"WG_CNT", 0x1808, [(0x10, 32)], [⟨0, 32, .ro, 0, none⟩]⟩,
   ⟨"WG_WIN", 0x180C, [(0x10, 32)], [⟨0, 24, .ro, 0, none⟩]⟩,
   ⟨"FB_CFG", 0x1C00, [(0x80, 2)], [⟨0, 1, .rw, 0, none⟩, ⟨1, 2, .rw, 0, none⟩, ⟨4, 2, .rw, 0, none⟩, ⟨8, 5, .rw, 0, none⟩, ⟨13, 2, .rw, 0, none⟩, ⟨16, 8, .rw, 8, none⟩, ⟨24, 4, .rw, 1, some (1, 15)⟩]⟩,
   ⟨"FB_BIND", 0x1C04, [(0x80, 2)], [⟨0, 5, .rwg, 0, none⟩, ⟨8, 1, .rwg, 0, none⟩]⟩,
   ⟨"FB_OFS", 0x1C08, [(0x80, 2)], [⟨0, 32, .rw, 0, none⟩]⟩,
   ⟨"FB_QEP", 0x1C0C, [(0x80, 2)], [⟨0, 16, .rw, 1024, some (1, 65535)⟩, ⟨16, 2, .rw, 0, none⟩, ⟨18, 1, .rw, 0, none⟩, ⟨19, 1, .rw, 0, none⟩]⟩,
   ⟨"FB_IDX", 0x1C10, [(0x80, 2)], [⟨0, 8, .rw, 4, none⟩]⟩,
   ⟨"FB_IDX_AT", 0x1C14, [(0x80, 2)], [⟨0, 32, .ro, 0, none⟩]⟩,
   ⟨"FB_HALL", 0x1C18, [(0x80, 2)], [⟨0, 18, .rw, 120912, none⟩, ⟨20, 1, .rw, 1, none⟩]⟩,
   ⟨"FB_ZS", 0x1C1C, [(0x80, 2)], [⟨0, 24, .rw, 100000, some (1, 16777215)⟩]⟩]

/-- Registers of the rgn space, part 2. -/
def rgnRows2 : List Row :=
  [⟨"RES_CFG", 0x1C20, [(0x80, 2)], [⟨0, 2, .rw, 0, none⟩, ⟨2, 2, .rw, 1, none⟩, ⟨4, 4, .rw, 0, none⟩, ⟨8, 4, .rw, 0, none⟩, ⟨16, 12, .rw, 0, none⟩]⟩,
   ⟨"RES_EXC", 0x1C24, [(0x80, 2)], [⟨0, 18, .rw, 40000, some (20000, 200000)⟩, ⟨20, 9, .rw, 400, none⟩, ⟨31, 1, .rw, 0, none⟩]⟩,
   ⟨"RES_LOOP", 0x1C28, [(0x80, 2)], [⟨0, 12, .rw, 500, some (50, 4000)⟩, ⟨16, 12, .rw, 100, none⟩]⟩,
   ⟨"RES_LIM", 0x1C2C, [(0x80, 2)], [⟨0, 16, .rw, 8192, none⟩, ⟨16, 16, .rw, 28672, none⟩]⟩,
   ⟨"RES_MON", 0x1C30, [(0x80, 2)], [⟨0, 16, .ro, 0, none⟩, ⟨16, 16, .ro, 0, none⟩]⟩,
   ⟨"FB_SSI", 0x1C34, [(0x80, 2)], [⟨0, 2, .rw, 0, none⟩, ⟨2, 6, .rw, 25, some (8, 40)⟩, ⟨8, 5, .rw, 12, none⟩, ⟨13, 5, .rw, 12, some (0, 24)⟩, ⟨18, 1, .rw, 1, none⟩, ⟨19, 1, .rw, 0, none⟩, ⟨20, 12, .rw, 0, none⟩]⟩,
   ⟨"FB_FAULT", 0x1C38, [(0x80, 2)], [⟨0, 6, .w1c, 0, none⟩, ⟨8, 3, .ro, 0, none⟩, ⟨15, 1, .ro, 0, none⟩]⟩,
   ⟨"FB_FAULT_TS_LO", 0x1C3C, [(0x80, 2)], [⟨0, 32, .ro, 0, none⟩]⟩,
   ⟨"FB_FAULT_TS_HI", 0x1C40, [(0x80, 2)], [⟨0, 32, .ro, 0, none⟩]⟩,
   ⟨"FB_POS", 0x1C44, [(0x80, 2)], [⟨0, 32, .ro, 0, none⟩]⟩,
   ⟨"FB_SPD", 0x1C48, [(0x80, 2)], [⟨0, 32, .ro, 0, none⟩]⟩,
   ⟨"FB_TURNS", 0x1C4C, [(0x80, 2)], [⟨0, 32, .ro, 0, none⟩]⟩,
   ⟨"FB_ERR_A", 0x1C50, [(0x80, 2)], [⟨0, 16, .ro, 0, none⟩, ⟨16, 16, .ro, 0, none⟩]⟩,
   ⟨"FB_ERR_B", 0x1C54, [(0x80, 2)], [⟨0, 16, .ro, 0, none⟩, ⟨16, 16, .ro, 0, none⟩]⟩,
   ⟨"FB_ERR_C", 0x1C58, [(0x80, 2)], [⟨0, 16, .ro, 0, none⟩, ⟨16, 16, .ro, 0, none⟩]⟩,
   ⟨"PRB_CFG", 0x1D00, [(0x20, 2)], [⟨0, 1, .rw, 0, none⟩, ⟨1, 2, .rw, 1, none⟩, ⟨3, 1, .rw, 0, none⟩, ⟨4, 1, .rw, 0, none⟩, ⟨8, 8, .rw, 8, none⟩]⟩,
   ⟨"PRB_POS", 0x1D04, [(0x20, 2)], [⟨0, 32, .ro, 0, none⟩]⟩,
   ⟨"PRB_TS_LO", 0x1D08, [(0x20, 2)], [⟨0, 32, .ro, 0, none⟩]⟩,
   ⟨"PRB_TS_HI", 0x1D0C, [(0x20, 2)], [⟨0, 32, .ro, 0, none⟩]⟩,
   ⟨"PRB_STAT", 0x1D10, [(0x20, 2)], [⟨0, 1, .w1c, 0, none⟩, ⟨1, 1, .w1c, 0, none⟩, ⟨16, 16, .ro, 0, none⟩]⟩]

/-- Registers of the rgn space, part 3. -/
def rgnRows3 : List Row :=
  [⟨"SHD_CFG", 0x1A00, [(0x40, 2)], [⟨0, 1, .rw, 0, none⟩, ⟨1, 1, .rw, 1, none⟩, ⟨2, 1, .rw, 1, none⟩, ⟨3, 1, .rw, 1, none⟩, ⟨4, 5, .rw, 0, none⟩, ⟨12, 4, .rw, 0, none⟩, ⟨16, 5, .rw, 8, some (1, 31)⟩, ⟨24, 8, .rw, 64, some (1, 255)⟩]⟩,
   ⟨"SHD_LEGS", 0x1A04, [(0x40, 2)], [⟨0, 32, .rw, 0, none⟩]⟩,
   ⟨"SHD_THR", 0x1A08, [(0x40, 2)], [⟨0, 10, .rw, 0, none⟩, ⟨16, 10, .rw, 1023, none⟩]⟩,
   ⟨"SHD_THR2", 0x1A0C, [(0x40, 2)], [⟨0, 10, .rw, 1023, none⟩, ⟨16, 8, .rw, 16, some (1, 255)⟩, ⟨24, 5, .rw, 1, some (1, 16)⟩]⟩,
   ⟨"SHD_STAT", 0x1A10, [(0x40, 2)], [⟨0, 5, .ro, 0, none⟩, ⟨8, 2, .ro, 0, none⟩, ⟨16, 5, .ro, 0, none⟩, ⟨24, 5, .ro, 0, none⟩]⟩,
   ⟨"SHD_CNT", 0x1A14, [(0x40, 2)], [⟨0, 16, .ro, 0, none⟩, ⟨16, 16, .ro, 0, none⟩]⟩,
   ⟨"SHD_ACT", 0x1A18, [(0x40, 2)], [⟨0, 32, .ro, 0, none⟩]⟩,
   ⟨"UNIT_CFG", 0x2000, [(0x40, 32)], [⟨0, 4, .rw, 0, none⟩, ⟨8, 8, .rw, 16, some (1, 255)⟩, ⟨16, 16, .rw, 100, some (1, 65535)⟩]⟩,
   ⟨"UNIT_CTRL", 0x2004, [(0x40, 32)], [⟨0, 1, .wo, 0, none⟩, ⟨1, 1, .wo, 0, none⟩, ⟨2, 1, .wo, 0, none⟩, ⟨3, 1, .wo, 0, none⟩]⟩,
   ⟨"UNIT_STAT", 0x2008, [(0x40, 32)], [⟨0, 3, .ro, 0, none⟩, ⟨4, 3, .ro, 0, none⟩, ⟨8, 1, .ro, 0, none⟩, ⟨9, 1, .ro, 0, none⟩, ⟨10, 1, .ro, 0, none⟩, ⟨11, 1, .ro, 0, none⟩, ⟨12, 1, .ro, 0, none⟩, ⟨13, 1, .ro, 0, none⟩]⟩,
   ⟨"UNIT_CAUSE", 0x200C, [(0x40, 32)], [⟨0, 9, .w1c, 0, none⟩, ⟨12, 4, .ro, 0, none⟩, ⟨16, 1, .ro, 0, none⟩]⟩,
   ⟨"UNIT_ATTR", 0x2010, [(0x40, 32)], [⟨0, 7, .ro, 0, none⟩, ⟨8, 2, .ro, 0, none⟩]⟩,
   ⟨"UNIT_CAUSE_TS_LO", 0x2014, [(0x40, 32)], [⟨0, 32, .ro, 0, none⟩]⟩,
   ⟨"UNIT_CAUSE_TS_HI", 0x2018, [(0x40, 32)], [⟨0, 32, .ro, 0, none⟩]⟩,
   ⟨"UNIT_CNT", 0x201C, [(0x40, 32)], [⟨0, 16, .ro, 0, none⟩, ⟨16, 16, .ro, 0, none⟩]⟩,
   ⟨"RF_CH", 0x1E00, [(0x8, 16)], [⟨0, 1, .rw, 0, none⟩, ⟨1, 2, .rw, 0, none⟩, ⟨4, 18, .rw, 261376, none⟩, ⟨24, 8, .rw, 20, none⟩]⟩,
   ⟨"RF_STAT", 0x1E04, [(0x8, 16)], [⟨0, 16, .ro, 0, none⟩, ⟨16, 7, .ro, 0, none⟩, ⟨24, 1, .w1c, 0, none⟩]⟩,
   ⟨"RF_CFG", 0x1F00, [], [⟨0, 8, .rw, 10, none⟩, ⟨8, 8, .rw, 10, none⟩, ⟨16, 8, .rw, 20, none⟩, ⟨24, 8, .rw, 10, none⟩]⟩,
   ⟨"RF_BASE", 0x1F04, [], [⟨10, 10, .rw, 944, none⟩]⟩,
   ⟨"RGN_MEMERR", 0x70, [], [⟨0, 16, .ro, 0, none⟩, ⟨16, 16, .ro, 0, none⟩]⟩]

/-- Registers of the rgn space, part 4. -/
def rgnRows4 : List Row :=
  [⟨"RGN_MEMERR_ADDR", 0x74, [], [⟨0, 32, .ro, 0, none⟩]⟩,
   ⟨"DMA_PUSH", 0x2800, [(0x20, 4)], [⟨0, 32, .wo, 0, none⟩]⟩,
   ⟨"DMA_CTRL", 0x2804, [(0x20, 4)], [⟨0, 1, .wo, 0, none⟩, ⟨1, 1, .wo, 0, none⟩]⟩,
   ⟨"DMA_STAT", 0x2808, [(0x20, 4)], [⟨0, 7, .ro, 0, none⟩, ⟨8, 2, .ro, 0, none⟩, ⟨12, 4, .ro, 0, none⟩, ⟨16, 16, .ro, 0, none⟩]⟩,
   ⟨"DMA_STAT2", 0x280C, [(0x20, 4)], [⟨0, 16, .ro, 0, none⟩, ⟨16, 16, .ro, 0, none⟩]⟩,
   ⟨"DMA_CUR", 0x2810, [(0x20, 4)], [⟨0, 32, .ro, 0, none⟩]⟩,
   ⟨"CAP_CFG", 0x2900, [], [⟨0, 1, .wo, 0, none⟩, ⟨1, 1, .wo, 0, none⟩, ⟨16, 4, .rw, 0, none⟩]⟩,
   ⟨"CAP_SMP", 0x2904, [], [⟨0, 2, .rw, 0, none⟩, ⟨2, 2, .rw, 0, none⟩, ⟨4, 5, .rw, 0, none⟩, ⟨12, 8, .rw, 1, some (1, 255)⟩, ⟨20, 12, .rw, 0, none⟩]⟩,
   ⟨"CAP_TRIG", 0x2908, [], [⟨0, 2, .rw, 0, none⟩, ⟨4, 4, .rw, 0, none⟩, ⟨8, 8, .rw, 0, none⟩]⟩,
   ⟨"CAP_LEN", 0x290C, [], [⟨0, 16, .rw, 0, none⟩, ⟨16, 16, .rw, 1, none⟩]⟩,
   ⟨"CAP_BASE", 0x2910, [], [⟨12, 8, .rw, 172, some (0, 176)⟩]⟩,
   ⟨"CAP_SEL", 0x2914, [(0x4, 4)], [⟨0, 8, .rw, 0, none⟩, ⟨8, 8, .rw, 0, none⟩, ⟨16, 8, .rw, 0, none⟩, ⟨24, 8, .rw, 0, none⟩]⟩,
   ⟨"CAP_STAT", 0x2924, [], [⟨0, 2, .ro, 0, none⟩]⟩,
   ⟨"CAP_POS", 0x2928, [], [⟨0, 16, .ro, 0, none⟩, ⟨16, 16, .ro, 0, none⟩]⟩,
   ⟨"CAP_POS2", 0x292C, [], [⟨0, 16, .ro, 0, none⟩]⟩,
   ⟨"CAP_TS_LO", 0x2930, [], [⟨0, 32, .ro, 0, none⟩]⟩,
   ⟨"CAP_TS_HI", 0x2934, [], [⟨0, 32, .ro, 0, none⟩]⟩,
   ⟨"RGN_IND_ADDR", 0x3000, [], [⟨2, 30, .rw, 0, none⟩]⟩,
   ⟨"RGN_IND_DATA", 0x3004, [], [⟨0, 32, .rw, 0, none⟩]⟩,
   ⟨"RGN_IND_LOCK", 0x3008, [], [⟨0, 5, .ro, 0, none⟩, ⟨8, 1, .rw, 0, none⟩]⟩]

/-- Registers of the rgn space, part 5. -/
def rgnRows5 : List Row :=
  [⟨"RGN_IND_STAT", 0x300C, [], [⟨0, 1, .w1c, 0, none⟩, ⟨1, 1, .w1c, 0, none⟩, ⟨2, 1, .ro, 0, none⟩]⟩,
   ⟨"RGN_SNAP_CTRL", 0x3010, [], [⟨0, 1, .wo, 0, none⟩, ⟨16, 16, .ro, 0, none⟩]⟩,
   ⟨"RGN_SNAP_TS_LO", 0x3014, [], [⟨0, 32, .ro, 0, none⟩]⟩,
   ⟨"RGN_SNAP_TS_HI", 0x3018, [], [⟨0, 32, .ro, 0, none⟩]⟩,
   ⟨"RGN_RACK_CTRL", 0x3100, [], [⟨0, 1, .wo, 0, none⟩, ⟨1, 1, .wo, 0, none⟩, ⟨2, 2, .rw, 0, none⟩, ⟨4, 1, .rw, 0, none⟩, ⟨16, 16, .rw, 64, some (1, 65535)⟩]⟩,
   ⟨"RGN_RACK_TICK", 0x3104, [], [⟨0, 32, .rw, 0, none⟩]⟩,
   ⟨"RGN_RACK_STAT", 0x3108, [], [⟨0, 2, .ro, 0, none⟩, ⟨4, 1, .ro, 0, none⟩, ⟨5, 1, .ro, 0, none⟩, ⟨6, 1, .ro, 0, none⟩, ⟨16, 16, .ro, 0, none⟩]⟩,
   ⟨"RGN_RACK_CNT", 0x310C, [], [⟨0, 16, .ro, 0, none⟩, ⟨16, 16, .ro, 0, none⟩]⟩,
   ⟨"RGN_RESTART", 0x3110, [], [⟨0, 1, .wo, 0, none⟩]⟩,
   ⟨"RGN_RACK_MAP", 0x3114, [], [⟨3, 17, .rw, 0, none⟩, ⟨24, 8, .rw, 0, none⟩]⟩]

/-- Registers of the rgn space. -/
def rgnRows : List Row := rgnRows0 ++ rgnRows1 ++ rgnRows2 ++ rgnRows3 ++ rgnRows4 ++ rgnRows5

/-- Registers of the chip space, part 0. -/
def chipRows0 : List Row :=
  [⟨"FAB_WRR0", 0x40040000, [], [⟨0, 4, .rw, 4, some (1, 15)⟩, ⟨4, 4, .rw, 4, some (1, 15)⟩, ⟨8, 4, .rw, 2, some (1, 15)⟩, ⟨12, 4, .rw, 2, some (1, 15)⟩, ⟨16, 4, .rw, 2, some (1, 15)⟩, ⟨20, 4, .rw, 2, some (1, 15)⟩]⟩,
   ⟨"FAB_WRR1", 0x40040004, [], [⟨0, 4, .rw, 1, some (1, 15)⟩, ⟨4, 4, .rw, 1, some (1, 15)⟩, ⟨8, 4, .rw, 1, some (1, 15)⟩, ⟨12, 4, .rw, 1, some (1, 15)⟩, ⟨16, 4, .rw, 1, some (1, 15)⟩, ⟨20, 4, .rw, 1, some (1, 15)⟩, ⟨24, 4, .rw, 1, some (1, 15)⟩, ⟨28, 4, .rw, 1, some (1, 15)⟩]⟩,
   ⟨"FAB_WRR2", 0x40040008, [], [⟨0, 4, .rw, 1, some (1, 15)⟩, ⟨4, 4, .rw, 1, some (1, 15)⟩, ⟨8, 4, .rw, 1, some (1, 15)⟩, ⟨12, 4, .rw, 1, some (1, 15)⟩, ⟨16, 4, .rw, 1, some (1, 15)⟩, ⟨20, 4, .rw, 1, some (1, 15)⟩, ⟨24, 4, .rw, 1, some (1, 15)⟩, ⟨28, 4, .rw, 1, some (1, 15)⟩]⟩,
   ⟨"FAB_WRR3", 0x4004000C, [], [⟨0, 4, .rw, 1, some (1, 15)⟩, ⟨4, 4, .rw, 1, some (1, 15)⟩]⟩,
   ⟨"FAB_TAGS", 0x40040010, [], [⟨0, 9, .ro, 0, none⟩, ⟨16, 5, .ro, 0, none⟩]⟩,
   ⟨"FAB_STARVE", 0x40040014, [], [⟨0, 5, .ro, 0, none⟩, ⟨16, 16, .ro, 0, none⟩]⟩,
   ⟨"CHIP_CAUSE", 0x40020040, [], [⟨0, 8, .ro, 0, none⟩, ⟨8, 3, .ro, 0, none⟩, ⟨15, 1, .ro, 0, none⟩, ⟨16, 1, .ro, 0, none⟩]⟩,
   ⟨"CHIP_CAUSE_TS_LO", 0x40020044, [], [⟨0, 32, .ro, 0, none⟩]⟩,
   ⟨"CHIP_CAUSE_TS_HI", 0x40020048, [], [⟨0, 32, .ro, 0, none⟩]⟩,
   ⟨"CHIP_CAUSE_CNT", 0x4002004C, [], [⟨0, 16, .ro, 0, none⟩]⟩,
   ⟨"TRL_CTRL", 0x40000000, [], [⟨0, 1, .rw, 0, none⟩, ⟨1, 1, .rw, 0, none⟩, ⟨4, 1, .wo, 0, none⟩]⟩,
   ⟨"TRL_STATUS", 0x40000004, [], [⟨0, 3, .ro, 0, none⟩, ⟨4, 3, .ro, 7, none⟩, ⟨8, 1, .ro, 0, none⟩, ⟨9, 1, .ro, 0, none⟩]⟩,
   ⟨"TRL_TIME_LO", 0x40000008, [], [⟨0, 32, .rw, 0, none⟩]⟩,
   ⟨"TRL_TIME_HI", 0x4000000C, [], [⟨0, 32, .rw, 0, none⟩]⟩,
   ⟨"TRL_TIME_FRAC", 0x40000010, [], [⟨0, 16, .ro, 0, none⟩]⟩,
   ⟨"TRL_OFFSET", 0x40000014, [], [⟨0, 32, .ro, 0, none⟩]⟩,
   ⟨"TRL_HOLD_ERR", 0x40000018, [], [⟨0, 32, .ro, 4294967295, none⟩]⟩,
   ⟨"TRL_HOLD_TIME", 0x4000001C, [], [⟨0, 32, .ro, 0, none⟩]⟩,
   ⟨"TRL_PERIOD", 0x40000020, [], [⟨0, 18, .rw, 16000, some (4000, 160000)⟩]⟩,
   ⟨"TRL_EPOCH_LO", 0x40000024, [], [⟨0, 32, .rw, 0, none⟩]⟩]

/-- Registers of the chip space, part 1. -/
def chipRows1 : List Row :=
  [⟨"TRL_EPOCH_HI", 0x40000028, [], [⟨0, 32, .rw, 0, none⟩]⟩,
   ⟨"TRL_SLEW", 0x4000002C, [], [⟨0, 6, .rw, 51, some (1, 51)⟩]⟩,
   ⟨"TRL_PHASE_ERR", 0x40000030, [], [⟨0, 32, .ro, 0, none⟩]⟩,
   ⟨"TRL_TICK_CNT", 0x40000034, [], [⟨0, 32, .ro, 0, none⟩]⟩,
   ⟨"TRL_PORT", 0x40000038, [], [⟨0, 6, .rw, 63, none⟩]⟩,
   ⟨"TRL_ASYM", 0x40000040, [(0x4, 6)], [⟨0, 16, .rw, 0, none⟩]⟩,
   ⟨"HSL_DTFLOOR", 0x40020100, [(0x4, 32)], [⟨0, 16, .rwg, 5120, some (1280, 64000)⟩]⟩,
   ⟨"HSL_OV3SRC", 0x40020300, [(0x4, 4)], [⟨0, 16, .rwg, 0, none⟩]⟩,
   ⟨"HSL_OV3ACT", 0x40020310, [(0x4, 2)], [⟨0, 32, .rwg, 0, none⟩]⟩,
   ⟨"HSL_OV3SEL", 0x40020318, [], [⟨0, 32, .rwg, 0, none⟩]⟩,
   ⟨"HSL_OV3CFG", 0x4002031C, [], [⟨0, 8, .rwg, 5, some (1, 255)⟩, ⟨16, 8, .rwg, 100, some (1, 255)⟩]⟩,
   ⟨"HSL_OV3STAT", 0x40020320, [], [⟨0, 1, .ro, 0, none⟩, ⟨16, 16, .ro, 0, none⟩]⟩,
   ⟨"HSL_OV3_TS_LO", 0x40020324, [], [⟨0, 32, .ro, 0, none⟩]⟩,
   ⟨"HSL_OV3_TS_HI", 0x40020328, [], [⟨0, 32, .ro, 0, none⟩]⟩,
   ⟨"HSL_SAFE", 0x40020400, [(0x4, 32)], [⟨0, 2, .rwg, 0, none⟩, ⟨2, 1, .rwg, 0, none⟩, ⟨3, 1, .wos, 0, none⟩, ⟨4, 12, .rwg, 800, some (160, 4000)⟩, ⟨16, 1, .rwg, 1, none⟩, ⟨17, 3, .rwg, 3, none⟩, ⟨24, 8, .rwg, 0, none⟩]⟩,
   ⟨"HSL_UFIN", 0x40020480, [(0x4, 32)], [⟨0, 1, .rwg, 1, none⟩, ⟨1, 1, .rwg, 1, none⟩]⟩,
   ⟨"HSL_SOFTSLOT", 0x40020500, [(0x4, 4)], [⟨0, 5, .rwg, 0, none⟩, ⟨7, 1, .rwg, 0, none⟩]⟩,
   ⟨"HSL_STAT", 0x40020000, [], [⟨0, 1, .ro, 0, none⟩, ⟨1, 1, .ro, 0, none⟩, ⟨2, 1, .ro, 0, none⟩, ⟨4, 1, .ro, 1, none⟩, ⟨5, 1, .ro, 1, none⟩, ⟨6, 1, .ro, 1, none⟩, ⟨8, 1, .ro, 0, none⟩, ⟨9, 1, .ro, 0, none⟩]⟩,
   ⟨"HSL_SPLIT", 0x40020004, [], [⟨0, 1, .rwg, 0, none⟩]⟩,
   ⟨"HSL_TRIP", 0x40020050, [], [⟨0, 10, .ro, 0, none⟩, ⟨12, 4, .ro, 0, none⟩, ⟨16, 1, .ro, 0, none⟩]⟩]

/-- Registers of the chip space, part 2. -/
def chipRows2 : List Row :=
  [⟨"HSL_SFFAULT", 0x40020054, [], [⟨0, 8, .rwg, 0, none⟩]⟩,
   ⟨"HSL_UNLOCK", 0x40020058, [], [⟨0, 32, .wos, 0, none⟩]⟩,
   ⟨"HSL_RSTAUTH", 0x4002005C, [], [⟨0, 5, .rwg, 0, none⟩, ⟨7, 1, .rwg, 0, none⟩]⟩,
   ⟨"HSL_STO", 0x40020200, [], [⟨0, 10, .rwg, 100, some (1, 1000)⟩, ⟨16, 8, .rwg, 20, some (1, 255)⟩]⟩,
   ⟨"HSL_WD", 0x40020204, [], [⟨0, 10, .rwg, 250, some (100, 1000)⟩, ⟨16, 8, .rwg, 25, some (0, 90)⟩]⟩,
   ⟨"HSL_WDCHAL", 0x40020208, [], [⟨0, 16, .ro, 0, none⟩, ⟨16, 16, .ro, 0, none⟩]⟩,
   ⟨"HSL_WDRESP0", 0x4002020C, [], [⟨0, 16, .wo0, 0, none⟩]⟩,
   ⟨"HSL_WDRESP1", 0x40020210, [], [⟨0, 16, .wo1, 0, none⟩]⟩,
   ⟨"HSL_SAFEOUT", 0x40020220, [(0x4, 2)], [⟨0, 8, .rwg, 0, none⟩, ⟨8, 8, .rwg, 0, none⟩, ⟨16, 1, .rwg, 0, none⟩, ⟨17, 1, .rwg, 0, none⟩, ⟨18, 6, .rwg, 20, some (1, 63)⟩, ⟨24, 1, .rwg, 0, none⟩]⟩,
   ⟨"HSL_SAFEOUTSTAT", 0x40020228, [], [⟨0, 2, .ro, 0, none⟩, ⟨4, 2, .ro, 0, none⟩, ⟨16, 16, .ro, 0, none⟩]⟩,
   ⟨"HSL_SFACT", 0x40020240, [(0x4, 2)], [⟨0, 32, .rwg, 0, none⟩]⟩,
   ⟨"HSL_SFREQ", 0x40020248, [], [⟨0, 8, .rwg, 0, none⟩]⟩,
   ⟨"HSL_SFDONE", 0x4002024C, [], [⟨0, 8, .rwg, 0, none⟩]⟩,
   ⟨"HSL_SFSTAT", 0x40020250, [], [⟨0, 8, .ro, 0, none⟩, ⟨8, 8, .ro, 0, none⟩, ⟨16, 1, .ro, 0, none⟩]⟩,
   ⟨"HSL_UVSRC", 0x40020260, [(0x4, 4)], [⟨0, 16, .rwg, 0, none⟩]⟩,
   ⟨"HSL_UVCFG", 0x40020270, [], [⟨0, 1, .rwg, 0, none⟩]⟩,
   ⟨"HSL_SF_CFG", 0x40020600, [(0x20, 8)], [⟨0, 3, .rwg, 0, none⟩, ⟨3, 1, .rwg, 0, none⟩, ⟨4, 1, .rwg, 0, none⟩, ⟨5, 1, .rwg, 0, none⟩, ⟨8, 5, .rwg, 0, none⟩]⟩,
   ⟨"HSL_SF_UNITS", 0x40020604, [(0x20, 8)], [⟨0, 32, .rwg, 0, none⟩]⟩,
   ⟨"HSL_SF_P1", 0x40020608, [(0x20, 8)], [⟨0, 32, .rwg, 0, none⟩]⟩,
   ⟨"HSL_SF_P2", 0x4002060C, [(0x20, 8)], [⟨0, 32, .rwg, 0, none⟩]⟩]

/-- Registers of the chip space, part 3. -/
def chipRows3 : List Row :=
  [⟨"HSL_SF_CEIL", 0x40020610, [(0x20, 8)], [⟨0, 24, .rwg, 16777215, none⟩]⟩,
   ⟨"HSL_SF_WC", 0x40020614, [(0x20, 8)], [⟨0, 32, .ro, 4294967295, none⟩]⟩,
   ⟨"SCH_STAT", 0x40050000, [], [⟨0, 16, .ro, 0, none⟩, ⟨16, 16, .ro, 0, none⟩]⟩,
   ⟨"SCH_CON_CFG", 0x40050100, [(0x40, 32)], [⟨0, 1, .rwg, 0, none⟩, ⟨1, 1, .rwg, 0, none⟩, ⟨2, 1, .rwg, 0, none⟩, ⟨3, 1, .rwg, 1, none⟩, ⟨4, 5, .rwg, 0, none⟩, ⟨16, 7, .rwg, 0, some (0, 64)⟩, ⟨24, 8, .rwg, 1, some (1, 255)⟩]⟩,
   ⟨"SCH_CON_ID", 0x40050104, [(0x40, 32)], [⟨0, 32, .rwg, 0, none⟩]⟩,
   ⟨"SCH_CON_SID", 0x40050108, [(0x40, 32)], [⟨0, 32, .wos, 0, none⟩]⟩,
   ⟨"SCH_CON_AGE", 0x4005010C, [(0x40, 32)], [⟨0, 16, .rwg, 1000, some (1, 65535)⟩, ⟨16, 16, .rwg, 0, none⟩]⟩,
   ⟨"SCH_CON_WD", 0x40050110, [(0x40, 32)], [⟨0, 24, .rwg, 10000, none⟩]⟩,
   ⟨"SCH_CON_HOLD", 0x40050114, [(0x40, 32)], [⟨0, 16, .rwg, 50, some (1, 65535)⟩, ⟨16, 16, .rwg, 0, none⟩]⟩,
   ⟨"SCH_CON_CTRL", 0x40050118, [(0x40, 32)], [⟨0, 1, .wos, 0, none⟩, ⟨1, 1, .rwg, 0, none⟩]⟩,
   ⟨"SCH_CON_STAT", 0x4005011C, [(0x40, 32)], [⟨0, 2, .ro, 0, none⟩, ⟨4, 2, .ro, 0, none⟩, ⟨8, 4, .ro, 0, none⟩, ⟨12, 3, .ro, 0, none⟩, ⟨15, 1, .ro, 0, none⟩, ⟨16, 16, .ro, 0, none⟩]⟩,
   ⟨"SCH_CON_CNT", 0x40050120, [(0x40, 32)], [⟨0, 16, .ro, 0, none⟩, ⟨16, 16, .ro, 0, none⟩]⟩,
   ⟨"SCH_CON_CNT2", 0x40050124, [(0x40, 32)], [⟨0, 16, .ro, 0, none⟩, ⟨16, 16, .ro, 0, none⟩]⟩,
   ⟨"SCH_CON_AGEV", 0x40050128, [(0x40, 32)], [⟨0, 32, .ro, 0, none⟩]⟩,
   ⟨"SCH_BUF", 0x40051000, [(0x40, 32), (0x4, 16)], [⟨0, 32, .rwg, 0, none⟩]⟩,
   ⟨"CEL_STAT", 0x40030000, [], [⟨0, 3, .ro, 0, none⟩, ⟨4, 1, .ro, 0, none⟩, ⟨5, 1, .ro, 0, none⟩, ⟨8, 1, .ro, 0, none⟩, ⟨9, 1, .ro, 0, none⟩]⟩,
   ⟨"CEL_CMD", 0x40030004, [], [⟨0, 8, .wo, 0, none⟩, ⟨16, 16, .wo, 0, none⟩]⟩,
   ⟨"CEL_PTR", 0x40030008, [], [⟨0, 32, .rw, 0, none⟩]⟩,
   ⟨"CEL_LEN", 0x4003000C, [], [⟨0, 21, .rw, 0, none⟩]⟩,
   ⟨"CEL_RES", 0x40030010, [], [⟨0, 8, .ro, 0, none⟩, ⟨8, 8, .ro, 0, none⟩, ⟨16, 1, .w1c, 0, none⟩]⟩]

/-- Registers of the chip space, part 4. -/
def chipRows4 : List Row :=
  [⟨"CEL_ALARM", 0x40030014, [], [⟨0, 6, .ro, 0, none⟩]⟩,
   ⟨"CEL_CNT", 0x40030018, [], [⟨0, 16, .ro, 0, none⟩, ⟨16, 16, .ro, 0, none⟩]⟩,
   ⟨"CEL_VINT", 0x40030044, [(0x4, 5)], [⟨0, 32, .ro, 0, none⟩]⟩,
   ⟨"CEL_FLOOR", 0x40030064, [(0x4, 5)], [⟨0, 32, .ro, 0, none⟩]⟩,
   ⟨"CEL_BUMP", 0x40030084, [(0x4, 5)], [⟨0, 7, .ro, 0, none⟩]⟩,
   ⟨"CEL_SLOTS", 0x400300A0, [], [⟨0, 4, .ro, 0, none⟩, ⟨8, 4, .ro, 0, none⟩]⟩,
   ⟨"TAG_MAP", 0x40030400, [(0x10, 32)], [⟨0, 1, .rwg, 0, none⟩, ⟨4, 4, .rwg, 0, none⟩, ⟨8, 5, .rwg, 0, none⟩, ⟨16, 4, .rwg, 0, none⟩, ⟨24, 2, .rwg, 0, none⟩, ⟨31, 1, .rwg, 0, none⟩]⟩,
   ⟨"TAG_STAT", 0x40030404, [(0x10, 32)], [⟨0, 3, .ro, 0, none⟩, ⟨4, 2, .ro, 0, none⟩, ⟨16, 16, .ro, 0, none⟩]⟩,
   ⟨"TAG_LIFE", 0x40030408, [(0x10, 32)], [⟨0, 32, .ro, 0, none⟩]⟩,
   ⟨"TAG_FACT", 0x4003040C, [(0x10, 32)], [⟨0, 16, .ro, 32768, none⟩, ⟨16, 16, .ro, 0, none⟩]⟩,
   ⟨"LIFE_HOURS", 0x40030600, [], [⟨0, 24, .rwg, 60000, none⟩]⟩,
   ⟨"LIFE_KM", 0x40030604, [], [⟨0, 24, .rwg, 1000000, none⟩]⟩,
   ⟨"LIFE_MARGIN", 0x40030608, [], [⟨0, 32, .rwg, 85899345, none⟩]⟩,
   ⟨"LIFE_BAND", 0x4003060C, [], [⟨0, 32, .rwg, 214748364, none⟩]⟩,
   ⟨"LIFE_FMIN", 0x40030610, [], [⟨0, 16, .rwg, 22938, none⟩, ⟨16, 16, .rwg, 16384, none⟩]⟩,
   ⟨"MEM_CHIP", 0x40040100, [], [⟨0, 16, .ro, 0, none⟩, ⟨16, 16, .ro, 0, none⟩]⟩,
   ⟨"MEM_CHIP_ADDR", 0x40040104, [], [⟨0, 32, .ro, 0, none⟩]⟩,
   ⟨"MEM_SCRUB", 0x40040108, [], [⟨0, 16, .rw, 1000, some (10, 65535)⟩]⟩,
   ⟨"CHIP_IND_ADDR", 0x40060000, [], [⟨2, 30, .rw, 0, none⟩]⟩,
   ⟨"CHIP_IND_DATA", 0x40060004, [], [⟨0, 32, .rw, 0, none⟩]⟩]

/-- Registers of the chip space, part 5. -/
def chipRows5 : List Row :=
  [⟨"CHIP_IND_LOCK", 0x40060008, [], [⟨0, 5, .ro, 0, none⟩, ⟨8, 1, .rw, 0, none⟩]⟩,
   ⟨"CHIP_IND_STAT", 0x4006000C, [], [⟨0, 1, .w1c, 0, none⟩, ⟨1, 1, .w1c, 0, none⟩, ⟨2, 1, .ro, 0, none⟩]⟩,
   ⟨"CHIP_SNAP_CTRL", 0x40060010, [], [⟨0, 1, .wo, 0, none⟩, ⟨1, 1, .wo, 0, none⟩, ⟨16, 16, .ro, 0, none⟩]⟩,
   ⟨"CHIP_SNAP_TS_LO", 0x40060014, [], [⟨0, 32, .ro, 0, none⟩]⟩,
   ⟨"CHIP_SNAP_TS_HI", 0x40060018, [], [⟨0, 32, .ro, 0, none⟩]⟩,
   ⟨"EVR_R", 0x40010000, [(0x100, 2), (0x4, 64)], [⟨0, 8, .rw, 0, none⟩, ⟨8, 8, .rw, 0, none⟩, ⟨16, 8, .rw, 0, none⟩, ⟨31, 1, .rw, 0, none⟩]⟩,
   ⟨"EVR_RG", 0x40010200, [(0x100, 3), (0x4, 64)], [⟨0, 8, .rwg, 0, none⟩, ⟨8, 8, .rwg, 0, none⟩, ⟨16, 8, .rwg, 0, none⟩, ⟨31, 1, .rwg, 0, none⟩]⟩,
   ⟨"EVR_LN_R", 0x40010800, [(0x40, 16), (0x4, 16)], [⟨0, 8, .rw, 0, none⟩, ⟨8, 8, .rw, 0, none⟩, ⟨16, 8, .rw, 0, none⟩, ⟨31, 1, .rw, 0, none⟩]⟩,
   ⟨"EVR_PEND", 0x40010C00, [(0x8, 2), (0x4, 2)], [⟨0, 32, .w1c, 0, none⟩]⟩,
   ⟨"EVR_PENDG", 0x40010C10, [(0x8, 3), (0x4, 2)], [⟨0, 32, .w1cg, 0, none⟩]⟩,
   ⟨"EVR_CNT", 0x40011000, [(0x4, 256)], [⟨0, 16, .ro, 0, none⟩]⟩,
   ⟨"EVR_LOG_WR", 0x40011400, [], [⟨0, 8, .ro, 0, none⟩]⟩,
   ⟨"EVR_LOG_RD", 0x40011404, [], [⟨0, 8, .rw, 0, none⟩]⟩,
   ⟨"EVR_STAT", 0x40011408, [], [⟨0, 16, .ro, 0, none⟩]⟩,
   ⟨"EVR_LOGEN", 0x40011410, [(0x4, 8)], [⟨0, 32, .rw, 4294967295, none⟩]⟩,
   ⟨"EVR_SWRAISE", 0x40011430, [], [⟨0, 16, .wo, 0, none⟩]⟩,
   ⟨"EVR_SWARG", 0x40011434, [], [⟨0, 32, .rw, 0, none⟩]⟩,
   ⟨"EVR_LOG", 0x40012000, [(0x10, 256), (0x4, 4)], [⟨0, 32, .ro, 0, none⟩]⟩,
   ⟨"DEV_STAT", 0x40060100, [], [⟨0, 4, .rw, 0, none⟩, ⟨4, 1, .rw, 0, none⟩, ⟨8, 4, .rw, 0, none⟩, ⟨16, 16, .rw, 0, none⟩]⟩,
   ⟨"HSL_TEST", 0x40020710, [], [⟨0, 1, .rwg, 0, none⟩, ⟨1, 1, .ro, 0, none⟩, ⟨4, 1, .wos, 0, none⟩, ⟨8, 1, .ro, 0, none⟩, ⟨9, 1, .ro, 0, none⟩, ⟨16, 7, .ro, 0, none⟩, ⟨24, 2, .ro, 0, none⟩]⟩]

/-- Registers of the chip space, part 6. -/
def chipRows6 : List Row :=
  [⟨"CHIP_RACK", 0x40060110, [], [⟨0, 1, .wo, 0, none⟩, ⟨1, 1, .wo, 0, none⟩, ⟨2, 1, .wo, 0, none⟩, ⟨3, 1, .wo, 0, none⟩, ⟨8, 8, .rw, 10, some (1, 255)⟩, ⟨16, 2, .ro, 0, none⟩, ⟨20, 1, .ro, 0, none⟩, ⟨24, 8, .ro, 0, none⟩]⟩,
   ⟨"HSL_UPD", 0x40020700, [], [⟨0, 1, .rwg, 0, none⟩, ⟨8, 2, .ro, 0, none⟩, ⟨16, 8, .rwg, 20, some (1, 255)⟩]⟩]

/-- Registers of the chip space. -/
def chipRows : List Row := chipRows0 ++ chipRows1 ++ chipRows2 ++ chipRows3 ++ chipRows4 ++ chipRows5 ++ chipRows6

/-- Registers of the port space. -/
def portRows : List Row :=
  [⟨"PORT_CTRL", 0x0, [], [⟨0, 1, .rw, 0, none⟩, ⟨1, 1, .rw, 0, none⟩]⟩,
   ⟨"PORT_STAT", 0x4, [], [⟨0, 1, .ro, 0, none⟩, ⟨4, 4, .ro, 0, none⟩]⟩,
   ⟨"PORT_CNT", 0x8, [], [⟨0, 16, .ro, 0, none⟩, ⟨16, 16, .ro, 0, none⟩]⟩,
   ⟨"PORT_CNT2", 0xC, [], [⟨0, 16, .ro, 0, none⟩, ⟨16, 16, .ro, 0, none⟩]⟩]

/-- Registers of the ring space. -/
def ringRows : List Row :=
  [⟨"RING_TXBASE", 0x40, [], [⟨5, 27, .rw, 0, none⟩]⟩,
   ⟨"RING_TXLEN", 0x44, [], [⟨0, 11, .rw, 2, some (2, 1024)⟩]⟩,
   ⟨"RING_TXDB", 0x48, [], [⟨0, 1, .wo, 0, none⟩]⟩,
   ⟨"RING_RXBASE", 0x50, [], [⟨5, 27, .rw, 0, none⟩]⟩,
   ⟨"RING_RXLEN", 0x54, [], [⟨0, 11, .rw, 2, some (2, 1024)⟩]⟩,
   ⟨"RING_RXDB", 0x58, [], [⟨0, 1, .wo, 0, none⟩]⟩,
   ⟨"RING_STAT", 0x5C, [], [⟨0, 10, .ro, 0, none⟩, ⟨16, 10, .ro, 0, none⟩]⟩]

/-- Registers of the eth space. -/
def ethRows : List Row :=
  [⟨"ETH_CFG", 0x100, [], [⟨0, 1, .rw, 0, none⟩, ⟨8, 1, .rw, 1, none⟩]⟩,
   ⟨"ETH_MAC_LO", 0x104, [], [⟨0, 32, .rw, 0, none⟩]⟩,
   ⟨"ETH_MAC_HI", 0x108, [], [⟨0, 16, .rw, 0, none⟩]⟩,
   ⟨"ETH_SCH", 0x10C, [], [⟨0, 16, .rw, 34997, none⟩]⟩,
   ⟨"ETH_SCHDST_LO", 0x110, [], [⟨0, 32, .rw, 0, none⟩]⟩,
   ⟨"ETH_SCHDST_HI", 0x114, [], [⟨0, 16, .rw, 0, none⟩]⟩,
   ⟨"ETH_PLCA", 0x118, [], [⟨0, 8, .rw, 255, none⟩, ⟨8, 8, .rw, 8, none⟩, ⟨16, 8, .rw, 0, none⟩, ⟨24, 8, .rw, 32, none⟩]⟩,
   ⟨"ETH_CNT3", 0x11C, [], [⟨0, 16, .ro, 0, none⟩, ⟨16, 16, .ro, 0, none⟩]⟩,
   ⟨"ETH_MC_LO", 0x140, [(0x8, 16)], [⟨0, 32, .rw, 0, none⟩]⟩,
   ⟨"ETH_MC_HI", 0x144, [(0x8, 16)], [⟨0, 16, .rw, 0, none⟩, ⟨31, 1, .rw, 0, none⟩]⟩]

/-- Registers of the can space. -/
def canRows : List Row :=
  [⟨"CAN_CFG", 0x100, [], [⟨0, 2, .rw, 0, some (0, 2)⟩, ⟨4, 1, .rw, 0, none⟩, ⟨5, 1, .rw, 1, none⟩, ⟨8, 8, .rw, 0, none⟩]⟩,
   ⟨"CAN_NBT", 0x104, [], [⟨0, 8, .rw, 10, some (1, 255)⟩, ⟨8, 8, .rw, 12, some (2, 255)⟩, ⟨16, 7, .rw, 3, some (1, 127)⟩, ⟨24, 7, .rw, 3, some (1, 127)⟩]⟩,
   ⟨"CAN_DBT", 0x108, [], [⟨0, 5, .rw, 2, some (1, 31)⟩, ⟨8, 5, .rw, 14, some (1, 31)⟩, ⟨16, 4, .rw, 5, some (1, 15)⟩, ⟨24, 4, .rw, 5, some (1, 15)⟩]⟩,
   ⟨"CAN_PWM", 0x10C, [], [⟨0, 6, .rw, 0, none⟩, ⟨8, 6, .rw, 0, none⟩, ⟨16, 6, .rw, 0, none⟩]⟩,
   ⟨"CAN_ERR", 0x110, [], [⟨0, 8, .ro, 0, none⟩, ⟨8, 8, .ro, 0, none⟩, ⟨16, 2, .ro, 0, none⟩]⟩,
   ⟨"CAN_FLT_ID", 0x180, [(0x8, 32)], [⟨0, 29, .rw, 0, none⟩]⟩,
   ⟨"CAN_FLT_MASK", 0x184, [(0x8, 32)], [⟨0, 29, .rw, 0, none⟩, ⟨31, 1, .rw, 0, none⟩]⟩]

/-- Registers of the lin space. -/
def linRows : List Row :=
  [⟨"LIN_CFG", 0x100, [], [⟨0, 1, .rw, 0, none⟩, ⟨1, 16, .rw, 19200, some (1000, 20000)⟩, ⟨19, 5, .rw, 13, some (13, 26)⟩]⟩,
   ⟨"LIN_RTAB", 0x104, [], [⟨4, 28, .rw, 0, none⟩]⟩]

/-- Registers of the ssi space. -/
def ssiRows : List Row :=
  [⟨"SSI_CFG", 0x100, [], [⟨0, 12, .rw, 400, some (40, 4000)⟩, ⟨12, 8, .rw, 0, none⟩, ⟨20, 8, .rw, 20, some (1, 255)⟩]⟩]

/-- Registers of the mtb space. -/
def mtbRows : List Row :=
  [⟨"MTB_CFG", 0x100, [], [⟨0, 8, .rw, 10, some (2, 255)⟩]⟩,
   ⟨"MTB_CMD", 0x104, [], [⟨0, 4, .wo, 0, none⟩, ⟨4, 4, .wo, 0, none⟩, ⟨16, 9, .wo, 0, none⟩]⟩,
   ⟨"MTB_SCMD", 0x108, [], [⟨0, 4, .woc, 0, none⟩, ⟨4, 4, .woc, 0, none⟩, ⟨16, 9, .woc, 0, none⟩]⟩,
   ⟨"MTB_STAT", 0x10C, [], [⟨0, 1, .ro, 0, none⟩, ⟨1, 1, .ro, 0, none⟩, ⟨4, 4, .ro, 0, none⟩, ⟨8, 8, .ro, 0, none⟩, ⟨16, 9, .ro, 0, none⟩]⟩,
   ⟨"MTB_CNT", 0x110, [], [⟨0, 16, .ro, 0, none⟩, ⟨16, 16, .ro, 0, none⟩]⟩]

/-- Registers of the axl space. -/
def axlRows : List Row :=
  [⟨"AXL_STAT", 0x100, [], [⟨0, 2, .ro, 0, none⟩, ⟨4, 1, .ro, 0, none⟩]⟩,
   ⟨"AXL_ASYM", 0x104, [], [⟨0, 16, .rw, 0, none⟩]⟩,
   ⟨"AXL_OWD", 0x108, [], [⟨0, 20, .ro, 0, none⟩]⟩,
   ⟨"AXL_PHERR", 0x10C, [], [⟨0, 32, .ro, 0, none⟩]⟩,
   ⟨"AXL_BUDGET", 0x110, [], [⟨0, 18, .rw, 900, none⟩]⟩,
   ⟨"AXL_CNT", 0x114, [], [⟨0, 16, .ro, 0, none⟩, ⟨16, 16, .ro, 0, none⟩]⟩,
   ⟨"AXL_CNT2", 0x118, [], [⟨0, 16, .ro, 0, none⟩, ⟨16, 16, .ro, 0, none⟩]⟩,
   ⟨"AXL_CNT3", 0x11C, [], [⟨0, 16, .ro, 0, none⟩, ⟨16, 16, .ro, 0, none⟩]⟩,
   ⟨"AXL_SLOT_CFG", 0x200, [(0x8, 16)], [⟨0, 1, .rw, 0, none⟩, ⟨1, 1, .rw, 0, none⟩, ⟨2, 2, .rw, 0, none⟩, ⟨4, 8, .rw, 0, none⟩, ⟨12, 6, .rw, 1, some (1, 32)⟩, ⟨18, 4, .rw, 0, none⟩]⟩,
   ⟨"AXL_SLOT_ADDR", 0x204, [(0x8, 16)], [⟨3, 15, .rw, 0, none⟩]⟩]

/-- Registers of the cind space. -/
def cindRows : List Row :=
  [⟨"NVS_SUBMIT", 0x1000, [], [⟨0, 32, .wo, 0, none⟩]⟩,
   ⟨"NVS_STAT", 0x1004, [], [⟨0, 4, .ro, 0, none⟩, ⟨4, 1, .ro, 0, none⟩, ⟨8, 1, .ro, 0, none⟩]⟩,
   ⟨"NVS_CNT", 0x1008, [], [⟨0, 16, .ro, 0, none⟩, ⟨16, 16, .ro, 0, none⟩]⟩,
   ⟨"NVS_CNT2", 0x100C, [], [⟨0, 16, .ro, 0, none⟩, ⟨16, 16, .ro, 0, none⟩]⟩,
   ⟨"NVS_SCRUB", 0x1010, [], [⟨0, 16, .rw, 1300, some (1, 65535)⟩]⟩,
   ⟨"NVS_UE_SECT", 0x1014, [], [⟨0, 16, .ro, 0, none⟩]⟩]

/-- Whether an offset from a row's first register is one of its repetitions. -/
def onStride : List (Nat × Nat) → Nat → Bool
  | [], x => x == 0
  | (s, n) :: t, x => if x < s * n then onStride t (x % s) else false

/-- Whether a row holds the register at offset `x` of its space. -/
def Row.holds (r : Row) (x : Nat) : Bool :=
  if r.off ≤ x then onStride r.strides (x - r.off) else false

/-- The row that holds offset `x`. -/
def findRow : List Row → Nat → Option Row
  | [], _ => none
  | r :: t, x => if r.holds x then some r else findRow t x

/-- The word a list of fields shows at reset. -/
def resetOf : List FieldRow → Nat
  | [] => 0
  | f :: t => f.reset * 2 ^ f.lo + resetOf t

/-- First address of region `r` (R494). -/
def rgnBase (r : Nat) : Nat := 0x20000000 + r * 0x1000000
/-- First address of the region registers of region `r` (R494). -/
def rgnReg (r : Nat) : Nat := rgnBase r + 0x800000
/-- First address of block `b`, by its chip number (R494). -/
def blkBase (b : Nat) : Nat := rgnBase (b / 4) + 0x400000 + b % 4 * 0x100000
/-- First address of the block registers of block `b` (R494). -/
def blkReg (b : Nat) : Nat := blkBase b + 0xC0000
/-- First address of the intake buffer of block `b` (R494). -/
def intakeBase (b : Nat) : Nat := blkBase b + 0xC8000
/-- First address of the registers of leg `k`, by its chip number (R494). -/
def legReg (k : Nat) : Nat := blkBase (k / 8) + 0xD0000 + k % 8 * 0x100
/-- First address of port `p` (R494). -/
def portReg (p : Nat) : Nat := 0x40100000 + p * 0x10000

/-- The register rows of port `p`, by its kind (R460): Ethernet 0 to 5, CAN 6 to 13, LIN 14 and 15, SSI 16
to 19, module-tag buses 20 and 21, axle links 22 and 23. -/
def portRowsOf (p : Nat) : List Row :=
  if p < 6 then portRows ++ ringRows ++ ethRows
  else if p < 14 then portRows ++ ringRows ++ canRows
  else if p < 16 then portRows ++ ringRows ++ linRows
  else if p < 20 then portRows ++ ssiRows
  else if p < 22 then portRows ++ mtbRows
  else portRows ++ ringRows ++ axlRows

/-- The register space an address lies in, as its rows and the offset within it; none for an address that
lies in no register space of R494. -/
def regSpace (a : Nat) : Option (List Row × Nat) :=
  if 0x20000000 ≤ a ∧ a < 0x24000000 then
    let x := (a - 0x20000000) % 0x1000000
    if 0x400000 ≤ x ∧ x < 0x800000 then
      let y := x % 0x100000
      if 0xC0000 ≤ y ∧ y < 0xC8000 then some (blkRows, y - 0xC0000)
      else if 0xD0000 ≤ y ∧ y < 0xD0800 then some (legRows, (y - 0xD0000) % 0x100)
      else none
    else if 0x800000 ≤ x ∧ x < 0x804000 then some (rgnRows, x - 0x800000)
    else none
  else if 0x40000000 ≤ a ∧ a < 0x40070000 then some (chipRows, a)
  else if 0x40100000 ≤ a ∧ a < 0x40280000 then
    some (portRowsOf ((a - 0x40100000) / 0x10000), (a - 0x40100000) % 0x10000)
  else none

/-- The row of the register at address `a`. -/
def rowAt (a : Nat) : Option Row :=
  match regSpace a with
  | none => none
  | some (rows, x) => findRow rows x

/-- What a register that nothing has written reads as: its reset value (R11), and 0 at an unassigned
offset (R495). -/
def resetWord (a : Nat) : Word :=
  match rowAt a with
  | none => 0
  | some r => BitVec.ofNat 32 (resetOf r.fields)

/-- What an unwritten register of the chip's indirect space reads as (R446, R502). -/
def indReset (a : Nat) : Word :=
  match findRow cindRows a with
  | none => 0
  | some r => BitVec.ofNat 32 (resetOf r.fields)

end Sys2Proof.Machine
end

