-- ==== Sys2Proof/Machine/Store.lean ====
section
/-! DEFINITION. Sparse plain data by number: a list of (key, value) pairs with strictly rising keys,
in which no entry equals what an unlisted key reads as. -/

namespace Sys2Proof.Machine

/-- Sparse data by number. What an unlisted key reads as is a function given at every read and write,
so that the store itself is plain data. -/
abbrev Store (α : Type) := List (Nat × α)

/-- The value at key `k`: the listed one, else the default's. -/
def Store.get {α : Type} (dflt : Nat → α) : Store α → Nat → α
  | [], k => dflt k
  | (j, v) :: t, k => if j = k then v else Store.get dflt t k

/-- The store without an entry at `k`. -/
def Store.drop {α : Type} : Store α → Nat → Store α
  | [], _ => []
  | (j, v) :: t, k => if j = k then Store.drop t k else (j, v) :: Store.drop t k

/-- The store with the entry `(k, v)` at its place in the rising order. -/
def Store.put {α : Type} : Store α → Nat → α → Store α
  | [], k, v => [(k, v)]
  | (j, w) :: t, k, v =>
    if k < j then (k, v) :: (j, w) :: t
    else if j = k then (k, v) :: t
    else (j, w) :: Store.put t k v

/-- Write `v` at `k`. Writing what an unlisted key reads as removes the entry. -/
def Store.set {α : Type} [DecidableEq α] (dflt : Nat → α) (m : Store α) (k : Nat) (v : α) : Store α :=
  if v = dflt k then Store.drop m k else Store.put m k v

/-- Every key of the store is above `n`. -/
def Store.above {α : Type} (n : Nat) : Store α → Bool
  | [] => true
  | (j, _) :: t => decide (n < j) && Store.above n t

/-- The canonical form: keys strictly rising, and no entry equal to the default of its key. -/
def Store.wf {α : Type} [DecidableEq α] (dflt : Nat → α) : Store α → Bool
  | [] => true
  | (j, v) :: t => Store.above j t && !(decide (v = dflt j)) && Store.wf dflt t

end Sys2Proof.Machine
end

