-- ==== Sys2Proof/Syntax.lean ====
section
/-! DEFINITION. The commands of the device: one constructor per row of spec/opcode_table.json, with the
row's operands. -/

namespace Sys2Proof

/-- Region RGN0 to RGN3 (R4). -/
abbrev RegionId := Fin 4
/-- Block BLK0 to BLK15, and its lane LN0 to LN15 (R4). -/
abbrev BlockId := Fin 16
/-- Leg LEG0 to LEG127 by its chip number (R4). -/
abbrev LegId := Fin 128
/-- Unit U0 to U31 (R4). -/
abbrev UnitId := Fin 32
/-- Port 0 to 23 (R460). -/
abbrev PortId := Fin 24
/-- Ethernet port ETH0 to ETH5 (R460). -/
abbrev EthPort := Fin 6
/-- CAN port CAN0 to CAN7 (R460). -/
abbrev CanPort := Fin 8
/-- LIN port LIN0, LIN1 (R460). -/
abbrev LinPort := Fin 2
/-- Axle-link port AXL0, AXL1 (R460). -/
abbrev AxlPort := Fin 2
/-- Fabric master identifier 0 to 27 (R27). -/
abbrev MasterId := Fin 28
/-- A time in units of 2^-16 ns (R43). -/
abbrev PtpTime := BitVec 80

/-- A fabric master with the attribute of its access: machine mode with the secure attribute (R9, R27). -/
structure Master where
  id : MasterId
  secure : Bool
  deriving DecidableEq, Repr

/-- General lane register g0 to g31 (R75). -/
abbrev GReg := Fin 32
/-- Lane accumulator acc0 to acc3 (R75). -/
abbrev AReg := Fin 4
/-- Lane vector register m0 to m7 with its exponent (R75). -/
abbrev VReg := Fin 8

/-- The two A slots of a bundle (R120). -/
inductive ASlot where
  | a0 | a1
  deriving DecidableEq, Repr

/-- The four slots of a bundle (R118). -/
inductive Slot where
  | a0 | a1 | m | c
  deriving DecidableEq, Repr

/-- The shift amount of SHL and SHRA: an immediate, or the low bits of a register (R125). -/
inductive Shift where
  | imm (n : BitVec 5)
  | reg (r : GReg)
  deriving DecidableEq, Repr

/-- The operands of PUT and GET (R131): channel, word offset, one less than the number of registers,
vector form, and the first register. -/
structure ExchOp where
  ch : BitVec 8
  wo : BitVec 5
  n : BitVec 3
  vec : Bool
  d : GReg
  deriving DecidableEq, Repr

inductive Rail where | core | ana | io | adc | lnk | drv
  deriving DecidableEq, Repr
inductive HoldRail where | ana | io | lnk | drv
  deriving DecidableEq, Repr
/-- The leg registers of R186. -/
inductive LegCfgReg where | cfg | period | phase | dt | hs | minon
  deriving DecidableEq, Repr
/-- The feedback registers whose writes can be refused (R257, R268, R271, R276) or restart the speed (R261); `probe`
names PRB_CFG of the local probe. -/
inductive FbReg where | cfg | qep | resCfg | ssi | probe
  deriving DecidableEq, Repr
/-- The registers of a safety-function slot (R384). -/
inductive SfReg where | cfg | units | p1 | p2 | ceil
  deriving DecidableEq, Repr
/-- The rainflow registers whose writes R423 refuses. -/
inductive RfReg where
  | ch (n : Fin 16)
  | cfg
  | base
  deriving DecidableEq, Repr
/-- The capture registers whose writes R454 guards: CAP_CFG, CAP_SMP, CAP_BASE and the words CAP_SEL0 to CAP_SEL3. -/
inductive CapReg where
  | cfg | smp | base
  | sel (k : Fin 4)
  deriving DecidableEq, Repr
/-- What differs, as seen at the far end of a fabric path, from what was sent: bits of the address as the memory decodes it, of
the byte enables and of the data of a beat (R434). -/
structure BeatNoise where
  addr : Word
  be : Byte
  data : DWord
  deriving DecidableEq, Repr
/-- What the input of a converter's channel shows: its voltage in µV before the scaling of the channel, and for the temperature of
a die that in thousandths of 1 °C (R188). -/
structure AdcSeen where
  uv : Nat
  milliC : Int
  deriving DecidableEq, Repr
/-- An external access of a safety core: a write or a read of an address outside its own SRAM, with its size in bytes
(R345). -/
inductive PairAccess where
  | write (addr : Word) (size : Nat) (v : Word)
  | read (addr : Word) (size : Nat)
  deriving DecidableEq, Repr
/-- What the safety firmware reads at the start of a frame beside the device's own registers and memories (R349): requests for
slots from the application firmware (R360), and the payload of a mechanical-brake request with the connection of the
brake controller (R314). -/
structure SafetyInputs where
  request : BitVec 8
  brake : Option (Fin 32 × List Byte)
  deriving DecidableEq, Repr
/-- The user's regenerating limit of a traction unit in 0.01 %, as the DC-link service holds it (R313). -/
structure RegenShare where
  unit : UnitId
  limit : Nat
  deriving DecidableEq, Repr
/-- A job of the DC-link service: a new set of thresholds in V, with the DAC code of the OV3 windows (R307), or new
regenerating limits for the traction units, with the capacity in W that the other device reports (R313). -/
inductive DcLinkJob where
  | thresholds (ov1 ov2 ov3 : Nat) (code : BitVec 10)
  | limits (shares : List RegenShare) (peer : Nat)
  deriving DecidableEq, Repr
/-- What the inner code finds in NVS, and whether the sector code then recovers the sector (R440). -/
inductive EccSeen where
  | clean
  | corrected
  | uncorrectable (recovers : Bool)
  deriving DecidableEq, Repr
/-- A module tag: identity record, life record and the secret of its key (R412, R413). -/
structure ModuleTag where
  id : List Byte
  life : List Byte
  key : List Byte
  deriving DecidableEq, Repr
inductive IndScope where
  | chip
  | region (r : RegionId)
  deriving DecidableEq, Repr
/-- A lane program of a lane set: its bundles, its table bank as words, and whether it is a Staveno reference program. -/
structure LaneProgram where
  block : BlockId
  bundles : List QWord
  table : List Word
  reference : Bool
  deriving DecidableEq, Repr
/-- The content of a region lane set Cask (R140, R151, R394, R527): region mask, the 16 budget words, programs, exchange
descriptors by region and channel, and the state map without its entry count. -/
structure LaneSetImage where
  mask : BitVec 4
  budget : List Word
  programs : List LaneProgram
  exch : List (RegionId × Fin 256 × Word)
  map : List Byte
  deriving DecidableEq, Repr
/-- Where the frame of an Ethernet transmission comes from (R464). -/
inductive TxSource where
  | ring
  | trellis (frame : List Byte)
  | safe
  deriving DecidableEq, Repr
/-- A CAN frame: format 0 classic, 1 FD, 2 XL, with the fields of R469. -/
structure CanFrame where
  format : Fin 3
  ext : Bool
  brs : Bool
  remote : Bool
  esi : Bool
  id : BitVec 29
  xl : Word
  accept : Word
  data : List Byte
  deriving DecidableEq, Repr
/-- The response to a LIN header: none yet, data with its checksum right or wrong, or a bit or framing error (R472). -/
inductive LinResponse where
  | none
  | data (l : List Byte)
  | framing
  deriving DecidableEq, Repr


/-- What an Announce message says of its master (IEEE 802.1AS, R46): in the order in which the best master clock algorithm
compares, priority1, clockClass, the accuracy and variance of the clock, priority2, the clock's identity, and the steps to it. -/
structure ClockRank where
  priority1 : Byte
  clockClass : Byte
  quality : BitVec 24
  priority2 : Byte
  identity : BitVec 64
  steps : BitVec 16
  deriving DecidableEq, Repr
/-- The configurable part of the device's own rank (R46). -/
structure OwnClock where
  priority1 : Byte
  clockClass : Byte
  priority2 : Byte
  deriving DecidableEq, Repr
/-- The commands of the device: first those that it puts into its own queue (assumption 1), then the others; each group in the order of
spec/opcode_table.json. -/
inductive Instr where
  /-- DISABLE_PATH_TEST_END (R520): The disable-path test ends: on success it releases the legs and sets pass, on failure it records the leg and cause and trips the HSL; in both cases it raises HSL_TEST_DONE. -/
  | disablePathTestEnd (line : Option (LegId × Bool))
  /-- SYNC_TIMEOUT (R48): No Sync arrives for 3 sync intervals of the master, moving LOCKED to HOLDOVER, or ACQUIRE to GM or FREE. -/
  | syncTimeout
  /-- FRAME_TICK (R56): The Trellis emits the frame tick at the grid instant, re-phasing by up to TRL_SLEW.step, and updates TRL_TICK_CNT and TRL_HOLD_ERR. -/
  | frameTick
  /-- SUB_TICK_START (R58): A block's sub-tick begins: LANE_EVC_LIVE is copied to PREV and cleared, fresh bits are cleared, and tick-locked counters restart. -/
  | subTickStart (b : BlockId)
  /-- COMPUTE_BOUNDARY (R86): At the compute boundary, a lane in DONE starts at LANE_ENTRY of its active slot. -/
  | computeBoundary (b : BlockId)
  /-- PHASE_BOUNDARY (R60): The exchange or commit boundary begins, releasing lanes held by WAIT_PHASE, EXCH or COMMIT; the exchange boundary clears the channels' ready marks. -/
  | phaseBoundary (b : BlockId) (commit : Bool)
  /-- COMMIT_POINT (R63): At the commit point, commands of completed lanes are sealed and commands of overrunning lanes are withdrawn; the window guard and shed sequencer then act. -/
  | commitPoint (b : BlockId)
  /-- SHED_START (R294): The dwell count at or below the shed threshold completes, and the sequencer starts ramping out the highest-rank phase. -/
  | shedStart (r : RegionId) (q : Fin 2)
  /-- SHED_COMPLETE (R294): At step R the shedding leg becomes shed, n_act falls by one, SHD_CNT.sheds increments and the state becomes DWELL. -/
  | shedComplete (r : RegionId) (q : Fin 2)
  /-- SHED_DWELL_END (R293): The DWELL count of commit points completes and the sequencer returns to IDLE. -/
  | shedDwellEnd (r : RegionId) (q : Fin 2)
  /-- SHED_HOLD_OFF_END (R299): The HOLD_OFF count of commit points completes and the sequencer returns to IDLE. -/
  | shedHoldOffEnd (r : RegionId) (q : Fin 2)
  /-- RAINFLOW_SAMPLE (R422): A rainflow channel's read of its temperature word completes after waiting for an idle cycle; turning points and four-point cycles are counted into the histogram. -/
  | rainflowSample (r : RegionId) (n : Fin 16)
  /-- EVENT_WAIT_DEADLINE (R116): An event wait reaches its deadline, sets evt_late and raises LANE_EVT_LATE. -/
  | eventWaitDeadline (ln : BlockId)
  /-- PUT (R107): Writes words to an exchange channel and, with seal, marks it ready; it is refused under R108. -/
  | put (ln : BlockId) (x : ExchOp) (sealing : Bool)
  /-- GET (R107): Requests words from an exchange channel and waits until it is ready. -/
  | get (ln : BlockId) (x : ExchOp)
  /-- GET_COMPLETE (R107): A waiting GET completes once its channel is ready, and its destinations are written 2 cycles later. -/
  | getComplete (ln : BlockId)
  /-- EXCH_TIMEOUT (R26): An EXCH not completed by s + 255 or by the commit boundary is ended without writing, which is a block fault. -/
  | exchTimeout (ln : BlockId)
  /-- CARRIER_VALLEY (R157): The leg counter reaches c = 0, giving the valley update event, sample triggers and latch releases. -/
  | carrierValley (k : LegId) (at_ : Fin 32)
  /-- CARRIER_PEAK (R157): The leg counter reaches ⌊P/2⌋, giving the peak update event and sample triggers. -/
  | carrierPeak (k : LegId) (at_ : Fin 32)
  /-- REQUEST_EDGE (R164): The compare request rises or falls, turning the complementary channel off and starting the dead time. -/
  | requestEdge (k : LegId) (at_ : Fin 32)
  /-- DEAD_TIME_END (R166): The dead time in force elapses and the channel turns on if the complementary side shows off, subject to min_on. -/
  | deadTimeEnd (k : LegId) (at_ : Fin 32)
  /-- HANDSHAKE_TIMEOUT (R168): The complementary channel does not show off within LEG_HS.timeout; both channels go off and the leg enters FAULT. -/
  | handshakeTimeout (k : LegId)
  /-- HARD_COMPARATOR_TRIP (R320): The current crosses the hard threshold; both channels go off asynchronously and the leg enters FAULT. -/
  | hardComparatorTrip (k : LegId) (uv : Option Nat)
  /-- TRIP_COMPARATOR_TRIP (R209): The trip comparator with clear latching goes active outside blanking; the leg goes off and enters FAULT. -/
  | tripComparatorTrip (k : LegId) (uv : Option Nat)
  /-- CYCLE_LIMIT (R162): A period-latched trip comparator ends the control channel's on-interval until the next valley and increments LEG_CBC. -/
  | cycleLimit (k : LegId) (uv : Option Nat)
  /-- BLANKING_END (R208): Blanking of the trip comparator ends, and an already active output acts at once. -/
  | blankingEnd (k : LegId)
  /-- ZERO_CURRENT_DETECT (R215): In diode emulation, the mapped window comparator turns the low side off until its next scheduled turn-on. -/
  | zeroCurrentDetect (k : LegId) (uv : Option Nat)
  /-- SINC1_OVERCURRENT (R203): The sinc1 value reaches the threshold and trips every masked leg to FAULT, raising SD_OVERCURRENT. -/
  | sinc1Overcurrent (r : RegionId) (n : Fin 16) (bits : List Bool)
  /-- FLT_INPUT (R177): The FLT input stays active for flt_filt cycles; the leg enters FAULT and both channels go off. -/
  | fltInput (k : LegId) (level : Bool)
  /-- SOFT_OFF_END (R178): t1 elapses in SOFT_OFF; the soft path is released and the leg enters OFF_SETTLE. -/
  | softOffEnd (k : LegId)
  /-- OFF_SETTLE_END (R177): Both channels show off for at least the floor and the leg enters OFF, or a timeout sends it to FAULT. -/
  | offSettleEnd (k : LegId)
  /-- ATTRIBUTION_WINDOW_END (R324): The 2 µs window ends with one side, and the unit applies ASC on that side or its configured kind. -/
  | attributionWindowEnd (u : UnitId)
  /-- ASC_EXIT_STEP (R334): The asc_step timer expires and the next leg is released to OFF_SETTLE. -/
  | ascExitStep (u : UnitId)
  /-- ENABLING_TIMEOUT (R331): en_to frame ticks pass in ENABLING without RUN; immediate off and ENABLE_TIMEOUT. -/
  | enablingTimeout (u : UnitId)
  /-- QUIET_TIME_END (R331): The quiet time in OFF_SETTLE elapses and the unit becomes DISABLED or LOCKED_OUT. -/
  | quietTimeEnd (u : UnitId)
  /-- ADC_TRIGGER (R190): A valley, peak, boundary, sub-tick or software trigger starts a sequence's wait, or is lost if it is already waiting or running. -/
  | adcTrigger (r : RegionId) (a : Fin 4) (q : Fin 2)
  /-- ADC_SEQUENCE_START (R192): After its delay and any wait for the other sequence, a sequence starts, abandoning a background conversion. -/
  | adcSequenceStart (r : RegionId) (a : Fin 4) (q : Fin 2)
  /-- ADC_RESULT (R189): An entry's conversion result lands in the intake buffers; the last one completes the sequence and may set a condition bit. -/
  | adcResult (r : RegionId) (a : Fin 4) (q : Fin 2) (x : Option AdcSeen)
  /-- SD_DECIMATION_OUTPUT (R200): A sinc3 output lands in the intake buffer 8 lane cycles after its decimation instant. -/
  | sdDecimationOutput (r : RegionId) (n : Fin 16) (bits : List Bool)
  /-- SD_STUCK (R204): A data pin holds one level for 64 modulator clocks. -/
  | sdStuck (r : RegionId) (n : Fin 16) (bits : List Bool)
  /-- WINDOW_COMPARATOR_ACTIVE (R213): A window comparator's filtered output goes active: latched set, count, WIN_TRIP, condition bit 7. -/
  | windowComparatorActive (r : RegionId) (n : Fin 16) (uv : Option Nat)
  /-- FB_SAMPLE (R258): At a feedback sample instant, the channel latches position and speed into the intake buffer, or starts an SSI frame. -/
  | fbSample (r : RegionId) (f : Fin 2)
  /-- QEP_EDGE (R261): A filtered quadrature edge changes the count, or is illegal and raises QEP_ILLEGAL. -/
  | qepEdge (r : RegionId) (f : Fin 2) (a : Bool) (b : Bool)
  /-- INDEX_EDGE (R263): A rising filtered Z edge is handled by idx_mode: latched, zeroed, checked or corrected. -/
  | indexEdge (r : RegionId) (f : Fin 2) (z : Bool)
  /-- HALL_STATE_CHANGE (R265): A valid Hall state change sets the sector angle, or raises HALL_SKIP. -/
  | hallStateChange (r : RegionId) (f : Fin 2) (st : BitVec 3)
  /-- RES_PEAK_TRIGGER (R268): An excitation peak triggers the overridden SEQ1 conversion of sine or cosine. -/
  | resPeakTrigger (r : RegionId) (f : Fin 2) (positive : Bool)
  /-- RES_PAIR (R270): A sine and cosine pair is formed or skipped, and the tracking observer updates. -/
  | resPair (r : RegionId) (f : Fin 2)
  /-- SSI_FRAME_END (R272): An SSI frame completes and is checked; a good frame gives position, and a bad one raises SSI_ERR. -/
  | ssiFrameEnd (r : RegionId) (f : Fin 2) (line : List Bool)
  /-- ZERO_SPEED_TIMEOUT (R274): No edge within FB_ZS.timeout; the speed becomes 0 with zero = 1. -/
  | zeroSpeedTimeout (r : RegionId) (f : Fin 2)
  /-- PROBE_EDGE (R276): A filtered probe edge latches the channel angle and network time. -/
  | probeEdge (r : RegionId) (q : Fin 2) (level : Bool)
  /-- FLY_DETECT_END (R250): fly_t elapses and the program decides ASC_HOLD, CLOSED, FLY_BRAKE or ALIGN. -/
  | flyDetectEnd (u : UnitId)
  /-- ALIGN_END (R254): align_t elapses and RAMP begins. -/
  | alignEnd (u : UnitId)
  /-- HAND_OVER (R254): The ramp speed reaches w_ho with the error below ho_err for ho_t; the observer takes over and CLOSED is entered. -/
  | handOver (u : UnitId)
  /-- START_ABORT (R255): The ramp reaches 2 × w_ho, or the angle check fails; the attempt aborts, and retries or enters START_FAIL. -/
  | startAbort (u : UnitId)
  /-- FLY_BRAKE_ABORT (R252): The angle error exceeds 30° for 5 ms in FLY_BRAKE. -/
  | flyBrakeAbort (u : UnitId)
  /-- ASC_HOLD_EXIT (R253): The speed falls below ucg_hys × ω_ucg; all off and FLY_DETECT or IDLE. -/
  | ascHoldExit (u : UnitId)
  /-- STOP_COMPLETE (R239): With the references below 1 %, the program commits all off and enters IDLE. -/
  | stopComplete (u : UnitId)
  /-- CONVERTER_LIMIT_ENTRY (R289): The reference stays at dac_max for cbc_n sub-ticks and the converter enters LIMIT. -/
  | converterLimitEntry (u : UnitId)
  /-- CHOPPER_PULSING_CHANGE (R310): The DC link crosses v_ov1, or falls below v_ov1 − v_hys, and pulsing starts or stops. -/
  | chopperPulsingChange (u : UnitId)
  /-- CHOPPER_LEG_UNHEALTHY (R311): chk_n low samples, a leg fault or over-temperature make a leg unhealthy, updating C_h and the chopper signals. -/
  | chopperLegUnhealthy (u : UnitId) (leg : Fin 4)
  /-- OV3_SOURCE_ACTIVE (R315): An OV3 source's raw output goes active; the HSL applies each unit's OV3 action and raises OV3_TRIP. -/
  | ov3SourceActive (r : RegionId) (n : Fin 16) (uv : Option Nat)
  /-- OV3_RELEASE (R318): Every OV3 source stays inactive for the release time, and the action is withdrawn. -/
  | ov3Release
  /-- OV3SEL_HOLD_EXPIRY (R316): The hold time passes without a write of 1, and the bit clears. -/
  | ov3selHoldExpiry (u : UnitId)
  /-- UV_SOURCE_ACTIVE (R358): A UV source goes active, sets HSL_STAT.uv, raises DCLINK_UV and may trip. -/
  | uvSourceActive (r : RegionId) (n : Fin 16) (uv : Option Nat)
  /-- WATCHDOG_PERIOD (R350): At each period the HSL judges the responses and posts a new LFSR challenge. -/
  | watchdogPeriod
  /-- PAIR_COMPARE_TIMEOUT (R346): The second core arrives more than 256 cycles late, or the values differ; loss of agreement is a chip fault. -/
  | pairCompareTimeout
  /-- PAIR_RESET_END (R348): After 1 ms of reset, the Cellar reloads and verifies the safety firmware and releases the pair. -/
  | pairResetEnd
  /-- SAFETY_FRAME (R349): The safety firmware evaluates every safety function once per half cycle and writes its outputs. -/
  | safetyFrame (x : Option SafetyInputs)
  /-- STO_INPUT_CHANGE (R354): An STO pin holds a new level for the filter time, and the pin demand changes. -/
  | stoInputChange (chB : Bool) (level : Option Bool)
  /-- STO_DISCREPANCY (R353): The filtered STO levels differ for longer than disc ms; HSL trip sto_disc. -/
  | stoDiscrepancy
  /-- SS1_TIMEOUT (R362): t_ss1 ms after demand, the HSL applies the STO action. -/
  | ss1Timeout (k : Fin 8)
  /-- DISCH_TIMEOUT (R362): The UV sources have not been active for 10 ms by t_dis; DISCH fault. -/
  | dischTimeout (k : Fin 8)
  /-- SF_BOUND_RECOMPUTE (R366): After a timing apply, the worst cases are recomputed and BOUND slots over their ceiling are demanded. -/
  | sfBoundRecompute
  /-- SAFE_OUT_DELAY (R355): The delay after a bound slot's demand expires; SAFE_OUT goes low and req clears. -/
  | safeOutDelay (n : Fin 2)
  /-- SAFE_FB_MISMATCH (R357): SAFE_FB disagrees with SAFE_OUT for longer than fb_time; HSL trip sbc. -/
  | safeFbMismatch (n : Fin 2) (level : Option Bool)
  /-- RESET_ARM_TIMEOUT (R369): 5 s pass after arming without completion; the sequence is disarmed with LOCKOUT_RESET_TIMEOUT. -/
  | resetArmTimeout
  /-- SAFETY_CASK_LOADED (R536): The verified safety Cask is loaded into both SRAMs, the pair is released and STARTING is entered. -/
  | safetyCaskLoaded
  /-- UPDATE_TIME_LIMIT (R536): UPDATE and STARTING last longer than tmax × 100 ms; HSL trip wd. -/
  | updateTimeLimit
  /-- SCH_TRANSMIT (R374): Every div ticks, a transmit connection assembles and sends a frame. -/
  | schTransmit (n : Fin 32)
  /-- SCH_FRAME_CHECK (R376): In the next tick, a landed frame passes the checks in order, or fails with an error code. -/
  | schFrameCheck (n : Fin 32)
  /-- SCH_WATCHDOG_EXPIRY (R379): No valid frame within wd µs; the connection faults. -/
  | schWatchdogExpiry (n : Fin 32)
  /-- RELEASE (R396): Cellar command: unlocks the verified Cask buffer and may clear its measurement. -/
  | release (m : Master) (arg : BitVec 16)
  /-- MTB_NORESP (R479): No response starts 10 µs after its limit; the transaction ends with code 1. -/
  | mtbNoresp (bus : Fin 2)
  /-- TAG_POLL (R417): Once per second, the firmware polls each bound tag; three misses make it ABSENT. -/
  | tagPoll (n : Fin 32) (tag : Option ModuleTag)
  /-- LIFE_SERVICE_UPDATE (R424): Every 10 s, the life service reads the histograms and accumulates consumed life. -/
  | lifeServiceUpdate (n : Fin 32)
  /-- LIFE_FACTOR_STEP (R426): Each minute, TAG_FACTn moves towards its target factor. -/
  | lifeFactorStep (n : Fin 32)
  /-- NVS_WRITE (R443): NVS command: writes from source sector by sector. -/
  | nvsWrite
  /-- NVS_FILL (R443): NVS command: fills with a pattern. -/
  | nvsFill
  /-- NVS_VERIFY (R442): NVS command: compares NVS with the source. -/
  | nvsVerify
  /-- NVS_PATROL (R445): Every interval, the patrol reads one sector. -/
  | nvsPatrol (ecc : EccSeen)
  /-- SCRUB_PASS (R437): A scrub pass reads every SRAM word; late passes raise SCRUB_LATE. -/
  | scrubPass (late : Bool) (found : List (Word × Bool))
  /-- FABRIC_TAG_GRANT (R32): A waiting request is accepted when a tag becomes available to its class. -/
  | fabricTagGrant (m : Master) (x : Option PairAccess) (noise : BeatNoise)
  /-- FABRIC_STARVE (R33): A request has waited 4,096 fabric cycles. -/
  | fabricStarve (m : MasterId)
  /-- DMA_DESCRIPTOR_START (R447): A channel reads its next descriptor and starts it. -/
  | dmaDescriptorStart (r : RegionId) (c : Fin 4)
  /-- DMA_DESCRIPTOR_END (R449): A descriptor completes or errors, its status is written, and DMA_DONE or DMA_ERROR is raised. -/
  | dmaDescriptorEnd (r : RegionId) (c : Fin 4)
  /-- CAP_TRIGGER (R453): The selected trigger source is recognised while ARMED. -/
  | capTrigger (r : RegionId)
  /-- CAP_RECORD (R452): A capture record is written at a sample instant; the post count may make DONE. -/
  | capRecord (r : RegionId)
  /-- LOG_ENTRY_WRITE (R513): The router writes one staged entry per fabric cycle into the log ring, or counts it lost. -/
  | logEntryWrite
  /-- IND_LOCK_EXPIRY (R501): The lock expires 1 ms after the owner's last access. -/
  | indLockExpiry (sc : IndScope)
  /-- RACK_SWITCH (R526): At tick k the region switches slot, bank or trims, copies the state map and enters PROBATION or commits. -/
  | rackSwitch (r : RegionId)
  /-- RACK_COMMIT (R529): The probation count reaches 0 without a trigger; the rack commits and the Vintage rises. -/
  | rackCommit (r : RegionId)
  /-- UNRACK (R529): A trigger during probation switches back at the next tick and reverses the state map. -/
  | unrack (r : RegionId)
  /-- CHIP_FIRMWARE_LOADED (R533): The new chip firmware is verified and loaded, the cores are released and PROBATION is entered. -/
  | chipFirmwareLoaded
  /-- CHIP_RACK_PROBATION_END (R533): prob seconds pass without confirm; un-rack to the previous slot. -/
  | chipRackProbationEnd
  /-- LIN_RESPONSE_TIMEOUT (R472): A LIN response fails to complete within 1.4 times nominal; error code 3. -/
  | linResponseTimeout (p : LinPort)
  /-- AXL_LINK_DOWN (R482): 8 code violations or missing markers take a link DOWN. -/
  | axlLinkDown (p : AxlPort) (inFrame : Option (Fin 16))
  /-- BULK_RETRY_TIMEOUT (R491): An unacknowledged fragment is repeated, failing after 3 repeats. -/
  | bulkRetryTimeout (p : AxlPort)
  /-- UV_SOURCE_INACTIVE (R358): The raw output of the last active UV source goes inactive, so HSL_STAT.uv returns to 0 and DISCH's continuous-activity count is broken. -/
  | uvSourceInactive (r : RegionId) (n : Fin 16) (uv : Option Nat)
  /-- POWER_ON_RESET_RELEASE (R516): The last supply enters its window with PORST_N high for 100 µs; time zero begins, the HSL holds every leg OFF and start-up runs its steps. -/
  | porRelease (alarm : Option (Fin 6))
  /-- PORST_N_LOW (R541): A low of at least 1 µs on PORST_N resets the device, drives the gate outputs low within 100 ns and restarts start-up from step 1. -/
  | porstLow (ns : Nat)
  /-- SUPPLY_OUT_OF_WINDOW (R540): A supply outside its monitor window for 1 µs is an HSL trip with cause supply and a chip fault. -/
  | supplyOutOfWindow (rail : Rail) (mv : Nat)
  /-- DEV_STAT_READY_WRITE (R521): The chip firmware writes DEV_STAT.ready from 0 to 1, which raises DEV_READY and makes units available for enable. -/
  | devStatReadyWrite (m : Master) (v : Word)
  /-- HSL_TEST_INJ_WRITE (R519): Writing HSL_TEST.inj arms an injected checkpoint mismatch, which the comparator must report in cmp_seen without a chip fault. -/
  | hslTestInjWrite (m : Master) (v : Word)
  /-- HSL_TEST_RUN (R520): A write to HSL_TEST.run starts the once-per-power-on disable-path test over every leg in ascending order. -/
  | hslTestRun (m : Master) (v : Word)
  /-- DELAY_LINE_CALIBRATION (R547): Every 10 ms the edge delay line is recalibrated against the lane clock. -/
  | delayLineCalibration
  /-- SYNC (R48): A gPTP Sync received on the chosen port updates the offset and drives the Trellis into ACQUIRE or LOCKED, stepping or slewing the counter. -/
  | sync (p : EthPort) (origin : Option PtpTime) (ivl : Nat)
  /-- FOLLOW_UP (R46): A two-step gPTP Follow_Up message is received and supplies the precise origin time of its Sync. -/
  | followUp (p : EthPort) (origin : PtpTime)
  /-- ANNOUNCE (R47): A gPTP Announce message feeds the best master clock algorithm, which chooses the receiving port or grandmaster operation. -/
  | announce (p : EthPort) (rank : Option ClockRank) (ivl : Nat) (own : Option OwnClock)
  /-- PDELAY (R46): A peer-delay message is exchanged on a port and updates that port's measured link delay. -/
  | pdelay (p : EthPort) (trip : Nat) (hold : Nat)
  /-- TRL_CTRL_WRITE (R48): A write of gm_enable, src or TRL_PORT.enable changes the Trellis time source and may move it to FREE or AXLE. -/
  | trlCtrlWrite (m : Master) (port : Bool) (v : Word)
  /-- TRL_TIME_LO_READ (R45): A read of TRL_TIME_LO copies the simultaneous high word and fraction into TRL_TIME_HI and TRL_TIME_FRAC. -/
  | trlTimeLoRead (m : Master)
  /-- TRL_TIME_HI_WRITE (R51): A write to TRL_TIME_HI is held, to be applied with the next TRL_TIME_LO write. -/
  | trlTimeHiWrite (m : Master) (v : Word)
  /-- TRL_TIME_LO_WRITE (R51): A write to TRL_TIME_LO steps the counter and raises TIME_STEP, or is refused with TICK_CFG_REFUSED outside FREE or GM or while a unit runs. -/
  | trlTimeLoWrite (m : Master) (v : Word)
  /-- TRL_CTRL_APPLY (R68): Writing TRL_CTRL.apply with 1 sets apply_pending so that the shadowed timing takes effect at the next tick. -/
  | trlCtrlApply (m : Master) (v : Word)
  /-- NOP (R125): A no-operation in an A, M or C slot does nothing. -/
  | nop (ln : BlockId) (sl : Slot)
  /-- UNASSIGNED_OPCODE (R120): An unassigned opcode in a slot executes as NOP and raises LANE_ILLEGAL. -/
  | unassignedOpcode (ln : BlockId) (sl : Slot)
  /-- ADD (R125): Integer addition modulo 2^32. -/
  | add (ln : BlockId) (sl : ASlot) (gd : GReg) (gs1 : GReg) (gs2 : GReg)
  /-- ADDI (R125): Addition of a sign-extended 11-bit immediate. -/
  | addi (ln : BlockId) (sl : ASlot) (gd : GReg) (gs1 : GReg) (imm : BitVec 11)
  /-- SUB (R125): Integer subtraction modulo 2^32. -/
  | sub (ln : BlockId) (sl : ASlot) (gd : GReg) (gs1 : GReg) (gs2 : GReg)
  /-- AND (R125): Bitwise and. -/
  | and (ln : BlockId) (sl : ASlot) (gd : GReg) (gs1 : GReg) (gs2 : GReg)
  /-- OR (R125): Bitwise or. -/
  | or (ln : BlockId) (sl : ASlot) (gd : GReg) (gs1 : GReg) (gs2 : GReg)
  /-- XOR (R125): Bitwise exclusive or. -/
  | xor (ln : BlockId) (sl : ASlot) (gd : GReg) (gs1 : GReg) (gs2 : GReg)
  /-- SHL (R125): Left shift by an immediate or register amount. -/
  | shl (ln : BlockId) (sl : ASlot) (gd : GReg) (gs1 : GReg) (sh : Shift)
  /-- SHRA (R125): Arithmetic right shift by an immediate or register amount. -/
  | shra (ln : BlockId) (sl : ASlot) (gd : GReg) (gs1 : GReg) (sh : Shift)
  /-- MOVL (R125): Loads a zero-extended 16-bit constant. -/
  | movl (ln : BlockId) (sl : ASlot) (gd : GReg) (k : BitVec 16)
  /-- MOVH (R125): Writes the upper 16 bits of a register from a constant. -/
  | movh (ln : BlockId) (sl : ASlot) (gd : GReg) (k : BitVec 16)
  /-- CMPLT (R125): Signed less-than comparison giving 1 or 0. -/
  | cmplt (ln : BlockId) (sl : ASlot) (gd : GReg) (gs1 : GReg) (gs2 : GReg)
  /-- QADD (R88): Saturating Q15 addition that sets sat when it saturates. -/
  | qadd (ln : BlockId) (sl : ASlot) (gd : GReg) (gs1 : GReg) (gs2 : GReg)
  /-- QSUB (R88): Saturating Q15 subtraction. -/
  | qsub (ln : BlockId) (sl : ASlot) (gd : GReg) (gs1 : GReg) (gs2 : GReg)
  /-- QNEG (R88): Saturating Q15 negation. -/
  | qneg (ln : BlockId) (sl : ASlot) (gd : GReg) (gs1 : GReg)
  /-- QABS (R88): Saturating Q15 absolute value. -/
  | qabs (ln : BlockId) (sl : ASlot) (gd : GReg) (gs1 : GReg)
  /-- QMUL (R125): Q15 product rounded by R90. -/
  | qmul (ln : BlockId) (sl : ASlot) (gd : GReg) (gs1 : GReg) (gs2 : GReg)
  /-- LIM (R128): Clamps symmetrically to ±|gs2| and writes LANE_STATUS.lim. -/
  | lim (ln : BlockId) (sl : ASlot) (gd : GReg) (gs1 : GReg) (gs2 : GReg)
  /-- RAMP (R128): Moves the reference towards the target by at most the step. -/
  | ramp (ln : BlockId) (sl : ASlot) (gd : GReg) (gs1 : GReg) (gs2 : GReg)
  /-- MPY (R125): Exact Q15 product into an accumulator. -/
  | mpy (ln : BlockId) (sl : ASlot) (accd : AReg) (gs1 : GReg) (gs2 : GReg)
  /-- MAC (R122): Accumulates a product, reading the accumulator in its last cycle. -/
  | mac (ln : BlockId) (sl : ASlot) (accd : AReg) (gs1 : GReg) (gs2 : GReg)
  /-- MSU (R122): Subtracts a product from an accumulator. -/
  | msu (ln : BlockId) (sl : ASlot) (accd : AReg) (gs1 : GReg) (gs2 : GReg)
  /-- EXTR (R90): Extracts a rounded, saturated Q15 value from an accumulator with a left shift. -/
  | extr (ln : BlockId) (sl : ASlot) (gd : GReg) (accs1 : AReg) (sh : BitVec 4)
  /-- ACCLD (R125): Loads a Q15 value exactly into an accumulator. -/
  | accld (ln : BlockId) (sl : ASlot) (accd : AReg) (gs1 : GReg)
  /-- CLARKE (R126): Fused Clarke transform. -/
  | clarke (ln : BlockId) (sl : ASlot) (gd : GReg) (gs1 : GReg) (gs2 : GReg)
  /-- PARK (R126): Fused Park transform. -/
  | park (ln : BlockId) (sl : ASlot) (gd : GReg) (gs1 : GReg) (gs2 : GReg)
  /-- IPARK (R126): Fused inverse Park transform. -/
  | ipark (ln : BlockId) (sl : ASlot) (gd : GReg) (gs1 : GReg) (gs2 : GReg)
  /-- SVPWM (R127): Computes three clamped space-vector duties. -/
  | svpwm (ln : BlockId) (sl : ASlot) (gd : GReg) (gs1 : GReg)
  /-- VADD (R93): Aligned element-wise add or subtract of block-float vectors. -/
  | vadd (ln : BlockId) (sl : ASlot) (md : VReg) (ms1 : VReg) (ms2 : VReg) (subtract : Bool)
  /-- VMUL (R94): Element-wise block-float multiplication. -/
  | vmul (ln : BlockId) (sl : ASlot) (md : VReg) (ms1 : VReg) (ms2 : VReg)
  /-- VSMUL (R94): Multiplies a vector by a Q15 scalar. -/
  | vsmul (ln : BlockId) (sl : ASlot) (md : VReg) (ms1 : VReg) (gs2 : GReg)
  /-- BNORM (R92): Normalises a vector and adjusts its exponent. -/
  | bnorm (ln : BlockId) (sl : ASlot) (md : VReg) (ms1 : VReg)
  /-- VSCL (R125): Adds an immediate to a vector's exponent within the limits of R95. -/
  | vscl (ln : BlockId) (sl : ASlot) (md : VReg) (ms1 : VReg) (imm : BitVec 8)
  /-- VTOQ (R96): Converts a vector element to saturated Q15. -/
  | vtoq (ln : BlockId) (sl : ASlot) (gd : GReg) (ms1 : VReg) (el : BitVec 3)
  /-- QTOV (R125): Places a Q15 value in one element of a vector with exponent 0. -/
  | qtov (ln : BlockId) (sl : ASlot) (md : VReg) (gs1 : GReg) (el : BitVec 3)
  /-- LD (R130): Loads 1, 2 or 4 bytes from a lane address, or refuses the access under R80. -/
  | ld (ln : BlockId) (gd : GReg) (gs1 : GReg) (imm : BitVec 11) (size : BitVec 3)
  /-- LDP (R129): Loads 8 bytes into a register pair. -/
  | ldp (ln : BlockId) (gd : GReg) (gs1 : GReg) (imm : BitVec 11)
  /-- ST (R130): Stores 1, 2 or 4 bytes to data memory, or acts as W1C on LANE_STATUS. -/
  | st (ln : BlockId) (gs1 : GReg) (imm : BitVec 11) (gs2 : GReg) (size : BitVec 3)
  /-- STP (R129): Stores a register pair as 8 bytes. -/
  | stp (ln : BlockId) (gs1 : GReg) (imm : BitVec 11) (gs2 : GReg)
  /-- VLD (R81): Loads a 32-byte vector record. -/
  | vld (ln : BlockId) (md : VReg) (gs1 : GReg) (imm : BitVec 11)
  /-- VST (R81): Stores a 32-byte vector record. -/
  | vst (ln : BlockId) (gs1 : GReg) (imm : BitVec 11) (ms2 : VReg)
  /-- GTAB (R111): Interpolates a gain from a gain-schedule table against |error|. -/
  | gtab (ln : BlockId) (gd : GReg) (gs1 : GReg) (t : BitVec 4)
  /-- FTAB (R113): Interpolates a feed-forward value at an angle. -/
  | ftab (ln : BlockId) (gd : GReg) (gs1 : GReg) (t : BitVec 2)
  /-- BR (R132): Forward unconditional branch, taken as not taken with LANE_ILLEGAL if illegal. -/
  | br (ln : BlockId) (off : BitVec 12)
  /-- BRNZ (R132): Branches on a register being zero or non-zero. -/
  | brnz (ln : BlockId) (gs1 : GReg) (sense : Bool) (off : BitVec 12)
  /-- BRC (R132): Branches on a condition bit in LANE_EVC_LIVE or LANE_EVC_PREV. -/
  | brc (ln : BlockId) (bit : BitVec 5) (prev : Bool) (sense : Bool) (off : BitVec 12)
  /-- LOOP (R133): Pushes a loop entry that repeats the following bundles cnt + 1 times. -/
  | loop (ln : BlockId) (last : BitVec 12) (cnt : BitVec 12)
  /-- CALL (R135): Sets the single link and branches to a target. -/
  | call (ln : BlockId) (target : BitVec 12)
  /-- RET (R135): Branches to the link and empties it. -/
  | ret (ln : BlockId)
  /-- WAIT_PHASE_INTAKE (R137): Mode 0 completes the lane's sub-tick, records its cycle count and enters DONE. -/
  | waitPhaseIntake (ln : BlockId)
  /-- WAIT_PHASE_COMPUTE (R136): Mode 1 continues at once. -/
  | waitPhaseCompute (ln : BlockId)
  /-- WAIT_PHASE_EXCHANGE (R136): Mode 2 waits for the exchange boundary. -/
  | waitPhaseExchange (ln : BlockId)
  /-- WAIT_PHASE_COMMIT (R136): Mode 3 waits for the commit boundary. -/
  | waitPhaseCommit (ln : BlockId)
  /-- WAIT_PHASE_EVENT (R116): Mode 4 waits on a condition bit until it is set or until the deadline. -/
  | waitPhaseEvent (ln : BlockId) (bit : BitVec 5) (dl : BitVec 16)
  /-- WAIT_PHASE_RESERVED (R136): Modes 5 to 7 act as mode 1 and raise LANE_ILLEGAL. -/
  | waitPhaseReserved (ln : BlockId) (mode : Fin 3)
  /-- COMMIT (R100): Commits a 128-bit command to a region-local leg's next slot, subject to ownership, collision and cross-command rules. -/
  | commit (ln : BlockId) (gd : GReg) (leg : Fin 32)
  /-- SIG (R117): Raises LANE_SIGn of the lane's block; LANE_SIG3 can be a unit fault input. -/
  | sig (ln : BlockId) (n : Fin 4)
  /-- FB_OBSERVED (R166): FB or gate sense shows a channel off, enabling a pending turn-on after the dead time. -/
  | fbObserved (k : LegId) (high : Bool) (level : Bool) (at_ : Fin 32)
  /-- HSL_INTERLOCK (R170): The HSL output interlock blocks an on-drive; the leg enters FAULT with cause hsl_ilk. -/
  | hslInterlock (k : LegId) (high : Bool)
  /-- BOOTSTRAP_CHANGE (R183): VB − SW crosses its threshold, changing boot_ok; a fall raises BOOT_UV and turns the high side off. -/
  | bootstrapChange (k : LegId) (ok : Bool)
  /-- LEG_HOST_WRITE (R174): A host write to a leg timing or configuration field takes effect in the same lane cycle, with the effects tabulated. -/
  | legHostWrite (m : Master) (k : LegId) (reg : LegCfgReg) (v : Word)
  /-- LEG_GUARD_WRITE (R167): A write to LEG_GUARD is accepted only in OFF, and otherwise raises LEG_CFG_REFUSED. -/
  | legGuardWrite (m : Master) (k : LegId) (v : Word)
  /-- HSL_DTFLOOR_WRITE (R165): A guarded write of a unit's dead-time floor takes effect at once on every leg of the unit. -/
  | hslDtfloorWrite (m : Master) (u : UnitId) (v : Word)
  /-- LEG_OWN_WRITE (R15): A write to LEG_OWNn changes ownership byte by byte where permitted, raising OWN_REFUSED once for refused bytes. -/
  | legOwnWrite (m : Master) (r : RegionId) (n : Fin 8) (v : Word)
  /-- UNIT_ENABLE (R332): An enable request is checked in order and enters ENABLING, or is refused with the first failing event. -/
  | unitEnable (m : Master) (r : RegionId) (u : UnitId) (v : Word)
  /-- UNIT_DISABLE (R331): A disable request takes an ENABLING or RUN unit to SHUTTING_DOWN by soft-off or immediate off. -/
  | unitDisable (m : Master) (r : RegionId) (u : UnitId)
  /-- ASC_EXIT (R334): An ASC exit request releases the unit's legs in ascending order, asc_step µs apart, unless an HSL or OV3 action acts. -/
  | ascExit (m : Master) (r : RegionId) (u : UnitId)
  /-- UNIT_RELEASE (R336): UNIT_CTRL.release in DISABLED moves legs whose cause reads 0 from FAULT to OFF_SETTLE. -/
  | unitRelease (m : Master) (r : RegionId) (u : UnitId)
  /-- HSL_SAFE_UNLOCK (R335): A secure write of HSL_SAFEu.unlock releases a LOCKED_OUT unit to DISABLED when its legs are off. -/
  | hslSafeUnlock (m : Master) (u : UnitId) (v : Word)
  /-- HSL_SAFE_WRITE (R339): A write to HSL_SAFEu changes kind, asc_high and t1 only while the unit is DISABLED. -/
  | hslSafeWrite (m : Master) (u : UnitId) (v : Word)
  /-- HSL_SOFTSLOT_WRITE (R329): A soft-off slot write is refused with SAFE_CFG_REFUSED for duplicates or for units not DISABLED. -/
  | hslSoftslotWrite (m : Master) (n : Fin 4) (v : Word)
  /-- UNIT_CFG_WRITE (R342): A write to UNIT_CFG is accepted only in DISABLED. -/
  | unitCfgWrite (m : Master) (r : RegionId) (u : UnitId) (v : Word)
  /-- BLK_CTRL_RESTART (R522): A write to BLK_CTRL.restart restarts a HALTED lane into DONE when its causes and ue bits are clear. -/
  | blkCtrlRestart (m : Master) (b : BlockId) (v : Word)
  /-- RGN_RESTART_DMA (R522): A write to RGN_RESTART.dma moves STOPPED DMA channels to IDLE when RGN_CAUSE is 0. -/
  | rgnRestartDma (m : Master) (r : RegionId) (v : Word)
  /-- LANE_ENTRY_WRITE (R99): A write to LANE_ENTRY changes only the inactive field; a change to the active one raises LANE_MEM_REFUSED. -/
  | laneEntryWrite (m : Master) (b : BlockId) (v : Word)
  /-- LANE_WCET_WRITE (R152): A write to LANE_WCET changes only the inactive field. -/
  | laneWcetWrite (m : Master) (b : BlockId) (v : Word)
  /-- EXCH_CH_WRITE (R106): A write to the descriptor set in force is ignored with EXCH_CFG_REFUSED. -/
  | exchChWrite (m : Master) (r : RegionId) (setB : Bool) (n : Fin 256) (v : Word)
  /-- PROGRAM_MEMORY_WRITE (R524): A write to an inactive slot, bank or descriptor set clears loaded in IDLE, and is refused in ARMED or PROBATION or for the active one. -/
  | programMemoryWrite (m : Master) (b : BlockId) (off : BitVec 20) (v : Word)
  /-- RGN_SUBTICK_WRITE (R59): A sub-tick factor write is refused per block for blocks holding legs of non-DISABLED units. -/
  | rgnSubtickWrite (m : Master) (r : RegionId) (v : Word)
  /-- RGN_PHASE_WRITE (R61): A phase boundary write that breaks the required order is refused as a whole with TICK_CFG_REFUSED. -/
  | rgnPhaseWrite (m : Master) (r : RegionId) (second : Bool) (v : Word)
  /-- ADC_SEQ_SW (R190): A write of ADC_SEQ_CFG.sw triggers the sequence in software. -/
  | adcSeqSw (m : Master) (r : RegionId) (a : Fin 4) (q : Fin 2) (v : Word)
  /-- ADC_BACKGROUND_CHECK (R197): An idle-window check conversion of channel 16 or 17 completes; two consecutive failures are a region fault. -/
  | adcBackgroundCheck (r : RegionId) (a : Fin 4) (ground : Bool) (uv : Nat)
  /-- ADC_CHECK_STARVED (R198): No 80-cycle idle window is found for 1 ms; the starved bit is set and ADC_CHECK_STARVED is raised. -/
  | adcCheckStarved (r : RegionId) (a : Fin 4)
  /-- DAC_READBACK (R217): A readback conversion of one threshold DAC is compared with its code, and a mismatch is flagged. -/
  | dacReadback (r : RegionId) (uv : Nat)
  /-- DAC_RB_STARVED (R218): No readback pass completes within the timeout. -/
  | dacRbStarved (r : RegionId)
  /-- SD_CFG_WRITE (R205): A sigma-delta configuration write restarts the decimators or is refused under the alignment rule. -/
  | sdCfgWrite (m : Master) (r : RegionId) (n : Fin 16) (v : Word)
  /-- SD_CLK_WRITE (R199): A divider change while an enabled input uses that clock is refused with AFE_CFG_REFUSED. -/
  | sdClkWrite (m : Master) (r : RegionId) (v : Word)
  /-- FB_CFG_WRITE (R257): A feedback configuration write is refused with FB_CFG_REFUSED when its rules are broken. -/
  | fbCfgWrite (m : Master) (r : RegionId) (f : Fin 2) (reg : FbReg) (v : Word)
  /-- PFC_GRID_FAULT (R305): The grid voltage stays out of range for 3 ms; the PFC goes all off to IDLE. -/
  | pfcGridFault (u : UnitId)
  /-- DC_LINK_SERVICE (R313): On chopper degradation, or every 1 ms, the service recomputes and writes the traction regenerating limits. -/
  | dcLinkService (job : DcLinkJob)
  /-- HSL_OV3SEL_WRITE (R316): The safety pair writes an OV3SEL bit: 1 restarts its hold timer, 0 clears it at once. -/
  | hslOv3selWrite (m : Master) (v : Word)
  /-- HSL_WDRESP0_WRITE (R350): SC0 writes its watchdog response. -/
  | hslWdresp0Write (m : Master) (v : Word)
  /-- HSL_WDRESP1_WRITE (R350): SC1 writes its watchdog response. -/
  | hslWdresp1Write (m : Master) (v : Word)
  /-- CHKPT (R345): A safety core reaches a CHKPT compare point and waits for the other; interrupts are taken after it. -/
  | chkpt (sc1 : Bool) (v : Word)
  /-- PAIR_EXTERNAL_ACCESS (R345): A paired external read or write is compared and issued once when both cores arrive. -/
  | pairExternalAccess (sc1 : Bool) (machine : Bool) (x : PairAccess)
  /-- DEBUG_HALT (R352): Debug access to a safety core sets debug_split and trips the HSL. -/
  | debugHalt (sc1 : Bool)
  /-- TICK_MONITOR_FAIL (R353): A tick is missing or too early against the period in force; HSL trip tick. -/
  | tickMonitorFail (interval : Nat)
  /-- CLOCK_MONITOR_FAIL (R353): The reference count per 4,096 HSL cycles is out of range; HSL trip clk. -/
  | clockMonitorFail (count : Nat)
  /-- HSL_SFREQ_WRITE (R360): The pair writes the slot demand bits; demands apply the slot functions and raise SF_DEMAND. -/
  | hslSfreqWrite (m : Master) (v : Word)
  /-- HSL_SFDONE_WRITE (R362): HSL_SFDONE ends an SS1 ramp early or starts DISCH low-side hold. -/
  | hslSfdoneWrite (m : Master) (v : Word)
  /-- HSL_SFFAULT_WRITE (R353): A 1 in HSL_SFFAULT is an HSL trip with cause sf. -/
  | hslSffaultWrite (m : Master) (v : Word)
  /-- SF_CONFIG_WRITE (R363): A slot configuration write is refused with SF_CFG_REFUSED when it breaks the rules or the BOUND ceiling. -/
  | sfConfigWrite (m : Master) (k : Fin 8) (reg : SfReg) (v : Word)
  /-- SAFE_OUT_REQ_WRITE (R355): Writing req = 1 energises SAFE_OUTn when it is permitted. -/
  | safeOutReqWrite (m : Master) (n : Fin 2) (v : Word)
  /-- HSL_UNLOCK_WRITE (R368): A write of 0x5AFE_5AFE in lock-out arms the reset sequence. -/
  | hslUnlockWrite (m : Master) (v : Word)
  /-- SAFE_ACK_RELEASE (R369): SAFE_ACK released in an armed sequence ends lock-out when all conditions hold, or refuses. -/
  | safeAckRelease
  /-- HSL_UPD_REQ_WRITE (R535): Writing req = 1 enters UPDATE with STO on motion units and the pair held; req = 0 returns to NORMAL. -/
  | hslUpdReqWrite (m : Master) (v : Word)
  /-- HSL_SPLIT_WRITE (R383): HSL_SPLIT is written before the pair's release, and later writes raise GUARD_VIOLATION. -/
  | hslSplitWrite (m : Master) (v : Word)
  /-- SCH_FRAME_LAND (R375): A safe-channel frame lands and is matched to a connection, or is counted as unknown or excess. -/
  | schFrameLand (p : PortId) (frame : List Byte)
  /-- SCH_CONN_ENABLE (R380): Writing en moves a connection between OFF and SYNC. -/
  | schConnEnable (m : Master) (n : Fin 32) (v : Word)
  /-- SCH_REARM (R380): Writing rearm returns a FAULTED connection to SYNC, or is refused over the ceiling. -/
  | schRearm (m : Master) (n : Fin 32) (v : Word)
  /-- VERIFY_CASK (R395): Cellar command: checks a Cask in order and on success locks its buffer and records its measurement. -/
  | verifyCask (m : Master) (dest : BitVec 16)
  /-- ATTEST (R403): Cellar command: writes a signed attestation report. -/
  | attest (m : Master)
  /-- PROVISION (R401): Cellar command: generates or returns the identity key. -/
  | provision (m : Master)
  /-- ENDORSE (R402): Cellar command: verifies and stores the owner's endorsement. -/
  | endorse (m : Master)
  /-- FLOOR_BUMP (R400): Cellar command: writes the next OTP Vintage floor. -/
  | floorBump (m : Master) (t : BitVec 16)
  /-- REVOKE_SLOT (R393): Cellar command: revokes an owner key slot. -/
  | revokeSlot (m : Master) (slot : BitVec 16)
  /-- DEBUG_CHALLENGE (R407): Cellar command: returns a fresh debug nonce. -/
  | debugChallenge (m : Master)
  /-- DEBUG_OPEN (R407): Cellar command: verifies the owner signature and starts ERASING. -/
  | debugOpen (m : Master)
  /-- DEBUG_ERASE_COMPLETE (R407): Erasure is confirmed and the port opens, or after a repeat a Cellar alarm. -/
  | debugEraseComplete (ok : Bool)
  /-- TAG_AUTH (R415): Cellar command: authenticates a bound tag via READ_ID and PROVE. -/
  | tagAuth (m : Master) (n : BitVec 16)
  /-- LIFE_STORE (R425): Cellar command: stores life values in the alternating NVS copies, refusing lower values. -/
  | lifeStore (m : Master) (n : BitVec 16)
  /-- LIFE_WRITE (R425): Cellar command: re-authenticates a tag and writes a signed life record to it. -/
  | lifeWrite (m : Master) (n : BitVec 16)
  /-- MACSEC_KEY (R409): Cellar command: unseals an SAK into a port's key store. -/
  | macsecKey (m : Master) (arg : BitVec 16)
  /-- SEAL (R406): Cellar command: encrypts a blob for a purpose, or installs the owner wrapping key. -/
  | seal (m : Master) (purpose : BitVec 16)
  /-- UNSEAL (R406): Cellar command: decrypts a sealed blob. -/
  | unseal (m : Master) (purpose : BitVec 16)
  /-- UNKNOWN_CELLAR_COMMAND (R389): An unassigned op completes with code 0x03. -/
  | unknownCellarCommand (m : Master) (op : BitVec 8)
  /-- CELLAR_ALARM (R391): A Cellar alarm condition latches, makes a chip fault and puts the Cellar in ALARM. -/
  | cellarAlarm (bit : Fin 6)
  /-- CELLAR_WATCHDOG_EXPIRY (R391): No Cellar service for 10 ms; Cellar alarm. -/
  | cellarWatchdogExpiry
  /-- TAG_MAP_WRITE (R411): A tag binding write is refused while the unit runs or for duplicates. -/
  | tagMapWrite (m : Master) (n : Fin 32) (v : Word)
  /-- STATUS (R478): Module-tag operation returning the serial and write count; used for polling and swap detection. -/
  | status (m : Master) (bus : Fin 2) (addr : Fin 16)
  /-- READ_ID (R478): Module-tag operation returning the identity record. -/
  | readId (m : Master) (bus : Fin 2) (addr : Fin 16)
  /-- READ_LIFE (R478): Module-tag operation returning the life record. -/
  | readLife (m : Master) (bus : Fin 2) (addr : Fin 16)
  /-- PROVE (R478): Module-tag operation signing a nonce with the tag key. -/
  | prove (m : Master) (bus : Fin 2) (addr : Fin 16) (nonce : List Byte)
  /-- WRITE_LIFE (R414): Module-tag operation writing a life record, accepted only if monotonic. -/
  | writeLife (m : Master) (bus : Fin 2) (addr : Fin 16) (record : List Byte)
  /-- MTB_RESPONSE_END (R479): A tag response completes and is checked, and the next pending command starts. -/
  | mtbResponseEnd (bus : Fin 2) (heard : Bool) (line : Option (List Byte))
  /-- RF_CFG_WRITE (R423): A rainflow configuration write is refused while channels are enabled. -/
  | rfCfgWrite (m : Master) (r : RegionId) (reg : RfReg) (v : Word)
  /-- NVS_SUBMIT (R441): Submitting a command descriptor queues it, or refuses it with NVS_QFULL. -/
  | nvsSubmit (m : Master) (addr : Word)
  /-- NVS_WINDOW_READ (R440): A window read returns data, decoding the sector by BCH on an uncorrectable word. -/
  | nvsWindowRead (m : Master) (off : BitVec 26) (ecc : EccSeen)
  /-- NVS_WINDOW_WRITE (R441): A fabric write into the NVS window is refused with NVS_WRITE_REFUSED. -/
  | nvsWindowWrite (m : Master) (off : BitVec 26)
  /-- DMA_PUSH (R448): A push queues a descriptor, or refuses it with DMA_QFULL. -/
  | dmaPush (m : Master) (r : RegionId) (c : Fin 4) (addr : Word)
  /-- DMA_RESUME (R450): DMA_CTRLd.resume continues a HALTED channel. -/
  | dmaResume (m : Master) (r : RegionId) (c : Fin 4)
  /-- DMA_FLUSH (R450): DMA_CTRLd.flush writes code 7 into every queued descriptor and empties the queue. -/
  | dmaFlush (m : Master) (r : RegionId) (c : Fin 4)
  /-- CAP_ARM (R454): Arming the capture unit enters ARMED, or is refused with CAP_CFG_REFUSED. -/
  | capArm (m : Master) (r : RegionId) (v : Word)
  /-- CAP_SOFT_TRIGGER (R453): A software trigger of the capture unit. -/
  | capSoftTrigger (m : Master) (r : RegionId) (v : Word)
  /-- CAP_CFG_WRITE (R454): A capture configuration write outside IDLE or DONE is refused. -/
  | capCfgWrite (m : Master) (r : RegionId) (reg : CapReg) (v : Word)
  /-- EVR_SWRAISE (R507): A write raises software events SWn. -/
  | evrSwraise (m : Master) (v : Word)
  /-- IND_DATA_ACCESS (R500): An IND_DATA access reaches the indirect word and advances IND_ADDR. -/
  | indDataAccess (m : Master) (sc : IndScope) (wr : Option Word)
  /-- IND_LOCK_WRITE (R501): A write acquires or releases the indirect lock. -/
  | indLockWrite (m : Master) (sc : IndScope) (v : Word)
  /-- SNAP (R504): A snapshot copies the listed registers of its scope in one cycle. -/
  | snap (m : Master) (sc : IndScope)
  /-- SNAP_ALL (R504): Snapshot of the chip and all regions in one cycle. -/
  | snapAll (m : Master)
  /-- REGISTER_WRITE (R9): A write to a register with no row of its own follows its access code, guard, clamp and collision rules. -/
  | registerWrite (m : Master) (addr : Word) (v : Word)
  /-- BUS_ERROR (R495): An access to an unmapped address or a misaligned register access gets an error response. -/
  | busError (m : Master) (addr : Word) (size : Nat) (wr : Bool)
  /-- LOADER_LOAD (R140): The loader checks a lane set Cask and writes the inactive slot, bank and descriptors, then sets loaded. -/
  | loaderLoad (x : LaneSetImage)
  /-- TIMING_APPLY_SERVICE (R153): The firmware re-walks every program under new timing before writing apply. -/
  | timingApplyService
  /-- RACK_ARM (R525): Writing arm checks the rack conditions and enters ARMED, or raises RACK_REFUSED. -/
  | rackArm (m : Master) (r : RegionId) (v : Word)
  /-- RACK_CANCEL (R525): Writing cancel returns ARMED to IDLE. -/
  | rackCancel (m : Master) (r : RegionId)
  /-- TRIM_WRITE (R531): A write to the active trim bank, or to chip trims after ready, is refused. -/
  | trimWrite (m : Master) (sc : IndScope) (addr : BitVec 12) (v : Word)
  /-- CHIP_RACK_GO (R533): go starts a trial of the other chip firmware slot, or is refused. -/
  | chipRackGo (m : Master) (v : Word)
  /-- CHIP_RACK_CONFIRM (R533): The new firmware confirms itself; the boot pointer becomes permanent. -/
  | chipRackConfirm (m : Master)
  /-- CHIP_RACK_FAIL (R533): The new firmware rejects itself; restart from the previous slot. -/
  | chipRackFail (m : Master)
  /-- PORT_ENABLE (R462): A write of PORT_CTRL.en enables a port, or disables it, stopping its rings. -/
  | portEnable (m : Master) (p : PortId) (v : Word)
  /-- PORT_CONFIG_WRITE (R462): Port configuration writes while enabled are refused, except the axle slot rules. -/
  | portConfigWrite (m : Master) (p : PortId) (off : BitVec 12) (v : Word)
  /-- RING_DOORBELL (R458): A doorbell resumes ring processing from the next own = 1 descriptor. -/
  | ringDoorbell (m : Master) (p : PortId) (rx : Bool)
  /-- ETH_FRAME_RECEIVE (R464): A received Ethernet frame is checked, filtered and delivered to the ring, Trellis or safe channel. -/
  | ethFrameReceive (p : EthPort) (frame : List Byte)
  /-- ETH_FRAME_TRANSMIT (R464): An Ethernet frame from the ring, Trellis or safe channel is sent. -/
  | ethFrameTransmit (p : EthPort) (src : TxSource)
  /-- CAN_FRAME_RECEIVE (R469): A CAN frame is received, filtered and written to the ring or safe channel. -/
  | canFrameReceive (p : CanPort) (f : CanFrame) (ok : Bool)
  /-- CAN_FRAME_TRANSMIT (R469): A CAN ring entry is sent, or ends with an error. -/
  | canFrameTransmit (p : CanPort) (src : TxSource) (ok : Bool)
  /-- CAN_BUS_OFF_RECOVERY (R468): After 128 × 11 recessive bits, a bus-off controller recovers. -/
  | canBusOffRecovery (p : CanPort)
  /-- LIN_HEADER (R472): A LIN header is sent as commander or received as responder, and its response is exchanged. -/
  | linHeader (p : LinPort) (pid : Byte) (rate : Nat) (resp : LinResponse)
  /-- AXL_TRAINING_END (R482): Training ends with an IDENT exchange, entering UP or ROLE_ERR. -/
  | axlTrainingEnd (p : AxlPort) (peerSrc : Bool)
  /-- MARKER (R483): A received MARKER sets the follower's tick instant and network time. -/
  | marker (p : AxlPort) (offset : BitVec 6) (t : BitVec 64) (k : Word) (period : Nat) (arrival : Nat) (crcOk : Bool)
  /-- PING (R484): The follower's PING arrives and the leader returns an ECHO. -/
  | ping (p : AxlPort)
  /-- ECHO (R484): An ECHO completes a one-way delay measurement. -/
  | echo (p : AxlPort) (arrival : Nat) (hold : Nat)
  /-- ACK (R491): A BULK fragment is acknowledged. -/
  | ack (p : AxlPort)
  /-- EXCH_FRAME_RECEIVE (R489): A receive slot writes a valid exchange frame to data memory, or it is lost or late. -/
  | exchFrameReceive (p : AxlPort) (slot : Fin 16) (words : List (BitVec 64)) (k : Word) (fresh : Bool) (crcOk : Bool)
  /-- SAFE_FRAME_RECEIVE (R491): An axle-link SAFE frame delivers a safe-channel frame. -/
  | safeFrameReceive (p : AxlPort) (frame : List Byte) (crcOk : Bool)
  /-- BULK_FRAME_RECEIVE (R491): A BULK fragment is received and acknowledged. -/
  | bulkFrameReceive (p : AxlPort) (data : List Byte) (first : Bool) (last : Bool) (crcOk : Bool)
  /-- SAFE_ACK_PRESS (R368): SAFE_ACK goes low, starting the low time that the release of an armed lock-out reset sequence is judged against. -/
  | safeAckPress
  /-- LANE_CLOCK_FAULT (R39): A lane clock fault latches BLK_CAUSE bit 3, halts the lane and sends the block's units to their safe states, with ts_invalid marking the time stamp. -/
  | laneClockFault (b : BlockId) (failing : Bool) (core : Bool)
  /-- REGION_CLOCK_FAULT (R39): A region clock fault latches RGN_CAUSE bit 2 and makes a region fault that halts the region's lanes, stops its DMA and sends its units to their safe states. -/
  | regionClockFault (r : RegionId) (failing : Bool) (core : Bool)
  /-- ETH_LINK_STATE_CHANGE (R461): An Ethernet PHY link comes up or goes down, changing PORT_STAT.up of the port. -/
  | ethLinkStateChange (p : EthPort) (up : Bool)
  /-- SUPPLY_BELOW_HOLD_LEVEL (R541): A supply falls below its hold level (VDD_ANA 1.5 V, VDD_IO 2.8 V, VDD_LNK 4.0 V or VDRV 8.0 V), and the outputs it serves go low with the direct-leg gates held off by the passive pull-downs. -/
  | supplyBelowHoldLevel (rail : HoldRail) (mv : Nat)
  deriving DecidableEq, Repr

end Sys2Proof
end

