-- ==== Sys2Proof/Machine/State.lean ====
section
/-! DEFINITION. The state of the device as plain data: time, registers, memories, lanes, legs, units and the
internal state of its engines, with the queue of waiting commands, and the state after reset. -/

namespace Sys2Proof.Machine

/-! ### Lanes -/

/-- The states of LANE_STATE.state (R97). -/
inductive LaneMode where
  | halted | run | wait | done
  deriving DecidableEq, Repr

/-- The phases of a sub-tick (R60). -/
inductive Phase where
  | intake | compute | exchange | commit | closed
  deriving DecidableEq, Repr

/-- A register a lane operation writes (R75). -/
inductive LaneDst where
  | g (n : GReg)
  | acc (n : AReg)
  | vec (n : VReg)
  deriving DecidableEq, Repr

/-- What a lane operation writes: a word, an accumulator, a product still to be added to the accumulator in
the operation's last cycle (R122), or a vector with its exponent. -/
inductive LaneVal where
  | word (w : Word)
  | acc (a : Acc40)
  | addProduct (p : Int)
  | vec (m : QWord) (e : Byte)
  deriving DecidableEq, Repr

/-- A write in flight (R77, R121): the first cycle in which it is seen, its issue cycle and slot (R78, R123),
its register and value, the LANE_STATUS flags it sets and, for LIM, the value of the lim bit. -/
structure LaneWrite where
  due : Nat
  issue : Nat
  slot : Nat
  dst : LaneDst
  val : LaneVal
  flags : Word
  lim : Option Bool
  deriving DecidableEq, Repr

/-- An entry of the loop stack: first and last bundle of the body and the remaining count (R133). -/
structure LoopEntry where
  first : Nat
  last : Nat
  left : Nat
  deriving DecidableEq, Repr

/-- What holds a lane in WAIT: a phase, an event with its deadline, a COMMIT before the commit phase, a PUT or
GET before the exchange phase, or one that counts as issued since the cycle `since` (s of R26). Of such an exchange, `arrived`
is the cycle in which it requested its banks, none while a GET's channel is not ready; `left` are the banks that have not
served it; `doneAt` is the cycle of its completion once every bank has (R25). -/
inductive Held where
  | phase (p : Phase)
  | event (bit : BitVec 5) (deadline : Nat)
  | commit (leg : Fin 32) (cmd : QWord)
  | putEarly (x : ExchOp) (sealing : Bool) (data : List Word)
  | getEarly (x : ExchOp)
  | put (x : ExchOp) (sealing : Bool) (data : List Word) (since : Nat) (arrived : Option Nat) (left : List Nat) (doneAt : Option Nat)
  | get (x : ExchOp) (since : Nat) (arrived : Option Nat) (left : List Nat) (doneAt : Option Nat)
  deriving DecidableEq, Repr

/-- One lane with the sub-tick of its block. Registers that nothing has written read 0 (R76). -/
structure Lane where
  mode : LaneMode
  held : Option Held
  g : Store Word
  acc : Store Acc40
  vm : Store QWord
  ve : Store Byte
  pc : Nat
  /-- The bundle at `pc` has issued; the next bundle issues at `nextAt`. -/
  issued : Bool
  nextAt : Nat
  redirect : Option Nat
  /-- The aligned pair of bundles that has been fetched (R139). -/
  pair : Option Nat
  writes : List LaneWrite
  loops : List LoopEntry
  link : Option Nat
  phase : Phase
  subStart : Nat
  /-- Edge step at which the sub-tick began, and its first lane cycle counted from the tick (R58). -/
  subStep : Nat
  subFrom : Nat
  computeAt : Nat
  computeNs : DWord
  subTick : Nat
  /-- Edge step of the frame tick to which the sub-tick belongs (R58). -/
  tickOf : Option Nat
  completed : Bool
  overrunLast : Bool
  /-- Condition bits that fired in cycle `freshAt` (R115). -/
  freshAt : Nat
  fresh : Word
  /-- Those of them that were 0 before that cycle. -/
  freshNew : Word
  /-- One more than the lane cycle of the lane's last store to LANE_STATUS (R497). -/
  statusAt : Nat
  /-- One more than the lane cycle in which a master last wrote LANE_STATUS, and the bits this cleared (R497). -/
  hostAt : Nat
  hostClr : Word
  /-- LANE_STATUS flags set in a lane cycle, and one more than that cycle (R98). -/
  flagAt : Nat
  flagNow : Word
  deriving DecidableEq, Repr

/-- A lane after power-on reset: HALTED, every register 0 (R76, R86). -/
def Lane.initial : Lane :=
  { mode := .halted, held := none, g := [], acc := [], vm := [], ve := [], pc := 0, issued := false,
    nextAt := 0, redirect := none, pair := none, writes := [], loops := [], link := none, phase := .closed, subStart := 0, subStep := 0, subFrom := 0,
    computeAt := 0, computeNs := 0, subTick := 0, tickOf := none, completed := true, overrunLast := false, freshAt := 0,
    fresh := 0, freshNew := 0, statusAt := 0, hostAt := 0, hostClr := 0,
    flagAt := 0, flagNow := 0 }

/-! ### Legs -/

/-- The leg states (R176). -/
inductive LegSt where
  | off | armed | run | softOff | ascHigh | ascLow | settle | fault
  deriving DecidableEq, Repr

/-- The two sides of a leg. -/
inductive Side where
  | high | low
  deriving DecidableEq, Repr

/-- A command in the next slot: its words w0 to w3 from bit 0 up, whether it is sealed, and the block of the lane
that committed it (R101, R104). -/
structure NextCmd where
  cmd : QWord
  isSealed : Bool
  lane : BlockId
  deriving DecidableEq, Repr

/-- One leg (R155 to R186, R206 to R210). Times are lane cycles unless a field says edge steps. -/
structure Leg where
  st : LegSt
  drvH : Bool
  drvL : Bool
  /-- The level at the FB input of each channel, or on a direct leg whether its gate lies below the gate-sense threshold; the
  level at the FLT input, since when it has been active, and whether the filter has completed (R166, R177, R180, R184). -/
  fbH : Bool
  fbL : Bool
  flt : Bool
  fltAt : Option Nat
  fltSeen : Bool
  soft : Bool
  hsl : Bool
  cur : QWord
  next : Option NextCmd
  /-- The request signal (R160). -/
  req : Bool
  /-- Edge step of the last turn-off command of each channel (R164). -/
  offAtH : Nat
  offAtL : Nat
  /-- A turn-on that waits for its dead time and handshake (R166). -/
  want : Option Side
  /-- Edge step at which the counter was or will be 0, and whether the period's peak event has occurred. -/
  zeroAt : Int
  peakDone : Bool
  /-- Edge step of a restart at 0 still to come (R156). -/
  restart : Option Nat
  /-- A period cut short by a write: it ends late, and the earliest lane cycle of its next carrier event (R174). -/
  late : Bool
  evFrom : Nat
  /-- A cycle limit has ended the on-interval of this period (R162). -/
  cycleHeld : Bool
  /-- Edge step of the last cycle limit, which ends a mode 3 request, and the one before which no c = phi begins one (R160). -/
  limitAt : Nat
  phiFrom : Nat
  /-- A zero-current detection holds the low side off until its next turn-on in a later period; whether a valley has come since
  (R215). -/
  zcdHeld : Option Bool
  /-- After a mode change both channels stay off until this lane cycle, and until the first update event (R174). -/
  modeHold : Option Nat
  /-- First lane cycle in which the trip comparator is not blanked (R207). -/
  blankEnd : Nat
  blanking : Bool
  /-- The comparators have acted on the present activation of their outputs (R206, R208). -/
  tSeen : Bool
  hSeen : Bool
  /-- Lane cycle of the last start of the blanking, and edge step of the last turn-on of the low side (R207, R215). -/
  blankFrom : Nat
  onAtL : Nat
  /-- The slope ramp in units of 1/1600 code, and the lane cycle at which it stood there (R210). -/
  rampFrom : Nat
  rampVal : Nat
  /-- One more than the lane cycle of the last ZCD_UNMAPPED of this leg (R216). -/
  warnAt : Nat
  /-- Lane cycles of the cross-commands within the last 1 ms (R173). -/
  crossAt : List Nat
  /-- The lane cycle of the last trip or HSL disable, and that in which a trip comparator alone put the leg into FAULT (R20). -/
  tripAt : Option Nat
  compAt : Option Nat
  softAt : Nat
  settleAt : Nat
  /-- One more than the lane cycle of the last commit that took effect, and its lane (R102). -/
  commitAt : Nat
  commitBy : BlockId
  deriving DecidableEq, Repr

/-- A leg after reset: OFF, both channels off and shown off (R176, R181). -/
def Leg.initial : Leg :=
  { st := .off, drvH := false, drvL := false, fbH := true, fbL := true, flt := true, fltAt := none,
    fltSeen := false, soft := false, hsl := false, cur := 0,
    next := none, req := false, offAtH := 0, offAtL := 0, want := none, zeroAt := 0, peakDone := false,
    restart := none, late := false, evFrom := 0,
    cycleHeld := false, limitAt := 0, phiFrom := 0, zcdHeld := none, modeHold := none, blankEnd := 0, blanking := false,
    tSeen := false, hSeen := false, compAt := none, blankFrom := 0, onAtL := 0, rampFrom := 0, rampVal := 0, warnAt := 0, crossAt := [], tripAt := none, softAt := 0, settleAt := 0, commitAt := 0, commitBy := 0 }

/-! ### Units -/

/-- The unit states (R330). -/
inductive UnitSt where
  | disabled | enabling | run | shutting | hold | settle | locked
  deriving DecidableEq, Repr

/-- What a unit orders its legs to do, with the codes of UNIT_STAT.action (R343). -/
inductive Action where
  | none | off | soft | ascLow | ascHigh
  deriving DecidableEq, Repr

/-- One unit (R320 to R343). Its registers lie in the register store. -/
structure UnitRec where
  st : UnitSt
  action : Action
  /-- End of the open attribution window (R323). -/
  window : Option Nat
  /-- A decision stands until the unit is DISABLED (R325). -/
  decided : Bool
  /-- The decision is to be applied, and an accepted enable request to be entered upon, in the next lane cycle (R324, R332). -/
  deciding : Bool
  accepted : Bool
  hsl : Bool
  lockPend : Bool
  /-- Frame ticks emitted since entry into ENABLING (R331). -/
  enTicks : Nat
  settleAt : Nat
  /-- Lane cycles of the unit faults of the last second (R335). -/
  faultAt : List Nat
  /-- Legs still to be released by an ASC exit, and when the next is due (R334). -/
  exitLegs : List LegId
  exitAt : Nat
  exiting : Bool
  deriving DecidableEq, Repr

/-- A unit after reset: DISABLED. -/
def UnitRec.initial : UnitRec :=
  { st := .disabled, action := .none, window := none, decided := false, deciding := false, accepted := false, hsl := false, lockPend := false,
    enTicks := 0, settleAt := 0, faultAt := [], exitLegs := [], exitAt := 0, exiting := false }

/-! ### Events -/

/-- A raise in the staging queue of the log: lane cycle, source, scope, argument and time (R513). -/
structure Staged where
  cycle : Nat
  src : Nat
  scope : Nat
  arg : Word
  ns : DWord
  deriving DecidableEq, Repr

/-! ### DMA channels -/

/-- A DMA descriptor as read at its start (R447). -/
structure DmaDesc where
  addr : Word
  src : Word
  dst : Word
  len : Nat
  ctrl : Word
  user : Word
  pattern : DWord
  deriving DecidableEq, Repr

/-- A DMA channel: the queued descriptor addresses, the descriptor in execution with the bytes it has asked for and moved and
the code of an error it has met, and the number of descriptors started, which tells a transaction of an earlier one (R447 to
R450). -/
structure DmaChan where
  queue : List Word
  cur : Option DmaDesc
  asked : Nat
  moved : Nat
  err : Nat
  started : Nat
  deriving DecidableEq, Repr

/-- A channel after reset: nothing queued. -/
def DmaChan.initial : DmaChan := { queue := [], cur := none, asked := 0, moved := 0, err := 0, started := 0 }

/-! ### The chip fabric -/

/-- What a transaction is for: an access of a master, or the bytes from `at_` up of the descriptor with the number `seq` that
channel `c` of a region's DMA engine reads, or writes with these double words (R31, R447). -/
inductive FabWork where
  | access (x : PairAccess)
  | dmaRead (c : Fin 4) (seq at_ : Nat) (left : List Nat) (got : List DWord)
  | dmaWrite (c : Fin 4) (seq at_ : Nat) (left : List (Nat × DWord))
  deriving DecidableEq, Repr

/-- Where a transaction is: on its way to its target, at its target, or served with its response on its way (R31). -/
inductive FabStage where
  | going | waiting | served
  deriving DecidableEq, Repr

/-- A request of a master or, once accepted, the transaction: since when it waits at its port and whether that has raised
FABRIC_STARVE (R33), what disturbs its beats (R434), and the answer it has had. -/
structure FabReq where
  m : Master
  work : FabWork
  noise : BeatNoise
  since : Nat
  told : Bool
  stage : FabStage
  resp : Word
  err : Bool
  deriving DecidableEq, Repr

/-- The chip fabric: the requests that wait at their ports in the order they came, the transactions that hold a tag in the
order they were accepted, the shared master that holds the grant with its consecutive grants (R29), and by region the DMA
channel that was served last. -/
structure Fabric where
  waiting : List FabReq
  running : List FabReq
  holder : Nat
  grants : Nat
  channel : Store Nat
  deriving DecidableEq, Repr

/-- The fabric after reset: nothing waits or runs. -/
def Fabric.initial : Fabric := { waiting := [], running := [], holder := 0, grants := 0, channel := [] }

/-! ### The safety pair -/

/-- A compare point a safety core has reached (R345). -/
inductive PairPoint where
  | access (x : PairAccess)
  | chkpt (v : Word)
  deriving DecidableEq, Repr

/-- The core that waits at a compare point, SC1 or not, since when, and where; the answer of a read that it made (R345,
R346). -/
structure PairWait where
  sc1 : Bool
  since : Nat
  point : PairPoint
  data : Word
  err : Bool
  deriving DecidableEq, Repr

/-! ### The Trellis -/

/-- A master announced on a port: what it says, when it was heard, and its announce interval in lane cycles (R46). -/
structure Announced where
  rank : ClockRank
  at_ : Nat
  ivl : Nat
  deriving DecidableEq, Repr

/-- The Trellis beside its registers (R43 to R72). -/
structure Trellis where
  /-- Consecutive Syncs within 50 ns of the master (R48). -/
  synced : Nat
  /-- Lane cycle of the last Sync, and the master's sync interval in lane cycles. -/
  lastSync : Nat
  syncIvl : Nat
  /-- A held TRL_TIME_HI write (R51). -/
  heldHi : Option Word
  /-- By port: the master announced there with the lane cycle and the announce interval, the arrival of a Sync whose origin
  is still to come, and the measured link delay; times in units of 2^-16 ns (R46, R47). -/
  rank : Store (Option Announced)
  arrival : Store (Option PtpTime)
  delay : Store Nat
  /-- The device's own rank as configured (R46). -/
  own : OwnClock
  /-- Lane cycle of the entry into HOLDOVER (R54). -/
  holdAt : Nat
  /-- The frequency trim of the lane clock in ppb, which makes 800 lane cycles last 1000 ns of network time, and the correction
  of the counter against its master that is still to be slewed, in units of 2^-16 ns (R44, R50). -/
  trim : Int
  slew : Int
  /-- Edge steps at which the last tick was emitted and the next will be (R56). -/
  tickStep : Nat
  nextStep : Nat
  /-- The length in lane cycles by which the present tick is divided, and the edge steps of its correction, which its sub-ticks,
  boundaries and carrier periods share (R57, R58, R69). -/
  tickLen : Nat
  stretch : Int
  /-- In AXLE, the edge step of the leader's last tick and its index (R72, R483). -/
  lead : Option (Int × Nat)
  /-- How often the delay line has been calibrated, and when last (R547). -/
  calibrations : Nat
  calibratedAt : Nat
  /-- Edge step of the tick at which the shadowed timing last took effect (R68). -/
  appliedStep : Option Nat
  deriving DecidableEq, Repr

/-- The Trellis after reset: FREE; tick 0 of the grid is due at time zero. -/
def Trellis.initial : Trellis :=
  { synced := 0, lastSync := 0, syncIvl := 0, heldHi := none, rank := [], arrival := [], delay := [],
    own := ⟨248, 248, 248⟩, holdAt := 0, trim := 0, slew := 0, tickStep := 0, nextStep := 0, tickLen := 16000, stretch := 0,
    lead := none, calibrations := 0, calibratedAt := 0,
    appliedStep := none }


/-! ### The analogue front end -/

/-- Where a sequence of a converter stands: idle, waiting with its intended start, or running since a lane cycle with
the next entry to land (R189, R192). -/
inductive SeqPhase where
  | idle
  | waiting (startAt : Nat)
  | running (since entry : Nat)
  deriving DecidableEq, Repr

/-- A sequence of a converter: a trigger not yet served, its phase, the configuration and entries copied at its start
(R193), the count its run reaches (R195), and one more than the lane cycle of its last completion (R196). -/
structure AdcSeq where
  trig : Bool
  phase : SeqPhase
  cfg : Word
  ents : List Word
  count : Nat
  doneAt : Nat
  deriving DecidableEq, Repr

/-- A sequence after reset. -/
def AdcSeq.initial : AdcSeq := { trig := false, phase := .idle, cfg := 0, ents := [], count := 0, doneAt := 0 }

/-- A converter beside its sequences: since when nothing is converted, the last lane cycle with an idle window, whether the last
check and the last two checks of channel 16 and of channel 17 failed, and for ADC3 what comes next in its rotation: the checks
of channels 16 and 17 are 0 and 1, DAC n is n + 2 (R197, R198, R217). -/
structure AdcConv where
  freeAt : Nat
  idleAt : Nat
  failRef : Bool
  failGnd : Bool
  badRef : Bool
  badGnd : Bool
  turn : Nat
  deriving DecidableEq, Repr

/-- A converter after reset. -/
def AdcConv.initial : AdcConv := { freeAt := 0, idleAt := 0, failRef := false, failGnd := false, badRef := false, badGnd := false, turn := 0 }

/-- A sigma-delta input: the lane cycle from which its modulator clock counts, the bits taken since then, those that have
entered since the last restart or stuck condition, the run of bits of one level, the last bits with the latest first, the last
decimation instant, whether its pin is stuck, its output count, and the legs that the present overcurrent has tripped (R199 to
R204). -/
structure SdInput where
  since : Nat
  taken : Nat
  entered : Nat
  run : Nat
  bits : List Bool
  lastOut : Nat
  stuck : Bool
  count : Nat
  tripped : Option Word
  /-- Decimation goes on unaligned since a timing apply (R201). -/
  unaligned : Bool
  deriving DecidableEq, Repr

/-- An input after reset. -/
def SdInput.initial : SdInput :=
  { since := 0, taken := 0, entered := 0, run := 0, bits := [], lastOut := 0, stuck := false, count := 0, tripped := none,
    unaligned := false }

/-! ### Feedback channels -/

/-- An input pin of a feedback channel or a probe: its level, the lane cycle and network time at which that level appeared, and
the filtered level (R257). -/
structure FbPin where
  level : Bool
  since : Nat
  ns : DWord
  out : Bool
  deriving DecidableEq, Repr

/-- A pin after reset: low. -/
def FbPin.initial : FbPin := { level := false, since := 0, ns := 0, out := false }

/-- A pin of the HSL after reset: high. -/
def FbPin.high : FbPin := { level := true, since := 0, ns := 0, out := true }

/-- A probe beside its registers: its pin, an edge that passes its filter with the angle latched at its appearance (R276). -/
structure Probe where
  pin : FbPin
  angle : Word
  deriving DecidableEq, Repr

/-- A probe after reset. -/
def Probe.initial : Probe := { pin := FbPin.initial, angle := 0 }

/-- A feedback channel beside its registers (R256 to R280). Times are lane cycles. -/
structure FbChan where
  /-- A sample instant not yet served, and one more than the lane cycle of the last sample (R258, R280). -/
  trig : Bool
  sampledAt : Nat
  /-- FBn_A, FBn_B and FBn_Z. -/
  pinA : FbPin
  pinB : FbPin
  pinZ : FbPin
  count : Int
  up : Bool
  /-- Time stamps of the counted edges since the last reversal or restart, the latest first, at most 65 (R273); that of the last
  counted edge, or the enable (R274). -/
  edges : List Nat
  lastEdge : Nat
  edgeNs : Word
  /-- An index has been counted since enable (R263). -/
  indexed : Bool
  /-- The lines per turn before a write, and its lane cycle (R261). -/
  linesOld : Option (Nat × Nat)
  sector : Option Nat
  /-- The Hall angle in units of 1/800 of 2^-32 turns; it and the speed are held while the state is invalid (R265, R266). -/
  fine : Nat
  hold : Bool
  heldSpeed : Int
  turns : Int
  hallBad : Nat
  illegalAt : List Nat
  samples : Nat
  valid : Bool
  zero : Bool
  /-- Resolver: the start of the excitation, the last peak served, the samples of this excitation period, whether its pair is to be
  skipped, the observer's angle at `phiAt` in units of 1/800 of 2^-32 turns with its speed, and the runs of skipped pairs and of
  pairs beyond the limits (R267 to R270). -/
  excAt : Nat
  peakAt : Nat
  posS : Option Int
  negS : Option Int
  posC : Option Int
  negC : Option Int
  skip : Bool
  positive : Bool
  phi : Nat
  phiAt : Nat
  omega : Word
  paired : Bool
  skips : Nat
  losRun : Nat
  trkRun : Nat
  /-- SSI: the instant of a frame that runs with the start of the frame, the earliest start of the next frame, the last two good
  positions with their instants, the bits of the last frame, since when the position is unchanged, and the run of bad frames (R271,
  R272, R275, R474). -/
  frame : Option (Nat × Nat)
  nextFrame : Nat
  good : Option (Int × Nat)
  before : Option (Int × Nat)
  bits : DWord
  stillAt : Nat
  badRun : Nat
  deriving DecidableEq, Repr

/-- A channel after reset. -/
def FbChan.initial : FbChan :=
  { trig := false, sampledAt := 0, pinA := FbPin.initial, pinB := FbPin.initial, pinZ := FbPin.initial, count := 0, up := true,
    edges := [], lastEdge := 0, edgeNs := 0, indexed := false, linesOld := none, sector := none, fine := 0, hold := false,
    heldSpeed := 0, turns := 0, hallBad := 0, illegalAt := [], samples := 0, valid := false, zero := false, excAt := 0, peakAt := 0,
    posS := none, negS := none, posC := none, negC := none, skip := false, positive := false, phi := 0, phiAt := 0, omega := 0,
    paired := false, skips := 0, losRun := 0, trkRun := 0, frame := none, nextFrame := 0, good := none, before := none, bits := 0,
    stillAt := 0, badRun := 0 }

/-- A write of an intake word that lands in a later lane cycle, with the condition bits it sets in every lane of the
region one cycle later (R258). -/
structure Landing where
  due : Nat
  region : Nat
  word : Nat
  val : Word
  cond : Word
  deriving DecidableEq, Repr

/-! ### Capture units -/

/-- The states of CAP_STAT.state (R453). -/
inductive CapSt where
  | idle | armed | triggered | done
  deriving DecidableEq, Repr

/-- A sample instant of a capture unit whose record is still to be written: when, the lane cycle of the instant and its
network time (R452). -/
structure CapInstant where
  due : Nat
  at_ : Nat
  ns : Word
  deriving DecidableEq, Repr

/-- A capture unit beside its registers: instants counted for the divider, instants to be recorded, the next index and
the records written since arming, a trigger not yet served, the lane cycle of the trigger, the trigger record, the
records written before it, and the records still to be taken from it (R452 to R454). -/
structure CapUnit where
  st : CapSt
  div : Nat
  waiting : List CapInstant
  next : Nat
  written : Nat
  noted : Option Nat
  trigAt : Nat
  trigRec : Option Nat
  before : Nat
  left : Nat
  armAt : Nat
  deriving DecidableEq, Repr

/-- A capture unit after reset: IDLE. -/
def CapUnit.initial : CapUnit :=
  { st := .idle, div := 0, waiting := [], next := 0, written := 0, noted := none, trigAt := 0, trigRec := none, before := 0, left := 0,
    armAt := 0 }


/-! ### Shed sequencers and reference programs -/

/-- What a shed sequencer has still to do in this lane cycle: start a shed, complete one, end the dwell or the hold-off
(R293, R294, R299). -/
inductive ShedMark where
  | start | complete | dwellEnd | holdEnd
  deriving DecidableEq, Repr

/-- A shed sequencer beside its registers: commit points in a row at or below the threshold, commit points of the dwell
or hold-off, the reference value of the last commit point, one more than the lane cycle of the last load step
(R292 to R300). -/
structure ShedSeq where
  mark : Option ShedMark
  low : Nat
  count : Nat
  prev : Option Nat
  stepAt : Nat
  deriving DecidableEq, Repr

/-- A sequencer after reset. -/
def ShedSeq.initial : ShedSeq := { mark := none, low := 0, count := 0, prev := none, stepAt := 0 }

/-- The variables of the traction program (R229 to R254). Angles are 2^32 to a turn; a speed is electrical, in 2^-32 turns per
second; measured currents and voltages are Q15; references of current are 2^-31 of i_base, of torque and speed 2^-16 of 0.01 %;
voltages of the loop are 2^-30 of v_base. -/
structure Drive where
  /-- Angle and speed in use, the observer's own, and its angle-error estimate in 0.1° (R228, R254). -/
  theta : Word
  speed : Int
  obsAngle : Word
  obsSpeed : Int
  err : Nat
  /-- For how long, in lane cycles, the estimate has stayed below ho_err and above 30° (R252, R254). -/
  errLow : Nat
  errHigh : Nat
  /-- Measured currents and DC-link voltage of this sub-tick (R229, R235). -/
  id : Int
  iq : Int
  volts : Int
  /-- The vector that is tracked while no loop runs: its last angle, the angle travelled, the sum of its magnitudes and how many
  there were (R250, R253). -/
  lastAngle : Option Word
  turned : Int
  mags : Nat
  looks : Nat
  /-- The references, and whether those of current still slew from where they were seeded (R234, R237). -/
  idRef : Int
  iqRef : Int
  idSlew : Bool
  iqSlew : Bool
  torque : Int
  wRef : Int
  /-- Slews in force: those of the parameter record when the command was accepted (R238). -/
  rateT : Nat
  rateW : Nat
  /-- The speed controller's integrator and the sub-ticks until it runs next (R232). -/
  spdI : Int
  spdWait : Nat
  /-- The current controllers: integrators and outputs, whether the last voltage was limited, its magnitude, Δid (R230, R231,
  R234), and the duties of the phases, Q15. -/
  intD : Int
  intQ : Int
  outD : Int
  outQ : Int
  limited : Bool
  vMag : Nat
  weaken : Int
  duties : List Int
  deriving DecidableEq, Repr

/-- A drive after load. -/
def Drive.initial : Drive :=
  { theta := 0, speed := 0, obsAngle := 0, obsSpeed := 0, err := 0, errLow := 0, errHigh := 0, id := 0, iq := 0, volts := 0,
    lastAngle := none, turned := 0, mags := 0, looks := 0, idRef := 0, iqRef := 0, idSlew := false, iqSlew := false,
    torque := 0, wRef := 0, rateT := 0, rateW := 0, spdI := 0, spdWait := 0, intD := 0, intQ := 0, outD := 0, outQ := 0,
    limited := false, vMag := 0, weaken := 0, duties := [] }

/-- The variables of the chopper program for one leg: its last on-current sample, the part of the carrier for which its command
of the last valley is on before it, the count of the last sample, counted low samples, and its duty as a fraction (R310, R311). -/
structure Brake where
  onI : Option Int
  lead : Nat
  count : Option Nat
  low : Nat
  num : Nat
  den : Nat
  deriving DecidableEq, Repr

/-- A chopper leg before any sample. -/
def Brake.initial : Brake := { onI := none, lead := 0, count := none, low := 0, num := 0, den := 1 }

/-- The Staveno reference program that a unit's lanes run (R224, R283, R305, R306, R308), beside its records in memory:
its state code, whether it has checked its configuration since ENABLING, the last accepted command record with its
sequence, whether a start waits to be served and one has been accepted since enable, start attempts, the time since the
last transition, counted in sub-ticks of its lane and held in lane cycles, and what the state tables name beside them. -/
structure Program where
  st : Nat
  checked : Bool
  seq : Word
  record : List Word
  start : Bool
  taken : Bool
  attempts : Nat
  /-- The present start is the second attempt (R252, R255). -/
  second : Bool
  age : Nat
  /-- CLOSED was entered from FLY_DETECT (R251); a stop was accepted in ASC_HOLD (R253). -/
  fromFly : Bool
  stopAsked : Bool
  /-- First of the free values from which this sub-tick's open choices come. -/
  draw : Nat
  /-- Traction and auxiliary inverters. -/
  drive : Drive
  /-- Converters: the present reference in 0.1 V / 800000, the common peak reference and its run at dac_max, legs in diode
  emulation, and the compensator: its integrator or its last two outputs in 2^-30 codes, its last two errors (R287 to R290,
  R302). -/
  vNow : Nat
  dac : Nat
  atMax : Nat
  diode : Word
  out1 : Int
  out2 : Int
  err1 : Int
  err2 : Int
  /-- Choppers: healthy legs, one bit per unit-local leg, the legs' variables by unit-local number, the DC-link voltage in
  2^-15 V and whether a resistor is above its limit (R310, R311). -/
  healthy : Nat
  brakes : Store Brake
  linkV : Int
  hot : Bool
  /-- The cells of the thermal model of each module, in 2^-20 of 1/16 °C: cell `k` of module `m` at 4m + k (R421). -/
  cells : Store Int
  deriving DecidableEq, Repr

/-- A program after load: IDLE. -/
def Program.initial : Program :=
  { st := 0, checked := false, seq := 0, record := [], start := false, taken := false, attempts := 0, second := false, age := 0,
    fromFly := false, stopAsked := false, draw := 0, drive := Drive.initial, vNow := 0, dac := 0, atMax := 0, diode := 0,
    out1 := 0, out2 := 0, err1 := 0, err2 := 0, healthy := 0, brakes := [], linkV := 0, hot := false, cells := [] }

/-! ### The HSL and the safe channel -/

/-- The HSL beside its registers (R350 to R369). Times are lane cycles. -/
structure Hsl where
  /-- Units on which the present OV3 action acts (R315). -/
  ov3Units : Word
  /-- The pins STO_A and STO_B with their filters, and since when the filtered levels differ, and whether that has tripped (R353,
  R354). -/
  stoA : FbPin
  stoB : FbPin
  stoDiff : Option (Nat × Bool)
  /-- Rise of each slot's demand (R360 to R362). -/
  sfAt : Store Nat
  /-- Since when a bound slot of each SAFE_OUT is demanded while the output is high (R355). -/
  soAt : Store (Option Nat)
  /-- Since when each SAFE_FB differs from its SAFE_OUT, and whether that has tripped (R357). -/
  soFbAt : Store (Option (Nat × Bool))
  /-- The copy of the tick period, in lane cycles (R353). -/
  tickP : Nat
  /-- The start of the watchdog period, whether each response has come and was right, whether the last judged period was
  good (R350). -/
  wdAt : Option Nat
  resp0 : Option Bool
  resp1 : Option Bool
  wdGood : Bool
  /-- The safety pair has been released; its reload after a loss of agreement has failed (R348, R351, R397). -/
  pairUp : Bool
  reloadBad : Bool
  /-- The inputs whose interrupts both cores took at the last CHKPT (R347). -/
  taken : DWord
  /-- The start of the last frame of the safety firmware, and the requests of the application firmware that it read (R349,
  R360); worst cases are to be computed anew after an apply (R366). -/
  frameAt : Option Nat
  requests : BitVec 8
  wcDue : Bool
  /-- Arming of the lock-out reset, and since when SAFE_ACK is low (R368, R369). -/
  armedAt : Nat
  ackLow : Option Nat
  /-- Kept by the safety firmware: BOUND slots over their ceiling (R366), the speed at each SS1 demand (R362), since when
  the speeds of an SLS slot differ, since when the units outside a DISCH slot are quiet, DISCH slots that failed, and
  a brake request still to be sent (R314). -/
  overCeil : Nat
  omega0 : Store (Option Int)
  slsAt : Store (Option Nat)
  quietAt : Store (Option Nat)
  dischBad : Nat
  brakeDue : Bool
  /-- Start of the disable-path test (R520), and of an update (R536); the pair has once been released (R383). -/
  testAt : Option Nat
  updAt : Nat
  /-- The safety firmware Cask has been verified during UPDATE (R536). -/
  updOk : Bool
  released : Bool
  deriving DecidableEq, Repr

/-- The HSL after reset. -/
def Hsl.initial : Hsl :=
  { ov3Units := 0, stoA := FbPin.high, stoB := FbPin.high, stoDiff := none, sfAt := [], soAt := [], soFbAt := [], tickP := 16000,
    wdAt := none, resp0 := none, resp1 := none, wdGood := true, pairUp := false, reloadBad := false, taken := 0, frameAt := none, requests := 0,
    wcDue := false, armedAt := 0, ackLow := none, overCeil := 0, omega0 := [], slsAt := [], quietAt := [], dischBad := 0,
    brakeDue := false, testAt := none, updAt := 0, updOk := false, released := false }

/-- A safe-channel connection beside its registers: TOGGLE and sequence of the first valid frame in SYNC, the landed frame
to be checked with its landing cycle and time, the lane cycle from which the watchdog runs, ticks since the last
transmission, the next sequence number and the last frame sent, payload byte 0 of the last valid frame, whether it
carried RESET_REQ, and a reset request not yet served (R368, R374 to R381). -/
structure SchConn where
  synced : Bool
  landed : Option (List Byte × Nat × DWord)
  landTick : Nat
  since : Nat
  ticks : Nat
  txSeq : Nat
  sent : List Byte
  payload0 : Byte
  hadReset : Bool
  resetDue : Bool
  /-- The safety identity has been erased by a debug opening and not written since (R408). -/
  erased : Bool
  deriving DecidableEq, Repr

/-- A connection after reset. -/
def SchConn.initial : SchConn :=
  { synced := false, landed := none, landTick := 0, since := 0, ticks := 0, txSeq := 0, sent := [], payload0 := 0,
    hadReset := false, resetDue := false, erased := false }

/-! ### Cellar, tags and life -/

/-- A measurement: image type, region mask, Vintage and header hash of a verified Cask (R403, R405). -/
structure Meas where
  typ : Nat
  mask : Nat
  vintage : Nat
  hash : List Byte
  deriving DecidableEq, Repr

/-- A life record of the Cellar: serial, 64-bit consumed life, operating seconds and distance (R425). -/
structure LifeCopy where
  serial : List Byte
  consumed : Nat
  seconds : Nat
  distance : Nat
  deriving DecidableEq, Repr

/-- What outlives power: OTP fields beside the Cellar's registers (R392), the Cellar's NVS area (R401, R402, R406, R425), the
boot pointer with its trial and fall-back marks (R397, R533). -/
structure Vault where
  serial : List Byte
  ownerHash : Store (List Byte)
  /-- Floor entries by 64 × type + index. -/
  floors : Store Nat
  identity : Option (List Byte)
  /-- Owner signature and public key. -/
  endorsement : Option (List Byte × List Byte)
  wrapKey : Option (List Byte)
  /-- The split option of the safety pair in OTP (R351). -/
  split : Bool
  /-- At most two copies per serial, the newer first. -/
  life : List LifeCopy
  bootSlot : Bool
  trial : Bool
  fallback : Bool
  /-- Since power-on the registers that OTP and NVS keep have been loaded; until then their values wait here (R11). -/
  loaded : Bool
  parked : Store Word
  deriving DecidableEq, Repr

/-- A blank vault. -/
def Vault.initial : Vault :=
  { serial := [], ownerHash := [], floors := [], identity := none, endorsement := none, wrapKey := none, split := false, life := [],
    bootSlot := false, trial := false, fallback := false, loaded := true, parked := [] }

/-- The Cellar beside its registers: measurements by destination, the locked range with its destination, the debug challenge with its time, the
start of an erasure and whether it is the repeat, the MACsec key store by 8 × port + 4 × direction + AN with the suite of each
key, the next packet number of each transmit key, the transmit key of a port in use, and the anchor table's entries as
(index, revoked, key) (R387 to R410, R416). -/
structure Cellar where
  meas : Store (Option Meas)
  lock : Option (Nat × Nat)
  lockDest : Nat
  nonce : Option (List Byte × Nat)
  eraseAt : Nat
  again : Bool
  macsec : Store (Option (Bool × List Byte))
  packets : Store Nat
  txSa : Store (Option Nat)
  anchors : List (Nat × Bool × List Byte)
  deriving DecidableEq, Repr

/-- The Cellar after reset. -/
def Cellar.initial : Cellar :=
  { meas := [], lock := none, lockDest := 0, nonce := none, eraseAt := 0, again := false, macsec := [], packets := [], txSa := [], anchors := [] }

/-- A tag binding beside its registers: missed polls, the serial last authenticated, the values of its tag record, its
coefficients of its identity record, its 64-bit accumulator with operating seconds and distance, the histogram at the last
read, and as a LIFE_WRITE found it while the unit was DISABLED; full cycles with the channel's counter at the last read, the
peak temperature in 0.1 °C, the life factor, and when the tag was last polled, the histogram read and the factor moved
(R413, R417 to R426, R537). -/
structure Binding where
  missed : Nat
  serial : List Byte
  tag : LifeCopy
  coeff : List Byte
  acc : Nat
  seconds : Nat
  distance : Nat
  hist : Store Word
  mark : Option (Store Word)
  cycles : Nat
  cyclesAt : Nat
  peak : Int
  factor : Nat
  polledAt : Option Nat
  servedAt : Option Nat
  steppedAt : Option Nat
  deriving DecidableEq, Repr

/-- A binding after reset. -/
def Binding.initial : Binding :=
  { missed := 0, serial := [], tag := ⟨[], 0, 0, 0⟩, coeff := [], acc := 0, seconds := 0, distance := 0, hist := [],
    mark := none, cycles := 0, cyclesAt := 0, peak := 0, factor := 0x8000, polledAt := none, servedAt := none, steppedAt := none }

/-- A rainflow channel beside its registers: a read still to be made with its commit point, the running extreme and its
direction, and the stack of turning points, the newest first (R422). -/
structure RfChan where
  dueFrom : Option Nat
  last : Option Int
  up : Bool
  stack : List Int
  deriving DecidableEq, Repr

/-- A channel after reset. -/
def RfChan.initial : RfChan := { dueFrom := none, last := none, up := true, stack := [] }

/-! ### Racking, NVS, buses and ports -/

/-- The racking of a region beside its registers: the source of the trigger raised during PROBATION, whether the tick after
it has begun, and whether the region has been racked since power-on (R86, R526, R529); the last raise that is a trigger in
PROBATION and one more than its lane cycle, and one more than the lane cycle of the last accepted arm (R530). -/
structure Rack where
  trig : Option Nat
  due : Bool
  racked : Bool
  faultSrc : Nat
  faultAt : Nat
  armAt : Nat
  deriving DecidableEq, Repr

/-- A region's racking after reset. -/
def Rack.initial : Rack := { trig := none, due := false, racked := false, faultSrc := 0, faultAt := 0, armAt := 0 }

/-- A transaction of a module-tag bus: from the Cellar or not, operation, tag address, request payload, and the lane cycle of
its start (R479). -/
structure MtbTxn where
  cellar : Bool
  op : Nat
  addr : Nat
  payload : List Byte
  since : Nat
  deriving DecidableEq, Repr

/-- A module-tag bus: the transaction that runs, the pending command of the firmware and of the Cellar (R479), and the lane cycle
in which the guard time after the last transaction is over (R476). -/
structure MtbBus where
  run : Option MtbTxn
  fw : Option MtbTxn
  own : Option MtbTxn
  freeAt : Nat
  deriving DecidableEq, Repr

/-- A bus after reset. -/
def MtbBus.initial : MtbBus := { run := none, fw := none, own := none, freeAt := 0 }

/-- What a port puts on its line: an axle-link frame of a class with its slot number, index and payload (R487), the ordered
sets of R482 to R491, the break of a LIN header in bit times, the bytes of an Ethernet or LIN frame, a CAN frame, or as grandmaster an Announce, and a Sync whose Follow_Up
gives the origin time (R46, R47). -/
inductive LineItem where
  | frame (cls : Nat) (fresh : Bool) (slot : Nat) (k : Word) (payload : List Byte)
  | marker (offset : Nat) (t : DWord) (k : Word) (period : Nat)
  | ping
  | echo (hold : Nat)
  | ack
  | ident (src : Bool) (serial : List Byte)
  | linBreak (bits : Nat)
  | bytes (l : List Byte)
  | can (f : CanFrame)
  | announce (x : ClockRank)
  | syncOrigin (t : PtpTime)
  deriving DecidableEq, Repr

/-- A port beside its registers: whether each ring is being processed, whether a bad access has stopped it (R458), and the
lane cycle in which a LIN response was called for with the length asked (R472). -/
structure PortRun where
  tx : Bool
  rx : Bool
  txHalt : Bool
  rxHalt : Bool
  linAt : Option (Nat × Nat)
  deriving DecidableEq, Repr

/-- A port after reset: nothing runs. -/
def PortRun.initial : PortRun := { tx := false, rx := false, txHalt := false, rxHalt := false, linAt := none }

/-- An axle link beside its registers: a valid MARKER has come since the last tick, and the lane cycle of the last one or of the
entry into UP; the last delays measured; the fragments of the ring entry being sent with the repeats of the first and the lane
cycle in which its last sending ended; and the fragments received of a frame (R482 to R491). -/
structure AxlLink where
  marked : Bool
  markAt : Nat
  /-- The last MARKER told of another tick period (R483). -/
  otherPeriod : Bool
  owds : List Int
  /-- The edge step at which the last PING left, until its ECHO comes (R484). -/
  pingAt : Option Nat
  frags : List (List Byte)
  tries : Nat
  sentAt : Nat
  got : List Byte
  /-- The EXCH and SAFE frames that wait for a frame boundary, the oldest first; whether the first fragment waits for one; and when
  the line is free again, in fifths of a lane cycle (R486). -/
  exq : List LineItem
  safeq : List LineItem
  fragDue : Bool
  freeAt : Nat
  /-- One more than the lane cycle in which each slot was last enabled (R493). -/
  slotAt : Store Nat
  deriving DecidableEq, Repr

/-- A link after reset. -/
def AxlLink.initial : AxlLink :=
  { marked := false, markAt := 0, otherPeriod := false, owds := [], pingAt := none, frags := [], tries := 0, sentAt := 0, got := [],
    exq := [], safeq := [], fragDue := false, freeAt := 0, slotAt := [] }

/-- The result record of the loader and of the timing-apply service (R140, R154). -/
structure LoadResult where
  code : Nat
  block : Nat
  bundle : Nat
  slot : Nat
  worst : Nat
  claim : Nat
  deriving DecidableEq, Repr

/-! ### The device -/

/-- The device without the queue of commands. -/
structure Dev where
  /-- Lane cycles since power-on. -/
  now : Nat
  /-- Network time: 64 bits of ns and 16 bits of fraction (R43). -/
  net : BitVec 80
  /-- Registers by address; an unlisted register holds its reset value. -/
  regs : Store Word
  /-- The values in force of shadowed timing registers (R68), by address. -/
  inforce : Store Word
  /-- Snapshot copies by address (R504). -/
  snaps : Store Word
  /-- Words of the indirect spaces by space and indirect address (R502). -/
  ind : Store Word
  /-- Conditions that have not ended, by the address of the register that latched them (R40). -/
  live : Store Word
  /-- SRAM by byte address (R430, R494); an unlisted byte reads 0. -/
  mem : List Host.Cell
  /-- Aligned 64-bit words that hold an uncorrectable error, by address (R432, R436). -/
  bad : Store Bool
  /-- Intake words written in the present lane cycle, with the value they had before (R84). -/
  intakeOld : Store (Nat × Word)
  lanes : Store Lane
  legs : Store Leg
  units : Store UnitRec
  /-- Cycle from which each exchange channel is ready (R107), by 256 × region + channel. -/
  chReady : Store (Option Nat)
  /-- One more than the lane cycle in which the port of a block memory was last used ahead of DMA and host accesses, by
  3 × block + 0 program, 1 data, 2 tables, and whether a DMA access was served there most recently (R22). -/
  portAt : Store Nat
  portDma : Store Bool
  /-- Lane routes in force (R511), by 16 × lane + route. -/
  laneRoutes : Store Word
  stage : List Staged
  /-- The registers as the present lane cycle, and as the present HSL cycle, began (R498, R504, R515). -/
  regs0 : Store Word
  regsHsl : Store Word
  /-- One more than the lane cycle in which hardware last set W1C bits, and the bits set in it, each with its register (R498). -/
  setAt : Nat
  setBits : List (Nat × Nat)
  /-- Lane cycle in which a cause register latched its first cause, by address (R38). -/
  causeAt : Store Nat
  /-- The answer of the last register or memory access a command made: the word read and whether it was an
  error response. -/
  resp : Word
  respErr : Bool
  /-- The model's own count of free values taken. -/
  free : Nat
  /-- DMA channels by 4 × region + channel. -/
  dma : Store DmaChan
  /-- The safety core that waits for the other, and the lane cycle since which both are held in reset (R346, R348). -/
  pairWait : Option PairWait
  pairReset : Option Nat
  /-- One more than the lane cycle of the last MEM_CORRECTED of each count register, by its address (R436). -/
  correctedAt : Store Nat
  trl : Trellis
  /-- Sequences by 8 × region + 2 × converter + sequence, converters by 4 × region + converter. -/
  seqs : Store AdcSeq
  convs : Store AdcConv
  /-- Sigma-delta inputs by 16 × region + input. -/
  sds : Store SdInput
  /-- One more than the lane cycle of the last code change of each threshold DAC and the code before, by 80 × region + DAC (R217,
  R219). -/
  dacAt : Store (Nat × Nat)
  /-- DACs whose last readback failed (R217). -/
  rbBad : Store Bool
  /-- The voltage last seen at an analogue input, in µV, by 96 × region + input: 0 to 63 RGNr_AIN, 64 to 95 LEGk_ISNS of the
  region's legs (R187, R212). -/
  pins : Store (Option Nat)
  /-- The raw output of each window comparator, and since when it has differed from the filtered one, by 16 × region + comparator
  (R212). -/
  raws : Store Bool
  rawAt : Store (Option Nat)
  /-- Lane cycle of the last complete readback pass or starvation of a region (R218). -/
  passAt : Store Nat
  /-- Condition bits to be set in the next lane cycle, by block (R84). -/
  condNext : Store Word
  /-- Feedback channels by 2 × region + local channel. -/
  fbs : Store FbChan
  /-- Probes by 2 × region + probe. -/
  prbs : Store Probe
  landings : List Landing
  /-- Capture units by region. -/
  caps : Store CapUnit
  /-- Shed sequencers by 2 × region + sequencer, reference programs by unit. -/
  sheds : Store ShedSeq
  progs : Store Program
  /-- Legs that have entered FAULT in this lane cycle, with their first causes; their units hear of it in the next (R323). -/
  notices : List (Nat × Nat)
  /-- Whether a program slot holds a reference program, by 2 × block + slot. -/
  refSlots : Store Bool
  /-- The factor of the budget word a program slot was loaded with, by 2 × block + slot (R150). -/
  slotFac : Store Nat
  /-- The claim of that budget word (R150), and the exchange-wait allowance of its program (R149). -/
  slotClaim : Store Nat
  slotWaits : Store Nat
  /-- Lane cycle in which an OV3 source was last found active, and of the last write of 1 to each HSL_OV3SEL bit (R316, R318). -/
  ov3At : Nat
  ov3SelAt : Store Nat
  /-- Active UV sources as 16 × region + window comparator, and the lane cycle since which one is (R358, R362). -/
  uvOn : List Nat
  uvSince : Nat
  hsl : Hsl
  /-- Safe-channel connections. -/
  schs : Store SchConn
  /-- Supplies below their hold level: bit 0 VDD_ANA, 1 VDD_IO, 2 VDD_LNK, 3 VDRV (R541). -/
  lowRails : Nat
  /-- Supplies outside their monitor windows, in the order of R540 (R353, R540). -/
  railsOut : Nat
  vault : Vault
  cellar : Cellar
  /-- Module tags on the buses, by 16 × bus + address. -/
  tags : Store (Option ModuleTag)
  binds : Store Binding
  /-- Rainflow channels by 16 × region + channel. -/
  rfs : Store RfChan
  /-- NVS by byte; an unlisted byte reads 0 (R439). -/
  nvs : List Host.Cell
  /-- Safe-channel frames that wait at a port for the next frame boundary, by port (R464). -/
  linkq : Store (List (List Byte))
  /-- The frames and ordered sets a port put on its line, the newest first, at most 16, by port. -/
  wire : Store (List LineItem)
  /-- Axle links 0 and 1, and the tick index last written by each receive slot with the link's slot number (R489). -/
  axls : Store AxlLink
  slotK : Store (Option Word)
  ports : Store PortRun
  mtbs : Store MtbBus
  racks : Store Rack
  /-- The words that a state map has still to copy in each block, as source and destination (R527). -/
  copies : Store (List (Nat × Nat))
  /-- Regions whose trim bank was switched since the calibration Cask was verified (R531). -/
  trimmed : Nat
  /-- Queued NVS commands, the running one first: master and descriptor address (R441), uncorrectable sectors (R440), and
  whether the Cask of chip firmware slot A, B was verified since it was last written (R533). -/
  nvsq : List (Nat × Word)
  nvsBad : Store Bool
  slotOk : Store Bool
  /-- Lane cycle of the lock owner's last access to an indirect pair: regions 0 to 3, chip 4 (R501). -/
  indAt : Store Nat
  /-- The last access to the IND_DATA of each pair, as 32 × (its lane cycle + 1) + its master, and one more than the lane cycle in
  which each lock was last acquired (R515). -/
  indUse : Store Nat
  indGot : Store Nat
  /-- One more than the lane cycle of the last snapshot of a scope, numbered as indAt (R505). -/
  snapAt : Store Nat
  fab : Fabric
  /-- Lane cycle of a go, and of the release of the new chip firmware (R533). -/
  chipAt : Nat
  /-- Sector the patrol reads next (R445). -/
  patrol : Nat
  /-- Starts of the last scrub pass and of the last patrol read, and of the NVS command that runs (R437, R443, R445). -/
  scrubAt : Nat
  patrolAt : Nat
  nvsAt : Nat
  /-- The last result record of the loader or the timing-apply service (R154). -/
  loadRes : LoadResult
  /-- The model's own note of the clock-driven work done in this lane cycle: 6 × cycle + n + 1 after round n of the timed
  commands, 6 × cycle + 5 after the lanes have issued, 6 × cycle + 6 after the reads that use the ports the lanes leave idle. -/
  dueAt : Nat
  deriving DecidableEq, Repr

/-- What an unwritten field of a store reads as. -/
def zeroWord (_ : Nat) : Word := 0

/-- The device right after reset: every register at the value of its table (R11), every memory unlisted. -/
def Dev.initial : Dev :=
  { now := 0, net := 0, regs := [], regs0 := [], regsHsl := [], setAt := 0, setBits := [], indUse := [], indGot := [], inforce := [], snaps := [], ind := [], live := [], mem := [], bad := [],
    intakeOld := [], lanes := [], legs := [], units := [], chReady := [], portAt := [], portDma := [], laneRoutes := [],
    stage := [], causeAt := [], resp := 0, respErr := false, free := 0
    , dma := []
    , pairWait := none, pairReset := none
    , correctedAt := []
    , trl := Trellis.initial
    , seqs := [], convs := [], sds := [], dacAt := [], rbBad := [], pins := [], raws := [], rawAt := [], passAt := [], condNext := []
    , fbs := [], prbs := [], landings := []
    , caps := []
    , sheds := [], progs := [], notices := [], refSlots := [], slotFac := [], slotClaim := [], slotWaits := [], ov3At := 0, ov3SelAt := [], uvOn := [], uvSince := 0
    , hsl := Hsl.initial, schs := []
    , lowRails := 0, railsOut := 0, vault := Vault.initial, cellar := Cellar.initial, tags := [], binds := [], rfs := [], nvs := []
    , linkq := []
    , wire := [], axls := [], slotK := [], ports := [], mtbs := [], racks := [], trimmed := 0, nvsq := [], nvsBad := []
    , copies := [], slotOk := [], indAt := [], snapAt := [], fab := Fabric.initial, chipAt := 0, patrol := 0, scrubAt := 0, patrolAt := 0, nvsAt := 0
    , loadRes := ⟨0, 0, 0, 0, 0, 0⟩, dueAt := 0
  }

/-- The state: the device and the commands that wait, first in, first out. -/
structure State where
  dev : Dev
  pending : List Instr
  deriving DecidableEq, Repr

/-- The state right after reset: the queue is empty. -/
def State.reset : State := { dev := Dev.initial, pending := [] }

/-- Why the machine stops with a fault. No rule of the spec stops the device, so there is no fault. -/
inductive Fault where
  deriving DecidableEq, Repr

/-- Why a command has no meaning. -/
inductive Refusal where
  /-- Raised by an arm of `exec` whose command has no meaning yet; safe, because no step is taken. -/
  | notModelled (mnemonic : String)
  deriving DecidableEq, Repr

end Sys2Proof.Machine
end

