-- ==== Sys2Proof/Machine/Ops.lean ====
section
/-! DEFINITION. The named operations over registers, memory, time, causes and events that every command
uses. -/

namespace Sys2Proof.Machine

/-! ### Registers -/

/-- The value of a field in a register word. -/
def fget (w : Word) (f : Fld) : Nat := bitsOf w.toNat f.lo f.w

/-- A register word with one field replaced. -/
def fput (w : Word) (f : Fld) (v : Nat) : Word := BitVec.ofNat 32 (withBits w.toNat f.lo f.w v)

/-- The register at an address. -/
def Dev.reg (d : Dev) (a : Nat) : Word := Store.get resetWord d.regs a

/-- Replace the register at an address. -/
def Dev.setReg (d : Dev) (a : Nat) (w : Word) : Dev := { d with regs := Store.set resetWord d.regs a w }

/-- A field of the register set that starts at `base`. -/
def Dev.fld (d : Dev) (base : Nat) (f : Fld) : Nat := fget (d.reg (base + f.off)) f

/-- Replace a field of the register set that starts at `base`. -/
def Dev.setFld (d : Dev) (base : Nat) (f : Fld) (v : Nat) : Dev :=
  d.setReg (base + f.off) (fput (d.reg (base + f.off)) f v)

/-- A one-bit field as a truth value. -/
def Dev.flag (d : Dev) (base : Nat) (f : Fld) : Bool := d.fld base f != 0

/-- Add one to a count field, which stays at its largest value. -/
def Dev.bump (d : Dev) (base : Nat) (f : Fld) : Dev := d.setFld base f (satInc f.w (d.fld base f))

/-- Add one to a count field, which wraps. -/
def Dev.bumpWrap (d : Dev) (base : Nat) (f : Fld) : Dev := d.setFld base f (d.fld base f + 1)

/-- A shadowed timing register's value in force (R68). -/
def Dev.inForce (d : Dev) (base : Nat) (f : Fld) : Nat := fget (Store.get resetWord d.inforce (base + f.off)) f

/-! ### Time -/

/-- Network time in ns (R43). -/
def Dev.ns (d : Dev) : DWord := BitVec.ofNat 64 (d.net.toNat / 65536)

/-- Lane cycles in one second and in one millisecond and one microsecond of network time (R44). -/
abbrev cyclesPerSecond : Nat := 800000000
abbrev cyclesPerMs : Nat := 800000
abbrev cyclesPerUs : Nat := 800

/-- Take one free value. -/
def Dev.takeFree (d : Dev) : Word × Dev := (Config.freeWord d.free, { d with free := d.free + 1 })

/-! ### Memory -/

/-- What a byte of SRAM that nothing has written reads as. DESIGN CHOICE: 0 (assumption 3). -/
def unwrittenByte (_ : Nat) : Byte := 0

/-- One byte of SRAM. -/
def Dev.byte (d : Dev) (a : Nat) : Byte := Store.get unwrittenByte d.mem a

/-- `n` bytes of SRAM from address `a` up. -/
def Dev.bytes (d : Dev) (a : Nat) : Nat → List Byte
  | 0 => []
  | n + 1 => d.byte a :: d.bytes (a + 1) n

/-- Store bytes from address `a` up. -/
def storeBytes (m : Store Byte) (a : Nat) : List Byte → Store Byte
  | [] => m
  | b :: t => storeBytes (Store.set unwrittenByte m a b) (a + 1) t

/-- The memory's canonical form. -/
def Memory.wf (m : List Host.Cell) : Bool := Store.wf unwrittenByte m

/-- The little-endian number in `n` bytes of SRAM at `a`. -/
def Dev.loadN (d : Dev) (a n : Nat) : Nat := leNat (d.bytes a n)

/-- Write `n` little-endian bytes of a number at `a`, without regard to the codes. -/
def Dev.pokeN (d : Dev) (a n v : Nat) : Dev := { d with mem := storeBytes d.mem a (leBytes n v) }

/-- Whether the aligned 64-bit word of an address holds an uncorrectable error. -/
def Dev.isBad (d : Dev) (a : Nat) : Bool := Store.get (fun _ => false) d.bad (a / 8)

/-- Write an access of at most 8 aligned bytes through the inner code: a partial write into an uncorrectable word is
not performed, and a full 64-bit write clears the error (R433). -/
def Dev.storeN (d : Dev) (a n v : Nat) : Dev :=
  if n = 8 then { d.pokeN a n v with bad := Store.set (fun _ => false) d.bad (a / 8) false }
  else if d.isBad a then d else d.pokeN a n v

/-! ### Masters -/

/-- Secure-privileged masters: the Cellar, and the safety pair in machine mode with the secure attribute; the pair
issues as master 2, and in split mode only SC0 is secure-privileged (R9, R351, R496). -/
def masterPriv (m : Master) : Bool := m.id == 5 || (m.id == 2 && m.secure)

/-! ### Events -/

/-- Scope bytes (R506). -/
def scopeChip : Nat := 0
def scopeMaster (m : MasterId) : Nat := m.val
def scopeRgn (r : Nat) : Nat := 0x40 + 16 * r
def scopeBlk (b : Nat) : Nat := 0x40 + 16 * (b / 4) + 4 * (b % 4)
def scopePort (p : Nat) : Nat := 0x80 + p

/-- Whether the pair runs as two independent cores (R351, R352). -/
def Dev.isSplit (d : Dev) : Bool := d.flag 0 F.HSL_STAT_split || d.flag 0 F.HSL_STAT_debug_split

/-- Whether a route word matches a raise (R509, R514). -/
def routeMatches (w : Word) (src scope : Nat) : Bool :=
  bitOf w.toNat 31 && bitsOf w.toNat 0 8 == src &&
    (scope &&& bitsOf w.toNat 16 8) == (bitsOf w.toNat 8 8 &&& bitsOf w.toNat 16 8)

/-- Note W1C bits that hardware sets in this lane cycle: a write in the same cycle does not clear them (R498). -/
def Dev.noteSet (d : Dev) (a v : Nat) : Dev :=
  { d with setAt := d.now + 1, setBits := (a, v) :: (if d.setAt = d.now + 1 then d.setBits else []) }

/-- The bits of the register at `a` that hardware has set in this lane cycle (R498). -/
def Dev.setHere (d : Dev) (a : Nat) : Nat :=
  let noted := if d.setAt = d.now + 1 then d.setBits.foldl (fun n x => if x.1 = a then n ||| x.2 else n) 0 else 0
  noted ||| ((d.reg a).toNat &&& ((Store.get resetWord d.regs0 a).toNat ^^^ 0xFFFFFFFF))

/-- Hardware sets bits of a register. -/
def Dev.orReg (d : Dev) (a v : Nat) : Dev := (d.setReg a (BitVec.ofNat 32 ((d.reg a).toNat ||| v))).noteSet a v

/-- Hardware sets a one-bit W1C field. -/
def Dev.latchFld (d : Dev) (base : Nat) (f : Fld) : Dev := (d.setFld base f 1).noteSet (base + f.off) (2 ^ f.lo)

/-- Follow the core routes among the listed registers (R509, R510). -/
def routeCores (src scope : Nat) (paired : Bool) : List (Nat × Word) → Dev → Dev
  | [], d => d
  | (a, w) :: t, d =>
    let d := routeCores src scope paired t d
    if 0x40010000 ≤ a ∧ a < 0x40010500 then
      if routeMatches w src scope && !(paired && (a - 0x40010000) / 0x100 == 3) then
        d.orReg (0x40010C00 + 8 * ((a - 0x40010000) / 0x100) + (a - 0x40010000) % 0x100 / 4 / 32 * 4)
          (2 ^ ((a - 0x40010000) % 0x100 / 4 % 32))
      else d
    else d

/-- The lane of a block. -/
def Dev.lane (d : Dev) (b : Nat) : Lane := Store.get (fun _ => Lane.initial) d.lanes b

/-- Replace the lane of a block. -/
def Dev.setLane (d : Dev) (b : Nat) (l : Lane) : Dev := { d with lanes := Store.set (fun _ => Lane.initial) d.lanes b l }

/-- Set condition bits of a lane (R115). -/
def Dev.setCond (d : Dev) (b : Nat) (mask : Nat) : Dev :=
  let l := d.lane b
  let same := l.freshAt == d.now
  let old := if same then l.fresh.toNat else 0
  let oldNew := if same then l.freshNew.toNat else 0
  let new := mask &&& ((d.reg (blkReg b + 0x30)).toNat ^^^ 0xFFFFFFFF)
  (d.orReg (blkReg b + 0x30) mask).setLane b
    { l with freshAt := d.now, fresh := BitVec.ofNat 32 (old ||| mask), freshNew := BitVec.ofNat 32 (oldNew ||| new) }

/-- Follow the lane routes in force (R511). -/
def routeLanes (src scope : Nat) : List (Nat × Word) → Dev → Dev
  | [], d => d
  | (k, w) :: t, d =>
    let d := routeLanes src scope t d
    if routeMatches w src scope then d.setCond (k / 16) (2 ^ (16 + k % 16)) else d

/-- Put a raise into the staging queue, in ascending source order within its cycle (R513). -/
def stageIn (e : Staged) : List Staged → List Staged
  | [] => [e]
  | x :: t => if x.cycle = e.cycle ∧ e.src < x.src then e :: x :: t else x :: stageIn e t

/-- Stage a raise for the log; a full queue loses it (R513). -/
def Dev.logRaise (d : Dev) (src scope arg : Nat) : Dev :=
  if bitOf (d.reg (0x40011410 + src / 32 * 4)).toNat (src % 32) then
    if d.stage.length < 32 then
      { d with stage := stageIn ⟨d.now, src, scope, BitVec.ofNat 32 arg, d.ns⟩ d.stage }
    else d.bump 0 F.EVR_STAT_lost
  else d

/-- A capture unit. -/
def Dev.cap (d : Dev) (r : Nat) : CapUnit := Store.get (fun _ => CapUnit.initial) d.caps r
def Dev.setCap (d : Dev) (r : Nat) (x : CapUnit) : Dev := { d with caps := Store.set (fun _ => CapUnit.initial) d.caps r x }

/-- Note the trigger of an ARMED capture unit whose CAP_TRIG `p` accepts; CAP_TRIGGER serves it. A trigger in the cycle of the arm is
not recognised (R453, R459). -/
def Dev.noteCapture (d : Dev) (r : Nat) (p : Nat → Bool) : Dev :=
  let x := d.cap r
  if x.st == .armed && x.noted.isNone && x.armAt != d.now + 1 && p (rgnReg r) then d.setCap r { x with noted := some d.now } else d

/-- Note an event-router source as the trigger of the capture units that name it (R453). -/
def Dev.captureEvent (d : Dev) (src : Nat) : Dev :=
  [0, 1, 2, 3].foldl (fun e r =>
    e.noteCapture r (fun a => e.fld a F.CAP_TRIG_src == 3 && e.fld a F.CAP_TRIG_evt == src)) d

/-- The racking of a region. -/
def Dev.rack (d : Dev) (r : Nat) : Rack := Store.get (fun _ => Rack.initial) d.racks r
def Dev.setRack (d : Dev) (r : Nat) (x : Rack) : Dev := { d with racks := Store.set (fun _ => Rack.initial) d.racks r x }

/-- A lane overrun, block fault or region fault raised during the PROBATION of its region is a trigger; one raised in the cycle of a
switch becomes one (R529, R530). -/
def Dev.rackTrigger (d : Dev) (src scope : Nat) : Dev :=
  let r := (scope - 0x40) / 16
  if src == Ev.LANE_OVERRUN || src == Ev.BLOCK_FAULT || src == Ev.REGION_FAULT then
    let x := d.rack r
    d.setRack r { x with
      faultSrc := src, faultAt := d.now + 1,
      trig := if d.fld (rgnReg r) F.RGN_RACK_STAT_state = 2 ∧ x.trig.isNone = true then some src else x.trig }
  else d

/-- Raise an event: count it, follow the core routes as they stood when the lane cycle began and the lane routes in force, and stage
it for the log (R508, R509, R511, R513, R515). -/
def Dev.raise (d : Dev) (src scope arg : Nat) : Dev :=
  let c := d.bump (4 * src) F.EVR_CNT_count
  let r := routeCores src scope (!d.isSplit) c.regs0 c
  let l := routeLanes src scope r.laneRoutes r
  ((l.logRaise src scope arg).captureEvent src).rackTrigger src scope

/-- A start-up step has failed, in region `r` where there is one: before the device is ready this is raised (R518). -/
def Dev.startupFail (d : Dev) (step : Nat) (r : Option Nat) : Dev :=
  if d.flag 0 F.DEV_STAT_ready then d
  else d.raise Ev.STARTUP_FAIL scopeChip (pack [(step, 4), (r.getD 0, 2)])

/-- Raise GUARD_VIOLATION for a write of master `m` to the register at `a` (R9, R551). -/
def Dev.guardViolation (d : Dev) (m : Master) (a : Nat) : Dev := d.raise Ev.GUARD_VIOLATION (scopeMaster m.id) a

/-! ### Cause registers -/

/-- A cause register: the address of its word, the lowest bit and width of `first`, the bit of `first_valid`, the
offset of its time stamp where it has one, and the length in lane cycles of the cycle in which the lowest of
several causes is shown (R38). -/
structure CauseReg where
  at_ : Nat
  lo : Nat
  w : Nat
  valid : Nat
  ts : Option Nat
  cycle : Nat
  deriving DecidableEq, Repr

/-- Record the network time in a pair of time-stamp registers. -/
def Dev.stamp (d : Dev) (a : Nat) : Dev :=
  (d.setReg a (d.ns.setWidth 32)).setReg (a + 4) ((d.ns >>> 32).setWidth 32)

/-- Latch cause bit `i`: the first of them, and the lowest of those of one cycle, is shown in `first` and stamps the
time (R38). -/
def Dev.latchCause (d : Dev) (c : CauseReg) (i : Nat) : Dev :=
  let v := (d.reg c.at_).toNat
  let v1 := v ||| 2 ^ i
  let d := d.noteSet c.at_ (2 ^ i)
  if bitOf v c.valid = false then
    let d1 := d.setReg c.at_ (BitVec.ofNat 32 (withBits (withBits v1 c.lo c.w i) c.valid 1 1))
    let d2 := match c.ts with
      | some o => d1.stamp (c.at_ + o)
      | none => d1
    { d2 with causeAt := Store.set (fun _ => 0) d2.causeAt c.at_ d.now }
  else if Store.get (fun _ => 0) d.causeAt c.at_ / c.cycle = d.now / c.cycle ∧ i < bitsOf v c.lo c.w then
    d.setReg c.at_ (BitVec.ofNat 32 (withBits v1 c.lo c.w i))
  else d.setReg c.at_ (BitVec.ofNat 32 v1)

/-- The word of a cause register once some of its cause bits are cleared: with no cause left, `first` and
`first_valid` read 0. -/
def clearedCause (causeMask v clear : Nat) : Nat :=
  let v1 := v &&& ((clear &&& causeMask) ^^^ 0xFFFFFFFF)
  if v1 &&& causeMask = 0 then 0 else v1

def blkCause (b : Nat) : CauseReg := ⟨blkReg b + 0x40, 8, 3, 15, some 4, 1⟩
def rgnCause (r : Nat) : CauseReg := ⟨rgnReg r + 0x40, 8, 3, 15, some 4, 1⟩
def chipCause : CauseReg := ⟨0x40020040, 8, 3, 15, some 4, 1⟩
def legCause (k : Nat) : CauseReg := ⟨legReg k + 0x24, 8, 3, 15, some 4, 1⟩
/-- The home of the registers of unit `u` (R342); the map of addresses is in the register interface. -/
def unitReg (u : Nat) : Nat := 0x20802000 + 0x40 * u
/-- The base to which the offsets of the unit registers are added. -/
def unitBase (u : Nat) : Nat := 0x20800000 + 0x40 * u
def unitCause (u : Nat) : CauseReg := ⟨unitReg u + 0x0C, 12, 4, 16, some 8, 1⟩

/-- Note a condition that has or has not ended (R40): bits of the cause register at `a`. -/
def Dev.setLive (d : Dev) (a mask : Nat) (on : Bool) : Dev :=
  let v := (Store.get zeroWord d.live a).toNat
  let v1 := if on then v ||| mask else v &&& (mask ^^^ 0xFFFFFFFF)
  { d with live := Store.set zeroWord d.live a (BitVec.ofNat 32 v1) }

/-- The cause bits of the register at `a` whose condition has not ended. -/
def Dev.liveAt (d : Dev) (a : Nat) : Nat := (Store.get zeroWord d.live a).toNat

/-! ### Pins and their filters (R257, R276, R354) -/

/-- A pin with a level seen now. -/
def FbPin.see (x : FbPin) (now : Nat) (ns : DWord) (l : Bool) : FbPin := if l = x.level then x else { x with level := l, since := now, ns := ns }

/-- Whether a pin's new level has held for `filt` lane cycles. -/
def FbPin.passes (x : FbPin) (now filt : Nat) : Bool := x.level != x.out && decide (x.since + filt ≤ now)

/-- A pin with its filter served. -/
def FbPin.served (x : FbPin) (now filt : Nat) : FbPin := if x.passes now filt then { x with out := x.level } else x

/-! ### Legs and units -/

/-- A leg by its chip number. -/
def Dev.leg (d : Dev) (k : Nat) : Leg := Store.get (fun _ => Leg.initial) d.legs k

/-- The HSL's own interlock at the outputs of a leg: the two channels are never driven on together (R170). -/
def Leg.interlocked (l : Leg) : Leg := if l.drvH && l.drvL then { l with drvH := false, drvL := false, want := none } else l

/-- Whether a supply that a leg's outputs need lies below its hold level: those of the HSL, and VDRV for direct legs or
VDD_LNK for link legs (R541). -/
def Dev.unpowered (d : Dev) (k : Nat) : Bool :=
  bitOf d.lowRails 0 || bitOf d.lowRails 1 || bitOf d.lowRails (if 112 ≤ k then 3 else 2)

/-- Replace a leg; its outputs pass the interlock and need their supply. -/
def Dev.setLeg (d : Dev) (k : Nat) (l : Leg) : Dev :=
  let l1 := l.interlocked
  let l2 := if d.unpowered k then { l1 with drvH := false, drvL := false, soft := false } else l1
  { d with legs := Store.set (fun _ => Leg.initial) d.legs k l2 }

/-- A unit. -/
def Dev.unit (d : Dev) (u : Nat) : UnitRec := Store.get (fun _ => UnitRec.initial) d.units u

/-- Replace a unit. -/
def Dev.setUnit (d : Dev) (u : Nat) (x : UnitRec) : Dev :=
  { d with units := Store.set (fun _ => UnitRec.initial) d.units u x }

/-- The byte of LEG_OWN of a leg (R14). -/
def Dev.ownByte (d : Dev) (k : Nat) : Nat :=
  bitsOf (d.reg (rgnReg (k / 32) + 0x100 + k % 32 / 4 * 4)).toNat (8 * (k % 4)) 8

/-- The unit that owns a leg (R14). -/
def Dev.owner (d : Dev) (k : Nat) : Option Nat := if bitOf (d.ownByte k) 7 then some (bitsOf (d.ownByte k) 0 5) else none

/-- The legs a unit owns, in ascending order. -/
def Dev.unitLegs (d : Dev) (u : Nat) : List Nat := (List.range 128).filter (fun k => d.owner k == some u)

/-- The blocks of the unit's lane set, in ascending order (R13). -/
def Dev.laneSet (d : Dev) (u : Nat) : List Nat :=
  (List.range 16).filter (fun b => (List.range 8).any (fun j => d.owner (8 * b + j) == some u))

/-- The lead lane of a unit (R13). -/
def Dev.leadLane (d : Dev) (u : Nat) : Option Nat := (d.laneSet u).head?

/-- The region whose legs the unit owns (R12). -/
def Dev.unitRegion (d : Dev) (u : Nat) : Option Nat := (d.laneSet u).head?.map (fun b => b / 4)

/-- The units that own a leg of a block, or of a region, in ascending order. -/
def Dev.blockUnits (d : Dev) (b : Nat) : List Nat :=
  (List.range 32).filter (fun u => (List.range 8).any (fun j => d.owner (8 * b + j) == some u))
def Dev.regionUnits (d : Dev) (r : Nat) : List Nat :=
  (List.range 32).filter (fun u => (List.range 32).any (fun j => d.owner (32 * r + j) == some u))

/-- Apply an operation for each of a list of numbers, in order. -/
def Dev.each (d : Dev) (l : List Nat) (f : Nat → Dev → Dev) : Dev := l.foldl (fun d k => f k d) d

/-- The answer of a command that only changes the device. -/
def State.done (s : State) (d : Dev) : Host.Outcome State Fault Refusal := .next { s with dev := d }

end Sys2Proof.Machine
end

