-- ==== Sys2Proof/Machine/Legs.lean ====
section
/-! DEFINITION. One leg: carrier period and request, dead time and handshake, turn-on and turn-off, and the orders
it takes from its unit (R155 to R186). -/

namespace Sys2Proof.Machine

/-! ### Carrier -/

/-- Sub-ticks per tick of a block, in force (R58, R74). -/
def Dev.subFactor (d : Dev) (b : Nat) : Nat :=
  2 ^ bitsOf (Store.get resetWord d.inforce (rgnReg (b / 4) + 0x68)).toNat (2 * (b % 4)) 2

/-- The tick period in force, in lane cycles (R55). -/
def Dev.tickCycles (d : Dev) : Nat := d.inForce 0 F.TRL_PERIOD_cycles

/-- The length in lane cycles of the shortest sub-tick of a block (R58). -/
def Dev.subLen (d : Dev) (b : Nat) : Nat := d.tickCycles / d.subFactor b

/-- The edge step, counted from the present tick, of what lies nominally `x` edge steps after it: the correction of the tick is
shared out over its length (R57). -/
def Dev.stretched (d : Dev) (x : Nat) : Int := (x : Int) + d.trl.stretch * x / (32 * d.trl.tickLen : Nat)

/-- The carrier period of a leg, in edge steps, before the tick's correction (R156). -/
def Dev.legPeriod (d : Dev) (k : Nat) : Nat :=
  if d.flag (legReg k) F.LEG_CFG_lock then
    32 * (d.trl.tickLen / d.subFactor (k / 8)) / d.fld (legReg k) F.LEG_CFG_div
  else d.fld (legReg k) F.LEG_PERIOD_period

/-- The phase offset of a leg, modulo its period (R156). -/
def Dev.legOffset (d : Dev) (k : Nat) : Nat := d.fld (legReg k) F.LEG_PHASE_offset % max 1 (d.legPeriod k)

/-- The edge step at which the present period of a leg ends by itself: a period of a tick-locked leg takes its share of the
tick's correction (R57, R156). -/
def Dev.periodEnd (d : Dev) (k : Nat) : Int :=
  let z := (d.leg k).zeroAt
  if d.flag (legReg k) F.LEG_CFG_lock then
    let x := (z - d.trl.tickStep).toNat
    z + d.stretched (x + d.legPeriod k) - d.stretched x
  else z + d.legPeriod k

/-- Whether the counter of a leg runs (R156, R176). -/
def Dev.counterRuns (d : Dev) (k : Nat) : Bool := (d.leg k).st != .off || d.flag (legReg k) F.LEG_CFG_lock

/-- The length in lane cycles of sub-tick `j` of a block in the present tick (R58). DESIGN CHOICE: the tick that follows an apply at
the old timing is cut by the length it has (R69, assumption 91). -/
def Dev.subLenOf (d : Dev) (b j : Nat) : Nat :=
  (j + 1) * d.trl.tickLen / d.subFactor b - j * d.trl.tickLen / d.subFactor b

/-- The edge step of the next restart of a tick-locked leg's counter: the one that is set, or that of the next sub-tick (R156). -/
def Dev.nextRestart (d : Dev) (k : Nat) : Int :=
  match (d.leg k).restart with
  | some r => r
  | none =>
    let l := d.lane (k / 8)
    d.trl.tickStep + d.stretched (32 * (l.subFrom + d.subLenOf (k / 8) l.subTick)) + d.legOffset k

/-- The edge step of the next valley of a leg whose counter runs: a restart, or the end of the present period. The last period
before a restart lasts until the restart (R156). -/
def Dev.nextValley (d : Dev) (k : Nat) : Int :=
  let full := d.periodEnd k
  match (d.leg k).restart with
  | some r => if d.flag (legReg k) F.LEG_CFG_lock = true ∧ full + (d.legPeriod k / 2 : Nat) < r then full else r
  | none =>
    if d.flag (legReg k) F.LEG_CFG_lock = true ∧ d.nextRestart k < full + (d.legPeriod k / 2 : Nat) then d.nextRestart k
    else full

/-- The first edge step of the present lane cycle (R155). -/
def Dev.stepNow (d : Dev) : Nat := 32 * d.now

/-- The counter value c of a leg at edge step `t` (R156, R157): steps since the last valley, held at P − 1. -/
def Dev.legCountAt (d : Dev) (k t : Nat) : Nat :=
  if d.counterRuns k then min (((t : Int) - (d.leg k).zeroAt).toNat) (d.legPeriod k - 1) else 0

/-- The counter value at the start of the present lane cycle. -/
def Dev.legCount (d : Dev) (k : Nat) : Nat := d.legCountAt k d.stepNow

/-- Fields of a leg command (R159). -/
def cmpA (c : QWord) : Nat := bitsOf c.toNat 0 24
def cmpB (c : QWord) : Nat := bitsOf c.toNat 32 24
def cmdPhi (c : QWord) : Nat := bitsOf c.toNat 64 24
def cmdHs (c : QWord) : Nat := bitsOf c.toNat 96 2
def cmdLs (c : QWord) : Nat := bitsOf c.toNat 98 2
def cmdDac (c : QWord) : Nat := bitsOf c.toNat 112 10

/-- A command that requests both channels on at the same time (R171). -/
def isCross (c : QWord) : Bool := (cmdHs c == 2 && cmdLs c != 0) || (cmdHs c == 1 && cmdLs c == 2)

/-- The triangle of centre-aligned mode (R157). -/
def triangle (p c : Nat) : Nat := if c ≤ p / 2 then c else p - c

/-- Steps since c = phi (R160). -/
def sincePhi (p c : Nat) (cmd : QWord) : Nat := (c + p - cmdPhi cmd % p) % p

/-- The counter mode of a leg; 4 to 7 cannot be held (R160). -/
def Dev.legMode (d : Dev) (k : Nat) : Nat := d.fld (legReg k) F.LEG_CFG_mode

/-- The request at counter value `c` (R160). -/
def requestAt (mode p c : Nat) (cmd : QWord) : Bool :=
  match mode with
  | 0 => decide (cmpA cmd ≤ triangle p c)
  | 1 => decide (cmpA cmd ≤ c ∧ c < cmpB cmd)
  | 2 => decide (sincePhi p c cmd < cmpA cmd)
  | 3 => decide (cmpB cmd ≠ 0 ∧ (p ≤ cmpB cmd ∨ sincePhi p c cmd < cmpB cmd))
  | _ => false

/-- The request of a leg at edge step `t`. In mode 3 it begins at a c = phi, of those from `phiFrom` on, and a cycle limit since
then ends it (R160, R162). -/
def Dev.requestOf (d : Dev) (k t : Nat) : Bool :=
  let l := d.leg k
  let p := d.legPeriod k
  let c := d.legCountAt k t
  let mode := d.legMode k
  requestAt mode p c l.cur &&
    (mode != 3 || (decide (l.phiFrom + sincePhi p c l.cur ≤ t) &&
      (l.limitAt == 0 || decide (l.limitAt + sincePhi p c l.cur < t))))

/-- Which channels a command asks for, given the request (R159, R161): the high side, and the low side. -/
def wantedBy (mode : Nat) (pcsw : Bool) (cmd : QWord) (req : Bool) : Bool × Bool :=
  let swapped := mode == 3 && pcsw
  let r := if swapped then !req else req
  (cmdHs cmd == 2 || (cmdHs cmd == 1 && r), cmdLs cmd == 2 || ((cmdLs cmd == 1 || cmdLs cmd == 3) && !r))

/-- The control channel of a leg (R161, R162). -/
def Dev.controlSide (d : Dev) (k : Nat) : Side :=
  if d.legMode k = 3 ∧ d.flag (legReg k) F.LEG_CFG_pcsw = true then .low else .high

/-! ### Dead time -/

/-- The dead-time floor of a leg: that of its owning unit (R164, R165). -/
def Dev.legFloor (d : Dev) (k : Nat) : Nat :=
  match d.owner k with
  | some u => d.fld (4 * u) F.HSL_DTFLOOR_floor
  | none => 0

/-- The dead time in force before the turn-on of a side, in edge steps (R164). -/
def Dev.deadTime (d : Dev) (k : Nat) : Side → Nat
  | .high => max (d.fld (legReg k) F.LEG_DT_dt_r) (d.legFloor k)
  | .low => max (d.fld (legReg k) F.LEG_DT_dt_f) (d.legFloor k)

/-- The other side of a leg. -/
def Side.other : Side → Side
  | .high => .low
  | .low => .high

/-- Whether a side is driven on. -/
def Leg.drv (l : Leg) : Side → Bool
  | .high => l.drvH
  | .low => l.drvL

/-- The FB level or gate sense of a side. -/
def Leg.fb (l : Leg) : Side → Bool
  | .high => l.fbH
  | .low => l.fbL

/-- Edge step of the last turn-off command of a side. -/
def Leg.offAt (l : Leg) : Side → Nat
  | .high => l.offAtH
  | .low => l.offAtL

/-- Turn a side off at edge step `t`. -/
def Leg.turnOff (t : Nat) (l : Leg) : Side → Leg
  | .high => if l.drvH then { l with drvH := false, offAtH := t } else l
  | .low => if l.drvL then { l with drvL := false, offAtL := t } else l

/-- Turn both channels off and drop a waiting turn-on. -/
def Leg.allOff (t : Nat) (l : Leg) : Leg := { (l.turnOff t .high).turnOff t .low with want := none }

/-- Drive a side on; the other side is off (R166). -/
def Leg.turnOn (l : Leg) : Side → Leg
  | .high => if l.drvL then l else { l with drvH := true, want := none }
  | .low => if l.drvH then l else { l with drvL := true, want := none }

/-- Whether the handshake of a side is checked (R167). -/
def Dev.checksOff (d : Dev) (k : Nat) : Side → Bool
  | .high => d.flag (legReg k) F.LEG_GUARD_fb_en_h
  | .low => d.flag (legReg k) F.LEG_GUARD_fb_en_l

/-- A direct leg (R5). -/
def isDirect (k : Nat) : Bool := decide (112 ≤ k)

/-- Whether a side of a leg shows off: by its FB input and LEG_HS.fb_pol, or on a direct leg by its gate sense (R166, R180,
R184). -/
def Dev.showsOff (d : Dev) (k : Nat) (l : Leg) (s : Side) : Bool :=
  if isDirect k then l.fb s else l.fb s != d.flag (legReg k) F.LEG_HS_fb_pol

/-- Whether the channels are still held off by a change of the mode (R174). -/
def Leg.modeHeld (l : Leg) (t : Nat) : Bool :=
  match l.modeHold with
  | some h => l.st == .run || l.st == .armed || decide (t < 32 * h)
  | none => false

/-- Whether a waiting turn-on of a side may take place: the dead time has elapsed since the other side's turn-off, the
other side shows off or is not checked, the bootstrap holds a direct high side, and nothing else holds the channel off (R162,
R166, R174, R183). -/
def Dev.mayTurnOn (d : Dev) (k t : Nat) (l : Leg) (s : Side) : Bool :=
  !l.drv s.other && decide (d.deadTime k s ≤ t - l.offAt s.other) &&
    (d.showsOff k l s.other || !d.checksOff k s.other) &&
    (s == .low || !isDirect k || d.flag (legReg k) F.LEG_DIRECT_boot_ok) &&
    !l.modeHeld t && !(l.cycleHeld && d.controlSide k == s)

/-! ### The scheduled length of an on-interval (R169) -/

/-- The parts of a period, from counter value `c` on, in which the request is on, as half-open intervals of the counter. In mode 3
an on-interval begins at c = phi; one that has begun before `c` goes on only where the request is `on` there (R160). -/
def onParts (mode p : Nat) (cmd : QWord) (on : Bool) (c : Nat) : List (Nat × Nat) :=
  match mode with
  | 0 => if p / 2 < cmpA cmd then [] else [(cmpA cmd, if cmpA cmd = 0 then p else min p (p - cmpA cmd + 1))]
  | 1 => if cmpA cmd < min p (cmpB cmd) then [(cmpA cmd, min p (cmpB cmd))] else []
  | 2 => shifted (cmpA cmd)
  | 3 => peak (cmdPhi cmd % p) (cmpB cmd)
  | _ => []
where
  /-- From phi on, for `n` steps, around the period. -/
  shifted (n : Nat) : List (Nat × Nat) :=
    let s := cmdPhi cmd % p
    if n = 0 then [] else if p ≤ n then [(0, p)]
    else if s + n ≤ p then [(s, s + n)] else [(0, s + n - p), (s, p)]
  /-- Of an on-interval of at most `n` steps from `s` on. -/
  peak (s n : Nat) : List (Nat × Nat) :=
    if n = 0 then []
    else if p ≤ n then (if on then [(0, p)] else if c ≤ s then [(s, p)] else [])
    else
      (if on = true ∧ p < s + n then [(0, s + n - p)] else []) ++
        (if on = true ∨ c ≤ s then [(s, min p (s + n))] else [])

/-- The first counter value from `c` on, below `stop`, at which the request is not `level`. -/
def levelEnd (level : Bool) (stop : Nat) : List (Nat × Nat) → Nat → Option Nat
  | [], c => if level ∧ c < stop then some c else none
  | (a, b) :: t, c =>
    if c < a then
      if level then (if c < stop then some c else none) else (if a < stop then some a else none)
    else if c < b then
      if level then (if b < stop then levelEnd level stop t b else none) else (if c < stop then some c else none)
    else levelEnd level stop t c

/-- Whether a side's on level is the request, its inverse, or does not follow it (R159, R161). -/
def followLevel (mode : Nat) (pcsw : Bool) (cmd : QWord) (s : Side) : Option Bool :=
  let swapped := mode == 3 && pcsw
  match s with
  | .high => if cmdHs cmd = 1 then some (!swapped) else none
  | .low => if cmdLs cmd = 1 ∨ cmdLs cmd = 3 then some swapped else none

/-- Whether the request is on at the last counter value before `stop`, by its parts. -/
def onBefore (stop : Nat) (l : List (Nat × Nat)) : Bool := l.any (fun x => decide (x.1 < stop ∧ stop ≤ x.2))

/-- Steps from counter value `c` to the end of the on level of side `s` within [c, stop) under a command whose request is `on` at
`c`; 0 where the command asks the side off, none where it stays on. -/
def onRun (mode p : Nat) (pcsw : Bool) (cmd : QWord) (s : Side) (on : Bool) (c stop : Nat) : Option Nat :=
  match followLevel mode pcsw cmd s with
  | some level => (levelEnd level stop (onParts mode p cmd on c) c).map (fun e => e - c)
  | none => if (match s with | .high => cmdHs cmd == 2 | .low => cmdLs cmd == 2) then none else some 0

/-- The scheduled length, in steps, of an on-interval of side `s` that begins at edge step `t`: the current command up to the next
update event at which a sealed next command retires, then that command; the present period lasts until the next valley (R169).
None where no turn-off is scheduled within two periods. -/
def Dev.scheduledRun (d : Dev) (k t : Nat) (l : Leg) (s : Side) : Option Nat :=
  let p := d.legPeriod k
  let c := d.legCountAt k t
  let mode := d.legMode k
  let pcsw := d.flag (legReg k) F.LEG_CFG_pcsw
  let upd := d.fld (legReg k) F.LEG_CFG_upd
  let valley := (d.nextValley k - t).toNat
  let peakNext := (upd == 2 || upd == 3) && !l.peakDone && decide (c < p / 2)
  let first := if peakNext then p / 2 else p
  let on := d.requestOf k t
  match (onRun mode p pcsw l.cur s on c first).filter (fun n => decide (n < valley)) with
  | some n => some n
  | none =>
    let after : QWord := match l.next with
      | some x => if x.isSealed && (peakNext || upd != 2) then x.cmd else l.cur
      | none => l.cur
    let on1 := onBefore first (onParts mode p l.cur on c)
    if first < p then
      match (onRun mode p pcsw after s on1 first p).filter (fun n => decide (first - c + n < valley)) with
      | some n => some (first - c + n)
      | none => (onRun mode p pcsw after s (onBefore p (onParts mode p after on1 first)) 0 p).map (fun n => valley + n)
    else (onRun mode p pcsw after s on1 0 p).map (fun n => valley + n)

/-- Whether the on-interval that would begin at edge step `t` is too short to be emitted (R169). -/
def Dev.tooShort (d : Dev) (k t : Nat) (l : Leg) (s : Side) : Bool :=
  l.st == .run &&
    match d.scheduledRun k t l s with
    | some n => decide (n < d.fld (legReg k) F.LEG_MINON_min_on)
    | none => false

/-! ### Threshold DACs -/

/-- The base of a window comparator's registers. -/
def winBase (r n : Nat) : Nat := rgnReg r + 0x10 * n

/-- The slope ramp of a mode 3 leg at lane cycle `t`, in units of 1/1600 code (R210). -/
def Dev.rampAt (d : Dev) (k t : Nat) : Nat :=
  let l := d.leg k
  l.rampVal + d.fld (legReg k) F.LEG_SLOPE_slope * ((t - l.rampFrom) / 8)

/-- The trip threshold of a leg in force at lane cycle `t` (R210). -/
def Dev.tripCode (d : Dev) (k t : Nat) : Nat :=
  if d.legMode k = 3 then
    let ramp := (2 * d.rampAt k t + 1599) / 3200
    let dac := cmdDac (d.leg k).cur
    if d.flag (legReg k) F.LEG_CMP_t_pol then min (dac + ramp) 1023 else dac - ramp
  else d.fld (legReg k) F.LEG_TDAC_code

/-- The code in force of threshold DAC `n` of a region (R217). -/
def Dev.dacCode (d : Dev) (r n t : Nat) : Nat :=
  if n < 32 then d.tripCode (32 * r + n) t
  else if n < 64 then d.fld (legReg (32 * r + (n - 32))) F.LEG_HDAC_code
  else d.fld (winBase r (n - 64)) F.WIN_DAC_code

/-- Note a change of a threshold DAC's code from `old` (R217, R219). -/
def Dev.dacStepped (d : Dev) (r n old : Nat) : Dev :=
  if d.dacCode r n d.now = old then d
  else { d with dacAt := Store.set (fun _ => (0, 0)) d.dacAt (80 * r + n) (d.now + 1, old) }

/-! ### Turning on -/

/-- Start the blanking of the trip comparator at a turn-on edge (R207). -/
def Dev.startBlank (d : Dev) (k : Nat) (l : Leg) (s : Side) : Leg :=
  let src := d.fld (legReg k) F.LEG_CMP_blank_src
  let takes : Bool := match s with | .high => src != 2 | .low => src != 1
  if takes ∧ 0 < d.fld (legReg k) F.LEG_CMP_blank then
    { l with
      blanking := true, blankFrom := d.now, blankEnd := d.now + 5 * d.fld (legReg k) F.LEG_CMP_blank }
  else l

/-- Let a waiting turn-on take place if it may: the edge is counted and starts the blanking; an on-interval that is too
short is dropped instead (R166, R169, R207). -/
def Dev.tryOn (d : Dev) (k t : Nat) : Dev :=
  let l := d.leg k
  match l.want with
  | none => d
  | some s =>
    if d.mayTurnOn k t l s then
      if d.tooShort k t l s then d.setLeg k { l with want := none }
      else
        let ramp := d.legMode k == 3 && d.controlSide k == s
        let l1 := { d.startBlank k (l.turnOn s) s with
          onAtL := if s = .low then t else l.onAtL, rampVal := if ramp then 0 else l.rampVal,
          rampFrom := if ramp then d.now else l.rampFrom }
        let d1 := (d.setLeg k l1).dacStepped (k / 32) (k % 32) (d.tripCode k d.now)
        match s with
        | .high => d1.bumpWrap (legReg k) F.LEG_EDGES_H_count
        | .low => d1.bumpWrap (legReg k) F.LEG_EDGES_L_count
    else d

/-- Bring the channels of a running leg to what its command asks for: what must go off goes off at once, what must come
on waits for its dead time and handshake (R164). -/
def Dev.applyRequest (d : Dev) (k t : Nat) : Dev :=
  let l := d.leg k
  if l.st = .run then
    let pcsw := d.flag (legReg k) F.LEG_CFG_pcsw
    let w := wantedBy (d.legMode k) pcsw l.cur l.req
    let held := l.modeHold.isSome
    let h := w.1 && !held && !(l.cycleHeld && d.controlSide k == .high)
    let o := w.2 && !held && !(l.cycleHeld && d.controlSide k == .low) && l.zcdHeld.isNone
    let l1 := if h then l else l.turnOff t .high
    let l2 := if o then l1 else l1.turnOff t .low
    let want := if h && !l2.drvH then some Side.high else if o && !l2.drvL then some Side.low else none
    (d.setLeg k { l2 with want := want }).tryOn k t
  else d

/-! ### Orders of the unit and of the HSL (R177) -/

/-- Leave the running states: both pending slots are cleared (R177). -/
def Leg.enter (l : Leg) (st : LegSt) : Leg := { l with st := st, cur := 0, next := none, req := false, zcdHeld := none }

/-- A free-running counter of a leg that leaves OFF starts at 0, delayed by its phase offset; that start is a valley (R156). -/
def Dev.startCounter (d : Dev) (k : Nat) (l : Leg) : Leg :=
  if l.st = .off ∧ d.flag (legReg k) F.LEG_CFG_lock = false then
    let t := d.stepNow + d.legOffset k
    { l with zeroAt := t, restart := some t, peakDone := false, late := false }
  else l

/-- Immediate off. -/
def Dev.orderOff (d : Dev) (k : Nat) (hsl : Bool) : Dev :=
  let l := d.leg k
  match l.st with
  | .armed | .run => d.setLeg k { (l.allOff d.stepNow).enter .settle with settleAt := d.now }
  | .softOff | .ascHigh | .ascLow =>
    if hsl then d.setLeg k { (l.allOff d.stepNow).enter .settle with settleAt := d.now, soft := false } else d
  | _ => d

/-- The soft path: SOFT goes active at once; a link leg's channels that are on follow 8 lane cycles later, a direct leg's strong
drive goes off at once. t1 runs from then (R178). -/
def Dev.orderSoft (d : Dev) (k : Nat) (hsl : Bool) : Dev :=
  let l := d.startCounter k (d.leg k)
  let lead := !isDirect k && (l.drvH || l.drvL)
  let go := d.setLeg k { ((if isDirect k then l.allOff d.stepNow else { l with want := none }).enter .softOff) with
    soft := true, softAt := d.now + (if lead then 8 else 0) }
  match (d.leg k).st with
  | .armed | .run => go
  | .off | .settle | .ascHigh | .ascLow => if hsl then go else d
  | _ => d

/-- Active short circuit on one side: the other side goes off at once, this side comes on after its dead time and
handshake. -/
def Dev.orderAsc (d : Dev) (k : Nat) (s : Side) (hsl : Bool) : Dev :=
  let l := d.startCounter k (d.leg k)
  let st := match s with | .high => LegSt.ascHigh | .low => LegSt.ascLow
  let l1 := (l.turnOff d.stepNow s.other).enter st
  let go := (d.setLeg k { l1 with want := if l1.drv s then none else some s, soft := false }).tryOn k d.stepNow
  match (d.leg k).st with
  | .armed | .run | .settle => go
  | .off | .softOff => if hsl then go else d
  | .ascHigh => if hsl && s == .low then go else d
  | .ascLow => if hsl && s == .high then go else d
  | .fault => d

/-- What the leg does under an order of its unit or, with `hsl`, of the HSL or an OV3 action; a leg in FAULT stays off
(R21, R177). -/
def Dev.order (d : Dev) (k : Nat) (a : Action) (hsl : Bool) : Dev :=
  match a with
  | .none => d
  | .off => d.orderOff k hsl
  | .soft => d.orderSoft k hsl
  | .ascLow => d.orderAsc k .low hsl
  | .ascHigh => d.orderAsc k .high hsl

/-- Mark a leg as acted on by an HSL disable or an OV3 action, which discards a commit of the same cycle; the mark stays until
the action is withdrawn (R20, R185, R552). -/
def Dev.markHsl (d : Dev) (k : Nat) (on : Bool) : Dev :=
  let l := d.leg k
  if on = true ∧ l.st = .fault then d
  else d.setLeg k { l with hsl := on, tripAt := if on then some d.now else l.tripAt }

end Sys2Proof.Machine
end

