-- ==== Sys2Proof/Machine/Units.lean ====
section
/-! DEFINITION. Units and the faults that reach them: attribution and safe states (R320 to R343), block, region and chip
faults (R35 to R42), HSL trips (R353, R367). -/

namespace Sys2Proof.Machine

/-! ### Kinds and patterns -/

/-- Whether the class default of a unit class is ASC (R328). -/
def classAsc (c : Nat) : Bool := c == 1 || c == 6 || c == 7

/-- The configured kind of a unit as an action (R328). -/
def Dev.kindAction (d : Dev) (u : Nat) : Action :=
  match d.fld (4 * u) F.HSL_SAFE_kind with
  | 0 => if classAsc (d.fld (unitBase u) F.UNIT_CFG_class) then .ascLow else .off
  | 1 => if d.flag (4 * u) F.HSL_SAFE_asc_high then .ascHigh else .ascLow
  | 2 => .soft
  | _ => .off

/-- A unit of kind ASC, configured or by class default (R324, R328). -/
def Dev.isAscKind (d : Dev) (u : Nat) : Bool := d.kindAction u == .ascLow || d.kindAction u == .ascHigh

/-- The outcome of the rows of R324 for the sides attributed so far, as UNIT_ATTR.side codes them: 1 high, 2 low,
3 unattributable or opposite; the configured kind before any (R326). -/
def Dev.pattern (d : Dev) (u : Nat) : Action :=
  match d.fld (unitBase u) F.UNIT_ATTR_side with
  | 1 => if d.isAscKind u then .ascHigh else d.kindAction u
  | 2 => if d.isAscKind u then .ascLow else d.kindAction u
  | 3 => .soft
  | _ => d.kindAction u

/-! ### Unit state -/

/-- Order an action to every leg of a unit, in ascending leg number. -/
def Dev.orderUnit (d : Dev) (u : Nat) (a : Action) (hsl : Bool) : Dev :=
  d.each (d.unitLegs u) (fun k d => d.order k a hsl)

/-- Clear the pending slots of the unit's legs (R103). -/
def Dev.clearNext (d : Dev) (u : Nat) : Dev :=
  d.each (d.unitLegs u) (fun k d => d.setLeg k { d.leg k with next := none })

/-- The quiet time starts (R331). -/
def Dev.startQuiet (d : Dev) (u : Nat) : Dev :=
  d.setUnit u { d.unit u with st := .settle, settleAt := d.now, exiting := false, exitLegs := [] }

/-- The unit becomes DISABLED: the decision ends, its legs in OFF_SETTLE go to OFF (R177, R325, R331). -/
def Dev.toDisabled (d : Dev) (u : Nat) : Dev :=
  let d1 := d.setUnit u { d.unit u with
    st := .disabled, action := .none, decided := false, deciding := false, window := none, lockPend := false, exiting := false,
    exitLegs := [] }
  d1.each (d.unitLegs u) (fun k d =>
    if (d.leg k).st = .settle then d.setLeg k { (d.leg k).allOff d.stepNow with st := .off } else d)

/-- A leg that holds active short circuit with its on channel driven. -/
def Leg.holdsAsc (l : Leg) : Bool := (l.st == .ascHigh && l.drvH) || (l.st == .ascLow && l.drvL)

/-- A leg at rest: in OFF or FAULT. -/
def Leg.atRest (l : Leg) : Bool := l.st == .off || l.st == .fault

/-- The transitions of a unit that follow from the states of its legs (R331, R334). -/
def Dev.checkUnit (d : Dev) (u : Nat) : Dev :=
  let x := d.unit u
  let legs := (d.unitLegs u).map d.leg
  let live := legs.filter (fun l => l.st != .fault)
  match x.st with
  | .enabling =>
    if !live.isEmpty && live.all (fun l => l.st == .run) then d.setUnit u { x with st := .run } else d
  | .shutting =>
    if x.window.isSome || x.deciding then d
    else if !live.isEmpty && live.all Leg.holdsAsc then
      d.setUnit u { x with st := if x.lockPend then .locked else .hold }
    else if legs.all Leg.atRest then d.startQuiet u
    else d
  | .hold => if x.exiting && legs.all Leg.atRest then d.startQuiet u else d
  | .disabled => if x.exiting && legs.all Leg.atRest then d.setUnit u { x with exiting := false } else d
  | .locked =>
    if x.exiting && legs.all Leg.atRest && !x.lockPend && !d.flag 0 F.HSL_STAT_lockout then d.startQuiet u else d
  | _ => d

/-- The same for the unit that owns a leg. -/
def Dev.checkOwner (d : Dev) (k : Nat) : Dev :=
  match d.owner k with
  | some u => d.checkUnit u
  | none => d

/-- Count a unit fault and set lock_pend at the lock_n-th within 1 s (R324, R335). -/
def Dev.countFault (d : Dev) (u : Nat) : Dev :=
  let d1 := d.bump (unitBase u) F.UNIT_CNT_faults
  let x := d1.unit u
  let recent := d1.now :: x.faultAt.filter (fun t => decide (d1.now < t + cyclesPerSecond))
  let n := d1.fld (4 * u) F.HSL_SAFE_lock_n
  d1.setUnit u { x with faultAt := recent, lockPend := x.lockPend || (n != 0 && decide (n ≤ recent.length)) }

/-- Take a decision that acts at once: it stands until the unit is DISABLED, and the legs are ordered (R325, R327, R331). -/
def Dev.takeDecision (d : Dev) (u : Nat) (a : Action) : Dev :=
  let d1 := d.setUnit u { d.unit u with action := a, decided := true, deciding := false, window := none }
  (d1.orderUnit u a false).checkUnit u

/-- A decision of the attribution, which is applied in the lane cycle after it (R324, R325). -/
def Dev.decideFor (d : Dev) (u : Nat) (a : Action) : Dev :=
  d.setUnit u { d.unit u with action := a, decided := true, deciding := true, window := none }

/-- Apply such a decision. -/
def Dev.applyDecision (d : Dev) (u : Nat) : Dev :=
  if (d.unit u).deciding then d.takeDecision u (d.unit u).action else d

/-- Leave ENABLING or RUN for SHUTTING_DOWN; the pending slots of the legs are cleared (R103, R331). -/
def Dev.shutUnit (d : Dev) (u : Nat) : Dev := (d.setUnit u { d.unit u with st := .shutting }).clearNext u

/-- Whether a unit is in ENABLING or RUN. -/
def UnitRec.active (x : UnitRec) : Bool := x.st == .enabling || x.st == .run

/-- A unit fault that does not come from an attributed leg fault: the configured kind at once (R327). In an open window
it is part of that fault event; after a decision it is counted and latched only (R325, R337). -/
def Dev.unitFault (d : Dev) (u bit : Nat) : Dev :=
  let d1 := d.latchCause (unitCause u) bit
  let x := d1.unit u
  if x.active then ((d1.countFault u).shutUnit u).takeDecision u (d1.kindAction u)
  else if x.window.isSome then d1
  else d1.countFault u

/-- A block, region or chip fault closes an open window with the pattern of R326, and otherwise acts as a unit fault. -/
def Dev.unitLevelFault (d : Dev) (u bit : Nat) : Dev :=
  if (d.unit u).window.isSome then
    let d1 := (d.latchCause (unitCause u) bit).countFault u
    d1.takeDecision u (d1.pattern u)
  else d.unitFault u bit

/-- The attribution of a leg fault, as UNIT_ATTR.side codes it (R322): causes hard, trip and flt by the channels driven
at the first cause, others unattributable. -/
def sideOf (cause : Nat) (onH onL : Bool) : Nat :=
  if cause = 0 ∨ cause = 1 ∨ cause = 4 then (if onH && !onL then 1 else if onL && !onH then 2 else 3) else 3

/-- The cause bits of LEG_FAULT (R185). -/
abbrev causeHard : Nat := 0
abbrev causeTrip : Nat := 1
abbrev causeHsTo : Nat := 2
abbrev causeXcmd : Nat := 3
abbrev causeFlt : Nat := 4
abbrev causeIlk : Nat := 5

/-- A leg that has entered FAULT in the lane cycle before notifies its unit: the attribution window opens, or the decision is taken at once, or,
outside a window, the fault is counted and latched only (R323 to R325, R327). -/
def Dev.notifyUnit (d : Dev) (k cause : Nat) : Dev :=
  match d.owner k with
  | none => d
  | some u =>
    if cause = causeXcmd then d.unitFault u 1
    else
      let side := sideOf cause (d.flag (legReg k) F.LEG_FAULT_on_h) (d.flag (legReg k) F.LEG_FAULT_on_l)
      let d1 := d.latchCause (unitCause u) (if cause = causeHsTo ∨ cause = causeIlk then 1 else 0)
      let x := d1.unit u
      if x.active then
        let d2 := ((d1.setFld (unitBase u) F.UNIT_ATTR_leg k).setFld (unitBase u) F.UNIT_ATTR_side side).countFault u
        let d3 := d2.shutUnit u
        if side = 3 then d3.decideFor u .soft
        else d3.setUnit u { d3.unit u with window := some (d3.now + 1600), decided := false, action := .none }
      else if x.window.isSome then
        if side = 3 ∨ side ≠ d1.fld (unitBase u) F.UNIT_ATTR_side then
          (d1.setFld (unitBase u) F.UNIT_ATTR_side 3).decideFor u .soft
        else d1
      else d1.countFault u

/-- A hard-comparator trip sets lock_pend of a unit with lock_hard (R335). -/
def Dev.hardLock (d : Dev) (k : Nat) : Dev :=
  match d.owner k with
  | none => d
  | some u =>
    if d.flag (4 * u) F.HSL_SAFE_lock_hard then
      d.setUnit u { d.unit u with lockPend := true }
    else d

/-! ### Leg faults -/

/-- Latch a leg cause; the first of them records which channels were driven on (R179, R185). -/
def Dev.latchLeg (d : Dev) (k cause : Nat) : Dev :=
  let l := d.leg k
  let first := !d.flag (legReg k) F.LEG_FAULT_first_valid
  let d1 := d.latchCause (legCause k) cause
  if first then
    (d1.setFld (legReg k) F.LEG_FAULT_on_h (if l.drvH then 1 else 0)).setFld (legReg k) F.LEG_FAULT_on_l
      (if l.drvL then 1 else 0)
  else d1

/-- A leg enters FAULT: both channels off, the pending slots cleared, condition bit 8 of its lane set, LEG_FAULT raised;
its unit is notified in the next lane cycle. An HSL disable or OV3 action that acts on it stays marked until its withdrawal (R177, R179, R323, R552). -/
def Dev.enterFault (d : Dev) (k cause : Nat) : Dev :=
  let l := d.startCounter k (d.leg k)
  let d1 := d.setLeg k { (l.allOff d.stepNow).enter .fault with soft := false, tripAt := some d.now }
  let d2 := (d1.setCond (k / 8) (2 ^ 8)).raise Ev.LEG_FAULT (scopeBlk (k / 8))
    (pack [(k % 32, 5), (d1.fld (legReg k) F.LEG_FAULT_cause, 6)])
  let d3 := d2.noteCapture (k / 32) (fun a => d2.fld a F.CAP_TRIG_src == 1)
  { d3 with notices := d3.notices ++ [(k, cause)] }.checkOwner k

/-- A cause that moves the leg to FAULT from every state but OFF; in OFF it is latched only (R177, R320). -/
def Dev.legTrip (d : Dev) (k cause : Nat) : Dev :=
  let d1 := d.latchLeg k cause
  let d2 := if cause = causeHard then (d1.setLeg k { d1.leg k with compAt := none }).hardLock k else d1
  match (d2.leg k).st with
  | .off | .fault => d2.setLeg k { (d2.leg k).allOff d2.stepNow with tripAt := some d2.now }
  | _ => d2.enterFault k cause

/-- A trip of the trip comparator with clear latching, or of a sinc1 filter: counted, cause bit 1. In the lane cycle of an HSL
disable the HSL's pattern prevails, and only the cause is latched (R20, R203, R209). -/
def Dev.tripLeg (d : Dev) (k : Nat) : Dev :=
  let l := d.leg k
  let d1 := d.bump (legReg k) F.LEG_TRIPS_trip
  if l.hsl = true ∧ l.tripAt = some d.now ∧ l.st ≠ .fault then d1.latchLeg k causeTrip
  else
    let d2 := d1.legTrip k causeTrip
    if l.st ≠ .fault ∧ (d2.leg k).st = .fault then d2.setLeg k { d2.leg k with compAt := some d.now } else d2

/-- A leg that a trip comparator alone put into FAULT in this lane cycle takes the HSL's pattern all the same, as one whose
channels have just gone off (R20). -/
def Dev.overruleTrip (d : Dev) (k : Nat) : Dev :=
  let l := d.leg k
  if l.st = .fault ∧ l.compAt = some d.now then d.setLeg k { l with st := .settle, settleAt := d.now, compAt := none } else d

/-- A cause that moves the leg to FAULT from any state (R168, R170). -/
def Dev.legFaultAny (d : Dev) (k cause : Nat) : Dev :=
  let d1 := d.latchLeg k cause
  if (d1.leg k).st = .fault then d1.setLeg k { (d1.leg k).allOff d1.stepNow with compAt := none } else d1.enterFault k cause

/-! ### Block, region and chip faults -/

/-- Halt the lane of a block (R35). -/
def Dev.haltLane (d : Dev) (b : Nat) : Dev :=
  d.setLane b { d.lane b with mode := .halted, held := none, issued := false, redirect := none }

/-- A block fault: latched and counted, raised, the lane halts, every unit that owns a leg in the block goes to its safe
state (R35 to R42). -/
def Dev.blockFault (d : Dev) (b bit : Nat) : Dev :=
  let d1 := ((d.latchCause (blkCause b) bit).bump (blkReg b) F.BLK_CAUSE_CNT_count).raise Ev.BLOCK_FAULT (scopeBlk b) bit
  (d1.haltLane b).each (d1.blockUnits b) (fun u d => d.unitLevelFault u 5)

/-- Stop a DMA channel: queue emptied, STOPPED (R450). -/
def Dev.stopDma (d : Dev) (r c : Nat) : Dev :=
  let d1 := (d.setFld (rgnReg r + 0x20 * c) F.DMA_STAT_state 3).setFld (rgnReg r + 0x20 * c) F.DMA_STAT_queued 0
  let n := (Store.get (fun _ => DmaChan.initial) d1.dma (4 * r + c)).started
  { d1 with dma := Store.set (fun _ => DmaChan.initial) d1.dma (4 * r + c) { DmaChan.initial with started := n } }

/-- A region fault: latched and counted, raised, every lane of the region halts, its DMA channels stop, every unit of the
region goes to its safe state (R35 to R42). -/
def Dev.regionFault (d : Dev) (r bit : Nat) : Dev :=
  let d1 := ((d.latchCause (rgnCause r) bit).bump (rgnReg r) F.RGN_CAUSE_CNT_count).raise Ev.REGION_FAULT (scopeRgn r) bit
  let d2 := d1.each [4 * r, 4 * r + 1, 4 * r + 2, 4 * r + 3] (fun b d => d.haltLane b)
  let d3 := d2.each [0, 1, 2, 3] (fun c d => d.stopDma r c)
  d3.each (d3.regionUnits r) (fun u d => d.unitLevelFault u 6)

/-- The HSL applies an action to a unit: an open window closes with it, the unit leaves ENABLING or RUN, an ASC exit
sequence ends, and the legs take the action from every state but FAULT. During an exit sequence ASC returns only
on the legs not yet in OFF. Before the disable-path test has released the legs they are held off (R177, R181, R326, R331, R334). -/
def Dev.hslApply (d : Dev) (u : Nat) (a : Action) : Dev :=
  let x := d.unit u
  let d1 := if x.active then d.shutUnit u else d
  let d2 := d1.setUnit u { d1.unit u with
    action := a, decided := true, deciding := false, window := none, hsl := true, exiting := false, exitLegs := [] }
  d2.each (d2.unitLegs u) (fun k d =>
    let d := d.overruleTrip k
    if (x.exiting && (d.leg k).st == .off) || !d.flag 0 F.HSL_TEST_pass then d.markHsl k true
    else (d.order k a true).markHsl k true)

/-- A leg takes the power-on state: both channels and the soft path off (R181). -/
def Dev.powerOnLeg (d : Dev) (k : Nat) : Dev :=
  let l := d.leg k
  if l.atRest then d else d.setLeg k { (l.allOff d.stepNow).enter .settle with soft := false, settleAt := d.now }

/-- A chip fault reaches a unit: LOCKED_OUT with lock_pend; the pattern of R326, but the legs of a DISABLED unit take the
power-on state (R181, R331, R335). -/
def Dev.chipLockUnit (d : Dev) (u : Nat) : Dev :=
  let was := (d.unit u).st
  let d1 := (d.latchCause (unitCause u) 7).countFault u
  let d2 := if was = .disabled then d1.each (d1.unitLegs u) (fun k d => d.powerOnLeg k) else d1.hslApply u (d1.pattern u)
  d2.setUnit u { d2.unit u with st := .locked, lockPend := true, window := none }

/-- SAFE_OUTn goes low, and the HSL clears its request (R355). -/
def Dev.safeOutLow (d : Dev) (n : Nat) : Dev :=
  (d.setFld 0 F.HSL_SAFEOUTSTAT_out (withBits (d.fld 0 F.HSL_SAFEOUTSTAT_out) n 1 0)).setFld (4 * n) F.HSL_SAFEOUT_req 0

/-- A chip fault: latched and counted, raised, the device enters lock-out, both SAFE_OUT pins go low, every unit is
LOCKED_OUT (R35, R355, R367). -/
def Dev.chipFault (d : Dev) (bit : Nat) : Dev :=
  let d1 := ((d.latchCause chipCause bit).bump 0 F.CHIP_CAUSE_CNT_count).raise Ev.CHIP_FAULT scopeChip bit
  let d2 := ((d1.setFld 0 F.HSL_STAT_lockout 1).safeOutLow 0).safeOutLow 1
  d2.each (List.range 32) (fun u d => d.chipLockUnit u)

/-- The trip register of the HSL, in whose HSL cycles of 25 ns the lowest cause is shown (R38, R353, R383). -/
def hslTripReg : CauseReg := ⟨0x40020050, 12, 4, 16, none, 20⟩

/-- An HSL trip: its bit latches in HSL_TRIP and makes a chip fault with cause bit 0 (R353). -/
def Dev.hslTripNow (d : Dev) (bit : Nat) : Dev := (d.latchCause hslTripReg bit).chipFault 0

/-- A trip condition: causes wd and sf are suspended during a safety firmware update (R535). -/
def Dev.hslTrip (d : Dev) (bit : Nat) : Dev :=
  if (bit = 1 ∨ bit = 6) ∧ d.fld 0 F.HSL_UPD_state ≠ 0 then d else d.hslTripNow bit

/-- The condition of cause uv: a UV source is active while HSL_UVCFG.trip is set and a traction unit is in RUN (R353). -/
def Dev.uvRunning (d : Dev) : Bool :=
  d.flag 0 F.HSL_STAT_uv && d.flag 0 F.HSL_UVCFG_trip &&
    (List.range 32).any (fun u => (d.unit u).st == .run && d.fld (unitBase u) F.UNIT_CFG_class == 1)

/-- Trip where that condition holds. -/
def Dev.uvCheck (d : Dev) : Dev := if d.uvRunning then d.hslTrip 5 else d

/-! ### Actions of the HSL on units -/

/-- Registers of safety-function slot `k` (R384). -/
def sfBase (k : Nat) : Nat := 0x20 * k

/-- Units on which the OV3 action acts (R315). -/
def Dev.ov3Acts (d : Dev) (u : Nat) : Bool := d.flag 0 F.HSL_OV3STAT_active && bitOf d.hsl.ov3Units.toNat u

/-- Units named by a slot whose action is applied (R361, R362). -/
def Dev.slotActs (d : Dev) (k u : Nat) : Bool :=
  bitOf (d.fld 0 F.HSL_SFSTAT_acting) k && bitOf (d.fld (sfBase k) F.HSL_SF_UNITS_units) u

/-- Classes that a safety firmware update stops (R535). -/
def updClass (c : Nat) : Bool := c == 1 || c == 6 || c == 7 || c == 8

/-- Whether an HSL disable by a slot or an update, or an OV3 action, acts on a unit (R334). -/
def Dev.hslActs (d : Dev) (u : Nat) : Bool :=
  d.ov3Acts u || (List.range 8).any (fun k => d.slotActs k u) ||
    (d.fld 0 F.HSL_UPD_state != 0 && updClass (d.fld (unitBase u) F.UNIT_CFG_class))

/-! ### Configurations the HSL refuses (R351, R363) -/

/-- Whether chip feedback channel `c` is enabled. -/
def Dev.channelOn (d : Dev) (c : Nat) : Bool := d.flag (rgnReg (c / 2) + 0x80 * (c % 2)) F.FB_CFG_en

/-- Whether the registers of slot `k` hold a configuration that is refused. -/
def Dev.sfBad (d : Dev) (k : Nat) : Bool :=
  let a := sfBase k
  let p1 := d.fld a F.HSL_SF_P1_p1
  let split := d.isSplit
  let con := d.flag a F.HSL_SF_CFG_con_en
  let units := d.fld a F.HSL_SF_UNITS_units
  (con && (split || d.flag (0x40 * d.fld a F.HSL_SF_CFG_con) F.SCH_CON_CFG_dir)) ||
    match d.fld a F.HSL_SF_CFG_type with
    | 2 => bitOf p1 16 && (split || !d.channelOn (bitsOf p1 17 3))
    | 3 =>
      split || bitsOf p1 0 3 / 2 == bitsOf p1 4 3 / 2 || !d.channelOn (bitsOf p1 0 3) || !d.channelOn (bitsOf p1 4 3)
    | 4 =>
      split || (List.range 32).any (fun u => bitOf units u && d.fld (unitBase u) F.UNIT_CFG_class != 3)
    | _ => false

/-- Perform a register write unless it makes a configuration that the HSL refuses (R363). -/
def Dev.unlessBad (d : Dev) (f : Dev → Dev) : Dev :=
  let d1 := f d
  if (List.range 8).any (fun k => !d.sfBad k && d1.sfBad k) then d.raise Ev.SF_CFG_REFUSED scopeChip 0 else d1

end Sys2Proof.Machine
end

