-- ==== Sys2Proof/Machine/Memory.lean ====
section
/-! DEFINITION. Which memory an address lies in, who may reach it, and what an error in it does (R430 to R438). -/

namespace Sys2Proof.Machine

/-- The memories of R430 and R494. -/
inductive MemKind where
  | bootRom | cellarRam | app | safety (sc : Nat) | chipRam
  | regionRam (r : Nat) | exchange (r : Nat)
  | program (b slot : Nat) | data (b : Nat) | table (b bank : Nat) | intake (b : Nat)
  | nvs
  deriving DecidableEq, Repr

/-- The memory that holds a byte address; none outside every memory. -/
def memKind (a : Nat) : Option MemKind :=
  if a < 0x10000 then some .bootRom
  else if 0x08000000 ≤ a ∧ a < 0x08040000 then some .cellarRam
  else if 0x10000000 ≤ a ∧ a < 0x10200000 then some .app
  else if 0x11000000 ≤ a ∧ a < 0x11100000 then some (.safety ((a - 0x11000000) / 0x80000))
  else if 0x12000000 ≤ a ∧ a < 0x121C0000 then some .chipRam
  else if 0x30000000 ≤ a ∧ a < 0x34000000 then some .nvs
  else if 0x20000000 ≤ a ∧ a < 0x24000000 then
    let r := (a - 0x20000000) / 0x1000000
    let x := (a - 0x20000000) % 0x1000000
    if x < 0xF0000 then some (.regionRam r)
    else if x < 0x100000 then some (.exchange r)
    else if 0x400000 ≤ x ∧ x < 0x800000 then
      let b := 4 * r + (x - 0x400000) / 0x100000
      let y := x % 0x100000
      if y < 0x20000 then some (.program b (y / 0x10000))
      else if 0x40000 ≤ y ∧ y < 0x80000 then some (.data b)
      else if 0x80000 ≤ y ∧ y < 0x90000 then some (.table b ((y - 0x80000) / 0x8000))
      else if 0xC8000 ≤ y ∧ y < 0xC8400 then some (.intake b)
      else none
    else none
  else none

/-- The region a memory lies in, for region SRAM and block memories (R435). -/
def MemKind.region : MemKind → Option Nat
  | .regionRam r | .exchange r => some r
  | .program b _ | .data b | .table b _ | .intake b => some (b / 4)
  | _ => none

/-- The masters a memory admits (R430, R439): MACs, axle-link, CAN and LIN controllers reach application and chip shared
SRAM only; safety SRAM its own core, the HSL bridge, and the Cellar while both cores are held in reset; Cellar SRAM
and the boot ROM the Cellar. In paired mode the pair issues as master 2 for both cores (R345). -/
def Dev.admits (d : Dev) (k : MemKind) (m : Nat) : Bool :=
  match k with
  | .app | .chipRam => true
  | .cellarRam | .bootRom => m == 5
  | .safety sc => m == 2 + sc || m == 4 || (m == 2 && !d.isSplit) || (m == 5 && !d.hsl.pairUp)
  | .nvs => decide (m < 10)
  | .intake _ | .regionRam _ | .exchange _ | .program _ _ | .data _ | .table _ _ => decide (m < 10)

/-- The port of the memory that holds an address: of a block memory by 3 × block + 0 program, 1 data, 2 tables, and of a bank of
exchange memory by 48 + 16 × region + bank (R22, R24). -/
def portOf (a : Nat) : Option Nat :=
  match memKind a with
  | some (.program b _) => some (3 * b)
  | some (.data b) => some (3 * b + 1)
  | some (.table b _) => some (3 * b + 2)
  | some (.exchange r) => some (48 + 16 * r + a / 8 % 16)
  | _ => none

/-- A lane, or a rainflow read, uses a port in this lane cycle; the port is busy then for every access below it. -/
def Dev.usePort (d : Dev) (p : Nat) : Dev := { d with portAt := Store.set (fun _ => 0) d.portAt p (d.now + 1) }
def Dev.portBusy (d : Dev) (p : Nat) : Bool := Store.get (fun _ => 0) d.portAt p == d.now + 1

/-- The active program slot and table bank of a region (R97, R528). -/
def Dev.activeSlot (d : Dev) (r : Nat) : Nat := d.fld (rgnReg r) F.RGN_RACK_STAT_slot
def Dev.activeBank (d : Dev) (r : Nat) : Nat := d.fld (rgnReg r) F.RGN_RACK_STAT_tbank

/-- A Cellar alarm: latched in CEL_ALARM, the Cellar in ALARM, a chip fault with cause bit 2 (R391). -/
def Dev.cellarAlarm (d : Dev) (bit : Nat) : Dev :=
  ((d.orReg 0x40030014 (2 ^ bit)).setFld 0 F.CEL_STAT_state 5).chipFault 2

/-- The pair is held in reset: no challenge is outstanding. -/
def Dev.holdPair (d : Dev) : Dev :=
  { d with pairWait := none, pairReset := some d.now, hsl := { d.hsl with pairUp := false, reloadBad := false, wdAt := none, frameAt := none, taken := 0 } }

/-- Loss of safety-pair agreement: a chip fault with cause bit 1, and both cores held in reset (R346, R348). -/
def Dev.pairLoss (d : Dev) : Dev := (d.chipFault 1).holdPair

/-- Record the address of the last uncorrectable word (R438). -/
def Dev.errAddr (d : Dev) (reg a : Nat) : Dev := d.setReg reg (BitVec.ofNat 32 a)

/-- An uncorrectable word was read in an active lane memory: its bit, its address, a block fault (R436). -/
def Dev.laneMemFault (d : Dev) (b bit a : Nat) : Dev :=
  ((d.orReg (blkReg b + 0x70) (2 ^ bit)).errAddr (blkReg b + 0x74) a).blockFault b 1

/-- An uncorrectable word was read: the response of R436 for the memory it lies in. -/
def Dev.uncorrectable (d : Dev) (a : Nat) : Dev :=
  let inactive := fun (b bit : Nat) =>
    ((d.orReg (blkReg b + 0x70) (2 ^ bit)).errAddr (blkReg b + 0x74) a).raise Ev.MEM_UNCORR scopeChip a
  match memKind a with
  | some (.data b) => d.laneMemFault b 18 a
  | some (.program b s) => if d.activeSlot (b / 4) = s then d.laneMemFault b (16 + s) a else inactive b (16 + s)
  | some (.table b t) => if d.activeBank (b / 4) = t then d.laneMemFault b (19 + t) a else inactive b (19 + t)
  | some (.regionRam r) | some (.exchange r) =>
    ((d.bump (rgnReg r) F.RGN_MEMERR_ue).errAddr (rgnReg r + 0x74) a).raise Ev.MEM_UNCORR scopeChip a
  | some .app | some .chipRam => (d.errAddr 0x40040104 a).raise Ev.MEM_UNCORR scopeChip a
  | some (.safety _) =>
    if d.isSplit then (d.errAddr 0x40040104 a).raise Ev.MEM_UNCORR scopeChip a else (d.errAddr 0x40040104 a).pairLoss
  | some .cellarRam => (d.errAddr 0x40040104 a).cellarAlarm 2
  | _ => d

/-- The count of corrected errors of the memory an address lies in, as its register's base and field (R436). -/
def correctedCount (a : Nat) : Option (Nat × Fld) :=
  match memKind a with
  | some (.data b) | some (.program b _) | some (.table b _) | some (.intake b) => some (blkReg b, F.BLK_MEMERR_ce)
  | some (.regionRam r) | some (.exchange r) => some (rgnReg r, F.RGN_MEMERR_ce)
  | some .app | some .chipRam | some (.safety _) | some .cellarRam => some (0, F.MEM_CHIP_ce)
  | _ => none

/-- A single-bit error was corrected: counted, and MEM_CORRECTED raised at most once per 1 ms per register (R436). -/
def Dev.corrected (d : Dev) (a : Nat) : Dev :=
  match correctedCount a with
  | none => d
  | some (base, f) =>
    let d1 := d.bump base f
    let key := base + f.off
    let last := Store.get (fun _ => 0) d1.correctedAt key
    if last = 0 ∨ last + cyclesPerMs ≤ d1.now + 1 then
      { d1 with correctedAt := Store.set (fun _ => 0) d1.correctedAt key (d1.now + 1) }.raise Ev.MEM_CORRECTED scopeChip 0
    else d1

end Sys2Proof.Machine
end

