-- ==== Sys2Proof/Machine/RegWrite.lean ====
section
/-! DEFINITION. A write and a read of a register field by field, by the access codes of its fields (R8 to R10, R496). -/

namespace Sys2Proof.Machine

/-- Whether an access code is one of the guarded codes. -/
def Acc.isGuarded : Acc → Bool
  | .rwg | .w1cg => true
  | _ => false

/-- Whether a code is write-only for named masters (R9). -/
def Acc.isNamed : Acc → Bool
  | .wos | .wo0 | .wo1 | .woc => true
  | _ => false

/-- Whether a master may write a field of this code (R9); SC0 and SC1 write the fields of their own as masters 2 and 3
(R346). -/
def Dev.mayWrite (_d : Dev) (m : Master) : Acc → Bool
  | .rwg | .w1cg | .wos => masterPriv m
  | .wo0 => m.id == 2
  | .wo1 => m.id == 3
  | .woc => m.id == 5
  | _ => true

/-- What a field holds after a write of `v` to it. -/
def FieldRow.after (f : FieldRow) (old v : Nat) : Nat :=
  match f.acc with
  | .rw | .rwg =>
    match f.range with
    | some (lo, hi) => max lo (min hi v)
    | none => v
  | .w1c | .w1cg => old &&& (v ^^^ (2 ^ f.w - 1))
  | _ => old

/-- Whether a write of `v` to the field is clamped (R8). -/
def FieldRow.clamps (f : FieldRow) (v : Nat) : Bool :=
  match f.acc, f.range with
  | .rw, some (lo, hi) | .rwg, some (lo, hi) => decide (v < lo ∨ hi < v)
  | _, _ => false

/-- A register all of whose fields are for privileged or named masters (R496). -/
def Row.allGuarded (r : Row) : Bool := r.fields.all (fun f => f.acc.isGuarded || f.acc.isNamed)

/-- A register that holds a guarded field. -/
def Row.guarded (r : Row) : Bool := r.fields.any (fun f => f.acc.isGuarded)

/-- The word a register holds after master `m` writes `v` to it: fields that `m` may not write keep their value. -/
def Dev.wordAfter (d : Dev) (m : Master) (old v : Nat) : List FieldRow → Nat
  | [] => old
  | f :: t =>
    let rest := d.wordAfter m old v t
    if d.mayWrite m f.acc then withBits rest f.lo f.w (f.after (bitsOf old f.lo f.w) (bitsOf v f.lo f.w)) else rest

/-- Whether a write raises GUARD_VIOLATION (R8, R9, R496): one that clamps in a guarded register, one of a master that
may not write to a register with guarded fields only, or one that writes a 1 to a field the master may not
write. -/
def Dev.violates (d : Dev) (m : Master) (r : Row) (v : Nat) : Bool :=
  r.fields.any (fun f => !d.mayWrite m f.acc && (r.allGuarded || bitsOf v f.lo f.w != 0)) ||
    (r.guarded && r.fields.any (fun f => d.mayWrite m f.acc && f.clamps (bitsOf v f.lo f.w)))

/-- The W1C bits of a register. -/
def Row.w1cBits (r : Row) : Nat :=
  (r.fields.filter (fun f => f.acc == .w1c || f.acc == .w1cg)).foldl (fun n f => withBits n f.lo f.w (2 ^ f.w - 1)) 0

/-- A written word without the W1C bits that hardware sets in the same lane cycle (R498). -/
def Dev.unset (d : Dev) (a : Nat) (r : Row) (v : Nat) : Nat := v &&& ((d.setHere a &&& r.w1cBits) ^^^ 0xFFFFFFFF)

/-- Write a register field by field; W1C bits that hardware sets in the same cycle stay (R498). An unassigned offset ignores the
write (R495). -/
def Dev.plainWrite (d : Dev) (m : Master) (a : Nat) (v : Word) : Dev :=
  match rowAt a with
  | none => d
  | some r =>
    let d1 := d.setReg a (BitVec.ofNat 32 (d.wordAfter m (d.reg a).toNat (d.unset a r v.toNat) r.fields))
    if d.violates m r v.toNat then d1.guardViolation m a else d1

/-- Whether a write of master `m` to a register whose fields are all for privileged masters passes; it raises
GUARD_VIOLATION otherwise. -/
def Dev.guarded (d : Dev) (m : Master) (a : Nat) (f : Dev → Dev) : Dev :=
  if masterPriv m then f d else d.guardViolation m a

/-- A stored register as master `m` reads it: guarded fields read 0 for masters that are not privileged (R9). -/
def Dev.plainRead (d : Dev) (m : Master) (a : Nat) (w : Word) : Word :=
  match rowAt a with
  | none => 0
  | some r =>
    BitVec.ofNat 32 ((r.fields.filter (fun f =>
      (!f.acc.isGuarded || d.mayWrite m f.acc) && !f.acc.isNamed && f.acc != .wo)).foldl
        (fun acc f => acc + bitsOf w.toNat f.lo f.w * 2 ^ f.lo) 0)

/-- Give the answer of a register or memory access to the master that made it. -/
def Dev.answer (d : Dev) (w : Word) : Dev := { d with resp := w, respErr := false }

end Sys2Proof.Machine
end

