-- ==== Sys2Proof/Machine/Afe.lean ====
section
/-! DEFINITION. The analogue front end: converters and their sequences, sigma-delta inputs, window comparators, threshold
DACs and their readback (R187 to R223). -/

namespace Sys2Proof.Machine

/-! ### Open roundings and the intake buffer -/

/-- A quotient the spec gives without a rounding rule: an exact one as it is, any other rounded down or up by a free
choice. -/
def Dev.someRound (d : Dev) (x m : Int) : Int × Dev :=
  if x % m = 0 then (x / m, d)
  else (x / m + (if Config.freeBool d.free then 1 else 0), { d with free := d.free + 1 })

/-- Set condition bits of one lane in the next lane cycle (R84, R114). -/
def Dev.condNextOf (d : Dev) (b mask : Nat) : Dev :=
  let old := (Store.get zeroWord d.condNext b).toNat
  { d with condNext := Store.set zeroWord d.condNext b (BitVec.ofNat 32 (old ||| mask)) }

/-- The same for every lane of a region. -/
def Dev.condRegionNext (d : Dev) (r mask : Nat) : Dev :=
  d.each [4 * r, 4 * r + 1, 4 * r + 2, 4 * r + 3] (fun b d => d.condNextOf b mask)

/-- Write word `w` of one block's intake buffer; a load in this lane cycle still sees the old value (R84). -/
def Dev.putIntakeOf (d : Dev) (b w : Nat) (v : Word) : Dev :=
  let a := intakeBase b + 4 * w
  let old := Store.get (fun _ => (0, 0)) d.intakeOld a
  let seen := if old.1 = d.now + 1 then old.2 else BitVec.ofNat 32 (d.loadN a 4)
  { d with intakeOld := Store.set (fun _ => (0, 0)) d.intakeOld a (d.now + 1, seen) }.pokeN a 4 v.toNat

/-- Write word `w` of the intake buffers of all four blocks of a region (R194). -/
def Dev.putIntake (d : Dev) (r w : Nat) (v : Word) : Dev :=
  d.each [4 * r, 4 * r + 1, 4 * r + 2, 4 * r + 3] (fun b d => d.putIntakeOf b w v)

/-! ### Threshold DACs and comparators -/

/-- Whether a DAC's code was changed less than 50 ns ago, so that its output may still be settling (R219). -/
def Dev.dacSettling (d : Dev) (r n : Nat) : Bool :=
  let changed := (Store.get (fun _ => (0, 0)) d.dacAt (80 * r + n)).1
  changed != 0 && decide (d.now + 1 < changed + 40)

/-- Whether a DAC's code stepped less than 50 ns ago, by a change or by the ramp (R217). -/
def Dev.dacFresh (d : Dev) (r n : Nat) : Bool :=
  d.dacSettling r n || decide (n < 32) && d.dacCode r n (d.now - 39) != d.dacCode r n d.now

/-- The threshold in µV that a decision of a comparator uses: 3.0 mV per code; while its DAC settles, a free value between the old
code and the new one (R206, R219). -/
def Dev.threshold (d : Dev) (r n : Nat) : Nat × Dev :=
  let new := d.dacCode r n d.now
  if d.dacSettling r n then
    let old := (Store.get (fun _ => (0, 0)) d.dacAt (80 * r + n)).2
    let f := d.takeFree
    (3000 * min old new + f.1.toNat % (3000 * (max old new - min old new) + 1), f.2)
  else (3000 * new, d)

/-- The voltage last seen at input `i` of a region, and a new one. -/
def Dev.pin (d : Dev) (r i : Nat) : Option Nat := Store.get (fun _ => none) d.pins (96 * r + i)

/-- The output of a comparator: with pol = 0 active above its threshold, with pol = 1 below. DESIGN CHOICE: inactive while no
voltage of its input has been told (R206, assumption 93). -/
def compares (pol : Bool) (uv : Option Nat) (threshold : Nat) : Bool :=
  match uv with
  | some v => if pol then decide (v < threshold) else decide (threshold < v)
  | none => false

/-- The outputs of the hard and the trip comparator of a leg (R206). -/
def Dev.hardOut (d : Dev) (k : Nat) : Bool × Dev :=
  let t := d.threshold (k / 32) (32 + k % 32)
  (compares (d.flag (legReg k) F.LEG_CMP_h_pol) (d.pin (k / 32) (64 + k % 32)) t.1, t.2)
def Dev.tripOut (d : Dev) (k : Nat) : Bool × Dev :=
  let t := d.threshold (k / 32) (k % 32)
  (compares (d.flag (legReg k) F.LEG_CMP_t_pol) (d.pin (k / 32) (64 + k % 32)) t.1, t.2)

/-- The input of a window comparator (R212). -/
def Dev.winInput (d : Dev) (r n : Nat) : Nat := d.fld (winBase r n) F.WIN_CFG_src

/-- The raw output of a window comparator as its input and threshold now make it (R212). -/
def Dev.winOut (d : Dev) (r n : Nat) : Bool × Dev :=
  if d.flag (winBase r n) F.WIN_CFG_en then
    let t := d.threshold r (64 + n)
    (compares (d.flag (winBase r n) F.WIN_CFG_pol) (d.pin r (d.winInput r n)) t.1, t.2)
  else (false, d)

/-- The raw output of a window comparator, and since when it has differed from the filtered one. -/
def Dev.raw (d : Dev) (r n : Nat) : Bool := Store.get (fun _ => false) d.raws (16 * r + n)
def Dev.rawSince (d : Dev) (r n : Nat) : Option Nat := Store.get (fun _ => none) d.rawAt (16 * r + n)

/-- Whether a window comparator is a source of OV3, or of UV (R315, R358). -/
def Dev.isOv3 (d : Dev) (r n : Nat) : Bool := d.flag (winBase r n) F.WIN_CFG_hsl && bitOf (d.fld (4 * r) F.HSL_OV3SRC_mask) n
def Dev.isUv (d : Dev) (r n : Nat) : Bool := d.flag (winBase r n) F.WIN_CFG_hsl && bitOf (d.fld (4 * r) F.HSL_UVSRC_mask) n

/-- Form the raw output of a window comparator anew; an OV3 source notes when it was last active (R212, R318). -/
def Dev.formRaw (d : Dev) (r n : Nat) : Dev :=
  let x := d.winOut r n
  let was := d.raw r n
  let out := d.flag (winBase r n) F.WIN_STAT_out
  let since := if x.1 = out then none else if was = out then some d.now else d.rawSince r n
  let d1 := { x.2 with
    raws := Store.set (fun _ => false) x.2.raws (16 * r + n) x.1
    rawAt := Store.set (fun _ => none) x.2.rawAt (16 * r + n) since }
  if was = true ∧ d.isOv3 r n = true then { d1 with ov3At := d1.now } else d1

/-- A voltage is seen at input `i` of a region: the raw outputs of the window comparators on it follow. -/
def Dev.seePin (d : Dev) (r i : Nat) (uv : Option Nat) : Dev :=
  match uv with
  | none => d
  | some v =>
    let d1 := { d with pins := Store.set (fun _ => none) d.pins (96 * r + i) (some v) }
    d1.each ((List.range 16).filter (fun n => d1.flag (winBase r n) F.WIN_CFG_en && d1.winInput r n == i)) (fun n d => d.formRaw r n)

/-- The same for the input of a window comparator. -/
def Dev.seeWindow (d : Dev) (r n : Nat) (uv : Option Nat) : Dev := d.seePin r (d.winInput r n) uv

/-! ### Converters -/

/-- A sequence, a converter, and their registers. -/
def Dev.seq (d : Dev) (r a q : Nat) : AdcSeq := Store.get (fun _ => AdcSeq.initial) d.seqs (8 * r + 2 * a + q)
def Dev.setSeq (d : Dev) (r a q : Nat) (x : AdcSeq) : Dev :=
  { d with seqs := Store.set (fun _ => AdcSeq.initial) d.seqs (8 * r + 2 * a + q) x }
def Dev.conv (d : Dev) (r a : Nat) : AdcConv := Store.get (fun _ => AdcConv.initial) d.convs (4 * r + a)
def Dev.setConv (d : Dev) (r a : Nat) (x : AdcConv) : Dev :=
  { d with convs := Store.set (fun _ => AdcConv.initial) d.convs (4 * r + a) x }
def seqBase (r a q : Nat) : Nat := rgnReg r + 0x80 * a + 0x40 * q

/-- First address of a feedback channel's registers, to which the offsets of local channel 0 are added. -/
def fbBase (r f : Nat) : Nat := rgnReg r + 0x80 * f

/-- The local feedback channel whose resolver has taken SEQ1 of converter `a`, and whether for its sine (R268). -/
def Dev.resolverOf (d : Dev) (r a : Nat) : Option (Nat × Bool) :=
  let uses := fun (f : Nat) => d.flag (fbBase r f) F.FB_CFG_en && d.fld (fbBase r f) F.FB_CFG_src == 2
  if uses 0 && d.fld (fbBase r 0) F.RES_CFG_adc_s == a then some (0, true)
  else if uses 0 && d.fld (fbBase r 0) F.RES_CFG_adc_c == a then some (0, false)
  else if uses 1 && d.fld (fbBase r 1) F.RES_CFG_adc_s == a then some (1, true)
  else if uses 1 && d.fld (fbBase r 1) F.RES_CFG_adc_c == a then some (1, false)
  else none

/-- Whether a resolver overrides a sequence. -/
def Dev.overridden (d : Dev) (r a q : Nat) : Bool := q == 1 && (d.resolverOf r a).isSome

/-- The trigger code of a sequence; 7 acts as 0 (R190). -/
def Dev.seqTrig (d : Dev) (r a q : Nat) : Nat :=
  let t := d.fld (seqBase r a q) F.ADC_SEQ_CFG_trig
  if t = 7 then 0 else t

/-- A sequence that condition bits count: enabled and not taken by a resolver (R196, R268). -/
def Dev.seqEnabled (d : Dev) (r a q : Nat) : Bool := d.seqTrig r a q != 0 && !d.overridden r a q

/-- Neither sequence of the converter runs or waits. -/
def Dev.convIdle (d : Dev) (r a : Nat) : Bool := (d.seq r a 0).phase == .idle && (d.seq r a 1).phase == .idle

/-- Note an idle window of 80 lane cycles that ends now (R198). -/
def Dev.noteIdle (d : Dev) (r a : Nat) : Dev :=
  let c := d.conv r a
  if d.convIdle r a && decide (c.freeAt + 80 ≤ d.now) then d.setConv r a { c with idleAt := d.now } else d

/-- A trigger: the sequence waits for its start `delay` lane cycles later; one that already waits or runs loses it (R191,
R192). -/
def Dev.startWait (d : Dev) (r a q delay : Nat) : Dev :=
  let x := d.seq r a q
  if x.phase = .idle then
    let d1 := d.noteIdle r a
    d1.setSeq r a q { d1.seq r a q with phase := .waiting (d.now + delay), trig := false }
  else
    let d1 := (d.bump (seqBase r a q) F.ADC_SEQ_STAT_lost).setSeq r a q { x with trig := false }
    d1.raise Ev.ADC_TRIG_LOST (scopeRgn r) (pack [(a, 2), (q, 1)])

/-- Note the trigger of every sequence of a region that `p` selects by its registers; ADC_TRIGGER serves it. -/
def Dev.noteTriggers (d : Dev) (r : Nat) (p : Nat → Bool) : Dev :=
  d.each (List.range 8) (fun i d =>
    if d.overridden r (i / 2) (i % 2) = false ∧ p (seqBase r (i / 2) (i % 2)) = true then
      d.setSeq r (i / 2) (i % 2) { d.seq r (i / 2) (i % 2) with trig := true }
    else d)

/-- ADC_TRIGGER: the trigger of an enabled sequence (R190 to R192). -/
def execAdcTrigger (r : RegionId) (a : Fin 4) (q : Fin 2) (s : State) : Host.Outcome State Fault Refusal :=
  let d := s.dev
  s.done (
    if (d.seq r a q).trig then
      if d.seqTrig r a q = 0 then d.setSeq r a q { d.seq r a q with trig := false }
      else d.startWait r a q (d.fld (seqBase r a q) F.ADC_SEQ_CFG_delay)
    else d)

/-- A write of ADC_SEQ_CFG; bit 31 is the software trigger of a sequence with trig = 6 (R190). -/
def Dev.writeSeqCfg (d : Dev) (m : Master) (r a q : Nat) (v : Word) : Dev :=
  let d1 := d.plainWrite m (seqBase r a q + 0x1000) v
  if bitOf v.toNat 31 = true ∧ d1.seqTrig r a q = 6 ∧ d1.overridden r a q = false then
    d1.startWait r a q (d1.fld (seqBase r a q) F.ADC_SEQ_CFG_delay)
  else d1

/-- ADC_SEQ_SW (R190). -/
def execAdcSeqSw (m : Master) (r : RegionId) (a : Fin 4) (q : Fin 2) (v : Word) (s : State) :
    Host.Outcome State Fault Refusal := s.done (s.dev.writeSeqCfg m r a q v)

/-- Whether a sequence runs. -/
def SeqPhase.isRunning : SeqPhase → Bool
  | .running _ _ => true
  | _ => false

/-- Whether sequence `q` may start now: its delay is over, the other does not run, and SEQ0 goes first (R192). -/
def Dev.mayStart (d : Dev) (r a q : Nat) : Bool :=
  match (d.seq r a q).phase with
  | .waiting t => decide (t ≤ d.now) && !(d.seq r a (1 - q)).phase.isRunning &&
      (q == 0 || match (d.seq r a 0).phase with | .waiting t0 => decide (d.now < t0) | _ => true)
  | _ => false

/-- The configuration and the entries a starting sequence copies; a resolver's single entry converts its channel with
zero 8,192 and gain 0 (R193, R268). -/
def Dev.seqCopy (d : Dev) (r a q : Nat) : Word × List Word :=
  match (if q = 1 then d.resolverOf r a else none) with
  | some (f, sine) =>
    (0, [BitVec.ofNat 32 ((if sine then d.fld (fbBase r f) F.RES_CFG_ch_s else d.fld (fbBase r f) F.RES_CFG_ch_c) +
      8192 * 65536)])
  | none => (d.reg (seqBase r a q + 0x1000), (List.range 8).map (fun e => d.reg (seqBase r a q + 0x1010 + 4 * e)))

/-- A feedback channel of a region. -/
def Dev.fb (d : Dev) (r f : Nat) : FbChan := Store.get (fun _ => FbChan.initial) d.fbs (2 * r + f)
def Dev.setFb (d : Dev) (r f : Nat) (x : FbChan) : Dev :=
  { d with fbs := Store.set (fun _ => FbChan.initial) d.fbs (2 * r + f) x }

/-- ADC_SEQUENCE_START: the sequence runs from now on; a background conversion of the converter is abandoned (R191 to R193).
A resolver conversion that starts more than 8 lane cycles late costs its pair (R269). -/
def execAdcSequenceStart (r : RegionId) (a : Fin 4) (q : Fin 2) (s : State) : Host.Outcome State Fault Refusal :=
  let d := s.dev
  s.done (
    match (d.seq r a q).phase with
    | .waiting t =>
      if d.mayStart r a q then
        let c := d.seqCopy r a q
        let wait := min (d.now - t) 0xFF
        let d1 := if d.fld (seqBase r a q) F.ADC_SEQ_STAT_max_delay < wait then
            d.setFld (seqBase r a q) F.ADC_SEQ_STAT_max_delay wait else d
        let d2 := d1.setSeq r a q { d1.seq r a q with
          phase := .running d.now 0, cfg := c.1, ents := c.2,
          count := (d1.fld (seqBase r a q) F.ADC_SEQ_STAT_count + 1) % 256 }
        match (if q.val = 1 then d2.resolverOf r a else none) with
        | some (f, _) => if t + 8 < d.now then d2.setFb r f { d2.fb r f with skip := true } else d2
        | none => d2
      else d
    | _ => d)

/-- The code of an input voltage in microvolts: the nearest of 0.1875 mV, half-way up, clamped (R188). -/
def adcCode (uv : Nat) : Nat := min ((4 * uv + 375) / 750) 16383

/-- The channel a sequence entry converts: 27 to 31 act as 17 (R188). -/
def entryChannel (ent : Word) : Nat := let c := bitsOf ent.toNat 0 5; if 27 ≤ c then 17 else c

/-- The scaled voltage of a channel: the die temperatures at 1.200 V at 25 °C and −2.5 mV/°C, VDD_IO and VDD_ADC by 2, VDRV by 8,
the others as they are (R188). -/
def scaled (ch : Nat) (x : AdcSeen) : Nat :=
  match ch with
  | 18 | 19 | 20 | 21 => (1200000 - (x.milliC - 25000) * 5 / 2).toNat
  | 24 | 25 => x.uv / 2
  | 26 => x.uv / 8
  | _ => x.uv

/-- The code of a conversion of channel `ch` of a converter: of what is seen there, else of the voltage last told of the external
input; a free code where nothing is told (R187, R188). -/
def Dev.convert (d : Dev) (r a ch : Nat) (x : Option AdcSeen) : Nat × Dev :=
  match x, (if ch < 16 then d.pin r (16 * a + ch) else none) with
  | some y, _ => (adcCode (scaled ch y), d)
  | none, some v => (adcCode v, d)
  | none, none =>
    let f := d.takeFree
    (f.1.toNat % 16384, f.2)

/-- The value of a code under an entry: (code − zero) × 2^(1 + gain), saturated (R195). -/
def entryValue (ent : Word) (code : Nat) : Int × Bool :=
  satQ15 (((code : Int) - bitsOf ent.toNat 16 14) * 2 ^ (1 + bitsOf ent.toNat 8 1))

/-- A result word (R195). -/
def resultWord (v : Int × Bool) (count : Nat) : Word :=
  BitVec.ofNat 32 (pack [(lowBits 16 v.1, 16), (1, 1), (if v.2 then 1 else 0, 1), (0, 6), (count, 8)])

/-- The condition bit of a converter: set in each lane of the region for which this completion is the last of the first
completions of the converter's enabled sequences in the lane's sub-tick (R196). -/
def Dev.convCond (d : Dev) (r a q before : Nat) : Dev :=
  d.each [4 * r, 4 * r + 1, 4 * r + 2, 4 * r + 3] (fun b d =>
    let start := (d.lane b).subStart
    let other := (!d.seqEnabled r a (1 - q)) || decide (start + 1 ≤ (d.seq r a (1 - q)).doneAt)
    if d.seqEnabled r a q && decide (before < start + 1) && other then d.condNextOf b (2 ^ a) else d)

/-- A sequence completes. -/
def Dev.seqComplete (d : Dev) (r a q : Nat) : Dev :=
  let x := d.seq r a q
  let d1 := (d.bumpWrap (seqBase r a q) F.ADC_SEQ_STAT_count).setSeq r a q { x with phase := .idle, doneAt := d.now + 1 }
  let d2 := d1.setConv r a { d1.conv r a with freeAt := d1.now }
  d2.convCond r a q x.doneAt

/-- A resolver conversion lands in its half of word +6 and is kept for the pair (R268, R269). -/
def Dev.resolverSample (d : Dev) (r f : Nat) (sine : Bool) (v : Int) : Dev :=
  let x := d.fb r f
  let x1 := match sine, x.positive with
    | true, true => { x with posS := some v }
    | true, false => { x with negS := some v }
    | false, true => { x with posC := some v }
    | false, false => { x with negC := some v }
  let old := d.loadN (intakeBase (4 * r) + 4 * (128 + 32 * f + 6)) 4
  (d.setFb r f x1).putIntake r (128 + 32 * f + 6)
    (BitVec.ofNat 32 (withBits old (if sine then 0 else 16) 16 (lowBits 16 v)))

/-- ADC_RESULT: the result of the running sequence's next entry lands; the last one completes the sequence (R189, R194,
R195, R268). `x` is what the input of its channel shows. -/
def execAdcResult (r : RegionId) (a : Fin 4) (q : Fin 2) (x : Option AdcSeen) (s : State) : Host.Outcome State Fault Refusal :=
  let d := s.dev
  let y := d.seq r a q
  s.done (
    match y.phase with
    | .running since e =>
      if since + 80 * (e + 1) ≤ d.now then
        let ent := y.ents.getD e 0
        let c := d.convert r a (entryChannel ent) x
        let v := entryValue ent c.1
        let d1 := match (if q.val = 1 then d.resolverOf r a else none) with
          | some (f, sine) => c.2.resolverSample r f sine v.1
          | none => c.2.putIntake r (16 * a.val + 8 * q.val + e) (resultWord v y.count)
        if e = bitsOf y.cfg.toNat 28 3 then d1.seqComplete r a q
        else d1.setSeq r a q { y with phase := .running since (e + 1) }
      else d
    | _ => d)

/-- Whether a background conversion of a converter completes now: none of its sequences has run or waited for 80 lane cycles, nor
another background conversion (R192, R197). -/
def Dev.backgroundDue (d : Dev) (r a : Nat) : Bool := d.convIdle r a && decide ((d.conv r a).freeAt + 80 ≤ d.now)

/-- Whether a converter of a region has failed the last two checks of a channel (R197). -/
def Dev.checkBad (d : Dev) (r : Nat) : Bool :=
  [0, 1, 2, 3].any (fun a => (d.conv r a).badRef || (d.conv r a).badGnd)

/-- ADC_BACKGROUND_CHECK: a check conversion of channel 16, or with `ground` channel 17, completes in an idle window. A
failed check is flagged; two in a row of one channel are a region fault, which lasts until that channel converts well. ADC3 goes
on in its rotation (R197, R217). -/
def execAdcBackgroundCheck (r : RegionId) (a : Fin 4) (ground : Bool) (uv : Nat) (s : State) : Host.Outcome State Fault Refusal :=
  let d := s.dev
  let code := adcCode uv
  let bad : Bool := if ground then decide (24 < code) else decide (code < 8168 ∨ 8216 < code)
  s.done (
    if d.backgroundDue r a then
      let c := d.conv r a
      let again := bad && (if ground then c.failGnd else c.failRef)
      let c1 := { c with freeAt := d.now, idleAt := d.now, turn := if c.turn = flagBit ground then c.turn + 1 else c.turn }
      let c2 := if ground then { c1 with failGnd := bad, badGnd := again } else { c1 with failRef := bad, badRef := again }
      let d1 := d.setConv r a c2
      let d2 := d1.setLive (rgnReg r + 0x40) 1 (d1.checkBad r)
      if bad then
        let d3 := (d2.orReg (rgnReg r + 0x1614) (2 ^ a.val)).raise Ev.ADC_CHECK_FAIL (scopeRgn r) 0
        if again then (d3.regionFault r 0).startupFail 5 (some r) else d3
      else d2
    else d)

/-- ADC_CHECK_STARVED: no idle window of 80 lane cycles for 1 ms (R198). -/
def execAdcCheckStarved (r : RegionId) (a : Fin 4) (s : State) : Host.Outcome State Fault Refusal :=
  let d := s.dev
  let c := d.conv r a
  s.done (
    if decide (c.idleAt + cyclesPerMs ≤ d.now) && !(d.convIdle r a && decide (c.freeAt + 80 ≤ d.now)) then
      ((d.setConv r a { c with idleAt := d.now }).orReg (rgnReg r + 0x1614) (2 ^ (8 + a.val))).raise
        Ev.ADC_CHECK_STARVED (scopeRgn r) 0
    else d)

/-! ### Sigma-delta inputs -/

def Dev.sd (d : Dev) (r n : Nat) : SdInput := Store.get (fun _ => SdInput.initial) d.sds (16 * r + n)
def Dev.setSd (d : Dev) (r n : Nat) (x : SdInput) : Dev :=
  { d with sds := Store.set (fun _ => SdInput.initial) d.sds (16 * r + n) x }
def sdBase (r n : Nat) : Nat := rgnReg r + 4 * n

/-- The divider of a modulator clock, and of an input's clock (R199). -/
def Dev.sdDiv (d : Dev) (r m : Nat) : Nat := if m = 0 then d.fld (rgnReg r) F.SD_CLK_div0 else d.fld (rgnReg r) F.SD_CLK_div1
def Dev.sdDivOf (d : Dev) (r n : Nat) : Nat := d.sdDiv r (d.fld (sdBase r n) F.SD_CFG_clk)

/-- One coefficient list convolved with a run of `n` ones. -/
def boxcar (n : Nat) (l : List Nat) : List Nat :=
  (List.range (l.length + n - 1)).map (fun i => ((List.range n).map (fun j => if j ≤ i then l.getD (i - j) 0 else 0)).sum)

/-- The sinc3 coefficients of ratio `n`: 3n − 2 of them, with sum n³ (R200). -/
def sinc3 (n : Nat) : List Nat := boxcar n (boxcar n (List.replicate n 1))

/-- The weight of the ones among the latest bits. -/
def weightOnes : List Nat → List Bool → Nat
  | c :: t, b :: u => (if b then c else 0) + weightOnes t u
  | _, _ => 0

/-- A density `ones / whole` as a Q15 value: all ones 0x7FFF, all zeros 0x8000, one half 0. The spec gives no rounding
between them (R200, R203). -/
def Dev.densityQ15 (d : Dev) (ones whole : Nat) : Int × Dev :=
  let q := d.someRound ((2 * (ones : Int) - whole) * 32768) whole
  ((satQ15 q.1).1, q.2)

/-- Whether the modulator clock of an input runs, and brings it bits (R199). -/
def Dev.sdRuns (d : Dev) (r n : Nat) : Bool :=
  d.flag (sdBase r n) F.SD_CFG_en &&
    bitOf (fget (d.reg (rgnReg r + 0x1200)) ⟨0, 16, 2⟩) (d.fld (sdBase r n) F.SD_CFG_clk)

/-- The modulator bits that an input has sampled by lane cycle `t` since its clock counts: one in each clock, `dly` lane cycles
after its edge (R199). DEDUCED: the first edge comes one clock after the start (assumption 93). -/
def Dev.sdEdges (d : Dev) (r n t : Nat) : Nat :=
  (t - (d.sd r n).since - d.fld (sdBase r n) F.SD_CFG_dly) / max 1 (d.sdDivOf r n)

/-- An input after one more bit: one level for 64 bits is a stuck pin; the bits of a good input count from its next change on
(R200, R204). -/
def SdInput.push (x : SdInput) (b : Bool) : SdInput :=
  let same := x.bits.head? == some b
  let run := if same then x.run + 1 else 1
  let stuck := decide (64 ≤ run)
  { x with
    taken := x.taken + 1, run := run, stuck := stuck, bits := (b :: x.bits).take 768
    entered := if stuck then 0 else x.entered + 1 }

/-- Whether the sinc1 value of an input reaches its threshold: |2 × ones − M| / M against thr as a Q15 value. DESIGN CHOICE: v is
not rounded before the comparison (R203, assumption 93). -/
def Dev.sdOver (d : Dev) (r n : Nat) : Bool :=
  let x := d.sd r n
  let m := d.fld (sdBase r n) F.SD_CFG_osr1
  let ones := (x.bits.take m).countP (fun b => b)
  let mag := if m ≤ 2 * ones then 2 * ones - m else m - 2 * ones
  d.flag (sdBase r n) F.SD_CFG_oc_en && decide (m ≤ x.bits.length) &&
    decide (d.fld (sdBase r n) F.SD_OC_thr * m ≤ mag * 32768)

/-- The sinc1 trip of an input after a bit: every masked leg that the present overcurrent has not tripped yet trips (R203, R205). -/
def Dev.sdTrip (d : Dev) (r n : Nat) : Dev :=
  let x := d.sd r n
  if d.sdOver r n then
    let mask := d.fld (sdBase r n) F.SD_OCMASK_legs
    let old := (x.tripped.getD 0).toNat
    let d1 := d.setSd r n { x with tripped := some (BitVec.ofNat 32 (old ||| mask)) }
    let d2 := if x.tripped.isSome then d1
      else (d1.orReg (rgnReg r + 0x1300) (2 ^ (16 + n))).raise Ev.SD_OVERCURRENT (scopeRgn r) n
    d2.each ((List.range 32).filter (fun j => bitOf mask j && !bitOf old j)) (fun j d => d.tripLeg (32 * r + j))
  else if x.tripped.isSome then d.setSd r n { x with tripped := none }
  else d

/-- One modulator bit enters an input (R200, R203, R204). -/
def Dev.sdBit (d : Dev) (r n : Nat) (b : Bool) : Dev :=
  let x := d.sd r n
  let d1 := d.setSd r n (x.push b)
  let d2 := if (x.push b).stuck && !x.stuck then (d1.orReg (rgnReg r + 0x1300) (2 ^ n)).raise Ev.SD_STUCK (scopeRgn r) 0 else d1
  d2.sdTrip r n

/-- `count` bits enter, the first first; where none is told the pin holds its level (R199, assumption 93). -/
def Dev.sdBits (d : Dev) (r n : Nat) : Nat → List Bool → Dev
  | 0, _ => d
  | k + 1, [] => (d.sdBit r n ((d.sd r n).bits.headD false)).sdBits r n k []
  | k + 1, b :: t => (d.sdBit r n b).sdBits r n k t

/-- The bits that are due by lane cycle `t` enter; the result is the rest of those told. -/
def Dev.sdTake (d : Dev) (r n t : Nat) (bits : List Bool) : Dev × List Bool :=
  if d.sdRuns r n then
    let k := d.sdEdges r n t - (d.sd r n).taken
    (d.sdBits r n k bits, bits.drop k)
  else (d, bits)

/-- The next decimation instant of an input: aligned, the sub-tick start of its block plus a multiple of N × div; else N × div
after the last (R201). -/
def Dev.sdInstant (d : Dev) (r n : Nat) : Nat :=
  let x := d.sd r n
  let step := max 1 (d.fld (sdBase r n) F.SD_CFG_osr * d.sdDivOf r n)
  if d.flag (sdBase r n) F.SD_CFG_align && !x.unaligned then
    let start := (d.lane (4 * r + d.fld (sdBase r n) F.SD_CFG_blk)).subStart
    if x.lastOut < start then start else start + ((x.lastOut - start) / step + 1) * step
  else x.lastOut + step

/-- The output of an input's decimators, 8 lane cycles after their instant: sinc3 with its fresh and valid bits and its count,
and sinc1. DESIGN CHOICE: a sinc1 word has the value in [15:0] and a fresh bit in [16] (R194, R200, R202, assumption 93). -/
def Dev.sdOutput (d : Dev) (r n at_ : Nat) : Dev :=
  let x := d.sd r n
  let osr := d.fld (sdBase r n) F.SD_CFG_osr
  let osr1 := d.fld (sdBase r n) F.SD_CFG_osr1
  let valid := !x.stuck && decide (3 * osr ≤ x.entered)
  let y := d.densityQ15 (weightOnes (sinc3 osr) x.bits) (osr * osr * osr)
  let z := y.2.densityQ15 ((x.bits.take osr1).countP (fun b => b)) osr1
  let count := (x.count + 1) % 256
  let d1 := z.2.setSd r n { x with count := count, lastOut := at_ }
  let d2 := d1.putIntake r (64 + n)
    (BitVec.ofNat 32 (pack [(lowBits 16 y.1, 16), (1, 1), (if valid then 1 else 0, 1), (0, 6), (count, 8)]))
  let d3 := d2.putIntake r (80 + n) (BitVec.ofNat 32 (pack [(lowBits 16 z.1, 16), (1, 1)]))
  if d.flag (sdBase r n) F.SD_CFG_cond then d3.condRegionNext r (2 ^ 4) else d3

/-- SD_DECIMATION_OUTPUT: a sinc3 output lands, with the sinc1 value of its instant. `bits` are the modulator bits since the last
ones told, the earliest first (R200 to R204). -/
def execSdDecimationOutput (r : RegionId) (n : Fin 16) (bits : List Bool) (s : State) : Host.Outcome State Fault Refusal :=
  let d := s.dev
  let t := d.sdInstant r n
  s.done (
    if d.sdRuns r n && decide (t + 8 ≤ d.now) then
      let x := d.sdTake r n t bits
      ((x.1.sdOutput r n t).sdTake r n d.now x.2).1
    else (d.sdTake r n d.now bits).1)

/-- SD_STUCK: modulator bits enter; a pin that holds one level for 64 of them is stuck (R204). -/
def execSdStuck (r : RegionId) (n : Fin 16) (bits : List Bool) (s : State) : Host.Outcome State Fault Refusal :=
  s.done (s.dev.sdTake r n s.dev.now bits).1

/-- SINC1_OVERCURRENT: modulator bits enter; a sinc1 value of the threshold's magnitude or more trips every masked leg (R203). -/
def execSinc1Overcurrent (r : RegionId) (n : Fin 16) (bits : List Bool) (s : State) : Host.Outcome State Fault Refusal :=
  s.done (s.dev.sdTake r n s.dev.now bits).1

/-- Whether the decimation of N modulator clocks of `div` lane cycles divides the sub-tick of a block (R201). -/
def Dev.aligns (d : Dev) (b osr div : Nat) : Bool := d.subLen b % (osr * div) == 0

/-- A write of SD_CFGn: refused where it sets align without divisibility; a change of osr, clk or dly of an enabled
input, and an enable, restart its decimators. DESIGN CHOICE: their output count restarts too (R200, R201, R205, assumption 93). -/
def Dev.writeSdCfg (d : Dev) (m : Master) (r n : Nat) (v : Word) : Dev :=
  let old := (d.reg (sdBase r n + 0x1240)).toNat
  let d1 := d.plainWrite m (sdBase r n + 0x1240) v
  let new := (d1.reg (sdBase r n + 0x1240)).toNat
  if bitOf new 2 && !d1.aligns (4 * r + bitsOf new 4 2) (bitsOf new 7 9) (d1.sdDiv r (bitsOf new 1 1)) then
    d.raise Ev.AFE_CFG_REFUSED (scopeRgn r) 0
  else
    let restart := bitOf new 0 && (!bitOf old 0 || bitsOf old 1 1 != bitsOf new 1 1 || bitsOf old 7 9 != bitsOf new 7 9 ||
      bitsOf old 16 3 != bitsOf new 16 3)
    let d2 := d1.setSd r n { d1.sd r n with unaligned := false }
    if restart then d2.setSd r n { SdInput.initial with since := d2.now, lastOut := d2.now } else d2

/-- SD_CFG_WRITE (R201, R205). -/
def execSdCfgWrite (m : Master) (r : RegionId) (n : Fin 16) (v : Word) (s : State) : Host.Outcome State Fault Refusal :=
  s.done (s.dev.writeSdCfg m r n v)

/-- A clock output that starts or stops: what its inputs have sampled is taken, and they count from now on (R199). -/
def Dev.sdClock (d : Dev) (r m : Nat) : Dev :=
  d.each ((List.range 16).filter (fun n => d.flag (sdBase r n) F.SD_CFG_en && d.fld (sdBase r n) F.SD_CFG_clk == m)) (fun n d =>
    let d1 := (d.sdTake r n d.now []).1
    d1.setSd r n { d1.sd r n with since := d1.now, taken := 0, lastOut := d1.now })

/-- A write of SD_CLK: refused where it changes the divider of a clock that an enabled input uses (R199). -/
def Dev.writeSdClk (d : Dev) (m : Master) (r : Nat) (v : Word) : Dev :=
  let d1 := d.plainWrite m (rgnReg r + 0x1200) v
  let used := fun (c : Nat) => (List.range 16).any (fun n =>
    d.flag (sdBase r n) F.SD_CFG_en && d.fld (sdBase r n) F.SD_CFG_clk == c)
  if [0, 1].any (fun c => used c && d.sdDiv r c != d1.sdDiv r c) then d.raise Ev.AFE_CFG_REFUSED (scopeRgn r) 0
  else
    let changed := [0, 1].filter (fun c => bitOf (d.reg (rgnReg r + 0x1200)).toNat (16 + c) != bitOf (d1.reg (rgnReg r + 0x1200)).toNat (16 + c))
    (d.each changed (fun c d => d.sdClock r c)).plainWrite m (rgnReg r + 0x1200) v

/-- SD_CLK_WRITE (R199). -/
def execSdClkWrite (m : Master) (r : RegionId) (v : Word) (s : State) : Host.Outcome State Fault Refusal :=
  s.done (s.dev.writeSdClk m r v)

/-- After a timing apply, an aligned input whose decimation no longer divides its sub-tick goes on unaligned (R201). -/
def Dev.checkAlign (d : Dev) : Dev :=
  d.each (List.range 64) (fun i d =>
    let r := i / 16
    let n := i % 16
    if d.flag (sdBase r n) F.SD_CFG_en && d.flag (sdBase r n) F.SD_CFG_align && !(d.sd r n).unaligned &&
        !d.aligns (4 * r + d.fld (sdBase r n) F.SD_CFG_blk) (d.fld (sdBase r n) F.SD_CFG_osr) (d.sdDivOf r n) then
      (d.setSd r n { d.sd r n with unaligned := true }).raise Ev.SD_ALIGN_LOST (scopeRgn r) 0
    else d)

/-! ### Window comparators -/

/-- Word 96 of the intake buffer: filtered outputs and latched outputs (R194). -/
def Dev.putWindows (d : Dev) (r : Nat) : Dev :=
  let bit := fun (n : Nat) =>
    (if d.flag (winBase r n) F.WIN_STAT_out then 2 ^ n else 0) + (if d.flag (winBase r n) F.WIN_STAT_latched then 2 ^ (16 + n) else 0)
  d.putIntake r 96 (BitVec.ofNat 32 ((List.range 16).map bit).sum)

/-- Whether the filtered output of a window comparator changes now: its raw output has held the other level for filt lane cycles
(R212). -/
def Dev.filterDone (d : Dev) (r n : Nat) : Bool :=
  match d.rawSince r n with
  | some t => decide (t + d.fld (winBase r n) F.WIN_CFG_filt ≤ d.now)
  | none => false

/-- The filtered output of a window comparator takes the level of its raw output: active, it sets the latch, the count, the event
and the condition bit (R212, R213). -/
def Dev.windowFollows (d : Dev) (r n : Nat) : Dev :=
  let on := d.raw r n
  let d0 := { d.setFld (winBase r n) F.WIN_STAT_out (flagBit on) with
    rawAt := Store.set (fun _ => none) d.rawAt (16 * r + n) none }
  if on then
    let d1 := (d0.latchFld (winBase r n) F.WIN_STAT_latched).bump (winBase r n) F.WIN_STAT_count
    let d1 := d1.noteCapture r (fun a => d1.fld a F.CAP_TRIG_src == 2 && d1.fld a F.CAP_TRIG_win == n)
    let d2 := (d1.putWindows r).raise Ev.WIN_TRIP (scopeRgn r) n
    if d2.flag (winBase r n) F.WIN_CFG_cond then d2.condRegionNext r (2 ^ 7) else d2
  else d0.putWindows r

/-- A W1C write of WIN_STAT clears latched only while the filtered output is inactive. DESIGN CHOICE: with latch = 1 as with
latch = 0 (R213, assumption 93). -/
def Dev.writeWinStat (d : Dev) (r n : Nat) (v : Word) : Dev :=
  if bitOf v.toNat 1 = true ∧ d.flag (winBase r n) F.WIN_STAT_out = false ∧ bitOf (d.setHere (winBase r n + 0x1408)) 1 = false then
    (d.setFld (winBase r n) F.WIN_STAT_latched 0).putWindows r
  else d

/-- At a valley of a leg, period latches of the window comparators that name it clear where the output is inactive
(R213). -/
def Dev.releaseWindows (d : Dev) (k : Nat) : Dev :=
  let r := k / 32
  let held := (List.range 16).filter (fun n =>
    d.flag (winBase r n) F.WIN_STAT_latched && d.flag (winBase r n) F.WIN_CFG_latch &&
      d.fld (winBase r n) F.WIN_CFG_leg == k % 32 && !d.flag (winBase r n) F.WIN_STAT_out)
  if held.isEmpty then d else (d.each held (fun n d => d.setFld (winBase r n) F.WIN_STAT_latched 0)).putWindows r

/-- Whether a bound readback failure of a unit's legs lasts (R40, R217, R340). -/
def Dev.readbackBad (d : Dev) (u : Nat) : Bool :=
  d.flag (4 * u) F.HSL_UFIN_rb_en && (d.unitLegs u).any (fun k =>
    Store.get (fun _ => false) d.rbBad (80 * (k / 32) + k % 32) || Store.get (fun _ => false) d.rbBad (80 * (k / 32) + 32 + k % 32))

/-- The unit fault that a failed readback of a leg's DAC makes (R217, R327, R340). -/
def Dev.readbackFault (d : Dev) (r n : Nat) : Dev :=
  if n < 64 then
    match d.owner (32 * r + n % 32) with
    | some u => if d.flag (4 * u) F.HSL_UFIN_rb_en then d.unitFault u 4 else d
    | none => d
  else d

/-- The readback of DAC `n` gives a code: a difference of more than 32 from 16 times its code in force is flagged; a DAC that has
just stepped is skipped (R217). -/
def Dev.readback (d : Dev) (r n code : Nat) : Dev :=
  let want := 16 * d.dacCode r n d.now
  let bad := !(decide (code ≤ want + 32) && decide (want ≤ code + 32))
  if d.dacFresh r n then d
  else
    let d1 := { d with rbBad := Store.set (fun _ => false) d.rbBad (80 * r + n) bad }
    if bad then
      let flagged := (d1.orReg (rgnReg r + 0x1608 + n / 32 * 4) (2 ^ (n % 32))).bump (rgnReg r) F.RGN_RB_STAT_fails
      ((flagged.raise Ev.DAC_READBACK (scopeRgn r) n).readbackFault r n).startupFail 5 (some r)
    else d1

/-- DAC_READBACK: in its background time ADC3 converts the DAC whose turn it is, after one check of channel 16 and one of channel
17; DAC 79 ends the pass (R192, R197, R217, R218). -/
def execDacReadback (r : RegionId) (uv : Nat) (s : State) : Host.Outcome State Fault Refusal :=
  let d := s.dev
  let c := d.conv r 3
  s.done (
    if d.backgroundDue r 3 && decide (2 ≤ c.turn) then
      let n := c.turn - 2
      let d1 := (d.setConv r 3 { c with
        freeAt := d.now, idleAt := d.now, turn := if n = 79 then 0 else c.turn + 1 }).readback r n (adcCode uv)
      if n = 79 then
        { d1.bumpWrap (rgnReg r) F.RGN_RB_STAT_passes with passAt := Store.set (fun _ => 0) d1.passAt r.val d1.now }
      else d1
    else d)

/-- DAC_RB_STARVED: no pass within the timeout (R218). -/
def execDacRbStarved (r : RegionId) (s : State) : Host.Outcome State Fault Refusal :=
  let d := s.dev
  s.done (
    if Store.get (fun _ => 0) d.passAt r.val + d.fld (rgnReg r) F.RGN_RB_CTRL_timeout * cyclesPerMs ≤ d.now then
      { d with passAt := Store.set (fun _ => 0) d.passAt r.val d.now }.raise Ev.DAC_RB_STARVED (scopeRgn r) 0
    else d)

end Sys2Proof.Machine
end

