-- ==== Sys2Proof/Machine/Operands.lean ====
section
/-! DEFINITION. The operand forms of lane operations: registers, pairs and quads, shift amounts, addresses, and the
exact arithmetic of the fused transforms (R124 to R129). -/

namespace Sys2Proof.Machine

/-! ### Registers -/

/-- A general register of a lane. -/
def Lane.gr (l : Lane) (r : GReg) : Word := Store.get (fun _ => 0) l.g r.val
/-- An accumulator. -/
def Lane.ac (l : Lane) (r : AReg) : Acc40 := Store.get (fun _ => 0) l.acc r.val
/-- The mantissas of a vector register. -/
def Lane.vmant (l : Lane) (r : VReg) : QWord := Store.get (fun _ => 0) l.vm r.val
/-- The exponent of a vector register. -/
def Lane.vexp (l : Lane) (r : VReg) : Byte := Store.get (fun _ => 0) l.ve r.val

/-- The first register of a pair: bit 0 of the field is cleared (R124). -/
def pairBase (r : GReg) : GReg := Fin.ofNat 32 (r.val / 2 * 2)
/-- The first register of a quad: bits [1:0] of the field are cleared (R124). -/
def quadBase (r : GReg) : GReg := Fin.ofNat 32 (r.val / 4 * 4)
/-- The n-th register from a register upwards, modulo 32 (R124). -/
def regPlus (r : GReg) (n : Nat) : GReg := Fin.ofNat 32 (r.val + n)

/-- The shift amount of SHL and SHRA (R125). -/
def Lane.shiftOf (l : Lane) : Shift → Nat
  | .imm n => n.toNat
  | .reg r => (l.gr r).toNat % 32

/-- The command a quad of general registers holds (R100). -/
def Lane.quad (l : Lane) (r : GReg) : QWord :=
  l.gr (regPlus (quadBase r) 3) ++ l.gr (regPlus (quadBase r) 2) ++ l.gr (regPlus (quadBase r) 1) ++ l.gr (quadBase r)

/-- A lane address: base register plus the scaled immediate (R129). -/
def Lane.address (l : Lane) (r : GReg) (imm : BitVec 11) (z : Nat) : Nat :=
  (l.gr r + BitVec.ofInt 32 (imm.toInt * z)).toNat

/-! ### Sine and cosine (R126) -/

/-- Pi times 2^60, rounded down. -/
def piFixed : Nat := 3622009729038561421

/-- The terms of a sine or cosine series: from the term `t` for power `n`, alternating, in units of 2^-60. -/
def seriesFrom (x2 : Int) : Nat → Nat → Int → Int
  | 0, _, _ => 0
  | k + 1, n, t => t + seriesFrom x2 k (n + 2) (-(t * x2 / 2 ^ 60 / ((n + 1) * (n + 2) : Nat)))

/-- Sine and cosine of a first-quadrant angle of a 2^30-step quarter turn, in units of 2^-40. -/
def quarterSin (x : Nat) : Int :=
  let a : Int := (x * piFixed / 2 ^ 31 : Nat)
  seriesFrom (a * a / 2 ^ 60) 14 1 a / 2 ^ 20
def quarterCos (x : Nat) : Int :=
  let a : Int := (x * piFixed / 2 ^ 31 : Nat)
  seriesFrom (a * a / 2 ^ 60) 14 0 (2 ^ 60) / 2 ^ 20

/-- The sine of an angle of which 2^32 is one turn, in units of 2^-40, exact to a few units. -/
def sinExact (w : Word) : Int :=
  match w.toNat / 2 ^ 30 with
  | 0 => quarterSin (w.toNat % 2 ^ 30)
  | 1 => quarterCos (w.toNat % 2 ^ 30)
  | 2 => -quarterSin (w.toNat % 2 ^ 30)
  | _ => -quarterCos (w.toNat % 2 ^ 30)

/-- The cosine. -/
def cosExact (w : Word) : Int := sinExact (w + 0x40000000)

/-- The lane's table values: within 2^-14 of the exact ones, and otherwise open (R126). The margin of 2^-30 covers the
error of the series. -/
def tableSin (w : Word) : Int := sinExact w + clampInt (-(2 ^ 26 - 2 ^ 10)) (2 ^ 26 - 2 ^ 10) (Config.sinError w)
def tableCos (w : Word) : Int := cosExact w + clampInt (-(2 ^ 26 - 2 ^ 10)) (2 ^ 26 - 2 ^ 10) (Config.cosError w)

/-- PARK of (α, β) at an angle (R126): both outputs and whether either saturated. -/
def parkOf (a b : Int) (w : Word) : Int × Int × Bool :=
  let s := tableSin w
  let c := tableCos w
  let x := satQ15 (roundShift (a * c + b * s) 40)
  let y := satQ15 (roundShift (b * c - a * s) 40)
  (x.1, y.1, x.2 || y.2)

/-- IPARK of (d, q) at an angle (R126). -/
def iparkOf (dd q : Int) (w : Word) : Int × Int × Bool :=
  let s := tableSin w
  let c := tableCos w
  let x := satQ15 (roundShift (dd * c - q * s) 40)
  let y := satQ15 (roundShift (dd * s + q * c) 40)
  (x.1, y.1, x.2 || y.2)

/-! ### Square root of three (R126, R127) -/

/-- n / √3 rounded to nearest; a tie cannot arise, because √3 is irrational. -/
def divSqrt3 (n : Int) : Int :=
  let m : Int := ((isqrt (4 * n.natAbs * n.natAbs / 3) + 1) / 2 : Nat)
  if n < 0 then -m else m

/-- CLARKE (R126). -/
def clarkeOf (ia ib : Int) : Int × Int × Bool :=
  let y := satQ15 (divSqrt3 (ia + 2 * ib))
  (ia, y.1, y.2)

/-- The largest integer not above q · √3. -/
def floorSqrt3 (q : Int) : Int :=
  let r : Int := (isqrt (3 * q.natAbs * q.natAbs) : Nat)
  if 0 ≤ q then r else -r - 1

/-- Whether p + q√3 ≤ p' + q'√3, decided exactly. -/
def leSqrt3 (x y : Int × Int) : Bool :=
  let p := y.1 - x.1
  let q := y.2 - x.2
  if 0 ≤ p ∧ 0 ≤ q then true
  else if p < 0 ∧ q < 0 then false
  else if 0 ≤ p then decide (3 * q * q ≤ p * p)
  else decide (p * p ≤ 3 * q * q)

/-- 16384 + (P + Q√3) / 4 rounded by R90. -/
def dutyRound (p q : Int) : Int :=
  if q = 0 then 16384 + roundDiv p 4 else 16384 + (p + floorSqrt3 q + 2) / 4

/-- The duties of SVPWM and whether any was clamped (R127). A voltage is held as twice (p + q√3). -/
def svpwmOf (va vb : Int) : List Int × Bool :=
  let a : Int × Int := (2 * va, 0)
  let b : Int × Int := (-va, vb)
  let c : Int × Int := (-va, -vb)
  let hi := let x := if leSqrt3 a b then b else a
            if leSqrt3 x c then c else x
  let lo := let x := if leSqrt3 a b then a else b
            if leSqrt3 x c then x else c
  let duty := fun (v : Int × Int) => dutyRound (2 * v.1 - hi.1 - lo.1) (2 * v.2 - hi.2 - lo.2)
  let ds := [duty a, duty b, duty c]
  (ds.map (clampInt 0 32767), ds.any (fun x => decide (x < 0 ∨ 32767 < x)))

end Sys2Proof.Machine
end

