-- ==== Sys2Proof/Machine/Feedback.lean ====
section
/-! DEFINITION. The feedback channels: quadrature, Hall, resolver and SSI sensors, speed, probes and feedback faults (R256 to
R282). -/

namespace Sys2Proof.Machine

/-! ### Shared -/

/-- Whether channel `f` of a region is enabled with sensor type `src` (R257). -/
def Dev.fbIs (d : Dev) (r f src : Nat) : Bool :=
  d.flag (fbBase r f) F.FB_CFG_en && d.fld (fbBase r f) F.FB_CFG_src == src

/-- The cause register of a channel (R277, R281). -/
def fbCause (r f : Nat) : CauseReg := ⟨fbBase r f + 0x1C38, 8, 3, 15, some 4, 1⟩

/-- A feedback fault: latched, raised, valid falls, a bound unit takes its fault input (R277, R278). -/
def Dev.fbFault (d : Dev) (r f bit : Nat) : Dev :=
  let d1 := (d.latchCause (fbCause r f) bit).raise Ev.FEEDBACK_FAULT (scopeRgn r) 0
  let d2 := d1.setFb r f { d1.fb r f with valid := false }
  if d2.flag (fbBase r f) F.FB_BIND_en then d2.unitFault (d2.fld (fbBase r f) F.FB_BIND_unit) 3 else d2

/-- Note whether the condition of a channel's cause bit holds (R277). -/
def Dev.fbLive (d : Dev) (r f bit : Nat) (on : Bool) : Dev := d.setLive (fbBase r f + 0x1C38) (2 ^ bit) on

/-- The lines per turn in force: a write takes effect in the next lane cycle (R261). -/
def Dev.linesOf (d : Dev) (r f : Nat) : Nat :=
  match (d.fb r f).linesOld with
  | some (n, t) => if d.now ≤ t then n else d.fld (fbBase r f) F.FB_QEP_lines
  | none => d.fld (fbBase r f) F.FB_QEP_lines

/-- Counts per turn of a quadrature channel (R261). -/
def Dev.qepCounts (d : Dev) (r f : Nat) : Nat := 4 * d.linesOf r f

/-- The edges of one turn: 4L, or 6 for Hall (R273). -/
def Dev.edgesPerTurn (d : Dev) (r f : Nat) : Nat := if d.fld (fbBase r f) F.FB_CFG_src = 1 then 6 else d.qepCounts r f

/-! ### Speed (R273, R274) -/

/-- The span in lane cycles of the last `m` edges. -/
def edgeSpan (edges : List Nat) (m : Nat) : Nat := edges.headD 0 - edges.getD m 0

/-- M: the smallest power of 2 up to 64 whose span reaches 2 µs, else 64, at most the number of edges since the reversal;
0 without one. -/
def chooseM (edges : List Nat) : Nat :=
  let n := edges.length - 1
  let powers := [1, 2, 4, 8, 16, 32, 64].filter (fun m => decide (m ≤ n))
  match powers.find? (fun m => decide (1600 ≤ edgeSpan edges m)) with
  | some m => m
  | none => powers.getLastD 0

/-- The M code of status: k = 1 to 7 for M = 2^(k − 1), 0 for M = 0 (R259). -/
def codeOfM (m : Nat) : Nat := if m = 0 then 0 else m.log2 + 1

/-- The measured magnitude in 2^-32 turns per µs (R273). -/
def Dev.measuredSpeed (d : Dev) (r f : Nat) : Int :=
  let x := d.fb r f
  let m := chooseM x.edges
  if m = 0 then 0 else roundDiv ((m * 2 ^ 32 * 800 : Nat) : Int) ((d.edgesPerTurn r f * max 1 (edgeSpan x.edges m) : Nat) : Int)

/-- The published magnitude: at most Δ / τ, and 0 with status zero (R274). -/
def Dev.edgeSpeed (d : Dev) (r f : Nat) : Int :=
  let x := d.fb r f
  let tau := d.now - x.lastEdge
  if x.zero then 0
  else if tau = 0 then d.measuredSpeed r f
  else min (d.measuredSpeed r f) (roundDiv ((2 ^ 32 * 800 : Nat) : Int) ((d.edgesPerTurn r f * tau : Nat) : Int))

/-- The same with the sign of the direction; while a Hall state is invalid the value held (R266, R273). -/
def Dev.signedSpeed (d : Dev) (r f : Nat) : Int :=
  let x := d.fb r f
  if x.hold then x.heldSpeed else if x.up then d.edgeSpeed r f else -d.edgeSpeed r f

/-- A counted edge with its time stamp, which joins those since the last reversal (R257, R273). -/
def Dev.countEdge (d : Dev) (r f : Nat) (up : Bool) (t : Nat) (ns : DWord) : Dev :=
  let x := d.fb r f
  let edges := if x.edges.isEmpty ∨ x.up = up then (t :: x.edges).take 65 else [t]
  d.setFb r f { x with up := up, edges := edges, lastEdge := t, edgeNs := ns.setWidth 32, zero := false }

/-! ### Angles -/

/-- ⌊n × 2^32 / m⌋ of a turn. -/
def turnPart (n m : Nat) : Nat := n * 2 ^ 32 / m

/-- An angle in units of 1/800 of 2^-32 turns, by which a speed word counts lane cycles, and back. -/
def fineOf (n m : Nat) : Nat := turnPart n m * 800
def ofFine (x : Nat) : Nat := x / 800 % 2 ^ 32

/-- The Hall angle, before the offset (R265, R266). -/
def Dev.hallAngle (d : Dev) (r f : Nat) : Nat := ofFine (d.fb r f).fine

/-- Turns after the angle word has moved from `a` to `b` by less than half a turn (R259). -/
def turnsAfter (turns : Int) (a b : Nat) : Int := turns + ((a : Int) + signed 32 (2 ^ 32 + b - a)) / 2 ^ 32

/-- Word +0 of a Hall channel for a Hall angle (R259, R260). -/
def Dev.hallWord (d : Dev) (r f x : Nat) : Nat := (ofFine x + d.fld (fbBase r f) F.FB_OFS_offset) % 2 ^ 32

/-- The Hall angle moves; a wrap of word +0 counts a turn (R259). -/
def Dev.moveHall (d : Dev) (r f v : Nat) : Dev :=
  let x := d.fb r f
  d.setFb r f { x with fine := v, turns := turnsAfter x.turns (d.hallWord r f x.fine) (d.hallWord r f v) }

/-- One lane cycle of interpolation: the Hall angle advances by the present speed, within its sector (R265). -/
def Dev.hallAdvance (d : Dev) (r f : Nat) : Dev :=
  let x := d.fb r f
  match x.sector with
  | some k =>
    if x.hold || !d.flag (fbBase r f) F.FB_HALL_interp || x.edges.isEmpty then d
    else
      let v := (d.edgeSpeed r f).toNat
      let new := if x.up then min (x.fine + v) (fineOf (k + 1) 6) else max (x.fine - v) (fineOf k 6)
      if new = x.fine then d else d.moveHall r f new
  | none => d

/-- The last good SSI position: turns × 2^32 + angle. -/
def FbChan.ssiPos (x : FbChan) : Int := match x.good with | some (p, _) => p | none => 0

/-- The observer's position now, in units of 1/800 of 2^-32 turns from the turn of its last update: it advances every lane cycle by
the speed (R270). -/
def Dev.observerAt (d : Dev) (r f : Nat) : Int :=
  let x := d.fb r f
  x.phi + x.omega.toInt * ((d.now - x.phiAt : Nat) : Int)

/-- The observer's angle now. -/
def Dev.observerAngle (d : Dev) (r f : Nat) : Word := BitVec.ofInt 32 (d.observerAt r f / 800)

/-- The mechanical angle of a channel, live (R259 to R261, R270, R271). -/
def Dev.fbAngle (d : Dev) (r f : Nat) : Word :=
  let x := d.fb r f
  match d.fld (fbBase r f) F.FB_CFG_src with
  | 0 => BitVec.ofNat 32 (turnPart (x.count % (d.qepCounts r f : Int)).toNat (d.qepCounts r f))
  | 1 => BitVec.ofNat 32 (d.hallWord r f x.fine)
  | 2 => d.observerAngle r f
  | _ => BitVec.ofInt 32 x.ssiPos

/-- The electrical angle: (θm × pp + offset) mod 2^32; for Hall the angle itself (R260). -/
def Dev.fbElectrical (d : Dev) (r f : Nat) : Word :=
  if d.fld (fbBase r f) F.FB_CFG_src = 1 then d.fbAngle r f
  else BitVec.ofNat 32 ((d.fbAngle r f).toNat * d.fld (fbBase r f) F.FB_CFG_pp + d.fld (fbBase r f) F.FB_OFS_offset)

/-- Turns, live (R259, R261, R271). -/
def Dev.fbTurns (d : Dev) (r f : Nat) : Word :=
  let x := d.fb r f
  match d.fld (fbBase r f) F.FB_CFG_src with
  | 0 => BitVec.ofInt 32 (x.count / (d.qepCounts r f : Int))
  | 1 => BitVec.ofInt 32 x.turns
  | 2 => BitVec.ofInt 32 (x.turns + d.observerAt r f / 800 / 2 ^ 32)
  | _ => BitVec.ofInt 32 (x.ssiPos / 2 ^ 32)

/-- The SSI speed: the change of position over the time between the last two good samples (R275). -/
def Dev.ssiSpeed (d : Dev) (r f : Nat) : Int × Dev :=
  match (d.fb r f).good, (d.fb r f).before with
  | some (p, t), some (p0, t0) => if t0 < t ∧ (d.fb r f).zero = false then d.someRound ((p - p0) * 800) (t - t0 : Nat) else (0, d)
  | _, _ => (0, d)

/-- The signed speed of a channel (R273 to R275). -/
def Dev.fbSpeed (d : Dev) (r f : Nat) : Word × Dev :=
  match d.fld (fbBase r f) F.FB_CFG_src with
  | 2 => ((d.fb r f).omega, d)
  | 3 => (BitVec.ofInt 32 (d.ssiSpeed r f).1, (d.ssiSpeed r f).2)
  | _ => (BitVec.ofInt 32 (d.signedSpeed r f), d)

/-! ### Samples -/

/-- The filtered Hall state U + 2V + 4W (R264). -/
def FbChan.hall (x : FbChan) : Nat := flagBit x.pinA.out + 2 * flagBit x.pinB.out + 4 * flagBit x.pinZ.out

/-- The first word of a channel in the intake buffer (R259). -/
def fbWord (f : Nat) : Nat := 128 + 32 * f

/-- Whether probe latch `slot` of a channel is new (R259, R276). -/
def Dev.probeNew (d : Dev) (r f slot : Nat) : Bool :=
  [0, 1].any (fun q => d.flag (rgnReg r + 0x20 * q) F.PRB_STAT_new && d.fld (rgnReg r + 0x20 * q) F.PRB_CFG_ch == f &&
    d.fld (rgnReg r + 0x20 * q) F.PRB_CFG_slot == slot)

/-- The status word of a channel (R259). The sense of dir is not stated. -/
def Dev.fbStatus (d : Dev) (r f : Nat) : Word :=
  let x := d.fb r f
  let src := d.fld (fbBase r f) F.FB_CFG_src
  let bit := fun (c : Bool) => (if c then 1 else 0 : Nat)
  BitVec.ofNat 32 (pack [(bit x.valid, 1), (bit (d.fld (fbBase r f) F.FB_FAULT_cause != 0), 1), (bit x.zero, 1),
    (bit (x.up == Config.dirSense), 1), (if src < 2 then codeOfM (chooseM x.edges) else 0, 3), (0, 1),
    (if src = 1 then x.hall else 0, 3), (0, 5), (1, 1), (bit (d.probeNew r f 0), 1), (bit (d.probeNew r f 1), 1),
    (0, 5), (x.samples, 8)])

/-- Let an intake word land in a later lane cycle; landings keep their order. -/
def Dev.landAt (d : Dev) (due r w : Nat) (v : Word) (cond : Nat) : Dev :=
  { d with landings := d.landings ++ [⟨due, r, w, v, BitVec.ofNat 32 cond⟩] }

/-- Word +6 of a sample: the quadrature counter or the SSI position bits; that of a resolver is written by its conversions (R259). -/
def Dev.rawWord (d : Dev) (r f : Nat) : Option Word :=
  match d.fld (fbBase r f) F.FB_CFG_src with
  | 0 => some (BitVec.ofInt 32 (d.fb r f).count)
  | 3 => some ((d.fb r f).bits.setWidth 32)
  | _ => none

/-- The latched words of a sample land 4 lane cycles later, the status word with the condition bit of the channel (R258). -/
def Dev.landSample (d : Dev) (r f : Nat) : Dev :=
  let sp := d.fbSpeed r f
  let d1 := sp.2
  let due := d1.now + 4
  let w := fbWord f
  let d2 := ((((d1.landAt due r w (d1.fbAngle r f) 0).landAt due r (w + 1) (d1.fbElectrical r f) 0).landAt due r (w + 2) sp.1 0).landAt
    due r (w + 3) (d1.fbTurns r f) 0).landAt due r (w + 5) (d1.fb r f).edgeNs 0
  let d3 := match d1.rawWord r f with
    | some v => d2.landAt due r (w + 6) v 0
    | none => d2
  d3.landAt due r (w + 4) (d1.fbStatus r f) (2 ^ (5 + f))

/-- A sample is counted and latched. -/
def Dev.latchSample (d : Dev) (r f : Nat) : Dev :=
  let x := d.fb r f
  (d.setFb r f { x with samples := (x.samples + 1) % 256, sampledAt := d.now + 1 }).landSample r f

/-- A sample of the lane cycle that ends includes the edges, corrections and offsets of that cycle (R280). -/
def Dev.sampleAgain (d : Dev) (r f : Nat) : Dev :=
  if (d.fb r f).sampledAt = d.now + 1 then
    let mine := fun (x : Landing) => decide (x.due = d.now + 4 ∧ x.region = r ∧ fbWord f ≤ x.word ∧ x.word < fbWord f + 8)
    { d with landings := d.landings.filter (fun x => !mine x) }.landSample r f
  else d

/-- A good sample makes the channel valid once every cause bit is cleared (R260, R277). -/
def Dev.goodSample (d : Dev) (r f : Nat) : Dev :=
  if d.fld (fbBase r f) F.FB_FAULT_cause = 0 then d.setFb r f { d.fb r f with valid := true } else d

/-- An invalid Hall state at a sample instant: angle and speed hold their values, and four in a row are a feedback fault (R266). -/
def Dev.hallInvalid (d : Dev) (r f : Nat) : Dev :=
  let x := d.fb r f
  let d1 := (d.bump (fbBase r f) F.FB_ERR_A_hall_inv).raise Ev.HALL_INVALID (scopeRgn r) 0
  let d2 := d1.setFb r f { d1.fb r f with hold := true, heldSpeed := d.signedSpeed r f, hallBad := x.hallBad + 1 }
  if 4 ≤ x.hallBad + 1 then (d2.fbLive r f 0 true).fbFault r f 0 else d2

/-- The start of an SSI frame: at the instant, but not before the monoflop time of the last one is over (R271, R474). -/
def Dev.startFrame (d : Dev) (r f : Nat) : Dev :=
  let x := d.fb r f
  if x.frame.isSome then d.raise Ev.SSI_BUSY (scopeRgn r) 0
  else d.setFb r f { x with frame := some (d.now, max d.now x.nextFrame) }

/-- FB_SAMPLE: the channel latches its position and speed, or starts an SSI frame (R258, R266, R271). -/
def execFbSample (r : RegionId) (f : Fin 2) (s : State) : Host.Outcome State Fault Refusal :=
  let d0 := s.dev
  s.done (
    if (d0.fb r f).trig = false then d0
    else
      let d := d0.setFb r f { d0.fb r f with trig := false }
      let x := d.fb r f
      if d.flag (fbBase r f) F.FB_CFG_en = false then d
      else
        match d.fld (fbBase r f) F.FB_CFG_src with
        | 0 => (d.goodSample r f).latchSample r f
        | 1 =>
          if x.hall = 0 ∨ x.hall = 7 then (d.hallInvalid r f).latchSample r f
          else (((d.setFb r f { x with hallBad := 0, hold := false }).fbLive r f 0 false).goodSample r f).latchSample r f
        | 2 => (if x.paired then d.goodSample r f else d).latchSample r f
        | _ => d.startFrame r f)

/-! ### Pins and their filters (R257) -/

/-- Whether the filter of a pin of a channel completes now. -/
def Dev.fbPasses (d : Dev) (r f : Nat) : Bool :=
  let x := d.fb r f
  let filt := d.fld (fbBase r f) F.FB_CFG_filt
  x.pinA.passes d.now filt || x.pinB.passes d.now filt || x.pinZ.passes d.now filt

/-- Levels seen at the three pins of a channel. -/
def Dev.seeFb (d : Dev) (r f : Nat) (a b z : Bool) : Dev :=
  let x := d.fb r f
  d.setFb r f { x with
    pinA := x.pinA.see d.now d.ns a, pinB := x.pinB.see d.now d.ns b, pinZ := x.pinZ.see d.now d.ns z }

/-! ### Quadrature -/

/-- The direction of a quadrature edge: up where A leads B (R261). -/
def qepUp (a0 a b : Bool) : Bool := if a0 != a then a != b else a == b

/-- The filtered levels of A and B were `a0` and `b0`. One edge counts; two in one lane cycle are illegal, and the fourth illegal
transition within 1 ms is a feedback fault (R261, R262). -/
def Dev.qepMoves (d : Dev) (r f : Nat) (a0 b0 : Bool) : Dev :=
  let x := d.fb r f
  let a := x.pinA.out
  let b := x.pinB.out
  if a0 = a ∧ b0 = b then d
  else if a0 ≠ a ∧ b0 ≠ b then
    let recent := d.now :: x.illegalAt.filter (fun t => decide (d.now < t + cyclesPerMs))
    let d2 := ((d.setFb r f { x with illegalAt := recent }).bump (fbBase r f) F.FB_ERR_B_qep_ill).raise
      Ev.QEP_ILLEGAL (scopeRgn r) 0
    if 4 ≤ recent.length then d2.fbFault r f 1 else d2
  else
    let up := qepUp a0 a b != d.flag (fbBase r f) F.FB_QEP_dir
    let pin := if a0 ≠ a then x.pinA else x.pinB
    (d.setFb r f { x with count := if up then x.count + 1 else x.count - 1 }).countEdge r f up pin.since pin.ns

/-- The multiple of `m` nearest to a count. -/
def nearestMultiple (x m : Int) : Int := (2 * x + m) / (2 * m) * m

/-- An index acts by idx_mode; in mode 3 an index beyond the tolerance corrects the count (R263). -/
def Dev.qepIndex (d : Dev) (r f : Nat) : Dev :=
  let x := d.fb r f
  let mode := d.fld (fbBase r f) F.FB_QEP_idx_mode
  let near := nearestMultiple x.count (d.qepCounts r f)
  if mode = 0 ∨ (d.flag (fbBase r f) F.FB_QEP_idx_gate = true ∧ (x.pinA.out && x.pinB.out) = false) then d
  else
    let d1 := d.setFld (fbBase r f) F.FB_IDX_AT_at (lowBits 32 x.count)
    if mode = 1 then d1.setFb r f { x with indexed := true }
    else if x.indexed = false then d1.setFb r f { x with indexed := true, count := 0 }
    else if (d.fld (fbBase r f) F.FB_IDX_tol : Int) < (x.count - near).natAbs then
      let d2 := if mode = 3 then d1.setFb r f { x with count := near } else d1
      (d2.bump (fbBase r f) F.FB_ERR_B_qep_idx).raise Ev.QEP_INDEX (scopeRgn r) 0
    else d1

/-! ### Hall -/

/-- The sector index the map gives a state (R264). -/
def Dev.hallSector (d : Dev) (r f : Nat) (st : BitVec 3) : Nat :=
  bitsOf (d.fld (fbBase r f) F.FB_HALL_map) (3 * st.toNat - 3) 3

/-- Enter a sector by one step: the start angle upwards, the end angle downwards, without interpolation its centre (R265). -/
def Dev.enterSector (d : Dev) (r f k : Nat) (up : Bool) : Dev :=
  let v := if !d.flag (fbBase r f) F.FB_HALL_interp then fineOf (2 * k + 1) 12 else fineOf (if up then k else k + 1) 6
  let d1 := d.moveHall r f v
  d1.setFb r f { d1.fb r f with sector := some k, hold := false, up := up }

/-- Jump to the centre of a sector; the speed measurement restarts (R265). -/
def Dev.jumpSector (d : Dev) (r f k : Nat) : Dev :=
  let d1 := if (d.fb r f).sector.isSome then d.moveHall r f (fineOf (2 * k + 1) 12)
    else d.setFb r f { d.fb r f with fine := fineOf (2 * k + 1) 12 }
  d1.setFb r f { d1.fb r f with sector := some k, hold := false, edges := [] }

/-- The filtered Hall state was `st0`: a valid state sets the sector; one that is not adjacent is a skip; transitions into and out
of 000 and 111 are no edges (R264 to R266). -/
def Dev.hallMoves (d : Dev) (r f st0 t : Nat) (ns : DWord) : Dev :=
  let x := d.fb r f
  let st := x.hall
  if st = st0 ∨ st = 0 ∨ st = 7 then d
  else
    let k := d.hallSector r f (BitVec.ofNat 3 st)
    let counted : Bool := st0 != 0 && st0 != 7
    match x.sector with
    | none => d.jumpSector r f k
    | some k0 =>
      if k = k0 then d.setFb r f { x with hold := false }
      else if k = (k0 + 1) % 6 ∨ k0 = (k + 1) % 6 then
        let up := decide (k = (k0 + 1) % 6)
        if counted then (d.countEdge r f up t ns).enterSector r f k up else d.enterSector r f k up
      else ((d.jumpSector r f k).bump (fbBase r f) F.FB_ERR_A_hall_skip).raise Ev.HALL_SKIP (scopeRgn r) 0

/-- The filters of a channel's pins are served, and what passes acts by the sensor type (R257, R261 to R266). -/
def Dev.fbFilter (d : Dev) (r f : Nat) : Dev :=
  let x := d.fb r f
  let filt := d.fld (fbBase r f) F.FB_CFG_filt
  let d1 := d.setFb r f { x with
    pinA := x.pinA.served d.now filt, pinB := x.pinB.served d.now filt, pinZ := x.pinZ.served d.now filt }
  if d.fbIs r f 0 then
    let d2 := d1.qepMoves r f x.pinA.out x.pinB.out
    if x.pinZ.out = false ∧ (d2.fb r f).pinZ.out = true then d2.qepIndex r f else d2
  else if d.fbIs r f 1 then
    let last := [x.pinA, x.pinB, x.pinZ].foldl (fun (y : FbPin) p => if p.passes d.now filt ∧ y.since ≤ p.since then p else y) FbPin.initial
    d1.hallMoves r f x.hall last.since last.ns
  else d1

/-- QEP_EDGE: the levels at A and B become `a` and `b`; what passes the filter counts (R257, R261, R262). -/
def execQepEdge (r : RegionId) (f : Fin 2) (a b : Bool) (s : State) : Host.Outcome State Fault Refusal :=
  s.done ((s.dev.seeFb r f a b (s.dev.fb r f).pinZ.level).fbFilter r f)

/-- INDEX_EDGE: the level at Z becomes `z`; a rise that passes the filter is an index (R257, R263). -/
def execIndexEdge (r : RegionId) (f : Fin 2) (z : Bool) (s : State) : Host.Outcome State Fault Refusal :=
  s.done ((s.dev.seeFb r f (s.dev.fb r f).pinA.level (s.dev.fb r f).pinB.level z).fbFilter r f)

/-- HALL_STATE_CHANGE: the levels at U, V and W become the bits of `st`; what passes the filter forms the state (R257, R264 to
R266). -/
def execHallStateChange (r : RegionId) (f : Fin 2) (st : BitVec 3) (s : State) : Host.Outcome State Fault Refusal :=
  s.done ((s.dev.seeFb r f (st.getLsbD 0) (st.getLsbD 1) (st.getLsbD 2)).fbFilter r f)

/-! ### Resolver -/

/-- The voltage at FBn_EXC in µV: a sine about 1.536 V, updated every 8 lane cycles; without excitation its centre (R256, R267). -/
def Dev.excitation (d : Dev) (r f : Nat) : Int :=
  if d.flag (fbBase r f) F.RES_EXC_run then
    let t := (d.now - (d.fb r f).excAt) / 8 * 8 % (2 * max 1 (d.fld (fbBase r f) F.RES_EXC_half))
    1536000 + d.fld (fbBase r f) F.RES_EXC_amp * 3000 *
      sinExact (BitVec.ofNat 32 (turnPart t (2 * max 1 (d.fld (fbBase r f) F.RES_EXC_half)))) / 2 ^ 40
  else 1536000

/-- The kind of the excitation's peak in this lane cycle: a positive one a quarter of the period after its start, a negative one half
a period later (R267, R268). -/
def Dev.excPeak (d : Dev) (r f : Nat) : Option Bool :=
  let half := max 1 (d.fld (fbBase r f) F.RES_EXC_half)
  let t := (d.now - (d.fb r f).excAt) % (2 * half)
  if d.fbIs r f 2 = false ∨ d.flag (fbBase r f) F.RES_EXC_run = false then none
  else if t = half / 2 then some true else if t = half + half / 2 then some false else none

/-- RES_PEAK_TRIGGER: a peak of the excitation triggers SEQ1 of both converters, `phase` lane cycles later; a lost trigger
costs the pair (R268, R269). -/
def execResPeakTrigger (r : RegionId) (f : Fin 2) (positive : Bool) (s : State) : Host.Outcome State Fault Refusal :=
  let d := s.dev
  let a := d.fld (fbBase r f) F.RES_CFG_adc_s
  let c := d.fld (fbBase r f) F.RES_CFG_adc_c
  let delay := d.fld (fbBase r f) F.RES_CFG_phase
  let x := d.fb r f
  s.done (
    if d.excPeak r f = some positive ∧ x.peakAt ≠ d.now + 1 then
      let lost := (d.seq r a 1).phase != .idle || (d.seq r c 1).phase != .idle
      let d1 := d.setFb r f { x with positive := positive, skip := x.skip || lost, peakAt := d.now + 1 }
      (d1.startWait r a 1 delay).startWait r c 1 delay
    else d)

/-- Count a run of pairs: its third is a feedback fault. -/
def Dev.runFault (d : Dev) (r f bit run : Nat) : Dev :=
  if 3 ≤ run then (d.fbLive r f bit true).fbFault r f bit else d.fbLive r f bit false

/-- The amplitude √(s² + c²), and |e| / a in 0.1°, of a pair at observer angle φ; neither has a rounding rule (R270). -/
def Dev.pairMonitor (d : Dev) (sv cv : Int) (phi : Word) : Nat × Nat × Dev :=
  let q := (sv * sv + cv * cv).toNat
  let root := isqrt q
  let a := if root * root = q ∨ Config.freeBool d.free = false then root else root + 1
  let d1 := if root * root = q then d else { d with free := d.free + 1 }
  let e := (sv * cosExact phi - cv * sinExact phi).natAbs
  let t := d1.someRound ((e * 1800 * 2 ^ 20 : Nat) : Int) ((max 1 a * piFixed : Nat) : Int)
  (a, t.1.toNat, t.2)

/-- The correction that an error e, in units of 2^-40, makes to the observer's angle, in units of 1/800 of 2^-32 turns, and to its
speed: with ω_n = 2π bw, ζ = 0.707 and the pair's period T, 2ζω_n T e/a of angle and ω_n² T e/a of speed. DESIGN CHOICE: one Euler
step a pair, with the error over the amplitude (R270, assumption 94). -/
def Dev.observerGain (d : Dev) (r f : Nat) (e : Int) (a : Nat) : Int × Int × Dev :=
  let bw := d.fld (fbBase r f) F.RES_LOOP_bw
  let t := 2 * d.fld (fbBase r f) F.RES_EXC_half
  let x := d.someRound (1414 * bw * t * e * 2 ^ 32) (10 ^ 6 * (max 1 a : Nat) * 1000 * 2 ^ 40)
  let y := x.2.someRound (2 * piFixed * bw * bw * t * e * 2 ^ 32) (2 ^ 60 * (8 * 10 ^ 14) * (max 1 a : Nat) * 2 ^ 40)
  (x.1, y.1, y.2)

/-- The observer's update by a pair (s, c) with its error e and amplitude a (R270). -/
def Dev.observe (d : Dev) (r f : Nat) (e : Int) (a : Nat) : Dev :=
  let g := d.observerGain r f e a
  let x := g.2.2.fb r f
  let pos := d.observerAt r f + g.1
  let turn : Int := 800 * 2 ^ 32
  g.2.2.setFb r f { x with
    phi := (pos % turn).toNat, turns := x.turns + pos / turn, phiAt := d.now, omega := BitVec.ofInt 32 (x.omega.toInt + g.2.1) }

/-- Whether the pair of an excitation period is complete, or is to be skipped at the period's end (R269). -/
def Dev.pairDue (d : Dev) (r f : Nat) : Bool :=
  let x := d.fb r f
  d.fbIs r f 2 && (if x.skip then d.excPeak r f == some true && x.peakAt != d.now + 1
    else x.posS.isSome && x.negS.isSome && x.posC.isSome && x.negC.isSome)

/-- RES_PAIR: the samples of one excitation period form a pair for the observer, or it is skipped and the observer coasts (R269,
R270). -/
def execResPair (r : RegionId) (f : Fin 2) (s : State) : Host.Outcome State Fault Refusal :=
  let d := s.dev
  let x := d.fb r f
  let clear := { x with posS := none, negS := none, posC := none, negC := none, skip := false }
  s.done (
    if d.pairDue r f = false then d
    else if x.skip then
      let d1 := (d.setFb r f { clear with skips := x.skips + 1 }).bump (fbBase r f) F.FB_ERR_C_res_skip
      d1.runFault r f 4 (x.skips + 1)
    else
      let sv := d.someRound (x.posS.getD 0 - x.negS.getD 0) 2
      let cv := sv.2.someRound (x.posC.getD 0 - x.negC.getD 0) 2
      let phi := d.observerAngle r f
      let m := cv.2.pairMonitor sv.1 cv.1 phi
      let a := min m.1 0xFFFF
      let los := decide (a < d.fld (fbBase r f) F.RES_LIM_amp_lo ∨ d.fld (fbBase r f) F.RES_LIM_amp_hi < a)
      let trk := decide (d.fld (fbBase r f) F.RES_LOOP_trk < m.2.1)
      let losRun := if los then x.losRun + 1 else 0
      let trkRun := if trk then x.trkRun + 1 else 0
      let d1 := (m.2.2.setFb r f { clear with skips := 0, paired := true, losRun := losRun, trkRun := trkRun }).observe r f
        (sv.1 * cosExact phi - cv.1 * sinExact phi) m.1
      let d2 := ((d1.setFld (fbBase r f) F.RES_MON_amp a).setFld (fbBase r f) F.RES_MON_err (min m.2.1 0xFFFF)).fbLive r f 4 false
      (d2.runFault r f 2 losRun).runFault r f 3 trkRun)

/-! ### SSI -/

/-- A Gray-coded number of up to `n + 1` bits as a binary one. -/
def fromGray : Nat → Nat → Nat
  | 0, v => v
  | n + 1, v => fromGray n (v ^^^ (v / 2 ^ (2 ^ n)))

/-- The position of a frame of bits, the first bit first: turns × 2^32 + angle, from mt multi-turn bits above st single-turn bits
(R271). -/
def Dev.ssiPosition (d : Dev) (r f : Nat) (bits : List Bool) : Int :=
  let st := d.fld (fbBase r f) F.FB_SSI_st + 1
  let mt := d.fld (fbBase r f) F.FB_SSI_mt
  let raw := (bits.take (st + mt)).foldl (fun n b => 2 * n + flagBit b) 0
  let v := if d.flag (fbBase r f) F.FB_SSI_gray then fromGray 6 raw else raw
  (if mt = 0 then 0 else signed mt (v / 2 ^ st)) * 2 ^ 32 + (v % 2 ^ st * 2 ^ (32 - st) : Nat)

/-- The first address of an SSI port's registers (R461). -/
def ssiReg (port : Nat) : Nat := portReg (16 + port)

/-- The clock period of a channel's SSI port in lane cycles (R474). -/
def Dev.ssiClock (d : Dev) (r f : Nat) : Nat := 2 * d.fld (ssiReg (d.fld (fbBase r f) F.FB_SSI_port)) F.SSI_CFG_div

/-- The lane cycle in which a frame that started at `start` has been read: b + 1 clocks, and dcomp lane cycles (R474). -/
def Dev.frameEnd (d : Dev) (r f start : Nat) : Nat :=
  start + (d.fld (fbBase r f) F.FB_SSI_bits + 1) * d.ssiClock r f + d.fld (ssiReg (d.fld (fbBase r f) F.FB_SSI_port)) F.SSI_CFG_dcomp

/-- `n` samples of a line: those told, and free ones where none is. -/
def Dev.lineSamples (d : Dev) : Nat → List Bool → List Bool × Dev
  | 0, _ => ([], d)
  | n + 1, b :: t => let x := d.lineSamples n t; (b :: x.1, x.2)
  | n + 1, [] =>
    let x := ({ d with free := d.free + 1 } : Dev).lineSamples n []
    (Config.freeBool d.free :: x.1, x.2)

/-- A bad frame keeps the position; three in a row are a feedback fault (R272). -/
def Dev.badFrame (d : Dev) (r f : Nat) : Dev :=
  let x := d.fb r f
  let d1 := ((d.setFb r f { x with badRun := x.badRun + 1 }).bump (fbBase r f) F.FB_ERR_C_ssi_err).raise Ev.SSI_ERR (scopeRgn r) 0
  (d1.runFault r f 5 (x.badRun + 1)).latchSample r f

/-- A good frame gives the position of its instant (R271, R275). -/
def Dev.goodFrame (d : Dev) (r f at_ : Nat) (p : Int) : Dev :=
  let x := d.fb r f
  let moved : Bool := match x.good with | some (p0, _) => p != p0 | none => true
  let x1 := { x with
    badRun := 0, before := x.good, good := some (p, at_),
    stillAt := if moved then d.now else x.stillAt, zero := if moved then false else x.zero }
  (((d.setFb r f x1).fbLive r f 5 false).goodSample r f).latchSample r f

/-- SSI_FRAME_END: the samples of the data line, the first one before the first clock, then the bits most significant first, then the
one at the end, are checked (R271, R272, R275, R474). DEDUCED: the error bit follows the position word within the frame's bits
(assumption 94). -/
def execSsiFrameEnd (r : RegionId) (f : Fin 2) (line : List Bool) (s : State) :
    Host.Outcome State Fault Refusal :=
  let d := s.dev
  s.done (
    match (d.fb r f).frame with
    | none => d
    | some (at_, start) =>
      if d.now < d.frameEnd r f start then d
      else
        let b := d.fld (fbBase r f) F.FB_SSI_bits
        let port := ssiReg (d.fld (fbBase r f) F.FB_SSI_port)
        let y := d.lineSamples (b + 2) line
        let bits := (y.1.drop 1).take b
        let n := d.fld (fbBase r f) F.FB_SSI_st + 1 + d.fld (fbBase r f) F.FB_SSI_mt
        let x := y.2.fb r f
        let d1 := y.2.setFb r f { x with
          frame := none, bits := BitVec.ofNat 64 (bits.foldl (fun n b => 2 * n + flagBit b) 0)
          nextFrame := start + (b + 1) * d.ssiClock r f + d.fld port F.SSI_CFG_mono * cyclesPerUs }
        if d.fbIs r f 3 = false then d1
        else
          let p := d.ssiPosition r f bits
          let jump := d.fld (fbBase r f) F.FB_SSI_jump
          let far : Bool := match x.good with
            | some (p0, _) => jump != 0 && decide (jump * 2 ^ 20 < (p - p0).natAbs)
            | none => false
          if (d.flag (fbBase r f) F.FB_SSI_err_bit && bits.getD n false) || !y.1.headD true || y.1.getD (b + 1) false || far then
            d1.badFrame r f
          else d1.goodFrame r f at_ p)

/-! ### Zero speed, probes, configuration -/

/-- Whether the zero-speed timeout of a channel has passed (R274, R275). -/
def Dev.zeroDue (d : Dev) (r f : Nat) : Bool :=
  let x := d.fb r f
  d.flag (fbBase r f) F.FB_CFG_en && d.fld (fbBase r f) F.FB_CFG_src != 2 && !x.hold &&
    decide ((if d.fbIs r f 3 then x.stillAt else x.lastEdge) + d.fld (fbBase r f) F.FB_ZS_timeout * cyclesPerUs ≤ d.now)

/-- ZERO_SPEED_TIMEOUT: no edge, or an SSI position unchanged, for FB_ZS.timeout: speed 0 with status zero (R274, R275). -/
def execZeroSpeedTimeout (r : RegionId) (f : Fin 2) (s : State) : Host.Outcome State Fault Refusal :=
  let d := s.dev
  s.done (if d.zeroDue r f then d.setFb r f { d.fb r f with zero := true } else d)

/-- A probe. -/
def Dev.prb (d : Dev) (r q : Nat) : Probe := Store.get (fun _ => Probe.initial) d.prbs (2 * r + q)
def Dev.setPrb (d : Dev) (r q : Nat) (x : Probe) : Dev :=
  { d with prbs := Store.set (fun _ => Probe.initial) d.prbs (2 * r + q) x }

/-- The angle a probe latches. -/
def Dev.probeAngle (d : Dev) (r q : Nat) : Word := d.fbAngle r (d.fld (rgnReg r + 0x20 * q) F.PRB_CFG_ch)

/-- A latch that its filter has confirmed: position and time of the edge (R276). -/
def Dev.probeLatch (d : Dev) (r q : Nat) (angle : Word) (ns : DWord) : Dev :=
  let base := rgnReg r + 0x20 * q
  let f := d.fld base F.PRB_CFG_ch
  let w := fbWord f + 8 + 2 * d.fld base F.PRB_CFG_slot
  let d1 := (((d.setReg (base + 0x1D04) angle).setReg (base + 0x1D08) (ns.setWidth 32)).setReg (base + 0x1D0C)
    ((ns >>> 32).setWidth 32)).bump base F.PRB_STAT_count
  let d2 := if d.flag base F.PRB_STAT_new then d1.latchFld base F.PRB_STAT_ovf else d1.latchFld base F.PRB_STAT_new
  let d3 := (d2.putIntake r w angle).putIntake r (w + 1) (ns.setWidth 32)
  let old := d3.loadN (intakeBase (4 * r) + 4 * (fbWord f + 4)) 4
  (d3.putIntake r (fbWord f + 4) (BitVec.ofNat 32 (old ||| 2 ^ (17 + d.fld base F.PRB_CFG_slot)))).raise
    Ev.PROBE_LATCH (scopeRgn r) 0

/-- PROBE_EDGE: the level at a probe pin. A new one latches the channel's angle and the network time; once it has passed the filter,
the latch of a selected edge is confirmed, and one that has not is discarded (R276). -/
def execProbeEdge (r : RegionId) (q : Fin 2) (level : Bool) (s : State) : Host.Outcome State Fault Refusal :=
  let d := s.dev
  let base := rgnReg r + 0x20 * q.val
  let x := d.prb r q
  let sel := d.fld base F.PRB_CFG_edge
  s.done (
    if x.pin.level ≠ level then d.setPrb r q ⟨x.pin.see d.now d.ns level, d.probeAngle r q⟩
    else if x.pin.passes d.now (d.fld base F.PRB_CFG_filt) then
      let d1 := d.setPrb r q { x with pin := { x.pin with out := level } }
      if d.flag base F.PRB_CFG_en && (if level then sel != 2 else sel == 2 || sel == 3) then
        d1.probeLatch r q (if x.pin.since = d.now then d.probeAngle r q else x.angle) x.pin.ns
      else d1
    else d)

/-- A probe edge of the lane cycle that ends latches the angle with the edges of that cycle (R280). -/
def Dev.probeAgain (d : Dev) (r q : Nat) : Dev :=
  let x := d.prb r q
  if x.pin.since = d.now ∧ x.pin.level ≠ x.pin.out then d.setPrb r q { x with angle := d.probeAngle r q } else d

/-- Whether another enabled SSI channel of the chip uses a port (R271). -/
def Dev.ssiTaken (d : Dev) (r f port : Nat) : Bool :=
  (List.range 8).any (fun i => i != 2 * r + f && d.fbIs (i / 2) (i % 2) 3 &&
    d.fld (fbBase (i / 2) (i % 2)) F.FB_SSI_port == port)

/-- A refused feedback configuration. -/
def Dev.fbRefused (d : Dev) (r : Nat) : Dev := d.raise Ev.FB_CFG_REFUSED (scopeRgn r) 0

/-- A write of FB_CFG: refused where it changes src, filt or pp of an enabled channel, or enables an SSI channel whose port
is taken. A disable ends the conditions behind the causes, an enable starts the channel anew (R257, R260, R263, R271, R277). -/
def Dev.writeFbCfg (d : Dev) (m : Master) (r f : Nat) (v : Word) : Dev :=
  let a := fbBase r f + 0x1C00
  let d1 := d.plainWrite m a v
  let old := (d.reg a).toNat
  let new := (d1.reg a).toNat
  let changed := bitsOf old 1 2 != bitsOf new 1 2 || bitsOf old 16 8 != bitsOf new 16 8 || bitsOf old 24 4 != bitsOf new 24 4
  if (bitOf old 0 && changed) || (d1.fbIs r f 3 && d.ssiTaken r f (d.fld (fbBase r f) F.FB_SSI_port)) then d.fbRefused r
  else
    let d2 := if bitOf new 0 = false ∨ bitOf old 0 = false then d1.setLive (fbBase r f + 0x1C38) 0x3F false else d1
    if bitOf new 0 && !bitOf old 0 then
      let x := d2.fb r f
      d2.setFb r f { x with
        trig := false, pinA := { x.pinA with out := x.pinA.level }, pinB := { x.pinB with out := x.pinB.level }
        pinZ := { x.pinZ with out := x.pinZ.level }
        edges := [], lastEdge := d2.now, indexed := false, sector := none, hold := false, hallBad := 0, illegalAt := []
        valid := false, zero := false, posS := none, negS := none, posC := none, negC := none, skip := false
        paired := false, skips := 0, losRun := 0, trkRun := 0, frame := none, good := none, before := none
        stillAt := d2.now, badRun := 0 }
    else d2

/-- A write of a feedback configuration register (R257, R261, R268, R271, R276). -/
def Dev.writeFbReg (d : Dev) (m : Master) (r f : Nat) (reg : FbReg) (v : Word) : Dev :=
  match reg with
  | .cfg => d.unlessBad (fun d => d.writeFbCfg m r f v)
  | .qep =>
    let d1 := d.plainWrite m (fbBase r f + 0x1C0C) v
    d1.setFb r f { d1.fb r f with linesOld := some (d.linesOf r f, d.now) }
  | .resCfg =>
    if bitsOf v.toNat 0 2 = bitsOf v.toNat 2 2 then d.fbRefused r else d.plainWrite m (fbBase r f + 0x1C20) v
  | .ssi => if d.ssiTaken r f (bitsOf v.toNat 0 2) then d.fbRefused r else d.plainWrite m (fbBase r f + 0x1C34) v
  | .probe =>
    let other := rgnReg r + 0x20 * (1 - f)
    if bitOf v.toNat 0 && d.flag other F.PRB_CFG_en && d.fld other F.PRB_CFG_ch == bitsOf v.toNat 3 1 &&
        d.fld other F.PRB_CFG_slot == bitsOf v.toNat 4 1 then d.fbRefused r
    else d.plainWrite m (rgnReg r + 0x1D00 + 0x20 * f) v

/-- A write of RES_EXC. DESIGN CHOICE: the sine starts anew where run rises or half changes (R267, assumption 94). -/
def Dev.writeResExc (d : Dev) (m : Master) (r f : Nat) (v : Word) : Dev :=
  let d1 := d.plainWrite m (fbBase r f + 0x1C24) v
  if (d1.flag (fbBase r f) F.RES_EXC_run && !d.flag (fbBase r f) F.RES_EXC_run) ||
      d1.fld (fbBase r f) F.RES_EXC_half != d.fld (fbBase r f) F.RES_EXC_half then
    d1.setFb r f { d1.fb r f with excAt := d.now }
  else d1

/-- A feedback channel at the start of a lane cycle: a write of lines takes effect, which restarts the speed, and a Hall angle
advances (R261, R265). -/
def Dev.fbStart (d : Dev) (i : Nat) : Dev :=
  let r := i / 2
  let f := i % 2
  let x := d.fb r f
  let d1 := match x.linesOld with
    | some _ => d.setFb r f { x with linesOld := none, edges := [] }
    | none => d
  if d1.fbIs r f 1 then d1.hallAdvance r f else d1

/-- FB_CFG_WRITE. -/
def execFbCfgWrite (m : Master) (r : RegionId) (f : Fin 2) (reg : FbReg) (v : Word) (s : State) :
    Host.Outcome State Fault Refusal := s.done (s.dev.writeFbReg m r f reg v)

/-- Note a sample instant of the region's channels that `p` selects by their registers; FB_SAMPLE serves it (R258). -/
def Dev.noteSamples (d : Dev) (r : Nat) (p : Nat → Bool) : Dev :=
  d.each [0, 1] (fun f d =>
    if d.flag (fbBase r f) F.FB_CFG_en && p (fbBase r f) then d.setFb r f { d.fb r f with trig := true } else d)

end Sys2Proof.Machine
end

