-- ==== Sys2Proof/Machine/Lane.lean ====
section
/-! DEFINITION. What lane operations share: writes in flight, the lane's view of memory, issue and phases (R75 to R86,
R121 to R123, R136 to R138). -/

namespace Sys2Proof.Machine

/-- The number of a slot in the order of R78. -/
def slotNum : Slot → Nat
  | .a0 => 0
  | .a1 => 1
  | .m => 2
  | .c => 3
def aslotNum : ASlot → Nat
  | .a0 => 0
  | .a1 => 1

/-! ### Writes in flight -/

/-- Put a write into the list, ordered by issue cycle and then by slot (R78, R123). -/
def insertWrite (w : LaneWrite) : List LaneWrite → List LaneWrite
  | [] => [w]
  | x :: t =>
    if w.issue < x.issue ∨ (w.issue = x.issue ∧ w.slot < x.slot) then w :: x :: t else x :: insertWrite w t

/-- Send a write on its way: it is seen `lat` cycles from now, and belongs to an operation issued in cycle `issue` (R121,
R123). -/
def Dev.laneWriteOf (d : Dev) (b issue slot lat : Nat) (dst : LaneDst) (v : LaneVal) (flags : Nat) : Dev :=
  let l := d.lane b
  let w : LaneWrite := ⟨d.now + lat, issue, slot, dst, v, BitVec.ofNat 32 flags, none⟩
  d.setLane b { l with writes := insertWrite w l.writes }

/-- A write of an operation that issues now. -/
def Dev.laneWrite (d : Dev) (b slot lat : Nat) (dst : LaneDst) (v : LaneVal) (flags : Nat) : Dev :=
  d.laneWriteOf b d.now slot lat dst v flags

/-- The same for LIM, which also writes the lim bit (R128). -/
def Dev.laneWriteLim (d : Dev) (b slot lat : Nat) (dst : LaneDst) (v : LaneVal) (flags : Nat) (lim : Bool) : Dev :=
  let l := d.lane b
  let w : LaneWrite := ⟨d.now + lat, d.now, slot, dst, v, BitVec.ofNat 32 flags, some lim⟩
  d.setLane b { l with writes := insertWrite w l.writes }

/-- The value a write leaves and the flag its last cycle adds: a product is added to the accumulator as it stood before
this cycle's writes (R89, R122). -/
def LaneWrite.finish (w : LaneWrite) (before : Lane) : LaneVal × Nat :=
  match w.dst, w.val with
  | .acc n, .addProduct p =>
    let r := satAcc (accInt (before.ac n) + p)
    (.acc (BitVec.ofInt 40 r.1), flagIf r.2 flagOvf)
  | _, v => (v, 0)

/-- Put a value into a lane register. -/
def Lane.assign (l : Lane) (dst : LaneDst) (v : LaneVal) : Lane :=
  match dst, v with
  | .g n, .word w => { l with g := Store.set (fun _ => 0) l.g n.val w }
  | .acc n, .acc a => { l with acc := Store.set (fun _ => 0) l.acc n.val a }
  | .vec n, .vec m e => { l with vm := Store.set (fun _ => 0) l.vm n.val m, ve := Store.set (fun _ => 0) l.ve n.val e }
  | _, _ => l

/-- Let the writes due at cycle `t` take place in order; the lane and the LANE_STATUS word. -/
def settleWrites (before : Lane) : List LaneWrite → Lane × Nat → Lane × Nat
  | [], r => r
  | w :: t, (l, st) =>
    let v := w.finish before
    let st1 := st ||| w.flags.toNat ||| v.2
    let st2 := match w.lim with
      | some b => withBits st1 8 1 (if b then 1 else 0)
      | none => st1
    settleWrites before t (l.assign w.dst v.1, st2)

/-- Note flags that are set in this lane cycle: a write of 1 in the same cycle does not clear them (R98). -/
def Dev.noteFlags (d : Dev) (b f : Nat) : Dev :=
  let l := d.lane b
  let old := if l.flagAt = d.now + 1 then l.flagNow.toNat else 0
  if f = 0 then d else d.setLane b { l with flagAt := d.now + 1, flagNow := BitVec.ofNat 32 (old ||| f) }

/-- The bits that a write of `v` to LANE_STATUS clears: W1C bits that are not set in the same cycle (R97, R98). -/
def Dev.statusClears (d : Dev) (b v : Nat) : Nat :=
  let l := d.lane b
  let new := if l.flagAt = d.now + 1 then l.flagNow.toNat else 0
  v % 64 &&& (new ^^^ 0xFFFFFFFF)

/-- Let the lane's writes due at cycle `t` take place (R77, R121). -/
def Dev.settleLane (d : Dev) (b t : Nat) : Dev :=
  let l := d.lane b
  let due := l.writes.filter (fun w => decide (w.due ≤ t))
  if due.isEmpty then d
  else
    let r := settleWrites l due ({ l with writes := l.writes.filter (fun w => !decide (w.due ≤ t)) },
      (d.reg (blkReg b + 0x20)).toNat)
    let set := due.foldl (fun n w => n ||| w.flags.toNat ||| (w.finish l).2) 0
    ((d.setLane b r.1).setReg (blkReg b + 0x20) (BitVec.ofNat 32 r.2)).noteFlags b set

/-- An operation acts only on a lane in RUN (R86). -/
def Dev.onRun (d : Dev) (b : Nat) (f : Lane → Dev) : Dev := if (d.lane b).mode = .run then f (d.lane b) else d

/-- Set LANE_STATUS flags in this lane cycle. -/
def Dev.setFlags (d : Dev) (b f : Nat) : Dev := if f = 0 then d else (d.orReg (blkReg b + 0x20) f).noteFlags b f

/-- Raise LANE_ILLEGAL with the lane and its bundle (R120, R506). -/
def Dev.laneIllegal (d : Dev) (b : Nat) : Dev :=
  d.raise Ev.LANE_ILLEGAL (scopeBlk b) (pack [(b, 4), ((d.lane b).pc, 12)])

/-! ### The lane's address map (R79) -/

/-- What lies at a lane address. -/
inductive LaneArea where
  | data (a : Nat)
  | table (a : Nat)
  | intake (a : Nat)
  | special (off : Nat)
  | unitStat (off : Nat)
  | outside
  deriving DecidableEq, Repr

/-- The area of a lane address, with the global address of a memory byte (R79). -/
def Dev.laneArea (d : Dev) (b a : Nat) : LaneArea :=
  if a < 0x40000 then .data (blkBase b + 0x40000 + a)
  else if a < 0x48000 then .table (blkBase b + 0x80000 + d.activeBank (b / 4) * 0x8000 + (a - 0x40000))
  else if 0x50000 ≤ a ∧ a < 0x50400 then .intake (intakeBase b + (a - 0x50000))
  else if 0x60000 ≤ a ∧ a < 0x60020 then .special (a - 0x60000)
  else if 0x60100 ≤ a ∧ a < 0x60180 then .unitStat (a - 0x60100)
  else .outside

/-- The unit status word (R343). -/
def Dev.unitStatus (d : Dev) (u : Nat) : Nat :=
  let x := d.unit u
  let st : Nat := match x.st with
    | .disabled => 0 | .enabling => 1 | .run => 2 | .shutting => 3 | .hold => 4 | .settle => 5 | .locked => 6
  let act : Nat := match x.action with
    | .none => 0 | .off => 1 | .soft => 2 | .ascLow => 3 | .ascHigh => 4
  let bit := fun (c : Bool) => (if c then 1 else 0 : Nat)
  let limited := match d.unitRegion u with
    | some r => d.flag (rgnReg r + 0x10 * u) F.WG_STAT_limited
    | none => false
  pack [(st, 3), (0, 1), (act, 3), (0, 1), (bit x.window.isSome, 1), (bit x.hsl, 1), (bit x.lockPend, 1),
    (bit ((d.unitLegs u).any (fun k => (d.leg k).st == .fault)), 1),
    (bit ((d.laneSet u).any (fun b => d.flag (blkReg b) F.BLK_OVR_last)), 1), (bit limited, 1)]

/-- A lane special register (R85). -/
def Dev.laneSpecial (d : Dev) (b off : Nat) : Nat :=
  let l := d.lane b
  match off with
  | 0x00 => (d.reg (blkReg b + 0x20)).toNat
  | 0x04 => (d.reg (blkReg b + 0x30)).toNat
  | 0x08 => (d.reg (blkReg b + 0x34)).toNat
  | 0x0C => pack [(l.subTick, 3), (0, 13), (d.fld 0 F.TRL_TICK_CNT_k, 16)]
  | 0x10 => l.computeNs.toNat % 2 ^ 32
  | 0x14 => l.computeNs.toNat / 2 ^ 32
  | 0x18 => (d.now - l.computeAt) % 2 ^ 32
  | _ => 0

/-- An intake word as a lane load sees it: the old value in the cycle in which it is written (R84). -/
def Dev.intakeWord (d : Dev) (a : Nat) : Nat :=
  let old := Store.get (fun _ => (0, 0)) d.intakeOld (a / 4 * 4)
  if old.1 = d.now + 1 then old.2.toNat else d.loadN (a / 4 * 4) 4

/-- One byte at a place of the lane's map. -/
def Dev.areaByte (d : Dev) (b : Nat) : LaneArea → Nat
  | .data a | .table a => (d.byte a).toNat
  | .intake a => bitsOf (d.intakeWord a) (8 * (a % 4)) 8
  | .special o => bitsOf (d.laneSpecial b (o / 4 * 4)) (8 * (o % 4)) 8
  | .unitStat o =>
    if d.unitRegion (o / 4) = some (b / 4) then bitsOf (d.unitStatus (o / 4)) (8 * (o % 4)) 8 else 0
  | .outside => 0

/-- `n` bytes of the lane's map as a little-endian number (R80). -/
def Dev.laneBytes (d : Dev) (b a : Nat) : Nat → Nat
  | 0 => 0
  | n + 1 => d.areaByte b (d.laneArea b a) + 256 * d.laneBytes b (a + 1) n

/-- Whether a lane load of `n` bytes is performed: aligned and inside the map (R80). -/
def Dev.mayLoad (d : Dev) (b a n : Nat) : Bool := a % n == 0 && d.laneArea b a != .outside

/-- Whether a lane store of `n` bytes is performed: aligned, in data memory, or 4 bytes at LANE_STATUS (R80). -/
def mayStore (a n : Nat) : Bool := a % n == 0 && (decide (a < 0x40000) || (n == 4 && a == 0x60000))

/-- A refused access: LANE_STATUS.addr is set and LANE_ADDR raised (R80, R551). -/
def Dev.laneAddrRefused (d : Dev) (b a : Nat) : Dev :=
  (d.setFlags b flagAddr).raise Ev.LANE_ADDR (scopeBlk b) (pack [(a, 19), ((d.lane b).pc, 12)])

/-- The first uncorrectable word among the aligned 64-bit words that `n` bytes of lane memory at `a` touch. -/
def Dev.badIn (d : Dev) (b a n : Nat) : Option Nat :=
  let g := match d.laneArea b a with
    | .data x | .table x => some x
    | _ => none
  match g with
  | none => none
  | some x => ((List.range ((n + 7) / 8)).map (fun i => x + 8 * i)).find? (fun y => d.isBad y)

/-- A lane access at an address of its map uses the port of the block memory that holds it (R22). -/
def Dev.useLanePort (d : Dev) (b a : Nat) : Dev :=
  match d.laneArea b a with
  | .data _ => d.usePort (3 * b + 1)
  | .table _ => d.usePort (3 * b + 2)
  | _ => d

/-- A lane load of `n` bytes: an uncorrectable word makes a block fault (R432, R436), a refused access gives 0. `use`
sends the value on its way. -/
def Dev.laneLoad (d0 : Dev) (b a n : Nat) (use : Dev → Nat → Dev) : Dev :=
  let d := d0.useLanePort b a
  if d.mayLoad b a n then
    match d.badIn b a n with
    | some y => d.uncorrectable y
    | none => use d (d.laneBytes b a n)
  else use (d.laneAddrRefused b a) 0

/-- A lane store of up to 8 bytes; a store to LANE_STATUS acts as W1C, and flags set in this cycle stay set; what a master's write
has cleared in the same cycle is dropped with WRITE_COLLISION (R80, R85, R98, R497). -/
def Dev.laneStore (d : Dev) (b a n v : Nat) : Dev :=
  if mayStore a n then
    if a < 0x40000 then (d.usePort (3 * b + 1)).storeN (blkBase b + 0x40000 + a) n v
    else
      let l := d.lane b
      let met := l.hostAt == d.now + 1
      let w := (d.reg (blkReg b + 0x20)).toNat ||| (if met then l.hostClr.toNat else 0)
      let d1 := (d.setReg (blkReg b + 0x20) (BitVec.ofNat 32 (w &&& (d.statusClears b v ^^^ 0xFFFFFFFF)))).setLane b
        { l with statusAt := d.now + 1 }
      if met then d1.raise Ev.WRITE_COLLISION scopeChip (blkReg b + 0x20) else d1
  else d.laneAddrRefused b a

/-- The number a vector record stores: mantissas, then the exponent sign-extended to a word, then zeros (R81). -/
def vecRecord (m : QWord) (e : Byte) : Nat := m.toNat + 2 ^ 128 * (e.signExtend 32).toNat

/-! ### Issue -/

/-- Where the lane goes after the bundle at `pc`: a redirection, a loop back-edge, which needs no fetch, or the next bundle (R131 to
R134, R139). -/
def Lane.advance (l : Lane) (t : Nat) : Lane :=
  match l.redirect with
  | some p => { l with pc := p, redirect := none, issued := false, nextAt := t + 1 }
  | none =>
    match l.loops with
    | e :: rest =>
      if e.last = l.pc then
        if e.left = 0 then { l with loops := rest, pc := l.pc + 1, issued := false, nextAt := t }
        else { l with loops := { e with left := e.left - 1 } :: rest, pc := e.first, pair := some (e.first / 2), issued := false, nextAt := t }
      else { l with pc := l.pc + 1, issued := false, nextAt := t }
    | [] => { l with pc := l.pc + 1, issued := false, nextAt := t }

/-- A lane whose hold has ended issues its next bundle at cycle `t`. -/
def Dev.release (d : Dev) (b t : Nat) : Dev :=
  let l := d.lane b
  d.setLane b { ({ l with mode := .run, held := none } : Lane).advance t with mode := .run, held := none }

/-- Hold the lane in WAIT. -/
def Dev.hold (d : Dev) (b : Nat) (h : Held) : Dev := d.setLane b { d.lane b with mode := .wait, held := some h }

/-- The LANE_ENTRY bundle of the active slot (R86, R99). -/
def Dev.laneEntry (d : Dev) (b : Nat) : Nat :=
  if d.activeSlot (b / 4) = 0 then d.fld (blkReg b) F.LANE_ENTRY_a else d.fld (blkReg b) F.LANE_ENTRY_b

/-- The LANE_WCET field of the active slot, in units of 4 lane cycles (R152). -/
def Dev.laneWcet (d : Dev) (b : Nat) : Nat :=
  if d.activeSlot (b / 4) = 0 then d.fld (blkReg b) F.LANE_WCET_a else d.fld (blkReg b) F.LANE_WCET_b

/-- Return the lane to DONE, with loop stack and link empty (R138). -/
def Lane.toDone (l : Lane) : Lane :=
  { l with mode := .done, held := none, issued := false, redirect := none, loops := [], link := none }

/-- The lane completes its sub-tick: the cycles it used are recorded (R67, R137). -/
def Dev.laneComplete (d : Dev) (b : Nat) : Dev :=
  let l := d.lane b
  let used := d.now - l.computeAt + 1
  let d1 := if d.fld (blkReg b) F.BLK_OVR_MAX_cycles < used then d.setFld (blkReg b) F.BLK_OVR_MAX_cycles used else d
  let d2 := if d1.fld (blkReg b) F.BLK_OVR_max_cycles < (used + 7) / 8 then
      d1.setFld (blkReg b) F.BLK_OVR_max_cycles ((used + 7) / 8) else d1
  d2.setLane b { l.toDone with completed := true }

end Sys2Proof.Machine
end

