-- ==== Sys2Proof/Machine/Capture.lean ====
section
/-! DEFINITION. The capture units of the regions (R452 to R456). -/

namespace Sys2Proof.Machine

/-- Change the state of a capture unit, which CAP_STAT shows. -/
def Dev.setCapState (d : Dev) (r : Nat) (x : CapUnit) : Dev :=
  let code : Nat := match x.st with | .idle => 0 | .armed => 1 | .triggered => 2 | .done => 3
  (d.setCap r x).setFld (rgnReg r) F.CAP_STAT_state code

/-- Words of a record less 2, records of the ring, and its base in region SRAM (R452). -/
def Dev.capN (d : Dev) (r : Nat) : Nat := d.fld (rgnReg r) F.CAP_CFG_n
def Dev.capQ (d : Dev) (r : Nat) : Nat := 65536 / (d.capN r + 2)
def Dev.capBase (d : Dev) (r : Nat) : Nat := rgnBase r + d.fld (rgnReg r) F.CAP_BASE_addr * 0x1000

/-- A sample instant of the units of region `r` that `p` selects: every div-th waits for its delayed record (R452). -/
def Dev.noteInstant (d : Dev) (r : Nat) (p : Nat → Bool) : Dev :=
  let x := d.cap r
  if (x.st == .armed || x.st == .triggered) && p (rgnReg r) then
    if x.div + 1 < d.fld (rgnReg r) F.CAP_SMP_div then d.setCap r { x with div := x.div + 1 }
    else
      let i : CapInstant := ⟨d.now + d.fld (rgnReg r) F.CAP_SMP_dly, d.now, d.ns.setWidth 32⟩
      d.setCap r { x with div := 0, waiting := x.waiting ++ [i] }
  else d

/-- Whether an active DMA descriptor of the region reads a range that overlaps `n` bytes at `a` (R454). -/
def Dev.dmaReads (d : Dev) (a n : Nat) : Bool :=
  (List.range 16).any (fun i =>
    match (Store.get (fun _ => DmaChan.initial) d.dma i).cur with
    | some x => !bitOf x.ctrl.toNat 1 && decide (x.src.toNat < a + n ∧ a < x.src.toNat + x.len)
    | none => false)

/-- Arm, or refuse: pre + post beyond Q, post 0, or an active descriptor that reads the ring (R453, R454). -/
def Dev.armCapture (d : Dev) (r : Nat) : Dev :=
  let pre := d.fld (rgnReg r) F.CAP_LEN_pre
  let post := d.fld (rgnReg r) F.CAP_LEN_post
  if decide (d.capQ r < pre + post) || post == 0 || d.dmaReads (d.capBase r) (4 * (d.capN r + 2) * d.capQ r) then
    d.raise Ev.CAP_CFG_REFUSED (scopeRgn r) 0
  else d.setCapState r { CapUnit.initial with st := .armed, armAt := d.now + 1 }

/-- Trigger an ARMED unit, but not in the cycle in which it was armed (R453, R459). -/
def Dev.triggerCapture (d : Dev) (r at_ : Nat) : Dev :=
  let x := d.cap r
  if x.st = .armed ∧ x.armAt ≠ d.now + 1 then
    (d.setCapState r { x with st := .triggered, noted := none, trigAt := at_, left := d.fld (rgnReg r) F.CAP_LEN_post }).stamp
      (rgnReg r + 0x2930)
  else d

/-- A write of CAP_CFG: outside IDLE and DONE a change of n is refused; then arm and soft act (R453, R454). -/
def Dev.writeCapCfg (d : Dev) (m : Master) (r : Nat) (v : Word) : Dev :=
  let free := (d.cap r).st == .idle || (d.cap r).st == .done
  let d1 := if !free && bitsOf v.toNat 16 4 != d.capN r then d.raise Ev.CAP_CFG_REFUSED (scopeRgn r) 0
    else d.plainWrite m (rgnReg r + 0x2900) v
  let d2 := if bitOf v.toNat 0 then d1.armCapture r else d1
  if bitOf v.toNat 1 then d2.triggerCapture r d2.now else d2

/-- A write of CAP_SMP, CAP_BASE or CAP_SEL: refused outside IDLE and DONE; the ring lies below the exchange memory, a
higher base is clamped (R454). -/
def Dev.writeCapReg (d : Dev) (m : Master) (r : Nat) (reg : CapReg) (v : Word) : Dev :=
  let free := (d.cap r).st == .idle || (d.cap r).st == .done
  let at_ := fun (off : Nat) (v : Word) =>
    if free then d.plainWrite m (rgnReg r + off) v else d.raise Ev.CAP_CFG_REFUSED (scopeRgn r) 0
  match reg with
  | .cfg => d.writeCapCfg m r v
  | .smp => at_ 0x2904 v
  | .base => at_ 0x2910 (BitVec.ofNat 32 (withBits v.toNat 12 8 (min (bitsOf v.toNat 12 8) 0xB0)))
  | .sel k => at_ (0x2914 + 4 * k.val) v

/-- CAP_ARM: a write of CAP_CFG with arm (R453, R454). -/
def execCapArm (m : Master) (r : RegionId) (v : Word) (s : State) : Host.Outcome State Fault Refusal :=
  s.done (s.dev.writeCapCfg m r v)

/-- CAP_SOFT_TRIGGER: a write of CAP_CFG with soft (R453). -/
def execCapSoftTrigger (m : Master) (r : RegionId) (v : Word) (s : State) : Host.Outcome State Fault Refusal :=
  s.done (s.dev.writeCapCfg m r v)

/-- CAP_CFG_WRITE (R454). -/
def execCapCfgWrite (m : Master) (r : RegionId) (reg : CapReg) (v : Word) (s : State) :
    Host.Outcome State Fault Refusal := s.done (s.dev.writeCapReg m r reg v)

/-- CAP_TRIGGER: the trigger selected by CAP_TRIG.src has occurred (R453). -/
def execCapTrigger (r : RegionId) (s : State) : Host.Outcome State Fault Refusal :=
  s.done (match (s.dev.cap r).noted with
    | some t => s.dev.triggerCapture r t
    | none => s.dev)

/-- The words of a record: the network time of the instant, then the selected intake words as a load sees them (R452,
R455). The words are read from the intake buffer of the region's first block. -/
def Dev.capWords (d : Dev) (r : Nat) (i : CapInstant) : List Word :=
  i.ns :: (List.range (d.capN r + 1)).map (fun k =>
    let w := bitsOf (d.reg (rgnReg r + 0x2914 + k / 4 * 4)).toNat (8 * (k % 4)) 8
    d.intakeWord (intakeBase (4 * r) + 4 * w))

/-- Write words one by one from an address up. -/
def Dev.putWords (d : Dev) (a : Nat) : List Word → Dev
  | [] => d
  | w :: t => (d.storeN a 4 w.toNat).putWords (a + 4) t

/-- The record that would be written next falls on one of the last pre records before the trigger: the unit discards it
(R454). The ring has q records; of those before the trigger, x.before were written. -/
def CapUnit.guards (x : CapUnit) (q pre : Nat) : Bool :=
  match x.trigRec with
  | none => false
  | some k => let back := (k + q - x.next) % q; decide (1 ≤ back ∧ back ≤ min pre x.before)

/-- The unit after a record is stored at its next place. -/
def CapUnit.stored (x : CapUnit) (q : Nat) : CapUnit := { x with next := (x.next + 1) % q, written := x.written + 1 }

/-- CAP_RECORD: the record of a sample instant is written, or discarded where it would overwrite a protected record; the
first one at or after the trigger is the trigger record, and CAP_LEN.post records from it the unit is DONE (R452 to R454). -/
def execCapRecord (r : RegionId) (s : State) : Host.Outcome State Fault Refusal :=
  let d := s.dev
  let x := d.cap r
  s.done (
    match x.waiting with
    | [] => d
    | i :: rest =>
      if d.now < i.due ∨ ¬ (x.st = .armed ∨ x.st = .triggered) then d
      else
        let q := d.capQ r
        let drop := x.guards q (d.fld (rgnReg r) F.CAP_LEN_pre)
        let d1 := if drop then d else d.putWords (d.capBase r + 4 * (d.capN r + 2) * x.next) (d.capWords r i)
        let x0 := if drop then x else x.stored q
        let trig := match x.trigRec with
          | some k => some k
          | none => if x.st = .triggered ∧ x.trigAt ≤ i.at_ then some x.next else none
        let left := if trig.isSome then x.left - 1 else x.left
        let before := if x.trigRec.isNone then x.written else x.before
        let x1 := { x0 with waiting := rest, trigRec := trig, before := before, left := left }
        match trig with
        | some k =>
          if left = 0 then
            let kept := min q x1.written
            let d2 := d1.setCapState r { x1 with st := .done, waiting := [] }
            let d3 := ((d2.setFld (rgnReg r) F.CAP_POS_start ((x1.next + q - kept) % q)).setFld (rgnReg r) F.CAP_POS_count
              kept).setFld (rgnReg r) F.CAP_POS2_trig k
            d3.raise Ev.CAP_DONE (scopeRgn r) 0
          else d1.setCap r x1
        | none => d1.setCap r x1)

end Sys2Proof.Machine
end

