-- ==== Sys2Proof/Machine/Carrier.lean ====
section
/-! DEFINITION. The events of a leg and the writes of its registers: carrier, request edges, dead time, handshake, trips, off
paths, ownership (R14 to R17, R155 to R186, R206 to R216, R552). -/

namespace Sys2Proof.Machine

/-! ### Turn-off by the comparators -/

/-- The trip comparator of a leg has clear latching, not period latching (R162, R209, R210). -/
def Dev.tripClears (d : Dev) (k : Nat) : Bool := d.legMode k != 3 && !d.flag (legReg k) F.LEG_CMP_t_latch

/-- Whether the trip comparator of a leg is blanked (R207). -/
def Dev.isBlanked (d : Dev) (k : Nat) : Bool := (d.leg k).blanking && decide (d.now < (d.leg k).blankEnd)

/-- The cycle limit: it ends the on-interval of the control channel, once per period, and holds it off until the next valley
(R162). -/
def Dev.cycleLimit (d : Dev) (k : Nat) : Dev :=
  let l := d.leg k
  let side := d.controlSide k
  if l.drv side && !l.cycleHeld then
    let again := (l.st == .ascHigh && side == .high) || (l.st == .ascLow && side == .low)
    let d1 := (d.setLeg k { l.turnOff d.stepNow side with
      cycleHeld := true, limitAt := d.stepNow, want := if again then some side else l.want }).bumpWrap (legReg k) F.LEG_CBC_count
    (d1.setLeg k { d1.leg k with req := d1.requestOf k d1.stepNow }).applyRequest k d1.stepNow
  else d

/-- The trip comparator is enabled and not blanked, so that it acts on its level (R206 to R208). -/
def Dev.tripLive (d : Dev) (k : Nat) : Bool := d.flag (legReg k) F.LEG_CMP_t_en && !d.isBlanked k

/-- The hard comparator acts: an activation is counted, the leg goes off and enters FAULT (R20, R177, R206, R320). -/
def Dev.hardActs (d : Dev) (k : Nat) : Dev :=
  let h := d.hardOut k
  let d1 := h.2.setLeg k { h.2.leg k with hSeen := h.1 }
  if h.1 && !(d.leg k).hSeen then (d1.bump (legReg k) F.LEG_TRIPS_hard).legTrip k causeHard else d1

/-- The trip comparator with clear latching acts: an activation trips the leg once (R206, R208, R209). -/
def Dev.tripActs (d : Dev) (k : Nat) : Dev :=
  let t := d.tripOut k
  let l := t.2.leg k
  if !t.1 then t.2.setLeg k { l with tSeen := false }
  else if t.2.tripClears k && t.2.tripLive k && !l.tSeen then (t.2.setLeg k { l with tSeen := true }).tripLeg k
  else t.2

/-- The trip comparator with period latching acts (R162, R208 to R210). -/
def Dev.limitActs (d : Dev) (k : Nat) : Dev :=
  let t := d.tripOut k
  if t.1 && !t.2.tripClears k && t.2.tripLive k then t.2.cycleLimit k else t.2

/-- Both comparators of a leg act on their levels. -/
def Dev.compareLeg (d : Dev) (k : Nat) : Dev := ((d.hardActs k).tripActs k).limitActs k

/-- The voltage at LEGk_ISNS, which its comparators and every window comparator on it see (R206, R212). -/
def Dev.seeIsns (d : Dev) (k : Nat) (uv : Option Nat) : Dev := d.seePin (k / 32) (64 + k % 32) uv

/-- HARD_COMPARATOR_TRIP: what the hard comparator makes of the voltage at LEGk_ISNS (R20, R177, R206, R320). -/
def execHardComparatorTrip (k : LegId) (uv : Option Nat) (s : State) : Host.Outcome State Fault Refusal :=
  s.done ((s.dev.seeIsns k uv).compareLeg k)

/-- TRIP_COMPARATOR_TRIP: what the trip comparator with clear latching makes of it, outside blanking (R206, R209). -/
def execTripComparatorTrip (k : LegId) (uv : Option Nat) (s : State) : Host.Outcome State Fault Refusal :=
  s.done ((s.dev.seeIsns k uv).compareLeg k)

/-- CYCLE_LIMIT: what the trip comparator with period latching makes of it, outside blanking (R162). -/
def execCycleLimit (k : LegId) (uv : Option Nat) (s : State) : Host.Outcome State Fault Refusal :=
  s.done ((s.dev.seeIsns k uv).compareLeg k)

/-- BLANKING_END: an output that is active when blanking ends acts at once (R208). -/
def execBlankingEnd (k : LegId) (s : State) : Host.Outcome State Fault Refusal :=
  let d := s.dev
  s.done (
    if (d.leg k).blanking && decide ((d.leg k).blankEnd ≤ d.now) then
      (d.setLeg k { d.leg k with blanking := false }).compareLeg k
    else d)

/-- The registers of a leg's diode emulation (R215). -/
def zcdBase (k : Nat) : Nat := rgnReg (k / 32) + 4 * (k % 32)

/-- Whether the mapped window comparator turns the low side of a leg in diode emulation off: it is on, its blanking is over and
the raw output is active (R215). -/
def Dev.zcdDue (d : Dev) (k : Nat) : Bool :=
  let l := d.leg k
  l.st == .run && cmdLs l.cur == 3 && d.flag (zcdBase k) F.RGN_ZCD_en && l.drvL &&
    decide (l.onAtL + 160 * d.fld (zcdBase k) F.RGN_ZCD_blank ≤ d.stepNow) && d.raw (k / 32) (d.fld (zcdBase k) F.RGN_ZCD_win)

/-- The low side of a leg goes off by a zero-current detection; the dead time of the high side runs from here (R215). -/
def Dev.zcdActs (d : Dev) (k : Nat) : Dev :=
  if d.zcdDue k then d.setLeg k { (d.leg k).turnOff d.stepNow .low with zcdHeld := some false } else d

/-- ZERO_CURRENT_DETECT: the voltage at the input of the window comparator that a leg in diode emulation is mapped to; every leg
acts on that comparator's one output (R215, R216). -/
def execZeroCurrentDetect (k : LegId) (uv : Option Nat) (s : State) : Host.Outcome State Fault Refusal :=
  s.done ((s.dev.seeWindow (k.val / 32) (s.dev.fld (zcdBase k) F.RGN_ZCD_win) uv).zcdActs k)

/-- Whether the FLT input of a link leg is active, by LEG_HS.flt_pol (R180, R184). -/
def Dev.fltActive (d : Dev) (k : Nat) : Bool := !isDirect k && (d.leg k).flt == d.flag (legReg k) F.LEG_HS_flt_pol

/-- The filter of the FLT input: after flt_filt lane cycles of an active level the leg trips (R177, R180). -/
def Dev.fltCheck (d : Dev) (k : Nat) : Dev :=
  let l := d.leg k
  if d.fltActive k then
    let since := l.fltAt.getD d.now
    let done := decide (since + d.fld (legReg k) F.LEG_HS_flt_filt ≤ d.now)
    let d1 := d.setLeg k { l with fltAt := some since, fltSeen := l.fltSeen || done }
    if done && !l.fltSeen then d1.legTrip k causeFlt else d1
  else d.setLeg k { l with fltAt := none, fltSeen := false }

/-- FLT_INPUT: the level at the FLT input of a link leg, which the filter judges (R177, R180, R184). -/
def execFltInput (k : LegId) (level : Bool) (s : State) : Host.Outcome State Fault Refusal :=
  let d := s.dev
  s.done (if isDirect k then d else (d.setLeg k { d.leg k with flt := level }).fltCheck k)

/-! ### Dead time and handshake -/

/-- DEAD_TIME_END: a waiting turn-on takes place if it may (R166, R169). -/
def execDeadTimeEnd (k : LegId) (at_ : Fin 32) (s : State) : Host.Outcome State Fault Refusal :=
  s.done ((s.dev.tryOn k (s.dev.stepNow + at_)).checkOwner k)

/-- FB_OBSERVED: the level at the FB input of a channel, or on a direct leg whether its gate lies below the gate-sense threshold
(R166, R180, R184). -/
def execFbObserved (k : LegId) (high level : Bool) (at_ : Fin 32) (s : State) : Host.Outcome State Fault Refusal :=
  let d := s.dev
  let l := d.leg k
  let d1 := d.setLeg k (if high then { l with fbH := level } else { l with fbL := level })
  s.done ((d1.tryOn k (d1.stepNow + at_)).checkOwner k)

/-- A handshake timeout: counted, raised, both channels off, FAULT with cause hs_to (R168). -/
def Dev.handshakeFault (d : Dev) (k : Nat) : Dev :=
  ((d.bump (legReg k) F.LEG_CNT_A_hs_to).raise Ev.HANDSHAKE_TIMEOUT (scopeBlk (k / 8)) 0).legFaultAny k causeHsTo

/-- HANDSHAKE_TIMEOUT: a turn-on waits and the other channel has not shown off in time (R168). -/
def execHandshakeTimeout (k : LegId) (s : State) : Host.Outcome State Fault Refusal :=
  let d := s.dev
  let l := d.leg k
  s.done (
    match l.want with
    | some side =>
      if d.checksOff k side.other && !d.showsOff k l side.other &&
          decide (l.offAt side.other + 32 * d.fld (legReg k) F.LEG_HS_timeout ≤ d.stepNow) then
        d.handshakeFault k
      else d
    | none => d)

/-- HSL_INTERLOCK: the HSL's second interlock blocks an on-drive: both channels off, FAULT with cause hsl_ilk (R170). -/
def execHslInterlock (k : LegId) (_high : Bool) (s : State) : Host.Outcome State Fault Refusal :=
  s.done ((s.dev.raise Ev.HSL_INTERLOCK (scopeBlk (k.val / 8)) 0).legFaultAny k causeIlk)

/-- BOOTSTRAP_CHANGE: boot_ok of a direct leg changes; a fall is counted and raised and turns the high side off, a rise lets
a waiting high side on (R182, R183). -/
def execBootstrapChange (k : LegId) (ok : Bool) (s : State) : Host.Outcome State Fault Refusal :=
  let d := s.dev
  let l := d.leg k
  s.done (
    if isDirect k = false ∨ d.flag (legReg k) F.LEG_DIRECT_boot_ok = ok then d
    else if ok then ((d.setFld (legReg k) F.LEG_DIRECT_boot_ok 1).tryOn k d.stepNow).checkOwner k
    else
      let d1 := (d.setFld (legReg k) F.LEG_DIRECT_boot_ok 0).bump (legReg k) F.LEG_DIRECT_boot_uv_cnt
      let d2 := if l.drvH then d1.setLeg k { l.turnOff d1.stepNow .high with want := some .high } else d1
      d2.raise Ev.BOOT_UV (scopeBlk (k.val / 8)) 0)

/-! ### Off paths -/

/-- The soft-path time of a leg: t1 of its owning unit (R178, R339). -/
def Dev.softTime (d : Dev) (k : Nat) : Nat :=
  match d.owner k with
  | some u => d.fld (4 * u) F.HSL_SAFE_t1
  | none => 0

/-- SOFT_OFF_END: t1 after the channels went off the soft path is released and the leg enters OFF_SETTLE (R177, R178, R552). -/
def execSoftOffEnd (k : LegId) (s : State) : Host.Outcome State Fault Refusal :=
  let d := s.dev
  let l := d.leg k
  s.done (
    if l.st == .softOff && decide (l.softAt + d.softTime k ≤ d.now) then
      (d.setLeg k { (l.allOff d.stepNow).enter .settle with soft := false, settleAt := d.now }).checkOwner k
    else d)

/-- Both channels show off, or are not checked, and have been off for at least the floor (R177). -/
def Dev.settled (d : Dev) (k : Nat) : Bool :=
  let l := d.leg k
  !l.drvH && !l.drvL && (d.showsOff k l .high || !d.checksOff k .high) && (d.showsOff k l .low || !d.checksOff k .low) &&
    decide (l.offAtH + d.legFloor k ≤ d.stepNow) && decide (l.offAtL + d.legFloor k ≤ d.stepNow)

/-- OFF_SETTLE_END: the leg enters OFF, or FAULT where a channel has not shown off in time (R177). -/
def execOffSettleEnd (k : LegId) (s : State) : Host.Outcome State Fault Refusal :=
  let d := s.dev
  let l := d.leg k
  s.done (
    if l.st != .settle then d
    else if d.settled k then (d.setLeg k { l with st := .off }).checkOwner k
    else if ((d.checksOff k .high && !d.showsOff k l .high) || (d.checksOff k .low && !d.showsOff k l .low)) &&
        decide (l.settleAt + d.fld (legReg k) F.LEG_HS_timeout ≤ d.now) then
      d.handshakeFault k
    else d)

/-! ### Carrier -/

/-- ls = 3 without a mapped comparator: ZCD_UNMAPPED at most once per sub-tick (R216). -/
def Dev.zcdWarn (d : Dev) (k : Nat) : Dev :=
  let l := d.leg k
  if l.st == .run && cmdLs l.cur == 3 && !d.flag (zcdBase k) F.RGN_ZCD_en &&
      decide (l.warnAt < (d.lane (k / 8)).subStart + 1) then
    (d.setLeg k { l with warnAt := d.now + 1 }).raise Ev.ZCD_UNMAPPED (scopeBlk (k / 8)) 0
  else d

/-- Form the request at edge step `t` and bring the channels to it. The hold of a zero-current detection ends once the low side
is not asked for in a later period, so that its next scheduled turn-on takes place (R160, R164, R215). -/
def Dev.followRequest (d : Dev) (k t : Nat) : Dev :=
  let l := d.leg k
  if l.st = .run then
    let req := l.modeHold.isNone && d.requestOf k t
    let asksLow := (wantedBy (d.legMode k) (d.flag (legReg k) F.LEG_CFG_pcsw) l.cur req).2
    (d.setLeg k { l with req := req, zcdHeld := if l.zcdHeld = some true ∧ asksLow = false then none else l.zcdHeld }).applyRequest k t
  else d

/-- REQUEST_EDGE: the compare request rises or falls at step `at_` of this lane cycle (R160, R161, R164). -/
def execRequestEdge (k : LegId) (at_ : Fin 32) (s : State) : Host.Outcome State Fault Refusal :=
  s.done ((s.dev.followRequest k (s.dev.stepNow + at_)).zcdWarn k)

/-- An update event at edge step `t`: a mode change ends its hold, a sealed next command becomes current, the first one moves
an ARMED leg to RUN. DEDUCED: a mode 3 request that is on goes on under the new command, and one that is off begins at a c = phi
from here on (R163, R174, R177, assumption 92). -/
def Dev.updateEvent (d : Dev) (k t : Nat) : Dev :=
  let l := d.leg k
  let from_ := if l.req then l.phiFrom else t
  let l1 := match l.modeHold with
    | some h => if h ≤ d.now then { l with modeHold := none, phiFrom := from_ } else l
    | none => l
  match l1.next with
  | some x =>
    if x.isSealed && (l1.st == .armed || l1.st == .run) then
      ((d.setLeg k { l1 with cur := x.cmd, next := none, st := .run, phiFrom := from_ }).dacStepped (k / 32) (k % 32)
        (d.tripCode k d.now)).checkOwner k
    else d.setLeg k l1
  | none => d.setLeg k l1

/-- The edge step of the valley that is due by edge step `t`: that of `nextValley`, or the end of a period that a write has cut
short, once its peak has occurred (R156, R174). -/
def Dev.valleyDue (d : Dev) (k t : Nat) : Option Nat :=
  let l := d.leg k
  let z := if l.late && l.peakDone && l.restart.all (fun r => decide (t < r)) then (d.stepNow : Int) else d.nextValley k
  if d.counterRuns k && decide (l.evFrom ≤ d.now) && (!l.late || l.peakDone) && decide (z ≤ t) then some z.toNat else none

/-- Sample triggers of a carrier event: converters, feedback channels and capture units that name the leg (R190, R258, R452).
`code` is 1 at the valley, 2 at the peak. -/
def Dev.carrierTriggers (d : Dev) (k code : Nat) : Dev :=
  let r := k / 32
  let named := fun (trig leg : Nat) => (trig == code || trig == 3) && leg == k % 32
  let d1 := d.noteTriggers r (fun a => named (d.fld a F.ADC_SEQ_CFG_trig) (d.fld a F.ADC_SEQ_CFG_leg))
  let d2 := d1.noteSamples r (fun a => named (d.fld a F.FB_CFG_trig) (d.fld a F.FB_CFG_leg))
  d2.noteInstant r (fun a => named (d.fld a F.CAP_SMP_smp) (d.fld a F.CAP_SMP_leg))

/-- CARRIER_VALLEY: c = 0. Period latches release, the update event and the sample triggers take place (R156 to R158, R162,
R163, R213). -/
def execCarrierValley (k : LegId) (at_ : Fin 32) (s : State) : Host.Outcome State Fault Refusal :=
  let d := s.dev
  let t := d.stepNow + at_
  s.done (
    match d.valleyDue k t with
    | none => d
    | some z =>
      let l := d.leg k
      let d1 := d.setLeg k { l with
        zeroAt := z, peakDone := false, late := false, restart := l.restart.filter (fun r => decide (z < r)), cycleHeld := false,
        zcdHeld := l.zcdHeld.map (fun _ => true) }
      let d2 := if d1.fld (legReg k) F.LEG_CFG_upd = 2 then d1 else d1.updateEvent k (max t z)
      let d3 := if (d2.leg k).st = .run then d2.followRequest k (max t z) else d2.tryOn k (max t z)
      (((d3.releaseWindows k).carrierTriggers k 1).zcdWarn k).uvCheck)

/-- CARRIER_PEAK: c = ⌊P/2⌋, at most once per period (R157, R158, R163, R174). -/
def execCarrierPeak (k : LegId) (at_ : Fin 32) (s : State) : Host.Outcome State Fault Refusal :=
  let d := s.dev
  let t := d.stepNow + at_
  let l := d.leg k
  s.done (
    if d.counterRuns k && !l.peakDone && decide (l.evFrom ≤ d.now) && decide (l.zeroAt + (d.legPeriod k / 2 : Nat) ≤ t) then
      let d1 := d.setLeg k { l with peakDone := true, evFrom := if l.late then d.now + 1 else l.evFrom }
      let d2 := if d1.fld (legReg k) F.LEG_CFG_upd = 2 ∨ d1.fld (legReg k) F.LEG_CFG_upd = 3 then d1.updateEvent k t else d1
      ((d2.followRequest k t).carrierTriggers k 2).uvCheck
    else d)

/-! ### Register writes -/

/-- After a write in the lane cycle of a trip or HSL disable no channel turns on (R20). -/
def Dev.tryAfterWrite (d : Dev) (k : Nat) : Dev :=
  if (d.leg k).tripAt = some d.now then d else d.tryOn k d.stepNow

/-- A change of the period: a peak or period end that the new length has passed falls in the next lane cycles. A counter that
starts to run does so at 0; one that is no longer tick-locked has no restart before it (R156, R174). -/
def Dev.periodChanged (d : Dev) (k : Nat) (was : Bool) : Dev :=
  let l := d.leg k
  let p := d.legPeriod k
  let l := if d.flag (legReg k) F.LEG_CFG_lock then l else { l with restart := l.restart.filter (fun r => decide ((r : Int) = l.zeroAt)) }
  if was = false then d.setLeg k { l with zeroAt := d.stepNow, peakDone := false, late := false, restart := none }
  else
    let c := (d.stepNow : Int) - l.zeroAt
    let d1 :=
      if ((p - 1 : Nat) : Int) < c then d.setLeg k { l with late := true, evFrom := d.now + 1 }
      else if l.peakDone = false ∧ ((p / 2 : Nat) : Int) < c then d.setLeg k { l with evFrom := d.now + 1 }
      else d.setLeg k l
    d1.followRequest k d1.stepNow

/-- A change of the mode, in any state: both channels off for the longer dead time in force, and in RUN and ARMED no request until
the first update event after it. A leg in active short circuit then drives its side on again (R174, R186). -/
def Dev.modeChanged (d : Dev) (k : Nat) : Dev :=
  let l := d.leg k
  let hold := (max (d.deadTime k .high) (d.deadTime k .low) + 31) / 32
  let want := match l.st with
    | .ascHigh => some Side.high
    | .ascLow => some Side.low
    | _ => none
  d.setLeg k { l.allOff d.stepNow with
    modeHold := some (d.now + hold), req := false, cycleHeld := false, limitAt := 0, want := want }

/-- A change of the phase offset: the counter moves at once, and no update event is crossed; a restart that the new offset puts
later in the sub-tick is still to come (R174). -/
def Dev.phaseChanged (d : Dev) (k old : Nat) : Dev :=
  let l := d.leg k
  let p := max 1 (d.legPeriod k)
  let new := d.legOffset k
  let c := (d.legCount k + p + old % p - new) % p
  let moved := fun (c : Nat) (r : Option Nat) => d.setLeg k { l with
    zeroAt := (d.stepNow : Int) - c, peakDone := decide (p / 2 ≤ c), restart := r, late := false }
  let d1 :=
    if d.flag (legReg k) F.LEG_CFG_lock then
      let r := (d.trl.tickStep + d.stretched (32 * (d.lane (k / 8)).subFrom) + new).toNat
      if d.stepNow < r then moved c (some r)
      else
        let x := d.stepNow - r
        moved (min (x - min (x / p) (d.fld (legReg k) F.LEG_CFG_div - 1) * p) (p - 1)) none
    else match l.restart with
      | some t =>
        let m := t + new - old % p
        if d.stepNow < m then d.setLeg k { l with restart := some m, zeroAt := m } else moved (d.stepNow - m) none
      | none => moved c none
  d1.followRequest k d1.stepNow

/-- A write of LEG_CFG: mode, period and the control channel. DEDUCED: a change of pcsw acts at once (R161, R174, assumption 92). -/
def Dev.writeLegCfg (d : Dev) (m : Master) (k : Nat) (v : Word) : Dev :=
  let d1 := (d.plainWrite m (legReg k) v).dacStepped (k / 32) (k % 32) (d.tripCode k d.now)
  let d2 := if d.legMode k = d1.legMode k then d1 else d1.modeChanged k
  let d3 := if d.legPeriod k = d1.legPeriod k ∧ d.counterRuns k = d1.counterRuns k ∧
      d.flag (legReg k) F.LEG_CFG_lock = d1.flag (legReg k) F.LEG_CFG_lock then d2 else d2.periodChanged k (d.counterRuns k)
  if d.flag (legReg k) F.LEG_CFG_pcsw = d1.flag (legReg k) F.LEG_CFG_pcsw then d3 else d3.followRequest k d3.stepNow

/-- A host write of a leg register, with its effects in the same lane cycle (R174, R175, R180, R186). -/
def Dev.writeLeg (d : Dev) (m : Master) (k : Nat) (reg : LegCfgReg) (v : Word) : Dev :=
  match reg with
  | .cfg => d.writeLegCfg m k v
  | .period =>
    let d1 := d.plainWrite m (legReg k + 4) v
    if d.legPeriod k = d1.legPeriod k then d1 else d1.periodChanged k (d.counterRuns k)
  | .phase =>
    let d1 := d.plainWrite m (legReg k + 8) v
    let old := d.fld (legReg k) F.LEG_PHASE_offset
    if old = d1.fld (legReg k) F.LEG_PHASE_offset then d1 else d1.phaseChanged k old
  | .dt => ((d.plainWrite m (legReg k + 0xC) v).tryAfterWrite k).checkOwner k
  | .hs => (((d.plainWrite m (legReg k + 0x10) v).fltCheck k).tryAfterWrite k).checkOwner k
  | .minon => d.plainWrite m (legReg k + 0x14) v

/-- LEG_HOST_WRITE (R174, R186). -/
def execLegHostWrite (m : Master) (k : LegId) (reg : LegCfgReg) (v : Word) (s : State) :
    Host.Outcome State Fault Refusal := s.done (s.dev.writeLeg m k reg v)

/-- A write of LEG_GUARD, accepted in OFF only (R167). -/
def Dev.writeLegGuard (d : Dev) (m : Master) (k : Nat) (v : Word) : Dev :=
  d.guarded m (legReg k + 0x44) (fun d =>
    if (d.leg k).st = .off then d.plainWrite m (legReg k + 0x44) v else d.raise Ev.LEG_CFG_REFUSED (scopeBlk (k / 8)) 0)

/-- LEG_GUARD_WRITE (R167). -/
def execLegGuardWrite (m : Master) (k : LegId) (v : Word) (s : State) : Host.Outcome State Fault Refusal :=
  s.done (s.dev.writeLegGuard m k v)

/-- A write of HSL_DTFLOOR takes effect at once on every leg of the unit (R165, R174). -/
def Dev.writeFloor (d : Dev) (m : Master) (u : Nat) (v : Word) : Dev :=
  let d1 := d.plainWrite m (0x40020100 + 4 * u) v
  d1.each (d1.unitLegs u) (fun k d => (d.tryAfterWrite k).checkOwner k)

/-- HSL_DTFLOOR_WRITE (R165). -/
def execHslDtfloorWrite (m : Master) (u : UnitId) (v : Word) (s : State) : Host.Outcome State Fault Refusal :=
  s.done (s.dev.writeFloor m u v)

/-- The owner a byte of LEG_OWN names. -/
def byteOwner (b : Nat) : Option Nat := if bitOf b 7 then some (bitsOf b 0 5) else none

/-- Whether a new byte of LEG_OWN for leg `k` is accepted: the leg in OFF, both units DISABLED, and the new unit without legs
in another region (R15, R16). -/
def Dev.mayOwn (d : Dev) (k b : Nat) : Bool :=
  let disabled := fun (o : Option Nat) => match o with | some u => (d.unit u).st == .disabled | none => true
  let alone := match byteOwner b with
    | some u => (List.range 128).all (fun j => d.owner j != some u || j / 32 == k / 32)
    | none => true
  (d.leg k).st == .off && disabled (d.owner k) && disabled (byteOwner b) && alone

/-- Write one byte of LEG_OWN; the second result says that it was refused. -/
def Dev.writeOwn (d : Dev) (k b : Nat) : Dev × Bool :=
  let b := bitsOf b 0 5 + 128 * bitsOf b 7 1
  if b = d.ownByte k then (d, false)
  else if d.mayOwn k b then
    let a := rgnReg (k / 32) + 0x100 + k % 32 / 4 * 4
    (d.setReg a (BitVec.ofNat 32 (withBits (d.reg a).toNat (8 * (k % 4)) 8 b)), false)
  else (d, true)

/-- A write of LEG_OWNn of a region, byte by byte; refused bytes raise OWN_REFUSED once with the register address (R15, R16). -/
def Dev.writeLegOwn (d : Dev) (r n : Nat) (v : Word) : Dev :=
  let out := [0, 1, 2, 3].foldl (fun (x : Dev × Bool) j =>
    let y := x.1.writeOwn (32 * r + 4 * n + j) (bitsOf v.toNat (8 * j) 8)
    (y.1, x.2 || y.2)) (d, false)
  if out.2 then out.1.raise Ev.OWN_REFUSED (scopeRgn r) (rgnReg r + 0x100 + 4 * n) else out.1

/-- LEG_OWN_WRITE (R14 to R16). -/
def execLegOwnWrite (_m : Master) (r : RegionId) (n : Fin 8) (v : Word) (s : State) : Host.Outcome State Fault Refusal :=
  s.done (s.dev.writeLegOwn r n v)

/-- Writes of the comparator registers of a leg, on which the comparators act at once: the blanking in progress takes the new
length, the ramp goes on from its present value at the new slope, a code change is noted (R206, R217, R219). `off` is the
register's offset. -/
def Dev.writeLegCmp (d : Dev) (m : Master) (k off : Nat) (v : Word) : Dev :=
  let d1 := d.plainWrite m (legReg k + off) v
  let l := d1.leg k
  let grid := (d.now - l.rampFrom) / 8 * 8
  let d2 :=
    if off = 0x80 ∧ l.blanking = true then d1.setLeg k { l with blankEnd := l.blankFrom + 5 * d1.fld (legReg k) F.LEG_CMP_blank }
    else if off = 0x8C then d1.setLeg k { l with rampVal := d.rampAt k d.now, rampFrom := l.rampFrom + grid }
    else d1
  let d3 := d2.dacStepped (k / 32) (k % 32) (d.tripCode k d.now)
  (d3.dacStepped (k / 32) (32 + k % 32) (d.fld (legReg k) F.LEG_HDAC_code)).compareLeg k

end Sys2Proof.Machine
end

