-- ==== Sys2Proof/Machine/UnitCmds.lean ====
section
/-! DEFINITION. The requests, timers and protected registers of the units (R324 to R343). -/

namespace Sys2Proof.Machine

/-- Whether region `r` holds the registers of unit `u` (R342). -/
def Dev.unitHere (d : Dev) (r u : Nat) : Bool := d.unitRegion u == some r

/-- ATTRIBUTION_WINDOW_END: the window of 2 µs ends with one side: ASC on it for a unit of kind ASC, else the configured kind
(R324). -/
def execAttributionWindowEnd (u : UnitId) (s : State) : Host.Outcome State Fault Refusal :=
  let d := s.dev
  s.done (
    match (d.unit u).window with
    | some t => if t ≤ d.now then d.decideFor u (d.pattern u) else d
    | none => d)

/-- Whether a valid soft-off slot names a unit (R329, R341). -/
def Dev.holdsSlot (d : Dev) (u : Nat) : Bool :=
  [0, 1, 2, 3].any (fun n => d.flag (4 * n) F.HSL_SOFTSLOT_valid && d.fld (4 * n) F.HSL_SOFTSLOT_unit == u)

/-- A disable request: from ENABLING or RUN to SHUTTING_DOWN, soft with a slot, else immediate off; ignored elsewhere (R331,
R333). -/
def Dev.unitDisable (d : Dev) (u : Nat) : Dev :=
  if (d.unit u).active then (d.shutUnit u).takeDecision u (if d.holdsSlot u then .soft else .off) else d

/-- UNIT_DISABLE. -/
def execUnitDisable (_m : Master) (r : RegionId) (u : UnitId) (s : State) : Host.Outcome State Fault Refusal :=
  s.done (if s.dev.unitHere r u then s.dev.unitDisable u else s.dev)

/-- Release one leg from active short circuit (R177, R334). -/
def Dev.releaseAsc (d : Dev) (k : Nat) : Dev :=
  let l := d.leg k
  if l.st = .ascHigh ∨ l.st = .ascLow then d.setLeg k { (l.allOff d.stepNow).enter .settle with settleAt := d.now } else d

/-- Release the next leg of an exit sequence, or with asc_step = 0 all that remain (R334). -/
def Dev.exitStep (d : Dev) (u : Nat) : Dev :=
  let x := d.unit u
  let gap := d.fld (4 * u) F.HSL_SAFE_asc_step
  let nowLegs := if gap = 0 then x.exitLegs else x.exitLegs.take 1
  let d1 := d.each (nowLegs.map Fin.val) (fun k d => d.releaseAsc k)
  let rest := if gap = 0 then [] else x.exitLegs.drop 1
  (d1.setUnit u { d1.unit u with exitLegs := rest, exitAt := d.now + gap * cyclesPerUs }).checkUnit u

/-- An ASC exit request: in SAFE_HOLD and LOCKED_OUT, and in DISABLED, whose legs an HSL disable may have put into active short
circuit (R177); refused while an HSL disable or OV3 action acts (R333, R334). -/
def Dev.ascExit (d : Dev) (r u : Nat) : Dev :=
  let x := d.unit u
  if x.st = .hold ∨ x.st = .locked ∨ x.st = .disabled then
    if d.hslActs u then d.raise Ev.ASC_EXIT_REFUSED (scopeRgn r) u
    else if x.exiting then d
    else
      let legs := ((d.unitLegs u).filter (fun k => (d.leg k).st == .ascHigh || (d.leg k).st == .ascLow)).map
        (fun k => (Fin.ofNat 128 k : LegId))
      (d.setUnit u { x with exiting := true, exitLegs := legs }).exitStep u
  else d

/-- ASC_EXIT (R334). -/
def execAscExit (_m : Master) (r : RegionId) (u : UnitId) (s : State) : Host.Outcome State Fault Refusal :=
  s.done (if s.dev.unitHere r u then s.dev.ascExit r u else s.dev)

/-- ASC_EXIT_STEP: asc_step µs after the last release the next leg is released (R334). -/
def execAscExitStep (u : UnitId) (s : State) : Host.Outcome State Fault Refusal :=
  let d := s.dev
  let x := d.unit u
  s.done (if x.exiting && !x.exitLegs.isEmpty && decide (x.exitAt ≤ d.now) then d.exitStep u else d)

/-- A release request: in DISABLED every leg in FAULT whose cause reads 0 goes to OFF_SETTLE; refused elsewhere (R336). -/
def Dev.unitRelease (d : Dev) (r u : Nat) : Dev :=
  if (d.unit u).st = .disabled then
    d.each (d.unitLegs u) (fun k d =>
      if (d.leg k).st = .fault ∧ d.fld (legReg k) F.LEG_FAULT_cause = 0 then
        d.setLeg k { (d.leg k).enter .settle with settleAt := d.now }
      else d)
  else d.raise Ev.UNIT_CFG_REFUSED (scopeRgn r) 0

/-- UNIT_RELEASE (R336). -/
def execUnitRelease (_m : Master) (r : RegionId) (u : UnitId) (s : State) : Host.Outcome State Fault Refusal :=
  s.done (if s.dev.unitHere r u then s.dev.unitRelease r u else s.dev)

/-- ENABLING_TIMEOUT: en_to frame ticks in ENABLING without RUN: immediate off and ENABLE_TIMEOUT (R331). -/
def execEnablingTimeout (u : UnitId) (s : State) : Host.Outcome State Fault Refusal :=
  let d := s.dev
  let x := d.unit u
  s.done (
    if x.st == .enabling && decide (d.fld (unitBase u) F.UNIT_CFG_en_to ≤ x.enTicks) then
      ((d.shutUnit u).takeDecision u .off).raise Ev.ENABLE_TIMEOUT (scopeRgn ((d.unitRegion u).getD 0)) u.val
    else d)

/-- QUIET_TIME_END: the quiet time in OFF_SETTLE has elapsed (R331, R335). -/
def execQuietTimeEnd (u : UnitId) (s : State) : Host.Outcome State Fault Refusal :=
  let d := s.dev
  let x := d.unit u
  s.done (
    if x.st == .settle && decide (x.settleAt + d.fld (unitBase u) F.UNIT_CFG_quiet * cyclesPerUs ≤ d.now) then
      if x.lockPend then d.setUnit u { x with st := .locked } else d.toDisabled u
    else d)

/-- A write of 1 to unlock: from LOCKED_OUT to DISABLED with every leg in OFF or FAULT, outside the lock-out of the device;
SAFE_CFG_REFUSED otherwise (R335). -/
def Dev.unlockUnit (d : Dev) (u : Nat) : Dev :=
  if (d.unit u).st == .locked && !d.flag 0 F.HSL_STAT_lockout && (d.unitLegs u).all (fun k => (d.leg k).atRest) then
    d.toDisabled u
  else d.raise Ev.SAFE_CFG_REFUSED scopeChip 0

/-- A write of HSL_SAFEu: outside DISABLED kind, asc_high and t1 keep their values and SAFE_CFG_REFUSED is raised; the other
fields take effect (R339). -/
def Dev.writeSafe (d : Dev) (m : Master) (u : Nat) (v : Word) : Dev :=
  let a := 0x40020400 + 4 * u
  d.guarded m a (fun d =>
    let old := (d.reg a).toNat
    let d1 := d.plainWrite m a v
    let new := (d1.reg a).toNat
    let changed := bitsOf old 0 3 != bitsOf new 0 3 || bitsOf old 4 12 != bitsOf new 4 12
    let d2 := if (d.unit u).st != .disabled && changed then
        (d1.setReg a (BitVec.ofNat 32 (withBits (withBits new 0 3 (bitsOf old 0 3)) 4 12 (bitsOf old 4 12)))).raise
          Ev.SAFE_CFG_REFUSED scopeChip 0
      else d1
    if bitOf v.toNat 3 then d2.unlockUnit u else d2)

/-- HSL_SAFE_UNLOCK: a write of HSL_SAFEu with unlock (R335, R339). -/
def execHslSafeUnlock (m : Master) (u : UnitId) (v : Word) (s : State) : Host.Outcome State Fault Refusal :=
  s.done (s.dev.writeSafe m u v)

/-- HSL_SAFE_WRITE (R339). -/
def execHslSafeWrite (m : Master) (u : UnitId) (v : Word) (s : State) : Host.Outcome State Fault Refusal :=
  s.done (s.dev.writeSafe m u v)

/-- A write of HSL_SOFTSLOTn, refused for a unit that another valid slot names, and for a change while the unit named before
or after it is not DISABLED (R329). -/
def Dev.writeSoftSlot (d : Dev) (m : Master) (n : Nat) (v : Word) : Dev :=
  let a := 0x40020500 + 4 * n
  d.guarded m a (fun d =>
    let old := (d.reg a).toNat
    let nu := bitsOf v.toNat 0 5
    let nv := bitOf v.toNat 7
    let dup := nv && [0, 1, 2, 3].any (fun i =>
      i != n && d.flag (4 * i) F.HSL_SOFTSLOT_valid && d.fld (4 * i) F.HSL_SOFTSLOT_unit == nu)
    let change := bitsOf old 0 5 != nu || bitOf old 7 != nv
    let busy := (bitOf old 7 && (d.unit (bitsOf old 0 5)).st != .disabled) || (nv && (d.unit nu).st != .disabled)
    if dup || (change && busy) then d.raise Ev.SAFE_CFG_REFUSED scopeChip 0 else d.plainWrite m a v)

/-- HSL_SOFTSLOT_WRITE (R329). -/
def execHslSoftslotWrite (m : Master) (n : Fin 4) (v : Word) (s : State) : Host.Outcome State Fault Refusal :=
  s.done (s.dev.writeSoftSlot m n v)

/-- A write of UNIT_CFG, accepted in DISABLED only (R342). -/
def Dev.writeUnitCfg (d : Dev) (m : Master) (r u : Nat) (v : Word) : Dev :=
  if d.unitHere r u then
    if (d.unit u).st = .disabled then d.unlessBad (fun d => d.plainWrite m (unitReg u) v)
    else d.raise Ev.UNIT_CFG_REFUSED (scopeRgn r) 0
  else d

/-- UNIT_CFG_WRITE (R342). -/
def execUnitCfgWrite (m : Master) (r : RegionId) (u : UnitId) (v : Word) (s : State) :
    Host.Outcome State Fault Refusal := s.done (s.dev.writeUnitCfg m r u v)

end Sys2Proof.Machine
end

