-- ==== Sys2Proof/Machine/Hsl.lean ====
section
/-! DEFINITION. The HSL's actions on units: OV3 (R315 to R318), UV (R358), the STO pins (R354), safety-function slots
(R359 to R362, R382) and SAFE_OUT (R355, R357). -/

namespace Sys2Proof.Machine

/-! ### Actions on a unit -/

/-- The two-bit action code of a unit in a pair of registers (R319, R383). -/
def Dev.actCode (d : Dev) (f : Fld) (u : Nat) : Nat := bitsOf (d.reg (f.off + 4 * (u / 16))).toNat (2 * (u % 16)) 2

/-- The action a code selects; code 3 goes by HSL_OV3SEL (R315, R316). -/
def Dev.codeAction (d : Dev) (u code : Nat) : Action :=
  match code with
  | 0 => .none
  | 1 => d.pattern u
  | 2 => .off
  | _ => if bitOf (d.fld 0 F.HSL_OV3SEL_off) u then .off else d.pattern u

/-- What the acting slots and a firmware update order for a unit: DISCH holds the low side on, the others apply the STO
action, whose code 0 acts as 1 (R361, R362, R535). -/
def Dev.slotAction (d : Dev) (u : Nat) : Action :=
  if (List.range 8).any (fun k => d.slotActs k u && d.fld (sfBase k) F.HSL_SF_CFG_type == 4) then .ascLow
  else
    let code := d.actCode F.HSL_SFACT_act u
    d.codeAction u (if code = 0 then 1 else code)

/-- Mark the legs of a unit as acted on, or no longer (R177, R552). -/
def Dev.markUnit (d : Dev) (u : Nat) (on : Bool) : Dev :=
  (d.setUnit u { d.unit u with hsl := on }).each (d.unitLegs u) (fun k d => d.markHsl k on)

/-- The STO action reaches a unit, latched as an HSL disable, from every state of its legs but FAULT (R177, R361); during lock-out
the pattern of the HSL trip prevails (R382). -/
def Dev.stoUnit (d : Dev) (u : Nat) : Dev :=
  let d1 := d.latchCause (unitCause u) 7
  if d1.flag 0 F.HSL_STAT_lockout = true then d1.markUnit u true
  else (d1.hslApply u (d1.slotAction u)).checkUnit u

/-- DISCH holds the low side of every leg of a unit on, whatever its state (R362). -/
def Dev.dischUnit (d : Dev) (u : Nat) : Dev := ((d.latchCause (unitCause u) 7).hslApply u .ascLow).checkUnit u

/-- The OV3 action reaches a unit in ENABLING or RUN or with an open window, unless its code is 0 (R315, R326). -/
def Dev.ov3Unit (d : Dev) (u : Nat) : Dev :=
  let x := d.unit u
  let code := d.actCode F.HSL_OV3ACT_act u
  if code ≠ 0 ∧ (x.active = true ∨ x.window.isSome = true) then
    let d1 := d.latchCause (unitCause u) 8
    let d2 := (d1.hslApply u (d1.codeAction u code)).checkUnit u
    { d2 with hsl := { d2.hsl with ov3Units := d2.hsl.ov3Units ||| BitVec.ofNat 32 (2 ^ u) } }
  else d

/-- An HSL action that still acts reaches a unit that has just been enabled. -/
def Dev.reapplyHsl (d : Dev) (u : Nat) : Dev :=
  let d1 := if d.flag 0 F.HSL_OV3STAT_active then d.ov3Unit u else d
  if (List.range 8).any (fun k => d1.slotActs k u) || (d1.hslActs u && !d1.ov3Acts u) then d1.stoUnit u else d1

/-- Withdraw the marks of the HSL where nothing acts any more; the legs keep the states they have reached (R361, R552). -/
def Dev.withdrawHsl (d : Dev) : Dev :=
  if d.flag 0 F.HSL_STAT_lockout then d
  else d.each (List.range 32) (fun u d => if (d.unit u).hsl && !d.hslActs u then d.markUnit u false else d)

/-! ### OV3 -/

/-- Whether the raw output of any OV3 source is active (R315). -/
def Dev.ov3Raw (d : Dev) : Bool := d.raws.any (fun x => x.2 && d.isOv3 (x.1 / 16) (x.1 % 16))

/-- The OV3 action begins: it is counted and stamped, and reaches every unit (R315, R318, R319). -/
def Dev.ov3Begin (d : Dev) : Dev :=
  let d1 := ((d.setFld 0 F.HSL_OV3STAT_active 1).bump 0 F.HSL_OV3STAT_count).stamp 0x40020324
  let d2 := { d1 with hsl := { d1.hsl with ov3Units := 0, brakeDue := true } }
  (d2.each (List.range 32) (fun u d => d.ov3Unit u)).raise Ev.OV3_TRIP scopeChip 0

/-- OV3_SOURCE_ACTIVE: the voltage at the input of a window comparator; while the raw output of an OV3 source is active the action
is applied (R315 to R318). -/
def execOv3SourceActive (r : RegionId) (n : Fin 16) (uv : Option Nat) (s : State) : Host.Outcome State Fault Refusal :=
  let d := s.dev.seeWindow r n uv
  s.done (if d.ov3Raw && !d.flag 0 F.HSL_OV3STAT_active then d.ov3Begin else d)

/-- OV3_RELEASE: every OV3 source has been inactive for the release time; the action is withdrawn (R318, R552). -/
def execOv3Release (s : State) : Host.Outcome State Fault Refusal :=
  let d := s.dev
  s.done (
    if d.flag 0 F.HSL_OV3STAT_active && !d.ov3Raw && decide (d.ov3At + d.fld 0 F.HSL_OV3CFG_release * cyclesPerUs ≤ d.now) then
      let d1 := d.setFld 0 F.HSL_OV3STAT_active 0
      { d1 with hsl := { d1.hsl with ov3Units := 0 } }.withdrawHsl
    else d)

/-- A write of HSL_OV3SEL: each 1 restarts that bit's timer, each 0 clears the bit (R316). -/
def Dev.writeOv3Sel (d : Dev) (m : Master) (v : Word) : Dev :=
  d.guarded m 0x40020318 (fun d =>
    let d1 := d.setReg 0x40020318 v
    d1.each (List.range 32) (fun u d =>
      if bitOf v.toNat u then { d with ov3SelAt := Store.set (fun _ => 0) d.ov3SelAt u d.now } else d))

/-- HSL_OV3SEL_WRITE (R316). -/
def execHslOv3selWrite (m : Master) (v : Word) (s : State) : Host.Outcome State Fault Refusal :=
  s.done (s.dev.writeOv3Sel m v)

/-- OV3SEL_HOLD_EXPIRY: the hold time has passed without a write of 1 (R316). -/
def execOv3selHoldExpiry (u : UnitId) (s : State) : Host.Outcome State Fault Refusal :=
  let d := s.dev
  s.done (
    if Store.get (fun _ => 0) d.ov3SelAt u.val + d.fld 0 F.HSL_OV3CFG_hold * cyclesPerMs ≤ d.now then
      d.setFld 0 F.HSL_OV3SEL_off (withBits (d.fld 0 F.HSL_OV3SEL_off) u.val 1 0)
    else d)

/-! ### UV -/

/-- Whether the raw output of a UV source is active (R358). -/
def Dev.uvRaw (d : Dev) (r n : Nat) : Bool := d.raw r n && d.isUv r n

/-- A UV source goes active: with the first, HSL_STAT.uv rises and DCLINK_UV is raised (R353, R358). -/
def Dev.uvRise (d : Dev) (i : Nat) : Dev :=
  let d1 := { d with uvOn := i :: d.uvOn, uvSince := if d.uvOn.isEmpty then d.now else d.uvSince }
  if d.uvOn.isEmpty then ((d1.setFld 0 F.HSL_STAT_uv 1).raise Ev.DCLINK_UV scopeChip 0).uvCheck else d1

/-- A UV source is no longer active: with the last, HSL_STAT.uv returns to 0 (R358). -/
def Dev.uvFall (d : Dev) (i : Nat) : Dev :=
  let d1 := { d with uvOn := d.uvOn.filter (fun j => j != i) }
  if d1.uvOn.isEmpty then d1.setFld 0 F.HSL_STAT_uv 0 else d1

/-- UV_SOURCE_ACTIVE: the voltage at the input of a window comparator, whose raw output as a UV source goes active (R353, R358). -/
def execUvSourceActive (r : RegionId) (n : Fin 16) (uv : Option Nat) (s : State) : Host.Outcome State Fault Refusal :=
  let d := s.dev.seeWindow r n uv
  let i := 16 * r.val + n.val
  s.done (if d.uvRaw r n && !d.uvOn.contains i then d.uvRise i else d)

/-- UV_SOURCE_INACTIVE: the same where it goes inactive (R358). -/
def execUvSourceInactive (r : RegionId) (n : Fin 16) (uv : Option Nat) (s : State) : Host.Outcome State Fault Refusal :=
  let d := s.dev.seeWindow r n uv
  let i := 16 * r.val + n.val
  s.done (if !d.uvRaw r n && d.uvOn.contains i then d.uvFall i else d)

/-! ### SAFE_OUT (R355) -/

/-- Whether a slot bound to SAFE_OUTn is demanded. -/
def Dev.safeOutBound (d : Dev) (n : Nat) : Bool := d.fld 0 F.HSL_SFSTAT_demand &&& d.fld (4 * n) F.HSL_SAFEOUT_sf != 0

/-- Bring SAFE_OUTn to what lock-out, the start-up tests (R541), req and the demands ask for: a bound demand starts the delay of a high output and
clears req at a low one; a delay of 0 acts at once (R355, R382). -/
def Dev.safeOutUpdate (d : Dev) (n : Nat) : Dev :=
  let high := bitOf (d.fld 0 F.HSL_SAFEOUTSTAT_out) n
  let note := fun (d : Dev) (t : Option Nat) =>
    { d with hsl := { d.hsl with soAt := Store.set (fun _ => none) d.hsl.soAt n t } }
  if d.flag 0 F.HSL_STAT_lockout || !d.flag 0 F.HSL_TEST_pass || d.fld (4 * n) F.HSL_SAFEOUT_req == 0 then
    note (d.safeOutLow n) none
  else if d.safeOutBound n then
    if high && d.fld (4 * n) F.HSL_SAFEOUT_delay != 0 then
      match Store.get (fun _ => none) d.hsl.soAt n with
      | some _ => d
      | none => note d (some d.now)
    else note (d.safeOutLow n) none
  else note (d.setFld 0 F.HSL_SAFEOUTSTAT_out (withBits (d.fld 0 F.HSL_SAFEOUTSTAT_out) n 1 1)) none

/-- A write of HSL_SAFEOUTn (R355). -/
def Dev.writeSafeOut (d : Dev) (m : Master) (n : Nat) (v : Word) : Dev :=
  d.guarded m (0x40020220 + 4 * n) (fun d => (d.plainWrite m (0x40020220 + 4 * n) v).safeOutUpdate n)

/-- SAFE_OUT_REQ_WRITE: a write of HSL_SAFEOUTn; req = 1 energises the output where that is permitted (R355). -/
def execSafeOutReqWrite (m : Master) (n : Fin 2) (v : Word) (s : State) : Host.Outcome State Fault Refusal :=
  s.done (s.dev.writeSafeOut m n v)

/-- SAFE_OUT_DELAY: the delay after the first bound demand has passed (R355). -/
def execSafeOutDelay (n : Fin 2) (s : State) : Host.Outcome State Fault Refusal :=
  let d := s.dev
  s.done (
    match Store.get (fun _ => none) d.hsl.soAt n.val with
    | some t =>
      if t + d.fld (4 * n.val) F.HSL_SAFEOUT_delay * cyclesPerMs ≤ d.now then
        let d1 := d.safeOutLow n
        { d1 with hsl := { d1.hsl with soAt := Store.set (fun _ => none) d1.hsl.soAt n.val none } }
      else d
    | none => d)

/-- Whether the level of SAFE_FBn, inverted where fb_pol = 1, differs from a checked SAFE_OUTn (R357). -/
def Dev.safeFbDiffers (d : Dev) (n : Nat) : Bool :=
  d.flag (4 * n) F.HSL_SAFEOUT_fb_en &&
    ((bitOf (d.fld 0 F.HSL_SAFEOUTSTAT_fb) n != d.flag (4 * n) F.HSL_SAFEOUT_fb_pol) != bitOf (d.fld 0 F.HSL_SAFEOUTSTAT_out) n)

/-- The mismatch of a feedback: since when it has lasted, and whether it has tripped. -/
def Dev.safeFbAt (d : Dev) (n : Nat) : Option (Nat × Bool) := Store.get (fun _ => none) d.hsl.soFbAt n
def Dev.setSafeFbAt (d : Dev) (n : Nat) (x : Option (Nat × Bool)) : Dev :=
  { d with hsl := { d.hsl with soFbAt := Store.set (fun _ => none) d.hsl.soFbAt n x } }

/-- Look at a feedback: a mismatch begins or has ended. -/
def Dev.watchSafeFb (d : Dev) (n : Nat) : Dev :=
  match d.safeFbDiffers n, d.safeFbAt n with
  | true, none => d.setSafeFbAt n (some (d.now, false))
  | false, some _ => d.setSafeFbAt n none
  | _, _ => d

/-- Whether a mismatch has lasted longer than fb_time and has not tripped yet. -/
def Dev.safeFbLate (d : Dev) (n : Nat) : Bool :=
  match d.safeFbAt n with
  | some (t, false) => decide (t + d.fld (4 * n) F.HSL_SAFEOUT_fb_time * cyclesPerMs < d.now)
  | _ => false

/-- SAFE_FB_MISMATCH: the level of SAFE_FBn, where it is told; a mismatch that has lasted longer than fb_time trips, once (R357). -/
def execSafeFbMismatch (n : Fin 2) (level : Option Bool) (s : State) : Host.Outcome State Fault Refusal :=
  let d := match level with
    | some l => s.dev.setFld 0 F.HSL_SAFEOUTSTAT_fb (withBits (s.dev.fld 0 F.HSL_SAFEOUTSTAT_fb) n.val 1 (flagBit l))
    | none => s.dev
  let d1 := d.watchSafeFb n
  s.done (
    if d1.safeFbLate n then
      ((d1.setSafeFbAt n ((d1.safeFbAt n).map (fun (x : Nat × Bool) => (x.1, true)))).bump 0 F.HSL_SAFEOUTSTAT_mism).hslTrip 9
    else d1)

/-! ### Slots -/

/-- Chip unit numbers a slot names. -/
def Dev.slotUnits (d : Dev) (k : Nat) : List Nat :=
  (List.range 32).filter (fun u => bitOf (d.fld (sfBase k) F.HSL_SF_UNITS_units) u)

/-- Set or clear a slot's bit of a field. -/
def Dev.slotBit (d : Dev) (f : Fld) (k : Nat) (on : Bool) : Dev :=
  d.setFld 0 f (withBits (d.fld 0 f) k 1 (if on then 1 else 0))

/-- Apply the action of a slot that is demanded and does not act yet (R361, R362). -/
def Dev.slotAct (d : Dev) (k : Nat) : Dev :=
  if bitOf (d.fld 0 F.HSL_SFSTAT_demand) k && !bitOf (d.fld 0 F.HSL_SFSTAT_acting) k then
    let d1 := d.slotBit F.HSL_SFSTAT_acting k true
    let disch := d1.fld (sfBase k) F.HSL_SF_CFG_type == 4
    d1.each (d1.slotUnits k) (fun u d => if disch then d.dischUnit u else d.stoUnit u)
  else d

/-- A slot becomes demanded: SF_DEMAND; STO acts at once, SS1 raises SS1_STOP with the unit mask (R360, R362). -/
def Dev.slotRise (d : Dev) (k : Nat) : Dev :=
  let d1 := { d with hsl := { d.hsl with
    sfAt := Store.set (fun _ => 0) d.hsl.sfAt k d.now, omega0 := Store.set (fun _ => none) d.hsl.omega0 k none,
    slsAt := Store.set (fun _ => none) d.hsl.slsAt k none, quietAt := Store.set (fun _ => none) d.hsl.quietAt k none } }
  let d2 := d1.raise Ev.SF_DEMAND scopeChip 0
  match d2.fld (sfBase k) F.HSL_SF_CFG_type with
  | 1 => d2.slotAct k
  | 2 => d2.raise Ev.SS1_STOP scopeChip (d2.fld (sfBase k) F.HSL_SF_UNITS_units)
  | _ => d2

/-- The demand of a slot ends: its action is withdrawn, done is cleared (R361, R382). -/
def Dev.slotFall (d : Dev) (k : Nat) : Dev :=
  let d1 := (d.slotBit F.HSL_SFSTAT_acting k false).slotBit F.HSL_SFDONE_done k false
  { d1 with hsl := { d1.hsl with dischBad := withBits d1.hsl.dischBad k 1 0 } }

/-- The slots demanded by the pins, by HSL_SFREQ and by an update (R354, R360, R535). -/
def Dev.demandNow (d : Dev) : Nat :=
  let pins := ((List.range 8).map (fun k =>
    if d.flag (sfBase k) F.HSL_SF_CFG_pins && d.flag 0 F.HSL_SFSTAT_pins then 2 ^ k else 0)).sum
  (if d.fld 0 F.HSL_UPD_state ≠ 0 then 255 else 0) ||| (pins ||| d.fld 0 F.HSL_SFREQ_req)

/-- Recompute the demands of the slots and let rises and falls act (R360 to R362). -/
def Dev.sfUpdate (d : Dev) : Dev :=
  let old := d.fld 0 F.HSL_SFSTAT_demand
  let new := d.demandNow
  let d1 := d.setFld 0 F.HSL_SFSTAT_demand new
  let d2 := d1.each (List.range 8) (fun k d => if bitOf old k && !bitOf new k then d.slotFall k else d)
  let d3 := d2.each (List.range 8) (fun k d => if bitOf new k && !bitOf old k then d.slotRise k else d)
  (d3.withdrawHsl.safeOutUpdate 0).safeOutUpdate 1

/-- The filter time of the STO pins in lane cycles (R354). -/
def Dev.stoFilt (d : Dev) : Nat := d.fld 0 F.HSL_STO_filt * cyclesPerUs

/-- The filtered levels as HSL_STAT shows them; a low demands the pin slots, and a difference is timed (R353, R354, R360). -/
def Dev.stoLevels (d : Dev) : Dev :=
  let a := d.hsl.stoA.out
  let b := d.hsl.stoB.out
  let d1 := (d.setFld 0 F.HSL_STAT_sto_a (flagBit a)).setFld 0 F.HSL_STAT_sto_b (flagBit b)
  let d2 := d1.setFld 0 F.HSL_SFSTAT_pins (flagBit !(a && b))
  let since := if a == b then none else some (d2.hsl.stoDiff.getD (d2.now, false))
  { d2 with hsl := { d2.hsl with stoDiff := since } }.sfUpdate

/-- STO_INPUT_CHANGE: the level of STO_A or, with `chB`, STO_B, where it is told; a new level that the pin has held for the filter
time becomes the filtered level (R354). -/
def execStoInputChange (chB : Bool) (level : Option Bool) (s : State) : Host.Outcome State Fault Refusal :=
  let d := s.dev
  let old := if chB then d.hsl.stoB else d.hsl.stoA
  let x := (old.see d.now d.ns (level.getD old.level)).served d.now d.stoFilt
  let d1 := { d with hsl := if chB then { d.hsl with stoB := x } else { d.hsl with stoA := x } }
  s.done (if x.out = old.out then d1 else d1.stoLevels)

/-- Whether the filtered levels have differed for longer than disc ms and that has not tripped yet (R353). -/
def Dev.stoApart (d : Dev) : Bool :=
  match d.hsl.stoDiff with
  | some (t, false) => decide (t + d.fld 0 F.HSL_STO_disc * cyclesPerMs < d.now)
  | _ => false

/-- STO_DISCREPANCY: the filtered levels have differed for longer than disc ms (R353). -/
def execStoDiscrepancy (s : State) : Host.Outcome State Fault Refusal :=
  let d := s.dev
  s.done (
    if d.stoApart then
      { d with hsl := { d.hsl with stoDiff := d.hsl.stoDiff.map (fun (x : Nat × Bool) => (x.1, true)) } }.hslTrip 0
    else d)

/-- A write of HSL_SFREQ (R360). -/
def Dev.writeSfreq (d : Dev) (m : Master) (v : Word) : Dev :=
  d.guarded m 0x40020248 (fun d => (d.plainWrite m 0x40020248 v).sfUpdate)

/-- HSL_SFREQ_WRITE. -/
def execHslSfreqWrite (m : Master) (v : Word) (s : State) : Host.Outcome State Fault Refusal :=
  s.done (s.dev.writeSfreq m v)

/-- Write done bits: only those of demanded slots stay; a new one lets SS1 act early and DISCH hold the low sides (R362,
R382). -/
def Dev.setDone (d : Dev) (v : Nat) : Dev :=
  let old := d.fld 0 F.HSL_SFDONE_done
  let new := v &&& d.fld 0 F.HSL_SFSTAT_demand
  (d.setFld 0 F.HSL_SFDONE_done new).each (List.range 8) (fun k d =>
    let t := d.fld (sfBase k) F.HSL_SF_CFG_type
    if bitOf new k && !bitOf old k && (t == 2 || t == 4) then d.slotAct k else d)

/-- A write of HSL_SFDONE. -/
def Dev.writeSfdone (d : Dev) (m : Master) (v : Word) : Dev :=
  d.guarded m 0x4002024C (fun d => d.setDone (bitsOf v.toNat 0 8))

/-- HSL_SFDONE_WRITE (R362). -/
def execHslSfdoneWrite (m : Master) (v : Word) (s : State) : Host.Outcome State Fault Refusal :=
  s.done (s.dev.writeSfdone m v)

/-- Replace the fault bits: a bit newly set is an HSL trip with cause sf (R353). -/
def Dev.setSffault (d : Dev) (v : Nat) : Dev :=
  let old := d.fld 0 F.HSL_SFFAULT_fault
  let d1 := d.setFld 0 F.HSL_SFFAULT_fault v
  if (List.range 8).any (fun k => bitOf v k && !bitOf old k) then d1.hslTrip 6 else d1

/-- A write of HSL_SFFAULT. -/
def Dev.writeSffault (d : Dev) (m : Master) (v : Word) : Dev :=
  d.guarded m 0x40020054 (fun d => d.setSffault (bitsOf v.toNat 0 8))

/-- HSL_SFFAULT_WRITE (R353). -/
def execHslSffaultWrite (m : Master) (v : Word) (s : State) : Host.Outcome State Fault Refusal :=
  s.done (s.dev.writeSffault m v)

/-- Whether a slot of type `t` is demanded and `ms` ms have passed since. -/
def Dev.slotAged (d : Dev) (k t ms : Nat) : Bool :=
  bitOf (d.fld 0 F.HSL_SFSTAT_demand) k && d.fld (sfBase k) F.HSL_SF_CFG_type == t &&
    decide (Store.get (fun _ => 0) d.hsl.sfAt k + ms * cyclesPerMs ≤ d.now)

/-- SS1_TIMEOUT: t_ss1 ms after the demand the STO action is applied (R362). -/
def execSs1Timeout (k : Fin 8) (s : State) : Host.Outcome State Fault Refusal :=
  let d := s.dev
  s.done (if d.slotAged k 2 (bitsOf (d.fld (sfBase k) F.HSL_SF_P1_p1) 0 16) then d.slotAct k else d)

/-- Whether t_dis ms after the demand of a DISCH slot the UV sources have not been active for 10 ms without a break (R362). -/
def Dev.dischLate (d : Dev) (k : Nat) : Bool :=
  d.slotAged k 4 (bitsOf (d.fld (sfBase k) F.HSL_SF_P1_p1) 0 16) &&
    !(!d.uvOn.isEmpty && decide (d.uvSince + 10 * cyclesPerMs ≤ d.now))

/-- DISCH_TIMEOUT: the safety firmware sets the fault bit of a slot whose discharge has taken too long (R362). -/
def execDischTimeout (k : Fin 8) (s : State) : Host.Outcome State Fault Refusal :=
  let d := s.dev
  s.done (
    if d.dischLate k then
      { d with hsl := { d.hsl with dischBad := withBits d.hsl.dischBad k.val 1 1 } }.setSffault
        (withBits (d.fld 0 F.HSL_SFFAULT_fault) k.val 1 1)
    else d)

end Sys2Proof.Machine
end

