-- ==== Sys2Proof/Machine/HslPair.lean ====
section
/-! DEFINITION. The safety pair and its watchdog (R344 to R352), the monitors of the HSL (R353), lock-out and its deliberate
reset (R367 to R369), the disable-path test (R519, R520) and the firmware update of the pair (R535, R536). -/

namespace Sys2Proof.Machine

/-! ### Watchdog (R350) -/

/-- Rotations of 16 bits. -/
def rotl16 (c n : Nat) : Nat := (c * 2 ^ n + c / 2 ^ (16 - n)) % 2 ^ 16
def rotr16 (c n : Nat) : Nat := rotl16 c (16 - n)

/-- The responses expected of SC0 and SC1. -/
def wdExpect0 (c : Nat) : Nat := rotl16 c 3 ^^^ 0x3C5A
def wdExpect1 (c : Nat) : Nat := rotr16 c 5 ^^^ 0xC3A5

/-- The next state of the shift register x^16 + x^14 + x^13 + x^11 + 1 (DEDUCED form: the bit shifted out feeds the taps). -/
def lfsrNext (c : Nat) : Nat := c / 2 ^^^ (if c % 2 = 1 then 0xB400 else 0)

/-- Post the next challenge with its copies in both safety SRAMs; the state before the first one is a free value that
is not 0. -/
def Dev.postChallenge (d : Dev) : Dev :=
  let old := d.fld 0 F.HSL_WDCHAL_chal
  let f := d.takeFree
  let d0 := if old = 0 then f.2 else d
  let c := if old = 0 then f.1.toNat % 65535 + 1 else lfsrNext old
  let d1 := (d0.setFld 0 F.HSL_WDCHAL_chal c).bumpWrap 0 F.HSL_WDCHAL_count
  let d2 := (d1.pokeN 0x1107FF00 2 c).pokeN 0x110FFF00 2 c
  { d2 with hsl := { d2.hsl with wdAt := some d2.now, resp0 := none, resp1 := none } }

/-- Whether both responses of the period have come and were right; in split mode only r0 counts (R351). -/
def Dev.wdAnswered (d : Dev) : Bool := d.hsl.resp0 == some true && (d.isSplit || d.hsl.resp1 == some true)

/-- WATCHDOG_PERIOD: the period that ends is judged, and the next challenge is posted. A pair that is held in reset has no
challenge to answer. -/
def execWatchdogPeriod (s : State) : Host.Outcome State Fault Refusal :=
  let d := s.dev
  s.done (
    match d.hsl.wdAt with
    | none => if d.hsl.pairUp then d.postChallenge else d
    | some t =>
      if t + d.fld 0 F.HSL_WD_period * cyclesPerUs ≤ d.now then
        let ok := d.wdAnswered
        let d1 := { d with hsl := { d.hsl with wdGood := ok } }
        (if ok then d1 else d1.hslTrip 1).postChallenge
      else d)

/-- Whether a response that arrives now lies in the window of its period. -/
def Dev.wdOpen (d : Dev) (t : Nat) : Bool :=
  let p := d.fld 0 F.HSL_WD_period * cyclesPerUs
  decide (100 * t + d.fld 0 F.HSL_WD_open * p ≤ 100 * d.now) && decide (d.now ≤ t + p)

/-- A response: only the first in a period counts. -/
def Dev.wdRespond (d : Dev) (sc1 : Bool) (v : Nat) : Dev :=
  match d.hsl.wdAt with
  | none => d
  | some t =>
    let c := d.fld 0 F.HSL_WDCHAL_chal
    let good := d.wdOpen t && v == (if sc1 then wdExpect1 c else wdExpect0 c)
    if sc1 then
      if d.hsl.resp1.isNone then { d with hsl := { d.hsl with resp1 := some good } } else d
    else if d.hsl.resp0.isNone then { d with hsl := { d.hsl with resp0 := some good } } else d

/-- A write of HSL_WDRESP0 or, with `sc1`, HSL_WDRESP1: from another core it is ignored (R346). -/
def Dev.writeWdResp (d : Dev) (m : Master) (sc1 : Bool) (v : Word) : Dev :=
  if m.id = (if sc1 then 3 else 2) then d.wdRespond sc1 (v.toNat % 2 ^ 16)
  else d.guardViolation m (if sc1 then 0x40020210 else 0x4002020C)

/-- HSL_WDRESP0_WRITE. -/
def execHslWdresp0Write (m : Master) (v : Word) (s : State) : Host.Outcome State Fault Refusal :=
  s.done (s.dev.writeWdResp m false v)

/-- HSL_WDRESP1_WRITE. -/
def execHslWdresp1Write (m : Master) (v : Word) (s : State) : Host.Outcome State Fault Refusal :=
  s.done (s.dev.writeWdResp m true v)

/-! ### The pair (R344 to R348) -/

/-- The pair is released. -/
def Dev.releasePair (d : Dev) : Dev :=
  { d with pairWait := none, pairReset := none, hsl := { d.hsl with pairUp := true, released := true, wdAt := none, frameAt := none } }

/-- The 1 ms for which the pair is held in reset after a loss of agreement has passed (R348). -/
def Dev.pairResetDue (d : Dev) : Bool :=
  match d.pairReset with
  | some t => decide (t + cyclesPerMs ≤ d.now) && d.fld 0 F.HSL_UPD_state == 0 && d.hsl.released && !d.hsl.reloadBad
  | none => false

/-- Lane cycles in which the second core may arrive: 256 cycles at 600 MHz (R346). -/
abbrev pairLimit : Nat := 341

/-- The cores differ at a compare point; a checkpoint that fails before the start-up tests are done is a failed test (R346, R518,
R519). -/
def Dev.pairDiffers (d : Dev) (p : PairPoint) : Dev :=
  match p with
  | .chkpt _ => if d.flag 0 F.HSL_TEST_done then d.pairLoss else (d.pairLoss.startupFail 7 none).hslTrip 8
  | .access _ => d.pairLoss

/-- A core reaches a compare point: the first does `first` and waits; the second must come in time and match, and `go` then
takes place with the answer the first one had. An injected mismatch before the end of the tests is only reported (R345, R346,
R519). -/
def Dev.pairArrive (d : Dev) (sc1 : Bool) (p : PairPoint) (first : Dev → Dev) (go : PairWait → Dev → Dev) : Dev :=
  match d.pairWait with
  | none =>
    let d1 := first d
    { d1 with pairWait := some ⟨sc1, d.now, p, d1.resp, d1.respErr⟩ }
  | some w =>
    if w.sc1 = sc1 then d
    else if pairLimit < d.now - w.since ∨ w.point ≠ p then d.pairDiffers w.point
    else
      let d1 := { d with pairWait := none }
      let d2 := if d1.flag 0 F.HSL_TEST_inj && !d1.flag 0 F.HSL_TEST_done then d1.setFld 0 F.HSL_TEST_cmp_seen 1 else d1
      go w d2

/-- The inputs of core 2 that request an interrupt of the pair (R509, R510). -/
def Dev.pairPending (d : Dev) : DWord := BitVec.ofNat 64 ((d.reg 0x40010C10).toNat + 2 ^ 32 * (d.reg 0x40010C14).toNat)

/-- Both cores take the interrupts that are pending as a CHKPT compare completes; nothing else lets the pair take one (R347). -/
def Dev.takeInterrupts (d : Dev) : Dev := { d with hsl := { d.hsl with taken := d.pairPending } }

/-- CHKPT: after the compare both cores continue, with the interrupts that are pending. In split mode, and once a debugger has
broken the pair, there is no compare point; a pair held in reset executes nothing (R345, R347, R351, R352). -/
def execChkpt (sc1 : Bool) (v : Word) (s : State) : Host.Outcome State Fault Refusal :=
  let d := s.dev
  s.done (
    if d.isSplit = true ∨ d.hsl.pairUp = false then d
    else d.pairArrive sc1 (.chkpt v) id (fun _ d => d.takeInterrupts))

/-- PAIR_COMPARE_TIMEOUT: the second core has not arrived in time (R346). -/
def execPairCompareTimeout (s : State) : Host.Outcome State Fault Refusal :=
  let d := s.dev
  s.done (
    match d.pairWait with
    | some w => if pairLimit < d.now - w.since then d.pairDiffers w.point else d
    | none => d)

/-- Whether the debug port is open: where the field bit of OTP does not close it, and after a debug opening (R392, R407). -/
def Dev.debugPort (d : Dev) : Bool := !d.flag 0 F.CEL_STAT_field || d.fld 0 F.CEL_STAT_state == 4

/-- DEBUG_HALT: debug access to a safety core through the open debug port breaks the pair; a closed port gives none (R352, R407,
R408). -/
def execDebugHalt (_sc1 : Bool) (s : State) : Host.Outcome State Fault Refusal :=
  let d := s.dev
  s.done (
    if d.debugPort then
      ({ d with pairWait := none }.setFld 0 F.HSL_STAT_debug_split 1).raise Ev.DEBUG_SPLIT scopeChip 0 |>.hslTrip 7
    else d)

/-- A write of HSL_SPLIT: before the first release of the pair it selects split mode; later it is ignored (R351, R383). -/
def Dev.writeSplit (d : Dev) (m : Master) (v : Word) : Dev :=
  if masterPriv m && !d.hsl.released then
    (d.setFld 0 F.HSL_SPLIT_split (v.toNat % 2)).setFld 0 F.HSL_STAT_split (v.toNat % 2)
  else d.guardViolation m 0x40020004

/-- HSL_SPLIT_WRITE. -/
def execHslSplitWrite (m : Master) (v : Word) (s : State) : Host.Outcome State Fault Refusal :=
  s.done (s.dev.writeSplit m v)

/-! ### Monitors (R353, R540, R541) -/

/-- TICK_MONITOR_FAIL: the interval that the HSL sees between two ticks, or since the last one, in lane cycles; less than half
or more than 1.5 of its own copy of the period trips. The ticks that FRAME_TICK emits lie within it (R353). -/
def execTickMonitorFail (interval : Nat) (s : State) : Host.Outcome State Fault Refusal :=
  let d := s.dev
  let out := decide (2 * interval < d.hsl.tickP ∨ 3 * d.hsl.tickP < 2 * interval)
  let d1 := d.setLive 0x40020050 (2 ^ 2) out
  s.done (if out then d1.hslTrip 2 else d1)

/-- CLOCK_MONITOR_FAIL: a count of reference cycles in 4,096 HSL cycles; outside 2,432 to 2,688 it trips. -/
def execClockMonitorFail (count : Nat) (s : State) : Host.Outcome State Fault Refusal :=
  let out := decide (count < 2432 ∨ 2688 < count)
  let d := s.dev.setLive 0x40020050 (2 ^ 3) out
  s.done (if out then d.hslTrip 3 else d)

/-- Note whether a supply lies outside its window. -/
def Dev.setRailOut (d : Dev) (rail : Rail) (out : Bool) : Dev :=
  let bit := match rail with | .core => 0 | .ana => 1 | .io => 2 | .adc => 3 | .lnk => 4 | .drv => 5
  { d with railsOut := withBits d.railsOut bit 1 (flagBit out) }

/-- The monitor window of a supply in mV (R540). -/
def railWindow : Rail → Nat × Nat
  | .core => (705, 795)
  | .ana => (1660, 1940)
  | .io => (3050, 3550)
  | .adc => (4600, 5400)
  | .lnk => (4600, 5400)
  | .drv => (10000, 14000)

/-- Whether a voltage in mV lies outside the monitor window of a supply. -/
def railOutside (rail : Rail) (mv : Nat) : Bool := decide (mv < (railWindow rail).1 ∨ (railWindow rail).2 < mv)

/-- SUPPLY_OUT_OF_WINDOW: the voltage at which a supply has lain for 1 µs, in mV. Outside its window it trips, and the core supply
makes a chip fault of its own too; inside it the condition has ended (R39, R40, R540). -/
def execSupplyOutOfWindow (rail : Rail) (mv : Nat) (s : State) : Host.Outcome State Fault Refusal :=
  let out := railOutside rail mv
  let d := (s.dev.setRailOut rail out)
  let d1 := d.setLive 0x40020050 (2 ^ 4) (d.railsOut != 0)
  let d2 := if rail = .core then d1.setLive 0x40020040 (2 ^ 3) out else d1
  s.done (
    if out then
      let d3 := d2.hslTrip 4
      if rail = .core then d3.chipFault 3 else d3
    else d2)

/-- The voltage in mV down to which a supply serves its outputs (R541). -/
def holdLevel : HoldRail → Nat
  | .ana => 1500
  | .io => 2800
  | .lnk => 4000
  | .drv => 8000

/-- SUPPLY_BELOW_HOLD_LEVEL: the voltage of a supply in mV; at or below its hold level the outputs that it serves go low
(R541). -/
def execSupplyBelowHoldLevel (rail : HoldRail) (mv : Nat) (s : State) : Host.Outcome State Fault Refusal :=
  let bit := match rail with | .ana => 0 | .io => 1 | .lnk => 2 | .drv => 3
  let low := decide (mv ≤ holdLevel rail)
  let d := { s.dev with lowRails := withBits s.dev.lowRails bit 1 (flagBit low) }
  let d1 := d.each (List.range 128) (fun k d =>
    if d.unpowered k then d.setLeg k { (d.leg k).allOff d.stepNow with soft := false } else d)
  s.done (if low = true ∧ bit < 2 then (d1.safeOutLow 0).safeOutLow 1 else d1)

/-! ### Lock-out reset (R368, R369) -/

/-- Disarm the reset sequence. -/
def Dev.disarm (d : Dev) : Dev := d.setFld 0 F.HSL_STAT_reset_armed 0

/-- A write of HSL_UNLOCK: the right word in lock-out arms the sequence (R368, R369). -/
def Dev.writeUnlock (d : Dev) (m : Master) (v : Word) : Dev :=
  d.guarded m 0x40020058 (fun d =>
    if d.flag 0 F.HSL_STAT_lockout && v == 0x5AFE5AFE then
      let d1 := d.setFld 0 F.HSL_STAT_reset_armed 1
      let low := if d1.flag 0 F.HSL_STAT_safe_ack then none else some d1.now
      { d1 with hsl := { d1.hsl with armedAt := d1.now, ackLow := low } }
    else d.raise Ev.LOCKOUT_RESET_REFUSED scopeChip 0)

/-- HSL_UNLOCK_WRITE. -/
def execHslUnlockWrite (m : Master) (v : Word) (s : State) : Host.Outcome State Fault Refusal :=
  s.done (s.dev.writeUnlock m v)

/-- SAFE_ACK_PRESS: SAFE_ACK goes low (R356, R368). -/
def execSafeAckPress (s : State) : Host.Outcome State Fault Refusal :=
  let d := s.dev
  s.done (
    if d.flag 0 F.HSL_STAT_safe_ack then
      { d.setFld 0 F.HSL_STAT_safe_ack 0 with hsl := { d.hsl with ackLow := some d.now } }
    else d)

/-- Whether a feedback of SAFE_OUT still disagrees (R357). -/
def Dev.sbcLive (d : Dev) : Bool := d.safeFbDiffers 0 || d.safeFbDiffers 1

/-- Every condition behind CHIP_CAUSE and HSL_TRIP has ended, no safety function is at fault, the pair agrees and was not
broken by a debugger (R369). -/
def Dev.resetReady (d : Dev) : Bool :=
  d.flag 0 F.HSL_STAT_sto_a == d.flag 0 F.HSL_STAT_sto_b && d.hsl.wdGood && d.liveAt 0x40020050 == 0 &&
    d.liveAt 0x40020040 == 0 && !d.uvRunning && d.fld 0 F.HSL_SFFAULT_fault == 0 &&
    !d.flag 0 F.HSL_STAT_debug_split && (!d.flag 0 F.HSL_TEST_done || d.flag 0 F.HSL_TEST_pass) && !d.sbcLive &&
    d.pairReset.isNone && d.fld 0 F.CEL_STAT_state != 5

/-- The end of lock-out: causes clear, lock_pend clears, units with their legs off become DISABLED (R369, R552). -/
def Dev.lockoutReset (d : Dev) : Dev :=
  let d1 := ((d.setReg 0x40020040 0).setReg 0x40020050 0).setFld 0 F.HSL_STAT_lockout 0
  let d2 := d1.each (List.range 32) (fun u d =>
    let x := d.unit u
    let d3 := d.setUnit u { x with lockPend := false }
    if x.st = .locked ∧ (d3.unitLegs u).all (fun k => (d3.leg k).atRest) = true then d3.toDisabled u else d3.checkUnit u)
  d2.withdrawHsl.raise Ev.LOCKOUT_RESET scopeChip 0

/-- SAFE_ACK_RELEASE: SAFE_ACK goes high; in an armed sequence after a low of at least 100 ms lock-out ends or the release is
refused (R369). -/
def execSafeAckRelease (s : State) : Host.Outcome State Fault Refusal :=
  let d := s.dev.setFld 0 F.HSL_STAT_safe_ack 1
  let d1 := { d with hsl := { d.hsl with ackLow := none } }
  s.done (
    match s.dev.hsl.ackLow with
    | some t =>
      if s.dev.flag 0 F.HSL_STAT_reset_armed && !s.dev.flag 0 F.HSL_STAT_safe_ack &&
          decide (max t d.hsl.armedAt + 100 * cyclesPerMs ≤ d.now) then
        if d1.resetReady then d1.disarm.lockoutReset
        else d1.disarm.raise Ev.LOCKOUT_RESET_REFUSED scopeChip 0
      else d1
    | none => d1)

/-- RESET_ARM_TIMEOUT: 5 s after arming (R369). -/
def execResetArmTimeout (s : State) : Host.Outcome State Fault Refusal :=
  let d := s.dev
  s.done (
    if d.flag 0 F.HSL_STAT_reset_armed && decide (d.hsl.armedAt + 5 * cyclesPerSecond ≤ d.now) then
      d.disarm.raise Ev.LOCKOUT_RESET_TIMEOUT scopeChip 0
    else d)

/-! ### Start-up tests (R519, R520) -/

/-- A write of HSL_TEST: inj acts before done only, run starts the test once per power-on. -/
def Dev.writeHslTest (d : Dev) (m : Master) (v : Word) : Dev :=
  d.guarded m 0x40020710 (fun d =>
    let d1 := if d.flag 0 F.HSL_TEST_done then d else d.setFld 0 F.HSL_TEST_inj (v.toNat % 2)
    if bitOf v.toNat 4 && d1.hsl.testAt.isNone then { d1 with hsl := { d1.hsl with testAt := some d1.now } } else d1)

/-- HSL_TEST_INJ_WRITE (R519). -/
def execHslTestInjWrite (m : Master) (v : Word) (s : State) : Host.Outcome State Fault Refusal :=
  s.done (s.dev.writeHslTest m v)

/-- HSL_TEST_RUN (R520). -/
def execHslTestRun (m : Master) (v : Word) (s : State) : Host.Outcome State Fault Refusal :=
  s.done (s.dev.writeHslTest m v)

/-- The first owned leg with a checked channel that does not show off (R520). -/
def Dev.notOff (d : Dev) : Option Nat :=
  (List.range 128).find? (fun k => (d.owner k).isSome &&
    ((d.checksOff k .high && !d.showsOff k (d.leg k) .high) || (d.checksOff k .low && !d.showsOff k (d.leg k) .low)))

/-- The first failing leg of the test and its cause: `line` is the first leg at which the disable line, or with true a DRV output,
did not read back; at one leg these are tested before the feedback (R520, R521). -/
def Dev.testFailure (d : Dev) (line : Option (LegId × Bool)) : Option (Nat × Nat) :=
  match line, d.notOff with
  | some (k, drv), some j => if k.val ≤ j then some (k.val, if drv then 2 else 1) else some (j, 3)
  | some (k, drv), none => some (k.val, if drv then 2 else 1)
  | none, some j => some (j, 3)
  | none, none => none

/-- DISABLE_PATH_TEST_END: on success pass is set and the legs are released; the first failure is recorded, raises
STARTUP_FAIL for step 7 and trips the HSL (R518, R520). -/
def execDisablePathTestEnd (line : Option (LegId × Bool)) (s : State) : Host.Outcome State Fault Refusal :=
  let d := s.dev
  let ended := fun (d : Dev) => d.raise Ev.HSL_TEST_DONE scopeChip
    (pack [(d.fld 0 F.HSL_TEST_pass, 1), (d.fld 0 F.HSL_TEST_leg, 7)])
  s.done (
    if d.hsl.testAt.isNone || d.flag 0 F.HSL_TEST_done then d
    else
      let d1 := d.setFld 0 F.HSL_TEST_done 1
      match d.testFailure line with
      | none => ended (d1.setFld 0 F.HSL_TEST_pass 1)
      | some (k, c) =>
        let d2 := (d1.setFld 0 F.HSL_TEST_leg k).setFld 0 F.HSL_TEST_cause c
        (ended (d2.startupFail 7 none)).hslTrip 8)

/-! ### Safety firmware update (R534 to R536) -/

/-- Enter UPDATE: STO on the motion units, the pair held, every slot demanded (R535). -/
def Dev.enterUpdate (d : Dev) : Dev :=
  let d1 := { d.setFld 0 F.HSL_UPD_state 1 with hsl := { d.hsl with updAt := d.now, updOk := false } }.holdPair
  let d2 := d1.each (List.range 32) (fun u d =>
    if (d.unit u).active && updClass (d.fld (unitBase u) F.UNIT_CFG_class) then d.stoUnit u else d)
  d2.sfUpdate.raise Ev.SF_UPDATE_ENTER scopeChip 0

/-- Raise the stored Vintage of an image type (R399). -/
def Dev.raiseVintage (d : Dev) (t v : Nat) : Dev := d.setFld (4 * (t - 1)) F.CEL_VINT_v (max v (d.fld (4 * (t - 1)) F.CEL_VINT_v))

/-- Raise the stored Vintage of the type measured at a destination. -/
def Dev.commitCask (d : Dev) (dest : Nat) : Dev :=
  match Store.get (fun _ => none) d.cellar.meas dest with
  | some m => d.raiseVintage m.typ m.vintage
  | none => d

/-- Leave the update: the watchdog counts again from its next period, the demands of the update end, the Vintage of the
safety firmware rises (R536). -/
def Dev.exitUpdate (d : Dev) : Dev :=
  let d1 := d.setFld 0 F.HSL_UPD_state 0
  let d2 := { d1 with hsl := { d1.hsl with resp0 := some true, resp1 := some true } }
  (d2.sfUpdate.commitCask 2).raise Ev.SF_UPDATE_EXIT scopeChip 0

/-- A write of HSL_UPD: req = 1 in NORMAL enters UPDATE, req = 0 in STARTING ends it (R535, R536). -/
def Dev.writeUpd (d : Dev) (m : Master) (v : Word) : Dev :=
  d.guarded m 0x40020700 (fun d =>
    let d1 := d.plainWrite m 0x40020700 v
    match d1.fld 0 F.HSL_UPD_state, bitOf v.toNat 0 with
    | 0, true => d1.enterUpdate
    | 2, false => d1.exitUpdate
    | _, _ => d1)

/-- HSL_UPD_REQ_WRITE. -/
def execHslUpdReqWrite (m : Master) (v : Word) (s : State) : Host.Outcome State Fault Refusal :=
  s.done (s.dev.writeUpd m v)

/-- SAFETY_CASK_LOADED: the Cask verified for destination 2 is in both SRAMs; the pair is released and STARTING entered (R536). -/
def execSafetyCaskLoaded (s : State) : Host.Outcome State Fault Refusal :=
  let d := s.dev
  s.done (if d.fld 0 F.HSL_UPD_state = 1 ∧ d.hsl.updOk = true then d.releasePair.setFld 0 F.HSL_UPD_state 2 else d)

/-- UPDATE_TIME_LIMIT: UPDATE and STARTING have lasted tmax × 100 ms; cause wd trips (R536). -/
def execUpdateTimeLimit (s : State) : Host.Outcome State Fault Refusal :=
  let d := s.dev
  s.done (
    if d.fld 0 F.HSL_UPD_state ≠ 0 ∧ d.hsl.updAt + d.fld 0 F.HSL_UPD_tmax * 100 * cyclesPerMs ≤ d.now then
      { d with hsl := { d.hsl with wdGood := false } }.hslTripNow 1
    else d)

end Sys2Proof.Machine
end

