-- ==== Sys2Proof/Machine/Fabric.lean ====
section
/-! DEFINITION. Memory as the fabric masters reach it, the ports of block memories, the fabric's arbitration and transaction tags,
NVS sectors, and the scrubber (R22, R27 to R33, R430 to R441). -/

namespace Sys2Proof.Machine

/-! ### The chip's indirect space (R446, R502) -/

/-- What an unwritten indirect word reads as; the chip's space lies first, then 2^32 words for each region. -/
def indWordReset (k : Nat) : Word := if k < 2 ^ 32 then indReset k else 0

/-- A word of an indirect space. -/
def Dev.indGet (d : Dev) (k : Nat) : Word := Store.get indWordReset d.ind k
def Dev.indSet (d : Dev) (k : Nat) (w : Word) : Dev := { d with ind := Store.set indWordReset d.ind k w }

/-- A field of the NVS registers. -/
def Dev.nvsFld (d : Dev) (f : Fld) : Nat := fget (d.indGet f.off) f
def Dev.setNvsFld (d : Dev) (f : Fld) (v : Nat) : Dev := d.indSet f.off (fput (d.indGet f.off) f v)

/-- Count in an NVS register; the count stays at its largest value. -/
def Dev.bumpNvs (d : Dev) (f : Fld) : Dev := d.setNvsFld f (satInc f.w (d.nvsFld f))

/-! ### NVS -/

/-- `n` bytes of NVS from offset `a` up. -/
def Dev.nvsBytes (d : Dev) (a : Nat) : Nat → List Byte
  | 0 => []
  | n + 1 => Store.get unwrittenByte d.nvs a :: d.nvsBytes (a + 1) n

/-- Whether a sector cannot be decoded (R440). -/
def Dev.sectorBad (d : Dev) (k : Nat) : Bool := Store.get (fun _ => false) d.nvsBad k
def Dev.setSectorBad (d : Dev) (k : Nat) (b : Bool) : Dev := { d with nvsBad := Store.set (fun _ => false) d.nvsBad k b }

/-- A sector decode has failed: counted, shown and raised with the sector (R440). -/
def Dev.sectorLost (d : Dev) (k : Nat) : Dev :=
  ((((d.setSectorBad k true).bumpNvs F.NVS_CNT2_ue).setNvsFld F.NVS_UE_SECT_sector k).raise Ev.NVS_UNCORR scopeChip (k % 2 ^ 16))

/-- What a read of a sector meets: nothing, a corrected word, or a sector decode that recovers it or fails (R432, R440). -/
def Dev.sectorRead (d : Dev) (k : Nat) : EccSeen → Bool × Dev
  | .clean => if d.sectorBad k then (false, d.sectorLost k) else (true, d)
  | .corrected => if d.sectorBad k then (false, d.sectorLost k) else (true, d.bumpNvs F.NVS_CNT_ce)
  | .uncorrectable recovers =>
    if recovers && !d.sectorBad k then (true, d.bumpNvs F.NVS_CNT_bch) else (false, d.sectorLost k)

/-! ### Accesses of fabric masters (R430 to R436) -/

/-- An access by a master the memory does not admit: an error response and MEM_ACCESS_REFUSED (R431). -/
def Dev.accessRefused (d : Dev) (m a : Nat) : Dev := { d.raise Ev.MEM_ACCESS_REFUSED m a with respErr := true }

/-- An access that lies nowhere, or is no aligned register access (R495). -/
def Dev.busError (d : Dev) (m a : Nat) : Dev := { d.raise Ev.BUS_ERROR m a with resp := 0, respErr := true }

/-- A read of `n` bytes by master `m`: the number read, or none with an error response. -/
def Dev.memRead (d : Dev) (m a n : Nat) : Option Nat × Dev :=
  match memKind a with
  | none => (none, d.busError m a)
  | some k =>
    if !d.admits k m || (k == .nvs && a < 0x30100000 && m != 5) then (none, d.accessRefused m a)
    else match k with
      | .nvs =>
        let r := d.sectorRead ((a - 0x30000000) / 1024) .clean
        (if r.1 then some (leNat (d.nvsBytes (a - 0x30000000) n)) else none, r.2)
      | .intake _ | .bootRom => (some (d.loadN a n), d)
      | _ => if d.isBad a then (none, d.uncorrectable a) else (some (d.loadN a n), d)

/-- A region was armed in this lane cycle: a write to an inactive memory acts first (R530). -/
def Dev.armedHere (d : Dev) (r : Nat) : Bool := (d.rack r).armAt == d.now + 1 && d.fld (rgnReg r) F.RGN_RACK_STAT_state == 1

/-- An accepted write to an inactive memory clears loaded; the arm of the same cycle, which needs it unless for trims, is refused
with reason 3 (R524, R530). -/
def Dev.unload (d : Dev) (r : Nat) : Dev :=
  let d1 := d.setFld (rgnReg r) F.RGN_RACK_CTRL_loaded 0
  if d.armedHere r && d.fld (rgnReg r) F.RGN_RACK_CTRL_what != 2 then
    (d1.setFld (rgnReg r) F.RGN_RACK_STAT_state 0).raise Ev.RACK_REFUSED (scopeRgn r) 3
  else d1

/-- A write to a program slot or table bank: the active one, and any of a region in ARMED or PROBATION, is refused; in IDLE
the write clears loaded (R82, R83, R524). -/
def Dev.imageWrite (d : Dev) (b : Nat) (active : Bool) (a n v : Nat) : Dev :=
  if active || (d.fld (rgnReg (b / 4)) F.RGN_RACK_STAT_state != 0 && !d.armedHere (b / 4)) then
    d.raise Ev.LANE_MEM_REFUSED (scopeBlk b) a
  else (d.unload (b / 4)).storeN a n v

/-- Whether an address lies in the locked range of a verified Cask (R396). -/
def Dev.inLock (d : Dev) (a : Nat) : Bool :=
  match d.cellar.lock with
  | some (base, n) => decide (base ≤ a ∧ a < base + n)
  | none => false

/-- A write of `n` bytes by master `m`; false with an error response. Read-only memories ignore it (R10, R84). -/
def Dev.memWrite (d : Dev) (m a n v : Nat) : Bool × Dev :=
  match memKind a with
  | none => (false, d.busError m a)
  | some k =>
    if k == .nvs then
      (false, { (d.bumpNvs F.NVS_CNT2_refused).raise Ev.NVS_WRITE_REFUSED scopeChip 0 with respErr := true })
    else if !d.admits k m then (false, d.accessRefused m a)
    else if m != 5 && d.inLock a then (true, d.raise Ev.CEL_LOCK_VIOLATION scopeChip 0)
    else match k with
      | .program b s => (true, d.imageWrite b (d.activeSlot (b / 4) == s) a n v)
      | .table b t => (true, d.imageWrite b (d.activeBank (b / 4) == t) a n v)
      | .intake _ | .bootRom => (true, d)
      | _ => (true, d.storeN a n v)

/-- A beat fails its end-to-end code (R435). -/
def Dev.e2eFail (d : Dev) (m a : Nat) : Dev :=
  let d1 := { ((d.bump 0 F.MEM_CHIP_e2e).errAddr 0x40040104 a).raise Ev.E2E_ERROR m a with respErr := true }
  match (memKind a).bind MemKind.region with
  | some r => d1.regionFault r 1
  | none => d1

/-- PROGRAM_MEMORY_WRITE: a 32-bit write of a master to a program slot or table bank of a block (R82, R83, R524). -/
def execProgramMemoryWrite (m : Master) (b : BlockId) (off : BitVec 20) (v : Word) (s : State) :
    Host.Outcome State Fault Refusal :=
  let a := blkBase b + off.toNat / 4 * 4
  s.done (match memKind a with
    | some (.program _ _) | some (.table _ _) => (s.dev.memWrite m.id a 4 v.toNat).2
    | _ => s.dev)

/-! ### The end-to-end code (R434) -/

/-- The code of a beat: its address, byte enables and data, most significant bit first. -/
def e2eCode (a be v : Nat) : Nat := crcMsb 8 0x2F 0xFF (beBytes 4 a ++ beBytes 1 be ++ beBytes 8 v)

/-- The byte enables and the data lines of an access of `n` bytes at `a`. -/
def beatEnables (a n : Nat) : Nat := (2 ^ n - 1) * 2 ^ (a % 8) % 256
def beatData (a v : Nat) : Nat := v * 2 ^ (8 * (a % 8)) % 2 ^ 64

/-- Whether the far end finds the code of a beat right: the code covers what was sent, the check what has arrived. -/
def noisePasses (x : BeatNoise) (a n v : Nat) : Bool :=
  e2eCode a (beatEnables a n) (beatData a v) ==
    e2eCode (a ^^^ x.addr.toNat) (beatEnables a n ^^^ x.be.toNat) (beatData a v ^^^ x.data.toNat)

/-- The data that arrives at the far end for an access of `n` bytes. -/
def noiseArrives (x : BeatNoise) (a n v : Nat) : Nat :=
  bitsOf (beatData a v ^^^ x.data.toNat) (8 * (a % 8)) (8 * n)

/-- No disturbance. -/
def noNoise : BeatNoise := ⟨0, 0, 0⟩

/-! ### Arbitration and transaction tags (R27 to R33) -/

/-- Safety-class masters (R27), and the order in which they are granted: HSL bridge, SC0, SC1, Cellar (R28). -/
def safetyClass (m : Nat) : Bool := decide (2 ≤ m ∧ m ≤ 5)
def safetyOrder : List Nat := [4, 2, 3, 5]

/-- Transactions a master may have in flight (R27). -/
def masterLimit (m : Nat) : Nat :=
  if m < 2 then 16 else if m < 4 then 8 else if m = 4 then 4 else if m = 5 then 8 else if m < 10 then 32
  else if m < 18 then 16 else 2

/-- The weight of a shared master (R30). -/
def Dev.fabWeight (d : Dev) (m : Nat) : Nat :=
  let f := fun (a i : Nat) => bitsOf (d.reg a).toNat (4 * i) 4
  if m < 2 then f 0x40040000 m
  else if m < 10 then f 0x40040000 (m - 4)
  else if m < 16 then f 0x40040004 (m - 10)
  else if m < 18 then f 0x40040004 (m - 10)
  else if m < 26 then f 0x40040008 (m - 18)
  else f 0x4004000C (m - 26)

/-- Tags a master holds, and those of a class. -/
def Dev.tagsOf (d : Dev) (m : Nat) : Nat := (d.fab.running.filter (fun x => x.m.id.val == m)).length
def Dev.tagSum (d : Dev) (safety : Bool) : Nat :=
  (d.fab.running.filter (fun x => safetyClass x.m.id.val == safety)).length

/-- Whether a request of a master can take a tag now: 16 are reserved for the safety class, 240 form the pool (R27, R32). -/
def Dev.tagFree (d : Dev) (m : Nat) : Bool :=
  decide (d.tagsOf m < masterLimit m) &&
    (if safetyClass m then decide (d.tagSum true < 16 ∨ d.tagSum false + (d.tagSum true - 16) < 240)
     else decide (d.tagSum false + (d.tagSum true - 16) < 240))

/-- FAB_TAGS as the tags in use give it (R30). -/
def Dev.showTags (d : Dev) : Dev :=
  (d.setFld 0 F.FAB_TAGS_in_use (d.tagSum true + d.tagSum false)).setFld 0 F.FAB_TAGS_safety_in_use (d.tagSum true)

/-- Whether a master has a request at its port that could be accepted now. DEDUCED: one that waits for its limit or for a tag does
not take part in the ring (R29, R33). -/
def Dev.requests (d : Dev) (m : Nat) : Bool := d.fab.waiting.any (fun x => x.m.id.val == m) && d.tagFree m

/-- The shared masters, in the order of the ring from the holder of the grant on (R29). -/
def sharedRing (holder : Nat) : List Nat :=
  let l := (List.range 28).filter (fun m => !safetyClass m)
  l.filter (fun m => decide (holder < m)) ++ l.filter (fun m => decide (m ≤ holder))

/-- The master that the next arbitration grants: the safety class first, then the holder of the grant within its weight, then
the next requesting master in the ring (R28, R29). -/
def Dev.fabWinner (d : Dev) : Option Nat :=
  match safetyOrder.find? (fun m => d.requests m) with
  | some m => some m
  | none =>
    if d.requests d.fab.holder ∧ d.fab.grants < d.fabWeight d.fab.holder ∧ safetyClass d.fab.holder = false then some d.fab.holder
    else (sharedRing d.fab.holder).find? (fun m => d.requests m)

/-- Accept the oldest request of a master: it leaves its port and holds a tag; a shared master's grants are counted (R29, R31,
R33). -/
def Dev.fabAccept (d : Dev) (m : Nat) : Dev :=
  match d.fab.waiting.find? (fun x => x.m.id.val == m) with
  | none => d
  | some x =>
    let f := d.fab
    let f1 := { f with waiting := f.waiting.erase x, running := f.running ++ [x] }
    let f2 := if safetyClass m then f1
      else if m = f.holder ∧ f.grants < d.fabWeight m then { f1 with grants := f.grants + 1 }
      else { f1 with holder := m, grants := 1 }
    ({ d with fab := f2 } : Dev).showTags

/-- A request comes to its master's port (R31). -/
def Dev.fabPresent (d : Dev) (m : Master) (w : FabWork) (noise : BeatNoise) : Dev :=
  { d with fab := { d.fab with waiting := d.fab.waiting ++ [⟨m, w, noise, d.now, false, .going, 0, false⟩] } }

/-- The requests with the first that meets a condition changed. -/
def changeFirst (p : FabReq → Bool) (f : FabReq → FabReq) : List FabReq → List FabReq
  | [] => []
  | x :: t => if p x then f x :: t else x :: changeFirst p f t

/-- What disturbs the oldest request of a master. -/
def Dev.fabDisturb (d : Dev) (m : Nat) (noise : BeatNoise) : Dev :=
  { d with fab := { d.fab with waiting := changeFirst (fun x => x.m.id.val == m) (fun x => { x with noise := noise }) d.fab.waiting } }

/-- FABRIC_TAG_GRANT: a request that a master presents joins those that wait at its port; where the arbitration grants this
master now, its oldest request is accepted and takes a tag (R28 to R33). `noise` is what disturbs its beats (R434). -/
def execFabricTagGrant (m : Master) (x : Option PairAccess) (noise : BeatNoise) (s : State) : Host.Outcome State Fault Refusal :=
  let d := match x with
    | some a => s.dev.fabPresent m (.access a) noise
    | none => if noise = noNoise then s.dev else s.dev.fabDisturb m.id.val noise
  s.done (if d.fabWinner = some m.id.val then d.fabAccept m.id.val else d)

/-- Lane cycles in 4096 cycles of the fabric (R33). -/
abbrev starveCycles : Nat := 3277

/-- Whether a request has waited 4096 fabric cycles, which last 1 ns each, and has not been reported (R33). -/
def Dev.starving (d : Dev) (x : FabReq) : Bool := !x.told && decide (x.since + starveCycles ≤ d.now)

/-- FABRIC_STARVE: raised once for a request of the master that has waited 4096 fabric cycles; it goes on waiting (R33). -/
def execFabricStarve (m : MasterId) (s : State) : Host.Outcome State Fault Refusal :=
  let d := s.dev
  let of := fun (x : FabReq) => x.m.id == m && d.starving x
  s.done (if d.fab.waiting.any of then
      let d1 := { d with fab := { d.fab with waiting := changeFirst of (fun x => { x with told := true }) d.fab.waiting } }
      ((d1.setFld 0 F.FAB_STARVE_master m).bump 0 F.FAB_STARVE_count).raise Ev.FABRIC_STARVE (scopeMaster m) 0
    else d)

/-! ### The scrubber -/

/-- What the scrubber finds in one word: a corrected error, or an uncorrectable one (R436, R437). -/
def Dev.scrubWord (d : Dev) (x : Word × Bool) : Dev :=
  if x.2 then d.corrected x.1.toNat
  else ({ d with bad := Store.set (fun _ => false) d.bad (x.1.toNat / 8) true } : Dev).uncorrectable x.1.toNat

/-- Whether the next pass of the scrubbers is due (R437). -/
def Dev.scrubDue (d : Dev) : Bool := decide (d.scrubAt + d.fld 0 F.MEM_SCRUB_period * cyclesPerMs ≤ d.now)

/-- The next pass begins: SCRUB_LATE where the last has not completed; every word known as uncorrectable is met again (R437). -/
def Dev.scrubBegin (d : Dev) (late : Bool) : Dev :=
  let d1 := if late then d.raise Ev.SCRUB_LATE scopeChip 0 else d
  (d1.bad.filter (fun x => x.2)).foldl (fun d x => d.uncorrectable (8 * x.1)) { d1 with scrubAt := d1.now }

/-- SCRUB_PASS: a pass begins where it is due, every MEM_SCRUB.period ms, with the last one `late` or completed; the pass under way
finds errors, true for a corrected one (R437). -/
def execScrubPass (late : Bool) (found : List (Word × Bool)) (s : State) : Host.Outcome State Fault Refusal :=
  let d := if s.dev.scrubDue then s.dev.scrubBegin late else s.dev
  s.done (found.foldl Dev.scrubWord d)

end Sys2Proof.Machine
end

