-- ==== Sys2Proof/Machine/Nvs.lean ====
section
/-! DEFINITION. The NVS controller: submission, commands, window and patrol (R439 to R446). -/

namespace Sys2Proof.Machine

/-- Whether `n` bytes at an address lie in chip shared SRAM. -/
def inChipRam (a n : Nat) : Bool := decide (0x12000000 ≤ a ∧ a + n ≤ 0x121C0000)

/-- NVS_STAT as the queue and the boot pointer give it (R439, R446). -/
def Dev.showNvs (d : Dev) : Dev :=
  ((d.setNvsFld F.NVS_STAT_queued d.nvsq.length).setNvsFld F.NVS_STAT_busy (if d.nvsq.isEmpty then 0 else 1)).setNvsFld
    F.NVS_STAT_boot_slot (if d.vault.bootSlot then 1 else 0)

/-- The queue with a command of master `m` behind the one that runs: those of the Cellar stand ahead of every other queued one
(R441). -/
def nvsEnter (m : Nat) (a : Word) : List (Nat × Word) → List (Nat × Word)
  | [] => [(m, a)]
  | h :: q => h :: if m = 5 then q.filter (fun x => x.1 == 5) ++ (m, a) :: q.filter (fun x => x.1 != 5) else q ++ [(m, a)]

/-- A write of NVS_SUBMIT: queued, or refused with NVS_QFULL (R441). -/
def Dev.nvsSubmit (d : Dev) (m : Nat) (addr : Word) : Dev :=
  if 8 ≤ d.nvsq.length ∨ addr.toNat % 32 ≠ 0 ∨ inChipRam addr.toNat 32 = false then
    (d.bumpNvs F.NVS_CNT2_refused).raise Ev.NVS_QFULL scopeChip 0
  else { d with nvsq := nvsEnter m addr d.nvsq, nvsAt := if d.nvsq.isEmpty then d.now else d.nvsAt }.showNvs

/-- NVS_SUBMIT (R441). -/
def execNvsSubmit (m : Master) (addr : Word) (s : State) : Host.Outcome State Fault Refusal :=
  s.done (s.dev.nvsSubmit m.id addr)

/-- The area of an offset, as its end, and whether master `m` may read and write it by command (R439). -/
def Dev.nvsArea (d : Dev) (m off : Nat) : Nat × Bool × Bool :=
  let host := m == 0 || m == 1 || m == 5
  let slot := fun (b : Bool) => host && d.vault.bootSlot != b
  if off < 0x100000 then (0x100000, m == 5, m == 5)
  else if off < 0x300000 then (0x300000, decide (m < 10), slot false)
  else if off < 0x500000 then (0x500000, decide (m < 10), slot true)
  else if off < 0x600000 then (0x600000, decide (m < 10), host)
  else if off < 0x800000 then (0x800000, decide (m < 10), host)
  else (0x4000000, decide (m < 10), host || ((m == 2 || m == 3) && !d.isSplit))

/-- A command as its descriptor gives it (R442). -/
structure NvsJob where
  op : Nat
  off : Nat
  src : Nat
  len : Nat
  pattern : Nat
  deriving DecidableEq, Repr

def Dev.nvsJob (d : Dev) (a : Nat) : NvsJob :=
  { op := d.loadN a 4, off := d.loadN (a + 4) 4, src := d.loadN (a + 8) 4, len := d.loadN (a + 12) 4,
    pattern := d.loadN (a + 16) 4 }

/-- The code with which a command ends before it touches a sector; 0 for none (R442). -/
def Dev.nvsCheck (d : Dev) (m : Nat) (j : NvsJob) : Nat :=
  let area := d.nvsArea m j.off
  let fills := j.op == 2
  if j.op = 0 ∨ 3 < j.op ∨ j.off % 8 ≠ 0 ∨ j.len % 8 ≠ 0 ∨ j.len < 8 ∨ 1048576 < j.len ∨ 0x4000000 ≤ j.off ∨
      area.1 < j.off + j.len ∨ (fills = false ∧ (j.src % 8 ≠ 0 ∨ inChipRam j.src j.len = false)) then 1
  else if (if j.op = 3 then area.2.1 else area.2.2) = false then 2
  else if fills = false ∧ (List.range (j.len / 8)).any (fun i => d.isBad (j.src + 8 * i)) = true then 3
  else 0

/-- The bytes a command lays down or compares at `n` offsets from `i` of its range. -/
def Dev.nvsData (d : Dev) (j : NvsJob) (i n : Nat) : List Byte :=
  if j.op = 2 then (List.range n).map (fun k => BitVec.ofNat 8 (j.pattern / 2 ^ (8 * ((i + k) % 4)))) else d.bytes (j.src + i) n

/-- One sector of a command from byte `i` of its range: the code that ends the command or 0, and the bytes handled (R443). -/
def Dev.nvsSector (d : Dev) (j : NvsJob) (i : Nat) : Nat × Nat × Dev :=
  let at_ := j.off + i
  let k := at_ / 1024
  let n := min (j.len - i) (1024 - at_ % 1024)
  let data := d.nvsData j i n
  if j.op = 3 then
    if d.sectorBad k then (4, n, d.sectorLost k)
    else if d.nvsBytes at_ n == data then (0, n, d) else (5, n, d)
  else if d.sectorBad k && n != 1024 then (4, n, d.sectorLost k)
  else (0, n, { d with nvs := storeBytes d.nvs at_ data }.setSectorBad k false)

/-- The sectors of a command in ascending order; the code with the sectors completed. -/
def Dev.nvsSectors (d : Dev) (j : NvsJob) (i done : Nat) : Nat → Nat × Nat × Dev
  | 0 => (0, done, d)
  | fuel + 1 =>
    if j.len ≤ i then (0, done, d)
    else
      let r := d.nvsSector j i
      if r.1 ≠ 0 then (r.1, done, r.2.2) else r.2.2.nvsSectors j (i + r.2.1) (done + 1) fuel

/-- Chip firmware slots a write touches are no longer verified (R533). -/
def Dev.unverify (d : Dev) (j : NvsJob) : Dev :=
  let hits := fun (lo hi : Nat) => decide (j.op ≠ 3 ∧ j.off < hi ∧ lo < j.off + j.len)
  let drop := fun (d : Dev) (k : Nat) (b : Bool) =>
    if b then { d with slotOk := Store.set (fun _ => false) d.slotOk k false } else d
  drop (drop d 0 (hits 0x100000 0x300000)) 1 (hits 0x300000 0x500000)

/-- Run the first queued command: its sectors are updated, its status is written and NVS_DONE raised (R442, R443). -/
def Dev.nvsRun (d : Dev) : Dev :=
  match d.nvsq with
  | [] => d
  | (m, a) :: rest =>
    let j := d.nvsJob a.toNat
    let bad := d.nvsCheck m j
    let r := if bad = 0 then (d.unverify j).nvsSectors j 0 0 1026 else (bad, 0, d)
    let status := pack [(1, 1), (if r.1 = 0 then 0 else 1, 1), (0, 2), (r.1, 4), (0, 8), (min r.2.1 0xFFFF, 16)]
    (({ r.2.2 with nvsq := rest, nvsAt := r.2.2.now }.showNvs).storeN (a.toNat + 0x14) 4 status).raise Ev.NVS_DONE scopeChip a.toNat

/-- Whether the command that runs has had 30 µs for each sector it touches. DESIGN CHOICE: it then ends by itself, where no command has
ended it sooner (R443, assumption 98). -/
def Dev.nvsDue (d : Dev) : Bool :=
  match d.nvsq with
  | [] => false
  | (m, a) :: _ =>
    let j := d.nvsJob a.toNat
    let n := if d.nvsCheck m j = 0 then (j.off + j.len + 1023) / 1024 - j.off / 1024 else 0
    decide (d.nvsAt + 30 * cyclesPerUs * n ≤ d.now)

/-- Loss of supply while a sector is updated: the first sector of the command that runs holds its old or its new content, a mixture, or
cannot be decoded (R444). -/
def Dev.nvsInterrupt (d : Dev) : Dev :=
  match d.nvsq with
  | [] => d
  | (m, a) :: _ =>
    let j := d.nvsJob a.toNat
    let f := d.takeFree
    let k := j.off / 1024
    let n := min j.len (1024 - j.off % 1024)
    let mixed := fun (l : List Byte) => (List.range l.length).map (fun i =>
      if Config.freeBool (f.2.free + i) then l.getD i 0 else Store.get unwrittenByte d.nvs (j.off + i))
    if d.nvsCheck m j ≠ 0 ∨ j.op = 3 then d
    else match f.1.toNat % 4 with
      | 0 => f.2
      | 1 => (f.2.nvsSector j 0).2.2
      | 2 => { f.2 with nvs := storeBytes d.nvs j.off (mixed (d.nvsData j 0 n)), free := f.2.free + n }
      | _ => f.2.setSectorBad k true

/-- Run the first queued command if its operation is one that `p` selects. -/
def Dev.nvsServe (d : Dev) (p : Nat → Bool) : Dev :=
  match d.nvsq with
  | [] => d
  | (_, a) :: _ => if p (d.nvsJob a.toNat).op then d.nvsRun else d

/-- NVS_WRITE: the first queued command is a write; an unknown operation ends here too, with code 1 (R442, R443). -/
def execNvsWrite (s : State) : Host.Outcome State Fault Refusal := s.done (s.dev.nvsServe (fun op => op != 2 && op != 3))

/-- NVS_FILL (R443). -/
def execNvsFill (s : State) : Host.Outcome State Fault Refusal := s.done (s.dev.nvsServe (fun op => op == 2))

/-- NVS_VERIFY (R442). -/
def execNvsVerify (s : State) : Host.Outcome State Fault Refusal := s.done (s.dev.nvsServe (fun op => op == 3))

/-- NVS_WINDOW_READ: a 32-bit read through the window; a sector that cannot be decoded gives an error response (R431, R439,
R440). -/
def execNvsWindowRead (m : Master) (off : BitVec 26) (ecc : EccSeen) (s : State) : Host.Outcome State Fault Refusal :=
  let d := s.dev
  let o := off.toNat / 4 * 4
  s.done (
    if !d.admits .nvs m.id || (decide (o < 0x100000) && m.id != 5) then d.accessRefused m.id (0x30000000 + o)
    else
      let r := d.sectorRead (o / 1024) ecc
      if r.1 then r.2.answer (BitVec.ofNat 32 (leNat (r.2.nvsBytes o 4))) else { r.2 with resp := 0, respErr := true })

/-- NVS_WINDOW_WRITE: refused (R441). -/
def execNvsWindowWrite (m : Master) (off : BitVec 26) (s : State) : Host.Outcome State Fault Refusal :=
  s.done (s.dev.memWrite m.id (0x30000000 + off.toNat) 4 0).2

/-- Whether the next read of the patrol is due (R445). -/
def Dev.patrolDue (d : Dev) : Bool := decide (d.patrolAt + d.nvsFld F.NVS_SCRUB_interval * cyclesPerMs ≤ d.now)

/-- NVS_PATROL: every NVS_SCRUB.interval ms the next sector is read as R440 reads it; a lost one is not changed (R445). -/
def execNvsPatrol (ecc : EccSeen) (s : State) : Host.Outcome State Fault Refusal :=
  let d := s.dev
  s.done (
    if d.patrolDue then { (d.sectorRead d.patrol ecc).2 with patrol := (d.patrol + 1) % 65536, patrolAt := d.now } else d)

end Sys2Proof.Machine
end

