-- ==== Sys2Proof/Machine/Shed.lean ====
section
/-! DEFINITION. The hardware that acts on sealed commands at a commit point: the window guard (R241 to R247) and the shed
sequencers (R291 to R301), with the window comparators that a sequencer listens to (R213, R296). -/

namespace Sys2Proof.Machine

/-! ### Commands in the slots of a leg -/

/-- The effective command: the sealed next command if there is one, otherwise the current command (R241). -/
def Leg.effective (l : Leg) : QWord :=
  match l.next with
  | some x => if x.isSealed then x.cmd else l.cur
  | none => l.cur

/-- Whether a sealed command waits in the next slot. -/
def Leg.hasSealed (l : Leg) : Bool := match l.next with | some x => x.isSealed | none => false

/-- A leg in ARMED or RUN. -/
def Leg.isLive (l : Leg) : Bool := l.st == .armed || l.st == .run

/-- A command with one of its fields replaced (R159). -/
def withCmpA (c : QWord) (v : Nat) : QWord := BitVec.ofNat 128 (withBits c.toNat 0 24 v)
def withPhi (c : QWord) (v : Nat) : QWord := BitVec.ofNat 128 (withBits c.toNat 64 24 v)
def withDac (c : QWord) (v : Nat) : QWord := BitVec.ofNat 128 (withBits c.toNat 112 10 v)
def withOff (c : QWord) : QWord := BitVec.ofNat 128 (withBits c.toNat 96 4 0)

/-- Place a sealed command in the next slot of a leg in ARMED or RUN; a slot that a trip or a state change of this cycle
has cleared stays clear (R245, R292). -/
def Dev.placeSealed (d : Dev) (k : Nat) (c : QWord) : Dev :=
  let l := d.leg k
  if l.isLive && l.tripAt != some d.now then d.setLeg k { l with next := some ⟨c, true, Fin.ofNat 16 (k / 8)⟩ } else d

/-- Rewrite a leg's sealed next command, or place a sealed copy of its current command if that changes it. -/
def Dev.rewrite (d : Dev) (k : Nat) (f : QWord → QWord) : Dev :=
  let l := d.leg k
  if f l.effective = l.effective then d else d.placeSealed k (f l.effective)

/-! ### The window guard -/

/-- What the guard works with: the points selected, Q_f and Q_r, and the largest dead times (R241, R242). -/
structure GuardTerms where
  valley : Bool
  peak : Bool
  qf : Int
  qr : Int
  dtf : Int
  dtr : Int
  deriving DecidableEq, Repr

/-- First address of the guard registers of a unit, to which offsets are added (R247). -/
def wgBase (r u : Nat) : Nat := rgnReg r + 0x10 * u

/-- The largest of a list. -/
def listMax : List Nat → Nat
  | [] => 0
  | x :: t => max x (listMax t)

/-- The terms over a set of legs (R242, R243). -/
def Dev.guardTerms (d : Dev) (r u : Nat) (legs : List Nat) : GuardTerms :=
  let sp := d.fld (wgBase r u) F.WG_CFG_sp
  let win := d.fld (wgBase r u) F.WG_CFG_t_win
  let dtf := listMax (legs.map (fun k => d.deadTime k .low))
  let dtr := listMax (legs.map (fun k => d.deadTime k .high))
  ⟨sp != 2, sp == 2 || sp == 3, ((win + dtf + 1) / 2 : Nat), ((win + dtr + 1) / 2 : Nat), dtf, dtr⟩

/-- The carrier centre c0 and the half period of a leg (R241). -/
def Dev.centre (d : Dev) (k : Nat) : Int := (d.legPeriod k / 4 : Nat)
def Dev.halfPeriod (d : Dev) (k : Nat) : Int := (d.legPeriod k / 2 : Nat)

/-- Whether the window cannot be restored over a set of legs (R243). -/
def Dev.cannotRestore (d : Dev) (g : GuardTerms) (legs : List Nat) : Bool :=
  legs.any (fun k => (g.valley && decide (d.centre k < g.qf)) ||
    (g.peak && decide (d.halfPeriod k - g.qr < d.centre k)))

/-- The condition of R243 as judged at an enable request: over every owned leg in mode 0. -/
def Dev.guardInfeasible (d : Dev) (r u : Nat) : Bool :=
  let legs := (d.unitLegs u).filter (fun k => d.legMode k == 0)
  d.cannotRestore (d.guardTerms r u legs) legs

/-- Whether the guard acts on a unit: class traction or auxiliary inverter, and en set (R241, R247). -/
def Dev.isGuarded (d : Dev) (r u : Nat) : Bool :=
  let c := d.fld (unitBase u) F.UNIT_CFG_class
  (c == 1 || c == 6) && d.flag (wgBase r u) F.WG_CFG_en

/-- Whether a leg takes part (R241). -/
def Dev.takesPart (d : Dev) (k : Nat) : Bool :=
  let c := (d.leg k).effective
  (d.leg k).isLive && d.legMode k == 0 && cmdHs c == 1 && (cmdLs c == 1 || cmdLs c == 3)

/-- The scale of one leg for one point (R242). -/
def valleyScale (g : GuardTerms) (c0 a : Int) : Int := if g.qf ≤ a then 65536 else 65536 * (c0 - g.qf) / (c0 - a)
def peakScale (g : GuardTerms) (c0 half a : Int) : Int :=
  if a ≤ half - g.qr then 65536 else 65536 * (half - g.qr - c0) / (a - c0)

/-- The scale of one leg over the selected points. -/
def Dev.legScale (d : Dev) (g : GuardTerms) (k : Nat) : Int :=
  let a : Int := cmpA (d.leg k).effective
  min (if g.valley then valleyScale g (d.centre k) a else 65536)
    (if g.peak then peakScale g (d.centre k) (d.halfPeriod k) a else 65536)

/-- The smallest of a list of integers that none exceeds `top`. -/
def listMin (top : Int) : List Int → Int
  | [] => top
  | x :: t => min x (listMin top t)

/-- The smaller selected window of one leg (R241). -/
def Dev.legWindow (d : Dev) (g : GuardTerms) (k : Nat) : Int :=
  let a : Int := cmpA (d.leg k).effective
  min (if g.valley then 2 * a - g.dtf else 2 ^ 24 - 1) (if g.peak then 2 * (d.halfPeriod k - a) - g.dtr else 2 ^ 24 - 1)

/-- cmp_a scaled about the carrier centre, rounded towards it (R244). -/
def scaleCmpA (c0 a s : Int) : Int :=
  if a < c0 then c0 - (c0 - a) * s / 65536 else c0 + (a - c0) * s / 65536

/-- The window guard of a unit at a commit point of its lead lane's block (R241 to R246). -/
def Dev.guardUnit (d : Dev) (r u : Nat) : Dev :=
  if d.isGuarded r u then
    let legs := (d.unitLegs u).filter (fun k => d.takesPart k)
    let a := wgBase r u
    if legs.isEmpty then
      ((d.setFld a F.WG_STAT_scale 65536).setFld a F.WG_STAT_limited 0).setFld a F.WG_STAT_infeasible
        (if d.guardInfeasible r u then 1 else 0)
    else
      let g := d.guardTerms r u legs
      let bad := d.cannotRestore g legs
      let s := if bad then 0 else listMin 65536 (legs.map (fun k => d.legScale g k))
      let win := max 0 (listMin (2 ^ 24 - 1) (legs.map (fun k => d.legWindow g k)))
      let d1 := (((d.setFld a F.WG_STAT_scale s.toNat).setFld a F.WG_STAT_limited (if s < 65536 then 1 else 0)).setFld a
        F.WG_STAT_infeasible (if bad then 1 else 0)).setFld a F.WG_WIN_win win.toNat
      if s < 65536 then
        let d2 := d1.each legs (fun k d =>
          let c := (d.leg k).effective
          d.placeSealed k (withCmpA c (scaleCmpA (d.centre k) (cmpA c) s).toNat))
        let d3 := (d2.bumpWrap a F.WG_CNT_count).raise Ev.DEPTH_LIMITED (scopeRgn r) u
        d3.each (d3.laneSet u) (fun b d => d.condNextOf b (2 ^ 9))
      else d1
  else d

/-! ### Shed sequencers -/

/-- First address of the registers of sequencer `q` of a region (R301). -/
def shdBase (r q : Nat) : Nat := rgnReg r + 0x40 * q

/-- A sequencer. -/
def Dev.shed (d : Dev) (r q : Nat) : ShedSeq := Store.get (fun _ => ShedSeq.initial) d.sheds (2 * r + q)
def Dev.setShed (d : Dev) (r q : Nat) (x : ShedSeq) : Dev :=
  { d with sheds := Store.set (fun _ => ShedSeq.initial) d.sheds (2 * r + q) x }

/-- The states of SHD_STAT.state (R293). -/
abbrev shdIdle : Nat := 0
abbrev shdShedding : Nat := 1
abbrev shdDwell : Nat := 2
abbrev shdHoldOff : Nat := 3
def Dev.shdState (d : Dev) (r q : Nat) : Nat := d.fld (shdBase r q) F.SHD_STAT_state

/-- Chip numbers of the region-local legs that a mask names, ascending. -/
def maskLegs (r mask : Nat) : List Nat := ((List.range 32).filter (fun j => bitOf mask j)).map (fun j => 32 * r + j)

/-- The served legs and the active legs in phase order (R291). -/
def Dev.servedLegs (d : Dev) (r q : Nat) : List Nat := maskLegs r (d.fld (shdBase r q) F.SHD_LEGS_legs)
def Dev.activeLegs (d : Dev) (r q : Nat) : List Nat := maskLegs r (d.fld (shdBase r q) F.SHD_ACT_legs)
def Dev.shedLegs (d : Dev) (r q : Nat) : List Nat :=
  (d.servedLegs r q).filter (fun k => !(d.activeLegs r q).contains k)

/-- Replace the set of active legs. -/
def Dev.setActive (d : Dev) (r q : Nat) (legs : List Nat) : Dev :=
  (d.setFld (shdBase r q) F.SHD_ACT_legs ((legs.map (fun k => 2 ^ (k % 32))).sum)).setFld (shdBase r q) F.SHD_STAT_n_act
    legs.length

/-- Enter a state of the sequencer; outside SHEDDING no step and no leg is shown. -/
def Dev.shdEnter (d : Dev) (r q st : Nat) : Dev :=
  let d1 := d.setFld (shdBase r q) F.SHD_STAT_state st
  if st = shdShedding then d1
  else (d1.setFld (shdBase r q) F.SHD_STAT_j 0).setFld (shdBase r q) F.SHD_STAT_leg 0

/-- The reference leg: the lowest-numbered active leg in ARMED or RUN (R292). -/
def Dev.referenceLeg (d : Dev) (r q : Nat) : Option Nat := (d.activeLegs r q).find? (fun k => (d.leg k).isLive)

/-- The reference value (R292). -/
def Dev.referenceValue (d : Dev) (r q : Nat) : Option Nat := (d.referenceLeg r q).map (fun k => cmdDac (d.leg k).effective)

/-- The spread offset of rank `i` among `n` phases (R292). -/
def spreadPhi (p n i : Nat) : Nat := i * p / n

/-- The legs of a list with their ranks. -/
def ranked (legs : List Nat) : List (Nat × Nat) := (List.range legs.length).zip legs

/-- Give every active leg its spread offset (R292). -/
def Dev.spread (d : Dev) (r q : Nat) : Dev :=
  let legs := d.activeLegs r q
  (ranked legs).foldl (fun d x => d.rewrite x.2 (fun c => withPhi c (spreadPhi (d.legPeriod x.2) legs.length x.1))) d

/-- Keep every shed leg off (R292). -/
def Dev.holdShed (d : Dev) (r q : Nat) : Dev := d.each (d.shedLegs r q) (fun k d => d.rewrite k withOff)

/-- Step `j` of a shed of the active phase of highest rank (R294). -/
def Dev.shedStep (d : Dev) (r q j ref : Nat) : Dev :=
  let legs := d.activeLegs r q
  let n := legs.length
  let ramp := d.fld (shdBase r q) F.SHD_CFG_ramp
  let d1 := d.setFld (shdBase r q) F.SHD_STAT_j j
  let d2 := (ranked legs).foldl (fun d x =>
    let p := d.legPeriod x.2
    let old := spreadPhi p n x.1
    if x.1 + 1 = n then d.rewrite x.2 (fun c => withDac (withPhi c old) (ref * (ramp - j) / ramp))
    else d.rewrite x.2 (fun c => withPhi c (old + (spreadPhi p (n - 1) x.1 - old) * j / ramp))) d1
  if ramp ≤ j then d2.setShed r q { d2.shed r q with mark := some .complete } else d2

/-- A load step in SHEDDING: the shed is aborted with the offsets for the phases before it (R297). -/
def Dev.shedAbort (d : Dev) (r q : Nat) : Dev :=
  let legs := d.activeLegs r q
  let cur := match d.referenceLeg r q with | some k => (d.leg k).cur | none => 0
  let d1 := (ranked legs).foldl (fun d x =>
    let phi := spreadPhi (d.legPeriod x.2) legs.length x.1
    if x.1 + 1 = legs.length then d.placeSealed x.2 (withPhi cur phi)
    else d.placeSealed x.2 (withPhi (d.leg x.2).effective phi)) d
  let d2 := (d1.shdEnter r q shdHoldOff).bump (shdBase r q) F.SHD_CNT_aborts
  (d2.setShed r q { d2.shed r q with mark := none, count := 0 }).raise Ev.SHED_ABORT (scopeRgn r)
    (d.fld (shdBase r q) F.SHD_CFG_unit)

/-- Make shed legs active again: each takes a sealed copy of the reference leg's command, every active leg its offset for
the new number of phases; IDLE and DWELL go to a new DWELL, HOLD_OFF and its count stay (R295, R298). -/
def Dev.shedRestore (d : Dev) (r q : Nat) (back : List Nat) (cmd : QWord) : Dev :=
  let legs := (d.servedLegs r q).filter (fun k => (d.activeLegs r q).contains k || back.contains k)
  let d1 := (d.setActive r q legs).each back (fun k d => d.placeSealed k cmd)
  let d2 := d1.spread r q
  if d2.shdState r q = shdHoldOff then d2
  else (d2.shdEnter r q shdDwell).setShed r q { d2.shed r q with mark := none, count := 0 }

/-- A load step: an abort in SHEDDING; elsewhere, with step_all, every shed leg is restored (R297, R298). Without an active
leg in ARMED or RUN nothing happens (R292). -/
def Dev.loadStep (d : Dev) (r q : Nat) : Dev :=
  match d.referenceLeg r q with
  | none => d
  | some k =>
    let held := d.shdState r q == shdHoldOff
    let x := d.shed r q
    let d1 := d.setShed r q { x with stepAt := if held then x.stepAt else d.now + 1, mark := none }
    if d1.shdState r q = shdShedding then d1.shedAbort r q
    else if d1.flag (shdBase r q) F.SHD_CFG_step_all && !(d1.shedLegs r q).isEmpty then
      (d1.shedRestore r q (d1.shedLegs r q) (d1.leg k).cur).raise Ev.SHED_RESTORE (scopeRgn r) 0
    else d1

/-- The counts of a sequencer at a commit point at which it neither sheds nor restores (R293, R294, R299). -/
def Dev.shedCounts (d : Dev) (r q ref : Nat) : Dev :=
  let x := d.shed r q
  let n := d.fld (shdBase r q) F.SHD_STAT_n_act
  let dwell := d.fld (shdBase r q) F.SHD_THR2_dwell
  match d.shdState r q with
  | 2 =>
    d.setShed r q { x with count := x.count + 1, mark := if dwell ≤ x.count + 1 then some .dwellEnd else none }
  | 3 =>
    let past := decide (d.fld (shdBase r q) F.SHD_CFG_holdoff ≤ x.count + 1)
    d.setShed r q { x with count := x.count + 1, mark := if past then some .holdEnd else none }
  | _ =>
    if dwell ≤ x.low ∧ d.fld (shdBase r q) F.SHD_THR2_n_min < n ∧ ref ≤ d.fld (shdBase r q) F.SHD_THR_shed then
      d.setShed r q { x with mark := some .start }
    else d

/-- What an enabled sequencer does at a commit point of its unit's lead lane's block (R292 to R300). -/
def Dev.shedCommit (d : Dev) (r q : Nat) : Dev :=
  match d.referenceValue r q, d.referenceLeg r q with
  | some ref, some lead =>
    let a := shdBase r q
    let x := d.shed r q
    let rise := match x.prev with
      | some p => d.flag a F.SHD_CFG_rate_en && decide (p + d.fld a F.SHD_THR2_rate < ref)
      | none => false
    let acted := x.stepAt == d.now + 1
    let low := if ref ≤ d.fld a F.SHD_THR_shed then x.low + 1 else 0
    let d1 := d.setShed r q { x with prev := some ref, low := low, mark := none }
    let count := fun (e : Dev) => if d.shdState r q = shdHoldOff then e.shedCounts r q ref else e
    let d2 :=
      if acted then d1.spread r q
      else if rise then count ((d1.spread r q).loadStep r q)
      else if d1.shdState r q = shdShedding then d1.shedStep r q (d1.fld a F.SHD_STAT_j + 1) ref
      else if d.fld a F.SHD_THR_add ≤ ref ∧ (d1.shedLegs r q) ≠ [] then
        count (d1.shedRestore r q ((d1.shedLegs r q).take 1) (d1.leg lead).effective)
      else (d1.spread r q).shedCounts r q ref
    d2.holdShed r q
  | _, _ => d.setShed r q { d.shed r q with prev := none }

/-- Whether sequencer `q` of a region is enabled and serves unit `u` (R291). -/
def Dev.shedServes (d : Dev) (r q u : Nat) : Bool :=
  d.flag (shdBase r q) F.SHD_CFG_en && d.fld (shdBase r q) F.SHD_CFG_unit == u

/-- SHED_START: the shed of the active phase of highest rank begins with step 1 (R294). -/
def execShedStart (r : RegionId) (q : Fin 2) (s : State) : Host.Outcome State Fault Refusal :=
  let d := s.dev
  let x := d.shed r q
  s.done (
    match (if x.mark = some .start then d.referenceValue r q else none) with
    | some ref =>
      let d1 := (d.shdEnter r q shdShedding).setFld (shdBase r q) F.SHD_STAT_leg (((d.activeLegs r q).getLastD 0) % 32)
      (d1.setShed r q { x with mark := none }).shedStep r q 1 ref
    | none => d)

/-- SHED_COMPLETE: at step R the shedding leg is shed and its command off (R294). -/
def execShedComplete (r : RegionId) (q : Fin 2) (s : State) : Host.Outcome State Fault Refusal :=
  let d := s.dev
  let x := d.shed r q
  s.done (
    if x.mark = some .complete then
      let d1 := (d.setActive r q (d.activeLegs r q).dropLast).shdEnter r q shdDwell
      let d2 := (d1.setShed r q { x with mark := none, count := 0 }).bump (shdBase r q) F.SHD_CNT_sheds
      d2.holdShed r q
    else d)

/-- SHED_DWELL_END: from DWELL to IDLE (R293). -/
def execShedDwellEnd (r : RegionId) (q : Fin 2) (s : State) : Host.Outcome State Fault Refusal :=
  let d := s.dev
  let x := d.shed r q
  s.done (if x.mark = some .dwellEnd then (d.setShed r q { x with mark := none, count := 0 }).shdEnter r q shdIdle else d)

/-- SHED_HOLD_OFF_END: from HOLD_OFF to IDLE (R299). -/
def execShedHoldOffEnd (r : RegionId) (q : Fin 2) (s : State) : Host.Outcome State Fault Refusal :=
  let d := s.dev
  let x := d.shed r q
  s.done (if x.mark = some .holdEnd then (d.setShed r q { x with mark := none, count := 0 }).shdEnter r q shdIdle else d)

/-- At entry into ENABLING every served leg is active (R291). -/
def Dev.shedEnable (d : Dev) (u : Nat) : Dev :=
  d.each (List.range 8) (fun i d =>
    let r := i / 2
    let q := i % 2
    if d.shedServes r q u then
      ((d.setActive r q (d.servedLegs r q)).shdEnter r q shdIdle).setShed r q ShedSeq.initial
    else d)

/-- Whether the sequencers that serve a unit conflict: one names a leg the unit does not own, or two name the unit (R291). -/
def Dev.shedConflict (d : Dev) (u : Nat) : Bool :=
  let serving := (List.range 8).filter (fun i => d.shedServes (i / 2) (i % 2) u)
  decide (1 < serving.length) || serving.any (fun i => (d.servedLegs (i / 2) (i % 2)).any (fun k => d.owner k != some u))

/-- A window comparator whose filtered output goes active is a load step for the sequencers that listen to it (R296 to R298). -/
def Dev.windowSteps (d : Dev) (r n : Nat) : Dev :=
  d.each [0, 1] (fun q d =>
    if d.flag (shdBase r q) F.SHD_CFG_en && d.flag (shdBase r q) F.SHD_CFG_win_en && d.fld (shdBase r q) F.SHD_CFG_win == n &&
        (d.unit (d.fld (shdBase r q) F.SHD_CFG_unit)).active then
      d.loadStep r q
    else d)

/-- WINDOW_COMPARATOR_ACTIVE: the voltage at the input of a window comparator; once the raw output it makes has held for filt lane
cycles the filtered output follows (R212, R213, R296). -/
def execWindowComparatorActive (r : RegionId) (n : Fin 16) (uv : Option Nat) (s : State) :
    Host.Outcome State Fault Refusal :=
  let d := s.dev.seeWindow r n uv
  s.done (
    if d.filterDone r n then
      let d1 := d.windowFollows r n
      if d.raw r n then d1.windowSteps r n else d1
    else d)

/-! ### Writes -/

/-- A write of SHD_CFG: while the unit named before or after it is not DISABLED, a change of en, unit or step_all is refused
and the other fields take effect (R301). -/
def Dev.writeShdCfg (d : Dev) (m : Master) (r q : Nat) (v : Word) : Dev :=
  let a := shdBase r q + 0x1A00
  let old := (d.reg a).toNat
  let d1 := d.plainWrite m a v
  let new := (d1.reg a).toNat
  let busy := (d.unit (bitsOf old 4 5)).st != .disabled || (d.unit (bitsOf new 4 5)).st != .disabled
  let change := bitsOf old 0 2 != bitsOf new 0 2 || bitsOf old 4 5 != bitsOf new 4 5
  if busy && change then
    (d1.setReg a (BitVec.ofNat 32 (withBits (withBits new 0 2 (bitsOf old 0 2)) 4 5 (bitsOf old 4 5)))).raise
      Ev.SHD_CFG_REFUSED (scopeRgn r) a
  else d1

/-- A write of SHD_LEGS, refused while the unit is not DISABLED (R301). -/
def Dev.writeShdLegs (d : Dev) (m : Master) (r q : Nat) (v : Word) : Dev :=
  let a := shdBase r q + 0x1A04
  if d.reg a ≠ v ∧ (d.unit (d.fld (shdBase r q) F.SHD_CFG_unit)).st ≠ .disabled then
    d.raise Ev.SHD_CFG_REFUSED (scopeRgn r) a
  else d.plainWrite m a v

end Sys2Proof.Machine
end

