-- ==== Sys2Proof/Machine/UnitEnable.lean ====
section
/-! DEFINITION. Enable requests and the write of UNIT_CTRL (R19, R59, R331 to R333, R337, R418, R516). -/

namespace Sys2Proof.Machine

/-- The leg counts a class admits (R19). -/
def classCounts (c : Nat) : List Nat :=
  match c with
  | 1 => [3, 6, 9, 12]
  | 2 => (List.range 16).map (fun n => n + 1)
  | 3 => [1, 2, 3, 4]
  | 4 | 6 => [3, 6]
  | 5 => [4, 8, 12, 16]
  | 7 => [3]
  | 8 => [2]
  | _ => []

/-- Whether a class admits a leg of this kind (R19). -/
def classKind (c k : Nat) : Bool :=
  if c = 6 then true else if c = 7 ∨ c = 8 then isDirect k else !isDirect k

/-- The legs of a unit match its class (R19). -/
def Dev.classFits (d : Dev) (u : Nat) : Bool :=
  let c := d.fld (unitBase u) F.UNIT_CFG_class
  let legs := d.unitLegs u
  (classCounts c).contains legs.length && legs.all (fun k => classKind c k)

/-- The blocks of the lane set have one sub-tick factor (R59). -/
def Dev.uniformSubtick (d : Dev) (u : Nat) : Bool :=
  match d.laneSet u with
  | [] => true
  | b :: t => t.all (fun c => d.subFactor c == d.subFactor b)

/-- Check 3 of R332. -/
def Dev.configFits (d : Dev) (r u : Nat) : Bool :=
  d.classFits u && d.uniformSubtick u && !(d.isGuarded r u && d.guardInfeasible r u) && !d.shedConflict u &&
    !(d.fld (4 * u) F.HSL_SAFE_kind == 2 && !d.holdsSlot u)

/-- Check 2 of R332. -/
def Dev.causesClear (d : Dev) (u : Nat) : Bool :=
  d.fld (unitBase u) F.UNIT_CAUSE_cause == 0 &&
    (d.unitLegs u).all (fun k => (d.leg k).st != .fault && d.fld (legReg k) F.LEG_FAULT_cause == 0)

/-- Registers of tag binding `n` (R411). -/
def tagBase (n : Nat) : Nat := 0x10 * n

/-- Whether binding `n` is valid and serves unit `u`. -/
def Dev.bindsUnit (d : Dev) (n u : Nat) : Bool :=
  d.flag (tagBase n) F.TAG_MAP_valid && d.fld (tagBase n) F.TAG_MAP_unit == u

/-- Check 4 of R332: every valid binding is in AUTH_OK or has resp 1 or 2 (R418). -/
def Dev.tagsAllow (d : Dev) (u : Nat) : Bool :=
  (List.range 32).all (fun n => !d.bindsUnit n u || d.fld (tagBase n) F.TAG_STAT_state == 3 ||
    d.fld (tagBase n) F.TAG_MAP_resp == 1 || d.fld (tagBase n) F.TAG_MAP_resp == 2)

/-- The first check of R332 that fails, as its event; also before the disable-path test has passed and before the device is
ready (R516, R517). -/
def Dev.enableRefusal (d : Dev) (r u : Nat) : Option Nat :=
  if d.flag 0 F.HSL_STAT_lockout || !d.flag 0 F.HSL_TEST_pass || !d.flag 0 F.DEV_STAT_ready then
    some Ev.ENABLE_REFUSED_LOCKED
  else if !d.causesClear u then some Ev.ENABLE_REFUSED_FAULT
  else if !d.configFits r u then some Ev.ENABLE_REFUSED_CONFIG
  else if !d.tagsAllow u then some Ev.ENABLE_REFUSED_TAG
  else none

/-- An enable request is refused: its event, and UNIT_CNT.refused. -/
def Dev.refuseEnable (d : Dev) (r u ev : Nat) : Dev := (d.bump (unitBase u) F.UNIT_CNT_refused).raise ev (scopeRgn r) u

/-- A leg enters ARMED; a free-running counter starts, delayed by its phase offset (R156, R177). -/
def Dev.armLeg (d : Dev) (k : Nat) : Dev :=
  let l := d.leg k
  if l.st ≠ .off then d else d.setLeg k { d.startCounter k l with st := .armed, modeHold := none }

/-- The lane cycle after an accepted enable request: ENABLING with the legs ARMED, the attribution and the shed sequencer start anew, the program
checks its configuration again (R224, R291, R331). -/
def Dev.acceptEnable (d : Dev) (u : Nat) : Dev :=
  let d1 := d.setUnit u { d.unit u with
    st := .enabling, action := .none, window := none, decided := false, deciding := false, accepted := false, enTicks := 0, exiting := false, exitLegs := [] }
  let d2 := (d1.setReg (unitReg u + 0x10) 0).each (d1.unitLegs u) (fun k d => d.armLeg k)
  let p := Store.get (fun _ => Program.initial) d2.progs u
  let q : Program := { p with
    checked := false, taken := false, start := false, stopAsked := false, healthy := 2 ^ (d2.unitLegs u).length - 1 }
  let d3 := { d2 with progs := Store.set (fun _ => Program.initial) d2.progs u q }
  ((d3.shedEnable u).reapplyHsl u).checkUnit u

/-- An enable request in every state; of a guarded unit it shows whether the window can be restored (R243, R332, R333). -/
def Dev.enableUnit (d : Dev) (r u : Nat) : Dev :=
  match (d.unit u).st with
  | .enabling | .run => d
  | .shutting | .settle | .hold => d.refuseEnable r u Ev.ENABLE_REFUSED_BUSY
  | .locked => d.refuseEnable r u Ev.ENABLE_REFUSED_LOCKED
  | .disabled =>
    let d1 := if d.isGuarded r u then d.setFld (wgBase r u) F.WG_STAT_infeasible (flagBit (d.guardInfeasible r u)) else d
    match d1.enableRefusal r u with
    | some ev => d1.refuseEnable r u ev
    | none => d1.setUnit u { d1.unit u with accepted := true }

/-- The accepted enable requests, the decisions and the notifications of the last lane cycle reach the units (R323, R324, R332). -/
def Dev.unitCycle (d : Dev) : Dev :=
  let us := d.units.map (fun x => x.1)
  let d1 := d.each us (fun u d => d.applyDecision u)
  let d2 := d1.notices.foldl (fun d x => d.notifyUnit x.1 x.2) { d1 with notices := [] }
  d2.each us (fun u d => if (d.unit u).accepted && (d.unit u).st == .disabled then d.acceptEnable u
    else if (d.unit u).accepted then d.setUnit u { d.unit u with accepted := false } else d)

/-- A write of UNIT_CTRL: with disable, an enable of the same write is refused as BUSY (R333 to R337). -/
def Dev.writeUnitCtrl (d : Dev) (r u : Nat) (v : Word) : Dev :=
  if d.unitHere r u then
    let en := bitOf v.toNat 0
    let dis := bitOf v.toNat 1
    let d1 := if dis then d.unitDisable u else d
    let d2 := if en then (if dis then d1.refuseEnable r u Ev.ENABLE_REFUSED_BUSY else d1.enableUnit r u) else d1
    let d3 := if bitOf v.toNat 2 then d2.ascExit r u else d2
    if bitOf v.toNat 3 then d3.unitRelease r u else d3
  else d

/-- UNIT_ENABLE: a write of UNIT_CTRL. -/
def execUnitEnable (_m : Master) (r : RegionId) (u : UnitId) (v : Word) (s : State) : Host.Outcome State Fault Refusal :=
  s.done (s.dev.writeUnitCtrl r u v)

end Sys2Proof.Machine
end

