-- ==== Sys2Proof/Machine/Cellar.lean ====
section
/-! DEFINITION. The Cellar: its mailbox, keys, Casks, Vintages, attestation, sealed secrets, the debug port and MACsec keys
(R386 to R410). -/

namespace Sys2Proof.Machine

/-! ### Bytes, hashes and random data -/

/-- The bytes of ASCII text. -/
def ascii (s : String) : List Byte := s.toList.map (fun c => BitVec.ofNat 8 c.toNat)

/-- A list cut or filled with zeros to `n` bytes. -/
def fitted (n : Nat) (l : List Byte) : List Byte := (List.range n).map (fun i => l.getD i 0)

/-- `n` bytes from byte `i`, and the little-endian number in them. -/
def cut (l : List Byte) (i n : Nat) : List Byte := (l.drop i).take n
def cutNat (l : List Byte) (i n : Nat) : Nat := leNat (cut l i n)

/-- A hash as 32 bytes. -/
def hashBytes (l : List Byte) : List Byte := beBytes 32 (Config.sha256 l).toNat

/-- A signature and a public key as 64 bytes (R394). -/
def Dev.signWith (d : Dev) (key msg : List Byte) : List Byte × Dev :=
  (beBytes 64 (Config.ecdsaSign key (Config.sha256 msg) d.free).toNat, { d with free := d.free + 1 })
def publicKey (key : List Byte) : List Byte := beBytes 64 (Config.ecdsaPublic key).toNat

/-- Whether a signature of a message verifies under a public key. -/
def verifies (key msg sig : List Byte) : Bool := Config.ecdsaVerify key (Config.sha256 msg) sig

/-- `n` bytes from the TRNG. -/
def Dev.trng (d : Dev) (n : Nat) : List Byte × Dev :=
  ((List.range n).map (fun i => (Config.freeWord (d.free + i)).setWidth 8), { d with free := d.free + n })

/-- Write bytes at `a`; words that are written whole lose their error (R433). -/
def Dev.putBytes (d : Dev) (a : Nat) (l : List Byte) : Dev :=
  { d with mem := storeBytes d.mem a l, bad := d.bad.filter (fun x => !(decide (a ≤ 8 * x.1 ∧ 8 * x.1 + 8 ≤ a + l.length))) }

/-- The code of the first failing check of a list, or 0 (R390). -/
def firstCode : List (Bool × Nat) → Nat
  | [] => 0
  | (fails, c) :: t => if fails then c else firstCode t

/-! ### The mailbox (R387 to R390) -/

/-- CEL_PTR and CEL_LEN. -/
def Dev.celPtr (d : Dev) : Nat := (d.reg 0x40030008).toNat
def Dev.celLen (d : Dev) : Nat := d.fld 0 F.CEL_LEN_len

/-- Whether a request or response of `n` bytes at CEL_PTR lies where it must. -/
def Dev.celRange (d : Dev) (n : Nat) : Bool := d.celPtr % 64 == 0 && inChipRam d.celPtr n

/-- `n` bytes of the request from byte `i`. -/
def Dev.request (d : Dev) (i n : Nat) : List Byte := d.bytes (d.celPtr + i) n

/-- Post the result of a command. -/
def Dev.celDone (d : Dev) (op code : Nat) : Dev :=
  let d1 := ((d.setReg 0x40030010 (BitVec.ofNat 32 (pack [(code, 8), (op, 8), (1, 1)]))).noteSet 0x40030010 0x10000).setFld 0 F.CEL_STAT_busy 0
  (if code = 0 then d1 else d1.bump 0 F.CEL_CNT_refused).raise Ev.CELLAR_DONE scopeChip 0

/-- Whether a write of CEL_CMD is turned away: from another master, or while a command executes outside ALARM (R387, R391). -/
def Dev.celTurned (d : Dev) (m : Master) : Bool :=
  decide (4 ≤ m.id.val) || (d.flag 0 F.CEL_STAT_busy && d.fld 0 F.CEL_STAT_state != 5)

/-- One command: from AC0, AC1, SC0 or SC1, while none executes. In ALARM every command is answered with 0x10; a range that is
misplaced with 0x04. `run` answers the code, or none where the command goes on (R387, R391). -/
def Dev.celCmd (d : Dev) (m : Master) (op : Nat) (run : Dev → Option Nat × Dev) : Dev :=
  if d.celTurned m then d.raise Ev.CEL_CMD_REFUSED scopeChip 0
  else if d.fld 0 F.CEL_STAT_state = 5 then d.celDone op 0x10
  else if d.celRange d.celLen = false then d.celDone op 0x04
  else
    let r := run d
    match r.1 with
    | some code => r.2.celDone op code
    | none => r.2.setFld 0 F.CEL_STAT_busy 1

/-- The answer of a command whose checks are all made before it does anything. -/
def Dev.celCheck (d : Dev) (code : Nat) (f : Dev → Dev) : Option Nat × Dev := (some code, if code = 0 then f d else d)

/-! ### Owner key slots (R392, R393) -/

/-- Whether owner key slot `s` holds a hash, and is not revoked. -/
def Dev.slotLive (d : Dev) (s : Nat) : Bool :=
  bitOf (d.fld 0 F.CEL_SLOTS_present) s && !bitOf (d.fld 0 F.CEL_SLOTS_revoked) s

/-- The unrevoked slot whose hash is that of a public key. -/
def Dev.slotOf (d : Dev) (key : List Byte) : Option Nat :=
  [0, 1, 2, 3].find? (fun s => d.slotLive s && Store.get (fun _ => []) d.vault.ownerHash s == hashBytes key)

/-- Whether a key belongs to an unrevoked owner slot for which `p` holds. -/
def Dev.ownerKey (d : Dev) (key : List Byte) (p : Nat → Bool) : Bool :=
  match d.slotOf key with
  | some s => p s
  | none => false

/-- The device serial. -/
def Dev.serial (d : Dev) : List Byte := fitted 16 d.vault.serial

/-- The identity public key. -/
def Dev.idKey (d : Dev) : List Byte := publicKey (d.vault.identity.getD [])

/-- The message that an endorsement signs, for a serial and an identity key (R402). -/
def endorsedText (serial key : List Byte) : List Byte := ascii "IGK-ID" ++ serial ++ key

/-! ### Casks (R394 to R396, R398) -/

/-- The anchor table of a calibration Cask, from the bytes of its payload: its entries, or none where it breaks R416. -/
def anchorTable (l : List Byte) : Option (List (Nat × Bool × List Byte)) :=
  let n := cutNat l 4 2
  let entry := fun i => cut l (8 + 72 * i) 72
  let es := (List.range n).map entry
  let idx := es.map (fun e => cutNat e 0 2)
  if cut l 0 4 = ascii "ANCR" ∧ cutNat l 6 2 = 0 ∧ 1 ≤ n ∧ n ≤ 64 ∧ idx.Nodup ∧
      es.all (fun e => e.length == 72 && decide (cutNat e 2 1 < 2) && cutNat e 3 5 == 0) = true then
    some (es.map (fun e => (cutNat e 0 2, cutNat e 2 1 == 1, cut e 8 64)))
  else none

/-- The image type that a destination of VERIFY_CASK takes; none for an unknown destination (R405). -/
def destType (dest : Nat) : Option Nat :=
  if dest < 2 then some 1 else if dest = 2 then some 2 else if dest = 3 then some 5
  else if dest < 12 then some 3 else if dest < 20 then some 4 else none

/-- Payload bytes that a type admits (R394). -/
def castLimit (t : Nat) : Nat := if t = 2 then 458752 else 1572864

/-- The stored Vintage, floor and floor bumps of a type. -/
def Dev.vint (d : Dev) (t : Nat) : Nat := d.fld (4 * (t - 1)) F.CEL_VINT_v
def Dev.floor (d : Dev) (t : Nat) : Nat := d.fld (4 * (t - 1)) F.CEL_FLOOR_v
def Dev.bumps (d : Dev) (t : Nat) : Nat := d.fld (4 * (t - 1)) F.CEL_BUMP_used

/-- The NVS copy of the stored Vintages cannot be read (R398); sector 0 holds it (DESIGN CHOICE, assumption 60). -/
def Dev.vintLost (d : Dev) : Bool := d.sectorBad 0

/-- The effective minimum of a type. -/
def Dev.effMin (d : Dev) (t : Nat) : Nat := if d.vintLost then d.floor t else max (d.vint t) (d.floor t)

/-- The fields of a header obey R394 and R151. -/
def castFields (h : List Byte) : Bool :=
  let t := cutNat h 6 1
  let mask := cutNat h 7 1
  let word := fun b => cutNat h (0x40 + 4 * b) 4
  cutNat h 0x15 11 == 0 && (t == 3 || cutNat h 0x10 4 == 0) &&
    (if t = 3 ∨ t = 4 then decide (mask ≠ 0 ∧ mask < 16) else mask == 0) &&
    (List.range 16).all (fun b => (t == 3 && bitOf mask (b / 4)) || word b == 0)

/-- The checks of R395 of a Cask for a destination, with that of R416 for a calibration: `get i n` gives `n` of its bytes from byte
`i`, of `len` in all. -/
def Dev.castCodeOf (d : Dev) (dest : Nat) (get : Nat → Nat → List Byte) (len : Nat) : Nat :=
  let h := get 0 256
  let t := cutNat h 6 1
  let n := cutNat h 0xC 4
  let slot := cutNat h 0x14 1
  let key := cut h 0x80 64
  firstCode [(cut h 0 4 != ascii "CASK", 1), (cutNat h 4 2 != 1, 2), (decide (t = 0 ∨ 5 < t) || destType dest != some t, 3),
    (decide (len < 256 + n ∨ castLimit t < n), 4),
    (!castFields h || (t == 5 && (anchorTable (get 256 (min n 4616))).isNone), 5),
    (!d.ownerKey key (fun s => s == slot), 6), (!verifies key (h.take 0xC0) (cut h 0xC0 64), 7),
    (decide (cutNat h 8 4 < d.effMin t), 8), (hashBytes (get 256 n) != cut h 0x20 32, 9)]

/-- The code of the Cask in the buffer. -/
def Dev.castCode (d : Dev) (dest : Nat) : Nat := d.castCodeOf dest d.request d.celLen

/-- The image area of a destination in NVS, and its size (R439). -/
def imageArea (dest : Nat) : Nat := [0x100000, 0x300000, 0x500000, 0x600000].getD dest 0
def imageRoom (dest : Nat) : Nat := if dest = 2 then 0x100000 else 0x200000

/-- Whether the Cask in the image area of a destination verifies; a sector that cannot be read fails it (R397). -/
def Dev.storedCaskOk (d : Dev) (dest : Nat) : Bool :=
  let a := imageArea dest
  let n := 256 + min (leNat (d.nvsBytes (a + 0xC) 4)) (imageRoom dest)
  let read := (List.range ((n + 1023) / 1024)).all (fun k => !d.sectorBad (a / 1024 + k))
  read && d.castCodeOf dest (fun i k => d.nvsBytes (a + i) k) (imageRoom dest) == 0

/-- The measurement that a header gives. -/
def measOf (h : List Byte) : Meas :=
  { typ := cutNat h 6 1, mask := cutNat h 7 1, vintage := cutNat h 8 4, hash := hashBytes (h.take 256) }

/-- Record the measurement of a destination. -/
def Dev.setMeas (d : Dev) (dest : Nat) (x : Option Meas) : Dev :=
  { d with cellar := { d.cellar with meas := Store.set (fun _ => none) d.cellar.meas dest x } }

/-- Mark a chip firmware slot as verified. -/
def Dev.setSlotOk (d : Dev) (slot : Nat) : Dev := { d with slotOk := Store.set (fun _ => false) d.slotOk slot true }

/-- Take over the anchor table of a calibration Cask; none of its trims has been racked yet (R416, R531). -/
def Dev.takeAnchors (d : Dev) (payload : List Byte) : Dev :=
  { d with cellar := { d.cellar with anchors := (anchorTable payload).getD [] }, trimmed := 0 }

/-- Release the locked buffer (R396). -/
def Dev.unlockCask (d : Dev) : Dev :=
  { d.setFld 0 F.CEL_STAT_locked 0 with cellar := { d.cellar with lock := none } }

/-- A Cask has passed: its range is locked, its measurement replaces that of its destination (R396, R405). -/
def Dev.castPassed (d : Dev) (dest : Nat) : Dev :=
  let h := d.request 0 256
  let n := cutNat h 0xC 4
  let d1 := ((d.setFld 0 F.CEL_STAT_locked 1).bump 0 F.CEL_CNT_verified).setMeas dest (some (measOf h))
  let d2 := { d1 with cellar := { d1.cellar with lock := some (d.celPtr, 256 + n), lockDest := dest } }
  if dest < 2 then d2.setSlotOk dest
  else if dest = 3 then d2.takeAnchors (d.request 256 (min n 4616))
  else if dest = 2 then { d2 with hsl := { d2.hsl with updOk := d2.fld 0 F.HSL_UPD_state == 1 } }
  else d2

/-- VERIFY_CASK; of a lane-set or table Cask that is refused during start-up the region is told (R395, R396, R398, R405, R518). -/
def Dev.verifyCask (d : Dev) (dest : Nat) : Option Nat × Dev :=
  let d0 := d.unlockCask
  let d1 := if d0.vintLost then d0.raise Ev.VINTAGE_NVS_LOST scopeChip 0 else d0
  match if d1.celLen < 256 then 4 else d1.castCode dest with
  | 0 => (some 0, d1.castPassed dest)
  | c => (some c, if 4 ≤ dest ∧ dest < 20 then d1.startupFail 4 (some ((dest - 4) / 2 % 4)) else d1)

/-- VERIFY_CASK. -/
def execVerifyCask (m : Master) (dest : BitVec 16) (s : State) : Host.Outcome State Fault Refusal :=
  s.done (s.dev.celCmd m 1 (fun d => d.verifyCask dest.toNat))

/-- RELEASE (R396, R405). -/
def Dev.releaseCask (d : Dev) (arg : Nat) : Option Nat × Dev :=
  let d1 := if arg % 2 = 1 ∧ d.cellar.lock.isSome = true then d.setMeas d.cellar.lockDest none else d
  (some 0, d1.unlockCask)

/-- RELEASE. -/
def execRelease (m : Master) (arg : BitVec 16) (s : State) : Host.Outcome State Fault Refusal :=
  s.done (s.dev.celCmd m 0x0D (fun d => d.releaseCask arg.toNat))

/-! ### Floors and slots (R393, R400) -/

/-- Write the next floor entry of a type. -/
def Dev.addFloor (d : Dev) (t : Nat) : Dev :=
  let i := d.bumps t
  let v := d.vint t
  let d1 := (d.setFld (4 * (t - 1)) F.CEL_FLOOR_v v).setFld (4 * (t - 1)) F.CEL_BUMP_used (i + 1)
  { d1 with vault := { d1.vault with floors := Store.set (fun _ => 0) d1.vault.floors (64 * t + i) v } }

/-- FLOOR_BUMP of type `t` (R400). -/
def Dev.floorBump (d : Dev) (t : Nat) : Option Nat × Dev :=
  let i := d.bumps t
  let msg := ascii "IGK-FLOOR" ++ d.serial ++ leBytes 1 t ++ leBytes 1 i ++ leBytes 4 (d.vint t)
  let key := d.request 0 64
  d.celCheck (firstCode [(decide (t = 0 ∨ 5 < t), 3), (decide (d.celLen < 128), 4), (!d.ownerKey key (fun _ => true), 6),
    (!verifies key msg (d.request 64 64), 7), (decide (64 ≤ i), 0xB)]) (fun d => d.addFloor t)

/-- FLOOR_BUMP. -/
def execFloorBump (m : Master) (t : BitVec 16) (s : State) : Host.Outcome State Fault Refusal :=
  s.done (s.dev.celCmd m 5 (fun d => d.floorBump t.toNat))

/-- REVOKE_SLOT (R393): the last unrevoked slot is refused before any key is looked at, since no other could sign. -/
def Dev.revokeSlot (d : Dev) (slot : Nat) : Option Nat × Dev :=
  let msg := ascii "IGK-REVOKE" ++ d.serial ++ leBytes 1 slot
  let key := d.request 0 64
  let last := d.slotLive slot && [0, 1, 2, 3].all (fun s => s == slot || !d.slotLive s)
  d.celCheck (firstCode [(decide (d.celLen < 128), 4), (last, 0xB),
    (decide (3 < slot) || !d.ownerKey key (fun s => s != slot), 6), (!verifies key msg (d.request 64 64), 7)])
    (fun d => d.setFld 0 F.CEL_SLOTS_revoked (withBits (d.fld 0 F.CEL_SLOTS_revoked) slot 1 1))

/-- REVOKE_SLOT. -/
def execRevokeSlot (m : Master) (slot : BitVec 16) (s : State) : Host.Outcome State Fault Refusal :=
  s.done (s.dev.celCmd m 6 (fun d => d.revokeSlot slot.toNat))

/-! ### Identity and attestation (R401 to R404) -/

/-- PROVISION (R401). -/
def Dev.provision (d : Dev) : Option Nat × Dev :=
  if d.celLen < 64 then (some 4, d)
  else
    let d1 := if d.vault.identity.isSome then d
      else
        let r := d.trng 32
        { r.2.setFld 0 F.CEL_STAT_provisioned 1 with vault := { d.vault with identity := some r.1 } }
    (some 0, d1.putBytes d.celPtr d1.idKey)

/-- PROVISION. -/
def execProvision (m : Master) (s : State) : Host.Outcome State Fault Refusal :=
  s.done (s.dev.celCmd m 3 Dev.provision)

/-- ENDORSE (R402). -/
def Dev.endorse (d : Dev) : Option Nat × Dev :=
  let sig := d.request 0 64
  let key := d.request 64 64
  d.celCheck (firstCode [(decide (d.celLen < 128), 4), (!d.ownerKey key (fun _ => true), 6), (d.vault.identity.isNone, 0xC),
    (!verifies key (endorsedText d.serial d.idKey) sig, 7)])
    (fun d => { d with vault := { d.vault with endorsement := some (sig, key) } })

/-- ENDORSE. -/
def execEndorse (m : Master) (s : State) : Host.Outcome State Fault Refusal :=
  s.done (s.dev.celCmd m 4 Dev.endorse)

/-- Offsets of a row's registers in its space. -/
def offsets : List (Nat × Nat) → List Nat
  | [] => [0]
  | (stride, n) :: t => (List.range n).flatMap (fun i => (offsets t).map (fun x => i * stride + x))

/-- The mask of the fields with code RWG. -/
def Row.guardMask (r : Row) : Nat :=
  ((r.fields.filter (fun f => f.acc == .rwg)).map (fun f => (2 ^ f.w - 1) * 2 ^ f.lo)).sum

/-- The registers of a space that hold a field with code RWG, with their masks. -/
def guardedOf (base : Nat) (rows : List Row) : List (Nat × Nat) :=
  (rows.filter (fun r => r.guardMask != 0)).flatMap (fun r =>
    (offsets r.strides).map (fun x => (base + r.off + x, r.guardMask)))

/-- Every register of the device that holds a field with code RWG, in ascending address order (R404). -/
def guardedRegs : List (Nat × Nat) :=
  let put := fun (m : Store Nat) (x : Nat × Nat) => Store.put m x.1 x.2
  ((List.range 16).flatMap (fun b => guardedOf (blkReg b) blkRows) ++
    (List.range 128).flatMap (fun k => guardedOf (legReg k) legRows) ++
    (List.range 4).flatMap (fun r => guardedOf (rgnReg r) rgnRows) ++ guardedOf 0 chipRows ++
    (List.range 24).flatMap (fun p => guardedOf (portReg p) (portRowsOf p))).foldl put []

/-- Whether an address lies in SCH_RXBUFn of a receive connection, which is read-only (R385). -/
def Dev.isRxBuf (d : Dev) (a : Nat) : Bool :=
  decide (0x40051000 ≤ a ∧ a < 0x40051800) && !d.flag (0x40 * ((a - 0x40051000) / 0x40)) F.SCH_CON_CFG_dir

/-- The safety configuration hash (R404). -/
def Dev.safetyHash (d : Dev) : List Byte :=
  hashBytes ((guardedRegs.filter (fun x => !d.isRxBuf x.1)).flatMap (fun x => leBytes 4 ((d.reg x.1).toNat &&& x.2)))

/-- Whether tag binding `n` is in use (R411). -/
def Dev.tagBound (d : Dev) (n : Nat) : Bool := d.flag (tagBase n) F.TAG_MAP_valid

/-- A binding. -/
def Dev.bind (d : Dev) (n : Nat) : Binding := Store.get (fun _ => Binding.initial) d.binds n
def Dev.setBind (d : Dev) (n : Nat) (x : Binding) : Dev :=
  { d with binds := Store.set (fun _ => Binding.initial) d.binds n x }

/-- The report of R403 without its signature. -/
def Dev.report (d : Dev) (nonce : List Byte) : List Byte :=
  let meas := (List.range 20).filterMap (fun k => (Store.get (fun _ => none) d.cellar.meas k).map (fun m => (k, m)))
  let tags := (List.range 32).filter (fun n => d.tagBound n)
  let flags := pack [(d.fld 0 F.HSL_STAT_split, 1), (d.fld 0 F.HSL_STAT_debug_split, 1), (d.fld 0 F.HSL_STAT_lockout, 1),
    (flagBit d.vault.fallback, 1)]
  ascii "ATST" ++ leBytes 2 1 ++ leBytes 1 meas.length ++ leBytes 1 tags.length ++ nonce ++ d.serial ++ d.idKey ++
    leBytes 8 d.ns.toNat ++ leBytes 1 (d.fld 0 F.TRL_STATUS_state) ++ leBytes 1 flags ++ leBytes 2 0 ++
    [1, 2, 3, 4, 5].flatMap (fun t => leBytes 4 (d.vint t)) ++ [1, 2, 3, 4, 5].flatMap (fun t => leBytes 4 (d.floor t)) ++
    d.safetyHash ++
    meas.flatMap (fun x => leBytes 1 x.1 ++ leBytes 1 x.2.typ ++ leBytes 1 x.2.mask ++ leBytes 1 0 ++ leBytes 4 x.2.vintage ++
      x.2.hash) ++
    tags.flatMap (fun n => leBytes 1 n ++ leBytes 1 (d.fld (tagBase n) F.TAG_STAT_state) ++
      leBytes 1 (d.fld (tagBase n) F.TAG_STAT_trust) ++ leBytes 1 0 ++ fitted 8 (d.bind n).serial ++
      leBytes 4 (d.fld (tagBase n) F.TAG_LIFE_consumed))

/-- ATTEST (R403). -/
def Dev.attest (d : Dev) : Option Nat × Dev :=
  let body := d.report (d.request 0 32)
  let code := firstCode [(decide (d.celLen < 32), 4), (d.vault.identity.isNone, 0xC), (decide (d.celLen < body.length + 64), 4)]
  if code = 0 then
    let sig := d.signWith (d.vault.identity.getD []) body
    (some 0, sig.2.putBytes d.celPtr (body ++ sig.1))
  else (some code, d)

/-- ATTEST. -/
def execAttest (m : Master) (s : State) : Host.Outcome State Fault Refusal :=
  s.done (s.dev.celCmd m 2 Dev.attest)

/-! ### Sealed secrets (R406, R409) -/

/-- A ciphertext or plaintext under the key stream of a key and a nonce. -/
def gcmCrypt (key : BitVec 256) (nonce l : List Byte) : List Byte :=
  (List.range l.length).map (fun i => l.getD i 0 ^^^ Config.gcmStream key nonce i)

/-- A sealed blob: ciphertext, nonce, tag. -/
def sealBlob (key : BitVec 256) (nonce l : List Byte) : List Byte :=
  let c := gcmCrypt key nonce l
  c ++ nonce ++ beBytes 16 (Config.gcmTag key nonce c).toNat

/-- The plaintext of a blob; none where its tag does not verify. -/
def openBlob (key : BitVec 256) (l : List Byte) : Option (List Byte) :=
  let n := l.length - 28
  let c := l.take n
  let nonce := cut l n 12
  if l.drop (n + 12) = beBytes 16 (Config.gcmTag key nonce c).toNat then some (gcmCrypt key nonce c) else none

/-- The key of a purpose (R406). -/
def Dev.sealKey (d : Dev) (purpose : Nat) : BitVec 256 := Config.sealKey (d.vault.wrapKey.getD []) purpose

/-- SEAL (R406). -/
def Dev.sealCmd (d : Dev) (purpose : Nat) : Option Nat × Dev :=
  if purpose = 0 then
    d.celCheck (firstCode [(d.celLen != 32, 4), (d.vault.wrapKey.isSome, 0xA)])
      (fun d => { d with vault := { d.vault with wrapKey := some (d.request 0 32) } })
  else
    let r := d.trng 12
    d.celCheck (firstCode [(decide (4096 < d.celLen) || !d.celRange (d.celLen + 28), 4), (d.vault.wrapKey.isNone, 0xA)])
      (fun d => r.2.putBytes d.celPtr (sealBlob (d.sealKey purpose) r.1 (d.request 0 d.celLen)))

/-- SEAL. -/
def execSeal (m : Master) (purpose : BitVec 16) (s : State) : Host.Outcome State Fault Refusal :=
  s.done (s.dev.celCmd m 0x0E (fun d => d.sealCmd (purpose.toNat % 256)))

/-- UNSEAL (R406). -/
def Dev.unsealCmd (d : Dev) (purpose : Nat) : Option Nat × Dev :=
  if purpose = 0 then (some 0xA, d)
  else
    let got := openBlob (d.sealKey purpose) (d.request 0 d.celLen)
    d.celCheck (firstCode [(decide (d.celLen < 28 ∨ 4124 < d.celLen), 4), (d.vault.wrapKey.isNone, 0xA), (got.isNone, 7)])
      (fun d => d.putBytes d.celPtr (got.getD []))

/-- UNSEAL. -/
def execUnseal (m : Master) (purpose : BitVec 16) (s : State) : Host.Outcome State Fault Refusal :=
  s.done (s.dev.celCmd m 0x0F (fun d => d.unsealCmd (purpose.toNat % 256)))

/-- MACSEC_KEY: the SAK, sealed under purpose 1, goes into the key store of a port; a transmit key becomes the one in use
(R409). -/
def Dev.macsecKey (d : Dev) (arg : Nat) : Option Nat × Dev :=
  let port := bitsOf arg 0 2
  let suite := bitOf arg 5
  let k := 8 * port + 4 * bitsOf arg 2 1 + bitsOf arg 3 2
  let n := if suite then 32 else 16
  let got := openBlob (d.sealKey 1) (d.request 0 (n + 28))
  d.celCheck (firstCode [(d.celLen != n + 28, 4), (d.vault.wrapKey.isNone, 0xA), (got.isNone, 7)])
    (fun d =>
      let c := d.cellar
      { d with cellar := { c with
          macsec := Store.set (fun _ => none) c.macsec k (some (suite, got.getD [])),
          packets := Store.set (fun _ => 0) c.packets k 1,
          txSa := if bitOf arg 2 then Store.set (fun _ => none) c.txSa port (some k) else c.txSa } })

/-- MACSEC_KEY. -/
def execMacsecKey (m : Master) (arg : BitVec 16) (s : State) : Host.Outcome State Fault Refusal :=
  s.done (s.dev.celCmd m 0x0C (fun d => d.macsecKey arg.toNat))

/-! ### The debug port (R407, R408) -/

/-- DEBUG_CHALLENGE (R407). -/
def Dev.debugChallenge (d : Dev) : Option Nat × Dev :=
  if d.celLen < 32 then (some 4, d)
  else
    let r := d.trng 32
    (some 0, { r.2 with cellar := { r.2.cellar with nonce := some (r.1, d.now) } }.putBytes d.celPtr r.1)

/-- DEBUG_CHALLENGE. -/
def execDebugChallenge (m : Master) (s : State) : Host.Outcome State Fault Refusal :=
  s.done (s.dev.celCmd m 7 Dev.debugChallenge)

/-- The nonce that a DEBUG_OPEN may still use. -/
def Dev.liveNonce (d : Dev) : Option (List Byte) :=
  match d.cellar.nonce with
  | some (n, t) => if d.now ≤ t + 60 * cyclesPerSecond then some n else none
  | none => none

/-- Erase what a debug opening erases (R407, R408). -/
def Dev.eraseSecrets (d : Dev) : Dev :=
  let d1 := { d with
    vault := { d.vault with identity := none, endorsement := none, wrapKey := none },
    cellar := { d.cellar with macsec := [], packets := [], txSa := [] } }
  (d1.setFld 0 F.CEL_STAT_provisioned 0).each (List.range 32) (fun n d =>
    { d.setReg (0x40050108 + 0x40 * n) 0 with
      schs := Store.set (fun _ => SchConn.initial) d.schs n
        { Store.get (fun _ => SchConn.initial) d.schs n with erased := true } })

/-- DEBUG_OPEN: the erasure starts, and the command goes on until it is confirmed (R407). -/
def Dev.debugOpen (d : Dev) : Option Nat × Dev :=
  let key := d.request 0 64
  let nonce := d.liveNonce
  let msg := ascii "IGK-DEBUG" ++ d.serial ++ nonce.getD []
  let busy := (List.range 32).any (fun u => (d.unit u).st != .disabled && (d.unit u).st != .locked)
  let code := firstCode [(decide (d.celLen < 128), 4), (!d.ownerKey key (fun _ => true), 6),
    (nonce.isSome && !verifies key msg (d.request 64 64), 7), (busy, 0xA), (nonce.isNone, 0xE)]
  let d1 := { d with cellar := { d.cellar with nonce := none } }
  if code = 0 then
    let d2 := d1.eraseSecrets.setFld 0 F.CEL_STAT_state 3
    (none, { d2 with cellar := { d2.cellar with eraseAt := d2.now, again := false } })
  else (some code, d1)

/-- DEBUG_OPEN. -/
def execDebugOpen (m : Master) (s : State) : Host.Outcome State Fault Refusal :=
  s.done (s.dev.celCmd m 8 Dev.debugOpen)

/-- A Cellar alarm ends the command that executes with code 0x10. The spec names no cause bit for a failed erasure: a free
one latches. -/
def Dev.eraseFailed (d : Dev) : Dev :=
  let f := d.takeFree
  (f.2.cellarAlarm (f.1.toNat % 6)).celDone 8 0x10

/-- DEBUG_ERASE_COMPLETE: the read-back finds zeros, and the port opens; or it does not, the erasure is repeated once, and
then alarms (R407). -/
def execDebugEraseComplete (ok : Bool) (s : State) : Host.Outcome State Fault Refusal :=
  let d := s.dev
  s.done (
    if d.fld 0 F.CEL_STAT_state ≠ 3 then d
    else if ok then (d.setFld 0 F.CEL_STAT_state 4).celDone 8 0
    else if d.cellar.again then d.eraseFailed
    else { d.eraseSecrets with cellar := { d.eraseSecrets.cellar with again := true } })

/-! ### Other commands and alarms -/

/-- A write of CEL_CMD with an op that R389 does not assign. -/
def Dev.celUnknown (d : Dev) (m : Master) (op : Nat) : Dev :=
  if d.celTurned m then d.raise Ev.CEL_CMD_REFUSED scopeChip 0
  else d.celDone op (if d.fld 0 F.CEL_STAT_state = 5 then 0x10 else 3)

/-- UNKNOWN_CELLAR_COMMAND (R389). An op that R389 assigns is that command. -/
def execUnknownCellarCommand (m : Master) (op : BitVec 8) (s : State) : Host.Outcome State Fault Refusal :=
  s.done (if 1 ≤ op.toNat ∧ op.toNat ≤ 0x0F then s.dev else s.dev.celUnknown m op.toNat)

/-- CELLAR_ALARM (R391). -/
def execCellarAlarm (bit : Fin 6) (s : State) : Host.Outcome State Fault Refusal := s.done (s.dev.cellarAlarm bit)

/-- CELLAR_WATCHDOG_EXPIRY (R391). -/
def execCellarWatchdogExpiry (s : State) : Host.Outcome State Fault Refusal := s.done (s.dev.cellarAlarm 4)

end Sys2Proof.Machine
end

