-- ==== Sys2Proof/Machine/Ring.lean ====
section
/-! DEFINITION. The descriptor rings of Ethernet ports and axle links, and what all rings share (R457, R458, R461). -/

namespace Sys2Proof.Machine

/-- A port's rings. -/
def Dev.port (d : Dev) (p : Nat) : PortRun := Store.get (fun _ => PortRun.initial) d.ports p
def Dev.setPort (d : Dev) (p : Nat) (x : PortRun) : Dev :=
  { d with ports := Store.set (fun _ => PortRun.initial) d.ports p x }

/-- Whether a port is enabled. -/
def Dev.portOn (d : Dev) (p : Nat) : Bool := d.flag (portReg p) F.PORT_CTRL_en

/-- The fabric master of a port (R460). -/
def portMaster (p : Nat) : Nat := if p < 6 then 10 + p else if p < 16 then 12 + p else p - 6

/-- A ring met an access outside the permitted memories or an error response: it stops until the port is enabled again
(R458). -/
def Dev.linkFail (d : Dev) (p : Nat) (tx : Bool) : Dev :=
  let x := d.port p
  (d.setPort p (if tx then { x with tx := false, txHalt := true } else { x with rx := false, rxHalt := true })).raise
    Ev.LINK_DMA_ERROR (scopePort p) 0

/-- Stop a ring at an entry that the port does not own, until the next doorbell (R458). -/
def Dev.ringIdle (d : Dev) (p : Nat) (tx : Bool) : Dev :=
  let x := d.port p
  d.setPort p (if tx then { x with tx := false } else { x with rx := false })

/-- Whether a ring is being processed. -/
def Dev.ringRuns (d : Dev) (p : Nat) (tx : Bool) : Bool := d.portOn p && if tx then (d.port p).tx else (d.port p).rx

/-! ### Accesses -/

/-- Read `n` 8-byte words from `a` upwards as master `m`. -/
def Dev.linkWords (d : Dev) (m a : Nat) : Nat → Option (List Byte) × Dev
  | 0 => (some [], d)
  | n + 1 =>
    match d.memRead m a 8 with
    | (none, d1) => (none, d1)
    | (some v, d1) =>
      match d1.linkWords m (a + 8) n with
      | (none, d2) => (none, d2)
      | (some l, d2) => (some (leBytes 8 v ++ l), d2)

/-- Read `n` bytes at an 8-byte-aligned address. -/
def Dev.linkRead (d : Dev) (m a n : Nat) : Option (List Byte) × Dev :=
  let r := d.linkWords m (a / 8 * 8) ((n + 7) / 8)
  (r.1.map (fun l => l.take n), r.2)

/-- Write bytes from an 8-byte-aligned address upwards, 8 at a time. -/
def Dev.linkWrite (d : Dev) (m a : Nat) : List Byte → Bool × Dev
  | b0 :: b1 :: b2 :: b3 :: b4 :: b5 :: b6 :: b7 :: t =>
    match d.memWrite m a 8 (leNat [b0, b1, b2, b3, b4, b5, b6, b7]) with
    | (false, d1) => (false, d1)
    | (true, d1) => d1.linkWrite m (a + 8) t
  | [] => (true, d)
  | b0 :: t =>
    match d.memWrite m a 1 b0.toNat with
    | (false, d1) => (false, d1)
    | (true, d1) => d1.linkWrite m (a + 1) t

/-! ### Entries -/

/-- The address of entry `i` of a ring. -/
def Dev.entryAt (d : Dev) (p : Nat) (tx : Bool) (i : Nat) : Nat :=
  32 * (d.fld (portReg p) (if tx then F.RING_TXBASE_addr else F.RING_RXBASE_addr) + i)

/-- The next entry's index of a ring, its length, and the index after `i`. -/
def Dev.ringIndex (d : Dev) (p : Nat) (tx : Bool) : Nat := d.fld (portReg p) (if tx then F.RING_STAT_tx else F.RING_STAT_rx)
def Dev.ringLen (d : Dev) (p : Nat) (tx : Bool) : Nat := d.fld (portReg p) (if tx then F.RING_TXLEN_len else F.RING_RXLEN_len)
def Dev.nextIndex (d : Dev) (p : Nat) (tx : Bool) (i : Nat) : Nat := if i + 1 < d.ringLen p tx then i + 1 else 0

/-- Move a ring past the entry just written back, which raises PORT_TX or PORT_RX (R458, R507). -/
def Dev.entryDone (d : Dev) (p : Nat) (tx : Bool) : Dev :=
  (d.setFld (portReg p) (if tx then F.RING_STAT_tx else F.RING_STAT_rx) (d.nextIndex p tx (d.ringIndex p tx))).raise
    (if tx then Ev.PORT_TX else Ev.PORT_RX) (scopePort p) 0

/-- A 32-byte ring entry as read: its address and bytes. -/
structure RingEntry where
  at_ : Nat
  bytes : List Byte
  deriving DecidableEq, Repr

/-- A 32-bit word of an entry. -/
def RingEntry.word (e : RingEntry) (o : Nat) : Nat := cutNat e.bytes o 4

/-- Read entry `i` of a ring; `flags` is the offset of its flags word. None stops the ring. -/
def Dev.readEntry (d : Dev) (p : Nat) (tx : Bool) (flags i : Nat) : Option RingEntry × Dev :=
  match d.linkRead (portMaster p) (d.entryAt p tx i) 32 with
  | (none, d1) => (none, d1.linkFail p tx)
  | (some l, d1) =>
    let e : RingEntry := ⟨d.entryAt p tx i, l⟩
    if bitOf (e.word flags) 0 then (some e, d1) else (none, d1.ringIdle p tx)

/-- Write parts of an entry, and its flags word with own = 0 last (R458). -/
def Dev.writeEntry (d : Dev) (p : Nat) (tx : Bool) (e : RingEntry) (flagsAt flags : Nat) (parts : List (Nat × Nat × Nat)) : Dev :=
  let r := (parts ++ [(flagsAt, 4, withBits flags 0 1 0)]).foldl (fun (r : Bool × Dev) (x : Nat × Nat × Nat) =>
    if r.1 then r.2.memWrite (portMaster p) (e.at_ + x.1) x.2.1 x.2.2 else r) (true, d)
  if r.1 then r.2.entryDone p tx else r.2.linkFail p tx

/-- A flags word with an error code; code 0 is no error. -/
def errorFlags (flags errBit code : Nat) : Nat := withBits (withBits flags errBit 1 (if code = 0 then 0 else 1)) 8 4 code

/-- PORT_STAT.code shows the port's last error code (R461). -/
def Dev.portCode (d : Dev) (p code : Nat) : Dev := if code = 0 then d else d.setFld (portReg p) F.PORT_STAT_code code

/-! ### Frames over descriptors (R457) -/

/-- The fields of a descriptor. -/
def RingEntry.buf (e : RingEntry) : Nat := e.word 0
def RingEntry.len (e : RingEntry) : Nat := e.word 4 % 65536
def RingEntry.flags (e : RingEntry) : Nat := e.word 8

/-- The descriptors of the next transmit frame, up to the one marked last; none where the port does not own them all. -/
def Dev.txEntries (d : Dev) (p : Nat) : Nat → Nat → Option (List RingEntry) × Dev
  | 0, _ => (none, d)
  | n + 1, i =>
    match d.readEntry p true 8 i with
    | (none, d1) => (none, d1)
    | (some e, d1) =>
      if bitOf e.flags 2 then (some [e], d1)
      else match d1.txEntries p n (d1.nextIndex p true i) with
        | (none, d2) => (none, d2)
        | (some l, d2) => (some (e :: l), d2)

/-- The buffers of descriptors, one after the other. -/
def Dev.txBytes (d : Dev) (p : Nat) : List RingEntry → Option (List Byte) × Dev
  | [] => (some [], d)
  | e :: t =>
    match d.linkRead (portMaster p) e.buf e.len with
    | (none, d1) => (none, d1.linkFail p true)
    | (some l, d1) =>
      match d1.txBytes p t with
      | (none, d2) => (none, d2)
      | (some m, d2) => (some (l ++ m), d2)

/-- The next frame of a transmit ring. -/
def Dev.txFrame (d : Dev) (p : Nat) : Option (List RingEntry × List Byte) × Dev :=
  if d.ringRuns p true then
    match d.txEntries p (d.ringLen p true) (d.ringIndex p true) with
    | (none, d1) => (none, d1)
    | (some es, d1) =>
      match d1.txBytes p es with
      | (none, d2) => (none, d2)
      | (some l, d2) => (some (es, l), d2)
  else (none, d)

/-- Write back the descriptors of a transmit frame with an error code, and a time stamp where one is requested, or everywhere
for a gPTP frame (R457). -/
def Dev.txRetire (d : Dev) (p : Nat) (es : List RingEntry) (gptp : Bool) (code stamp : Nat) : Dev :=
  (es.foldl (fun d e => d.writeEntry p true e 8 (errorFlags e.flags 4 code)
    (if gptp || bitOf e.flags 3 then [(0x10, 8, stamp)] else [])) d).portCode p code

/-- Receive descriptors that together hold `need` bytes; none where the port does not own enough. -/
def Dev.rxEntries (d : Dev) (p need : Nat) : Nat → Nat → Option (List RingEntry) × Dev
  | 0, _ => (none, d)
  | n + 1, i =>
    match d.readEntry p false 8 i with
    | (none, d1) => (none, d1)
    | (some e, d1) =>
      if need ≤ e.len then (some [e], d1)
      else match d1.rxEntries p (need - e.len) n (d1.nextIndex p false i) with
        | (none, d2) => (none, d2)
        | (some l, d2) => (some (e :: l), d2)

/-- Write a received frame into its descriptors: the buffer, the frame's length, and first and last (R457). -/
def Dev.rxStore (d : Dev) (p total : Nat) (first : Bool) : List RingEntry → List Byte → Dev
  | [], _ => d
  | e :: t, l =>
    match d.linkWrite (portMaster p) (e.buf / 8 * 8) (l.take e.len) with
    | (false, d1) => d1.linkFail p false
    | (true, d1) =>
      let flags := withBits (withBits (errorFlags e.flags 4 0) 1 1 (flagBit first)) 2 1 (flagBit t.isEmpty)
      let d2 := d1.writeEntry p false e 8 flags [(6, 2, total)]
      if (d2.port p).rxHalt then d2 else d2.rxStore p total false t (l.drop e.len)

/-- Deliver a received frame to the receive ring; without descriptors for all of it the frame is dropped. -/
def Dev.rxFrame (d : Dev) (p : Nat) (l : List Byte) : Dev :=
  if d.ringRuns p false then
    match d.rxEntries p l.length (d.ringLen p false) (d.ringIndex p false) with
    | (none, d1) => d1
    | (some es, d1) => d1.rxStore p l.length true es l
  else d

/-! ### Doorbell and enable -/

/-- A doorbell resumes a ring that no bad access has stopped (R458). -/
def Dev.ringBell (d : Dev) (p : Nat) (rx : Bool) : Dev :=
  let x := d.port p
  if d.portOn p then d.setPort p (if rx then { x with rx := !x.rxHalt } else { x with tx := !x.txHalt }) else d

/-- Start both rings of a port at their first entries, and stop them. -/
def Dev.ringsStart (d : Dev) (p : Nat) : Dev :=
  ((d.setFld (portReg p) F.RING_STAT_tx 0).setFld (portReg p) F.RING_STAT_rx 0).setPort p { PortRun.initial with tx := true, rx := true }
def Dev.ringsStop (d : Dev) (p : Nat) : Dev := d.setPort p { d.port p with tx := false, rx := false }

/-- Ports with rings (R461). -/
def hasRings (p : Nat) : Bool := decide (p < 16 ∨ 22 ≤ p)

end Sys2Proof.Machine
end

