-- ==== Sys2Proof/Machine/Trellis.lean ====
section
/-! DEFINITION. The Trellis: network time, its states and sources, the tick grid, and the writes of its registers (R43 to
R62, R68, R73, R74). -/

namespace Sys2Proof.Machine

/-! ### States and sources -/

/-- The states of TRL_STATUS.state (R48). -/
abbrev trlFree : Nat := 0
abbrev trlAcquire : Nat := 1
abbrev trlLocked : Nat := 2
abbrev trlHoldover : Nat := 3
abbrev trlGm : Nat := 4
abbrev trlAxle : Nat := 5

/-- The Trellis state. -/
def Dev.trlState (d : Dev) : Nat := d.fld 0 F.TRL_STATUS_state

/-- Whether axle link `i` is UP (R482). -/
def Dev.axlUp (d : Dev) (i : Nat) : Bool := d.fld (portReg (22 + i)) F.AXL_STAT_state == 2

/-- Axle link `i` of the device. -/
def Dev.axl (d : Dev) (i : Nat) : AxlLink := Store.get (fun _ => AxlLink.initial) d.axls i
def Dev.setAxl (d : Dev) (i : Nat) (x : AxlLink) : Dev := { d with axls := Store.set (fun _ => AxlLink.initial) d.axls i x }

/-- Whether the Trellis may take time from axle link `i`: it is UP, and its leader has the same tick period (R48, R483). -/
def Dev.axlTime (d : Dev) (i : Nat) : Bool := d.axlUp i && !(d.axl i).otherPeriod

/-- Whether any unit is in ENABLING or RUN. -/
def Dev.anyActive (d : Dev) : Bool := (List.range 32).any (fun u => (d.unit u).active)

/-- The error bound after `t` lane cycles of HOLDOVER, saturating (R54). -/
def holdErr (cycles : Nat) : Nat := min (20 + (5 * cycles + 7999999) / 8000000) 0xFFFFFFFF

/-- TRL_HOLD_ERR and TRL_HOLD_TIME as the state gives them (R54, R73). -/
def Dev.holdRegs (d : Dev) : Dev :=
  let t := d.now - d.trl.holdAt
  if d.trlState = trlHoldover then
    (d.setFld 0 F.TRL_HOLD_ERR_ns (holdErr t)).setFld 0 F.TRL_HOLD_TIME_ms (min (t / cyclesPerMs) 0xFFFFFFFF)
  else if d.trlState = trlLocked ∨ d.trlState = trlAxle then d.setFld 0 F.TRL_HOLD_ERR_ns 20
  else if d.trlState = trlGm then d.setFld 0 F.TRL_HOLD_ERR_ns 0
  else d.setFld 0 F.TRL_HOLD_ERR_ns 0xFFFFFFFF

/-- The trim of the lane clock while a correction is slewed: by at most 100 ppm beside the servo's, within 250 ppm (R44, R50). -/
def Trellis.trimNow (x : Trellis) : Int :=
  clampInt (-250000) 250000 (x.trim + (if x.slew < 0 then -100000 else if 0 < x.slew then 100000 else 0))

/-- In HOLDOVER the lane clock keeps the trim it had at the moment of entry, and no correction goes on (R53). -/
def Dev.holdTrim (d : Dev) : Dev := { d with trl := { d.trl with trim := d.trl.trimNow, slew := 0 } }

/-- Enter a Trellis state: TIME_LOCKED on entry into LOCKED or AXLE, TIME_HOLDOVER on entry into HOLDOVER; no port is
received outside ACQUIRE and LOCKED (R48, R73). -/
def Dev.trlEnter (d : Dev) (st : Nat) : Dev :=
  if d.trlState = st then d
  else
    let d0 := if d.trlState = trlHoldover then d.holdRegs else d
    let d1 := d0.setFld 0 F.TRL_STATUS_state st
    let d2 := if st = trlAcquire ∨ st = trlLocked then d1 else d1.setFld 0 F.TRL_STATUS_port 7
    let d3 := { d2 with trl := { d2.trl with synced := 0, holdAt := if st = trlHoldover then d.now else d2.trl.holdAt, lead := none } }
    let d4 := (if st = trlHoldover then d3.holdTrim else d3).holdRegs
    if st = trlLocked ∨ st = trlAxle then d4.raise Ev.TIME_LOCKED scopeChip 0
    else if st = trlHoldover then d4.raise Ev.TIME_HOLDOVER scopeChip 0
    else d4

/-- Whether gPTP port `p` is enabled. -/
def Dev.ptpOn (d : Dev) (p : Nat) : Bool := bitOf (d.fld 0 F.TRL_PORT_enable) p

/-- A rank as a number: the smaller is the better (R46). -/
def rankKey (x : ClockRank) : Nat :=
  (x.priority1 ++ x.clockClass ++ x.quality ++ x.priority2 ++ x.identity ++ x.steps).toNat

/-- The device's own rank (R46). -/
def Dev.ownRank (d : Dev) : ClockRank :=
  ⟨d.trl.own.priority1, d.trl.own.clockClass, Config.ownQuality, d.trl.own.priority2, Config.ownIdentity, 0⟩

/-- The rank of the master announced on an enabled port. PRESUMED (IEEE 802.1AS): it is gone when 3 announce intervals pass
without an Announce (assumption 91). -/
def Dev.rankOf (d : Dev) (p : Nat) : Option Nat :=
  if d.ptpOn p then
    match Store.get (fun _ => none) d.trl.rank p with
    | some x => if d.now ≤ x.at_ + 3 * x.ivl then some (rankKey x.rank) else none
    | none => none
  else none

/-- The port the best master clock algorithm chooses: the enabled port with the best announced master, of equal ones the
lowest-numbered (R47). -/
def Dev.bestPort (d : Dev) : Option Nat :=
  (List.range 6).foldl (fun best p =>
    match d.rankOf p, best.bind d.rankOf with
    | some a, some b => if a < b then some p else best
    | some _, none => some p
    | none, _ => best) none
def Dev.chosenPort (d : Dev) (p : Nat) : Bool := d.bestPort == some p

/-- The device wins the best master clock algorithm: it may become grandmaster, a port is enabled, and no enabled port
announces a better master (R47, R48). -/
def Dev.winsBmca (d : Dev) : Bool :=
  d.flag 0 F.TRL_CTRL_gm_enable && d.fld 0 F.TRL_PORT_enable != 0 && !d.flag 0 F.TRL_CTRL_src &&
    (List.range 6).all (fun q => match d.rankOf q with | some r => decide (rankKey d.ownRank ≤ r) | none => true)

/-- A device that wins the best master clock algorithm becomes grandmaster (R47, R48). -/
def Dev.becomeGm (d : Dev) : Dev := if d.winsBmca = true ∧ d.trlState ≠ trlAxle then d.trlEnter trlGm else d

/-! ### Steps of the counter -/

/-- The time of the counter at edge step `s`, in units of 2^-16 ns. -/
def Dev.timeAtStep (d : Dev) (s : Nat) : Int := (d.net.toNat : Int) + ((s : Int) - 32 * (d.now : Int)) * 2560

/-- The epoch and the period in force, in units of 2^-16 ns (R55). -/
def Dev.epochUnits (d : Dev) : Int := ((d.inForce 0 F.TRL_EPOCH_LO_ns + 2 ^ 32 * d.inForce 0 F.TRL_EPOCH_HI_ns : Nat) : Int) * 65536
def Dev.periodUnits (d : Dev) : Int := (d.tickCycles : Int) * 81920

/-- The leader's tick that the grid follows: in AXLE, the tick phase is the leader's (R72, R483). -/
def Dev.leader (d : Dev) : Option (Int × Nat) := if d.trlState = trlAxle then d.trl.lead else none

/-- The index of the grid instant towards which a tick at edge step `s` re-phases: the nearest, the later of two at
exactly P/2 (R56). -/
def Dev.gridIndex (d : Dev) (s : Nat) : Int :=
  match d.leader with
  | some x =>
    let p : Int := 32 * d.tickCycles
    x.2 + (2 * ((s : Int) - x.1) + p) / (2 * p)
  | none => (2 * (d.timeAtStep s - d.epochUnits) + d.periodUnits) / (2 * d.periodUnits)

/-- The edge step nearest to grid instant `k`, relative to step `s`; half-way takes the earlier (R56). -/
def Dev.gridOffset (d : Dev) (s : Nat) (k : Int) : Int :=
  match d.leader with
  | some x => x.1 + (k - x.2) * (32 * d.tickCycles) - s
  | none => -((-(2 * (d.epochUnits + k * d.periodUnits - d.timeAtStep s) - 2560)) / 5120)

/-- Recompute TRL_TICK_CNT, TRL_PHASE_ERR and rephasing for the last emitted tick (R50, R51, R56). -/
def Dev.regrid (d : Dev) : Dev :=
  let s := d.trl.tickStep
  let k := d.gridIndex s
  let e := d.gridOffset s k
  ((d.setFld 0 F.TRL_TICK_CNT_k (lowBits 32 k)).setFld 0 F.TRL_PHASE_ERR_steps (lowBits 32 (-e))).setFld 0
    F.TRL_STATUS_rephasing (if e = 0 then 0 else 1)

/-- The largest correction of one tick, in edge steps (R56). -/
def Dev.tickCorrection (d : Dev) : Nat := min (d.fld 0 F.TRL_SLEW_step) (32 * d.tickCycles / 10000)

/-- Set the counter as one step: TIME_STEP, and TRL_TICK_CNT recomputed (R50, R51). -/
def Dev.stepTime (d : Dev) (net : PtpTime) : Dev :=
  ({ d with net := net, trl := { d.trl with slew := 0 } }.regrid).raise Ev.TIME_STEP scopeChip 0

/-! ### gPTP messages -/

/-- Four consecutive Syncs within 50 ns of the master lock the Trellis (R48). -/
def Dev.countSync (d : Dev) (offset : Int) : Dev :=
  let n := if -50 ≤ offset ∧ offset ≤ 50 then d.trl.synced + 1 else 0
  let d1 := { d with trl := { d.trl with synced := n } }
  if 4 ≤ n ∧ d1.trlState = trlAcquire then d1.trlEnter trlLocked else d1

/-- The time stamp of a message that arrives now, taken at the PHY in units of 8 ns (R465). -/
def Dev.syncStamp (d : Dev) : PtpTime := BitVec.ofNat 80 (d.net.toNat / 0x80000 * 0x80000)

/-- The offset to the master, in units of 2^-16 ns, for a Sync that arrived at `arrival` and left at `origin`: less the link delay
and the path asymmetry of the port (R46, R52). DEDUCED: a positive asymmetry is a longer path to the device (assumption 91). -/
def Dev.syncOffset (d : Dev) (p : Nat) (arrival origin : PtpTime) : Int :=
  (arrival.toNat : Int) - origin.toNat - Store.get (fun _ => 0) d.trl.delay p - signed 16 (d.fld (4 * p) F.TRL_ASYM_asym) * 4096

/-- The servo sets the trim of the lane clock, within 250 ppm; the spec does not state its law (R44). -/
def Dev.servoTrim (d : Dev) : Dev :=
  let f := d.takeFree
  { f.2 with trl := { f.2.trl with trim := (f.1.toNat % 500001 : Nat) - 250000 } }

/-- The offset of a Sync is known: in ACQUIRE one beyond 1 µs is removed by one step while no unit is in ENABLING or RUN; every
other correction is a slew (R48, R50). -/
def Dev.applySync (d : Dev) (u : Int) : Dev :=
  let offset := u / 65536
  let d1 := (d.setFld 0 F.TRL_OFFSET_ns (lowBits 32 offset)).servoTrim
  let d2 :=
    if d1.trlState = trlAcquire ∧ (offset < -1000 ∨ 1000 < offset) ∧ d1.anyActive = false then
      d1.stepTime (BitVec.ofInt 80 ((d1.net.toNat : Int) - u))
    else { d1 with trl := { d1.trl with slew := -u } }
  d2.countSync offset

/-- Whether the Trellis takes time from gPTP port `p` (R47, R48). -/
def Dev.takesFrom (d : Dev) (p : Nat) : Bool :=
  !d.flag 0 F.TRL_CTRL_src && d.chosenPort p && !d.winsBmca && d.trlState != trlAxle

/-- SYNC: a Sync on the chosen port. The first one in FREE, GM or HOLDOVER enters ACQUIRE. With its origin time in it (one-step)
the offset is known; else its arrival is noted for the Follow_Up (R46 to R50). `ivl` is the master's sync interval in lane
cycles, `origin` is in units of 2^-16 ns. -/
def execSync (p : EthPort) (origin : Option (PtpTime)) (ivl : Nat) (s : State) : Host.Outcome State Fault Refusal :=
  let d := s.dev
  s.done (
    if d.takesFrom p.val then
      let d0 := if d.trlState = trlLocked then d else d.trlEnter trlAcquire
      let d1 := d0.setFld 0 F.TRL_STATUS_port p.val
      let d2 := { d1 with trl := { d1.trl with
        lastSync := d1.now, syncIvl := ivl
        arrival := Store.set (fun _ => none) d1.trl.arrival p.val (if origin.isSome then none else some d1.syncStamp) } }
      match origin with
      | some t => d2.applySync (d2.syncOffset p.val d2.syncStamp t)
      | none => d2
    else d)

/-- FOLLOW_UP: the precise origin time of the Sync that waits on its port; the offset is known now (R46). -/
def execFollowUp (p : EthPort) (origin : PtpTime) (s : State) : Host.Outcome State Fault Refusal :=
  let d := s.dev
  s.done (
    match Store.get (fun _ => none) d.trl.arrival p.val with
    | none => d
    | some t =>
      let d1 := { d with trl := { d.trl with arrival := Store.set (fun _ => none) d.trl.arrival p.val none } }
      if d.takesFrom p.val = true ∧ (d.trlState = trlAcquire ∨ d.trlState = trlLocked) then d1.applySync (d1.syncOffset p.val t origin)
      else d1)

/-- PDELAY: the link delay of a port, half of the time from its request to the response less the time the peer held it, in units
of 2^-16 ns (R46). -/
def execPdelay (p : EthPort) (trip hold : Nat) (s : State) : Host.Outcome State Fault Refusal :=
  s.done { s.dev with trl := { s.dev.trl with delay := Store.set (fun _ => 0) s.dev.trl.delay p.val ((trip - hold) / 2) } }

/-- ANNOUNCE: the announced master of a port feeds the best master clock algorithm; a device that wins becomes
grandmaster (R47, R48). `own` is a new configuration of the device's own rank by the firmware driver (R46). -/
def execAnnounce (p : EthPort) (rank : Option ClockRank) (ivl : Nat) (own : Option OwnClock) (s : State) :
    Host.Outcome State Fault Refusal :=
  let d := s.dev
  let t := d.trl
  s.done ({ d with trl := { t with
    rank := match rank with
      | some x => Store.set (fun _ => none) t.rank p.val (some ⟨x, d.now, ivl⟩)
      | none => t.rank
    own := own.getD t.own } } : Dev).becomeGm

/-- Put something on the line of a port, where it is not looped back (R461); the newest 16 are kept. -/
def Dev.putWire (d : Dev) (p : Nat) (x : LineItem) : Dev :=
  if d.flag (portReg p) F.PORT_CTRL_loop then d
  else { d with wire := Store.set (fun _ => []) d.wire p ((x :: Store.get (fun _ => []) d.wire p).take 16) }

/-- As grandmaster the device sends Announce, and Sync with its Follow_Up, on every enabled port. The spec does not say at which
intervals, so a free value says in which lane cycles (R46, R47). -/
def Dev.gmSends (d : Dev) : Dev :=
  if d.trlState = trlGm then
    let f := d.takeFree
    if bitOf f.1.toNat 0 then
      f.2.each ((List.range 6).filter (fun p => d.ptpOn p && d.flag (portReg p) F.PORT_STAT_up)) (fun p d =>
        (d.putWire p (.announce d.ownRank)).putWire p (.syncOrigin d.syncStamp))
    else f.2
  else d

/-- SYNC_TIMEOUT: no Sync for 3 sync intervals of the master: LOCKED goes to HOLDOVER, ACQUIRE to GM where the device wins, else
to FREE (R48). -/
def execSyncTimeout (s : State) : Host.Outcome State Fault Refusal :=
  let d := s.dev
  s.done (
    if d.now < d.trl.lastSync + 3 * d.trl.syncIvl then d
    else if d.trlState = trlLocked then d.trlEnter trlHoldover
    else if d.trlState = trlAcquire then (if d.winsBmca then d.trlEnter trlGm else d.trlEnter trlFree)
    else d)

/-! ### Register writes -/

/-- The state after a change of TRL_CTRL or TRL_PORT (R47, R48). Where src is cleared in AXLE the Trellis enters
HOLDOVER (DESIGN CHOICE, assumption 10). -/
def Dev.resource (d : Dev) : Dev :=
  let up := d.axlTime 0 || d.axlTime 1
  if d.flag 0 F.TRL_CTRL_src then
    if up then d.trlEnter trlAxle
    else if d.trlState = trlAxle then d.trlEnter trlHoldover
    else if d.trlState = trlGm then d.trlEnter trlFree
    else d
  else if d.trlState = trlAxle then d.trlEnter trlHoldover
  else if d.winsBmca then d.trlEnter trlGm
  else if d.trlState = trlGm ∧ (d.flag 0 F.TRL_CTRL_gm_enable = false ∨ d.fld 0 F.TRL_PORT_enable = 0) then
    d.trlEnter trlFree
  else d

/-- A write of TRL_CTRL: gm_enable and src take their values, and apply = 1 makes an apply pending (R48, R68). -/
def Dev.writeTrlCtrl (d : Dev) (m : Master) (v : Word) : Dev :=
  let d1 := (d.plainWrite m 0x40000000 v).resource
  if bitOf v.toNat 4 then d1.setFld 0 F.TRL_STATUS_apply_pending 1 else d1

/-- A write of TRL_PORT (R47, R48). -/
def Dev.writeTrlPort (d : Dev) (m : Master) (v : Word) : Dev := (d.plainWrite m 0x40000038 v).resource

/-- TRL_CTRL_WRITE: a write of TRL_CTRL or, with `port`, of TRL_PORT. -/
def execTrlCtrlWrite (m : Master) (port : Bool) (v : Word) (s : State) : Host.Outcome State Fault Refusal :=
  s.done (if port then s.dev.writeTrlPort m v else s.dev.writeTrlCtrl m v)

/-- TRL_CTRL_APPLY: a write of TRL_CTRL whose apply bit makes the apply pending (R68). -/
def execTrlCtrlApply (m : Master) (v : Word) (s : State) : Host.Outcome State Fault Refusal :=
  s.done (s.dev.writeTrlCtrl m v)

/-- The copies of the high word and the fraction (R45). -/
def Dev.copyTime (d : Dev) : Dev :=
  ((d.setFld 0 F.TRL_TIME_LO_ns (d.ns.toNat % 2 ^ 32)).setFld 0 F.TRL_TIME_HI_ns (d.ns.toNat / 2 ^ 32)).setFld 0
    F.TRL_TIME_FRAC_frac (d.net.toNat % 65536)

/-- TRL_TIME_LO_READ (R45). -/
def execTrlTimeLoRead (_m : Master) (s : State) : Host.Outcome State Fault Refusal :=
  s.done (s.dev.copyTime.answer (s.dev.ns.setWidth 32))

/-- A write of TRL_TIME_HI is held (R51). -/
def Dev.writeTimeHi (d : Dev) (v : Word) : Dev := { d with trl := { d.trl with heldHi := some v } }

/-- A write of TRL_TIME_LO steps the counter in FREE or GM while no unit is in ENABLING or RUN; else TICK_CFG_REFUSED. The
held high word is used up in either case (R51). -/
def Dev.writeTimeLo (d : Dev) (v : Word) : Dev :=
  let d0 := { d with trl := { d.trl with heldHi := none } }
  if (d.trlState = trlFree ∨ d.trlState = trlGm) ∧ d.anyActive = false then
    let hi := match d.trl.heldHi with
      | some h => h.toNat
      | none => d.ns.toNat / 2 ^ 32
    d0.stepTime (BitVec.ofNat 80 ((hi * 2 ^ 32 + v.toNat) * 65536))
  else d0.raise Ev.TICK_CFG_REFUSED scopeChip 0

/-- TRL_TIME_HI_WRITE (R51). -/
def execTrlTimeHiWrite (_m : Master) (v : Word) (s : State) : Host.Outcome State Fault Refusal :=
  s.done (s.dev.writeTimeHi v)

/-- TRL_TIME_LO_WRITE (R51). -/
def execTrlTimeLoWrite (_m : Master) (v : Word) (s : State) : Host.Outcome State Fault Refusal :=
  s.done (s.dev.writeTimeLo v)

/-- Whether the write of RGN_SUBTICK changes the factor of local block `i` while a unit that owns a leg of it is not
DISABLED (R59). -/
def Dev.subtickRefused (d : Dev) (r i : Nat) (v : Word) : Bool :=
  bitsOf v.toNat (2 * i) 2 != bitsOf (d.reg (rgnReg r + 0x68)).toNat (2 * i) 2 &&
    (d.blockUnits (4 * r + i)).any (fun u => (d.unit u).st != .disabled)

/-- A write of RGN_SUBTICK, block by block (R59, R68). -/
def Dev.writeSubtick (d : Dev) (r : Nat) (v : Word) : Dev :=
  let old := (d.reg (rgnReg r + 0x68)).toNat
  let w := [0, 1, 2, 3].foldl (fun acc i =>
    if d.subtickRefused r i v then acc else withBits acc (2 * i) 2 (bitsOf v.toNat (2 * i) 2)) old
  let d1 := d.setReg (rgnReg r + 0x68) (BitVec.ofNat 32 w)
  if [0, 1, 2, 3].any (fun i => d.subtickRefused r i v) then d1.raise Ev.TICK_CFG_REFUSED scopeChip 0 else d1

/-- RGN_SUBTICK_WRITE (R59, R74). -/
def execRgnSubtickWrite (_m : Master) (r : RegionId) (v : Word) (s : State) : Host.Outcome State Fault Refusal :=
  s.done (s.dev.writeSubtick r v)

/-- The order the phase fields must keep (R61). -/
def phasesOk (compute exchange commit point : Nat) : Bool :=
  decide (1 ≤ compute ∧ compute ≤ exchange ∧ exchange ≤ commit ∧ commit < point ∧ point ≤ 980)

/-- A write of RGN_PHASE0 or, with `second`, RGN_PHASE1: one that breaks the order is refused as a whole (R61). -/
def Dev.writePhase (d : Dev) (m : Master) (r : Nat) (second : Bool) (v : Word) : Dev :=
  let w0 := if second then (d.reg (rgnReg r + 0x60)).toNat else v.toNat
  let w1 := if second then v.toNat else (d.reg (rgnReg r + 0x64)).toNat
  if phasesOk (bitsOf w0 0 10) (bitsOf w0 16 10) (bitsOf w1 0 10) (bitsOf w1 16 10) then
    d.plainWrite m (rgnReg r + if second then 0x64 else 0x60) v
  else d.raise Ev.TICK_CFG_REFUSED scopeChip 0

/-- RGN_PHASE_WRITE (R61, R74). -/
def execRgnPhaseWrite (m : Master) (r : RegionId) (second : Bool) (v : Word) (s : State) :
    Host.Outcome State Fault Refusal := s.done (s.dev.writePhase m r second v)

end Sys2Proof.Machine
end

