-- ==== Sys2Proof/Machine/Sch.lean ====
section
/-! DEFINITION. The safe channel: frames, connections and their checks (R370 to R381), with the worst cases and BOUND ceilings
of the safety-function slots (R363 to R366). -/

namespace Sys2Proof.Machine

/-! ### Connections -/

/-- Registers of connection `n` (R385). -/
def conBase (n : Nat) : Nat := 0x40 * n

/-- A connection. -/
def Dev.sch (d : Dev) (n : Nat) : SchConn := Store.get (fun _ => SchConn.initial) d.schs n
def Dev.setSch (d : Dev) (n : Nat) (x : SchConn) : Dev :=
  { d with schs := Store.set (fun _ => SchConn.initial) d.schs n x }

/-- The states of SCH_CONn_STAT.state (R380). -/
abbrev conOff : Nat := 0
abbrev conSync : Nat := 1
abbrev conRun : Nat := 2
abbrev conFaulted : Nat := 3
def Dev.conState (d : Dev) (n : Nat) : Nat := d.fld (conBase n) F.SCH_CON_STAT_state

/-- Whether a connection is in SYNC or RUN. -/
def Dev.conLive (d : Dev) (n : Nat) : Bool := d.conState n == conSync || d.conState n == conRun

/-- A transmit connection. -/
def Dev.conSends (d : Dev) (n : Nat) : Bool := d.flag (conBase n) F.SCH_CON_CFG_dir

/-- A connection fault with its cause: 1 errors, 2 watchdog, 3 ceiling (R379). -/
def Dev.conFault (d : Dev) (n cause : Nat) : Dev :=
  let a := conBase n
  let d1 := (d.setFld a F.SCH_CON_STAT_state conFaulted).setFld a F.SCH_CON_STAT_fault cause
  ((d1.bump 0 F.SCH_STAT_faults).bump a F.SCH_CON_CNT2_faults).raise Ev.SCH_FAULT scopeChip 0

/-- TRL_HOLD_ERR exceeds the connection's ceiling (R378). -/
def Dev.overCeiling (d : Dev) (n : Nat) : Bool :=
  decide (1000 * d.fld (conBase n) F.SCH_CON_HOLD_ceiling < d.fld 0 F.TRL_HOLD_ERR_ns)

/-- The test of R378 in a tick. -/
def Dev.conCeiling (d : Dev) (n : Nat) : Dev := if d.conLive n && d.overCeiling n then d.conFault n 3 else d

/-- Enter SYNC: the counts of errors and the sequence start anew, the watchdog runs from now (R374, R380). -/
def Dev.conStart (d : Dev) (n : Nat) : Dev :=
  let a := conBase n
  let d1 := ((d.setFld a F.SCH_CON_STAT_state conSync).setFld a F.SCH_CON_STAT_errs 0).setFld a F.SCH_CON_STAT_fault 0
  d1.setSch n { d1.sch n with synced := false, landed := none, since := d1.now, ticks := 0, txSeq := 0, resetDue := false }

/-- CAN ports (R460), and the modes of a controller. -/
def isCan (p : Nat) : Bool := decide (6 ≤ p ∧ p < 14)
def Dev.canMode (d : Dev) (p : Nat) : Nat := d.fld (portReg p) F.CAN_CFG_mode
def Dev.isFd (d : Dev) (p : Nat) : Bool := isCan p && d.canMode p == 1

/-- Ports that carry the safe channel (R460). -/
def safePort (p : Nat) : Bool := decide (p < 14 ∨ p = 22 ∨ p = 23)

/-! ### Frames (R371 to R373) -/

/-- The safety code over the identity and the frame without its code. -/
def safetyCode (sid : Nat) (body : List Byte) : Nat :=
  crcMsb 32 0xF4ACFB13 0xFFFFFFFF (beBytes 4 sid ++ body) ^^^ 0xFFFFFFFF

/-- The smallest FD length not below `n` (R470). -/
def fdLength (n : Nat) : Nat :=
  if n ≤ 8 then n else ([12, 16, 20, 24, 32, 48].find? (fun l => decide (n ≤ l))).getD 64

/-- The length in which a frame of connection `n` arrives: on a CAN FD port the FD length (R371, R466, R470). -/
def Dev.frameLength (d : Dev) (n : Nat) : Nat :=
  let len := 20 + d.fld (conBase n) F.SCH_CON_CFG_len
  if d.isFd (d.fld (conBase n) F.SCH_CON_CFG_port) then fdLength len else len

/-- `n` bytes of a frame from byte `i`, as a number. -/
def frameNat (f : List Byte) (i n : Nat) : Nat := beNat ((f.drop i).take n)

/-- Bytes of the 64-byte buffer of a connection (R385). -/
def Dev.bufByte (d : Dev) (n i : Nat) : Byte :=
  BitVec.ofNat 8 (bitsOf (d.reg (0x40051000 + 0x40 * n + i / 4 * 4)).toNat (8 * (i % 4)) 8)
def Dev.setBufByte (d : Dev) (n i : Nat) (b : Byte) : Dev :=
  let a := 0x40051000 + 0x40 * n + i / 4 * 4
  d.setReg a (BitVec.ofNat 32 (withBits (d.reg a).toNat (8 * (i % 4)) 8 b.toNat))

/-- Put bytes into the buffer of a connection from its start. -/
def Dev.fillBuf (d : Dev) (n : Nat) (l : List Byte) : Dev :=
  ((List.range 64).zip l).foldl (fun d x => d.setBufByte n x.1 x.2) d

/-- The flags of a frame that the device sends (R351, R352, R372, R535). -/
def Dev.frameFlags (d : Dev) (n : Nat) : Nat :=
  let upd := d.fld 0 F.HSL_UPD_state != 0
  let debug := d.flag 0 F.HSL_STAT_debug_split
  let bit := fun (c : Bool) => (if c then 1 else 0 : Nat)
  pack [(bit (d.flag 0 F.HSL_STAT_split || debug || upd), 1), (d.fld (conBase n) F.SCH_CON_CTRL_reset_req, 1),
    (d.fld (conBase n) F.SCH_CON_STAT_toggle, 1), (bit debug, 1), (bit (d.trlState == trlHoldover), 1),
    (bit (d.fld 0 F.HSL_SFSTAT_demand != 0 || upd), 1)]

/-- The network time of the last tick in ns. -/
def Dev.tickNs (d : Dev) : Nat := (d.timeAtStep d.trl.tickStep / 65536 % 2 ^ 64).toNat

/-- The frame that connection `n` sends at this tick (R371 to R374). -/
def Dev.safeFrame (d : Dev) (n : Nat) : List Byte :=
  let a := conBase n
  let len := d.fld a F.SCH_CON_CFG_len
  let body := beBytes 4 (d.fld a F.SCH_CON_ID_id) ++ beBytes 2 (d.sch n).txSeq ++ beBytes 1 (d.frameFlags n) ++ beBytes 1 len ++
    beBytes 8 d.tickNs ++ (List.range len).map (fun i => d.bufByte n i)
  body ++ beBytes 4 (safetyCode (d.fld a F.SCH_CON_SID_sid) body)

/-- Queue a safe-channel frame at its port for the next frame boundary (R464, R486); an axle link that is not UP carries no traffic
(R482, R491). -/
def Dev.queueLink (d : Dev) (p : Nat) (f : List Byte) : Dev :=
  if 22 ≤ p then
    if d.axlUp (p - 22) then
      let x := d.axl (p - 22)
      d.setAxl (p - 22) { x with safeq := x.safeq ++ [.frame 2 false 0 (d.reg F.TRL_TICK_CNT.off) f] }
    else d
  else { d with linkq := Store.set (fun _ => []) d.linkq p (Store.get (fun _ => []) d.linkq p ++ [f]) }

/-- Whether a transmit connection sends at the last tick; a controller in classic mode sends nothing (R371, R374). -/
def Dev.schSends (d : Dev) (n : Nat) : Bool :=
  let p := d.fld (conBase n) F.SCH_CON_CFG_port
  d.conSends n && d.conLive n && decide (d.fld (conBase n) F.SCH_CON_CFG_div ≤ (d.sch n).ticks) && !(isCan p && d.canMode p == 0)

/-- SCH_TRANSMIT: the tick at which a transmit connection sends; its first frame moves it to RUN (R374, R380). -/
def execSchTransmit (n : Fin 32) (s : State) : Host.Outcome State Fault Refusal :=
  let d := s.dev
  let a := conBase n
  let x := d.sch n
  let p := d.fld a F.SCH_CON_CFG_port
  s.done (
    if d.schSends n then
      let f := d.safeFrame n
      let d1 := (d.setSch n { x with ticks := 0, txSeq := (x.txSeq + 1) % 65536, sent := f }).setFld a
        F.SCH_CON_STAT_seq x.txSeq
      (d1.setFld a F.SCH_CON_STAT_state conRun).queueLink p f
    else d)

/-! ### Reception (R375 to R377) -/

/-- The number that names the present tick: one more than its edge step. -/
def Dev.tickName (d : Dev) : Nat := d.trl.tickStep + 1

/-- The first check that fails, or 0 (R376). The two check paths of the model agree. -/
def Dev.schCode (d : Dev) (n : Nat) (f : List Byte) (ns : DWord) : Nat :=
  let a := conBase n
  let len := d.fld a F.SCH_CON_CFG_len
  let flags := frameNat f 6 1
  let run := d.conState n == conRun
  let w : Int := d.fld 0 F.TRL_HOLD_ERR_ns + 1000 * d.fld a F.SCH_CON_HOLD_peer_err
  let age : Int := (ns.toNat : Int) - frameNat f 8 8
  if f.length ≠ d.frameLength n ∨ frameNat f 7 1 ≠ len then 1
  else if (d.sch n).erased = true ∨
      frameNat f (16 + len) 4 ≠ safetyCode (d.fld a F.SCH_CON_SID_sid) (f.take (16 + len)) then 2
  else if 64 ≤ flags ∨ ((bitOf flags 0 || bitOf flags 3) && !d.flag a F.SCH_CON_CFG_accept_ns) = true then 3
  else if run && bitOf flags 2 != d.flag a F.SCH_CON_STAT_toggle then 4
  else if run && frameNat f 4 2 != (d.fld a F.SCH_CON_STAT_seq + 1) % 65536 then 5
  else if 1000 * (d.fld a F.SCH_CON_AGE_max_age : Int) + w < age then 6
  else if 1000 * (d.fld a F.SCH_CON_AGE_skew : Int) + w < -age then 7
  else 0

/-- Whether the time checks pass, for R377. -/
def Dev.schTimely (d : Dev) (n : Nat) (f : List Byte) (ns : DWord) : Bool :=
  let a := conBase n
  let w : Int := d.fld 0 F.TRL_HOLD_ERR_ns + 1000 * d.fld a F.SCH_CON_HOLD_peer_err
  let age : Int := (ns.toNat : Int) - frameNat f 8 8
  decide (age ≤ 1000 * (d.fld a F.SCH_CON_AGE_max_age : Int) + w ∧ -age ≤ 1000 * (d.fld a F.SCH_CON_AGE_skew : Int) + w)

/-- A valid frame: its payload, the watchdog, the sequence, and in SYNC the steps towards RUN (R376, R380, R381). -/
def Dev.schValid (d : Dev) (n : Nat) (f : List Byte) (at_ : Nat) (ns : DWord) : Dev :=
  let a := conBase n
  let x := d.sch n
  let seq := frameNat f 4 2
  let flags := frameNat f 6 1
  let reset := bitOf flags 1
  let run := d.conState n == conRun
  let second := x.synced && seq == (d.fld a F.SCH_CON_STAT_seq + 1) % 65536
  let d1 := (d.fillBuf n ((f.drop 16).take (d.fld a F.SCH_CON_CFG_len))).bump a F.SCH_CON_CNT_valid
  let d2 := (d1.setFld a F.SCH_CON_STAT_errs 0).setFld a F.SCH_CON_AGEV_age (((ns.toNat : Int) - frameNat f 8 8).toNat)
  let d3 := d2.setFld a F.SCH_CON_STAT_seq seq
  let d4 := if run then d3
    else if second then d3.setFld a F.SCH_CON_STAT_state conRun
    else d3.setFld a F.SCH_CON_STAT_toggle (bitsOf flags 2 1)
  d4.setSch n { x with
    synced := true, since := at_, payload0 := (f.drop 16).headD 0, hadReset := reset,
    resetDue := x.resetDue || (run && reset && !x.hadReset) }

/-- A frame that fails a check; three in a row fault the connection (R376, R377, R379). -/
def Dev.schError (d : Dev) (n code : Nat) (f : List Byte) (ns : DWord) : Dev :=
  let a := conBase n
  let errs := d.fld a F.SCH_CON_STAT_errs + 1
  let d1 := ((d.setFld a F.SCH_CON_STAT_last_err code).setFld a F.SCH_CON_STAT_errs (min errs 3)).bump a
    F.SCH_CON_CNT_errors
  let d2 := if code = 5 ∧ d.schTimely n f ns = true then d1.setFld a F.SCH_CON_STAT_seq (frameNat f 4 2) else d1
  let d3 := (d2.setSch n { d2.sch n with synced := d2.conState n == conRun }).raise Ev.SCH_ERROR scopeChip 0
  if 3 ≤ errs then d3.conFault n 1 else d3

/-- Check the frame that has landed (R375, R376). A connection in FAULTED or OFF checks nothing. -/
def Dev.schCheck (d : Dev) (n : Nat) : Dev :=
  match (d.sch n).landed with
  | none => d
  | some (f, at_, ns) =>
    let d1 := d.setSch n { d.sch n with landed := none }
    if d1.conLive n then
      let code := d1.schCode n f ns
      if code = 0 then d1.schValid n f at_ ns else d1.schError n code f ns
    else d1

/-- SCH_FRAME_CHECK: in the tick after its landing (R375). -/
def execSchFrameCheck (n : Fin 32) (s : State) : Host.Outcome State Fault Refusal :=
  let d := s.dev
  s.done (if (d.sch n).landTick ≠ d.tickName then d.schCheck n else d)

/-- The enabled receive connection whose port and ID match a frame (R370). -/
def Dev.conFor (d : Dev) (p : Nat) (f : List Byte) : Option Nat :=
  (List.range 32).find? (fun n => d.flag (conBase n) F.SCH_CON_CFG_en && !d.conSends n &&
    d.fld (conBase n) F.SCH_CON_CFG_port == p && d.fld (conBase n) F.SCH_CON_ID_id == frameNat f 0 4)

/-- A safe-channel frame lands: it waits for the next tick; later frames of the tick are discarded; without a match it is
unknown (R370, R375). -/
def Dev.schLand (d : Dev) (p : Nat) (f : List Byte) : Dev :=
  if isCan p && d.canMode p == 0 then d
  else
    match d.conFor p f with
    | none => d.bump 0 F.SCH_STAT_unknown
    | some n =>
      if (d.sch n).landTick = d.tickName then d.bump (conBase n) F.SCH_CON_CNT2_excess
      else
        let d1 := d.schCheck n
        d1.setSch n { d1.sch n with landed := some (f, d1.now, d1.ns), landTick := d1.tickName }

/-- SCH_FRAME_LAND. -/
def execSchFrameLand (p : PortId) (frame : List Byte) (s : State) : Host.Outcome State Fault Refusal :=
  s.done (s.dev.schLand p frame)

/-- Whether at the last tick no valid frame had landed within wd µs (R379). -/
def Dev.schLate (d : Dev) (n : Nat) : Bool :=
  !d.conSends n && d.conLive n &&
    decide (32 * ((d.sch n).since + d.fld (conBase n) F.SCH_CON_WD_wd * cyclesPerUs) ≤ d.trl.tickStep)

/-- SCH_WATCHDOG_EXPIRY: tested at each tick (R379). -/
def execSchWatchdogExpiry (n : Fin 32) (s : State) : Host.Outcome State Fault Refusal :=
  s.done (if s.dev.schLate n then s.dev.conFault n 2 else s.dev)

/-! ### Worst cases (R364), in quarters of a ns -/

/-- O: 62.5 ns, or 65 ns with a direct leg in a unit of the slot. -/
def Dev.slotO (d : Dev) (k : Nat) : Nat :=
  if (d.slotUnits k).any (fun u => (d.unitLegs u).any isDirect) then 260 else 250

/-- C, the safety-pair cycle. -/
def Dev.pairCycle (d : Dev) : Nat := 4000 * d.fld 0 F.HSL_WD_period

/-- T_m of a chip feedback channel. -/
def Dev.channelTm (d : Dev) (c : Nat) : Nat :=
  let r := c / 2
  let a := fbBase r (c % 2)
  match d.fld a F.FB_CFG_src with
  | 2 => 5 * (2 * d.fld a F.RES_EXC_half)
  | 3 =>
    let k := 32 * r + d.fld a F.FB_CFG_leg
    match d.fld a F.FB_CFG_trig with
    | 0 => 2 * 5 * d.subLen (4 * r + d.fld a F.FB_CFG_blk)
    | 3 => 5 * d.legPeriod k / 32
    | _ => 2 * 5 * d.legPeriod k / 32
  | _ => 16000

/-- The largest worst case over a slot's demand sources; 0 where it has none (DESIGN CHOICE). -/
def Dev.sourceWc (d : Dev) (k : Nat) : Nat :=
  let a := sfBase k
  let o := d.slotO k
  let pins := if d.flag a F.HSL_SF_CFG_pins then 4000 * d.fld 0 F.HSL_STO_filt + o else 0
  let c := conBase (d.fld a F.HSL_SF_CFG_con)
  let far := max (d.fld c F.SCH_CON_AGE_max_age + d.fld c F.SCH_CON_HOLD_ceiling + d.fld c F.SCH_CON_HOLD_peer_err)
    (d.fld c F.SCH_CON_WD_wd)
  let con := if d.flag a F.HSL_SF_CFG_con_en then 4000 * far + 2 * (5 * d.tickCycles) + d.pairCycle + o else 0
  max pins con

/-- The worst case of a slot. -/
def Dev.slotWc (d : Dev) (k : Nat) : Nat :=
  let a := sfBase k
  let p1 := d.fld a F.HSL_SF_P1_p1
  let ms := 4000000
  match d.fld a F.HSL_SF_CFG_type with
  | 1 => d.sourceWc k
  | 2 => d.sourceWc k + ms * bitsOf p1 0 16
  | 3 => max (d.channelTm (bitsOf p1 0 3)) (d.channelTm (bitsOf p1 4 3)) + d.pairCycle + d.slotO k
  | 4 => d.sourceWc k + ms * bitsOf p1 16 8 + ms * bitsOf p1 0 16
  | _ => 0

/-- Whether a BOUND slot exceeds its ceiling. -/
def Dev.slotOver (d : Dev) (k : Nat) : Bool :=
  d.fld (sfBase k) F.HSL_SF_CFG_type != 0 && d.flag (sfBase k) F.HSL_SF_CFG_mode &&
    decide (4000 * d.fld (sfBase k) F.HSL_SF_CEIL_ceil < d.slotWc k)

/-- Publish the worst case of every slot that has a function, in ns, rounded up. -/
def Dev.publishWc (d : Dev) : Dev :=
  d.each (List.range 8) (fun k d =>
    if d.fld (sfBase k) F.HSL_SF_CFG_type = 0 then d
    else d.setFld (sfBase k) F.HSL_SF_WC_wc (min ((d.slotWc k + 3) / 4) 0xFFFFFFFF))

/-- Perform a register write unless it raises the worst case of a BOUND slot above its ceiling (R365). -/
def Dev.unlessOver (d : Dev) (f : Dev → Dev) : Dev :=
  let d1 := f d
  if (List.range 8).any (fun k => d1.slotOver k && (!d.slotOver k || decide (d.slotWc k < d1.slotWc k))) then
    d.raise Ev.SF_CFG_REFUSED scopeChip 0
  else d1.publishWc

/-- Both kinds of refusal of a guarded register (R363, R365). -/
def Dev.sfWrite (d : Dev) (m : Master) (a : Nat) (v : Word) : Dev :=
  d.guarded m a (fun d => d.unlessBad (fun d => d.unlessOver (fun d => d.plainWrite m a v)))

/-- The register of a slot. -/
def sfReg (k : Nat) : SfReg → Nat
  | .cfg => 0x40020600 + 0x20 * k
  | .units => 0x40020604 + 0x20 * k
  | .p1 => 0x40020608 + 0x20 * k
  | .p2 => 0x4002060C + 0x20 * k
  | .ceil => 0x40020610 + 0x20 * k

/-- A write of a slot register; demands and the mapping of SAFE_OUT follow it at once. -/
def Dev.writeSf (d : Dev) (m : Master) (k : Nat) (reg : SfReg) (v : Word) : Dev :=
  let d1 := d.sfWrite m (sfReg k reg) v
  if masterPriv m then d1.sfUpdate else d1

/-- SF_CONFIG_WRITE (R363, R365). -/
def execSfConfigWrite (m : Master) (k : Fin 8) (reg : SfReg) (v : Word) (s : State) :
    Host.Outcome State Fault Refusal := s.done (s.dev.writeSf m k reg v)

/-- SF_BOUND_RECOMPUTE: after a timing apply the worst cases are computed anew; a BOUND slot that has come above its ceiling
is demanded (R366). -/
def execSfBoundRecompute (s : State) : Host.Outcome State Fault Refusal :=
  let d := { s.dev with hsl := { s.dev.hsl with wcDue := false } }.publishWc
  let overs := ((List.range 8).map (fun k => if d.slotOver k then 2 ^ k else 0)).sum
  let newly := (List.range 8).filter (fun k => bitOf overs k && !bitOf d.hsl.overCeil k)
  let ended := (List.range 8).filter (fun k => bitOf d.hsl.overCeil k && !bitOf overs k)
  let d1 := { d with hsl := { d.hsl with overCeil := overs } }
  let d2 := d1.each newly (fun k d => (d.slotBit F.HSL_SFREQ_req k true).raise Ev.SF_BOUND_EXCEEDED scopeChip 0)
  s.done (d2.each ended (fun k d => d.slotBit F.HSL_SFREQ_req k false)).sfUpdate

/-! ### Register writes -/

/-- A write of SCH_CONn_CFG: en moves the connection between OFF and SYNC; an enable on a port without safe channel, or on a
CAN FD port with more than 44 payload bytes, is refused (R371, R380, R460). -/
def Dev.writeConCfg (d : Dev) (m : Master) (n : Nat) (v : Word) : Dev :=
  let a := 0x40050100 + 0x40 * n
  d.guarded m a (fun d =>
    let was := d.flag (conBase n) F.SCH_CON_CFG_en
    let p := bitsOf v.toNat 4 5
    if bitOf v.toNat 0 && !was && (!safePort p || (d.isFd p && decide (44 < bitsOf v.toNat 16 7))) then
      d.raise Ev.SCH_CFG_REFUSED scopeChip 0
    else
      let d1 := d.unlessBad (fun d => d.unlessOver (fun d => d.plainWrite m a v))
      let now := d1.flag (conBase n) F.SCH_CON_CFG_en
      if now && !was then d1.conStart n
      else if !now then d1.setFld (conBase n) F.SCH_CON_STAT_state conOff
      else d1)

/-- SCH_CONN_ENABLE. -/
def execSchConnEnable (m : Master) (n : Fin 32) (v : Word) (s : State) : Host.Outcome State Fault Refusal :=
  s.done (s.dev.writeConCfg m n v)

/-- A write of SCH_CONn_CTRL: a re-arm of a FAULTED connection, refused over the ceiling, inverts TOGGLE of a transmit
connection (R380). -/
def Dev.writeConCtrl (d : Dev) (m : Master) (n : Nat) (v : Word) : Dev :=
  let a := 0x40050118 + 0x40 * n
  d.guarded m a (fun d =>
    let d1 := d.plainWrite m a v
    if bitOf v.toNat 0 && d1.conState n == conFaulted then
      if d1.overCeiling n then d1.raise Ev.SCH_REARM_REFUSED scopeChip 0
      else
        let t := d1.fld (conBase n) F.SCH_CON_STAT_toggle
        (if d1.conSends n then d1.setFld (conBase n) F.SCH_CON_STAT_toggle (1 - t) else d1).conStart n
    else d1)

/-- SCH_REARM. -/
def execSchRearm (m : Master) (n : Fin 32) (v : Word) (s : State) : Host.Outcome State Fault Refusal :=
  s.done (s.dev.writeConCtrl m n v)

/-- A write of the safety identity (R385, R408). -/
def Dev.writeSid (d : Dev) (m : Master) (n : Nat) (v : Word) : Dev :=
  d.guarded m (0x40050108 + 0x40 * n) (fun d =>
    (d.setReg (0x40050108 + 0x40 * n) v).setSch n { d.sch n with erased := false })

/-- A write of the buffer of a connection: SCH_TXBUFn of a transmit connection, read-only for a receive connection. -/
def Dev.writeSchBuf (d : Dev) (m : Master) (n w : Nat) (v : Word) : Dev :=
  let a := 0x40051000 + 0x40 * n + 4 * w
  if d.conSends n then d.guarded m a (fun d => d.setReg a v) else d

end Sys2Proof.Machine
end

