-- ==== Sys2Proof/Machine/EthCan.lean ====
section
/-! DEFINITION. Frames of the Ethernet, CAN and LIN ports (R463 to R473). -/

namespace Sys2Proof.Machine

/-! ### Ethernet -/

/-- A port sends and receives: it is enabled, and its link is up or it is looped back (R461). -/
def Dev.portLive (d : Dev) (p : Nat) : Bool :=
  d.portOn p && (d.flag (portReg p) F.PORT_STAT_up || d.flag (portReg p) F.PORT_CTRL_loop)

/-- The bytes of an address held in a LO and a HI register, first byte in LO [7:0] (R467). -/
def Dev.macBytes (d : Dev) (base : Nat) (lo hi : Fld) : List Byte := leBytes 4 (d.fld base lo) ++ leBytes 2 (d.fld base hi)

/-- The EtherTypes and addresses of R464. -/
def gptpType : Nat := 0x88F7
def gptpAddress : List Byte := [0x01, 0x80, 0xC2, 0x00, 0x00, 0x0E]
def broadcast : List Byte := [0xFF, 0xFF, 0xFF, 0xFF, 0xFF, 0xFF]

/-- The destination and the EtherType of a frame. -/
def frameDest (f : List Byte) : List Byte := f.take 6
def frameType (f : List Byte) : Nat := beNat ((f.drop 12).take 2)

/-- The port accepts a destination address (R464). -/
def Dev.accepts (d : Dev) (p : Nat) (dst : List Byte) : Bool :=
  dst == d.macBytes (portReg p) F.ETH_MAC_LO_addr F.ETH_MAC_HI_addr || dst == broadcast || dst == gptpAddress ||
    (List.range 16).any (fun m => d.flag (portReg p + 8 * m) F.ETH_MC_HI_valid &&
      dst == d.macBytes (portReg p + 8 * m) F.ETH_MC_LO_addr F.ETH_MC_HI_addr)

/-- The safe-channel frame in an Ethernet payload: as long as its length field says (R466). -/
def ethPayload (f : List Byte) : List Byte := fitted (beNat ((f.drop 14).take 2)) (f.drop 16)

/-- A byte with its bits in the reverse order, and the FCS of a frame: the CRC-32 of IEEE 802.3, bits reflected, the first byte the
least significant (R464, PRESUMED from the standard: assumption 99). -/
def revByte (b : Byte) : Byte :=
  BitVec.ofNat 8 (pack ([7, 6, 5, 4, 3, 2, 1, 0].map (fun i => (flagBit (bitOf b.toNat i), 1))))
def ethFcs (f : List Byte) : List Byte :=
  (beBytes 4 (crcMsb 32 0x04C11DB7 0xFFFFFFFF (f.map revByte) ^^^ 0xFFFFFFFF)).map revByte

/-- The frame that the MACsec engine makes of one received, under the receive SA that the AN of its SecTAG names; a frame that no
installed SA protects goes on as it came (R409; EtherType 0x88E5 is PRESUMED from IEEE 802.1AE: assumption 99). -/
def Dev.ethUnprotect (d : Dev) (p : Nat) (f : List Byte) : Option (List Byte) :=
  if 4 ≤ p ∨ frameType f ≠ 0x88E5 then some f
  else match Store.get (fun _ => none) d.cellar.macsec (8 * p + cutNat f 14 1 % 4) with
    | some (suite, key) => Config.macsecOpen suite key f
    | none => some f

/-- Where a frame that a port accepts goes (R464). -/
def Dev.ethDeliver (d : Dev) (p : Nat) (f : List Byte) : Dev :=
  let d1 := d.bump (portReg p) F.PORT_CNT_rx
  if frameType f = gptpType then d1
  else if frameType f = d.fld (portReg p) F.ETH_SCH_etype then d1.schLand p (ethPayload f)
  else d1.rxFrame p f

/-- A received frame with its FCS (R464). -/
def Dev.ethReceive (d : Dev) (p : Nat) (l : List Byte) : Dev :=
  let a := portReg p
  let f := l.take (l.length - 4)
  if 1522 < l.length then (d.bump a F.PORT_CNT_rx_err).bump a F.ETH_CNT3_long
  else if l.drop (l.length - 4) ≠ ethFcs f then d.bump a F.PORT_CNT_rx_err
  else if !d.accepts p (frameDest f) then d.bump a F.ETH_CNT3_filt
  else match d.ethUnprotect p f with
    | some g => d.ethDeliver p g
    | none => d.bump a F.PORT_CNT_rx_err

/-- ETH_FRAME_RECEIVE. What a gPTP frame does to the Trellis is the effect of the messages' own commands. -/
def execEthFrameReceive (p : EthPort) (frame : List Byte) (s : State) : Host.Outcome State Fault Refusal :=
  s.done (if s.dev.portLive p.val then s.dev.ethReceive p.val frame else s.dev)

/-- A frame that leaves a port, padded to 60 bytes and with its FCS; in loopback it comes back instead (R461, R464). -/
def Dev.ethSend (d : Dev) (p : Nat) (f : List Byte) : Dev :=
  let g := if f.length < 60 then fitted 60 f else f
  let d1 := d.bump (portReg p) F.PORT_CNT2_tx
  if d.flag (portReg p) F.PORT_CTRL_loop then d1.ethReceive p (g ++ ethFcs g) else d1.putWire p (.bytes (g ++ ethFcs g))

/-- Whether MACsec protects a frame of a port, and under which transmit key (R409, R410). -/
def Dev.txKey (d : Dev) (p : Nat) (f : List Byte) : Option Nat :=
  if 4 ≤ p ∨ (frameType f = gptpType ∧ d.flag (portReg p) F.ETH_CFG_bypass = true) then none
  else Store.get (fun _ => none) d.cellar.txSa p

/-- A frame as it goes out, with the packet number counted; none where the key's packet numbers are used up (R410). -/
def Dev.ethProtect (d : Dev) (p : Nat) (f : List Byte) : Option (List Byte) × Dev :=
  match d.txKey p f with
  | none => (some f, d)
  | some k =>
    let pn := Store.get (fun _ => 0) d.cellar.packets k
    match Store.get (fun _ => none) d.cellar.macsec k with
    | none => (some f, d)
    | some (suite, key) =>
      if 0xFFFFFFFF ≤ pn then (none, d)
      else
        let d1 := { d with cellar := { d.cellar with packets := Store.set (fun _ => 0) d.cellar.packets k (pn + 1) } }
        (some (Config.macsecFrame suite key pn f), if pn + 1 = 0xFFFF0000 then d1.raise Ev.MACSEC_PN_LOW scopeChip 0 else d1)

/-- Send a frame of the port; false where it cannot go out. -/
def Dev.ethOut (d : Dev) (p : Nat) (f : List Byte) : Bool × Dev :=
  match d.ethProtect p f with
  | (none, d1) => (false, d1)
  | (some g, d1) => (true, d1.ethSend p g)

/-- A safe-channel frame as an Ethernet frame (R466). -/
def Dev.ethSafe (d : Dev) (p : Nat) (f : List Byte) : List Byte :=
  let a := portReg p
  d.macBytes a F.ETH_SCHDST_LO_addr F.ETH_SCHDST_HI_addr ++ d.macBytes a F.ETH_MAC_LO_addr F.ETH_MAC_HI_addr ++
    beBytes 2 (d.fld a F.ETH_SCH_etype) ++ beBytes 2 f.length ++ f

/-- The safe-channel frames that wait at a port, and the port without the first. -/
def Dev.waitingSafe (d : Dev) (p : Nat) : List (List Byte) := Store.get (fun _ => []) d.linkq p
def Dev.dropSafe (d : Dev) (p : Nat) : Dev :=
  { d with linkq := Store.set (fun _ => []) d.linkq p ((d.waitingSafe p).drop 1) }

/-- The network time as a PHY time stamp, in units of 8 ns (R465). -/
def Dev.phyStamp (d : Dev) : Nat := d.ns.toNat / 8 * 8

/-- The next frame of the transmit ring; one longer than 1,518 bytes without FCS ends with error code 1 (R464). -/
def Dev.ethRing (d : Dev) (p : Nat) : Dev :=
  match d.txFrame p with
  | (none, d1) => d1
  | (some (es, f), d1) =>
    if 1518 < f.length then (d1.bump (portReg p) F.PORT_CNT2_tx_err).txRetire p es (frameType f == gptpType) 1 d1.phyStamp
    else
      let r := d1.ethOut p f
      if r.1 then r.2.txRetire p es (frameType f == gptpType) 0 d1.phyStamp else r.2

/-- ETH_FRAME_TRANSMIT: a frame of the Trellis, the next safe-channel frame, or, with none of these waiting, the next of the
ring (R464). -/
def execEthFrameTransmit (p : EthPort) (src : TxSource) (s : State) : Host.Outcome State Fault Refusal :=
  let d := s.dev
  s.done (
    if d.portLive p.val then
      match src, d.waitingSafe p.val with
      | .trellis f, _ => (d.ethOut p.val f).2
      | .safe, f :: _ =>
        let r := d.ethOut p.val (d.ethSafe p.val f)
        if r.1 then r.2.dropSafe p.val else r.2
      | .safe, [] => d
      | .ring, [] => d.ethRing p.val
      | .ring, _ :: _ => d
    else d)

/-- ETH_LINK_STATE_CHANGE (R461). -/
def execEthLinkStateChange (p : EthPort) (up : Bool) (s : State) : Host.Outcome State Fault Refusal :=
  s.done (s.dev.setFld (portReg p.val) F.PORT_STAT_up (flagBit up))

/-! ### CAN (R468 to R471) -/

/-- The error state that the counters give: 0 active, 1 passive from 128, 2 bus-off beyond 255; PORT_STAT.up shows
not bus-off. PRESUMED from ISO 11898-1 (assumption 80). -/
def Dev.canCounts (d : Dev) (p tec rec : Nat) : Dev :=
  let st := if 255 < tec then 2 else if 127 < tec ∨ 127 < rec then 1 else 0
  let a := portReg p
  (((d.setFld a F.CAN_ERR_tec (min tec 255)).setFld a F.CAN_ERR_rec (min rec 255)).setFld a F.CAN_ERR_state st).setFld a
    F.PORT_STAT_up (flagBit (st != 2))

/-- The error counters of a controller, and whether it is bus-off. -/
def Dev.canTec (d : Dev) (p : Nat) : Nat := d.fld (portReg p) F.CAN_ERR_tec
def Dev.canRec (d : Dev) (p : Nat) : Nat := d.fld (portReg p) F.CAN_ERR_rec
def Dev.canOff (d : Dev) (p : Nat) : Bool := d.fld (portReg p) F.CAN_ERR_state == 2

/-- A controller takes part in its bus. -/
def Dev.canLive (d : Dev) (p : Nat) : Bool := d.portOn p && !d.canOff p

/-- A frame was received or sent with or without error (PRESUMED, assumption 80). -/
def Dev.canCountRx (d : Dev) (p : Nat) (ok : Bool) : Dev :=
  d.canCounts p (d.canTec p) (if ok then (if 127 < d.canRec p then 119 else d.canRec p - 1) else d.canRec p + 1)
def Dev.canCountTx (d : Dev) (p : Nat) (ok : Bool) : Dev :=
  d.canCounts p (if ok then d.canTec p - 1 else d.canTec p + 8) (d.canRec p)

/-- A frame passes the filters: it matches an enabled one, or none is enabled (R469). -/
def Dev.canPasses (d : Dev) (p id : Nat) : Bool :=
  let on := (List.range 32).filter (fun m => d.flag (portReg p + 8 * m) F.CAN_FLT_MASK_en)
  on.isEmpty || on.any (fun m =>
    let mask := d.fld (portReg p + 8 * m) F.CAN_FLT_MASK_mask
    id &&& mask == d.fld (portReg p + 8 * m) F.CAN_FLT_ID_id &&& mask)

/-- A frame is one of the safe channel: as R470 sends it, for an enabled receive connection of the port. -/
def Dev.canSafe (d : Dev) (p : Nat) (f : CanFrame) : Bool :=
  (List.range 32).any (fun n =>
    let id := d.fld (conBase n) F.SCH_CON_ID_id
    d.flag (conBase n) F.SCH_CON_CFG_en && !d.conSends n && d.fld (conBase n) F.SCH_CON_CFG_port == p &&
      ((f.format == 1 && d.canMode p == 1 && f.ext && f.brs && f.id.toNat == id % 2 ^ 29) ||
        (f.format == 2 && f.id.toNat == id % 2 ^ 11 && f.xl.toNat % 256 == d.fld (portReg p) F.CAN_CFG_sch_sdt &&
          f.accept.toNat == id)))

/-- The flags word of a received entry before it is written back (R469). -/
def canFlags (f : CanFrame) : Nat :=
  pack [(1, 1), (f.format.val, 2), (flagBit f.ext, 1), (flagBit f.brs, 1), (flagBit f.remote, 1), (0, 6), (flagBit f.esi, 1)]

/-- Put a received frame into the receive ring (R469). -/
def Dev.canStore (d : Dev) (p : Nat) (f : CanFrame) : Dev :=
  if d.ringRuns p false then
    match d.readEntry p false 0 (d.ringIndex p false) with
    | (none, d1) => d1
    | (some e, d1) =>
      match d1.linkWrite (portMaster p) (e.word 0x14 / 8 * 8) f.data with
      | (false, d2) => d2.linkFail p false
      | (true, d2) => d2.writeEntry p false e 0 (canFlags f)
          [(4, 4, f.id.toNat), (8, 4, f.xl.toNat), (0xC, 4, f.accept.toNat), (0x10, 4, f.data.length), (0x18, 8, d.ns.toNat)]
  else d

/-- A received frame: the safe channel, the filters, the ring (R469, R470). -/
def Dev.canReceive (d : Dev) (p : Nat) (f : CanFrame) (ok : Bool) : Dev :=
  if ok = false ∨ d.canMode p < f.format.val then (d.bump (portReg p) F.PORT_CNT_rx_err).canCountRx p false
  else
    let d1 := (d.bump (portReg p) F.PORT_CNT_rx).canCountRx p true
    if d1.canSafe p f then d1.schLand p f.data
    else if d1.canPasses p f.id.toNat then d1.canStore p f
    else d1

/-- CAN_FRAME_RECEIVE. -/
def execCanFrameReceive (p : CanPort) (f : CanFrame) (ok : Bool) (s : State) : Host.Outcome State Fault Refusal :=
  s.done (if s.dev.canLive (6 + p.val) then s.dev.canReceive (6 + p.val) f ok else s.dev)

/-- Send a frame; an unsuccessful attempt is counted and made again later, as the standard says. -/
def Dev.canSend (d : Dev) (p : Nat) (f : CanFrame) (ok : Bool) : Dev :=
  if ok then
    let d1 := (d.bump (portReg p) F.PORT_CNT2_tx).canCountTx p true
    if d.flag (portReg p) F.PORT_CTRL_loop then d1.canReceive p f true else d1.putWire p (.can f)
  else (d.bump (portReg p) F.PORT_CNT2_tx_err).canCountTx p false

/-- The CAN frame of a ring entry, its data read from the buffer. -/
def canOf (e : RingEntry) (data : List Byte) : CanFrame :=
  let w := e.word 0
  { format := Fin.ofNat 3 (min (bitsOf w 1 2) 2), ext := bitOf w 3, brs := bitOf w 4, remote := bitOf w 5, esi := false,
    id := BitVec.ofNat 29 (e.word 4), xl := BitVec.ofNat 32 (e.word 8), accept := BitVec.ofNat 32 (e.word 0xC), data := data }

/-- The next entry of the transmit ring: a format that the mode does not admit ends with code 2; a remote frame carries no data
(R469). -/
def Dev.canRing (d : Dev) (p : Nat) (ok : Bool) : Dev :=
  if d.ringRuns p true then
    match d.readEntry p true 0 (d.ringIndex p true) with
    | (none, d1) => d1
    | (some e, d1) =>
      if d.canMode p < bitsOf (e.word 0) 1 2 then
        ((d1.bump (portReg p) F.PORT_CNT2_tx_err).writeEntry p true e 0 (errorFlags (e.word 0) 6 2) []).portCode p 2
      else
        match d1.linkRead (portMaster p) (e.word 0x14) (if bitOf (e.word 0) 5 then 0 else e.word 0x10 % 4096) with
        | (none, d2) => d2.linkFail p true
        | (some data, d2) =>
          let d3 := d2.canSend p (canOf e data) ok
          if ok then d3.writeEntry p true e 0 (errorFlags (e.word 0) 6 0) [(0x18, 8, d.ns.toNat)] else d3
  else d

/-- A safe-channel frame as a CAN FD or CAN XL frame (R470). -/
def Dev.canSafeFrame (d : Dev) (p : Nat) (f : List Byte) : CanFrame :=
  let id := beNat (f.take 4)
  if d.canMode p = 1 then
    { format := 1, ext := true, brs := true, remote := false, esi := false, id := BitVec.ofNat 29 id, xl := 0, accept := 0,
      data := fitted (fdLength f.length) f }
  else
    { format := 2, ext := false, brs := false, remote := false, esi := false, id := BitVec.ofNat 29 (id % 2 ^ 11),
      xl := BitVec.ofNat 32 (d.fld (portReg p) F.CAN_CFG_sch_sdt), accept := BitVec.ofNat 32 id, data := f }

/-- CAN_FRAME_TRANSMIT: the next safe-channel frame, or, with none waiting, the next ring entry; `ok` says whether the bus took
it. The Trellis sends nothing on CAN. -/
def execCanFrameTransmit (p : CanPort) (src : TxSource) (ok : Bool) (s : State) : Host.Outcome State Fault Refusal :=
  let d := s.dev
  let q := 6 + p.val
  s.done (
    if d.canLive q then
      match src, d.waitingSafe q with
      | .safe, f :: _ =>
        let d1 := d.canSend q (d.canSafeFrame q f) ok
        if ok then d1.dropSafe q else d1
      | .ring, [] => d.canRing q ok
      | _, _ => d
    else d)

/-- CAN_BUS_OFF_RECOVERY: with auto_rec the controller is error active again (R468). -/
def execCanBusOffRecovery (p : CanPort) (s : State) : Host.Outcome State Fault Refusal :=
  let q := 6 + p.val
  s.done (if s.dev.portOn q && s.dev.canOff q && s.dev.flag (portReg q) F.CAN_CFG_auto_rec then s.dev.canCounts q 0 0 else s.dev)

/-! ### LIN (R472, R473) -/

/-- The protected identifier of a frame: two parity bits above the identifier (PRESUMED from ISO 17987-3). -/
def linPid (id : Nat) : Nat :=
  let b := fun (i : Nat) => bitOf id i
  pack [(id, 6), (flagBit (b 0 != (b 1 != (b 2 != b 4))), 1), (flagBit (!(b 1 != (b 3 != (b 4 != b 5)))), 1)]

/-- The checksum over data and, if enhanced, the protected identifier: the inverted sum with carry (PRESUMED from
ISO 17987-3). -/
def linSum (id : Nat) (enhanced : Bool) (data : List Byte) : Byte :=
  let add := fun (s x : Nat) => if 255 < s + x then s + x - 255 else s + x
  BitVec.ofNat 8 (255 - data.foldl (fun s b => add s b.toNat) (if enhanced then linPid id else 0))

/-- The error code that a response of `len` data bytes and a checksum gives; 0 for a good one and 3 for one too short (R472). -/
def linCode (id len : Nat) (enhanced : Bool) : LinResponse → Nat
  | .data l => if l.length < len + 1 then 3 else if l.drop len = [linSum id enhanced (l.take len)] then 0 else 4
  | .framing => 5
  | .none => 3

/-- The data of a response. -/
def linData (len : Nat) : LinResponse → List Byte
  | .data l => fitted len l
  | _ => []

/-- End the entry that the commander works on. -/
def Dev.linRetire (d : Dev) (p : Nat) (e : RingEntry) (code : Nat) (data : List Byte) : Dev :=
  let f := if bitOf (e.word 0) 1 then (if code = 0 then F.PORT_CNT_rx else F.PORT_CNT_rx_err)
    else if code = 0 then F.PORT_CNT2_tx else F.PORT_CNT2_tx_err
  let bytes := if code = 0 ∧ bitOf (e.word 0) 1 = true then [(8, 8, leNat (fitted 8 data))] else []
  let d1 := (d.bump (portReg p) f).writeEntry p true e 0 (withBits (e.word 0) 8 4 code) (bytes ++ [(0x10, 8, d.ns.toNat)])
  (d1.setPort p { d1.port p with linAt := none }).portCode p code

/-- A header sent as commander: break, sync and protected identifier; the entry publishes its data, or waits for a response (R472).
While a response is awaited, no header is sent. -/
def Dev.linCommand (d0 : Dev) (p : Nat) (resp : LinResponse) : Dev :=
  if d0.ringRuns p true && (d0.port p).linAt.isNone then
    match d0.readEntry p true 0 (d0.ringIndex p true) with
    | (none, d1) => d1
    | (some e, d1) =>
      let id := bitsOf (e.word 4) 0 6
      let len := max 1 (min 8 (bitsOf (e.word 4) 8 8))
      let data := (e.bytes.drop 8).take len
      let head : List Byte := [0x55, BitVec.ofNat 8 (linPid id)]
      let code := linCode id len (bitOf (e.word 0) 2) resp
      let d2 := d1.putWire p (.linBreak (d1.fld (portReg p) F.LIN_CFG_brk))
      if bitOf (e.word 0) 1 then
        let d3 := d2.putWire p (.bytes head)
        if code = 3 then d3.setPort p { d3.port p with linAt := some (d3.now, len) }
        else d3.linRetire p e code (linData len resp)
      else
        let d3 := d2.putWire p (.bytes (head ++ data ++ [linSum id (bitOf (e.word 0) 2) data]))
        d3.linRetire p e (match resp with | .framing => 5 | _ => 0) []
  else d0

/-- A subscribed response goes into the receive ring in the form of a ring entry (DESIGN CHOICE, assumption 81). -/
def Dev.linStore (d : Dev) (p id : Nat) (enhanced : Bool) (data : List Byte) : Dev :=
  if d.ringRuns p false then
    match d.readEntry p false 0 (d.ringIndex p false) with
    | (none, d1) => d1
    | (some e, d1) =>
      d1.writeEntry p false e 0 (pack [(1, 1), (1, 1), (flagBit enhanced, 1)])
        [(4, 1, id), (5, 1, data.length), (8, 8, leNat (fitted 8 data)), (0x10, 8, d.ns.toNat)]
  else d

/-- A header received as responder: the table entry of the identifier publishes or subscribes (R472). -/
def Dev.linRespond (d : Dev) (p id : Nat) (resp : LinResponse) : Dev :=
  let a := 16 * d.fld (portReg p) F.LIN_RTAB_addr + 16 * id
  match d.linkRead (portMaster p) a 16 with
  | (none, d1) => d1.linkFail p true
  | (some l, d1) =>
    let w := cutNat l 0 1
    let len := max 1 (min 8 (bitsOf w 4 4))
    if bitOf w 0 then
      let data := (l.drop 8).take len
      match resp with
      | .framing => (d1.bump (portReg p) F.PORT_CNT2_tx_err).portCode p 5
      | _ => (d1.bump (portReg p) F.PORT_CNT2_tx).putWire p (.bytes (data ++ [linSum id (bitOf w 2) data]))
    else if bitOf w 1 then
      let code := linCode id len (bitOf w 2) resp
      if code = 0 then (d1.bump (portReg p) F.PORT_CNT_rx).linStore p id (bitOf w 2) (linData len resp)
      else if code = 3 then d1.setPort p { d1.port p with linAt := some (d.now, len) }
      else (d1.bump (portReg p) F.PORT_CNT_rx_err).portCode p code
    else d1

/-- A bit rate that a responder synchronises on: within ±14 % of nominal (R472). -/
def Dev.linSyncs (d : Dev) (p rate : Nat) : Bool :=
  let nominal := d.fld (portReg p) F.LIN_CFG_rate
  decide (86 * nominal ≤ 100 * rate ∧ 100 * rate ≤ 114 * nominal)

/-- LIN_HEADER: as commander with the identifier of the ring entry; as responder with the protected identifier received, at the rate
of its sync byte (R472). A header with another rate or wrong parity is none for the responder. -/
def execLinHeader (p : LinPort) (pid : Byte) (rate : Nat) (resp : LinResponse) (s : State) : Host.Outcome State Fault Refusal :=
  let q := 14 + p.val
  let id := pid.toNat % 64
  s.done (
    if s.dev.portOn q then
      if s.dev.flag (portReg q) F.LIN_CFG_role then
        if s.dev.linSyncs q rate && linPid id == pid.toNat then s.dev.linRespond q id resp else s.dev
      else s.dev.linCommand q resp
    else s.dev)

/-- A response of `len` bytes has taken more than 1.4 times its nominal length of 10 × (len + 1) bits since `t` (R472). -/
def Dev.linLate (d : Dev) (p t len : Nat) : Bool :=
  decide (70 * (len + 1) * cyclesPerSecond ≤ 5 * (d.now - t) * d.fld (portReg p) F.LIN_CFG_rate)

/-- LIN_RESPONSE_TIMEOUT: the response called for has not come; error code 3 (R472). -/
def execLinResponseTimeout (p : LinPort) (s : State) : Host.Outcome State Fault Refusal :=
  let d := s.dev
  let q := 14 + p.val
  s.done (match (d.port q).linAt with
    | none => d
    | some (t, len) =>
      if d.linLate q t len then
        let d1 := d.setPort q { d.port q with linAt := none }
        if d.flag (portReg q) F.LIN_CFG_role then (d1.bump (portReg q) F.PORT_CNT_rx_err).portCode q 3
        else match d1.readEntry q true 0 (d1.ringIndex q true) with
          | (none, d2) => d2
          | (some e, d2) => d2.linRetire q e 3 []
      else d)

end Sys2Proof.Machine
end

