-- ==== Sys2Proof/Machine/LaneC.lean ====
section
/-! DEFINITION. The operations of the C slot: branches, loops, calls, waits, exchange, commits and signals (R100 to R109,
R116, R117, R131 to R138). -/

namespace Sys2Proof.Machine

/-! ### Control flow -/

/-- Redirect the lane after this bundle. -/
def Dev.redirect (d : Dev) (b target : Nat) : Dev := d.setLane b { d.lane b with redirect := some target }

/-- A branch: one with offset 0 or beyond the last bundle is not taken and raises LANE_ILLEGAL, whether or not its
condition holds (R132). -/
def Dev.branch (d : Dev) (b : Nat) (off : BitVec 12) (taken : Bool) : Dev :=
  let target := (d.lane b).pc + off.toNat
  if off.toNat = 0 ∨ 4095 < target then d.laneIllegal b
  else if taken then d.redirect b target else d

/-- BR (R131, R132). -/
def execBr (ln : BlockId) (off : BitVec 12) (s : State) : Host.Outcome State Fault Refusal :=
  s.done (s.dev.onRun ln (fun _ => s.dev.branch ln off true))

/-- BRNZ: taken where gs1 ≠ 0, or where gs1 = 0 with sense 1 (R131). -/
def execBrnz (ln : BlockId) (gs1 : GReg) (sense : Bool) (off : BitVec 12) (s : State) :
    Host.Outcome State Fault Refusal :=
  s.done (s.dev.onRun ln (fun l => s.dev.branch ln off ((l.gr gs1 != 0) != sense)))

/-- BRC: taken on a condition bit of LANE_EVC_LIVE or LANE_EVC_PREV (R131). -/
def execBrc (ln : BlockId) (bit : BitVec 5) (prev sense : Bool) (off : BitVec 12) (s : State) :
    Host.Outcome State Fault Refusal :=
  s.done (s.dev.onRun ln (fun _ =>
    s.dev.branch ln off (bitOf (s.dev.reg (blkReg ln + if prev then 0x34 else 0x30)).toNat bit.toNat != sense)))

/-- LOOP: push a loop entry; with an end of 0 or a full stack it is a NOP and LANE_ILLEGAL (R133). -/
def execLoop (ln : BlockId) (last cnt : BitVec 12) (s : State) : Host.Outcome State Fault Refusal :=
  s.done (s.dev.onRun ln (fun l =>
    if last.toNat = 0 ∨ 2 ≤ l.loops.length then s.dev.laneIllegal ln
    else s.dev.setLane ln { l with loops := ⟨l.pc + 1, l.pc + last.toNat, cnt.toNat⟩ :: l.loops }))

/-- CALL: with the link held it is a NOP and LANE_ILLEGAL (R131, R135). -/
def execCall (ln : BlockId) (target : BitVec 12) (s : State) : Host.Outcome State Fault Refusal :=
  s.done (s.dev.onRun ln (fun l =>
    if l.link.isSome then s.dev.laneIllegal ln
    else s.dev.setLane ln { l with link := some (l.pc + 1), redirect := some target.toNat }))

/-- RET: empties the link; with an empty link it is a NOP and LANE_ILLEGAL (R131, R135). -/
def execRet (ln : BlockId) (s : State) : Host.Outcome State Fault Refusal :=
  s.done (s.dev.onRun ln (fun l =>
    match l.link with
    | none => s.dev.laneIllegal ln
    | some p => s.dev.setLane ln { l with link := none, redirect := some p }))

/-! ### Waits -/

/-- WAIT_PHASE intake: the lane completes its sub-tick and enters DONE (R63, R136, R137). -/
def execWaitPhaseIntake (ln : BlockId) (s : State) : Host.Outcome State Fault Refusal :=
  s.done (s.dev.onRun ln (fun _ => s.dev.laneComplete ln))

/-- WAIT_PHASE compute: continues at once (R136). -/
def execWaitPhaseCompute (_ln : BlockId) (s : State) : Host.Outcome State Fault Refusal := s.done s.dev

/-- WAIT_PHASE exchange: holds until the exchange boundary unless it has passed (R62, R136). -/
def execWaitPhaseExchange (ln : BlockId) (s : State) : Host.Outcome State Fault Refusal :=
  s.done (s.dev.onRun ln (fun l =>
    if l.phase = .intake ∨ l.phase = .compute then s.dev.hold ln (.phase .exchange) else s.dev))

/-- WAIT_PHASE commit: holds until the commit boundary unless it has passed (R62, R136). -/
def execWaitPhaseCommit (ln : BlockId) (s : State) : Host.Outcome State Fault Refusal :=
  s.done (s.dev.onRun ln (fun l =>
    if l.phase = .commit ∨ l.phase = .closed then s.dev else s.dev.hold ln (.phase .commit)))

/-- Whether a condition bit is 1 in LANE_EVC_LIVE. -/
def Dev.condSet (d : Dev) (b : Nat) (bit : BitVec 5) : Bool := bitOf (d.reg (blkReg b + 0x30)).toNat bit.toNat

/-- An event wait ends at its deadline: evt_late is set and LANE_EVT_LATE raised with the lane (R116). -/
def Dev.eventLate (d : Dev) (b : Nat) : Dev :=
  (d.setFlags b flagEvtLate).raise Ev.LANE_EVT_LATE (scopeBlk b) (pack [(b, 4)])

/-- WAIT_PHASE event: continues at once where the bit is 1, and late where the deadline has passed (R116, R136). -/
def execWaitPhaseEvent (ln : BlockId) (bit : BitVec 5) (dl : BitVec 16) (s : State) :
    Host.Outcome State Fault Refusal :=
  s.done (s.dev.onRun ln (fun l =>
    let deadline := l.computeAt + 4 * dl.toNat
    if s.dev.condSet ln bit then s.dev
    else if deadline ≤ s.dev.now then s.dev.eventLate ln
    else s.dev.hold ln (.event bit deadline)))

/-- WAIT_PHASE modes 5 to 7: as mode 1, raising LANE_ILLEGAL (R136). -/
def execWaitPhaseReserved (ln : BlockId) (_mode : Fin 3) (s : State) : Host.Outcome State Fault Refusal :=
  s.done (s.dev.onRun ln (fun _ => s.dev.laneIllegal ln))

/-- EVENT_WAIT_DEADLINE: the deadline of a lane's event wait is reached; with its bit still 0 the wait ends late (R116, R136). -/
def execEventWaitDeadline (ln : BlockId) (s : State) : Host.Outcome State Fault Refusal :=
  s.done
    (match (s.dev.lane ln).mode, (s.dev.lane ln).held with
    | .wait, some (.event bit deadline) =>
      if deadline ≤ s.dev.now then
        (if s.dev.condSet ln bit then s.dev else s.dev.eventLate ln).release ln s.dev.now
      else s.dev
    | _, _ => s.dev)

/-! ### Exchange (R105 to R109) -/

/-- The descriptor of a channel in the set in force: set A with slot A active, set B with slot B (R105). -/
def Dev.exchDesc (d : Dev) (r ch : Nat) : Nat :=
  (d.reg (rgnReg r + (if d.activeSlot r = 0 then 0x400 else 0x800) + 4 * ch)).toNat

/-- The bytes a PUT or GET moves (R107). -/
def exchBytes (x : ExchOp) : Nat := if x.vec then 32 else 4 * (x.n.toNat + 1)

/-- Why a PUT or GET of lane `b` is refused, as R551 numbers the cases of R108; 0 where it is not. -/
def Dev.exchCase (d : Dev) (b : Nat) (x : ExchOp) (isPut : Bool) : Nat :=
  let desc := d.exchDesc (b / 4) x.ch.toNat
  if bitOf desc 31 = false then 1
  else if isPut ∧ bitsOf desc 0 2 ≠ b % 4 then 2
  else if ¬ isPut ∧ bitOf desc (4 + b % 4) = false then 3
  else if 8 * bitsOf desc 16 6 < 8 * x.wo.toNat + exchBytes x then 4
  else if isPut ∧ (Store.get (fun _ => none) d.chReady (256 * (b / 4) + x.ch.toNat)).isSome = true then 5
  else 0

/-- A refused EXCH completes in 1 cycle: exch_ref is set and EXCH_REFUSED raised (R108, R551). -/
def Dev.exchRefused (d : Dev) (b : Nat) (x : ExchOp) (case_ : Nat) : Dev :=
  let l := d.lane b
  ((d.setLane b { l with mode := .run, held := none }).setFlags b flagExchRef).raise Ev.EXCH_REFUSED (scopeBlk b)
    (pack [(x.ch.toNat, 8), (case_, 4), (l.pc, 12)])

/-- First address of a channel's access (R105, R107). -/
def exchAddr (b : Nat) (x : ExchOp) : Nat := rgnBase (b / 4) + 0xF0000 + 0x100 * x.ch.toNat + 8 * x.wo.toNat

/-- The banks an access touches, in ascending order of its words (R25). -/
def exchBanks (b : Nat) (x : ExchOp) : List Nat :=
  (List.range ((exchBytes x + 7) / 8)).map (fun i => (exchAddr b x / 8 + i) % 16)

/-- The words a PUT moves, captured at its issue (R107): general registers from d upwards, or a vector record. -/
def Lane.putData (l : Lane) (x : ExchOp) : List Word :=
  if x.vec then
    let v := vecRecord (l.vmant (Fin.ofNat 8 x.d.val)) (l.vexp (Fin.ofNat 8 x.d.val))
    (List.range 8).map (fun i => BitVec.ofNat 32 (v / 2 ^ (32 * i)))
  else (List.range (x.n.toNat + 1)).map (fun i => l.gr (regPlus x.d i))

/-- Store words upwards from an address; pairs that fill an aligned 64-bit word as one write (R433). -/
def Dev.storeWords (d : Dev) (a : Nat) : List Word → Dev
  | [] => d
  | [w] => d.storeN a 4 w.toNat
  | w :: v :: t => (d.storeN a 8 (w.toNat + 2 ^ 32 * v.toNat)).storeWords (a + 8) t

/-- The cycle of a phase boundary of the block's present sub-tick, from the field's thousandths; it moves with the emitted
tick (R57, R60). -/
def Dev.boundaryAt (d : Dev) (b : Nat) (f : Fld) : Nat :=
  let l := d.lane b
  let y := d.inForce (rgnReg (b / 4)) f * d.subLenOf b l.subTick / 1000
  ((l.subStep : Int) + d.stretched (32 * (l.subFrom + y)) - d.stretched (32 * l.subFrom)).toNat / 32

/-- The last cycle e in which an EXCH counted as issued in cycle `since` may complete (R26). -/
def Dev.exchDeadline (d : Dev) (b since : Nat) : Nat := min (since + 255) (d.boundaryAt b F.RGN_PHASE1_commit)

/-- Whether a channel is ready (R107). -/
def Dev.channelReady (d : Dev) (b : Nat) (x : ExchOp) : Bool :=
  match Store.get (fun _ => none) d.chReady (256 * (b / 4) + x.ch.toNat) with
  | some t => decide (t ≤ d.now)
  | none => false

/-- End the exchange of a lane without its destination: EXCH_TIMEOUT and a block fault (R26, R62). -/
def Dev.exchEnd (d : Dev) (b : Nat) : Dev := (d.raise Ev.EXCH_TIMEOUT (scopeBlk b) 0).blockFault b 2

/-- A PUT that counts as issued now: refused, or held while it requests its banks; past the commit boundary of the sub-tick
no bank serves a lane and its time is over (R24, R26, R107, R108). -/
def Dev.doPut (d : Dev) (b : Nat) (x : ExchOp) (sealing : Bool) (data : List Word) : Dev :=
  let c := d.exchCase b x true
  if c ≠ 0 then d.exchRefused b x c
  else if (d.lane b).phase = .exchange then d.hold b (.put x sealing data d.now (some d.now) (exchBanks b x) none)
  else d.exchEnd b

/-- A GET whose channel is ready requests its banks now; one whose channel is not waits (R107). -/
def Dev.pollGet (d : Dev) (b : Nat) (x : ExchOp) (since : Nat) : Dev :=
  d.hold b (.get x since (if d.channelReady b x then some d.now else none) (exchBanks b x) none)

/-- A GET that counts as issued now (R24, R26, R107, R108). -/
def Dev.doGet (d : Dev) (b : Nat) (x : ExchOp) : Dev :=
  let c := d.exchCase b x false
  if c ≠ 0 then d.exchRefused b x c
  else if (d.lane b).phase = .exchange then d.pollGet b x d.now
  else d.exchEnd b

/-- PUT: before the exchange phase it holds the lane with its operands as read (R62, R109). -/
def execPut (ln : BlockId) (x : ExchOp) (sealing : Bool) (s : State) : Host.Outcome State Fault Refusal :=
  s.done (s.dev.onRun ln (fun l =>
    if l.phase = .intake ∨ l.phase = .compute then s.dev.hold ln (.putEarly x sealing (l.putData x))
    else s.dev.doPut ln x sealing (l.putData x)))

/-- GET: before the exchange phase it holds the lane (R62, R109). -/
def execGet (ln : BlockId) (x : ExchOp) (s : State) : Host.Outcome State Fault Refusal :=
  s.done (s.dev.onRun ln (fun l =>
    if l.phase = .intake ∨ l.phase = .compute then s.dev.hold ln (.getEarly x) else s.dev.doGet ln x))

/-- The cycle in which a waiting exchange requested its banks and the banks that have not served it. -/
def Held.wants : Held → Option (Nat × List Nat)
  | .put _ _ _ _ arrived left _ | .get _ _ arrived left _ => arrived.map (fun a => (a, left))
  | _ => none

/-- The lane that bank `k` of a region serves in this lane cycle: of those that wait for it, the first to arrive, and of those
that arrived in the same cycle the lowest block (R25). -/
def Dev.bankWinner (d : Dev) (r k : Nat) : Option Nat :=
  let of := fun (b : Nat) => (d.lane b).held.bind Held.wants |>.bind (fun w => if w.2.contains k then some w.1 else none)
  [4 * r, 4 * r + 1, 4 * r + 2, 4 * r + 3].foldl (fun best b =>
    match of b, best.bind of with
    | some t, some u => if t < u then some b else best
    | some _, none => some b
    | none, _ => best) none

/-- An exchange that a bank has served: with no bank left it completes in the next lane cycle (R26). -/
def Held.served (k now : Nat) : Held → Held
  | .put x sealing data since arrived left doneAt =>
    let rest := left.erase k
    .put x sealing data since arrived rest (if rest.isEmpty then some (now + 1) else doneAt)
  | .get x since arrived left doneAt =>
    let rest := left.erase k
    .get x since arrived rest (if rest.isEmpty then some (now + 1) else doneAt)
  | h => h

/-- The banks of a region's exchange memory in one lane cycle: each serves one lane request; a requested bank serves no DMA or
host access (R24, R25). -/
def Dev.serveBanks (d : Dev) (r : Nat) : Dev :=
  if [4 * r, 4 * r + 1, 4 * r + 2, 4 * r + 3].any (fun b => ((d.lane b).held.bind Held.wants).isSome) then
    d.each (List.range 16) (fun k d =>
      match d.bankWinner r k with
      | none => d
      | some b =>
        let l := d.lane b
        (d.usePort (48 + 16 * r + k)).setLane b { l with held := l.held.map (Held.served k d.now) })
  else d

/-- A PUT completes: its words are in the channel, and with the seal the channel is ready (R26, R107). -/
def Dev.putComplete (d : Dev) (b : Nat) (x : ExchOp) (sealing : Bool) (data : List Word) : Dev :=
  let d1 := d.storeWords (exchAddr b x) data
  let d2 := if sealing then
      { d1 with chReady := Store.set (fun _ => none) d1.chReady (256 * (b / 4) + x.ch.toNat) (some d.now) } else d1
  d2.release b d.now

/-- The destinations of a completed GET are seen 2 cycles after its completion (R107, R131); they are writes of the cycle in which
the GET counts as issued (R123). -/
def Dev.getWrites (d : Dev) (b : Nat) (x : ExchOp) (since : Nat) : Dev :=
  let a := exchAddr b x
  if x.vec then
    let v := d.loadN a 32
    d.laneWriteOf b since 3 2 (.vec (Fin.ofNat 8 x.d.val)) (.vec (BitVec.ofNat 128 v) (BitVec.ofNat 8 (v / 2 ^ 128))) 0
  else d.each (List.range (x.n.toNat + 1)) (fun i d =>
    d.laneWriteOf b since 3 2 (.g (regPlus x.d i)) (.word (BitVec.ofNat 32 (d.loadN (a + 4 * i) 4))) 0)

/-- GET_COMPLETE: the access of a waiting GET is done. An uncorrectable word makes a block fault and no destination is
written (R107, R436). -/
def execGetComplete (ln : BlockId) (s : State) : Host.Outcome State Fault Refusal :=
  s.done
    (match (s.dev.lane ln).held with
    | some (.get x since _ _ (some doneAt)) =>
      if doneAt ≤ s.dev.now ∧ doneAt ≤ s.dev.exchDeadline ln since then
        let a := exchAddr ln x
        match ((List.range ((exchBytes x + 7) / 8)).map (fun i => a + 8 * i)).find? (fun y => s.dev.isBad y) with
        | some y => ((s.dev.bump (rgnReg (ln.val / 4)) F.RGN_MEMERR_ue).errAddr (rgnReg (ln.val / 4) + 0x74) y).blockFault ln 1
        | none => (s.dev.getWrites ln x since).release ln s.dev.now
      else s.dev
    | _ => s.dev)

/-- Whether the last cycle in which a lane's exchange may complete has come without its completion (R26). -/
def Dev.exchLate (d : Dev) (b : Nat) : Bool :=
  let past := fun (since : Nat) (doneAt : Option Nat) =>
    decide (d.exchDeadline b since ≤ d.now) &&
      (match doneAt with | some t => decide (d.exchDeadline b since < t) | none => true)
  match (d.lane b).held with
  | some (.put _ _ _ since _ _ doneAt) | some (.get _ since _ _ doneAt) => past since doneAt
  | _ => false

/-- EXCH_TIMEOUT: an EXCH that has not completed by its last cycle is ended without writing its destination, and makes a
block fault (R26, R62). -/
def execExchTimeout (ln : BlockId) (s : State) : Host.Outcome State Fault Refusal :=
  s.done (if s.dev.exchLate ln then s.dev.exchEnd ln else s.dev)

/-! ### Commits (R100 to R103, R171 to R173) -/

/-- A cross-command: both channels off at once, hs and ls of the current command and the next slot cleared, raised and
counted; the third within 1 ms puts the leg in FAULT (R171, R173). -/
def Dev.crossCommand (d : Dev) (k : Nat) : Dev :=
  let l := d.leg k
  let recent := d.now :: l.crossAt.filter (fun t => decide (d.now < t + cyclesPerMs))
  let d1 := d.setLeg k { l.allOff d.stepNow with
    cur := BitVec.ofNat 128 (withBits l.cur.toNat 96 4 0), next := none, crossAt := recent }
  let d2 := (d1.bump (legReg k) F.LEG_CNT_A_xcmd).raise Ev.CROSS_COMMAND (scopeBlk (k / 8)) 0
  if 3 ≤ recent.length then
    let d3 := d2.latchLeg k causeXcmd
    d3.enterFault k causeXcmd
  else d2

/-- A commit that takes effect: it enters the next slot unsealed; over a sealed command that has not retired it raises
LEG_OVERRUN (R101). -/
def Dev.acceptCommit (d : Dev) (b : BlockId) (k : Nat) (cmd : QWord) : Dev :=
  let l := d.leg k
  if isCross cmd then (d.setLeg k { l with commitAt := d.now + 1, commitBy := b }).crossCommand k
  else
    let past := match l.next with | some x => x.isSealed | none => false
    let d1 := d.setLeg k { l with next := some ⟨cmd, false, b⟩, commitAt := d.now + 1, commitBy := b }
    if past then (d1.bump (legReg k) F.LEG_CNT_B_ovr).raise Ev.LEG_OVERRUN (scopeBlk (k / 8)) 0 else d1

/-- A commit of lane `b` to leg `k`: ignored without an owner; from outside the lane set counted and raised; discarded
where the unit is not in ENABLING or RUN, in the cycle of a trip or HSL disable, or against a lane of lower block
index in the same cycle (R17, R18, R20, R102). -/
def Dev.commitLeg (d : Dev) (b : BlockId) (k : Nat) (cmd : QWord) : Dev :=
  match d.owner k with
  | none => d
  | some u =>
    if !(d.laneSet u).contains b.val then
      (d.bump (legReg k) F.LEG_CNT_B_nonowner).raise Ev.COMMIT_NOT_OWNER (scopeBlk b) (pack [(k, 7)])
    else if !(d.unit u).active then d
    else
      let l := d.leg k
      if l.tripAt = some d.now then d
      else if l.commitAt = d.now + 1 ∧ l.commitBy ≠ b then
        let d1 := d.raise Ev.COMMIT_COLLISION (scopeBlk (k / 8)) (pack [(min b.val l.commitBy.val, 4), (max b.val l.commitBy.val, 4)])
        if b < l.commitBy then d1.acceptCommit b k cmd else d1
      else d.acceptCommit b k cmd

/-- COMMIT: before the commit phase it holds the lane with its operands as read (R62, R100). -/
def execCommit (ln : BlockId) (gd : GReg) (leg : Fin 32) (s : State) : Host.Outcome State Fault Refusal :=
  s.done (s.dev.onRun ln (fun l =>
    if l.phase = .commit ∨ l.phase = .closed then s.dev.commitLeg ln (32 * (ln.val / 4) + leg.val) (l.quad gd)
    else s.dev.hold ln (.commit leg (l.quad gd))))

/-- Raise LANE_SIGn of a lane: LANE_SIG3 is the fault input of the units that the lane leads and that listen to it (R117,
R327, R340). -/
def Dev.sigRaise (d : Dev) (b n : Nat) : Dev :=
  let d1 := d.raise (Ev.LANE_SIG0 + n) (scopeBlk b) 0
  if n = 3 then
    d1.each (d1.blockUnits b) (fun u d =>
      if d.leadLane u == some b && d.flag (4 * u) F.HSL_UFIN_sig_en then d.unitFault u 2 else d)
  else d1

/-- SIG n (R117). -/
def execSig (ln : BlockId) (n : Fin 4) (s : State) : Host.Outcome State Fault Refusal :=
  s.done (s.dev.onRun ln (fun _ => s.dev.sigRaise ln n))

end Sys2Proof.Machine
end

