-- ==== Sys2Proof/Machine/AxlTx.lean ====
section
/-! DEFINITION. What an axle link sends by itself: MARKER and PING at a tick, exchange slots at a commit point (R483 to
R490). -/

namespace Sys2Proof.Machine

/-- The registers of axle link `i`. -/
def axlReg (i : Nat) : Nat := portReg (22 + i)

/-- The link the follower takes time from: the lowest-numbered one it may (R485). -/
def Dev.timeLink (d : Dev) : Option Nat := [0, 1].find? (fun i => d.axlTime i)

/-- AXL_STAT.time_src of both links (R485). -/
def Dev.showTimeSrc (d : Dev) : Dev :=
  d.each [0, 1] (fun i d =>
    d.setFld (axlReg i) F.AXL_STAT_time_src (if d.trlState == trlAxle && d.timeLink == some i then 1 else 0))

/-- A character on the line lasts 2 ns, which is 8 fifths of a lane cycle: `n` characters keep the line from now on, or after what is
on it (R481, R486). -/
def Dev.lineTakes (d : Dev) (i n : Nat) : Dev :=
  let x := d.axl i
  d.setAxl i { x with freeAt := max x.freeAt (5 * d.now) + 8 * n }

/-- An ordered set of `n` characters goes in at once, inside a frame if need be, which then lasts longer (R486, R493). -/
def Dev.orderedSet (d : Dev) (i n : Nat) (x : LineItem) : Dev := (d.putWire (22 + i) x).lineTakes i n

/-- A tick at an axle link that is UP: the leader sends a MARKER, with the offset to the next character boundary left open;
the follower sends a PING and counts a MARKER that did not come (R483, R484, R492). -/
def Dev.axlTick (d : Dev) (i : Nat) : Dev :=
  if d.axlUp i then
    if d.flag 0 F.TRL_CTRL_src then
      let x := d.axl i
      let d1 := d.setAxl i { x with marked := false, pingAt := some d.stepNow }
      let d2 := if x.marked then d1 else d1.bump (axlReg i) F.AXL_CNT3_mmiss
      d2.orderedSet i 4 .ping
    else
      let f := d.takeFree
      f.2.orderedSet i 20 (.marker (f.1.toNat % 52) (BitVec.ofNat 64 d.tickNs) (d.reg F.TRL_TICK_CNT.off) d.tickCycles)
  else d

/-- The characters of a frame: 12 beside its payload (R487). -/
def LineItem.chars : LineItem → Nat
  | .frame _ _ _ _ payload => 12 + payload.length
  | _ => 0

/-- The fragment that waits, as a BULK frame (R491). -/
def Dev.bulkFrame (d : Dev) (f : List Byte) : LineItem := .frame 3 false 0 (d.reg F.TRL_TICK_CNT.off) f

/-- At a frame boundary the link sends the next frame: EXCH before SAFE before BULK (R486, R493). -/
def Dev.axlServe (d : Dev) (i : Nat) : Dev :=
  let x := d.axl i
  if d.axlUp i && decide (x.freeAt ≤ 5 * d.now) then
    match x.exq, x.safeq, x.frags with
    | f :: t, _, _ => ((d.setAxl i { x with exq := t }).putWire (22 + i) f).lineTakes i f.chars
    | [], f :: t, _ => ((d.setAxl i { x with safeq := t }).putWire (22 + i) f).lineTakes i f.chars
    | [], [], f :: _ =>
      if x.fragDue then
        let d1 := (d.putWire (22 + i) (d.bulkFrame f)).lineTakes i (d.bulkFrame f).chars
        let y := d1.axl i
        d1.setAxl i { y with fragDue := false, sentAt := (y.freeAt + 4) / 5 }
      else d
    | [], [], [] => d
  else d

/-- Registers of slot `n` of axle link `i`, to which the offsets of slot 0 are added (R492). -/
def slotReg (i n : Nat) : Nat := axlReg i + 8 * n

/-- The chip number of the block whose lane produces the channel of a transmit slot (R488). -/
def Dev.slotBlock (d : Dev) (i n : Nat) : Nat :=
  let r := d.fld (slotReg i n) F.AXL_SLOT_CFG_rgn
  4 * r + bitsOf (d.exchDesc r (d.fld (slotReg i n) F.AXL_SLOT_CFG_ch)) 0 2

/-- Whether slot `n` of link `i` is an enabled transmit slot, or an enabled receive slot. -/
def Dev.slotSends (d : Dev) (i n : Nat) : Bool :=
  d.flag (slotReg i n) F.AXL_SLOT_CFG_en && d.flag (slotReg i n) F.AXL_SLOT_CFG_dir
def Dev.slotTakes (d : Dev) (i n : Nat) : Bool :=
  d.flag (slotReg i n) F.AXL_SLOT_CFG_en && !d.flag (slotReg i n) F.AXL_SLOT_CFG_dir

/-- Send a transmit slot at the next frame boundary: the channel's words as they stand, with its ready mark as the fresh bit (R486,
R488). A word that cannot be read keeps the frame from being sent. -/
def Dev.sendSlot (d : Dev) (i n : Nat) : Dev :=
  let r := d.fld (slotReg i n) F.AXL_SLOT_CFG_rgn
  let ch := d.fld (slotReg i n) F.AXL_SLOT_CFG_ch
  let words := bitsOf (d.exchDesc r ch) 16 6
  let a := rgnBase r + 0xF0000 + 0x100 * ch
  match ((List.range words).map (fun k => a + 8 * k)).find? (fun y => d.isBad y) with
  | some y => d.uncorrectable y
  | none =>
    let fresh := (Store.get (fun _ => none) d.chReady (256 * r + ch)).isSome
    let x := d.axl i
    (d.setAxl i { x with exq := x.exq ++ [.frame 1 fresh n (d.reg F.TRL_TICK_CNT.off) (d.bytes a (8 * words))] }).bump (axlReg i)
      F.PORT_CNT2_tx

/-- Slot `n` was enabled in this lane cycle: it first sends at the next commit point (R493). -/
def Dev.slotNew (d : Dev) (i n : Nat) : Bool := Store.get (fun _ => 0) (d.axl i).slotAt n == d.now + 1

/-- The slots due at the commit point of a block, in slot order, on each link that is UP (R488). -/
def Dev.axlCommit (d : Dev) (b : Nat) : Dev :=
  d.each [0, 1] (fun i d =>
    if d.axlUp i then
      d.each (List.range 16) (fun n d => if d.slotSends i n && d.slotBlock i n == b && !d.slotNew i n then d.sendSlot i n else d)
    else d)

/-- The bytes S of the enabled transmit slots of a link, each of its channel's words (R490). -/
def Dev.slotBytes (d : Dev) (i : Nat) : Nat :=
  ((List.range 16).filter (fun n => d.slotSends i n)).foldl (fun s n =>
    s + 8 * bitsOf (d.exchDesc (d.fld (slotReg i n) F.AXL_SLOT_CFG_rgn) (d.fld (slotReg i n) F.AXL_SLOT_CFG_ch)) 16 6 + 12) 0

/-- Whether the slots of a link would arrive too late under the timing in force: commit point + D beyond P + arr, in ns from
the tick, for the latest commit point of its transmit slots (R490). -/
def Dev.budgetLost (d : Dev) (i : Nat) : Bool :=
  (List.range 16).any (fun n => d.slotSends i n &&
    let r := d.fld (slotReg i n) F.AXL_SLOT_CFG_rgn
    let point := d.inForce (rgnReg r) F.RGN_PHASE1_commit_point * d.tickCycles / 1000
    decide (5 * d.tickCycles + 4 * d.fld (axlReg i) F.AXL_BUDGET_arr < 5 * point + 4 * (1000 + 2 * d.slotBytes i)))

end Sys2Proof.Machine
end

