-- ==== Sys2Proof/Machine/LaneM.lean ====
section
/-! DEFINITION. The operations of the M slot: loads, stores, vector records and table look-ups (R79 to R85, R110 to R113,
R129, R130). -/

namespace Sys2Proof.Machine

/-- The bytes a size code moves; none for the reserved codes (R130). -/
def sizeBytes (c : BitVec 3) : Option Nat :=
  match c.toNat with
  | 0 | 1 => some 1
  | 2 | 3 => some 2
  | 4 => some 4
  | _ => none

/-- A loaded value, extended by its size code (R130). -/
def extendLoad (c : BitVec 3) (v : Nat) : Word :=
  match c.toNat with
  | 0 => BitVec.ofInt 32 (signed 8 v)
  | 2 => BitVec.ofInt 32 (signed 16 v)
  | _ => BitVec.ofNat 32 v

/-- LD: a load of 1, 2 or 4 bytes, latency 2; a reserved size code gives 0 and sets addr (R129, R130). -/
def execLd (ln : BlockId) (gd gs1 : GReg) (imm : BitVec 11) (size : BitVec 3) (s : State) :
    Host.Outcome State Fault Refusal :=
  s.done (s.dev.onRun ln (fun l =>
    match sizeBytes size with
    | some n => s.dev.laneLoad ln (l.address gs1 imm n) n (fun d v => d.laneWrite ln 2 2 (.g gd) (.word (extendLoad size v)) 0)
    | none => (s.dev.setFlags ln flagAddr).laneWrite ln 2 2 (.g gd) (.word 0) 0))

/-- LDP: an 8-byte load into a register pair (R129). -/
def execLdp (ln : BlockId) (gd gs1 : GReg) (imm : BitVec 11) (s : State) : Host.Outcome State Fault Refusal :=
  s.done (s.dev.onRun ln (fun l =>
    s.dev.laneLoad ln (l.address gs1 imm 8) 8 (fun d v =>
      (d.laneWrite ln 2 2 (.g (pairBase gd)) (.word (BitVec.ofNat 32 v)) 0).laneWrite ln 2 2
        (.g (regPlus (pairBase gd) 1)) (.word (BitVec.ofNat 32 (v / 2 ^ 32))) 0)))

/-- ST: a store of 1, 2 or 4 bytes, performed at the end of its issue cycle (R129, R130). -/
def execSt (ln : BlockId) (gs1 : GReg) (imm : BitVec 11) (gs2 : GReg) (size : BitVec 3) (s : State) :
    Host.Outcome State Fault Refusal :=
  s.done (s.dev.onRun ln (fun l =>
    match sizeBytes size with
    | some n => s.dev.laneStore ln (l.address gs1 imm n) n (l.gr gs2).toNat
    | none => s.dev.setFlags ln flagAddr))

/-- STP: an 8-byte store of a register pair (R129). -/
def execStp (ln : BlockId) (gs1 : GReg) (imm : BitVec 11) (gs2 : GReg) (s : State) : Host.Outcome State Fault Refusal :=
  s.done (s.dev.onRun ln (fun l =>
    s.dev.laneStore ln (l.address gs1 imm 8) 8 (l.gr (regPlus (pairBase gs2) 1) ++ l.gr (pairBase gs2)).toNat))

/-- VLD: a 32-byte record; the exponent is its bits [7:0] of byte 16, bytes 20 to 31 are ignored (R81). -/
def execVld (ln : BlockId) (md : VReg) (gs1 : GReg) (imm : BitVec 11) (s : State) : Host.Outcome State Fault Refusal :=
  s.done (s.dev.onRun ln (fun l =>
    s.dev.laneLoad ln (l.address gs1 imm 32) 32 (fun d v =>
      d.laneWrite ln 2 2 (.vec md) (.vec (BitVec.ofNat 128 v) (BitVec.ofNat 8 (v / 2 ^ 128))) 0)))

/-- Store a 32-byte record as four full words. -/
def Dev.storeRecord (d : Dev) (a v : Nat) : Dev :=
  d.each [0, 1, 2, 3] (fun i d => d.storeN (a + 8 * i) 8 (v / 2 ^ (64 * i) % 2 ^ 64))

/-- VST: a 32-byte record (R81, R129). -/
def execVst (ln : BlockId) (gs1 : GReg) (imm : BitVec 11) (ms2 : VReg) (s : State) : Host.Outcome State Fault Refusal :=
  s.done (s.dev.onRun ln (fun l =>
    let a := l.address gs1 imm 32
    if mayStore a 32 then (s.dev.usePort (3 * ln.val + 1)).storeRecord (blkBase ln + 0x40000 + a) (vecRecord (l.vmant ms2) (l.vexp ms2))
    else s.dev.laneAddrRefused ln a))

/-- First address of the active table bank (R83). -/
def Dev.tableBase (d : Dev) (b : Nat) : Nat := blkBase b + 0x80000 + d.activeBank (b / 4) * 0x8000

/-- A signed Q15 table entry. -/
def Dev.tableEntry (d : Dev) (a : Nat) : Int := signed 16 (d.loadN a 2)

/-- The gain of GTAB for an error (R110, R111). -/
def Dev.gainOf (d : Dev) (base : Nat) (e : Int) : Int :=
  let header := d.loadN base 4
  let a := min ((absQ15 e).1.toNat * 2 ^ bitsOf header 0 4) 32767
  let i := a / 512
  let f : Int := (a % 512 : Nat)
  let e0 := d.tableEntry (base + 4 + 2 * i)
  let e1 := d.tableEntry (base + 4 + 2 * (i + 1))
  (e0 + roundShift ((e1 - e0) * f) 9) * 2 ^ min (bitsOf header 8 4) 8

/-- The feed-forward value of FTAB for an angle (R112, R113). DEDUCED: of a tie the quotient is made even, as R111 says of GTAB; R113
says only that the rule of R90 applies (assumption 90). -/
def Dev.forwardOf (d : Dev) (bank t : Nat) (p : Word) : Int :=
  let offset := bitsOf (d.loadN (bank + 0x3000 + 0x10 * t) 4) 0 10
  let i := (bitsOf p.toNat 22 10 + offset) % 1024
  let f : Int := (bitsOf p.toNat 7 15 : Nat)
  let table := bank + 0x1000 + 0x800 * t
  let e0 := d.tableEntry (table + 2 * i)
  let e1 := d.tableEntry (table + 2 * ((i + 1) % 1024))
  e0 + roundShift ((e1 - e0) * f) 15

/-- A table read: an uncorrectable word among those read makes a block fault (R436). -/
def Dev.readTable (d0 : Dev) (b : Nat) (words : List Nat) (use : Dev → Dev) : Dev :=
  let d := d0.usePort (3 * b + 2)
  match words.find? (fun a => d.isBad a) with
  | some a => d.uncorrectable (a / 8 * 8)
  | none => use d

/-- GTAB: the gain interpolated at |gs1| from table t, latency 4 (R111). -/
def execGtab (ln : BlockId) (gd gs1 : GReg) (t : BitVec 4) (s : State) : Host.Outcome State Fault Refusal :=
  s.done (s.dev.onRun ln (fun l =>
    let base := s.dev.tableBase ln + 0x100 * t.toNat
    let a := min ((absQ15 (q15 (l.gr gs1))).1.toNat * 2 ^ bitsOf (s.dev.loadN base 4) 0 4) 32767 / 512
    s.dev.readTable ln [base, base + 4 + 2 * a, base + 6 + 2 * a] (fun d =>
      d.laneWrite ln 2 4 (.g gd) (.word (BitVec.ofInt 32 (d.gainOf base (q15 (l.gr gs1))))) 0)))

/-- FTAB: the value interpolated at the angle gs1 from table t, latency 4 (R113). -/
def execFtab (ln : BlockId) (gd gs1 : GReg) (t : BitVec 2) (s : State) : Host.Outcome State Fault Refusal :=
  s.done (s.dev.onRun ln (fun l =>
    let bank := s.dev.tableBase ln
    let i := (bitsOf (l.gr gs1).toNat 22 10 + bitsOf (s.dev.loadN (bank + 0x3000 + 0x10 * t.toNat) 4) 0 10) % 1024
    let table := bank + 0x1000 + 0x800 * t.toNat
    s.dev.readTable ln [bank + 0x3000 + 0x10 * t.toNat, table + 2 * i, table + 2 * ((i + 1) % 1024)] (fun d =>
      d.laneWrite ln 2 4 (.g gd) (.word (ofQ15 (d.forwardOf bank t.toNat (l.gr gs1)))) 0)))

end Sys2Proof.Machine
end

