-- ==== Sys2Proof/Machine/Programs.lean ====
section
/-! DEFINITION. What the Staveno reference programs share: their records, start states, configuration checks and the acceptance of
a command (R224 to R228, R248, R283 to R286, R308, R309). -/

namespace Sys2Proof.Machine

/-! ### Records -/

/-- The program of a unit. -/
def Dev.prog (d : Dev) (u : Nat) : Program := Store.get (fun _ => Program.initial) d.progs u
def Dev.setProg (d : Dev) (u : Nat) (p : Program) : Dev := { d with progs := Store.set (fun _ => Program.initial) d.progs u p }

/-- Whether the active slot of a lane holds a reference program. -/
def Dev.isRef (d : Dev) (b : Nat) : Bool := Store.get (fun _ => false) d.refSlots (2 * b + d.activeSlot (b / 4))

/-- The units that a reference program on lane `b` serves as lead lane: every unit it leads, each by the program of its class; they
share the records of the lane (DESIGN CHOICE, assumption 20). -/
def Dev.refUnits (d : Dev) (b : Nat) : List Nat :=
  if d.isRef b then (d.blockUnits b).filter (fun u => d.leadLane u == some b) else []

/-- The lead lane of a unit whose reference program runs on it. -/
def Dev.progLane (d : Dev) (u : Nat) : Option Nat :=
  match d.leadLane u with
  | some b => if (d.lane b).mode != .halted && d.isRef b then some b else none
  | none => none

/-- The class of a unit (R13). -/
def Dev.unitClass (d : Dev) (u : Nat) : Nat := d.fld (unitBase u) F.UNIT_CFG_class

/-- Traction and auxiliary inverter run the traction program (R224). -/
def isTraction (c : Nat) : Bool := c == 1 || c == 6

/-- First addresses of the parameter record in the active table bank and of the command and status records of a lead lane
(R226 to R228, R285, R286, R308, R309). -/
def Dev.paramBase (d : Dev) (b : Nat) : Nat := blkBase b + 0x80000 + d.activeBank (b / 4) * 0x8000 + 0x4000
def commandBase (b : Nat) : Nat := blkBase b + 0x7FF00
def statusBase (b : Nat) : Nat := blkBase b + 0x7FE00

/-- A word of the parameter record, and a part of it. -/
def Dev.param (d : Dev) (b off : Nat) : Nat := d.loadN (d.paramBase b + off) 4
def Dev.paramBits (d : Dev) (b off lo w : Nat) : Nat := bitsOf (d.param b off) lo w

/-- A word of the region's intake buffer. -/
def Dev.intake (d : Dev) (b w : Nat) : Nat := d.loadN (intakeBase b + 4 * w) 4

/-- The length in words of the command record of a class (R227, R286, R309). -/
def recordWords (c : Nat) : Nat := if isTraction c then 7 else if c = 3 then 3 else 5

/-- A word of the last accepted record. -/
def Program.word (p : Program) (i : Nat) : Nat := (p.record.getD i 0).toNat

/-- The mode in force: of traction 1 or 2, of a chopper 0 or, before any record and for every other value, 1, of the others 1;
other values act as 0 (R227, R286, R309). -/
def Program.mode (p : Program) (c : Nat) : Nat :=
  let m := p.word 1
  if isTraction c then (if m = 1 ∨ m = 2 then m else 0)
  else if c = 3 then (if p.taken ∧ m = 0 then 0 else 1)
  else if m = 1 then 1 else 0

/-! ### Transitions -/

/-- Enter a state: every change raises SIG0 where the class's program has that signal (R225, R284, R312). -/
def Dev.progEnter (d : Dev) (b u st : Nat) : Dev :=
  let p := d.prog u
  if p.st = st then d
  else
    let d1 := d.setProg u { p with st := st, age := 0 }
    if isTraction (d.unitClass u) || d.unitClass u == 2 || d.unitClass u == 3 then d1.sigRaise b 0 else d1

/-- Enter START_FAIL: TRC_FAULT (R225). -/
def Dev.startFail (d : Dev) (b u : Nat) : Dev := (d.progEnter b u 10).sigRaise b 3

/-- Abort a start attempt: the first raises START_RETRY, the second enters START_FAIL (R252, R255). -/
def Dev.startAborted (d : Dev) (b u : Nat) : Dev :=
  let p := d.prog u
  let d1 := (d.setProg u { p with attempts := p.attempts + 1, fromFly := false }).progEnter b u 8
  if p.second then d1.startFail b u else d1.sigRaise b 2

/-- Whether `ms` milliseconds have passed since the last transition, counted in sub-ticks (R248). -/
def Program.aged (p : Program) (ms : Nat) : Bool := decide (ms * cyclesPerMs ≤ p.age)

/-- A quotient rounded either way, as the `c`-th open choice falls; of a divisor that is not positive the spec states no result
(assumption 95). -/
def tend (c : Nat) (x m : Int) : Int :=
  if m ≤ 0 then (Config.freeWord c).toInt
  else if x % m = 0 then x / m else x / m + (if Config.freeBool c then 1 else 0)

/-- One step of RAMP: towards a target by at most a step (R128). -/
def moveTo (step r target : Int) : Int := r + clampInt (-step) step (target - r)

/-- The integer square root of a number below 2^192. -/
def rootOf (n : Nat) : Nat := isqrtFrom n 96 0

/-- √3 in units of 2^-60, rounded down. -/
def root3Fixed : Nat := 1996918623117814387

/-! ### Configuration checks -/

/-- An intake word is converted by a sequence triggered at the valley of a leg of the unit (R283), and that with delay 0 (R224). -/
def Dev.valleyWord (d : Dev) (b u w : Nat) : Bool :=
  let r := b / 4
  let a := seqBase r (w / 16) (w / 8 % 2)
  decide (w < 64) && d.seqEnabled r (w / 16) (w / 8 % 2) && d.fld a F.ADC_SEQ_CFG_trig == 1 &&
    (d.unitLegs u).contains (32 * r + d.fld a F.ADC_SEQ_CFG_leg) && decide (w % 8 ≤ d.fld a F.ADC_SEQ_CFG_n)
def Dev.valleyAtOnce (d : Dev) (b u w : Nat) : Bool :=
  d.valleyWord b u w && d.fld (seqBase (b / 4) (w / 16) (w / 8 % 2)) F.ADC_SEQ_CFG_delay == 0

/-- Every leg of the unit has these values of mode, lock and upd. -/
def Dev.legsAre (d : Dev) (u mode lock : Nat) : Bool :=
  (d.unitLegs u).all (fun k => d.legMode k == mode && d.fld (legReg k) F.LEG_CFG_lock == lock &&
    d.fld (legReg k) F.LEG_CFG_upd == 1)

/-- The checks of R224. -/
def Dev.tractionFits (d : Dev) (b u : Nat) : Bool :=
  d.legsAre u 0 1 && (d.unitLegs u).all (fun k => d.fld (legReg k) F.LEG_CFG_div == 1) &&
    decide (d.subFactor b ≤ 4) && [0, 8, 16].all (fun lo => d.valleyAtOnce b u (d.paramBits b 0x54 lo 8)) &&
    (d.unitLegs u).length == 3 * d.paramBits b 4 0 3 * d.paramBits b 4 4 3 && d.param b 0 == 1

/-- The checks of R283. -/
def Dev.converterFits (d : Dev) (b u : Nat) : Bool :=
  let legs := d.unitLegs u
  let same := fun (f : Fld) => legs.all (fun k => d.fld (legReg k) f == d.fld (legReg (legs.headD 0)) f)
  d.legsAre u 3 1 && same F.LEG_CFG_div && same F.LEG_CFG_pcsw &&
    [0, 8, 16].all (fun lo => d.valleyWord b u (d.paramBits b 0xC lo 8)) &&
    legs.all (fun k => [0, 1].any (fun q => d.shedServes (b / 4) q u && (d.servedLegs (b / 4) q).contains k)) &&
    d.param b 0 == 1

/-- The checks of R309. -/
def Dev.chopperFits (d : Dev) (b u : Nat) : Bool :=
  d.legsAre u 0 0 &&
    (d.unitLegs u).all (fun k => decide (256000 ≤ d.legPeriod k ∧ d.legPeriod k ≤ 2560000)) &&
    d.param b 0 == 1 && d.paramBits b 4 0 3 == (d.unitLegs u).length

/-- Whether the configuration of a unit fits its program; the spec names no check of the PFC and DAB programs. -/
def Dev.progFits (d : Dev) (b u : Nat) : Bool :=
  let c := d.unitClass u
  if isTraction c then d.tractionFits b u else if c = 2 then d.converterFits b u
  else if c = 3 then d.chopperFits b u else true

/-- The check at the first compute boundary after the unit enters ENABLING: CFG_ERR with SIG3; a unit in START_FAIL begins anew, and a converter or charger waits in IDLE for the first command accepted after the enable
(R302). CFG_ERR
lasts until the lanes are reloaded; of a chopper, for which the spec names no exit, until a check that passes (assumption 95)
(R224, R248, R283, R309). -/
def Dev.progCheck (d : Dev) (b u : Nat) : Dev :=
  let p := d.prog u
  if p.checked || !(d.unit u).active || (p.st == 9 && d.unitClass u != 3) then d
  else
    let d1 := d.setProg u { p with checked := true }
    if !d1.progFits b u then (d1.progEnter b u 9).sigRaise b 3
    else if p.st == 9 then d1.progEnter b u 0
    else if d.unitClass u == 2 || d.unitClass u == 4 || d.unitClass u == 5 then
      (d1.setProg u { d1.prog u with start := false }).progEnter b u 0
    else if isTraction (d.unitClass u) && p.st == 10 then
      (d1.setProg u { d1.prog u with second := false }).progEnter b u 0
    else d1

/-! ### Accepting a record -/

/-- Accept the command record if both sequence words agree and differ from the last accepted one (R227). The slews of
the parameter record are taken with it (R238); a stop of a traction program acts by its state (R248). -/
def Dev.progAccept (d : Dev) (b u : Nat) : Dev :=
  let p := d.prog u
  let n := recordWords (d.unitClass u)
  let words := (List.range n).map (fun i => BitVec.ofNat 32 (d.loadN (commandBase b + 4 * i) 4))
  let seq := words.headD 0
  if seq = words.getLastD 0 ∧ seq ≠ p.seq then
    let x : Drive := { p.drive with rateT := d.param b 0x4C, rateW := d.param b 0x50 }
    let q : Program := { p with seq := seq, record := words, taken := true, drive := x }
    let d1 := d.setProg u { q with start := q.mode (d.unitClass u) != 0 }
    if isTraction (d.unitClass u) && q.mode (d.unitClass u) == 0 then
      if p.st = 1 ∨ p.st = 4 ∨ p.st = 5 then d1.progEnter b u 0
      else if p.st = 3 then d1.setProg u { d1.prog u with stopAsked := true }
      else d1
    else d1
  else d

/-! ### The programs' own events -/

/-- Act on the program of a unit of one of the classes `p` whose lead lane runs it. -/
def Dev.onProg (d : Dev) (u : Nat) (p : Nat → Bool) (f : Nat → Program → Dev) : Dev :=
  match d.progLane u with
  | some b => if p (d.unitClass u) then f b (d.prog u) else d
  | none => d

/-! ### What they write -/

/-- A command of its fields (R159). -/
def command (cmpA cmpB phi hs ls dac : Nat) : QWord :=
  BitVec.ofNat 128 (pack [(cmpA, 24), (0, 8), (cmpB, 24), (0, 8), (phi, 24), (0, 8), (hs, 2), (ls, 2), (0, 12), (dac, 10)])

/-- All off (R248). -/
def allOffCmd : QWord := command 0 0 0 0 0 0

/-- Write words upwards from an address of a lane's data memory. -/
def Dev.pokeStatus (d : Dev) (a : Nat) (ws : List Nat) : Dev :=
  (List.range ws.length).foldl (fun d i => d.storeN (a + 4 * i) 4 (ws.getD i 0 % 2 ^ 32)) d

end Sys2Proof.Machine
end

