-- ==== Sys2Proof/Machine/Converters.lean ====
section
/-! DEFINITION. The reference programs of converters, chargers and choppers (R283 to R290, R302 to R312). The rounding of every
inexact result is open (assumption 95). -/

namespace Sys2Proof.Machine

/-! ### Converters -/

/-- The present reference of a converter moves towards v_ref at the command's or the parameter's slew; it starts at the
measured output voltage (R302, R303). -/
def Dev.converterRamp (d : Dev) (b u : Nat) : Dev :=
  let p := d.prog u
  let target := p.word 2 * cyclesPerMs
  let rate := if p.word 3 = 0 then d.param b 0x18 else p.word 3
  let step := rate * d.subLenOf b (d.lane b).subTick
  d.setProg u { p with vNow := if p.vNow < target then min target (p.vNow + step) else max target (p.vNow - step) }

/-- The coefficient `i` of the model-class record (R81, R285), times a value; the exponent is common to all. -/
def Dev.coefTimes (d : Dev) (b i : Nat) (x : Int) : Int := d.tableEntry (d.tableBase b + 0x4100 + 2 * i) * x

/-- A sum of products with the model-class coefficients at its exponent, in the unit of the values (R81, R91). -/
def Dev.coefScaled (d : Dev) (b c : Nat) (x : Int) : Int :=
  let e := signed 8 (d.loadN (d.tableBase b + 0x4110) 1)
  if 15 ≤ e then x * 2 ^ (e - 15).toNat else tend c x (2 ^ (15 - e).toNat)

/-- The error e = v* − v_out in Q15 of v_base (R287). -/
def Dev.voltageError (d : Dev) (b c : Nat) (p : Program) : Int :=
  let want := (satQ15 (tend c (p.vNow * 32768 : Nat) (d.param b 8 * cyclesPerMs : Nat))).1
  (satQ15 (want - q15 (BitVec.ofNat 32 (d.intake b (d.paramBits b 0xC 0 8))))).1

/-- The compensator of one sub-tick (R287): the loop class with gains by the error, whose integral stands still in the direction in
which the clamp acts, or the difference equation of the model class over its clamped outputs. Values are 2^-30 codes. -/
def Dev.compensate (d : Dev) (b u : Nat) (p : Program) : Program :=
  let c := p.draw
  let lo := d.paramBits b 0x10 0 10
  let hi := d.paramBits b 0x10 16 10
  let e := d.voltageError b c p
  let g := Config.dacCodes u
  let code := fun (y : Int) => max lo (min hi (tend (c + 1) y (2 ^ 30)).toNat)
  if d.paramBits b 4 8 1 = 0 then
    let gain := fun (n : Nat) => d.gainOf (d.tableBase b + 0x100 * d.paramBits b 0x14 (4 * n) 4) e * e * g
    let y := gain 0 + p.out1
    let held := (hi * 2 ^ 30 < y ∧ 0 < gain 1) ∨ (y < lo * 2 ^ 30 ∧ gain 1 < 0)
    { p with dac := code y, out1 := if held then p.out1 else p.out1 + gain 1 }
  else
    let e0 := e * 32768 * g
    let poles := d.coefTimes b 3 p.out1 + d.coefTimes b 4 p.out2
    let zeros := d.coefTimes b 0 e0 + d.coefTimes b 1 p.err1 + d.coefTimes b 2 p.err2
    let y := d.coefScaled b (c + 2) (if Config.poleSign u then zeros + poles else zeros - poles)
    { p with dac := code y, out1 := clampInt (lo * 2 ^ 30) (hi * 2 ^ 30) y, out2 := p.out1, err1 := e0, err2 := p.err1 }

/-- The common peak reference of this sub-tick, with the count of sub-ticks at dac_max and the legs in diode emulation (R287, R289,
R290). -/
def Dev.converterDac (d : Dev) (b u : Nat) : Dev :=
  let p := d.compensate b u (d.prog u)
  let mask := BitVec.ofNat 32 (d.param b 0x20)
  let diode : Word :=
    if p.dac < d.paramBits b 0x1C 0 10 then mask else if d.paramBits b 0x1C 16 10 < p.dac then 0 else p.diode &&& mask
  d.setProg u { p with atMax := if p.dac = d.paramBits b 0x10 16 10 then p.atMax + 1 else 0, diode := diode }

/-- SOFT_START begins: v* at the measured output voltage, the compensator where it gives dac_min (R302). -/
def Dev.softStart (d : Dev) (b u : Nat) : Dev :=
  let p := d.prog u
  let v := tend (p.draw + 3) (q15 (BitVec.ofNat 32 (d.intake b (d.paramBits b 0xC 0 8))) * (d.param b 8 * cyclesPerMs : Nat)) 32768
  let lo := d.paramBits b 0x10 0 10
  (d.setProg u { p with
    start := false, vNow := v.toNat, dac := lo, atMax := 0, diode := 0
    out1 := lo * 2 ^ 30, out2 := lo * 2 ^ 30, err1 := 0, err2 := 0 }).progEnter b u 1

/-- The converter program at a compute boundary (R286, R287, R289, R302, R303). -/
def Dev.converterStep (d : Dev) (b u : Nat) : Dev :=
  let p := d.prog u
  if p.mode 2 = 0 then (d.setProg u { p with atMax := 0 }).progEnter b u 0
  else if p.st = 0 then (if p.start && (d.unit u).active then d.softStart b u else d)
  else
    let d1 := (d.converterRamp b u).converterDac b u
    let q := d1.prog u
    if q.st = 1 ∧ q.vNow = q.word 2 * cyclesPerMs then d1.progEnter b u 2
    else if q.st = 3 ∧ q.atMax = 0 then d1.progEnter b u 2
    else d1

/-- The command of leg `k` of a converter (R288, R290, R304). -/
def Dev.converterCommand (d : Dev) (b u k : Nat) : QWord :=
  let p := d.prog u
  let masked := bitOf (d.param b 0x20) (k % 32)
  let ls := if p.st = 1 then (if masked then 3 else 0) else if bitOf p.diode.toNat (k % 32) then 3 else 1
  if p.st = 1 ∨ p.st = 2 ∨ p.st = 3 then command 0 (9 * d.legPeriod k / 10) 0 1 ls p.dac else allOffCmd

/-- The status record of a converter (R286). -/
def Dev.converterStatus (d : Dev) (b u : Nat) : Dev :=
  let p := d.prog u
  let out := q15 (BitVec.ofNat 32 (d.intake b (d.paramBits b 0xC 0 8)))
  d.pokeStatus (statusBase b) [p.st, (tend (p.draw + 4) p.vNow cyclesPerMs).toNat,
    lowBits 32 (tend (p.draw + 5) (out * d.param b 8) 32768), p.dac]

/-- The reference has been at dac_max for cbc_n sub-ticks (R289). -/
def Dev.limitDue (d : Dev) (b : Nat) (p : Program) : Bool :=
  (p.st == 1 || p.st == 2) && decide (d.param b 0x24 ≤ p.atMax)

/-- CONVERTER_LIMIT_ENTRY: LIMIT, with CNV_LIMIT; the limit never becomes a fault (R289). -/
def execConverterLimitEntry (u : UnitId) (s : State) : Host.Outcome State Fault Refusal :=
  let d := s.dev
  s.done (d.onProg u (fun c => c == 2) (fun b p => if d.limitDue b p then (d.progEnter b u 3).sigRaise b 1 else d))

/-! ### Chargers -/

/-- The PFC and DAB programs at a compute boundary: a regulate command starts them from the measured voltage. The spec gives them no
parameter record, so that when the reference arrives is open (R305, R306). -/
def Dev.chargerStep (d : Dev) (b u : Nat) : Dev :=
  let p := d.prog u
  if p.mode 4 = 0 then d.progEnter b u 0
  else if p.st = 0 then
    if p.start && (d.unit u).active then (d.setProg u { p with start := false }).progEnter b u 1 else d
  else if p.st = 1 ∧ Config.freeBool p.draw = true then d.progEnter b u 2
  else d

/-- The command of the unit's `j`-th leg of a PFC: the duty its loops give its phase, of which the spec fixes no value (R305). -/
def Dev.pfcCommand (d : Dev) (u j k : Nat) : QWord :=
  let p := d.prog u
  let phase := j * 3 / max 1 (d.unitLegs u).length
  if p.st = 1 ∨ p.st = 2 then
    command ((Config.freeWord (p.draw + 1 + phase)).toNat % (d.legPeriod k / 2 + 1)) 0 0 1 1 0
  else allOffCmd

/-- The command of the unit's `j`-th leg of a DAB: cmp_a = P/2 and the offsets 0 and P/2 of the primary, s and s + P/2 of the
secondary; the spec fixes of s that it lies in [−P/4, P/4] (R306). -/
def Dev.dabCommand (d : Dev) (u j k : Nat) : QWord :=
  let p := d.prog u
  let period := d.legPeriod k
  let s := (Config.freeWord (p.draw + 1)).toNat % (2 * (period / 4) + 1) + (period - period / 4)
  let phi := match j * 4 / max 1 (d.unitLegs u).length with
    | 0 => 0
    | 1 => period / 2
    | 2 => s % period
    | _ => (s + period / 2) % period
  if p.st = 1 ∨ p.st = 2 then command (period / 2) 0 phi 1 1 0 else allOffCmd

/-- The status record of a charger program: its state, and three words of which the spec fixes no value (R305, R306). -/
def Dev.chargerStatus (d : Dev) (b u : Nat) : Dev :=
  let p := d.prog u
  d.pokeStatus (statusBase b) ([p.st] ++ [4, 5, 6].map (fun i => (Config.freeWord (p.draw + i)).toNat))

/-- PFC_GRID_FAULT: the grid voltage has been out of range for 3 ms; all off and IDLE. No record names the words of the line voltages,
so that what the program sees of them comes with the command (R305). -/
def execPfcGridFault (u : UnitId) (s : State) : Host.Outcome State Fault Refusal :=
  let d := s.dev
  s.done (d.onProg u (fun c => c == 4) (fun b _ => d.progEnter b u 0))

/-! ### Choppers -/

/-- The variables of unit-local leg `j`. -/
def Program.brake (p : Program) (j : Nat) : Brake := Store.get (fun _ => Brake.initial) p.brakes j

/-- Healthy legs of a chopper. -/
def healthyCount (m : Nat) : Nat := ((List.range 4).filter (fun j => bitOf m j)).length

/-- For how many steps before its valley the command in force keeps the low side of a leg on (R310, R311). -/
def Dev.leadOn (d : Dev) (k : Nat) : Nat :=
  let l := d.leg k
  if l.st ≠ .run then 0 else match cmdLs l.cur with
    | 1 => cmpA l.cur
    | 2 => d.legPeriod k
    | _ => 0

/-- A sample of a leg's current: it counts when the leg has been on for chk_on before it, and below chk_ratio × V / r_leg it is low
(R311). The on-time is that of the command that was in force (assumption 95). -/
def Dev.brakeSample (d : Dev) (b k : Nat) (v : Int) (w : Nat) (x : Brake) : Brake :=
  let i := q15 (BitVec.ofNat 32 w)
  let counts := decide (d.param b 0x24 * 256 ≤ x.lead)
  let low := decide (i * (d.param b 0x1C * 2 ^ 30 * d.param b 8 : Nat) <
    signed 16 (d.paramBits b 0x20 0 16) * v * 3276800000)
  let y := { x with count := some (bitsOf w 24 8), lead := d.leadOn k }
  if counts then { y with onI := some i, low := if low then x.low + 1 else 0 } else y

/-- The duty of a leg as a fraction: i* over its last on-current sample, or over V / r_leg before any, within [0, 1]; of a sample that is
not positive the spec states no duty (R310). -/
def Dev.brakeDuty (d : Dev) (b c : Nat) (v : Int) (x : Brake) : Brake :=
  let ov1 := d.paramBits b 0xC 0 16
  let ov2 := d.paramBits b 0xC 16 16
  let above := (v - ov1 * 32768) * ov2
  let span : Int := (ov2 : Int) - ov1
  let f := match x.onI with
    | none => (above, span * v)
    | some i => (above * 3276800000, 32768 * span * (d.param b 8 * d.param b 0x1C : Nat) * i)
  if v < ov1 * 32768 ∨ f.1 = 0 then { x with num := 0, den := 1 }
  else if f.2 ≤ 0 then { x with num := (Config.freeWord c).toNat % 65536, den := 65535 }
  else { x with num := (min f.1 f.2).toNat, den := f.2.toNat }

/-- The chopper program's measurements at a compute boundary: the DC link, the resistor temperature, new samples of the leg currents,
and the duties; in a unit that is disabled every leg is healthy anew (R308, R310, R311). -/
def Dev.chopperSense (d : Dev) (b u : Nat) : Dev :=
  let p := d.prog u
  let legs := d.unitLegs u
  let v := q15 (BitVec.ofNat 32 (d.intake b (d.paramBits b 0x14 0 8))) * Config.linkVolts u
  let t := Config.resistorTemp u (q15 (BitVec.ofNat 32 (d.intake b (d.paramBits b 0x14 8 8))))
  let idle := !(d.unit u).active
  let one := fun (j : Nat) =>
    let x := if idle then Brake.initial else p.brake j
    let w := d.intake b (d.paramBits b 0x18 (8 * j) 8)
    let fresh := match x.count with | some n => bitsOf w 24 8 != n | none => bitOf w 16
    let y := if fresh then d.brakeSample b (legs.getD j 0) v w x else x
    d.brakeDuty b (p.draw + j) v y
  d.setProg u { p with
    linkV := v
    hot := decide ((d.param b 0x28 : Int) < t)
    healthy := if idle then 2 ^ legs.length - 1 else p.healthy
    brakes := (List.range (min 4 legs.length)).foldl (fun m j => Store.set (fun _ => Brake.initial) m j (one j)) [] }

/-- The chopper program at a compute boundary (R309 to R312). -/
def Dev.chopperStep (d : Dev) (b u : Nat) : Dev :=
  let d1 := d.chopperSense b u
  let p := d1.prog u
  if p.mode 3 = 0 then d1.progEnter b u 0
  else if p.healthy = 0 then d1
  else if p.st = 0 ∨ p.st = 3 then d1.progEnter b u 1
  else d1

/-- Pulsing begins at v_ov1 and ends below v_ov1 − v_hys (R310). -/
def Dev.pulsingBegins (d : Dev) (b : Nat) (p : Program) : Bool :=
  p.st == 1 && decide ((d.paramBits b 0xC 0 16 : Int) * 32768 ≤ p.linkV)
def Dev.pulsingEnds (d : Dev) (b : Nat) (p : Program) : Bool :=
  p.st == 2 && decide (p.linkV + (d.param b 0x10 : Nat) * 32768 < (d.paramBits b 0xC 0 16 : Int) * 32768)

/-- CHOPPER_PULSING_CHANGE: pulsing begins, with CHP_ON, or ends (R310, R312). -/
def execChopperPulsingChange (u : UnitId) (s : State) : Host.Outcome State Fault Refusal :=
  let d := s.dev
  s.done (d.onProg u (fun c => c == 3) (fun b p =>
    if d.pulsingBegins b p then (d.progEnter b u 2).sigRaise b 1
    else if d.pulsingEnds b p then d.progEnter b u 1
    else d))

/-- A leg that was healthy is so no longer: chk_n low samples, the leg in FAULT, or a resistor above its limit (R311). -/
def Dev.brakeFails (d : Dev) (b u j : Nat) (p : Program) : Bool :=
  let low := (p.brake j).low
  bitOf p.healthy j && decide (j < (d.unitLegs u).length) && (d.unit u).active && (p.hot ||
    (d.leg ((d.unitLegs u).getD j 0)).st == .fault || decide (1 ≤ low ∧ d.paramBits b 0x20 16 4 ≤ low))

/-- The command of the unit's `j`-th leg of a chopper (R310, R311). -/
def Dev.chopperCommand (d : Dev) (u j k : Nat) : QWord :=
  let p := d.prog u
  let x := p.brake j
  let ls := if x.num = 0 then 0 else if 98 * x.den ≤ 100 * x.num then 2 else 1
  if p.st = 2 ∧ bitOf p.healthy j = true then command (x.num * d.legPeriod k / (2 * x.den)) 0 0 0 ls 0 else allOffCmd

/-- C_h of a chopper unit in W (R312). -/
def Dev.chopperWatts (d : Dev) (b u c : Nat) : Int :=
  let v := d.paramBits b 0xC 0 16
  tend c (healthyCount (d.prog u).healthy * v * v * 1000 : Nat) (d.param b 8)

/-- The status record of a chopper (R309, R312). -/
def Dev.chopperStatus (d : Dev) (b u : Nat) : Dev :=
  let p := d.prog u
  let c := p.draw + 8
  let v := d.paramBits b 0xC 0 16
  let duty := fun (j : Nat) =>
    if p.st = 2 ∧ bitOf p.healthy j = true then (tend (c + j) (255 * (p.brake j).num : Nat) (p.brake j).den).toNat else 0
  let t := Config.resistorTemp u (q15 (BitVec.ofNat 32 (d.intake b (d.paramBits b 0x14 8 8))))
  d.pokeStatus (statusBase b) [p.st, pack [(p.healthy, 4), (healthyCount p.healthy, 4)],
    lowBits 32 (tend (c + 4) (healthyCount p.healthy * v * v : Nat) (d.param b 8)), lowBits 32 (tend (c + 5) p.linkV 32768), lowBits 32 t,
    pack ([0, 1, 2, 3].map (fun j => (duty j, 8))), pack ([0, 1, 2, 3].map (fun j => (min 255 (p.brake j).low, 8))), d.laneSpecial b 0x0C]

end Sys2Proof.Machine
end

