-- ==== Sys2Proof/Machine/Traction.lean ====
section
/-! DEFINITION. The reference traction program: what it measures, its start states, its torque and current loops and its
modulation (R229 to R240, R248 to R255). The rounding of every inexact result is open (assumption 95). -/

namespace Sys2Proof.Machine

/-! ### Angles -/

/-- Whether a direction at angle `a`, below a half turn, does not lie beyond the vector (x, y) of the upper half-plane. -/
def notBeyond (x y : Int) (a : Nat) : Bool :=
  decide (0 ≤ cosExact (BitVec.ofNat 32 a) * y - sinExact (BitVec.ofNat 32 a) * x)

/-- The largest angle, below a half turn, that does not lie beyond a vector, from bit `k` down. -/
def angleFrom (x y : Int) : Nat → Nat → Nat
  | 0, a => a
  | k + 1, a => angleFrom x y k (if notBeyond x y (a + 2 ^ k) then a + 2 ^ k else a)

/-- The angle of a vector, 2^32 to a turn; that of the zero vector, which has none, is the free value `c`. -/
def angleOf (c : Nat) (x y : Int) : Word :=
  if x = 0 ∧ y = 0 then Config.freeWord c
  else if y < 0 ∨ (y = 0 ∧ x < 0) then BitVec.ofNat 32 (2 ^ 31 + angleFrom (-x) (-y) 31 0)
  else BitVec.ofNat 32 (angleFrom x y 31 0)

/-! ### Quantities of the parameter record (R226) -/

/-- Rated electrical turns per second, times 600, in 2^-32 turns per second. -/
def Dev.ratedTurns (d : Dev) (b : Nat) : Int := (d.param b 0x20 * d.param b 0x1C * 2 ^ 32 : Nat)

/-- A speed in 0.01 % of rated, and whether its magnitude reaches `x` of them. -/
def Dev.speedPct (d : Dev) (b c : Nat) (w : Int) : Int := tend c (w * 6000000) (d.ratedTurns b)
def Dev.speedReaches (d : Dev) (b : Nat) (w x : Int) : Bool := decide (x * d.ratedTurns b ≤ w.natAbs * 6000000)

/-- A current of so many 0.01 % of i_rated, and one of so many 0.01 A, in 2^-31 of i_base. -/
def Dev.ratedCurrent (d : Dev) (b c x : Nat) : Int := tend c (x * d.param b 0x10 * 2 ^ 31 : Nat) (10000 * d.param b 0xC : Nat)
def Dev.baseCurrent (d : Dev) (b c x : Nat) : Int := tend c (x * 2 ^ 31 : Nat) (d.param b 0xC)

/-- One step of a current slew of `rate` 0.01 % per ms over `len` lane cycles. -/
def Dev.currentStep (d : Dev) (b c rate len : Nat) : Int :=
  tend c (rate * len * d.param b 0x10 * 2 ^ 31 : Nat) (10000 * cyclesPerMs * d.param b 0xC : Nat)

/-- The uncontrolled-generator speed in 0.01 % at the DC-link voltage `v` (R240). -/
def Dev.ucgAt (d : Dev) (b c : Nat) (v : Int) : Int :=
  tend c (v * (d.param b 0x18 * (6000000000000 * 2 ^ 120) : Nat))
    (32768 * 10 * (root3Fixed * (2 * piFixed)) * d.param b 0x24 * d.param b 0x20 * d.param b 0x1C : Nat)

/-- The estimated torque in 0.01 % of t_rated (R235); a current of Q15 value q is q × i_base / 3,276,800 A. -/
def Dev.torqueOf (d : Dev) (b c : Nat) (id iq : Int) : Int :=
  let k : Int := 3276800
  let base : Int := d.param b 0xC
  let l : Int := d.param b 0x28 - d.param b 0x2C
  tend c (3 * d.param b 0x20 * (iq * base) * (d.param b 0x24 * 1000 * k + l * (id * base)) * 100000)
    (2 * k * k * 1000000000 * d.param b 0x34)

/-! ### Measuring, at every compute boundary -/

/-- The Q15 value of an intake word that the parameter record names, and that of two parts of it (R226). -/
def Dev.sensed (d : Dev) (b off lo : Nat) : Int := q15 (BitVec.ofNat 32 (d.intake b (d.paramBits b off lo 8)))

/-- The phase currents in αβ, and the terminal voltages (R229, R250). -/
def Dev.currentVector (d : Dev) (b : Nat) : Int × Int :=
  let r := clarkeOf (d.sensed b 0x54 0) (d.sensed b 0x54 8)
  (r.1, r.2.1)
def Dev.voltageVector (d : Dev) (b : Nat) : Int × Int :=
  let vc := d.sensed b 0x58 16
  let r := clarkeOf (satQ15 (d.sensed b 0x58 0 - vc)).1 (satQ15 (d.sensed b 0x58 8 - vc)).1
  (r.1, r.2.1)

/-- The speed and the angle of the blind ramp, `t` lane cycles after it began (R254). -/
def Dev.rampSpeed (d : Dev) (b c t : Nat) : Int :=
  tend c (d.ratedTurns b * (d.param b 0x68 * t : Nat)) (6000000 * cyclesPerSecond)
def Dev.rampAngle (d : Dev) (b c t : Nat) : Word :=
  BitVec.ofInt 32 (tend c (d.ratedTurns b * (d.param b 0x68 * t * t : Nat)) (12000000 * cyclesPerSecond * cyclesPerSecond))

/-- The number of the feedback channel in use, and its status word (R226, R249). -/
def Dev.fbChannel (d : Dev) (b : Nat) : Nat := if d.paramBits b 8 0 2 = 2 then 1 else 0
def Dev.fbStatusWord (d : Dev) (b : Nat) : Nat := d.intake b (fbWord (d.fbChannel b) + 4)

/-- The electrical speed a feedback channel reports; that of Hall sensors is electrical already (R249, R259). -/
def Dev.sensorSpeed (d : Dev) (b : Nat) : Int :=
  let f := d.fbChannel b
  let w := (BitVec.ofNat 32 (d.intake b (fbWord f + 2))).toInt * 1000000
  if d.fld (fbBase (b / 4) f) F.FB_CFG_src = 1 then w else w * d.param b 0x20

/-- One look at a vector while no loop runs: the angle travelled since the last, and its magnitude in 2^-16 of Q15. -/
def Drive.look (x : Drive) (c : Nat) (v : Int × Int) : Drive :=
  let a := angleOf c v.1 v.2
  let step := match x.lastAngle with | some o => (a - o).toInt | none => 0
  { x with
    lastAngle := some a
    turned := x.turned + step
    mags := x.mags + rootOf ((v.1 * v.1 + v.2 * v.2).toNat * 2 ^ 32)
    looks := x.looks + 1 }

/-- Forget what was tracked. -/
def Drive.blank (x : Drive) : Drive := { x with lastAngle := none, turned := 0, mags := 0, looks := 0 }

/-- The currents of this sub-tick, at the angle in use (R229). -/
def Dev.parked (d : Dev) (b : Nat) (x : Drive) : Drive :=
  let v := d.currentVector b
  let r := parkOf v.1 v.2 x.theta
  { x with id := r.1, iq := r.2.1 }

/-- The angle and the speed in use (R249, R253, R254): of the position sensor; of the observer, whose law the spec does not give,
so that it finds free values; of the align and ramp frames; or of the rotation of the short-circuit current. -/
def Dev.tractionAngle (d : Dev) (b len : Nat) (p : Program) : Drive :=
  let x := p.drive
  let c := p.draw
  let observes := p.st = 2 ∨ p.st = 5 ∨ p.st = 6
  let y := if d.paramBits b 8 0 2 = 0 ∧ observes then
      { x with
        obsAngle := Config.freeWord c
        obsSpeed := (Config.freeWord (c + 1)).toInt * 65536
        err := (Config.freeWord (c + 2)).toNat % 1801 }
    else x
  if d.paramBits b 8 0 2 ≠ 0 then
    { y with theta := BitVec.ofNat 32 (d.intake b (fbWord (d.fbChannel b) + 1)), speed := d.sensorSpeed b }
  else match p.st with
    | 1 => y.look (c + 3) (d.voltageVector b)
    | 2 | 6 => { y with theta := y.obsAngle, speed := y.obsSpeed }
    | 3 =>
      let z := { y with turned := 0 }.look (c + 3) (d.currentVector b)
      if y.lastAngle.isSome then { z with speed := tend (c + 4) (z.turned * cyclesPerSecond) len } else z
    | 4 => { y with theta := 0, speed := 0 }
    | 5 => { y with theta := d.rampAngle b (c + 3) p.age, speed := d.rampSpeed b (c + 4) p.age }
    | _ => y

/-- The start of a sub-tick: the time in the state, what is measured, how long the angle error has been low and high; an error
below ho_err within 50 ms of CLOSED ends the check of R251 (R229, R251, R252, R254). -/
def Dev.tractionSense (d : Dev) (b u : Nat) : Dev :=
  let len := d.subLenOf b (d.lane b).subTick
  let p : Program := { d.prog u with age := (d.prog u).age + len }
  let x := d.tractionAngle b len p
  let low := decide (x.err < d.paramBits b 0x70 0 16)
  let observes := p.st = 2 ∨ p.st = 5 ∨ p.st = 6
  let y := d.parked b { x with
    errLow := if observes ∧ low = true then x.errLow + len else 0
    errHigh := if observes ∧ 300 < x.err then x.errHigh + len else 0
    volts := d.sensed b 0x54 16 }
  let passed := p.st = 6 ∧ p.fromFly = true ∧ low = true ∧ p.age ≤ 50 * cyclesPerMs
  d.setProg u { p with
    drive := y
    fromFly := p.fromFly && !decide passed
    second := p.second && !decide passed }

/-! ### Start states -/

/-- The current controllers start: no integral, nothing limited. The spec names no start of them (assumption 95). -/
def Drive.fresh (x : Drive) : Drive :=
  { x with intD := 0, intQ := 0, outD := 0, outQ := 0, limited := false, vMag := 0, weaken := 0, duties := [] }

/-- The references start from the measured values: currents, estimated torque, speed in use (R237). -/
def Dev.seedRefs (d : Dev) (b c : Nat) (x : Drive) : Drive :=
  let t := d.torqueOf b (c + 5) x.id x.iq * 65536
  { x with
    idRef := x.id * 65536, iqRef := x.iq * 65536, idSlew := true, iqSlew := true
    torque := t, spdI := t, spdWait := 0, wRef := d.speedPct b (c + 6) x.speed * 65536 }

/-- Change the drive of a unit. -/
def Dev.onDrive (d : Dev) (u : Nat) (f : Drive → Drive) : Dev :=
  let p := d.prog u
  d.setProg u { p with drive := f p.drive }

/-- Enter CLOSED with seeded references: attempts read 0 (R237, R255). -/
def Dev.toClosed (d : Dev) (b u : Nat) (fromFly : Bool) : Dev :=
  let p := d.prog u
  (d.setProg u { p with
    attempts := 0
    fromFly := fromFly
    second := fromFly && p.second
    drive := d.seedRefs b p.draw (d.parked b p.drive) }).progEnter b u 6

/-- Enter FLY_DETECT: tracking starts with the vector of this sub-tick (R250). -/
def Dev.toFlyDetect (d : Dev) (b u : Nat) : Dev :=
  (d.onDrive u (fun x => x.blank.look ((d.prog u).draw + 7) (d.voltageVector b))).progEnter b u 1

/-- The references of a state that drives currents of its own: id* starts where it is, iq* at a given value (R252, R254). -/
def Dev.toDriven (d : Dev) (b u st : Nat) (f : Drive → Drive) : Dev := (d.onDrive u f).progEnter b u st

/-- Enter ALIGN (R254). -/
def Dev.toAlign (d : Dev) (b u : Nat) : Dev := d.toDriven b u 4 (fun x => { x with theta := 0, speed := 0, iqRef := 0 })

/-- The traction program's own transitions at a compute boundary (R248, R249, R252, R279). -/
def Dev.tractionStep (d : Dev) (b u : Nat) : Dev :=
  let p := d.prog u
  let fb := d.paramBits b 8 0 2
  let w := d.fbStatusWord b
  let run := (d.unit u).st == .run
  let started := d.setProg u { p with start := false, stopAsked := false, second := false, drive := p.drive.fresh }
  match p.st with
  | 0 =>
    if p.start && p.mode 1 != 0 then
      if fb ≠ 0 then
        if bitOf w 1 then started.startFail b u else if run && bitOf w 0 then started.toClosed b u false else d
      else if run then started.toFlyDetect b u
      else d
    else d
  | 2 =>
    if fb != 0 && bitOf w 1 then d.startFail b u
    else if decide ((p.drive.speed.natAbs * 6000000 : Nat) ≤ d.paramBits b 0x78 16 16 * d.ratedTurns b) then d.toAlign b u else d
  | 6 => if fb != 0 && bitOf w 1 then d.startFail b u else d
  | 8 => ((d.setProg u { p with second := true, drive := p.drive.fresh }).toFlyDetect b u)
  | _ => d

/-! ### The decisions that end a state -/

/-- FLY_DETECT: fly_t has elapsed (R250). -/
def Dev.flyDue (d : Dev) (b : Nat) (p : Program) : Bool := p.st == 1 && p.aged (d.paramBits b 0x74 0 16)

/-- Whether the mean voltage vector stays below the back-EMF expected at fly_w, and whether √3 times it reaches 0.97 of the DC
link (R250). -/
def Dev.flyStill (d : Dev) (b : Nat) (x : Drive) : Bool :=
  decide (x.mags * d.param b 0x18 * (6 * 10 ^ 12 * 2 ^ 60) <
    x.looks * 2 ^ 16 * (d.param b 0x24 * d.param b 0x20 * d.param b 0x1C * d.paramBits b 0x74 16 16) * (2 * piFixed * 327680))
def flyHigh (x : Drive) : Bool :=
  decide (x.volts ≤ 0 ∨ (97 * x.volts.toNat * x.looks * 65536) ^ 2 ≤ 3 * (100 * x.mags) ^ 2)

/-- The decision of R250: the speed is the angle travelled over the window, 0 where the voltage stays low. -/
def Dev.flyDecide (d : Dev) (b u : Nat) : Dev :=
  let p := d.prog u
  let x := p.drive
  let c := p.draw
  let w := if d.flyStill b x then 0 else tend (c + 8) (x.turned * cyclesPerSecond) p.age
  let y := { x with speed := w }
  let seen := d.setProg u { p with drive := { y with theta := y.lastAngle.getD 0, obsAngle := y.lastAngle.getD 0, obsSpeed := w } }
  let flyW := d.paramBits b 0x74 16 16
  if d.speedReaches b w (d.ucgAt b (c + 9) x.volts) || flyHigh x then
    ((d.setProg u { p with drive := y.blank }).progEnter b u 3).sigRaise b 1
  else if d.speedReaches b w flyW && decide (0 ≤ w) then seen.toClosed b u true
  else if d.speedReaches b w flyW then seen.toDriven b u 2 (fun x => { x with idRef := 0, iqRef := 0 })
  else (d.setProg u { p with drive := { y with idRef := 0, iqRef := 0 } }).toAlign b u

/-- FLY_DETECT_END: fly_t has elapsed and the program decides (R250). -/
def execFlyDetectEnd (u : UnitId) (s : State) : Host.Outcome State Fault Refusal :=
  let d := s.dev
  s.done (d.onProg u isTraction (fun b p => if d.flyDue b p then d.flyDecide b u else d))

/-- ALIGN: align_t has elapsed (R254). -/
def Dev.alignDue (d : Dev) (b : Nat) (p : Program) : Bool := p.st == 4 && p.aged (d.param b 0x60)

/-- ALIGN_END: RAMP begins, with current of magnitude ramp_i along the q axis (R254). -/
def execAlignEnd (u : UnitId) (s : State) : Host.Outcome State Fault Refusal :=
  let d := s.dev
  s.done (d.onProg u isTraction (fun b p =>
    if d.alignDue b p then
      d.toDriven b u 5 (fun x => { x with idRef := 0, iqRef := d.ratedCurrent b (p.draw + 10) (d.param b 0x64) })
    else d))

/-- The speed of the blind ramp has reached `w`, in 0.01 % (R254). -/
def Dev.rampReached (d : Dev) (b w : Nat) (p : Program) : Bool := decide (w * cyclesPerSecond ≤ d.param b 0x68 * p.age)

/-- RAMP: the ramp has reached w_ho, and the angle error has stayed below ho_err for ho_t (R254). -/
def Dev.handOverDue (d : Dev) (b : Nat) (p : Program) : Bool :=
  p.st == 5 && d.rampReached b (d.param b 0x6C) p && decide (d.paramBits b 0x70 16 16 * cyclesPerMs ≤ p.drive.errLow)

/-- HAND_OVER: the angle source becomes the observer, the currents are expressed in its frame, and the references start from
them (R237, R254). -/
def execHandOver (u : UnitId) (s : State) : Host.Outcome State Fault Refusal :=
  let d := s.dev
  s.done (d.onProg u isTraction (fun b p =>
    if d.handOverDue b p then
      (d.onDrive u (fun x => { x with theta := x.obsAngle, speed := x.obsSpeed })).toClosed b u false
    else d))

/-- The ramp has reached 2 × w_ho without hand-over, or within 50 ms of CLOSED the angle error has not fallen below ho_err (R251,
R255). -/
def Dev.abortDue (d : Dev) (b : Nat) (p : Program) : Bool :=
  (p.st == 5 && d.rampReached b (2 * d.param b 0x6C) p && !d.handOverDue b p) || (p.st == 6 && p.fromFly && p.aged 50)

/-- START_ABORT (R251, R255). -/
def execStartAbort (u : UnitId) (s : State) : Host.Outcome State Fault Refusal :=
  let d := s.dev
  s.done (d.onProg u isTraction (fun b p => if d.abortDue b p then d.startAborted b u else d))

/-- FLY_BRAKE: the angle error has stayed above 30° for 5 ms (R252). -/
def Program.brakeAbortDue (p : Program) : Bool := p.st == 2 && decide (5 * cyclesPerMs ≤ p.drive.errHigh)

/-- FLY_BRAKE_ABORT (R252). -/
def execFlyBrakeAbort (u : UnitId) (s : State) : Host.Outcome State Fault Refusal :=
  let d := s.dev
  s.done (d.onProg u isTraction (fun b p => if p.brakeAbortDue then d.startAborted b u else d))

/-- ASC_HOLD: the speed lies below ucg_hys of the uncontrolled-generator speed at the present voltage (R253). -/
def Dev.ascDue (d : Dev) (b : Nat) (p : Program) : Bool :=
  p.st == 3 && decide ((p.drive.speed.natAbs : Int) * 6000000 * 32768 <
    q15 (BitVec.ofNat 32 (d.param b 0x7C)) * d.ucgAt b (p.draw + 9) p.drive.volts * d.ratedTurns b)

/-- ASC_HOLD_EXIT: all off and FLY_DETECT, or IDLE where a stop was accepted (R248, R253). -/
def execAscHoldExit (u : UnitId) (s : State) : Host.Outcome State Fault Refusal :=
  let d := s.dev
  s.done (d.onProg u isTraction (fun b p =>
    if d.ascDue b p then
      if p.stopAsked then (d.setProg u { p with stopAsked := false }).progEnter b u 0 else d.toFlyDetect b u
    else d))

/-- A stop is in force and both current references lie below 1 % of i_rated (R239). -/
def Dev.stopDue (d : Dev) (b : Nat) (p : Program) : Bool :=
  let small := fun (r : Int) => decide (r.natAbs * 100 * d.param b 0xC < d.param b 0x10 * 2 ^ 31)
  (p.st == 6 || p.st == 2) && p.mode 1 == 0 && small p.drive.idRef && small p.drive.iqRef

/-- STOP_COMPLETE: all off and IDLE; the unit stays in RUN (R239). -/
def execStopComplete (u : UnitId) (s : State) : Host.Outcome State Fault Refusal :=
  let d := s.dev
  s.done (d.onProg u isTraction (fun b p => if d.stopDue b p then d.progEnter b u 0 else d))

/-! ### The current loop -/

/-- One axis: the proportional part and the integral as an accumulator, which stands still where its step would increase the
output that was limited (R230). -/
def Dev.axis (d : Dev) (b kp ki : Nat) (held : Bool) (e int out : Int) : Int × Int :=
  let gain := fun (t : Nat) => d.gainOf (d.tableBase b + 0x100 * d.paramBits b 0x3C (4 * t) 4) e
  let step := gain ki * e
  ((satAcc (gain kp * e + int)).1, if held && decide (0 < step * out) then int else (satAcc (int + step)).1)

/-- The decoupling terms, in 2^-30 of v_base (R231). -/
def Dev.decoupled (d : Dev) (b c : Nat) (x : Drive) : Int × Int :=
  let k : Int := 3276800
  let base : Int := d.param b 0xC
  let m : Int := 2 ^ 92 * 1000000000 * k * d.param b 0x18
  let w : Int := 2 * piFixed * x.speed * 10 * 2 ^ 30
  (tend c (-(w * d.param b 0x2C * (x.iq * base))) m,
    tend (c + 1) (w * (d.param b 0x28 * (x.id * base) + d.param b 0x24 * 1000 * k)) m)

/-- The voltage vector over the DC-link voltage, limited to magnitude 1/√3 with its angle kept: both axes in Q15, whether it was
limited, and its magnitude in 2^-30 of v_base (R231, R234). -/
def modulate (c : Nat) (vd vq v : Int) : Int × Int × Bool × Nat :=
  let md := tend c (vd * 32768) v
  let mq := tend (c + 1) (vq * 32768) v
  let sum := (md * md + mq * mq).toNat
  if 2 ^ 60 < 3 * sum then
    let s := rootOf (3 * sum)
    (tend (c + 2) (md * 32768) s, tend (c + 3) (mq * 32768) s, true, rootOf (v.natAbs * v.natAbs * 2 ^ 30 / 3))
  else (tend (c + 2) md 32768, tend (c + 3) mq 32768, false, rootOf (vd * vd + vq * vq).toNat)

/-- The longest carrier period of a unit's legs, of which R224 wants one (R156). -/
def Dev.unitPeriod (d : Dev) (u : Nat) : Nat := d.legPeriod ((d.unitLegs u).headD 0)

/-- The output angle: that of the middle of the period in which the command applies (R229). -/
def Dev.outputAngle (d : Dev) (u c : Nat) (x : Drive) : Word :=
  x.theta + BitVec.ofInt 32 (tend c (3 * x.speed * d.unitPeriod u) 51200000000)

/-- The current loop of one sub-tick, and the duties it gives (R229 to R231). -/
def Dev.currentLoop (d : Dev) (b u : Nat) : Drive :=
  let p := d.prog u
  let x := p.drive
  let c := p.draw + 20
  let held := x.limited || bitOf (d.reg (blkReg b + 0x34)).toNat 9
  let err := fun (k : Nat) (r i : Int) => (satQ15 ((satQ15 (tend k r 65536)).1 - i)).1
  let a := d.axis b 0 1 held (err c x.idRef x.id) x.intD x.outD
  let q := d.axis b 2 3 held (err (c + 1) x.iqRef x.iq) x.intQ x.outQ
  let v := d.decoupled b (c + 2) x
  let m := modulate (c + 4) (a.1 + v.1) (q.1 + v.2) x.volts
  let ab := iparkOf (satQ15 m.1).1 (satQ15 m.2.1).1 (d.outputAngle u (c + 8) x)
  { x with
    intD := a.2, intQ := q.2, outD := a.1, outQ := q.1
    limited := m.2.2.1, vMag := m.2.2.2
    duties := (svpwmOf ab.1 ab.2.1).1 }

/-! ### The outer loops, whose references the next sub-tick uses (R224) -/

/-- A torque or speed of the command record, in 2^-16 of 0.01 %. -/
def Program.asked (p : Program) (i : Nat) : Int := (p.record.getD i 0).toInt * 65536

/-- One step of a slew of `rate` 0.01 %/ms, in 2^-16 of 0.01 %. -/
def slewStep (c rate len : Nat) : Int := tend c (rate * len * 65536 : Nat) cyclesPerMs

/-- The torque reference before its limits: the ramped command of mode 1, the output of the speed controller in mode 2, which runs
every spd_div sub-ticks, or the ramp of a stop to 0. While no speed is controlled its reference and its integral follow the drive
(R232, R237 to R239). -/
def Dev.torqueLoop (d : Dev) (b c len : Nat) (p : Program) : Drive :=
  let x := p.drive
  let w := d.speedPct b c x.speed * 65536
  if p.mode 1 = 2 then
    let r := moveTo (slewStep (c + 1) x.rateW len) x.wRef (p.asked 3)
    if x.spdWait = 0 then
      let e := r - w
      let g := d.param b 0x44
      let kp := signed 16 (bitsOf g 0 16)
      let ki := signed 16 (bitsOf g 16 16)
      let div := d.paramBits b 0x48 0 4
      { x with
        wRef := r
        torque := tend (c + 2) (kp * e) 32768 + x.spdI
        spdI := x.spdI + tend (c + 3) (ki * e) 32768
        spdWait := (if div = 0 then 16 else div) - 1 }
    else { x with wRef := r, spdWait := x.spdWait - 1 }
  else
    let t := moveTo (slewStep (c + 1) x.rateT len) x.torque (if p.mode 1 = 1 then p.asked 2 else 0)
    { x with torque := t, spdI := t, wRef := w, spdWait := 0 }

/-- The regenerating limit: derated over [v_ov2, v_ov3], 0 above (R232). A DC-link voltage of Q15 value v is v × v_base / 327,680 V
(assumption 95). -/
def Dev.regenLimit (d : Dev) (b c : Nat) (lim v : Int) : Int :=
  let volts := v * d.param b 0x18
  let lo : Int := d.paramBits b 0x80 0 16 * 327680
  let hi : Int := d.paramBits b 0x80 16 16 * 327680
  if hi < volts then 0 else if volts < lo then lim else tend c (lim * (hi - volts)) (hi - lo)

/-- T*: the torque reference within t_lim_mot, or t_lim_gen where it brakes (R232). -/
def Dev.torqueRef (d : Dev) (b c : Nat) (p : Program) (x : Drive) : Int :=
  let lim := fun (i : Nat) => (p.word i * 65536 : Nat)
  let l : Int := if 0 ≤ x.torque * x.speed then lim 4 else d.regenLimit b c (lim 5) x.volts
  clampInt (-l) l x.torque

/-- The pair of the MTPA table at a torque, interpolated, with the sign of iq from the torque, in 2^-31 of i_base (R233). -/
def Dev.mtpa (d : Dev) (b c : Nat) (t : Int) : Int × Int :=
  let m := 20000 * 65536
  let a := min (t.natAbs * 128) (128 * m)
  let i := min 127 (a / m)
  let f : Int := (a - i * m : Nat)
  let at' := fun (k n : Nat) => d.tableEntry (d.tableBase b + 0x3800 + 4 * n + 2 * k)
  let y := fun (k : Nat) => at' k i * 65536 + tend (c + k) ((at' k (i + 1) - at' k i) * f * 65536) m
  (y 0, if t < 0 then -(y 1) else y 1)

/-- The feed-forward at the position: friction with the sign of the speed, which below fly_w is that of T*, and cogging. Without a
sensor the mechanical angle is not known and free (R236). -/
def Dev.feedForward (d : Dev) (b c : Nat) (x : Drive) (t : Int) : Int :=
  let f := d.param b 0x40
  let pos : Word := if bitOf f 6 then
      (if d.paramBits b 8 0 2 = 0 then Config.freeWord c else BitVec.ofNat 32 (d.intake b (fbWord (d.fbChannel b))))
    else x.theta
  let sign := fun (v : Int) => if v < 0 then -1 else if 0 < v then (1 : Int) else 0
  let side := if d.speedReaches b x.speed (d.paramBits b 0x74 16 16) then sign x.speed else sign t
  (if bitOf f 4 then d.forwardOf (d.tableBase b) (bitsOf f 0 2) pos * side * 65536 else 0) +
    (if bitOf f 5 then d.forwardOf (d.tableBase b) (bitsOf f 2 2) pos * 65536 else 0)

/-- Δid: integrates the voltage margin, whose gain is open, within [−i_max, 0]; a sub-tick that the guard scaled counts as above the
margin, by an open amount (R234). -/
def Dev.weakened (d : Dev) (b u c : Nat) (x : Drive) (iMax : Int) : Int :=
  let k := d.paramBits b 0x38 0 16
  let vm : Int := rootOf (k * k * (x.volts.natAbs * x.volts.natAbs) / 3)
  let margin := if bitOf (d.reg (blkReg b + 0x34)).toNat 9 then -(1 + (Config.freeWord c).toNat : Int) else vm - x.vMag
  clampInt (-iMax) 0 (x.weaken + tend (c + 1) (Config.weakenGain u * margin) 65536)

/-- A current reference: while it slews from where it was seeded it moves towards its target by RAMP, and then follows it (R237,
R238). -/
def slewed (step r target : Int) (slewing : Bool) : Int × Bool :=
  let y := if slewing then moveTo step r target else target
  (y, slewing && y != target)

/-- The references of closed-loop control for the next sub-tick (R232 to R238). -/
def Dev.outerClosed (d : Dev) (b u len : Nat) (p : Program) : Drive :=
  let c := p.draw + 40
  let x := d.torqueLoop b c len p
  let t := d.torqueRef b (c + 5) p x
  let m := d.mtpa b (c + 6) t
  let iMax := d.baseCurrent b (c + 8) (d.param b 0x14)
  let dw := d.weakened b u (c + 9) x iMax
  let id := m.1 + dw
  let room : Int := rootOf (iMax * iMax - id * id).toNat
  let iq := clampInt (-room) room (m.2 + d.feedForward b (c + 11) x t)
  let step := d.currentStep b (c + 12) x.rateT len
  let y := slewed step x.idRef id x.idSlew
  let z := slewed step x.iqRef iq x.iqSlew
  { x with weaken := dw, idRef := y.1, idSlew := y.2, iqRef := z.1, iqSlew := z.2 }

/-- The references of the next sub-tick: in FLY_BRAKE iq* moves against the rotation towards fly_brk, or 0 at a stop; in ALIGN id*
moves towards align_i; in RAMP they stand (R239, R250, R252, R254). -/
def Dev.outerLoops (d : Dev) (b u : Nat) : Drive :=
  let p := d.prog u
  let x := p.drive
  let c := p.draw + 40
  let len := d.subLenOf b (d.lane b).subTick
  let step := d.currentStep b c (d.param b 0x4C) len
  match p.st with
  | 2 =>
    let i := d.ratedCurrent b (c + 1) (d.paramBits b 0x78 0 16)
    { x with idRef := 0, iqRef := moveTo step x.iqRef (if p.mode 1 = 0 then 0 else if x.speed < 0 then i else -i) }
  | 4 => { x with idRef := moveTo step x.idRef (d.ratedCurrent b (c + 1) (d.param b 0x5C)), iqRef := 0 }
  | 6 => d.outerClosed b u len p
  | _ => x

/-- The states in which the legs switch (R248). -/
def Program.drives (p : Program) : Bool := p.st == 2 || p.st == 4 || p.st == 5 || p.st == 6

/-- The loops of one sub-tick: the current loop with the references of the last, then the references of the next (R224, R229 to
R238). -/
def Dev.tractionControl (d : Dev) (b u : Nat) : Dev :=
  if (d.prog u).drives then
    let d1 := d.onDrive u (fun _ => d.currentLoop b u)
    d1.onDrive u (fun _ => d1.outerLoops b u)
  else d

/-- The command of the unit's `j`-th leg `k`: the duty of its phase, the same for every paralleled leg and every set (R160, R231,
R248). -/
def Dev.tractionCommand (d : Dev) (b u j k : Nat) : QWord :=
  let p := d.prog u
  if p.drives then
    let duty := p.drive.duties.getD (j / max 1 (d.paramBits b 4 4 3) % 3) 0
    command (((32768 - duty) * d.legPeriod k).toNat / 65536) 0 0 1 1 0
  else if p.st = 3 then command 0 0 0 0 2 0
  else allOffCmd

/-- TRC_STATUS (R228). -/
def Dev.tractionStatus (d : Dev) (b u : Nat) : Dev :=
  let p := d.prog u
  let x := p.drive
  let c := p.draw + 60
  d.pokeStatus (statusBase b) [p.st, p.attempts, lowBits 32 (d.speedPct b c x.speed), x.theta.toNat,
    pack [(lowBits 16 x.id, 16), (lowBits 16 x.iq, 16)], lowBits 32 (d.torqueOf b (p.draw + 5) x.id x.iq),
    lowBits 32 (d.ucgAt b (p.draw + 9) x.volts), x.err, d.laneSpecial b 0x0C]

end Sys2Proof.Machine
end

