-- ==== Sys2Proof/Machine/RefRun.lean ====
section
/-! DEFINITION. A lane under reference programs at its compute and commit boundaries (R224, R228, R421), the health of choppers (R311,
R312) and the DC-link service (R307, R313, R314). -/

namespace Sys2Proof.Machine

/-! ### Compute boundary -/

/-- An uncorrectable word in a record or a table that the program of a class reads makes a block fault (R436). -/
def Dev.recordBad (d : Dev) (b c : Nat) : Option Nat :=
  let t := d.tableBase b
  let run := fun (a n : Nat) => (List.range n).map (fun i => a + 8 * i)
  let gains := fun (off : Nat) => (List.range 4).flatMap (fun i => run (t + 0x100 * d.paramBits b off (4 * i) 4) 17)
  let tables := if isTraction c then run (t + 0x3800) 65 ++ gains 0x3C else if c = 2 then run (t + 0x4100) 4 ++ gains 0x14 else []
  (run (d.paramBase b) 17 ++ tables ++ run (commandBase b) ((recordWords c + 1) / 2)).find? (fun y => d.isBad y)

/-- One unit's program at the compute boundary of its lead lane: it checks the configuration, accepts a command, measures and steps
(R224 to R240, R248 to R255, R283 to R290, R302 to R312). -/
def Dev.unitCompute (d : Dev) (b u : Nat) : Dev :=
  match d.recordBad b (d.unitClass u) with
  | some y => d.uncorrectable y
  | none =>
    let d0 := { d.setProg u { d.prog u with draw := d.free } with free := d.free + 512 }
    let c := d0.unitClass u
    let d1 := if isTraction c then d0.tractionSense b u else d0
    let d2 := (d1.progCheck b u).progAccept b u
    if (d2.prog u).st = 9 then d2
    else if isTraction c then d2.tractionStep b u
    else if c = 2 then d2.converterStep b u
    else if c = 3 then d2.chopperStep b u
    else if c = 4 ∨ c = 5 then d2.chargerStep b u
    else d2

/-- The reference programs of a lane at its compute boundary. -/
def Dev.refCompute (d : Dev) (b : Nat) : Dev :=
  d.each (d.refUnits b) (fun u d => if (d.lane b).mode == .halted then d else d.unitCompute b u)

/-! ### Commit boundary -/

/-- The command of leg `k`, the unit's `j`-th, in this sub-tick. For units of the other classes the spec names no program, and the
model commits all off (DESIGN CHOICE, assumption 95) (R2, R160, R231, R248, R287 to R290, R304 to R306, R310). -/
def Dev.progCommand (d : Dev) (b u j k : Nat) : QWord :=
  let c := d.unitClass u
  if isTraction c then d.tractionCommand b u j k
  else if c = 2 then d.converterCommand b u k
  else if c = 3 then d.chopperCommand u j k
  else if c = 4 then d.pfcCommand u j k
  else if c = 5 then d.dabCommand u j k
  else allOffCmd

/-- Rewrite the status record before the commit boundary (R228, R286, R309). -/
def Dev.progStatus (d : Dev) (b u : Nat) : Dev :=
  let c := d.unitClass u
  if isTraction c then d.tractionStatus b u
  else if c = 3 then d.chopperStatus b u
  else if c = 2 then d.converterStatus b u
  else if c = 4 ∨ c = 5 then d.chargerStatus b u
  else d

/-- The current of a unit's `j`-th leg in 2^-16 A and the DC-link voltage in 2^-15 V, of converters and chargers free values, because
no record names them (R421). -/
def Dev.legAmps (d : Dev) (b u j c : Nat) : Nat :=
  let p := d.prog u
  let k := d.unitClass u
  if isTraction k then
    let par := max 1 (d.paramBits b 4 4 3)
    let ia := d.sensed b 0x54 0
    let ib := d.sensed b 0x54 8
    let i := match j / par % 3 with | 0 => ia | 1 => ib | _ => -(ia + ib)
    (tend c (i.natAbs * d.param b 0xC * 65536 : Nat) (3276800 * par : Nat)).toNat
  else if k = 3 then (tend c ((p.brake j).onI.getD 0 * (d.param b 0x1C * 65536 : Nat)) 3276800).toNat
  else (Config.freeWord c).toNat
def Dev.linkVoltage (d : Dev) (b u c : Nat) : Int :=
  let p := d.prog u
  if isTraction (d.unitClass u) then tend c (p.drive.volts * d.param b 0x18) 10
  else if d.unitClass u = 3 then p.linkV
  else (Config.freeWord c).toNat

/-- The loss of module `m` in 2^-20 W (R421). -/
def Dev.moduleLoss (d : Dev) (b u m c : Nat) : Int :=
  let a := d.tableBase b + 0x4200 + 0x20 * m
  let part := fun (off n : Nat) => d.loadN (a + off) n
  let legs := (List.range (d.unitLegs u).length).filter (fun j => bitOf (part 0x18 2) j)
  let amps := legs.map (fun j => d.legAmps b u j (c + 4))
  let sum := amps.foldl (fun x y => x + y) 0
  let squares := amps.foldl (fun x y => x + y * y) 0
  tend c (part 0x10 2 * sum * 16 : Nat) 1000 + tend (c + 1) (part 0x12 2 * squares : Nat) (4096 * 1000000) +
    tend (c + 2) (25600000000 * (part 0x14 2 * sum * 16 : Nat) * d.linkVoltage b u (c + 5))
      (d.unitPeriod u * part 0x16 2 * 32768 * 1000000 : Nat)

/-- The four cells of module `m` after this sub-tick, in 2^-20 of 1/16 °C (R421). -/
def Dev.moduleCells (d : Dev) (b u m c : Nat) : List Int :=
  let a := d.tableBase b + 0x4200 + 0x20 * m
  let loss := d.moduleLoss b u m c
  [0, 1, 2, 3].map (fun k =>
    let f := d.tableEntry (a + 2 * k)
    let old := Store.get (fun _ => 0) (d.prog u).cells (4 * m + k)
    let aim := tend (c + 6) (d.loadN (a + 8 + 2 * k) 2 * loss * 16) 10000
    tend (c + 7) (f * old + (32768 - f) * aim) 32768)

/-- The thermal record of one module: its cells, and T_j in 1/16 °C as s16 (R421). The coolant temperature takes the Q15 value of its
word as a fraction (DEDUCED, assumption 95). -/
def Dev.moduleThermal (d : Dev) (b u m : Nat) : Dev :=
  let p := d.prog u
  let c := p.draw + 128 + 8 * m
  let a := d.tableBase b + 0x4200 + 0x20 * m
  let cells := d.moduleCells b u m c
  let tc := d.tableEntry (a + 0x1C) + tend (c + 3) (q15 (BitVec.ofNat 32 (d.intake b (d.loadN (a + 0x1A) 1))) * d.tableEntry (a + 0x1E)) 32768
  let tj := tc + tend (c + 2) (cells.foldl (fun x y => x + y) 0) (2 ^ 20)
  let d1 := d.setProg u { p with
    cells := (List.range 4).foldl (fun s k => Store.set (fun _ => 0) s (4 * m + k) (cells.getD k 0)) p.cells }
  d1.storeN (blkBase b + 0x7FD00 + 2 * m) 2 (lowBits 16 (satQ15 tj).1)

/-- The thermal records of the modules of the unit's valid bindings (R421). -/
def Dev.progThermal (d : Dev) (b u : Nat) : Dev :=
  d.each (((List.range 32).filter (fun n => d.bindsUnit n u)).map (fun n => d.fld (tagBase n) F.TAG_MAP_module))
    (fun m d => d.moduleThermal b u m)

/-- A lane with reference programs at its commit boundary: as lead lane it runs the loops and rewrites the status record, every lane of
a lane set commits its own legs, and the lane completes its sub-tick (R63, R224, R228). -/
def Dev.refCommit (d : Dev) (b : Nat) : Dev :=
  if d.isRef b && (d.lane b).mode == .run then
    let d1 := d.each (d.refUnits b) (fun u d =>
      let d0 := if isTraction (d.unitClass u) then d.tractionControl b u else d
      (d0.progStatus b u).progThermal b u)
    let d2 := d1.each ((List.range 8).map (fun j => 8 * b + j)) (fun k d =>
      match d.owner k with
      | none => d
      | some u =>
        match d.progLane u with
        | some lead => d.commitLeg (Fin.ofNat 16 b) k (d.progCommand lead u ((d.unitLegs u).idxOf k) k)
        | none => d)
    d2.laneComplete b
  else d

/-! ### Regenerating power against the choppers (R312 to R314) -/

/-- The lead lane of a unit with a reference program of one of the classes `p`. -/
def Dev.leadOf (d : Dev) (u : Nat) (p : Nat → Bool) : Option Nat :=
  match d.leadLane u with
  | some b => if d.isRef b && p (d.unitClass u) then some b else none
  | none => none

/-- ΣC_h in W over the chopper units in RUN (R312, R313). -/
def Dev.sumCap (d : Dev) : Int :=
  ((List.range 32).map (fun u =>
    match d.leadOf u (fun c => c == 3) with
    | some b => if (d.unit u).st = .run then d.chopperWatts b u ((d.prog u).draw + 4) else 0
    | none => 0)).foldl (fun x y => x + y) 0

/-- The estimated torque of a traction unit in 0.01 %, and its regenerating power in W, both from its status record (R228, R313). -/
def Dev.torqueNow (d : Dev) (b : Nat) : Int := (BitVec.ofNat 32 (d.loadN (statusBase b + 0x14) 4)).toInt
def Dev.regenOf (d : Dev) (b c : Nat) : Int :=
  let w := (BitVec.ofNat 32 (d.loadN (statusBase b + 8) 4)).toInt
  max 0 (tend c (-(d.torqueNow b * w) * (d.param b 0x34 * d.param b 0x1C * (2 * piFixed) : Nat)) (600000000000 * 2 ^ 60))

/-- P_regen over the traction units. -/
def Dev.sumRegen (d : Dev) : Int :=
  ((List.range 32).map (fun u =>
    match d.leadOf u isTraction with | some b => d.regenOf b ((d.prog u).draw + 70) | none => 0)).foldl (fun x y => x + y) 0

/-- Whether P_regen exceeds P_allow, with the capacity of another device (R313, R314). -/
def Dev.regenPast (d : Dev) (peer : Nat) : Bool := decide (9 * (d.sumCap + peer) < 10 * d.sumRegen)

/-- The chopper's healthy set falls to `m`: CHP_DEGRADED, or FAULT with CHP_FAULT where none is left; past P_allow the safety pair is
to request the mechanical brake (R311, R312, R314). -/
def Dev.chopperHealth (d : Dev) (b u m : Nat) : Dev :=
  let d1 := d.setProg u { d.prog u with healthy := m }
  let d2 := if m = 0 then (d1.progEnter b u 3).sigRaise b 3 else d1.sigRaise b 2
  if d2.regenPast 0 then { d2 with hsl := { d2.hsl with brakeDue := true } } else d2

/-- CHOPPER_LEG_UNHEALTHY: a leg is no longer healthy; a resistor above its limit takes every leg (R311, R312). -/
def execChopperLegUnhealthy (u : UnitId) (leg : Fin 4) (s : State) : Host.Outcome State Fault Refusal :=
  let d := s.dev
  s.done (d.onProg u (fun c => c == 3) (fun b p =>
    if d.brakeFails b u leg p then d.chopperHealth b u (if p.hot then 0 else withBits p.healthy leg 1 0) else d))

/-! ### The DC-link service -/

/-- A field of the parameter record in the inactive table bank of a lead lane, which a write reaches (R83, R307). -/
def Dev.writeParam (d : Dev) (b off lo w v : Nat) : Dev :=
  let a := blkBase b + 0x80000 + (1 - d.activeBank (b / 4)) * 0x8000 + 0x4000 + off
  (d.memWrite 0 a 4 (withBits (d.loadN a 4) lo w v)).2

/-- New thresholds for every chopper and traction record and for the OV3 windows; a set that is not strictly increasing is
refused (R307). -/
def Dev.writeThresholds (d : Dev) (ov1 ov2 ov3 code : Nat) : Dev :=
  if ov1 < ov2 ∧ ov2 < ov3 then
    let d1 := d.each (List.range 32) (fun u d =>
      match d.leadOf u (fun c => c == 3), d.leadOf u isTraction with
      | some b, _ => (d.writeParam b 0xC 0 16 ov1).writeParam b 0xC 16 16 ov2
      | _, some b => (d.writeParam b 0x80 0 16 ov2).writeParam b 0x80 16 16 ov3
      | _, _ => d)
    d1.each (List.range 64) (fun i d =>
      if bitOf (d.fld (4 * (i / 16)) F.HSL_OV3SRC_mask) (i % 16) && d.fld (winBase (i / 16) (i % 16)) F.WIN_DAC_code != code then
        ((d.setFld (winBase (i / 16) (i % 16)) F.WIN_DAC_code code).dacStepped (i / 16) (64 + i % 16)
          (d.fld (winBase (i / 16) (i % 16)) F.WIN_DAC_code)).formRaw (i / 16) (i % 16)
      else d)
  else d

/-- A new command record with the regenerating limit of one traction unit (R227, R313). -/
def Dev.writeLimit (d : Dev) (u lim : Nat) : Dev :=
  match d.leadOf u isTraction with
  | none => d
  | some b =>
    let a := commandBase b
    let seq := ((d.prog u).seq + 1).toNat
    let put := fun (d : Dev) (off v : Nat) => (d.memWrite 0 (a + off) 4 v).2
    put (put (put d 0 seq) 0x14 lim) 0x18 seq

/-- New regenerating limits of every traction unit: its share of P_allow by the torque it has now, at most the user's limit, or where
P_regen does not exceed P_allow the user's limit; without any P_allow 0. A unit for which no user limit is named keeps as such
that of its record. The capacity of the other device counts with the own (R313). -/
def Dev.writeLimits (d : Dev) (users : List RegenShare) (peer : Nat) : Dev :=
  let allow := (9 * (d.sumCap + peer)).toNat
  let regen := (10 * d.sumRegen).toNat
  let d1 := d.each (List.range 32) (fun u d =>
    match d.leadOf u isTraction with
    | none => d
    | some b =>
      let user := match users.find? (fun x => x.unit.val == u) with
        | some x => x.limit
        | none => d.loadN (commandBase b + 0x14) 4
      d.writeLimit u (if allow = 0 then 0
        else if allow < regen then min user ((d.torqueNow b).natAbs * allow / regen) else user))
  if allow < regen then { d1 with hsl := { d1.hsl with brakeDue := true } } else d1

/-- DC_LINK_SERVICE (R307, R313). -/
def execDcLinkService (job : DcLinkJob) (s : State) : Host.Outcome State Fault Refusal :=
  s.done (match job with
    | .thresholds ov1 ov2 ov3 code => s.dev.writeThresholds ov1 ov2 ov3 code.toNat
    | .limits shares peer => s.dev.writeLimits shares peer)

end Sys2Proof.Machine
end

