-- ==== Sys2Proof/Machine/Phases.lean ====
section
/-! DEFINITION. The frame tick, the sub-ticks of a block and their phases (R55 to R69, R86, R107, R115). -/

namespace Sys2Proof.Machine

/-! ### The frame tick -/

/-- The shadowed timing registers (R68). -/
def timingRegs : List Nat :=
  [0x40000020, 0x40000024, 0x40000028] ++
    [0, 1, 2, 3].flatMap (fun r => [rgnReg r + 0x60, rgnReg r + 0x64, rgnReg r + 0x68])

/-- The device with the shadowed timing in force. -/
def Dev.takeTiming (d : Dev) : Dev :=
  { d with inforce := timingRegs.foldl (fun m a => Store.set resetWord m a (d.reg a)) d.inforce }

/-- The lane budget of a block, over its shortest sub-tick (R64). -/
def Dev.laneBudget (d : Dev) (b : Nat) : Nat :=
  let r := rgnReg (b / 4)
  d.inForce r F.RGN_PHASE1_commit_point * d.subLen b / 1000 - d.inForce r F.RGN_PHASE0_compute * d.subLen b / 1000

/-- Whether the recorded worst case of a block's lane plus the reserve fits its budget (R68, R139, R152). -/
def Dev.laneFits (d : Dev) (b : Nat) : Bool :=
  d.laneWcet b == 0 || decide (4 * d.laneWcet b + 640 ≤ d.laneBudget b)

/-- A new timing in force: the HSL latches its copy of the period, the worst cases are to be computed anew, aligned decimators and
the slots of the axle links are judged against it (R201, R353, R366, R490). -/
def Dev.timingApplied (d0 : Dev) : Dev :=
  let d : Dev := { d0 with hsl := { d0.hsl with tickP := d0.tickCycles, wcDue := true } }
  d.checkAlign.each [0, 1] (fun i d => if d.budgetLost i then d.raise Ev.AXL_BUDGET_LOST (scopePort (22 + i)) 0 else d)

/-- A pending apply takes effect at this tick, or is refused as a whole (R68); the second result says that it took effect. -/
def Dev.applyTiming (d : Dev) : Dev × Bool :=
  if d.flag 0 F.TRL_STATUS_apply_pending then
    let d1 := d.setFld 0 F.TRL_STATUS_apply_pending 0
    let new := d1.takeTiming
    if (List.range 16).all (fun b => new.laneFits b) then (new, true)
    else (d1.raise Ev.TICK_CFG_REFUSED scopeChip 0, false)
  else (d, false)

/-- A tick at the racking of a region: PROBATION counts down, and the tick after a trigger has begun (R529). -/
def Dev.rackTick (d : Dev) (r : Nat) : Dev :=
  if d.fld (rgnReg r) F.RGN_RACK_STAT_state = 2 then
    let x := d.rack r
    (d.setFld (rgnReg r) F.RGN_RACK_STAT_left (d.fld (rgnReg r) F.RGN_RACK_STAT_left - 1)).setRack r
      { x with due := x.trig.isSome }
  else d

/-- What every frame tick does beside the grid: HOLDOVER registers, the enable time of units, the connections of the safe
channel, racking and the axle links (R54, R331, R374, R378, R483, R529). -/
def Dev.tickWork (d : Dev) : Dev :=
  let d1 := d.holdRegs
  let d2 := d1.each (List.range 32) (fun u d =>
    if (d.unit u).st = .enabling then d.setUnit u { d.unit u with enTicks := (d.unit u).enTicks + 1 } else d)
  let d3 := d2.each (List.range 32) (fun n d =>
    if d.conLive n then (d.setSch n { d.sch n with ticks := (d.sch n).ticks + 1 }).conCeiling n else d)
  (d3.each [0, 1, 2, 3] (fun r d => d.rackTick r)).each [0, 1] (fun i d => d.axlTick i)

/-- FRAME_TICK: the tick that is due is emitted. The tick at which an apply takes effect comes at the old timing; the new period,
boundaries and factors hold from it, the HSL latches its copy of the period, and the following ticks re-phase towards the grid,
each by at most one correction (DEDUCED reading of R69 beside R353: assumption 91; R55, R56, R68). -/
def execFrameTick (s : State) : Host.Outcome State Fault Refusal :=
  let d := s.dev
  let at_ := d.trl.nextStep
  s.done (
    if at_ ≤ d.stepNow + 31 then
      let x := d.applyTiming
      let d1 := { x.1 with trl := { x.1.trl with
        tickStep := at_, appliedStep := if x.2 then some at_ else x.1.trl.appliedStep } }
      let d2 := (if x.2 then d1.timingApplied else d1).regrid
      let c : Int := d2.tickCorrection
      let len := d2.tickCycles
      let share := clampInt (-c) c (d2.gridOffset at_ (d2.gridIndex at_))
      ({ d2 with trl := { d2.trl with
        nextStep := ((at_ + 32 * len : Nat) + share).toNat, tickLen := len, stretch := share } } : Dev).tickWork
    else d)

/-! ### Sub-ticks -/

/-- The sub-tick that begins next in a block, with its first edge step; none before the frame tick it belongs to (R58). -/
def Dev.nextSub (d : Dev) (b : Nat) : Option (Nat × Nat) :=
  let l := d.lane b
  let start := fun (j : Nat) => ((d.trl.tickStep : Int) + d.stretched (32 * (j * d.trl.tickLen / d.subFactor b))).toNat
  if d.trl.tickStep = d.trl.nextStep then none
  else if l.tickOf ≠ some d.trl.tickStep then some (0, start 0)
  else if l.subTick + 1 < d.subFactor b then some (l.subTick + 1, start (l.subTick + 1))
  else none

/-- Clear the fresh bits of a block's intake buffer; a word written in this lane cycle keeps its bit (R195). -/
def Dev.clearFresh (d : Dev) (b : Nat) : Dev :=
  d.each (List.range 96 ++ [132, 164]) (fun w d =>
    let a := intakeBase b + 4 * w
    if (Store.get (fun _ => (0, 0)) d.intakeOld a).1 = d.now + 1 then d
    else d.pokeN a 4 (withBits (d.loadN a 4) 16 1 0))

/-- The lane routes of a block take effect (R511). -/
def Dev.takeRoutes (d : Dev) (b : Nat) : Dev :=
  d.each (List.range 16) (fun j d =>
    { d with laneRoutes := Store.set zeroWord d.laneRoutes (16 * b + j) (d.reg (0x40010800 + 0x40 * b + 4 * j)) })

/-- Tick-locked counters of a block's legs restart at the sub-tick start plus their phase offset (R156). -/
def Dev.restartLocked (d : Dev) (b start : Nat) : Dev :=
  d.each ((List.range 8).map (fun j => 8 * b + j)) (fun k d =>
    if d.flag (legReg k) F.LEG_CFG_lock then
      let t := start + d.legOffset k
      if (d.leg k).zeroAt = t then d else d.setLeg k { d.leg k with restart := some t }
    else d)

/-- Sub-tick starts and boundaries trigger converters that name a leg of the block (R190). -/
def Dev.blockTriggers (d : Dev) (b : Nat) (p : Nat → Bool) : Dev :=
  d.noteTriggers (b / 4) (fun a => p a && d.fld a F.ADC_SEQ_CFG_leg / 8 == b % 4)
def Dev.boundaryTriggers (d : Dev) (b bnd : Nat) : Dev :=
  d.blockTriggers b (fun a => d.fld a F.ADC_SEQ_CFG_trig == 4 && d.fld a F.ADC_SEQ_CFG_bnd == bnd)

/-- SUB_TICK_START (R58, R115, R156, R190, R195, R258, R452, R511). -/
def execSubTickStart (b : BlockId) (s : State) : Host.Outcome State Fault Refusal :=
  let d := s.dev
  s.done (match d.nextSub b with
    | none => d
    | some (j, start) =>
      if start ≤ d.stepNow + 31 then
        let l := d.lane b
        let live := (d.reg (blkReg b + 0x30)).toNat
        let same := l.freshAt == d.now
        let new := if same then l.freshNew.toNat else 0
        let d1 := (d.setReg (blkReg b + 0x34) (BitVec.ofNat 32 (live &&& (new ^^^ 0xFFFFFFFF)))).setReg (blkReg b + 0x30)
          (if same then l.fresh else 0)
        let d2 := d1.setLane b { l with
          phase := .intake, subTick := j, tickOf := some d.trl.tickStep, subStart := start / 32, subStep := start,
          subFrom := j * d.trl.tickLen / d.subFactor b }
        let d3 := ((d2.clearFresh b).takeRoutes b).restartLocked b start
        let d4 := d3.blockTriggers b (fun a => d3.fld a F.ADC_SEQ_CFG_trig == 5)
        let r := b.val / 4
        let d5 := d4.noteSamples r (fun a => d4.fld a F.FB_CFG_trig == 0 && d4.fld a F.FB_CFG_blk == b.val % 4)
        d5.noteInstant r (fun a => d5.fld a F.CAP_SMP_smp == 0 && d5.fld a F.CAP_SMP_blk == b.val % 4)
      else d)

/-- COMPUTE_BOUNDARY: the compute phase begins; a lane in DONE with a worst case starts at its entry (R60, R86, R523). -/
def execComputeBoundary (b : BlockId) (s : State) : Host.Outcome State Fault Refusal :=
  let d := s.dev
  let l := d.lane b
  let t := d.boundaryAt b F.RGN_PHASE0_compute
  s.done (
    if l.phase = .intake ∧ t ≤ d.now then
      let ns : DWord := BitVec.ofNat 64 (d.timeAtStep (32 * t) / 65536 % 2 ^ 64).toNat
      let l1 := { l with phase := .compute, computeAt := t, computeNs := ns }
      let starts := l.mode == .done && d.laneWcet b != 0
      let d1 := d.setLane b (if starts then
        { l1 with mode := .run, pc := d.laneEntry b, issued := false, nextAt := d.now, completed := false } else l1)
      let d2 := if starts then d1.refCompute b else d1
      d2.boundaryTriggers b 0
    else d)

/-! ### The later boundaries -/

/-- Whether the exchange boundary of block `p` falls in this lane cycle or is owed. -/
def Dev.exchangeDue (d : Dev) (p : Nat) : Bool :=
  (d.lane p).phase == .compute && decide (d.boundaryAt p F.RGN_PHASE0_exchange ≤ d.now)

/-- The exchange boundary clears the ready marks of the channels that the block's lane produces, and those of every block of
the region whose boundary falls in the same lane cycle: an access that counts as issued in that cycle finds them cleared
(R107, R109). -/
def Dev.clearReady (d : Dev) (b : Nat) : Dev :=
  { d with chReady := d.chReady.filter (fun x =>
    let p := 4 * (b / 4) + bitsOf (d.exchDesc (b / 4) (x.1 % 256)) 0 2
    !(x.1 / 256 == b / 4 && (p == b || d.exchangeDue p))) }

/-- What the exchange boundary releases (R62, R109). -/
def Dev.releaseExchange (d : Dev) (b : Nat) : Dev :=
  match (d.lane b).held with
  | some (.phase .exchange) => d.release b d.now
  | some (.putEarly x sealing data) => d.doPut b x sealing data
  | some (.getEarly x) => d.doGet b x
  | _ => d

/-- What the commit boundary releases: a waiting lane, and a held COMMIT, which takes effect now (R62, R100). -/
def Dev.releaseCommit (d : Dev) (b : BlockId) : Dev :=
  match (d.lane b).held with
  | some (.phase .commit) => d.release b d.now
  | some (.commit leg cmd) => (d.commitLeg b (32 * (b.val / 4) + leg.val) cmd).release b (d.now + 1)
  | _ => d

/-- PHASE_BOUNDARY: the exchange phase, or with `commit` the commit phase begins (R60, R62, R107). -/
def execPhaseBoundary (b : BlockId) (commit : Bool) (s : State) : Host.Outcome State Fault Refusal :=
  let d := s.dev
  let l := d.lane b
  s.done (
    if commit then
      if l.phase = .exchange ∧ d.boundaryAt b F.RGN_PHASE1_commit ≤ d.now then
        (((d.setLane b { l with phase := .commit }).releaseCommit b).refCommit b).boundaryTriggers b 2
      else d
    else if l.phase = .compute ∧ d.boundaryAt b F.RGN_PHASE0_exchange ≤ d.now then
      (((d.setLane b { l with phase := .exchange }).clearReady b).releaseExchange b).boundaryTriggers b 1
    else d)

/-- Seal, or else withdraw, the unsealed commands that a lane committed (R63, R65). -/
def Dev.sealLane (d : Dev) (b : BlockId) (sealing : Bool) : Dev :=
  d.each ((List.range 32).map (fun j => 32 * (b.val / 4) + j)) (fun k d =>
    match (d.leg k).next with
    | some x =>
      if x.lane = b ∧ x.isSealed = false then
        d.setLeg k { d.leg k with next := if sealing then some { x with isSealed := true } else none }
      else d
    | none => d)

/-- A lane overruns: its commands are withdrawn and it returns to its entry; the second overrun in a row is a block fault
(R65, R66). -/
def Dev.laneOverrun (d : Dev) (b : BlockId) : Dev :=
  let l := d.lane b
  let d1 := (d.sealLane b false).setLane b { l.toDone with overrunLast := true }
  let d2 := ((d1.bump (blkReg b) F.BLK_OVR_count).setFld (blkReg b) F.BLK_OVR_last 1).raise Ev.LANE_OVERRUN (scopeBlk b) b.val
  if l.overrunLast then d2.blockFault b 0 else d2

/-- The lane at its commit point (R63, R65, R66). -/
def Dev.closeLane (d : Dev) (b : BlockId) : Dev :=
  let l := d.lane b
  if l.mode = .halted then d.sealLane b false
  else if l.completed then
    ((d.sealLane b true).setFld (blkReg b) F.BLK_OVR_last 0).setLane b { l with overrunLast := false }
  else d.laneOverrun b

/-- The window guard and the shed sequencers act for a unit once every block of its lane set is closed (R241, R245, R291). -/
def Dev.closeUnit (d : Dev) (r u : Nat) : Dev :=
  if (d.laneSet u).all (fun b => (d.lane b).phase == .closed) then
    (d.guardUnit r u).each [0, 1] (fun q d => if d.shedServes r q u then d.shedCommit r q else d)
  else d

/-- Registers of rainflow channel `n` of a region (R423). -/
def rfBase (r n : Nat) : Nat := rgnReg r + 8 * n

/-- A rainflow channel, and the reads its enabled channels owe since a commit point of the block (R422). -/
def Dev.rf (d : Dev) (r n : Nat) : RfChan := Store.get (fun _ => RfChan.initial) d.rfs (16 * r + n)
def Dev.setRf (d : Dev) (r n : Nat) (x : RfChan) : Dev :=
  { d with rfs := Store.set (fun _ => RfChan.initial) d.rfs (16 * r + n) x }
def Dev.rfDue (d : Dev) (b : Nat) : Dev :=
  d.each (List.range 16) (fun n d =>
    if d.flag (rfBase (b / 4) n) F.RF_CH_en && d.fld (rfBase (b / 4) n) F.RF_CH_blk == b % 4 then
      d.setRf (b / 4) n { d.rf (b / 4) n with dueFrom := some d.now }
    else d)

/-- COMMIT_POINT (R60, R63 to R66, R241, R291, R422, R488). -/
def execCommitPoint (b : BlockId) (s : State) : Host.Outcome State Fault Refusal :=
  let d := s.dev
  s.done (
    if (d.lane b).phase = .commit ∧ d.boundaryAt b F.RGN_PHASE1_commit_point ≤ d.now then
      let d1 := d.closeLane b
      let d2 := (d1.setLane b { d1.lane b with phase := .closed }).boundaryTriggers b 3
      let d3 := d2.each (d2.blockUnits b) (fun u d => d.closeUnit (b.val / 4) u)
      (d3.rfDue b).axlCommit b
    else d)

end Sys2Proof.Machine
end

