-- ==== Sys2Proof/Machine/Rainflow.lean ====
section
/-! DEFINITION. The rainflow channels of a region (R422, R423). -/

namespace Sys2Proof.Machine

/-- Add `n` halves of a cycle with the extremes `a` and `c`, in 1/16 °C, to its histogram bin, if its range is counted (R423). A
bin width of 0 leaves the index open; a word that cannot be read discards the cycle (R436). -/
def Dev.rfCount (d : Dev) (r n : Nat) (a c : Int) (halves : Nat) : Dev :=
  let range := (a - c).natAbs
  if 10 * range < 16 * d.fld (rfBase r n) F.RF_CH_dtmin then d
  else
    let x := d.takeFree
    let wide := d.fld (rgnReg r) F.RF_CFG_dt_w
    let step := d.fld (rgnReg r) F.RF_CFG_tm_w
    let low := signed 8 (d.fld (rgnReg r) F.RF_CFG_tm0)
    let i := if wide = 0 then x.1.toNat % 16 else min 15 (range / (8 * wide))
    let j := if step = 0 then x.1.toNat / 16 % 16 else (clampInt 0 15 ((a + c - 32 * low) / (32 * step))).toNat
    let word := rgnBase r + d.fld (rgnReg r) F.RF_BASE_addr * 1024 + 0x400 * n + 4 * (16 * i + j)
    let d1 := if wide = 0 ∨ step = 0 then x.2 else d
    match memKind word with
    | some (.regionRam _) | some (.exchange _) =>
      if d1.isBad word then d1.uncorrectable word else d1.storeN word 4 ((d1.loadN word 4 + halves) % 2 ^ 32)
    | _ => d1

/-- The four-point rule on a stack, the newest point first: the cycles found and the stack left (R422). -/
def fourPoint : Nat → List Int → List (Int × Int) × List Int
  | 0, l => ([], l)
  | k + 1, s4 :: s3 :: s2 :: s1 :: t =>
    if (s2 - s3).natAbs ≤ (s1 - s2).natAbs ∧ (s2 - s3).natAbs ≤ (s3 - s4).natAbs then
      let rest := fourPoint k (s4 :: s1 :: t)
      ((s2, s3) :: rest.1, rest.2)
    else ([], s4 :: s3 :: s2 :: s1 :: t)
  | _ + 1, l => ([], l)

/-- Keep a turning point: a full stack of 64 first gives up its oldest point as a half cycle, then the four-point rule counts
full cycles (R422). -/
def Dev.rfPush (d : Dev) (r n : Nat) (p : Int) : Dev :=
  let x := d.rf r n
  let full := decide (64 ≤ x.stack.length)
  let d1 :=
    if full then
      let e := (d.rfCount r n (x.stack.getLastD 0) (x.stack.dropLast.getLastD 0) 1)
      e.latchFld (rfBase r n) F.RF_STAT_ovf
    else d
  let f := fourPoint 32 (p :: if full then x.stack.dropLast else x.stack)
  let d2 := f.1.foldl (fun d c => (d.rfCount r n c.1 c.2 2).bumpWrap (rfBase r n) F.RF_STAT_cycles) d1
  (d2.setRf r n { d2.rf r n with stack := f.2 }).setFld (rfBase r n) F.RF_STAT_depth f.2.length

/-- One sample, in 1/16 °C: the running extreme moves with the signal, and a reversal by the hysteresis makes it a turning
point (R422). The first sample is an extreme from which the signal is taken to rise. -/
def Dev.rfSample (d : Dev) (r n : Nat) (v : Int) : Dev :=
  let x := d.rf r n
  match x.last with
  | none => d.setRf r n { x with last := some v }
  | some e =>
    if (x.up && decide (e ≤ v)) || (!x.up && decide (v ≤ e)) then d.setRf r n { x with last := some v }
    else if 16 * d.fld (rgnReg r) F.RF_CFG_hyst ≤ 10 * (v - e).natAbs then
      (d.setRf r n { x with last := some v, up := !x.up }).rfPush r n e
    else d

/-- The port of the data memory that a channel reads (R22, R423). -/
def Dev.rfPort (d : Dev) (r n : Nat) : Nat := 3 * (4 * r + d.fld (rfBase r n) F.RF_CH_blk) + 1

/-- RAINFLOW_SAMPLE: the read that an enabled channel owes since the commit point of its block, in a lane cycle in which nothing
has used the port of the data memory; else it waits on (R22, R422). -/
def execRainflowSample (r : RegionId) (n : Fin 16) (s : State) : Host.Outcome State Fault Refusal :=
  let d := s.dev
  s.done (match (d.rf r n).dueFrom with
    | none => d
    | some _ =>
      if d.portBusy (d.rfPort r n) then d
      else
      let d1 := (d.usePort (d.rfPort r n)).setRf r n { d.rf r n with dueFrom := none }
      let a := blkBase (4 * r + d.fld (rfBase r n) F.RF_CH_blk) + 0x40000 + d.fld (rfBase r n) F.RF_CH_addr / 2 * 2
      if d.flag (rfBase r n) F.RF_CH_en = false then d1
      else if d1.isBad a then d1.uncorrectable a
      else d1.rfSample r n (signed 16 (d1.loadN a 2)))

/-- Whether any rainflow channel of a region is enabled. -/
def Dev.rfAnyOn (d : Dev) (r : Nat) : Bool := (List.range 16).any (fun n => d.flag (rfBase r n) F.RF_CH_en)

/-- A write of a rainflow register: RF_CHn while its channel, RF_CFG and RF_BASE while any channel of the region is enabled, are
refused (R423). An enabled channel starts with an empty stack. -/
def Dev.writeRf (d : Dev) (m : Master) (r : Nat) (reg : RfReg) (v : Word) : Dev :=
  match reg with
  | .ch n =>
    if d.flag (rfBase r n) F.RF_CH_en then d.raise Ev.RF_CFG_REFUSED (scopeRgn r) 0
    else
      let d1 := d.plainWrite m (rfBase r n + 0x1E00) v
      if d1.flag (rfBase r n) F.RF_CH_en then
        (d1.setRf r n RfChan.initial).setFld (rfBase r n) F.RF_STAT_depth 0
      else d1
  | .cfg => if d.rfAnyOn r then d.raise Ev.RF_CFG_REFUSED (scopeRgn r) 0 else d.plainWrite m (rgnReg r + 0x1F00) v
  | .base => if d.rfAnyOn r then d.raise Ev.RF_CFG_REFUSED (scopeRgn r) 0 else d.plainWrite m (rgnReg r + 0x1F04) v

/-- RF_CFG_WRITE (R423). -/
def execRfCfgWrite (m : Master) (r : RegionId) (reg : RfReg) (v : Word) (s : State) :
    Host.Outcome State Fault Refusal := s.done (s.dev.writeRf m r reg v)

end Sys2Proof.Machine
end

