-- ==== Sys2Proof/Machine/Tags.lean ====
section
/-! DEFINITION. Module tags: bindings, authentication, polls, life accounting and the module-tag buses (R411 to R429, R476 to
R480). -/

namespace Sys2Proof.Machine

/-! ### Bindings -/

/-- The tag at the address of a binding. -/
def Dev.tagKey (d : Dev) (n : Nat) : Nat := 16 * d.fld (tagBase n) F.TAG_MAP_bus + d.fld (tagBase n) F.TAG_MAP_addr
def Dev.tagAt (d : Dev) (k : Nat) : Option ModuleTag := Store.get (fun _ => none) d.tags k
def Dev.setTagAt (d : Dev) (k : Nat) (t : Option ModuleTag) : Dev := { d with tags := Store.set (fun _ => none) d.tags k t }

/-- The states of TAG_STAT.state (R417). -/
abbrev tagUnbound : Nat := 0
abbrev tagAbsent : Nat := 1
abbrev tagPresent : Nat := 2
abbrev tagOk : Nat := 3
abbrev tagFail : Nat := 4
def Dev.tagState (d : Dev) (n : Nat) : Nat := d.fld (tagBase n) F.TAG_STAT_state

/-- A binding under resp = 1 whose tag is not authenticated runs at the tag derate (R418). -/
def Dev.derated (d : Dev) (n : Nat) : Bool :=
  d.tagBound n && d.fld (tagBase n) F.TAG_MAP_resp == 1 && d.tagState n != tagOk

/-- The factor of a unit: the smallest life factor over its bindings, times the tag derate where a binding runs under it (R426). -/
def Dev.unitFactor (d : Dev) (u : Nat) : Nat :=
  let ns := (List.range 32).filter (fun n => d.bindsUnit n u)
  let f := ns.foldl (fun f n => min f (d.bind n).factor) 0x8000
  if ns.any (fun n => d.derated n) then f * d.fld 0 F.LIFE_FMIN_tag_derate / 0x8000 else f

/-- A limit rescaled from an old factor to a new one. -/
def rescaled (v old new : Nat) : Nat := if old = 0 then v else v * new / old

/-- The life service writes a command record anew with some words changed (R227, R427). -/
def Dev.writeRecord (d : Dev) (b u words : Nat) (changes : List (Nat × Nat)) : Dev :=
  let a := commandBase b
  let seq := ((d.prog u).seq + 1).toNat
  let put := fun (d : Dev) (x : Nat × Nat) => (d.memWrite 0 (a + x.1) 4 x.2).2
  (((0, seq) :: changes) ++ [(4 * (words - 1), seq)]).foldl put d

/-- The life service brings a new factor of a unit into force: new limits in the command record of traction and auxiliary
inverter units, dac_max in the inactive table bank of converter units, the session's current limit in the command record of PFC
and DAB units. PRESUMED: that limit is the word at +0x0C (R427, assumption 97). -/
def Dev.applyFactor (d : Dev) (u old new : Nat) : Dev :=
  if old = new then d
  else match d.leadOf u (fun _ => true) with
    | some b =>
      let scaled := fun (off : Nat) => (off, rescaled (d.loadN (commandBase b + off) 4) old new)
      if isTraction (d.unitClass u) then d.writeRecord b u 7 [scaled 0x10, scaled 0x14]
      else if d.unitClass u = 2 then d.writeParam b 0x10 16 10 (rescaled (d.paramBits b 0x10 16 10) old new)
      else if d.unitClass u = 4 ∨ d.unitClass u = 5 then d.writeRecord b u 5 [scaled 0xC]
      else d
    | none => d

/-- TAG_FACTn.factor: the tag derate for as long as it applies, else the life factor (R418, R426). -/
def Dev.showFactor (d : Dev) (n : Nat) : Dev :=
  d.setFld (tagBase n) F.TAG_FACT_factor (if d.derated n then d.fld 0 F.LIFE_FMIN_tag_derate else (d.bind n).factor)

/-- A change at binding `n` with what it does to the factor of its unit (R418, R427). -/
def Dev.withFactor (d : Dev) (n : Nat) (f : Dev → Dev) : Dev :=
  let d1 := f d
  let u := d1.fld (tagBase n) F.TAG_MAP_unit
  (d1.showFactor n).applyFactor u (d.unitFactor u) (d1.unitFactor u)

/-- Six words of the thermal record of a binding's module, from offset 0, written into the inactive table bank of the lead lane, which
racks them in (R83, R421). -/
def Dev.writeThermal (d : Dev) (n : Nat) (words : List Nat) : Dev :=
  match d.leadLane (d.fld (tagBase n) F.TAG_MAP_unit) with
  | none => d
  | some b =>
    let a := blkBase b + 0x80000 + (1 - d.activeBank (b / 4)) * 0x8000 + 0x4200 + 0x20 * d.fld (tagBase n) F.TAG_MAP_module
    ((List.range 6).zip words).foldl (fun d x => (d.memWrite 0 (a + 4 * x.1) 4 x.2).2) d

/-- A binding whose tag is not in AUTH_OK uses the default of the calibration Cask, whose layout the spec does not give: free words
(R421). -/
def Dev.defaultThermal (d : Dev) (n : Nat) : Dev :=
  { d with free := d.free + 6 }.writeThermal n ((List.range 6).map (fun i => (Config.freeWord (d.free + i)).toNat))

/-- Enter a state of a binding; the tag derate applies for as long as it must, and a bound tag that leaves AUTH_OK or begins without
it gives way to the default (R417, R418, R421). -/
def Dev.setTagState (d : Dev) (n st : Nat) : Dev :=
  let old := d.tagState n
  let d1 := d.withFactor n (fun d => d.setFld (tagBase n) F.TAG_STAT_state st)
  if st ≠ tagOk ∧ st ≠ tagUnbound ∧ (old = tagOk ∨ old = tagUnbound) then d1.defaultThermal n else d1

/-- The serial in an identity record. -/
def tagSerial (t : ModuleTag) : List Byte := fitted 16 (cut t.id 0x18 16)

/-- The unit a binding serves. -/
def Dev.tagUnit (d : Dev) (n : Nat) : Nat := d.fld (tagBase n) F.TAG_MAP_unit

/-- Whether two words of TAG_MAP are valid bindings of one address, or of one module of a unit (R411). -/
def mapsClash (v w : Nat) : Bool :=
  bitOf v 31 && bitOf w 31 && ((bitOf v 0 == bitOf w 0 && bitsOf v 4 4 == bitsOf w 4 4) ||
    (bitsOf v 8 5 == bitsOf w 8 5 && bitsOf v 16 4 == bitsOf w 16 4))

/-- A write of TAG_MAPn: refused while a unit it binds, before or after, is not DISABLED, and for a duplicate (R411). -/
def Dev.writeTagMap (d : Dev) (m : Master) (n : Nat) (v : Word) : Dev :=
  let a := 0x40030400 + 0x10 * n
  d.guarded m a (fun d =>
    let old := (d.reg a).toNat
    let runs := fun (w : Nat) => bitOf w 31 && (d.unit (bitsOf w 8 5)).st != .disabled
    let clash := (List.range 32).any (fun j => j != n && mapsClash v.toNat (d.reg (0x40030400 + 0x10 * j)).toNat)
    if runs old || runs v.toNat || clash then d.raise Ev.TAG_CFG_REFUSED scopeChip 0
    else
      let d0 := d.withFactor n (fun d => d.plainWrite m a v)
      let d1 := d0.setBind n { d0.bind n with
        polledAt := some ((d0.bind n).polledAt.getD d0.now), servedAt := some ((d0.bind n).servedAt.getD d0.now),
        steppedAt := some ((d0.bind n).steppedAt.getD d0.now) }
      if bitOf v.toNat 31 = false then d1.setTagState n tagUnbound
      else if bitOf old 31 && bitOf old 0 == bitOf v.toNat 0 && bitsOf old 4 4 == bitsOf v.toNat 4 4 then d1
      else d1.setTagState n tagAbsent)

/-- TAG_MAP_WRITE (R411). -/
def execTagMapWrite (m : Master) (n : Fin 32) (v : Word) (s : State) : Host.Outcome State Fault Refusal :=
  s.done (s.dev.writeTagMap m n v)

/-! ### Life values (R413, R425) -/

/-- The values of a life record. -/
def lifeValues (serial l : List Byte) : LifeCopy :=
  ⟨serial, cutNat l 0xC 4 * 2 ^ 32 + cutNat l 0x28 4, cutNat l 0x10 4, cutNat l 0x14 4⟩

/-- The newest Cellar copy for a serial, with all values 0 where there is none. -/
def Dev.lifeCopy (d : Dev) (serial : List Byte) : LifeCopy :=
  (d.vault.life.find? (fun c => c.serial == serial)).getD ⟨serial, 0, 0, 0⟩

/-- The name under which a binding keeps its accounting: the serial last authenticated, or else the binding itself (R425). -/
def Dev.lifeName (d : Dev) (n : Nat) : List Byte :=
  if (d.bind n).serial.isEmpty then [BitVec.ofNat 8 n] else (d.bind n).serial

/-- The values in use of a binding: the largest of its tag record, its Cellar copy and its own accumulator (R425). -/
def Dev.lifeInUse (d : Dev) (n : Nat) : LifeCopy :=
  let x := d.bind n
  let c := d.lifeCopy (d.lifeName n)
  ⟨d.lifeName n, max x.tag.consumed (max c.consumed x.acc), max x.tag.seconds (max c.seconds x.seconds),
    max x.tag.distance (max c.distance x.distance)⟩

/-- The allocated life in 2^-32 (R426); with a design life of 0 its value is open. -/
def Dev.allocated (d : Dev) (x : LifeCopy) : Nat :=
  let h := d.fld 0 F.LIFE_HOURS_hours
  let k := d.fld 0 F.LIFE_KM_km
  if h = 0 ∨ k = 0 then (Config.freeWord d.free).toNat
  else min (x.seconds * 2 ^ 32 / (3600 * h)) (x.distance * 2 ^ 32 / (10 * k))

/-- Show consumed and allocated life (R411, R425, R426). -/
def Dev.showLife (d : Dev) (n : Nat) : Dev :=
  let x := d.lifeInUse n
  let a := d.allocated x
  let d1 := (d.setFld (tagBase n) F.TAG_LIFE_consumed (min (x.consumed / 2 ^ 32) 0xFFFFFFFF)).setFld (tagBase n) F.TAG_FACT_alloc
    (min (a / 2 ^ 17) 0xFFFF)
  { d1 with free := d1.free + 1 }

/-! ### Authentication (R415 to R421) -/

/-- The maker key of an anchor index, where the table names it and has not revoked it (R416). -/
def Dev.makerKey (d : Dev) (i : Nat) : Option (List Byte) :=
  match d.cellar.anchors.find? (fun x => x.1 == i) with
  | some (_, false, key) => some key
  | _ => none

/-- What a tag signs in PROVE. -/
def proofText (nonce : List Byte) (t : ModuleTag) : List Byte := nonce ++ t.id ++ t.life

/-- The signature that a tag returns for a nonce (R415, R478). -/
def Dev.tagProof (d : Dev) (nonce : List Byte) (t : ModuleTag) : List Byte × Dev := d.signWith t.key (proofText nonce t)

/-- The conditions of R415 for a tag, a nonce and its signature. -/
def Dev.tagPasses (d : Dev) (nonce sig : List Byte) (t : ModuleTag) : Bool :=
  let maker := match d.makerKey (cutNat t.id 6 2) with
    | some key => verifies key (t.id.take 0xC0) (cut t.id 0xC0 64)
    | none => false
  maker && verifies (cut t.id 0x80 64) (proofText nonce t) sig && cutNat t.id 4 2 == 1 && cutNat t.id 0x3A 2 == 0 &&
    cutNat t.id 0x56 42 == 0

/-- Whether an endorsement verifies against an owner key this device holds. The record does not carry the serial of the
writer's device, which the endorsement signs: the outcome is open (R402, R420). -/
def Dev.endorsedRecord (d : Dev) : Bool := d.vault.endorsement.isSome && Config.freeBool d.free

/-- The class of the writer of a life record (R420). -/
def Dev.trustOf (d : Dev) (l : List Byte) : Nat :=
  let ok := verifies (cut l 0x40 64) (l.take 0xC0) (cut l 0xC0 64)
  if cutNat l 8 4 = 0 then 0
  else if ok && d.vault.identity.isSome && cut l 0x40 64 == d.idKey then 1
  else if ok && d.endorsedRecord then 2
  else 3

/-- The first six words of the thermal record of a module, from its tag (R412, R421). -/
def thermalWords (t : ModuleTag) (sub : Nat) : List Nat :=
  let half := fun i => cutNat t.id i 2
  let a := fun k => (Config.cellDecay (half (0x3C + 4 * k + 2)) sub).toNat
  let rth := fun k => half (0x3C + 4 * k)
  let two := fun (x y : Nat) => x + 65536 * y
  [two (a 0) (a 1), two (a 2) (a 3), two (rth 0) (rth 1), two (rth 2) (rth 3), two (half 0x4C) (half 0x4E),
    two (half 0x50) (half 0x52)]

/-- The life service rebuilds the thermal record of a binding from its tag (R421). -/
def Dev.tagThermal (d : Dev) (n : Nat) (t : ModuleTag) : Dev :=
  match d.leadLane (d.tagUnit n) with
  | none => d
  | some b => d.writeThermal n (thermalWords t (d.subLen b))

/-- A binding for a tag with a new serial: its accounting starts anew, and the counts since a LIFE_WRITE that found the unit DISABLED
are still to be read, for it (R425, R537). -/
def Binding.swapped (x : Binding) : Binding :=
  { x with acc := 0, seconds := 0, distance := 0, cycles := 0, peak := 0, hist := x.mark.getD x.hist, mark := none }

/-- A tag is authenticated: its class, its values and its coefficients are taken over (R417, R419, R420, R425). -/
def Dev.tagAccepted (d : Dev) (n : Nat) (t : ModuleTag) : Dev :=
  let serial := tagSerial t
  let trust := d.trustOf t.life
  let x := d.bind n
  let x1 := if x.serial = serial then x else x.swapped
  let d1 := (d.setTagState n tagOk).setFld (tagBase n) F.TAG_STAT_trust trust
  let d2 := { d1 with free := d1.free + 1 }.setBind n
    { x1 with missed := 0, serial := serial, tag := lifeValues serial t.life, coeff := cut t.id 0x2C 16,
              cycles := max x1.cycles (cutNat t.life 0x1C 4), peak := max x1.peak (signed 16 (cutNat t.life 0x18 2)) }
  let d3 := if trust = 3 then d2.raise Ev.TAG_LIFE_FOREIGN scopeChip 0 else d2
  (d3.tagThermal n t).showLife n

/-- An authentication that fails (R417). -/
def Dev.tagRefused (d : Dev) (n : Nat) : Dev :=
  ((d.setTagState n tagFail).bump (tagBase n) F.TAG_STAT_fails).raise Ev.TAG_AUTH_FAIL scopeChip 0

/-- Whether a tag's serial differs from the one last authenticated at its binding (R419). -/
def Dev.tagSwapped (d : Dev) (n : Nat) (t : ModuleTag) : Bool :=
  !(d.bind n).serial.isEmpty && (d.bind n).serial != tagSerial t

/-- Raise TAG_SWAP, once for a new tag, and hold it in PRESENT (R419). -/
def Dev.noteSwap (d : Dev) (n : Nat) : Dev :=
  if d.tagState n = tagPresent then d else (d.setTagState n tagPresent).raise Ev.TAG_SWAP scopeChip 0

/-- Authenticate the tag of a binding; the code of the command. A new tag of a unit that is not DISABLED stays in PRESENT
(R415, R419). -/
def Dev.tagAuthNow (d : Dev) (n : Nat) : Nat × Dev :=
  if n < 32 ∧ d.tagBound n = true then
    match d.tagAt (d.tagKey n) with
    | none => (0x0D, d.tagRefused n)
    | some t =>
      let swapped := d.tagSwapped n t
      let d0 := if swapped then d.noteSwap n else d
      if swapped && (d0.unit (d0.tagUnit n)).st != .disabled then (0x0A, d0)
      else
        let nonce := d0.trng 32
        let sig := nonce.2.tagProof nonce.1 t
        if sig.2.tagPasses nonce.1 sig.1 t then (0, sig.2.tagAccepted n t) else (0x0D, sig.2.tagRefused n)
  else (0x0D, d)

/-- The same; a failure during start-up is one of step 6 (R518). -/
def Dev.tagAuth (d : Dev) (n : Nat) : Nat × Dev :=
  let r := d.tagAuthNow n
  (r.1, if r.1 = 0 then r.2 else r.2.startupFail 6 none)

/-- TAG_AUTH (R415). -/
def execTagAuth (m : Master) (n : BitVec 16) (s : State) : Host.Outcome State Fault Refusal :=
  s.done (s.dev.celCmd m 9 (fun d => let r := d.tagAuth n.toNat; (some r.1, r.2)))

/-- TAG_POLL: what is fitted at the address of a binding answers STATUS, or does not (R417, R419). A tag that reappears or has
waited in PRESENT for its unit to be DISABLED is authenticated. -/
def execTagPoll (n : Fin 32) (tag : Option ModuleTag) (s : State) : Host.Outcome State Fault Refusal :=
  let d0 := s.dev.setTagAt (s.dev.tagKey n) tag
  let d := d0.setBind n { d0.bind n with polledAt := some d0.now }
  s.done (
    if !s.dev.tagBound n then s.dev
    else match tag with
      | none =>
        let missed := min 3 ((d.bind n).missed + 1)
        let d1 := d.setBind n { d.bind n with missed := missed }
        if missed = 3 ∧ d1.tagState n ≠ tagAbsent then (d1.setTagState n tagAbsent).raise Ev.TAG_LOST scopeChip 0 else d1
      | some t =>
        let d1 := d.setBind n { d.bind n with missed := 0 }
        let d2 := if d1.tagSwapped n t then d1.noteSwap n
          else if d1.tagState n = tagAbsent then d1.setTagState n tagPresent else d1
        if d2.tagState n = tagPresent then (d2.tagAuth n).2 else d2)

/-! ### Life accounting (R422 to R427) -/

/-- The rainflow channel that counts for a module: the one of the lead lane's region that samples its junction temperature
(R421, R422). -/
def Dev.rfOf (d : Dev) (n : Nat) : Option (Nat × Nat) :=
  match d.leadLane (d.tagUnit n) with
  | none => none
  | some b =>
    ((List.range 16).find? (fun c => d.flag (rfBase (b / 4) c) F.RF_CH_en && d.fld (rfBase (b / 4) c) F.RF_CH_blk == b % 4 &&
      d.fld (rfBase (b / 4) c) F.RF_CH_addr == 0x3FD00 + 2 * d.fld (tagBase n) F.TAG_MAP_module)).map (fun c => (b / 4, c))

/-- A word of the histogram of a rainflow channel. -/
def Dev.histWord (d : Dev) (r c i : Nat) : Nat :=
  d.loadN (rgnBase r + d.fld (rgnReg r) F.RF_BASE_addr * 1024 + 0x400 * c + 4 * i) 4

/-- The damage of bin `16 i + j` for the coefficients of a module: range in 0.25 °C, mean in 0.5 °C at the bin's centre (R423,
R424). -/
def Dev.binDamage (d : Dev) (r k : Nat) (coeff : List Byte) : Nat :=
  Config.cycleDamage coeff ((2 * (k / 16) + 1) * d.fld (rgnReg r) F.RF_CFG_dt_w : Nat)
    (2 * signed 8 (d.fld (rgnReg r) F.RF_CFG_tm0) + ((2 * (k % 16) + 1) * d.fld (rgnReg r) F.RF_CFG_tm_w : Nat))

/-- The life consumed since the last read of a histogram, with the histogram as read (R424). -/
def Dev.newDamage (d : Dev) (n r c : Nat) : Nat × Store Word :=
  let x := d.bind n
  let now := fun k => d.histWord r c k
  let delta := fun k => (now k + 2 ^ 32 - (Store.get zeroWord x.hist k).toNat) % 2 ^ 32
  (((List.range 256).map (fun k => delta k * d.binDamage r k x.coeff)).sum / 2,
    (List.range 256).foldl (fun m k => Store.set zeroWord m k (BitVec.ofNat 32 (now k))) [])

/-- The junction temperature that the program of a binding's unit has stored, in 0.1 °C, and the full cycles that its rainflow channel
has counted (R421, R423). -/
def Dev.junction (d : Dev) (n : Nat) : Option Int :=
  (d.leadLane (d.tagUnit n)).map (fun b => signed 16 (d.loadN (blkBase b + 0x7FD00 + 2 * d.fld (tagBase n) F.TAG_MAP_module) 2) * 10 / 16)
def Dev.cyclesOf (d : Dev) (n : Nat) : Nat :=
  match d.rfOf n with
  | some (r, c) => d.fld (rfBase r c) F.RF_STAT_cycles
  | none => (d.bind n).cyclesAt

/-- The life service reads the histogram of a binding: the life consumed since its last read is added, with the cycles counted and the
peak temperature (R424). How operating seconds and distance are counted is open: at most 10 s and any distance are added for a
unit in RUN. While its unit is not DISABLED no module is being replaced (R537). -/
def Dev.readLife (d : Dev) (n : Nat) : Dev :=
  let x := d.bind n
  let f := d.takeFree
  let g := f.2.takeFree
  let st := (d.unit (d.tagUnit n)).st
  let runs := st == .run
  let new := match d.rfOf n with
    | some (r, c) => d.newDamage n r c
    | none => (0, x.hist)
  let d1 := (if runs then g.2 else d).setBind n { x with
    acc := min (x.acc + new.1) (2 ^ 64 - 1), hist := new.2, mark := if st = .disabled then x.mark else none,
    seconds := x.seconds + (if runs then f.1.toNat % 11 else 0), distance := x.distance + (if runs then g.1.toNat else 0),
    cycles := x.cycles + (d.cyclesOf n + 65536 - x.cyclesAt) % 65536, cyclesAt := d.cyclesOf n,
    peak := max x.peak ((d.junction n).getD x.peak), servedAt := some d.now }
  d1.showLife n

/-- LIFE_SERVICE_UPDATE (R424). -/
def execLifeServiceUpdate (n : Fin 32) (s : State) : Host.Outcome State Fault Refusal :=
  s.done (if s.dev.tagBound n then s.dev.readLife n else s.dev)

/-- Keep two copies of each serial: the new one replaces the older (R425). -/
def keepLife (x : LifeCopy) (l : List LifeCopy) : List LifeCopy :=
  let same := l.filter (fun c => c.serial == x.serial)
  x :: (same.take 1 ++ l.filter (fun c => c.serial != x.serial))

/-- LIFE_STORE: the life state in the request holds consumed life, high word, operating seconds, distance and consumed life,
low word, 4 bytes each (R425; the layout is that of R413, PRESUMED, assumption 62). -/
def Dev.lifeStore (d : Dev) (n : Nat) : Option Nat × Dev :=
  let l := d.request 0 16
  let x : LifeCopy := ⟨d.lifeName n, cutNat l 0 4 * 2 ^ 32 + cutNat l 12 4, cutNat l 4 4, cutNat l 8 4⟩
  let old := d.lifeCopy (d.lifeName n)
  d.celCheck (firstCode [(decide (d.celLen < 16), 4), (decide (32 ≤ n) || !d.tagBound n, 0xD),
    (decide (x.consumed < old.consumed ∨ x.seconds < old.seconds ∨ x.distance < old.distance), 0xF)])
    (fun d => { d with vault := { d.vault with life := keepLife x d.vault.life } }.showLife n)

/-- LIFE_STORE. -/
def execLifeStore (m : Master) (n : BitVec 16) (s : State) : Host.Outcome State Fault Refusal :=
  s.done (s.dev.celCmd m 0x0A (fun d => d.lifeStore n.toNat))

/-- Whether a tag takes a life record in place of its own (R414). -/
def tagTakes (t : ModuleTag) (l : List Byte) : Bool :=
  let old := lifeValues [] t.life
  let new := lifeValues [] l
  cutNat l 8 4 == cutNat t.life 8 4 + 1 && decide (old.consumed ≤ new.consumed ∧ old.seconds ≤ new.seconds ∧
    old.distance ≤ new.distance) && fitted 16 (cut l 0x30 16) == tagSerial t

/-- The life record that the Cellar builds for a tag (R413, R425). -/
def Dev.lifeRecord (d : Dev) (n : Nat) (t : ModuleTag) : List Byte × Dev :=
  let x := d.lifeInUse n
  let word := fun (v : Nat) => leBytes 4 v
  let body := ascii "LIFE" ++ word 1 ++ word (cutNat t.life 8 4 + 1) ++ word (x.consumed / 2 ^ 32) ++ word (min x.seconds 0xFFFFFFFF) ++
    word (min x.distance 0xFFFFFFFF) ++ word (lowBits 16 (d.bind n).peak) ++ word ((d.bind n).cycles % 2 ^ 32) ++ leBytes 8 d.ns.toNat ++
    word (x.consumed % 2 ^ 32) ++ word 0 ++ tagSerial t ++ d.idKey ++
    (match d.vault.endorsement with | some e => fitted 64 e.1 | none => fitted 64 [])
  let sig := d.signWith (d.vault.identity.getD []) body
  (body ++ sig.1, sig.2)

/-- LIFE_WRITE: the life service reads the histogram first, the tag is authenticated again, then its record is built, signed and
written. With the unit DISABLED the counts from here on may be those of a new module (R425, R537). -/
def Dev.lifeWrite (d : Dev) (n : Nat) : Option Nat × Dev :=
  if d.vault.identity.isNone then (some 0xC, d)
  else
    let r := (if n < 32 ∧ d.tagBound n = true then d.readLife n else d).tagAuth n
    match r.1, r.2.tagAt (r.2.tagKey n) with
    | 0, some t =>
      let l := r.2.lifeRecord n t
      if tagTakes t l.1 then (some 0, (l.2.setTagAt (l.2.tagKey n) (some { t with life := l.1 })).setBind n
        { l.2.bind n with
          tag := lifeValues (tagSerial t) l.1,
          mark := if (d.unit (d.tagUnit n)).st = .disabled then some (l.2.bind n).hist else none })
      else (some 0xF, l.2)
    | c, _ => (some c, r.2)

/-- LIFE_WRITE. -/
def execLifeWrite (m : Master) (n : BitVec 16) (s : State) : Host.Outcome State Fault Refusal :=
  s.done (s.dev.celCmd m 0x0B (fun d => d.lifeWrite n.toNat))

/-- The target factor of a binding (R426), rounded down. -/
def Dev.targetFactor (d : Dev) (n : Nat) : Nat :=
  let x := d.lifeInUse n
  let e : Int := ((x.consumed / 2 ^ 32 : Nat) : Int) - d.allocated x
  let margin : Int := d.fld 0 F.LIFE_MARGIN_margin
  let band : Int := d.fld 0 F.LIFE_BAND_band
  let fmin := d.fld 0 F.LIFE_FMIN_f_min
  if e ≤ margin then 0x8000
  else if margin + band ≤ e then fmin
  else (0x8000 - ((0x8000 - (fmin : Int)) * (e - margin) + band - 1) / band).toNat

/-- Whether a minute has passed since the last step of a binding's life factor (R426). -/
def Dev.factorDue (d : Dev) (n : Nat) : Bool :=
  d.tagBound n && match (d.bind n).steppedAt with
    | some t => decide (t + 60 * cyclesPerSecond ≤ d.now)
    | none => true

/-- LIFE_FACTOR_STEP: once a minute the life factor of a binding moves towards its target by at most 0x0148 (R426, R427). -/
def execLifeFactorStep (n : Fin 32) (s : State) : Host.Outcome State Fault Refusal :=
  let d := s.dev
  let f := (d.bind n).factor
  let t := d.targetFactor n
  let next := if f ≤ t then min t (f + 0x148) else max t (f - 0x148)
  s.done (
    if d.factorDue n then
      { d with free := d.free + 1 }.withFactor n (fun d => d.setBind n { d.bind n with factor := next, steppedAt := some d.now })
    else d)

/-- Whether the tag of a binding is to be polled again, and its histogram to be read again (R417, R424). -/
def Dev.pollDue (d : Dev) (n : Nat) : Bool :=
  d.tagBound n && match (d.bind n).polledAt with
    | some t => decide (t + cyclesPerSecond ≤ d.now)
    | none => true
def Dev.lifeDue (d : Dev) (n : Nat) : Bool :=
  d.tagBound n && match (d.bind n).servedAt with
    | some t => decide (t + 10 * cyclesPerSecond ≤ d.now)
    | none => true

/-! ### Module-tag buses (R476 to R480) -/

/-- A bus, and the registers of its port. -/
def Dev.mtb (d : Dev) (i : Nat) : MtbBus := Store.get (fun _ => MtbBus.initial) d.mtbs i
def mtbReg (i : Nat) : Nat := portReg (20 + i)

/-- Replace a bus; MTB_STAT shows what runs and waits. -/
def Dev.setMtb (d : Dev) (i : Nat) (x : MtbBus) : Dev :=
  (({ d with mtbs := Store.set (fun _ => MtbBus.initial) d.mtbs i x } : Dev).setFld (mtbReg i) F.MTB_STAT_busy
    (flagBit x.run.isSome)).setFld (mtbReg i) F.MTB_STAT_pend (flagBit (x.fw.isSome || x.own.isSome))

/-- Start the next pending command of an idle bus whose port is enabled, the Cellar's first, once the guard time is over (R476,
R479). -/
def Dev.mtbNext (d : Dev) (i : Nat) : Dev :=
  let x := d.mtb i
  let go := fun (y : MtbBus) (t : MtbTxn) => (d.setMtb i { y with run := some { t with since := d.now } }).bump (mtbReg i) F.PORT_CNT2_tx
  if x.run.isSome || !d.flag (mtbReg i) F.PORT_CTRL_en || decide (d.now < x.freeAt) then d
  else match x.own, x.fw with
    | some t, _ => go { x with own := none } t
    | none, some t => go { x with fw := none } t
    | none, none => d

/-- A write of MTB_CMD or, by the Cellar, of MTB_SCMD: PROVE and WRITE_LIFE belong to the Cellar; a command whose predecessor
has not finished is ignored (R479). -/
def Dev.mtbCommand (d : Dev) (cellar : Bool) (i op addr : Nat) (payload : List Byte) : Dev :=
  let x := d.mtb i
  let runs := match x.run with | some t => t.cellar == cellar | none => false
  let waits := if cellar then x.own.isSome else x.fw.isSome
  if !cellar && (op == 4 || op == 5) then d.raise Ev.MTB_REFUSED (scopePort (20 + i)) 0
  else if runs || waits then d.raise Ev.MTB_BUSY (scopePort (20 + i)) 0
  else
    let t : MtbTxn := ⟨cellar, op, addr, payload, d.now⟩
    (d.setMtb i (if cellar then { x with own := some t } else { x with fw := some t })).mtbNext i

/-- The buses whose guard time is over start what is pending (R476, R479). -/
def Dev.mtbGuards (d : Dev) : Dev :=
  d.each ((d.mtbs.filter (fun x => x.2.run.isNone && (x.2.own.isSome || x.2.fw.isSome))).map (fun x => x.1)) (fun i d => d.mtbNext i)

/-- A CRC-16 of R477 over the bytes after the sync, the high byte first; a request; and a response. -/
def mtbCrc (l : List Byte) : List Byte := beBytes 2 (crcMsb 16 0x1021 0xFFFF l)
def mtbHeader (op addr : Nat) : Byte := BitVec.ofNat 8 (16 * op + addr % 16)
def mtbRequest (x : MtbTxn) : List Byte :=
  let l := mtbHeader x.op x.addr :: leBytes 2 x.payload.length ++ x.payload
  0x55 :: l ++ mtbCrc l
def mtbResponse (header : Byte) (status : Nat) (payload : List Byte) : List Byte :=
  let l := header :: BitVec.ofNat 8 status :: leBytes 2 payload.length ++ payload
  0x55 :: l ++ mtbCrc l

/-- What the controller makes of a response: 1 for a CRC that does not hold, 2 for another wrong header, else the status and the
payload (R477, R479). -/
def mtbTake (header : Byte) (l : List Byte) : Nat ⊕ (Nat × List Byte) :=
  let body := (l.drop 1).take (l.length - 3)
  if l.length < 7 ∨ l.drop (l.length - 2) ≠ mtbCrc body then .inl 1
  else if l.take 2 ≠ [0x55, header] ∨ cutNat l 3 2 ≠ l.length - 7 then .inl 2
  else .inr (cutNat l 2 1, (l.drop 5).take (l.length - 7))

/-- MTBn_DE: high while a request is sent, to 1 bit after its last stop bit (R476). DESIGN CHOICE: the first start bit stands where
DE goes high (assumption 99). -/
def Dev.mtbDe (d : Dev) (i : Nat) : Bool :=
  match (d.mtb i).run with
  | some x => decide (d.now < x.since + 800 * (10 * (6 + x.payload.length) + 1))
  | none => false

/-- STATUS (R478). -/
def execStatus (m : Master) (bus : Fin 2) (addr : Fin 16) (s : State) : Host.Outcome State Fault Refusal :=
  s.done (s.dev.mtbCommand (m.id == 5) bus 1 addr [])

/-- READ_ID (R478). -/
def execReadId (m : Master) (bus : Fin 2) (addr : Fin 16) (s : State) : Host.Outcome State Fault Refusal :=
  s.done (s.dev.mtbCommand (m.id == 5) bus 2 addr [])

/-- READ_LIFE (R478). -/
def execReadLife (m : Master) (bus : Fin 2) (addr : Fin 16) (s : State) : Host.Outcome State Fault Refusal :=
  s.done (s.dev.mtbCommand (m.id == 5) bus 3 addr [])

/-- PROVE (R478). -/
def execProve (m : Master) (bus : Fin 2) (addr : Fin 16) (nonce : List Byte) (s : State) :
    Host.Outcome State Fault Refusal := s.done (s.dev.mtbCommand (m.id == 5) bus 4 addr nonce)

/-- WRITE_LIFE (R414, R478). -/
def execWriteLife (m : Master) (bus : Fin 2) (addr : Fin 16) (record : List Byte) (s : State) :
    Host.Outcome State Fault Refusal := s.done (s.dev.mtbCommand (m.id == 5) bus 5 addr record)

/-- What a tag does for a request: its status, its response payload, and the tag afterwards (R414, R477, R478). -/
def Dev.tagAnswer (d : Dev) (t : ModuleTag) (op : Nat) (payload : List Byte) : Nat × List Byte × ModuleTag × Dev :=
  match op with
  | 1 => (0, tagSerial t ++ fitted 4 (cut t.life 8 4), t, d)
  | 2 => (0, t.id, t, d)
  | 3 => (0, t.life, t, d)
  | 4 =>
    let sig := d.tagProof payload t
    (0, t.life ++ sig.1, t, sig.2)
  | 5 => if tagTakes t payload then (0, [], { t with life := payload }, d) else (1, [], t, d)
  | _ => (3, [], t, d)

/-- A word of a list of bytes. -/
def wordOf (l : List Byte) (i : Nat) : Word := BitVec.ofNat 32 (cutNat l (4 * i) 4)

/-- Put a response payload of the firmware into the chip's indirect space (R479, R502). -/
def Dev.putResponse (d : Dev) (i : Nat) (l : List Byte) : Dev :=
  d.each (List.range ((l.length + 3) / 4)) (fun k d => d.indSet (0x2400 + 0x800 * i + 4 * k) (wordOf l k))

/-- End the transaction of a bus with a code, the tag's status and the response length (R479, R480). -/
def Dev.mtbEnd (d : Dev) (i code status len : Nat) : Dev :=
  let d1 := ((d.setFld (mtbReg i) F.MTB_STAT_code code).setFld (mtbReg i) F.MTB_STAT_tstat status).setFld (mtbReg i) F.MTB_STAT_rlen len
  let d2 := if code = 0 then d1 else d1.setFld (mtbReg i) F.PORT_STAT_code code
  (d2.setMtb i { d2.mtb i with run := none, freeAt := d2.now + d2.fld (mtbReg i) F.MTB_CFG_guard * cyclesPerUs }).mtbNext i

/-- MTB_RESPONSE_END: the response of the addressed tag completes, as the tag sent it or as the bytes `line` that arrived instead; a
tag that heard a request with a bad CRC says so and does nothing. A response with a bad CRC or a wrong header ends with code 2, a
tag status other than 0 with code 3 (R477, R479). Without a tag there is no response, nor in loopback (R461). -/
def execMtbResponseEnd (bus : Fin 2) (heard : Bool) (line : Option (List Byte)) (s : State) : Host.Outcome State Fault Refusal :=
  let d := s.dev
  let i := bus.val
  s.done (match (d.mtb i).run with
    | none => d
    | some x =>
      match d.tagAt (16 * i + x.addr) with
      | none => d
      | some t =>
        let r := if heard then d.tagAnswer t x.op x.payload else (2, [], t, d)
        let d1 := r.2.2.2.setTagAt (16 * i + x.addr) (some r.2.2.1)
        let header := mtbHeader x.op x.addr
        if d.flag (mtbReg i) F.PORT_CTRL_loop then d
        else match mtbTake header (line.getD (mtbResponse header r.1 r.2.1)) with
          | .inr (status, payload) =>
            let d2 := (if x.cellar then d1 else d1.putResponse i payload).bump (mtbReg i) F.PORT_CNT_rx
            d2.mtbEnd i (if status = 0 then 0 else 3) status payload.length
          | .inl bad =>
            ((if bad = 1 then d1.bump (mtbReg i) F.MTB_CNT_crc else d1).bump (mtbReg i) F.PORT_CNT_rx_err).mtbEnd i 2 0 0)

/-- The response start limit of an operation, in 0.1 µs (R478). -/
def responseLimit (op : Nat) : Nat := if op = 4 then 25000 else if op = 5 then 20000 else 500

/-- MTB_NORESP: no response has started 10 µs after its limit; characters last 10 µs (R476, R479). -/
def execMtbNoresp (bus : Fin 2) (s : State) : Host.Outcome State Fault Refusal :=
  let d := s.dev
  let i := bus.val
  s.done (match (d.mtb i).run with
    | none => d
    | some x =>
      if x.since + 80 * (100 * (6 + x.payload.length) + responseLimit x.op + 100) ≤ d.now then
        ((d.bump (mtbReg i) F.MTB_CNT_noresp).raise Ev.MTB_NORESP (scopePort (20 + i)) 0).mtbEnd i 1 0 0
      else d)

/-- A write of MTB_CMD as a register: op, tag address and length, with the payload in the chip's indirect space (R479,
R480). -/
def Dev.writeMtbCmd (d : Dev) (cellar : Bool) (i : Nat) (v : Word) : Dev :=
  let n := bitsOf v.toNat 16 9
  let payload := ((List.range ((n + 3) / 4)).flatMap (fun k => leBytes 4 (d.indGet (0x2000 + 0x800 * i + 4 * k)).toNat)).take n
  d.mtbCommand cellar i (bitsOf v.toNat 0 4) (bitsOf v.toNat 4 4) (if cellar then [] else payload)

end Sys2Proof.Machine
end

