-- ==== Sys2Proof/Machine/Axle.lean ====
section
/-! DEFINITION. Axle links, and the writes of port registers (R461, R462, R481 to R493). -/

namespace Sys2Proof.Machine

/-! ### State of a link (R482, R485) -/

/-- The states of AXL_STAT.state. -/
abbrev axlDown : Nat := 0
abbrev axlTrain : Nat := 1
abbrev axlIsUp : Nat := 2
abbrev axlRoleErr : Nat := 3

/-- Put a link into a state; PORT_STAT.up shows UP. -/
def Dev.setAxlState (d : Dev) (i st : Nat) : Dev :=
  (d.setFld (axlReg i) F.AXL_STAT_state st).setFld (axlReg i) F.PORT_STAT_up (flagBit (st == axlIsUp))

/-- The Trellis after a change of a link: a follower in AXLE that loses its link for the other changes over with AXL_SWITCH;
with no link it enters HOLDOVER (R72, R485). `before` is the link it took time from. -/
def Dev.axlChanged (d : Dev) (before : Option Nat) : Dev :=
  let d1 := match before, d.timeLink with
    | some i, some j =>
      if d.trlState = trlAxle ∧ i ≠ j ∧ d.axlUp i = false then d.raise Ev.AXL_SWITCH (scopePort (22 + i)) 0 else d
    | _, _ => d
  (if d1.flag 0 F.TRL_CTRL_src then d1.resource else d1).showTimeSrc

/-- A link that leaves UP or TRAIN: unfinished frames are lost (R493). -/
def Dev.axlDrop (d : Dev) (i st : Nat) : Dev :=
  let before := d.timeLink
  let x := d.axl i
  ((d.setAxlState i st).setAxl i { AxlLink.initial with otherPeriod := x.otherPeriod, owds := x.owds }).axlChanged before

/-! ### BULK frames (R486, R491) -/

/-- A frame in fragments of at most 256 bytes, `n` at most. -/
def fragments : Nat → List Byte → List (List Byte)
  | 0, _ => []
  | n + 1, l => if l.length ≤ 256 then [l] else l.take 256 :: fragments n (l.drop 256)

/-- The first fragment is to be sent at the next frame boundary (R486). -/
def Dev.sendFrag (d : Dev) (i : Nat) : Dev :=
  if (d.axl i).frags.isEmpty then d else d.setAxl i { d.axl i with fragDue := true }

/-- An idle link that is UP takes the next frame of its transmit ring. -/
def Dev.axlPump (d : Dev) (i : Nat) : Dev :=
  if d.axlUp i && (d.axl i).frags.isEmpty then
    match d.txFrame (22 + i) with
    | (none, d1) => d1
    | (some (_, f), d1) => (d1.setAxl i { d1.axl i with frags := fragments (f.length / 256 + 1) f, tries := 0 }).sendFrag i
  else d

/-- End the frame being sent with an error code, and take the next. -/
def Dev.bulkEnd (d : Dev) (i code : Nat) : Dev :=
  let d1 := (d.setAxl i { d.axl i with frags := [], tries := 0, fragDue := false }).bump (axlReg i)
    (if code = 0 then F.PORT_CNT2_tx else F.PORT_CNT2_tx_err)
  match d1.txEntries (22 + i) (d1.ringLen (22 + i) true) (d1.ringIndex (22 + i) true) with
  | (none, d2) => d2
  | (some es, d2) => (d2.txRetire (22 + i) es false code d2.ns.toNat).axlPump i

/-- The first fragment has been sent at least once. -/
def AxlLink.sent (x : AxlLink) : Bool := !x.fragDue || decide (0 < x.tries)

/-- ACK: the fragment sent is acknowledged; the next follows, or the entry ends (R491). -/
def execAck (p : AxlPort) (s : State) : Host.Outcome State Fault Refusal :=
  let d := s.dev
  let i := p.val
  s.done (
    if d.axlUp i && (d.axl i).sent then
      match (d.axl i).frags with
      | [] => d
      | [_] => d.bulkEnd i 0
      | _ :: t => (d.setAxl i { d.axl i with frags := t, tries := 0 }).sendFrag i
    else d)

/-- BULK_RETRY_TIMEOUT: no ACK within 2 µs of the fragment's end; it is repeated, after 3 repeats the entry ends with code 4 (R491). -/
def execBulkRetryTimeout (p : AxlPort) (s : State) : Host.Outcome State Fault Refusal :=
  let d := s.dev
  let i := p.val
  let x := d.axl i
  s.done (
    if d.axlUp i && !x.frags.isEmpty && !x.fragDue && decide (x.sentAt + 2 * cyclesPerUs ≤ d.now) then
      if x.tries < 3 then
        ((d.setAxl i { x with tries := x.tries + 1 }).bump (axlReg i) F.AXL_CNT3_retry).sendFrag i
      else d.bulkEnd i 4
    else d)

/-- A frame whose CRC does not hold is counted and no more (R487, R492). -/
def Dev.axlCrcError (d : Dev) (i : Nat) : Dev := (d.bump (axlReg i) F.AXL_CNT_crc).bump (axlReg i) F.PORT_CNT_rx_err

/-- BULK_FRAME_RECEIVE: the fragment is acknowledged; the last one delivers the frame to the receive ring (R491). R487 gives the
frame's CRC-32 no initial value and no bit order, so the command says whether it holds. -/
def execBulkFrameReceive (p : AxlPort) (data : List Byte) (first last crcOk : Bool) (s : State) :
    Host.Outcome State Fault Refusal :=
  let d := s.dev
  let i := p.val
  s.done (
    if d.axlUp i && !crcOk then d.axlCrcError i
    else if d.axlUp i then
      let x := d.axl i
      let got := (if first then [] else x.got) ++ data
      let d1 := (d.setAxl i { x with got := if last then [] else got }).putWire (22 + i) .ack
      if last then (d1.bump (axlReg i) F.PORT_CNT_rx).rxFrame (22 + i) got else d1
    else d)

/-- SAFE_FRAME_RECEIVE (R491). -/
def execSafeFrameReceive (p : AxlPort) (frame : List Byte) (crcOk : Bool) (s : State) : Host.Outcome State Fault Refusal :=
  s.done (
    if s.dev.axlUp p.val && !crcOk then s.dev.axlCrcError p.val
    else if s.dev.axlUp p.val then (s.dev.bump (axlReg p.val) F.PORT_CNT_rx).schLand (22 + p.val) frame
    else s.dev)

/-! ### Training and loss of a link -/

/-- AXL_TRAINING_END: the roles differ and the link is UP, or they are equal and it is in ROLE_ERR (R482). -/
def execAxlTrainingEnd (p : AxlPort) (peerSrc : Bool) (s : State) : Host.Outcome State Fault Refusal :=
  let d := s.dev
  let i := p.val
  s.done (
    if d.fld (axlReg i) F.AXL_STAT_state = axlTrain then
      let d1 := d.putWire (22 + i) (.ident (d.flag 0 F.TRL_CTRL_src) d.vault.serial)
      if peerSrc = d.flag 0 F.TRL_CTRL_src then (d1.setAxlState i axlRoleErr).raise Ev.AXL_ROLE_ERR (scopePort (22 + i)) 0
      else
        let before := d1.timeLink
        ((((d1.setAxlState i axlIsUp).setAxl i { AxlLink.initial with markAt := d1.now, otherPeriod := (d1.axl i).otherPeriod }).axlChanged
          before).axlPump i)
    else d)

/-- An EXCH frame for slot `n` that is lost (R489). -/
def Dev.slotLost (d : Dev) (i : Nat) : Dev :=
  ((d.bump (axlReg i) F.AXL_CNT2_lost).bump (axlReg i) F.PORT_CNT_rx_err).raise Ev.AXL_SLOT_LOST (scopePort (22 + i)) 0

/-- At the follower no valid MARKER has come for 3 tick periods (R482). -/
def Dev.axlQuiet (d : Dev) (i : Nat) : Bool :=
  d.flag 0 F.TRL_CTRL_src && d.axlUp i && decide ((d.axl i).markAt + 3 * d.tickCycles ≤ d.now)

/-- AXL_LINK_DOWN: 8 code violations, or at the follower 3 tick periods without a MARKER; the link goes DOWN and trains again
by itself. A slot frame that was being received is lost (R482, R493). -/
def execAxlLinkDown (p : AxlPort) (inFrame : Option (Fin 16)) (s : State) : Host.Outcome State Fault Refusal :=
  let d := s.dev
  let i := p.val
  s.done (
    if d.axlUp i then
      let c := d.fld (axlReg i) F.AXL_CNT_code
      let d1 := if d.axlQuiet i then d else d.setFld (axlReg i) F.AXL_CNT_code (min 65535 (c + 8))
      let d2 := match inFrame with
        | some n => if d1.slotTakes i n.val then d1.slotLost i else d1
        | none => d1
      (d2.axlDrop i axlTrain).raise Ev.AXL_DOWN (scopePort (22 + i)) 0
    else d)

/-! ### Ordered sets (R483, R484) -/

/-- MARKER at the follower, with its arrival in edge steps: another tick period raises AXL_TIME_REFUSED and ends AXLE; else, on
the link that time is taken from, the leader's tick instant is arrival − offset − delay: the follower's tick grid goes through
it, the network time there is to be T(k), and the lane clock is trimmed; the phase error of the last tick is shown (R72, R483,
R485). One whose CRC does not hold is no valid MARKER. -/
def execMarker (p : AxlPort) (offset : BitVec 6) (t : BitVec 64) (k : Word) (period : Nat) (arrival : Nat) (crcOk : Bool)
    (s : State) : Host.Outcome State Fault Refusal :=
  let d := s.dev
  let i := p.val
  s.done (
    if d.axlUp i && !crcOk then d.bump (axlReg i) F.AXL_CNT_crc
    else if d.axlUp i && d.flag 0 F.TRL_CTRL_src then
      if period = d.tickCycles then
        let before := d.timeLink
        let d1 := (d.setAxl i { d.axl i with marked := true, markAt := d.now, otherPeriod := false }).axlChanged before
        let instant : Int := (arrival : Int) - offset.toNat - ((d1.fld (axlReg i) F.AXL_OWD_owd : Int) * 8 / 5)
        let d2 := d1.setFld (axlReg i) F.AXL_PHERR_err (lowBits 32 ((d1.trl.tickStep : Int) - instant))
        if d2.timeLink = some i then
          let want := (t.toNat : Int) * 65536 - (d2.net.toNat + (instant - 32 * (d2.now : Int)) * 2560)
          let d3 := d2.servoTrim
          { d3 with trl := { d3.trl with slew := want, lead := some (instant, k.toNat) } }
        else d2
      else
        let before := d.timeLink
        ((d.setAxl i { d.axl i with marked := true, markAt := d.now, otherPeriod := true }).axlChanged before).raise
          Ev.AXL_TIME_REFUSED (scopePort (22 + i)) 0
    else d)

/-- PING at the leader: an ECHO goes out with the hold time, which the spec leaves open (R484). -/
def execPing (p : AxlPort) (s : State) : Host.Outcome State Fault Refusal :=
  let d := s.dev
  s.done (
    if d.axlUp p.val && !d.flag 0 F.TRL_CTRL_src then
      let f := d.takeFree
      f.2.putWire (22 + p.val) (.echo f.1.toNat)
    else d)

/-- ECHO at the follower, its arrival and the hold in edge steps: the delay is half the round trip since the PING less the hold, plus
the asymmetry, averaged over the last 16 measurements (R484). Measurements are kept in 1/256 ns. -/
def execEcho (p : AxlPort) (arrival hold : Nat) (s : State) : Host.Outcome State Fault Refusal :=
  let d := s.dev
  let i := p.val
  s.done (match (d.axl i).pingAt with
    | none => d
    | some sent =>
      if d.axlUp i && d.flag 0 F.TRL_CTRL_src then
        let asym := signed 16 (d.fld (axlReg i) F.AXL_ASYM_asym)
        let one := 5 * ((arrival : Int) - sent - hold) + 16 * asym
        let l := (one :: (d.axl i).owds).take 16
        let r := d.someRound l.sum (16 * l.length)
        (r.2.setAxl i { r.2.axl i with owds := l, pingAt := none }).setFld (axlReg i) F.AXL_OWD_owd (lowBits 20 r.1)
      else d)

/-! ### Receive slots (R489) -/

/-- The first lane cycle of the tick that is `ahead` ticks after the present one. -/
def Dev.tickCycleAt (d : Dev) (ahead : Int) : Int := (d.trl.tickStep : Int) / 32 + ahead * d.tickCycles

/-- A frame of tick `k` for block `b` completes later than 100 ns before the block's compute boundary in the tick after. -/
def Dev.slotLate (d : Dev) (b : Nat) (k : Word) : Bool :=
  let ahead := signed 32 (k.toNat + 1 + 2 ^ 32 - d.fld 0 F.TRL_TICK_CNT_k)
  let c := d.inForce (rgnReg (b / 4)) F.RGN_PHASE0_compute * d.subLenOf b 0 / 1000
  decide (d.tickCycleAt ahead + c < (d.now : Int) + 80)

/-- Slot `n` of both links is a receive slot for the same place: their frames are copies. -/
def Dev.slotTwin (d : Dev) (i n : Nat) : Bool :=
  d.slotTakes (1 - i) n && d.fld (slotReg i n) F.AXL_SLOT_CFG_blk == d.fld (slotReg (1 - i) n) F.AXL_SLOT_CFG_blk &&
    d.fld (slotReg i n) F.AXL_SLOT_ADDR_addr == d.fld (slotReg (1 - i) n) F.AXL_SLOT_ADDR_addr

/-- The slot's words and the trailer go to the block's data memory; words beyond its end are not written. -/
def Dev.slotWrite (d : Dev) (b a : Nat) : List Nat → Dev
  | [] => d
  | v :: t => (if a < 0x40000 then d.storeN (blkBase b + 0x40000 + a) 8 v else d).slotWrite b (a + 8) t

/-- EXCH_FRAME_RECEIVE (R489). -/
def execExchFrameReceive (p : AxlPort) (slot : Fin 16) (words : List (BitVec 64)) (k : Word) (fresh crcOk : Bool) (s : State) :
    Host.Outcome State Fault Refusal :=
  let d := s.dev
  let i := p.val
  let n := slot.val
  let a := axlReg i
  let b := d.fld (slotReg i n) F.AXL_SLOT_CFG_blk
  s.done (
    if d.axlUp i && d.slotTakes i n then
      if !crcOk then (d.bump a F.AXL_CNT_crc).slotLost i
      else if words.length ≠ d.fld (slotReg i n) F.AXL_SLOT_CFG_words then d.slotLost i
      else
        let d1 := d.bump a F.PORT_CNT_rx
        if d1.slotLate b k then (d1.bump a F.AXL_CNT2_late).raise Ev.AXL_SLOT_LATE (scopePort (22 + i)) 0
        else if d1.slotTwin i n && Store.get (fun _ => none) d1.slotK (16 * (1 - i) + n) == some k then d1
        else
          let d2 := d1.slotWrite b (8 * d1.fld (slotReg i n) F.AXL_SLOT_ADDR_addr)
            (words.map BitVec.toNat ++ [k.toNat + 2 ^ 32 * flagBit fresh])
          { d2 with slotK := Store.set (fun _ => none) d2.slotK (16 * i + n) (some k) }
    else d)

/-! ### Port registers (R461, R462) -/

/-- What enabling and disabling a port does beside its bit. -/
def Dev.portStart (d : Dev) (p : Nat) : Dev :=
  let d1 := if hasRings p then d.ringsStart p else d
  if isCan p then d1.canCounts p 0 0
  else if p = 20 ∨ p = 21 then d1.mtbNext (p - 20)
  else if 22 ≤ p then d1.setAxlState (p - 22) axlTrain
  else d1
def Dev.portStop (d : Dev) (p : Nat) : Dev :=
  let d1 := d.ringsStop p
  if isCan p then d1.setFld (portReg p) F.PORT_STAT_up 0
  else if 22 ≤ p then d1.axlDrop (p - 22) axlDown
  else d1

/-- A write of PORT_CTRL. -/
def Dev.writePortCtrl (d : Dev) (m : Master) (p : Nat) (v : Word) : Dev :=
  let d1 := d.plainWrite m (portReg p) v
  match d.portOn p, bitOf v.toNat 0 with
  | false, true => d1.portStart p
  | true, false => d1.portStop p
  | _, _ => d1

/-- PORT_ENABLE: a write of PORT_CTRL (R462). -/
def execPortEnable (m : Master) (p : PortId) (v : Word) (s : State) : Host.Outcome State Fault Refusal :=
  s.done (s.dev.writePortCtrl m p.val v)

/-- A write of a doorbell (R458). -/
def Dev.writeDoorbell (d : Dev) (p : Nat) (rx : Bool) : Dev :=
  if hasRings p then
    let d1 := d.ringBell p rx
    if 22 ≤ p ∧ rx = false then d1.axlPump (p - 22) else d1
  else d

/-- RING_DOORBELL. -/
def execRingDoorbell (_m : Master) (p : PortId) (rx : Bool) (s : State) : Host.Outcome State Fault Refusal :=
  s.done (s.dev.writeDoorbell p.val rx)

/-- A slot register of an axle link: the slot's number. -/
def slotOfOff (off : Nat) : Option Nat := if 0x200 ≤ off ∧ off < 0x280 then some ((off - 0x200) / 8) else none

/-- An enabled transmit slot whose producer block has a sub-tick factor other than 1, or with which the last slot of a tick
would come too late (R488, R490). -/
def Dev.slotRefused (d : Dev) (i n : Nat) : Bool :=
  d.slotSends i n && (d.subFactor (d.slotBlock i n) != 1 || d.budgetLost i)

/-- A write of a slot register: one that leaves the slot enabled with other content is judged as an enable (R462, R488, R490,
R493). -/
def Dev.writeSlot (d : Dev) (m : Master) (i n off : Nat) (v : Word) : Dev :=
  let a := axlReg i + off
  let on := d.flag (slotReg i n) F.AXL_SLOT_CFG_en
  let d1 := d.plainWrite m a v
  let same := if off % 8 = 0 then withBits (d1.reg a).toNat 0 1 1 == withBits (d.reg a).toNat 0 1 1 else d1.reg a == d.reg a
  if d.portOn (22 + i) && on && !same then d.raise Ev.PORT_CFG_REFUSED (scopePort (22 + i)) 0
  else if d1.reg a != d.reg a && d1.slotRefused i n then d.raise Ev.AXL_CFG_REFUSED (scopePort (22 + i)) 0
  else if !on && d1.flag (slotReg i n) F.AXL_SLOT_CFG_en then
    let x := d1.axl i
    d1.setAxl i { x with slotAt := Store.set (fun _ => 0) x.slotAt n (d1.now + 1) }
  else d1

/-- A row with a field that software configures. -/
def isConfigRow (off : Nat) (r : Row) : Bool :=
  (decide (0x40 ≤ off ∧ off < 0x60) || decide (0x100 ≤ off)) && r.fields.any (fun f => f.acc == .rw || f.acc == .rwg)

/-- A write of a register of a port (R461, R462, R479). -/
def Dev.writePort (d : Dev) (m : Master) (p off : Nat) (v : Word) : Dev :=
  let a := portReg p + off
  if off = 0 then d.writePortCtrl m p v
  else if off = 0x48 ∧ hasRings p = true then (if bitOf v.toNat 0 then d.writeDoorbell p false else d)
  else if off = 0x58 ∧ hasRings p = true then (if bitOf v.toNat 0 then d.writeDoorbell p true else d)
  else if (p = 20 ∨ p = 21) ∧ off = 0x104 then d.writeMtbCmd false (p - 20) v
  else if (p = 20 ∨ p = 21) ∧ off = 0x108 then
    (if m.id = 5 then d.writeMtbCmd true (p - 20) v else d.plainWrite m a v)
  else match (if 22 ≤ p then slotOfOff off else none) with
    | some n => d.writeSlot m (p - 22) n off v
    | none =>
      match rowAt a with
      | none => d
      | some r =>
        if d.portOn p && isConfigRow off r then d.raise Ev.PORT_CFG_REFUSED (scopePort p) 0 else d.plainWrite m a v

/-- PORT_CONFIG_WRITE: a write of a register of a port by its offset. -/
def execPortConfigWrite (m : Master) (p : PortId) (off : BitVec 12) (v : Word) (s : State) :
    Host.Outcome State Fault Refusal :=
  s.done (s.dev.writePort m p.val (off.toNat / 4 * 4) v)

end Sys2Proof.Machine
end

