-- ==== Sys2Proof/Machine/Clocks.lean ====
section
/-! DEFINITION. Faults of the lane clock and of the region clock (R35, R38, R39). -/

namespace Sys2Proof.Machine

/-- The time stamp of a cause register whose first cause is a clock fault holds the last valid time before the fault: that of
an earlier lane cycle. How far back the clock was last valid is a free value. -/
def Dev.staleStamp (d : Dev) (c : CauseReg) : Dev :=
  let f := d.takeFree
  let ns := (d.net.toNat - (f.1.toNat + 1) * 0x14000) / 65536
  let d1 := f.2.setReg c.at_ (BitVec.ofNat 32 (withBits (d.reg c.at_).toNat 16 1 1))
  (d1.setReg (c.at_ + 4) (BitVec.ofNat 32 ns)).setReg (c.at_ + 8) (BitVec.ofNat 32 (ns / 2 ^ 32))

/-- A fault of the core clock: a chip fault with cause bit 4 (R35, R39). No command of the table is its own; a clock fault of a
lane or a region may come with it. DESIGN CHOICE (assumption 15). -/
def Dev.coreClockFault (d : Dev) (core : Bool) : Dev :=
  if core then
    if d.flag 0 F.CHIP_CAUSE_first_valid then d.chipFault 4 else (d.chipFault 4).staleStamp chipCause
  else d

/-- LANE_CLOCK_FAULT: whether the lane clock of a block fails, a block fault with cause bit 3 that lasts until it is told to have
ended (R35, R39, R40); `core` says whether the core clock has failed with it. -/
def execLaneClockFault (b : BlockId) (failing core : Bool) (s : State) : Host.Outcome State Fault Refusal :=
  let d := s.dev.setLive (blkReg b + 0x40) (2 ^ 3) failing
  let d1 := d.blockFault b 3
  s.done (
    if failing then (if d.flag (blkReg b) F.BLK_CAUSE_first_valid then d1 else d1.staleStamp (blkCause b)).coreClockFault core
    else d)

/-- REGION_CLOCK_FAULT: the same for the clock of a region, with cause bit 2. -/
def execRegionClockFault (r : RegionId) (failing core : Bool) (s : State) : Host.Outcome State Fault Refusal :=
  let d := s.dev.setLive (rgnReg r + 0x40) (2 ^ 2) failing
  let d1 := d.regionFault r 2
  s.done (
    if failing then (if d.flag (rgnReg r) F.RGN_CAUSE_first_valid then d1 else d1.staleStamp (rgnCause r)).coreClockFault core
    else d)

end Sys2Proof.Machine
end

