-- ==== Sys2Proof/Machine/Dma.lean ====
section
/-! DEFINITION. The DMA engines of the regions (R447 to R451). -/

namespace Sys2Proof.Machine

/-- A channel, and the base of its registers. -/
def Dev.chan (d : Dev) (r c : Nat) : DmaChan := Store.get (fun _ => DmaChan.initial) d.dma (4 * r + c)
def dmaBase (r c : Nat) : Nat := rgnReg r + 0x20 * c

/-- Replace a channel; DMA_STAT shows how many descriptors are queued, counting the one in execution (R448). -/
def Dev.setChan (d : Dev) (r c : Nat) (x : DmaChan) : Dev :=
  ({ d with dma := Store.set (fun _ => DmaChan.initial) d.dma (4 * r + c) x } : Dev).setFld (dmaBase r c) F.DMA_STAT_queued
    (x.queue.length + if x.cur.isSome then 1 else 0)

/-- The states of DMA_STAT.state. -/
abbrev dmaIdle : Nat := 0
abbrev dmaRun : Nat := 1
abbrev dmaHalted : Nat := 2
abbrev dmaStopped : Nat := 3
def Dev.dmaState (d : Dev) (r c : Nat) : Nat := d.fld (dmaBase r c) F.DMA_STAT_state
def Dev.setDmaState (d : Dev) (r c st : Nat) : Dev := d.setFld (dmaBase r c) F.DMA_STAT_state st

/-- A write of 1 to resume leaves HALTED (R450). -/
def Dev.dmaResume (d : Dev) (r c : Nat) : Dev := if d.dmaState r c = dmaHalted then d.setDmaState r c dmaIdle else d

/-- The status word of a descriptor (R447). -/
def dmaStatus (code moved : Nat) : Nat :=
  pack [(1, 1), (if code = 0 then 0 else 1, 1), (0, 2), (code, 4), (0, 8), (min (moved / 64) 0xFFFF, 16)]

/-- Write the status word of the descriptor at `addr` (R449). -/
def Dev.dmaPost (d : Dev) (r : Nat) (addr : Word) (code moved : Nat) : Dev :=
  (d.memWrite (6 + r) (addr.toNat + 0x10) 4 (dmaStatus code moved)).2

/-- A write of 1 to flush: code 7 into each queued descriptor, the queue is emptied (R450). -/
def Dev.dmaFlush (d : Dev) (r c : Nat) : Dev :=
  let x := d.chan r c
  (x.queue.foldl (fun d a => d.dmaPost r a 7 0) d).setChan r c { x with queue := [] }

/-- DMA_RESUME (R450). -/
def execDmaResume (_m : Master) (r : RegionId) (c : Fin 4) (s : State) : Host.Outcome State Fault Refusal :=
  s.done (s.dev.dmaResume r c)

/-- DMA_FLUSH (R450). -/
def execDmaFlush (_m : Master) (r : RegionId) (c : Fin 4) (s : State) : Host.Outcome State Fault Refusal :=
  s.done (s.dev.dmaFlush r c)

/-- A write of DMA_CTRL: resume and flush. -/
def Dev.writeDmaCtrl (d : Dev) (r c : Nat) (v : Word) : Dev :=
  let d1 := if bitOf v.toNat 1 then d.dmaFlush r c else d
  if bitOf v.toNat 0 then d1.dmaResume r c else d1

/-- Whether a transaction of a channel waits or runs. -/
def Dev.dmaRuns (d : Dev) (r : Nat) (c : Fin 4) : Bool :=
  (d.fab.waiting ++ d.fab.running).any (fun q => q.m.id.val == 6 + r &&
    match q.work with
    | .access _ => false
    | .dmaRead k _ _ _ _ => k == c
    | .dmaWrite k _ _ _ => k == c)

/-- The descriptor at an address, read at its start; none where it cannot be read: outside the region's SRAM and chip
shared SRAM, or with an uncorrectable word (R447). -/
def Dev.dmaRead (d : Dev) (r : Nat) (addr : Word) : Option DmaDesc × Dev :=
  let a := addr.toNat
  let here := match memKind a with
    | some (.regionRam q) | some (.exchange q) => q == r
    | some .chipRam => true
    | _ => false
  let w := fun i => BitVec.ofNat 32 (d.loadN (a + 4 * i) 4)
  if !here then (none, d)
  else match [a, a + 8, a + 16, a + 24].find? (fun y => d.isBad y) with
    | some y => (none, d.uncorrectable y)
    | none =>
      (some { addr := addr, src := w 0, dst := w 1, len := bitsOf (w 2).toNat 0 24, ctrl := w 3, user := w 5,
              pattern := BitVec.ofNat 64 (d.loadN (a + 0x18) 8) }, d)

/-- A descriptor that could not be read, in execution with nothing to move. -/
def unreadable (addr : Word) : DmaDesc := { addr := addr, src := 0, dst := 0, len := 0, ctrl := 2, user := 0, pattern := 0 }

/-- End the descriptor in execution: its status is written; DMA_DONE where asked for, or DMA_ERROR and HALTED (R449, R450). -/
def Dev.dmaEnd (d : Dev) (r c : Nat) (x : DmaDesc) (code moved : Nat) : Dev :=
  let d1 := if code = 6 then d else d.dmaPost r x.addr code moved
  let d2 := d1.setChan r c { d1.chan r c with cur := none }
  if code = 0 then
    let d3 := d2.bumpWrap (dmaBase r c) F.DMA_STAT_done
    let d4 := if bitOf x.ctrl.toNat 0 then d3.raise Ev.DMA_DONE (scopeRgn r) x.user.toNat else d3
    if (d4.chan r c).queue.isEmpty then d4.setDmaState r c dmaIdle else d4
  else
    let d3 := ((d2.setFld (dmaBase r c) F.DMA_STAT_code code).bump (dmaBase r c) F.DMA_STAT2_errors).setDmaState r c dmaHalted
    d3.raise Ev.DMA_ERROR (scopeRgn r) x.user.toNat

/-- The code with which the addresses and the length of a descriptor end it before any data moves; 0 for none (R447). -/
def Dev.dmaFormat (d : Dev) (r : Nat) (x : DmaDesc) : Nat :=
  let fill := bitOf x.ctrl.toNat 1
  let ok := fun (a : Nat) => match memKind a with | some k => d.admits k (6 + r) | none => false
  if x.len = 0 ∨ x.len % 8 ≠ 0 ∨ x.dst.toNat % 8 ≠ 0 ∨ (fill = false ∧ x.src.toNat % 8 ≠ 0) then 1
  else if fill = false ∧ (ok x.src.toNat && ok (x.src.toNat + x.len - 8)) = false then 2
  else if (ok x.dst.toNat && ok (x.dst.toNat + x.len - 8)) = false then 3
  else 0

/-- DMA_DESCRIPTOR_START: a channel in IDLE or RUN with work reads its next descriptor and starts it; one that cannot be
read ends with code 6, and one that its addresses or its length end moves nothing (R447, R449). -/
def execDmaDescriptorStart (r : RegionId) (c : Fin 4) (s : State) : Host.Outcome State Fault Refusal :=
  let d := s.dev
  let x := d.chan r c
  s.done (
    if x.cur.isSome || d.dmaState r c == dmaHalted || d.dmaState r c == dmaStopped then d
    else match x.queue with
      | [] => d
      | a :: rest =>
        let got := d.dmaRead r a
        let cur := got.1.getD (unreadable a)
        let bad := if got.1.isSome then got.2.dmaFormat r cur else 6
        let d1 := ((got.2.setChan r c
          { queue := rest, cur := some cur, asked := 0, moved := 0, err := bad, started := x.started + 1 }).setDmaState r c
            dmaRun).setFld (dmaBase r c) F.DMA_CUR_addr a.toNat
        if bad = 6 then d1.dmaEnd r c cur 6 0 else d1)

/-- Whether the descriptor in execution ends now: it has met an error, or the response to its last write has arrived. -/
def Dev.dmaEnds (d : Dev) (r : Nat) (c : Fin 4) : Bool :=
  let ch := d.chan r c
  match ch.cur with
  | some x => ch.err != 0 || (ch.moved == x.len && !d.dmaRuns r c)
  | none => false

/-- End a descriptor that ends now: its status is written (R449, R450). -/
def Dev.dmaFinish (d : Dev) (r : Nat) (c : Fin 4) : Dev :=
  let ch := d.chan r c
  match ch.cur with
  | some x =>
    if d.dmaEnds r c = false then d
    else if ch.err ≠ 0 then
      let d1 := if d.dmaFormat r x = 2 then d.accessRefused (6 + r) x.src.toNat
        else if d.dmaFormat r x = 3 then d.accessRefused (6 + r) x.dst.toNat else d
      d1.dmaEnd r c x ch.err ch.moved
    else d.dmaEnd r c x 0 ch.moved
  | none => d

/-- DMA_DESCRIPTOR_END: a stopped or halted channel has none in execution (R449, R450). -/
def execDmaDescriptorEnd (r : RegionId) (c : Fin 4) (s : State) : Host.Outcome State Fault Refusal :=
  s.done (s.dev.dmaFinish r c)

/-- A write of DMA_PUSH: queued, or refused where 64 are queued or the address is not 32-byte aligned. A descriptor that ends in the
same cycle counts first (R448, R459). -/
def Dev.dmaPush (d0 : Dev) (r : Nat) (c : Fin 4) (addr : Word) : Dev :=
  let full := fun (d : Dev) => decide (64 ≤ (d.chan r c).queue.length + if (d.chan r c).cur.isSome then 1 else 0)
  let d := if full d0 then d0.dmaFinish r c else d0
  if addr.toNat % 32 ≠ 0 ∨ full d = true then
    (d.bump (dmaBase r c) F.DMA_STAT2_qfull).raise Ev.DMA_QFULL (scopeRgn r) (pack [(r, 2), (c, 2)])
  else d.setChan r c { d.chan r c with queue := (d.chan r c).queue ++ [addr] }

/-- DMA_PUSH (R448). -/
def execDmaPush (_m : Master) (r : RegionId) (c : Fin 4) (addr : Word) (s : State) : Host.Outcome State Fault Refusal :=
  s.done (s.dev.dmaPush r c addr)

/-! ### The engine's transactions -/

/-- Whether a transaction serves the descriptor that its channel executes (R450). -/
def Dev.dmaLive (d : Dev) (r : Nat) (c : Fin 4) (seq : Nat) : Bool :=
  let x := d.chan r c
  x.cur.isSome && x.started == seq && x.err == 0

/-- Note the code of an error that a descriptor meets (R450). -/
def Dev.dmaFail (d : Dev) (r : Nat) (c : Fin 4) (seq code : Nat) : Dev :=
  if d.dmaLive r c seq then d.setChan r c { d.chan r c with err := code } else d

/-- The double words from an address up, and with their values. -/
def dwords (a n : Nat) : List Nat := (List.range (n / 8)).map (fun i => a + 8 * i)

/-- The channel that the engine of a region serves next: by round-robin among those with bytes still to ask for. -/
def Dev.dmaNext (d : Dev) (r : Nat) : Option (Fin 4) :=
  let last := Store.get (fun _ => 0) d.fab.channel r
  ((List.range 4).map (fun i => (Fin.ofNat 4 (last + 1 + i) : Fin 4))).find? (fun c =>
    let x := d.chan r c
    match x.cur with
    | some y => x.err == 0 && decide (x.asked < y.len)
    | none => false)

/-- The engine of a region with no request at its port presents that of its next channel: at most 64 bytes, read from the source,
or written with the fill pattern. -/
def Dev.dmaAsk (d : Dev) (r : Nat) : Dev :=
  if d.fab.waiting.any (fun q => q.m.id.val == 6 + r) then d
  else match d.dmaNext r with
    | none => d
    | some c =>
      let x := d.chan r c
      match x.cur with
      | none => d
      | some y =>
        let n := min 64 (y.len - x.asked)
        let work : FabWork :=
          if bitOf y.ctrl.toNat 1 then
            .dmaWrite c x.started x.asked ((dwords (y.dst.toNat + x.asked) n).map (fun a => (a, y.pattern)))
          else .dmaRead c x.started x.asked (dwords (y.src.toNat + x.asked) n) []
        let d1 := (d.setChan r c { x with asked := x.asked + n }).fabPresent ⟨Fin.ofNat 28 (6 + r), false⟩ work noNoise
        { d1 with fab := { d1.fab with channel := Store.set (fun _ => 0) d1.fab.channel r c.val } }

end Sys2Proof.Machine
end

