-- ==== Sys2Proof/Machine/Rack.lean ====
section
/-! DEFINITION. Restarting lanes and DMA channels, the entry and worst-case registers of a lane, exchange descriptors,
racking of a region and of the chip firmware (R86, R99, R106, R152, R522 to R533). -/

namespace Sys2Proof.Machine

/-! ### Restart -/

/-- The lane with its registers, loop stack and link cleared, in a mode; the sub-tick goes on (R76, R522, R526). -/
def Lane.cleared (l : Lane) (mode : LaneMode) : Lane :=
  { Lane.initial with
    mode := mode, phase := l.phase, subStart := l.subStart, subStep := l.subStep, subFrom := l.subFrom,
    computeAt := l.computeAt, computeNs := l.computeNs, subTick := l.subTick, tickOf := l.tickOf, freshAt := l.freshAt, fresh := l.fresh, freshNew := l.freshNew }

/-- Clear a lane and its LANE_STATUS. -/
def Dev.clearLane (d : Dev) (b : Nat) (mode : LaneMode) : Dev :=
  (d.setReg (blkReg b + 0x20) 0).setLane b ((d.lane b).cleared mode)

/-- Whether a restart of a lane is accepted (R522). -/
def Dev.mayRestart (d : Dev) (b : Nat) : Bool :=
  let ue := (d.reg (blkReg b + 0x70)).toNat
  (d.lane b).mode == .halted && d.reg (blkReg b + 0x40) == 0 && d.reg (rgnReg (b / 4) + 0x40) == 0 &&
    !bitOf ue (16 + d.activeSlot (b / 4)) && !bitOf ue (19 + d.activeBank (b / 4)) && !bitOf ue 18

/-- A write of RGN_RESTART: STOPPED DMA channels go to IDLE when RGN_CAUSE reads 0 (R522). -/
def Dev.writeRestartDma (d : Dev) (r : Nat) (v : Word) : Dev :=
  if bitOf v.toNat 0 && d.reg (rgnReg r + 0x40) == 0 then
    d.each [0, 1, 2, 3] (fun c d => if d.dmaState r c = dmaStopped then d.setDmaState r c dmaIdle else d)
  else d

/-- RGN_RESTART_DMA (R522). -/
def execRgnRestartDma (_m : Master) (r : RegionId) (v : Word) (s : State) : Host.Outcome State Fault Refusal :=
  s.done (s.dev.writeRestartDma r v)

/-! ### Registers with a field of each slot -/

/-- A write of a register with a field of each slot: a change of the active slot's field is left out and raises
LANE_MEM_REFUSED, the other field takes effect (R99, R152). -/
def Dev.writeSlotPair (d : Dev) (b : Nat) (fa fb : Fld) (v : Word) : Dev :=
  let active := if d.activeSlot (b / 4) = 0 then fa else fb
  let other := if d.activeSlot (b / 4) = 0 then fb else fa
  let d1 := d.setFld (blkReg b) other (fget v other)
  if fget v active = d.fld (blkReg b) active then d1
  else d1.raise Ev.LANE_MEM_REFUSED (scopeBlk b) (blkReg b + fa.off)

/-- A write of LANE_ENTRY (R99) and of LANE_WCET (R152). -/
def Dev.writeLaneEntry (d : Dev) (b : Nat) (v : Word) : Dev := d.writeSlotPair b F.LANE_ENTRY_a F.LANE_ENTRY_b v
def Dev.writeLaneWcet (d : Dev) (b : Nat) (v : Word) : Dev := d.writeSlotPair b F.LANE_WCET_a F.LANE_WCET_b v

/-- LANE_ENTRY_WRITE (R99). -/
def execLaneEntryWrite (_m : Master) (b : BlockId) (v : Word) (s : State) : Host.Outcome State Fault Refusal :=
  s.done (s.dev.writeLaneEntry b v)

/-- LANE_WCET_WRITE (R152). -/
def execLaneWcetWrite (_m : Master) (b : BlockId) (v : Word) (s : State) : Host.Outcome State Fault Refusal :=
  s.done (s.dev.writeLaneWcet b v)

/-- The states of RGN_RACK_STAT.state (R528). -/
abbrev rackIdle : Nat := 0
abbrev rackArmed : Nat := 1
abbrev rackProbation : Nat := 2
def Dev.rackState (d : Dev) (r : Nat) : Nat := d.fld (rgnReg r) F.RGN_RACK_STAT_state

/-- A write of an exchange descriptor: one of the set in force is ignored; the other set is refused in ARMED and PROBATION and
clears loaded in IDLE (R106, R524). -/
def Dev.writeExch (d : Dev) (m : Master) (r : Nat) (setB : Bool) (n : Nat) (v : Word) : Dev :=
  let a := rgnReg r + (if setB then 0x800 else 0x400) + 4 * n
  if setB == (d.activeSlot r == 1) then d.raise Ev.EXCH_CFG_REFUSED (scopeRgn r) a
  else if d.rackState r ≠ rackIdle ∧ d.armedHere r = false then d.raise Ev.LANE_MEM_REFUSED (scopeRgn r) a
  else (d.unload r).plainWrite m a v

/-- EXCH_CH_WRITE (R106). -/
def execExchChWrite (m : Master) (r : RegionId) (setB : Bool) (n : Fin 256) (v : Word) (s : State) :
    Host.Outcome State Fault Refusal := s.done (s.dev.writeExch m r setB n v)

/-! ### The state map (R527) -/

/-- An entry of the state map: block, 8-byte words, source and destination in the block's data memory. -/
structure MapEntry where
  blk : Nat
  words : Nat
  src : Nat
  dst : Nat
  deriving DecidableEq, Repr

/-- First address of the state map, and its entries. -/
def Dev.mapBase (d : Dev) (r : Nat) : Nat := rgnBase r + 8 * d.fld (rgnReg r) F.RGN_RACK_MAP_addr
def Dev.stateMap (d : Dev) (r : Nat) : List MapEntry :=
  (List.range (d.fld (rgnReg r) F.RGN_RACK_MAP_n)).map (fun i =>
    let a := d.mapBase r + 16 * i
    ⟨d.loadN a 1, d.loadN (a + 2) 2, d.loadN (a + 4) 4, d.loadN (a + 8) 4⟩)

/-- A word of the map that holds an uncorrectable error. -/
def Dev.mapBad (d : Dev) (r : Nat) : Option Nat :=
  ((List.range (2 * d.fld (rgnReg r) F.RGN_RACK_MAP_n)).map (fun i => d.mapBase r + 8 * i)).find? (fun y => d.isBad y)

/-- The ranges of an entry, as block, start and end. -/
def MapEntry.ranges (e : MapEntry) : List (Nat × Nat × Nat) :=
  [(e.blk, e.src, e.src + 8 * e.words), (e.blk, e.dst, e.dst + 8 * e.words)]

/-- Two ranges of one block that share a byte. -/
def overlaps (x y : Nat × Nat × Nat) : Bool := x.1 == y.1 && decide (x.2.1 < y.2.2 ∧ y.2.1 < x.2.2)

/-- No range overlaps a later one. -/
def apart : List (Nat × Nat × Nat) → Bool
  | [] => true
  | x :: t => t.all (fun y => !overlaps x y) && apart t

/-- The state map passes (R527). -/
def Dev.mapPasses (d : Dev) (r : Nat) : Bool :=
  let m := d.stateMap r
  m.all (fun e => decide (e.blk ≤ 3 ∧ 1 ≤ e.words ∧ e.words ≤ 784 ∧ e.src % 8 = 0 ∧ e.dst % 8 = 0 ∧
      e.src + 8 * e.words ≤ 0x40000 ∧ e.dst + 8 * e.words ≤ 0x40000)) &&
    apart (m.flatMap MapEntry.ranges) &&
    [0, 1, 2, 3].all (fun i =>
      let c := d.inForce (rgnReg r) F.RGN_PHASE0_compute * d.subLen (4 * r + i) / 1000
      decide (((m.filter (fun e => e.blk == i)).map MapEntry.words).sum + 16 ≤ c) || !(m.any (fun e => e.blk == i)))

/-- Copy a word of a block's data memory; an uncorrectable word makes a block fault and is not copied (R436, R527). -/
def Dev.copyWord (d : Dev) (src dst : Nat) : Dev := if d.isBad src then d.uncorrectable src else d.storeN dst 8 (d.loadN src 8)

/-- The words of a block that its lane copies yet. -/
def Dev.copyList (d : Dev) (b : Nat) : List (Nat × Nat) := Store.get (fun _ => []) d.copies b
def Dev.setCopyList (d : Dev) (b : Nat) (l : List (Nat × Nat)) : Dev := { d with copies := Store.set (fun _ => []) d.copies b l }

/-- In each block one word of the state map is copied per lane cycle; the port of data memory is used for it (R22, R527). -/
def Dev.copyStep (d : Dev) (b : Nat) : Dev :=
  match d.copyList b with
  | [] => d
  | (src, dst) :: t => ((d.setCopyList b t).usePort (3 * b + 1)).copyWord src dst
def Dev.copyCycle (d : Dev) : Dev := d.each (d.copies.map (fun x => x.1)) (fun b d => d.copyStep b)

/-- The words of an entry, with `back` from dst to src (R526, R529). -/
def mapWords (base : Nat) (e : MapEntry) (back : Bool) : List (Nat × Nat) :=
  (List.range e.words).map (fun i =>
    let x := (base + e.src + 8 * i, base + e.dst + 8 * i)
    if back then (x.2, x.1) else x)

/-- Begin to copy the state map, or with `back` to copy it in reverse (R526, R529). -/
def Dev.copyMap (d : Dev) (r : Nat) (back : Bool) : Dev :=
  (d.stateMap r).foldl (fun d e =>
    let b := 4 * r + e.blk % 4
    d.setCopyList b (d.copyList b ++ mapWords (blkBase b + 0x40000) e back)) d

/-! ### Arming -/

/-- Reason 5 of R525: the inactive slot's worst cases fit, and no apply is pending. -/
def Dev.wcetFits (d : Dev) (r : Nat) : Bool :=
  [0, 1, 2, 3].all (fun i =>
    let b := 4 * r + i
    let w := if d.activeSlot r = 0 then d.fld (blkReg b) F.LANE_WCET_b else d.fld (blkReg b) F.LANE_WCET_a
    decide (4 * w + 640 ≤ d.laneBudget b)) && !d.flag 0 F.TRL_STATUS_apply_pending

/-- The first check of R525 that fails, as its reason; 0 where none does. -/
def Dev.rackReason (d : Dev) (r : Nat) : Nat :=
  let what := d.fld (rgnReg r) F.RGN_RACK_CTRL_what
  let ahead := (d.fld (rgnReg r) F.RGN_RACK_TICK_k + 2 ^ 32 - d.fld 0 F.TRL_TICK_CNT_k) % 2 ^ 32
  let ue := fun (i : Nat) => (d.reg (blkReg (4 * r + i) + 0x70)).toNat
  let slotBit := 17 - d.activeSlot r
  let bankBit := 20 - d.activeBank r
  if d.rackState r ≠ rackIdle then 1
  else if ahead < 2 ∨ 2 ^ 31 < ahead then 2
  else if what ≠ 2 ∧ d.flag (rgnReg r) F.RGN_RACK_CTRL_loaded = false then 3
  else if [0, 1, 2, 3].any (fun i => (what == 0 && bitOf (ue i) slotBit) || (what != 2 && bitOf (ue i) bankBit)) then 4
  else if what = 0 ∧ d.wcetFits r = false then 5
  else if (d.mapBad r).isSome ∨ d.mapPasses r = false then 6
  else 0

/-- Set the state of a region's racking. -/
def Dev.setRackState (d : Dev) (r st : Nat) : Dev := d.setFld (rgnReg r) F.RGN_RACK_STAT_state st

/-- A request to arm (R525). -/
def Dev.rackArm (d : Dev) (r : Nat) : Dev :=
  match d.rackReason r with
  | 0 =>
    ((d.setRackState r rackArmed).setRack r { d.rack r with armAt := d.now + 1 }).raise Ev.RACK_ARMED (scopeRgn r)
      (d.fld (rgnReg r) F.RGN_RACK_TICK_k)
  | n =>
    let d1 := match n, d.mapBad r with
      | 6, some y => d.uncorrectable y
      | _, _ => d
    d1.raise Ev.RACK_REFUSED (scopeRgn r) n

/-- A write of RGN_RACK_CTRL: outside IDLE what and probation keep their values; cancel returns ARMED to IDLE (R525, R528). -/
def Dev.writeRackCtrl (d : Dev) (m : Master) (r : Nat) (v : Word) : Dev :=
  let idle := d.rackState r == rackIdle
  let d1 := if idle then d.plainWrite m (rgnReg r + 0x3100) v
    else d.setFld (rgnReg r) F.RGN_RACK_CTRL_loaded (bitsOf v.toNat 4 1)
  let d2 := if bitOf v.toNat 0 then d1.rackArm r else d1
  if bitOf v.toNat 1 && d.rackState r == rackArmed then d2.setRackState r rackIdle else d2

/-- RACK_ARM: a write of RGN_RACK_CTRL (R525). -/
def execRackArm (m : Master) (r : RegionId) (v : Word) (s : State) : Host.Outcome State Fault Refusal :=
  s.done (s.dev.writeRackCtrl m r v)

/-- RACK_CANCEL: returns ARMED to IDLE (R525). -/
def execRackCancel (_m : Master) (r : RegionId) (s : State) : Host.Outcome State Fault Refusal :=
  s.done (if s.dev.rackState r = rackArmed then s.dev.setRackState r rackIdle else s.dev)

/-! ### The switch -/

/-- Switch a bit of RGN_RACK_STAT. -/
def Dev.flip (d : Dev) (r : Nat) (f : Fld) : Dev := d.setFld (rgnReg r) f (1 - d.fld (rgnReg r) f)

/-- The reference programs of a lane begin anew: IDLE, as after a load (R224, R248). With `failed` only those in CFG_ERR do, whose lanes
have been reloaded. The spec places none of their variables in data memory that a rack carries (assumption 95). -/
def Dev.renewProgs (d : Dev) (b : Nat) (failed : Bool) : Dev :=
  d.each ((List.range 32).filter (fun u => d.leadLane u == some b)) (fun u d =>
    if failed && (d.prog u).st != 9 then d else d.setProg u Program.initial)

/-- Clear the lanes of a region: HALTED ones stay so but for the region's first rack (R86, R526). -/
def Dev.clearLanes (d : Dev) (r : Nat) (all first : Bool) : Dev :=
  d.each [4 * r, 4 * r + 1, 4 * r + 2, 4 * r + 3] (fun b d =>
    let mode := if (d.lane b).mode = .halted ∧ first = false then LaneMode.halted else .done
    if all then (d.clearLane b mode).renewProgs b false
    else if first then d.setLane b { d.lane b with mode := .done } else d)

/-- Count and raise a committed rack (R526, R529). -/
def Dev.rackCommitted (d : Dev) (r : Nat) : Dev :=
  ((d.setRackState r rackIdle).bump (rgnReg r) F.RGN_RACK_CNT_racks).raise Ev.RACK_COMMIT (scopeRgn r)
    (d.fld (rgnReg r) F.RGN_RACK_CTRL_what)

/-- The trims of a region have been switched: the Vintage of the calibration rises with the last region (R531). -/
def Dev.noteTrim (d : Dev) (r : Nat) : Dev :=
  let d1 := { d with trimmed := d.trimmed ||| 2 ^ r }
  if d1.trimmed % 16 = 15 then d1.commitCask 3 else d1

/-- The switch at tick k; a fault raised in the same lane cycle is a trigger (R526, R530, R531). -/
def Dev.rackSwitchNow (d : Dev) (r : Nat) : Dev :=
  let what := d.fld (rgnReg r) F.RGN_RACK_CTRL_what
  let first := !(d.rack r).racked
  let d1 :=
    if what = 0 then (d.flip r F.RGN_RACK_STAT_slot).flip r F.RGN_RACK_STAT_tbank
    else if what = 2 then d.flip r F.RGN_RACK_STAT_trim
    else d.flip r F.RGN_RACK_STAT_tbank
  let d2 := (d1.clearLanes r (what == 0) first).setFld (rgnReg r) F.RGN_RACK_CTRL_loaded 0
  let x := d2.rack r
  let d3 := d2.setRack r { x with
    trig := if what = 0 ∧ x.faultAt = d2.now + 1 then some x.faultSrc else none, due := false, racked := true }
  let d4 := if what = 0 then
      (d3.setRackState r rackProbation).setFld (rgnReg r) F.RGN_RACK_STAT_left (d.fld (rgnReg r) F.RGN_RACK_CTRL_probation)
    else d3
  let d5 := (d4.copyMap r false).raise Ev.RACK_SWITCH (scopeRgn r) what
  if what = 0 then d5
  else if what = 2 then (d5.rackCommitted r).noteTrim r
  else (d5.rackCommitted r).commitCask (12 + 2 * r + d5.activeBank r)

/-- RACK_SWITCH: the first lane cycle of tick k of an ARMED region. Where the timing changes at this tick, the switch is made
only if the worst cases fit the new timing (R526, R530). -/
def execRackSwitch (r : RegionId) (s : State) : Host.Outcome State Fault Refusal :=
  let d := s.dev
  s.done (
    if d.rackState r = rackArmed ∧ d.fld 0 F.TRL_TICK_CNT_k = d.fld (rgnReg r) F.RGN_RACK_TICK_k then
      if d.trl.appliedStep = some d.trl.tickStep ∧ d.fld (rgnReg r) F.RGN_RACK_CTRL_what = 0 ∧ d.wcetFits r = false then
        (d.setRackState r rackIdle).raise Ev.RACK_REFUSED (scopeRgn r) 7
      else d.rackSwitchNow r
    else d)

/-- RACK_COMMIT: PROBATION has counted down without a trigger (R529). -/
def execRackCommit (r : RegionId) (s : State) : Host.Outcome State Fault Refusal :=
  let d := s.dev
  s.done (
    if d.rackState r = rackProbation ∧ d.fld (rgnReg r) F.RGN_RACK_STAT_left = 0 ∧ (d.rack r).trig = none then
      ((d.rackCommitted r).commitCask (4 + 2 * r + d.activeSlot r)).commitCask (12 + 2 * r + d.activeBank r)
    else d)

/-- A region switches back, for the trigger of source `src` (R529). -/
def Dev.unrackNow (d : Dev) (r src : Nat) : Dev :=
  let d1 := (d.flip r F.RGN_RACK_STAT_slot).flip r F.RGN_RACK_STAT_tbank
  let d2 := ((d1.setRackState r rackIdle).setFld (rgnReg r) F.RGN_RACK_CTRL_loaded 0).setRack r
    { d.rack r with trig := none, due := false }
  let d3 := (d2.clearLanes r true false).copyMap r true
  (d3.bump (rgnReg r) F.RGN_RACK_CNT_unracks).raise Ev.UNRACK (scopeRgn r) src

/-- UNRACK: the tick after a trigger (R529, R530). -/
def execUnrack (r : RegionId) (s : State) : Host.Outcome State Fault Refusal :=
  let d := s.dev
  s.done (match (d.rack r).trig with
    | some src => if d.rackState r = rackProbation ∧ (d.rack r).due = true then d.unrackNow r src else d
    | none => d)

/-- An un-rack that falls due in this lane cycle acts before a restart of the same cycle (R530). -/
def Dev.unrackFirst (d : Dev) (r : Nat) : Dev :=
  match (d.rack r).trig with
  | some src =>
    if d.rackState r = rackProbation ∧ ((d.rack r).due = true ∨ d.trl.nextStep ≤ (d.stepNow : Int) + 31) then d.unrackNow r src else d
  | none => d

/-- A write of BLK_CTRL (R522, R530). -/
def Dev.writeBlkCtrl (d0 : Dev) (b : Nat) (v : Word) : Dev :=
  if bitOf v.toNat 0 then
    let d := d0.unrackFirst (b / 4)
    if d.mayRestart b then d.clearLane b .done else d.raise Ev.LANE_RESTART_REFUSED (scopeBlk b) 0
  else d0

/-- BLK_CTRL_RESTART (R522). -/
def execBlkCtrlRestart (_m : Master) (b : BlockId) (v : Word) (s : State) : Host.Outcome State Fault Refusal :=
  s.done (s.dev.writeBlkCtrl b v)

/-! ### Trims -/

/-- A write of an analogue trim: the active bank of a region is refused, the chip's trims are written before DEV_STAT.ready
only (R531). -/
def Dev.writeTrim (d : Dev) (sc : IndScope) (addr : Nat) (v : Word) : Dev :=
  let a := addr / 4 * 4
  match sc with
  | .chip => if d.flag 0 F.DEV_STAT_ready then d else d.indSet a v
  | .region r =>
    if a / 0x800 = d.fld (rgnReg r) F.RGN_RACK_STAT_trim then d.raise Ev.TRIM_REFUSED (scopeRgn r) a
    else d.indSet ((r.val + 1) * 2 ^ 32 + a) v

/-- TRIM_WRITE (R531). -/
def execTrimWrite (_m : Master) (sc : IndScope) (addr : BitVec 12) (v : Word) (s : State) :
    Host.Outcome State Fault Refusal := s.done (s.dev.writeTrim sc addr.toNat v)

/-! ### Chip firmware racking -/

/-- The states of CHIP_RACK.state (R532), and the masters that may write it. -/
abbrev chipRestarting : Nat := 1
abbrev chipProbation : Nat := 2
def isAc (m : Master) : Bool := m.id == 0 || m.id == 1

/-- Set the boot pointer with its trial mark; NVS_STAT shows it (R439, R533). -/
def Dev.setBoot (d : Dev) (slot trial : Bool) : Dev :=
  { d with vault := { d.vault with bootSlot := slot, trial := trial } }.showNvs

/-- A go (R533). -/
def Dev.chipGo (d : Dev) (slot : Nat) : Dev :=
  if slot = d.fld 0 F.CHIP_RACK_active ∨ [0, 1, 2, 3].any (fun r => d.rackState r != rackIdle) = true ∨
      d.fld 0 F.HSL_UPD_state ≠ 0 ∨ Store.get (fun _ => false) d.slotOk slot = false then
    d.raise Ev.CHIP_RACK_REFUSED scopeChip 0
  else { (d.setBoot (slot == 1) true).setFld 0 F.CHIP_RACK_state chipRestarting with chipAt := d.now }

/-- The new firmware confirms itself in PROBATION (R533). -/
def Dev.chipConfirm (d : Dev) : Dev :=
  if d.fld 0 F.CHIP_RACK_state = chipProbation then
    let slot := d.fld 0 F.CHIP_RACK_active
    (((d.setBoot d.vault.bootSlot false).setFld 0 F.CHIP_RACK_state 0).commitCask slot).raise Ev.CHIP_RACK_COMMIT scopeChip slot
  else d

/-- The cores restart from the previous slot, and the pointer is restored (R533). -/
def Dev.chipUnrack (d : Dev) : Dev :=
  if d.fld 0 F.CHIP_RACK_state = chipProbation then
    let slot := 1 - d.fld 0 F.CHIP_RACK_active
    ({ (d.setBoot (slot == 1) false).setFld 0 F.CHIP_RACK_state chipRestarting with chipAt := d.now }).raise Ev.CHIP_UNRACK
      scopeChip slot
  else d

/-- CHIP_RACK.left: the seconds of probation that remain (R532). -/
def Dev.chipLeft (d : Dev) : Nat :=
  if d.fld 0 F.CHIP_RACK_state = chipProbation then d.fld 0 F.CHIP_RACK_prob - (d.now - d.chipAt) / cyclesPerSecond else 0

/-- A write of CHIP_RACK by AC0 or AC1, which run unless they are restarting; other masters' writes are ignored (R532,
R533). -/
def Dev.writeChipRack (d : Dev) (m : Master) (v : Word) : Dev :=
  if isAc m && d.fld 0 F.CHIP_RACK_state != chipRestarting then
    let d1 := d.plainWrite m 0x40060110 v
    let d2 := if bitOf v.toNat 2 then d1.chipConfirm else d1
    let d3 := if bitOf v.toNat 3 then d2.chipUnrack else d2
    if bitOf v.toNat 0 then d3.chipGo (bitsOf v.toNat 1 1) else d3
  else d

/-- CHIP_RACK_GO: a write of CHIP_RACK (R533). -/
def execChipRackGo (m : Master) (v : Word) (s : State) : Host.Outcome State Fault Refusal :=
  s.done (s.dev.writeChipRack m v)

/-- CHIP_FIRMWARE_LOADED: the Cask of the slot that the boot pointer names has been verified from NVS and loaded, and the cores are
released: into PROBATION on a trial, into IDLE after an un-rack (R533). DESIGN CHOICE: a trial whose Cask does not verify ends as an
un-rack does (assumption 100). -/
def execChipFirmwareLoaded (s : State) : Host.Outcome State Fault Refusal :=
  let d := s.dev
  let slot := flagBit d.vault.bootSlot
  let ready := fun (st : Nat) => { (d.setFld 0 F.CHIP_RACK_state st).setFld 0 F.CHIP_RACK_active slot with chipAt := d.now }
  s.done (
    if d.fld 0 F.CHIP_RACK_state = chipRestarting then
      if d.vault.trial then
        if d.storedCaskOk slot then
          ((ready chipProbation).setMeas slot (some (measOf (d.nvsBytes (imageArea slot) 256)))).bump 0 F.CEL_CNT_verified
        else
          ((d.setBoot (slot == 0) false).setFld 0 F.CHIP_RACK_state 0).raise Ev.CHIP_UNRACK scopeChip (1 - slot)
      else ready 0
    else d)

/-- CHIP_RACK_CONFIRM (R533). -/
def execChipRackConfirm (m : Master) (s : State) : Host.Outcome State Fault Refusal :=
  s.done (if isAc m then s.dev.chipConfirm else s.dev)

/-- CHIP_RACK_FAIL (R533). -/
def execChipRackFail (m : Master) (s : State) : Host.Outcome State Fault Refusal :=
  s.done (if isAc m then s.dev.chipUnrack else s.dev)

/-- CHIP_RACK_PROBATION_END: prob seconds have passed without confirm (R533). -/
def execChipRackProbationEnd (s : State) : Host.Outcome State Fault Refusal :=
  let d := s.dev
  s.done (if d.chipAt + d.fld 0 F.CHIP_RACK_prob * cyclesPerSecond ≤ d.now then d.chipUnrack else d)

end Sys2Proof.Machine
end

