-- ==== Sys2Proof/Machine/View.lean ====
section
/-! DEFINITION. What a register shows where the device holds its content elsewhere (R97, R185, R219, R342, R343, R281, R532). -/

namespace Sys2Proof.Machine

/-- LANE_STATE (R97). -/
def Dev.laneState (d : Dev) (b : Nat) : Nat :=
  let l := d.lane b
  let st : Nat := match l.mode with | .halted => 0 | .run => 1 | .wait => 2 | .done => 3
  let why : Nat := match l.held with
    | none => 0
    | some (.phase _) => 1
    | some (.event _ _) => 3
    | some (.commit _ _) => 4
    | some _ => 2
  pack [(st, 2), (0, 2), (if st = 2 then why else 0, 3), (0, 1), (d.activeSlot (b / 4), 1), (d.activeBank (b / 4), 1), (0, 6), (l.pc, 12)]

/-- LEG_STATE (R176, R185). -/
def Dev.legState (d : Dev) (k : Nat) : Nat :=
  let l := d.leg k
  let st : Nat := match l.st with
    | .off => 0 | .armed => 1 | .run => 2 | .softOff => 3 | .ascHigh => 4 | .ascLow => 5 | .settle => 6 | .fault => 7
  let sealed_ := match l.next with | some c => c.isSealed | none => false
  pack [(st, 3), (0, 1), (flagBit l.drvH, 1), (flagBit l.drvL, 1), (flagBit (d.showsOff k l .high), 1),
    (flagBit (d.showsOff k l .low), 1),
    (flagBit l.next.isSome, 1), (flagBit sealed_, 1), (flagBit l.soft, 1), (0, 1), (flagBit l.hsl, 1)]

/-- LEG_CMPSTAT (R219). -/
def Dev.cmpState (d : Dev) (k : Nat) : Nat :=
  pack [(flagBit (d.tripOut k).1, 1), (flagBit (d.hardOut k).1, 1), (flagBit (d.isBlanked k), 1), (0, 13), (d.tripCode k d.now, 10)]

/-- A register of a leg. LEG_DIRECT of a link leg reads 0. -/
def Dev.viewLeg (d : Dev) (k off : Nat) : Word :=
  let next : QWord := match (d.leg k).next with | some c => c.cmd | none => 0
  if off = 0x18 then BitVec.ofNat 32 (d.legState k)
  else if off = 0x1C then BitVec.ofNat 32 (d.legCount k)
  else if off = 0x20 then BitVec.ofNat 32 (d.legPeriod k)
  else if off = 0x48 ∧ isDirect k = false then 0
  else if 0x50 ≤ off ∧ off < 0x60 then BitVec.ofNat 32 (bitsOf (d.leg k).cur.toNat (8 * (off - 0x50)) 32)
  else if 0x60 ≤ off ∧ off < 0x70 then BitVec.ofNat 32 (bitsOf next.toNat (8 * (off - 0x60)) 32)
  else if off = 0x90 then BitVec.ofNat 32 (d.cmpState k)
  else d.reg (legReg k + off)

/-- A register of a region: the registers of a unit are read in its region only (R342). -/
def Dev.viewRgn (d : Dev) (r x : Nat) : Word × Dev :=
  if 0x1C00 ≤ x ∧ x < 0x1D00 then
    let f := (x - 0x1C00) / 0x80
    match x % 0x80 with
    | 0x44 => (d.fbAngle r f, d)
    | 0x48 => d.fbSpeed r f
    | 0x4C => (d.fbTurns r f, d)
    | _ => (d.reg (rgnReg r + x), d)
  else if 0x2000 ≤ x ∧ x < 0x2800 then
    let u := (x - 0x2000) / 0x40
    if d.unitHere r u then
      if x % 0x40 = 8 then (BitVec.ofNat 32 (d.unitStatus u), d) else (d.reg (unitReg u + x % 0x40), d)
    else (0, d)
  else (d.reg (rgnReg r + x), d)

/-- The word a register shows, whoever reads it. -/
def Dev.view (d : Dev) (a : Nat) : Word × Dev :=
  if 0x20000000 ≤ a ∧ a < 0x24000000 then
    let r := (a - 0x20000000) / 0x1000000
    let x := (a - 0x20000000) % 0x1000000
    if 0x800000 ≤ x then d.viewRgn r (x - 0x800000)
    else
      let b := 4 * r + (x - 0x400000) / 0x100000
      let y := x % 0x100000
      if 0xD0000 ≤ y then (d.viewLeg (8 * b + (y - 0xD0000) / 0x100) (y % 0x100), d)
      else if y = 0xC0024 then (BitVec.ofNat 32 (d.laneState b), d)
      else (d.reg a, d)
  else if a = 0x40000018 ∨ a = 0x4000001C then (d.holdRegs.reg a, d)
  else if a = 0x40060110 then (BitVec.ofNat 32 (withBits (d.reg a).toNat 24 8 d.chipLeft), d)
  else (d.reg a, d)

end Sys2Proof.Machine
end

