-- ==== Sys2Proof/Machine/Indirect.lean ====
section
/-! DEFINITION. Indirect pairs (R499 to R502), snapshots (R503 to R505), the log and software events (R507, R513). -/

namespace Sys2Proof.Machine

/-- The registers of a scope's indirect pair, and the number of the scope (R499). -/
def indBase : IndScope → Nat
  | .chip => 0x40060000
  | .region r => rgnReg r.val + 0x3000
def indNum : IndScope → Nat
  | .chip => 4
  | .region r => r.val

/-- Whether an indirect pair is locked, and its owner. -/
def Dev.indLocked (d : Dev) (sc : IndScope) : Bool := bitOf (d.reg (indBase sc + 8)).toNat 8
def Dev.indOwner (d : Dev) (sc : IndScope) : Nat := bitsOf (d.reg (indBase sc + 8)).toNat 0 5

/-- Whether master `m` is kept out by another's lock (R501). -/
def Dev.indShut (d : Dev) (m : Master) (sc : IndScope) : Bool := d.indLocked sc && d.indOwner sc != m.id.val

/-- IND_BUSY with the master ID, and an error response where the access was one of address or data (R501). -/
def Dev.indBusy (d : Dev) (m : Master) : Dev := d.raise Ev.IND_BUSY (scopeMaster m.id) 0

/-- The owner's access to a pair restarts its 1 ms (R501). -/
def Dev.indTouch (d : Dev) (sc : IndScope) : Dev := { d with indAt := Store.set (fun _ => 0) d.indAt (indNum sc) d.now }

/-- The register whose snapshot copy lies at an indirect address (R502). -/
def snapTarget (sc : IndScope) (a : Nat) : Option Nat :=
  let x := a - 0x10000000
  let t := match sc with
    | .chip => 0x40000000 + x
    | .region r => rgnBase r.val + x
  let fits := match sc with
    | .chip => true
    | .region _ => decide (x < 0x1000000)
  if 0x10000000 ≤ a ∧ fits = true ∧ (regSpace t).isSome = true then some t else none

/-- The word at an indirect address; none where it is unmapped (R502). -/
def Dev.indRead (d : Dev) (sc : IndScope) (a : Nat) : Option Word :=
  match snapTarget sc a with
  | some t => some (Store.get zeroWord d.snaps t)
  | none =>
    match sc with
    | .region r => if a < 0x1000 then some (d.indGet ((r.val + 1) * 2 ^ 32 + a)) else none
    | .chip =>
      if a = 0x1000 then some 0
      else if a < 0x1020 ∨ (0x2000 ≤ a ∧ a < 0x3000) then some (d.indGet a) else none

/-- A write at an indirect address; none where it is unmapped. Snapshot copies and responses are read only. -/
def Dev.indWrite (d : Dev) (m : Master) (sc : IndScope) (a : Nat) (v : Word) : Option Dev :=
  match snapTarget sc a with
  | some _ => some d
  | none =>
    match sc with
    | .region _ => if a < 0x1000 then some (d.writeTrim sc a v) else none
    | .chip =>
      if a < 0x1000 then some (d.writeTrim sc a v)
      else if a = 0x1000 then some (d.nvsSubmit m.id v)
      else if a < 0x1020 then
        match findRow cindRows a with
        | some r => some (d.indSet a (BitVec.ofNat 32 (d.wordAfter m (d.indGet a).toNat v.toNat r.fields)))
        | none => some d
      else if 0x2000 ≤ a ∧ a < 0x3000 then some (if a / 0x400 % 2 = 0 then d.indSet a v else d)
      else none

/-- An access to IND_DATA by a master that the lock does not keep out: the indirect word, then IND_ADDR + 4 (R500). -/
def Dev.indStep (d : Dev) (m : Master) (sc : IndScope) (wr : Option Word) : Dev :=
  let at_ := indBase sc
  let a := (d.reg at_).toNat
  let got : Option (Word × Dev) := match wr with
    | none => (d.indRead sc a).map (fun w => (w, d))
    | some v => (d.indWrite m sc a v).map (fun d => (0, d))
  let e := match got with
    | some x => x.2
    | none => d.orReg (at_ + 0xC) 1
  let w := match got with
    | some x => x.1
    | none => 0
  ((e.setReg at_ (BitVec.ofNat 32 (a + 4))).indTouch sc).answer w

/-- Note the access of a master to an IND_DATA, and whether another master has accessed it in this lane cycle (R515). -/
def Dev.indNote (d : Dev) (m : Master) (sc : IndScope) : Dev :=
  { d with indUse := Store.set (fun _ => 0) d.indUse (indNum sc) (32 * (d.now + 1) + m.id.val) }
def Dev.indUsed (d : Dev) (m : Master) (sc : IndScope) : Bool :=
  let x := Store.get (fun _ => 0) d.indUse (indNum sc)
  x / 32 == d.now + 1 && x % 32 != m.id.val

/-- An access to IND_DATA (R500, R501). A lock that another master acquires in the same cycle is not acquired: the access completes
(R515). -/
def Dev.indData (d : Dev) (m : Master) (sc : IndScope) (wr : Option Word) : Dev :=
  if d.indShut m sc then
    if Store.get (fun _ => 0) d.indGot (indNum sc) = d.now + 1 then
      ((((d.raise Ev.IND_BUSY (d.indOwner sc) 0).setReg (indBase sc + 8) 0).indNote m sc).indStep m sc wr)
    else { d.indBusy m with resp := 0, respErr := true }
  else (d.indNote m sc).indStep m sc wr

/-- IND_DATA_ACCESS: a read of IND_DATA, or with `wr` a write. -/
def execIndDataAccess (m : Master) (sc : IndScope) (wr : Option Word) (s : State) : Host.Outcome State Fault Refusal :=
  s.done (s.dev.indData m sc wr)

/-- An access to IND_ADDR: a read, or with `wr` a write (R499, R501). -/
def Dev.indAddr (d : Dev) (m : Master) (sc : IndScope) (wr : Option Word) : Dev :=
  if d.indShut m sc then { d.indBusy m with resp := 0, respErr := true }
  else
    match wr with
    | none => (d.indTouch sc).answer (d.reg (indBase sc))
    | some v => (d.plainWrite m (indBase sc) v).indTouch sc

/-- A write of IND_LOCK: 1 to locked acquires, but not in the cycle of another master's access to IND_DATA; 0 by the owner releases
(R499, R501, R515). -/
def Dev.indLock (d : Dev) (m : Master) (sc : IndScope) (v : Word) : Dev :=
  let a := indBase sc + 8
  if bitOf v.toNat 8 then
    if d.indShut m sc || d.indUsed m sc then d.indBusy m
    else
      { (d.setReg a (BitVec.ofNat 32 (256 + m.id.val))).indTouch sc with
        indGot := Store.set (fun _ => 0) d.indGot (indNum sc) (if d.indLocked sc then 0 else d.now + 1) }
  else if d.indLocked sc && !d.indShut m sc then d.setReg a 0 else d

/-- IND_LOCK_WRITE. -/
def execIndLockWrite (m : Master) (sc : IndScope) (v : Word) (s : State) : Host.Outcome State Fault Refusal :=
  s.done (s.dev.indLock m sc v)

/-- IND_LOCK_EXPIRY: 1 ms after the owner's last access the lock is released and IND_STAT.expired set (R501). -/
def execIndLockExpiry (sc : IndScope) (s : State) : Host.Outcome State Fault Refusal :=
  let d := s.dev
  s.done (
    if d.indLocked sc && decide (Store.get (fun _ => 0) d.indAt (indNum sc) + cyclesPerMs ≤ d.now) then
      (d.setReg (indBase sc + 8) 0).orReg (indBase sc + 0xC) 2
    else d)

/-! ### Snapshots -/

/-- Offsets of repeated registers. -/
def every (base stride n : Nat) : List Nat := (List.range n).map (fun i => base + stride * i)

/-- The registers of a region that a snapshot copies (R504). -/
def snapRgn (r : Nat) : List Nat :=
  let blocks := (List.range 4).flatMap (fun i => [0x50, 0x54, 0x4C, 0x70].map (fun o => blkReg (4 * r + i) + o))
  let legs := (List.range 32).flatMap (fun j =>
    [0x18, 0x1C, 0x30, 0x34, 0x38, 0x3C, 0x40, 0x4C, 0x48].map (fun o => legReg (32 * r + j) + o))
  let own := every 0x1004 0x40 8 ++ every 0x1408 0x10 16 ++ [0x1604, 0x4C, 0x70] ++ every 0x1804 0x10 32 ++ every 0x1808 0x10 32 ++
    every 0x1A10 0x40 2 ++ every 0x1A14 0x40 2 ++ every 0x1C44 4 6 ++ every 0x1CC4 4 6 ++ every 0x1D10 0x20 2 ++
    every 0x2008 0x40 32 ++ every 0x201C 0x40 32 ++ every 0x2808 0x20 4 ++ every 0x280C 0x20 4 ++ every 0x1E04 8 16
  blocks ++ legs ++ own.map (fun o => rgnReg r + o)

/-- The registers of the chip that a snapshot copies (R504). -/
def snapChip : List Nat :=
  [0x40000008, 0x4000000C, 0x40000010, 0x40000034, 0x40000018, 0x4002004C, 0x40040010, 0x40040014, 0x40040100, 0x40020208,
    0x40020228, 0x40020320, 0x40050000] ++ every 0x40050120 0x40 32 ++ every 0x40050124 0x40 32 ++ [0x40030018] ++
    every 0x40030404 0x10 32 ++ (List.range 24).flatMap (fun p => [portReg p + 8, portReg p + 0xC]) ++
    [22, 23].flatMap (fun p => [portReg p + 0x114, portReg p + 0x118, portReg p + 0x11C]) ++
    (List.range 8).map (fun i => portReg (6 + i) + 0x110) ++ every 0x40011000 4 256

def snapList : IndScope → List Nat
  | .chip => snapChip
  | .region r => snapRgn r.val

/-- The registers of the HSL domain that a snapshot copies (R504). -/
def isHslSnap (a : Nat) : Bool := decide (a = 0x40020208 ∨ a = 0x40020228 ∨ a = 0x40020320)

/-- What the copy of a register takes: the three words of the time as they stand (R45); otherwise the word shown, as the lane cycle
began, for a register of the HSL as the HSL cycle began (R498, R504, R515). -/
def Dev.snapWord (d : Dev) (a : Nat) : Word × Dev :=
  if a = 0x40000008 then (d.ns.setWidth 32, d)
  else if a = 0x4000000C then ((d.ns >>> 32).setWidth 32, d)
  else if a = 0x40000010 then (BitVec.ofNat 32 (d.net.toNat % 65536), d)
  else
    let x := ({ d with regs := if isHslSnap a then d.regsHsl else d.regs0 } : Dev).view a
    (x.1, { x.2 with regs := d.regs })

/-- Copy the listed registers. -/
def Dev.copyRegs (d : Dev) : List Nat → Dev
  | [] => d
  | a :: t =>
    let x := d.snapWord a
    ({ x.2 with snaps := Store.set zeroWord x.2.snaps a x.1 } : Dev).copyRegs t

/-- A snapshot of a scope: its registers, its time, its number. Of several in one cycle one is taken (R503 to R505). -/
def Dev.takeSnap (d : Dev) (sc : IndScope) : Dev :=
  if Store.get (fun _ => 0) d.snapAt (indNum sc) = d.now + 1 then d
  else
    let a := indBase sc + 0x10
    let d1 := (d.copyRegs (snapList sc)).stamp (a + 4)
    let d2 := d1.setReg a (BitVec.ofNat 32 (withBits (d1.reg a).toNat 16 16 (bitsOf (d1.reg a).toNat 16 16 + 1)))
    { d2 with snapAt := Store.set (fun _ => 0) d2.snapAt (indNum sc) (d2.now + 1) }

/-- SNAP: SNAP_CTRL.snap of a scope. -/
def execSnap (_m : Master) (sc : IndScope) (s : State) : Host.Outcome State Fault Refusal := s.done (s.dev.takeSnap sc)

/-- Snapshots of the chip and of all regions. -/
def Dev.snapEvery (d : Dev) : Dev :=
  ((((d.takeSnap .chip).takeSnap (.region 0)).takeSnap (.region 1)).takeSnap (.region 2)).takeSnap (.region 3)

/-- SNAP_ALL: SNAP_CTRL.all of the chip. -/
def execSnapAll (_m : Master) (s : State) : Host.Outcome State Fault Refusal := s.done s.dev.snapEvery

/-- A write of SNAP_CTRL. -/
def Dev.writeSnap (d : Dev) (sc : IndScope) (v : Word) : Dev :=
  if sc = .chip ∧ bitOf v.toNat 1 = true then d.snapEvery
  else if bitOf v.toNat 0 then d.takeSnap sc else d

/-! ### The log and software events -/

/-- The oldest staged raise enters the log ring, unless that would fill it, judged against EVR_LOG_RD as the lane cycle began (R513,
R515). -/
def Dev.logOne (d : Dev) : Dev :=
  match d.stage with
  | [] => d
  | e :: t =>
    let wr := d.fld 0 F.EVR_LOG_WR_idx
    let d1 := { d with stage := t }
    if (wr + 1) % 256 = fget (Store.get resetWord d.regs0 F.EVR_LOG_RD_idx.off) F.EVR_LOG_RD_idx then d1.bump 0 F.EVR_STAT_lost
    else
      let a := 0x40012000 + 16 * wr
      let d2 := ((d1.setReg a (BitVec.ofNat 32 (pack [(e.src, 8), (e.scope, 8)]))).setReg (a + 4) e.arg)
      let d3 := (d2.setReg (a + 8) (e.ns.setWidth 32)).setReg (a + 12) ((e.ns >>> 32).setWidth 32)
      d3.setFld 0 F.EVR_LOG_WR_idx (wr + 1)

/-- LOG_ENTRY_WRITE: the router's step of one fabric cycle. -/
def execLogEntryWrite (s : State) : Host.Outcome State Fault Refusal := s.done s.dev.logOne

/-- A write of EVR_SWRAISE: each 1 raises its SWn with EVR_SWARG (R507, R514). -/
def Dev.softRaise (d : Dev) (v : Word) : Dev :=
  d.each ((List.range 16).filter (fun n => bitOf v.toNat n)) (fun n d =>
    d.raise (Ev.SW0 + n) scopeChip (d.fld 0 F.EVR_SWARG_arg))

/-- EVR_SWRAISE. -/
def execEvrSwraise (_m : Master) (v : Word) (s : State) : Host.Outcome State Fault Refusal := s.done (s.dev.softRaise v)

end Sys2Proof.Machine
end

