-- ==== Sys2Proof/Machine/LaneA.lean ====
section
/-! DEFINITION. The operations of the A slots (R125 to R128). -/

namespace Sys2Proof.Machine

/-- An operation that writes one general register, with the flags it sets. -/
def State.alu (s : State) (ln : BlockId) (sl : ASlot) (lat : Nat) (gd : GReg) (f : Lane → Word × Nat) :
    Host.Outcome State Fault Refusal :=
  s.done (s.dev.onRun ln (fun l => s.dev.laneWrite ln (aslotNum sl) lat (.g gd) (.word (f l).1) (f l).2))

/-- An operation with a Q15 result that may saturate. -/
def State.aluQ (s : State) (ln : BlockId) (sl : ASlot) (lat : Nat) (gd : GReg) (f : Lane → Int × Bool) :
    Host.Outcome State Fault Refusal :=
  s.alu ln sl lat gd (fun l => (ofQ15 (f l).1, flagIf (f l).2 flagSat))

/-- An operation that writes an accumulator. -/
def State.aluAcc (s : State) (ln : BlockId) (sl : ASlot) (lat : Nat) (accd : AReg) (f : Lane → LaneVal) :
    Host.Outcome State Fault Refusal :=
  s.done (s.dev.onRun ln (fun l => s.dev.laneWrite ln (aslotNum sl) lat (.acc accd) (f l) 0))

/-- An operation that writes a vector register. -/
def State.aluVec (s : State) (ln : BlockId) (sl : ASlot) (lat : Nat) (md : VReg) (f : Lane → VecResult) :
    Host.Outcome State Fault Refusal :=
  s.done (s.dev.onRun ln (fun l =>
    s.dev.laneWrite ln (aslotNum sl) lat (.vec md) (.vec (f l).m (f l).e) (f l).flags))

/-- A fused transform: two Q15 results in a register pair (R124, R126). -/
def State.aluPair (s : State) (ln : BlockId) (sl : ASlot) (gd : GReg) (f : Lane → Int × Int × Bool) :
    Host.Outcome State Fault Refusal :=
  s.done (s.dev.onRun ln (fun l =>
    let r := f l
    (s.dev.laneWrite ln (aslotNum sl) 3 (.g (pairBase gd)) (.word (ofQ15 r.1)) (flagIf r.2.2 flagSat)).laneWrite ln (aslotNum sl) 3
      (.g (regPlus (pairBase gd) 1)) (.word (ofQ15 r.2.1)) 0))

/-- NOP changes nothing (R125, R129, R131). -/
def execNop (_ln : BlockId) (_sl : Slot) (s : State) : Host.Outcome State Fault Refusal := s.done s.dev

/-- An opcode that its slot does not assign: as NOP, and LANE_ILLEGAL is raised (R120). -/
def execUnassignedOpcode (ln : BlockId) (_sl : Slot) (s : State) : Host.Outcome State Fault Refusal :=
  s.done (s.dev.onRun ln (fun _ => s.dev.laneIllegal ln))

/-- ADD: gd = gs1 + gs2 modulo 2^32. -/
def execAdd (ln : BlockId) (sl : ASlot) (gd gs1 gs2 : GReg) (s : State) :
    Host.Outcome State Fault Refusal :=
  s.alu ln sl 1 gd (fun l => (l.gr gs1 + l.gr gs2, 0))

/-- ADDI: gd = gs1 + sext(imm). -/
def execAddi (ln : BlockId) (sl : ASlot) (gd gs1 : GReg) (imm : BitVec 11) (s : State) :
    Host.Outcome State Fault Refusal :=
  s.alu ln sl 1 gd (fun l => (l.gr gs1 + imm.signExtend 32, 0))

/-- SUB: gd = gs1 − gs2 modulo 2^32. -/
def execSub (ln : BlockId) (sl : ASlot) (gd gs1 gs2 : GReg) (s : State) :
    Host.Outcome State Fault Refusal :=
  s.alu ln sl 1 gd (fun l => (l.gr gs1 - l.gr gs2, 0))

/-- AND: bitwise and. -/
def execAnd (ln : BlockId) (sl : ASlot) (gd gs1 gs2 : GReg) (s : State) :
    Host.Outcome State Fault Refusal :=
  s.alu ln sl 1 gd (fun l => (l.gr gs1 &&& l.gr gs2, 0))

/-- OR: bitwise or. -/
def execOr (ln : BlockId) (sl : ASlot) (gd gs1 gs2 : GReg) (s : State) :
    Host.Outcome State Fault Refusal :=
  s.alu ln sl 1 gd (fun l => (l.gr gs1 ||| l.gr gs2, 0))

/-- XOR: bitwise exclusive or. -/
def execXor (ln : BlockId) (sl : ASlot) (gd gs1 gs2 : GReg) (s : State) :
    Host.Outcome State Fault Refusal :=
  s.alu ln sl 1 gd (fun l => (l.gr gs1 ^^^ l.gr gs2, 0))

/-- SHL: left shift. -/
def execShl (ln : BlockId) (sl : ASlot) (gd gs1 : GReg) (sh : Shift) (s : State) :
    Host.Outcome State Fault Refusal :=
  s.alu ln sl 1 gd (fun l => (l.gr gs1 <<< l.shiftOf sh, 0))

/-- SHRA: arithmetic right shift. -/
def execShra (ln : BlockId) (sl : ASlot) (gd gs1 : GReg) (sh : Shift) (s : State) :
    Host.Outcome State Fault Refusal :=
  s.alu ln sl 1 gd (fun l => ((l.gr gs1).sshiftRight (l.shiftOf sh), 0))

/-- MOVL: the constant, zero-extended. -/
def execMovl (ln : BlockId) (sl : ASlot) (gd : GReg) (k : BitVec 16) (s : State) :
    Host.Outcome State Fault Refusal :=
  s.alu ln sl 1 gd (fun _ => (k.setWidth 32, 0))

/-- MOVH: the constant to bits [31:16]; bits [15:0] keep. -/
def execMovh (ln : BlockId) (sl : ASlot) (gd : GReg) (k : BitVec 16) (s : State) :
    Host.Outcome State Fault Refusal :=
  s.alu ln sl 1 gd (fun l => (k ++ (l.gr gd).setWidth 16, 0))

/-- CMPLT: 1 where gs1 < gs2 as signed integers, else 0. -/
def execCmplt (ln : BlockId) (sl : ASlot) (gd gs1 gs2 : GReg) (s : State) :
    Host.Outcome State Fault Refusal :=
  s.alu ln sl 1 gd (fun l => (if (l.gr gs1).toInt < (l.gr gs2).toInt then 1 else 0, 0))

/-- QADD: Q15 sum, saturating (R88). -/
def execQadd (ln : BlockId) (sl : ASlot) (gd gs1 gs2 : GReg) (s : State) :
    Host.Outcome State Fault Refusal :=
  s.aluQ ln sl 1 gd (fun l => satQ15 (q15 (l.gr gs1) + q15 (l.gr gs2)))

/-- QSUB: Q15 difference, saturating (R88). -/
def execQsub (ln : BlockId) (sl : ASlot) (gd gs1 gs2 : GReg) (s : State) :
    Host.Outcome State Fault Refusal :=
  s.aluQ ln sl 1 gd (fun l => satQ15 (q15 (l.gr gs1) - q15 (l.gr gs2)))

/-- QNEG: Q15 negation, saturating (R88). -/
def execQneg (ln : BlockId) (sl : ASlot) (gd gs1 : GReg) (s : State) :
    Host.Outcome State Fault Refusal :=
  s.aluQ ln sl 1 gd (fun l => satQ15 (-q15 (l.gr gs1)))

/-- QABS: Q15 absolute value, saturating (R88). -/
def execQabs (ln : BlockId) (sl : ASlot) (gd gs1 : GReg) (s : State) :
    Host.Outcome State Fault Refusal :=
  s.aluQ ln sl 1 gd (fun l => absQ15 (q15 (l.gr gs1)))

/-- QMUL: Q15 product rounded by R90, latency 2. -/
def execQmul (ln : BlockId) (sl : ASlot) (gd gs1 gs2 : GReg) (s : State) :
    Host.Outcome State Fault Refusal :=
  s.aluQ ln sl 2 gd (fun l => satQ15 (roundShift (q15 (l.gr gs1) * q15 (l.gr gs2)) 15))

/-- LIM: gs1 clamped to ±|gs2|; the lim bit tells whether it clamped, sat comes from forming |gs2| (R128). -/
def execLim (ln : BlockId) (sl : ASlot) (gd gs1 gs2 : GReg) (s : State) :
    Host.Outcome State Fault Refusal :=
  s.done (s.dev.onRun ln (fun l =>
    let lim := absQ15 (q15 (l.gr gs2))
    let x := q15 (l.gr gs1)
    let y := clampInt (-lim.1) lim.1 x
    s.dev.laneWriteLim ln (aslotNum sl) 1 (.g gd) (.word (ofQ15 y)) (flagIf lim.2 flagSat) (x != y)))

/-- RAMP: gd moves towards gs1 by at most |gs2|; sat comes from forming |gs2| only (R128). -/
def execRamp (ln : BlockId) (sl : ASlot) (gd gs1 gs2 : GReg) (s : State) :
    Host.Outcome State Fault Refusal :=
  s.alu ln sl 1 gd (fun l =>
    let step := absQ15 (q15 (l.gr gs2))
    let r := q15 (l.gr gd)
    (ofQ15 (r + clampInt (-step.1) step.1 (q15 (l.gr gs1) - r)), flagIf step.2 flagSat))

/-- MPY: the exact product, latency 2 (R89). -/
def execMpy (ln : BlockId) (sl : ASlot) (accd : AReg) (gs1 gs2 : GReg) (s : State) :
    Host.Outcome State Fault Refusal :=
  s.aluAcc ln sl 2 accd (fun l => .acc (BitVec.ofInt 40 (q15 (l.gr gs1) * q15 (l.gr gs2))))

/-- MAC: the product added to the accumulator in the second cycle, saturating with ovf (R89, R122). -/
def execMac (ln : BlockId) (sl : ASlot) (accd : AReg) (gs1 gs2 : GReg) (s : State) :
    Host.Outcome State Fault Refusal :=
  s.aluAcc ln sl 2 accd (fun l => .addProduct (q15 (l.gr gs1) * q15 (l.gr gs2)))

/-- MSU: the product subtracted from the accumulator in the second cycle (R89, R122). -/
def execMsu (ln : BlockId) (sl : ASlot) (accd : AReg) (gs1 gs2 : GReg) (s : State) :
    Host.Outcome State Fault Refusal :=
  s.aluAcc ln sl 2 accd (fun l => .addProduct (-(q15 (l.gr gs1) * q15 (l.gr gs2))))

/-- EXTR: Q15 extraction with a left shift (R90). -/
def execExtr (ln : BlockId) (sl : ASlot) (gd : GReg) (accs1 : AReg) (sh : BitVec 4) (s : State) :
    Host.Outcome State Fault Refusal :=
  s.aluQ ln sl 1 gd (fun l => extract (l.ac accs1) sh.toNat)

/-- ACCLD: the Q15 value of gs1, exact. -/
def execAccld (ln : BlockId) (sl : ASlot) (accd : AReg) (gs1 : GReg) (s : State) :
    Host.Outcome State Fault Refusal :=
  s.aluAcc ln sl 1 accd (fun l => .acc (BitVec.ofInt 40 (q15 (l.gr gs1) * 2 ^ 15)))

/-- CLARKE (R126). -/
def execClarke (ln : BlockId) (sl : ASlot) (gd gs1 gs2 : GReg) (s : State) :
    Host.Outcome State Fault Refusal :=
  s.aluPair ln sl gd (fun l => clarkeOf (q15 (l.gr gs1)) (q15 (l.gr gs2)))

/-- PARK of the pair gs1, gs1+1 at the angle gs2 (R126). -/
def execPark (ln : BlockId) (sl : ASlot) (gd gs1 gs2 : GReg) (s : State) :
    Host.Outcome State Fault Refusal :=
  s.aluPair ln sl gd (fun l =>
    parkOf (q15 (l.gr (pairBase gs1))) (q15 (l.gr (regPlus (pairBase gs1) 1))) (l.gr gs2))

/-- IPARK of the pair gs1, gs1+1 at the angle gs2 (R126). -/
def execIpark (ln : BlockId) (sl : ASlot) (gd gs1 gs2 : GReg) (s : State) :
    Host.Outcome State Fault Refusal :=
  s.aluPair ln sl gd (fun l =>
    iparkOf (q15 (l.gr (pairBase gs1))) (q15 (l.gr (regPlus (pairBase gs1) 1))) (l.gr gs2))

/-- SVPWM: three duties to gd, gd+1 and gd+2, counted modulo 32 (R124, R127). -/
def execSvpwm (ln : BlockId) (sl : ASlot) (gd gs1 : GReg) (s : State) :
    Host.Outcome State Fault Refusal :=
  s.done (s.dev.onRun ln (fun l =>
    let r := svpwmOf (q15 (l.gr (pairBase gs1))) (q15 (l.gr (regPlus (pairBase gs1) 1)))
    let put := fun (d : Dev) (i : Nat) (f : Nat) =>
      d.laneWrite ln (aslotNum sl) 3 (.g (regPlus gd i)) (.word (ofQ15 (r.1.getD i 0))) f
    put (put (put s.dev 0 (flagIf r.2 flagSat)) 1 0) 2 0))

/-- VADD: element-wise sum or difference (R93). -/
def execVadd (ln : BlockId) (sl : ASlot) (md ms1 ms2 : VReg) (subtract : Bool) (s : State) :
    Host.Outcome State Fault Refusal :=
  s.aluVec ln sl 2 md (fun l => vecAdd (l.vmant ms1) (l.vexp ms1) (l.vmant ms2) (l.vexp ms2) subtract)

/-- VMUL: element-wise product (R94). -/
def execVmul (ln : BlockId) (sl : ASlot) (md ms1 ms2 : VReg) (s : State) :
    Host.Outcome State Fault Refusal :=
  s.aluVec ln sl 2 md (fun l => vecMul (l.vmant ms1) (l.vexp ms1) (l.vmant ms2) (l.vexp ms2))

/-- VSMUL: every element times a Q15 scalar (R94). -/
def execVsmul (ln : BlockId) (sl : ASlot) (md ms1 : VReg) (gs2 : GReg) (s : State) :
    Host.Outcome State Fault Refusal :=
  s.aluVec ln sl 2 md (fun l => vecScalar (l.vmant ms1) (l.vexp ms1) (q15 (l.gr gs2)))

/-- BNORM: normalisation, latency 3 (R92). -/
def execBnorm (ln : BlockId) (sl : ASlot) (md ms1 : VReg) (s : State) :
    Host.Outcome State Fault Refusal :=
  s.aluVec ln sl 3 md (fun l => vecNorm (l.vmant ms1) (l.vexp ms1))

/-- VSCL: the exponent plus sext(imm), within the limits of R95. -/
def execVscl (ln : BlockId) (sl : ASlot) (md ms1 : VReg) (imm : BitVec 8) (s : State) :
    Host.Outcome State Fault Refusal :=
  s.aluVec ln sl 1 md (fun l => limitExp (vecElems (l.vmant ms1)) ((l.vexp ms1).toInt + imm.toInt))

/-- VTOQ: one element to Q15 (R96). -/
def execVtoq (ln : BlockId) (sl : ASlot) (gd : GReg) (ms1 : VReg) (el : BitVec 3) (s : State) :
    Host.Outcome State Fault Refusal :=
  s.aluQ ln sl 1 gd (fun l => vecToQ (l.vmant ms1) (l.vexp ms1) el.toNat)

/-- QTOV: one element from a Q15 value, every other element and the exponent 0 (R96). -/
def execQtov (ln : BlockId) (sl : ASlot) (md : VReg) (gs1 : GReg) (el : BitVec 3) (s : State) :
    Host.Outcome State Fault Refusal :=
  s.aluVec ln sl 1 md (fun l => ⟨BitVec.ofNat 128 ((l.gr gs1).toNat % 65536 * 2 ^ (16 * el.toNat)), 0, 0⟩)

end Sys2Proof.Machine
end

