-- ==== Sys2Proof/Decode.lean ====
section
/-! DEFINITION. Reading lane slot words and writing them (R118 to R131), and the reading of a word by the bits of the
opcode table, which gives no row any bits. -/

namespace Sys2Proof

open Sys2Proof.Machine (bitsOf bitOf)

/-! ### Fields of a slot word (R119) -/

/-- The general registers a word names in its d, s1 and s2 fields. -/
def rd (w : Nat) : GReg := Fin.ofNat 32 (w / 2 ^ 21)
def rs1 (w : Nat) : GReg := Fin.ofNat 32 (w / 2 ^ 16)
def rs2 (w : Nat) : GReg := Fin.ofNat 32 (w / 2 ^ 11)
/-- The accumulators a word names: bits [1:0] of the field. -/
def ad (w : Nat) : AReg := Fin.ofNat 4 (w / 2 ^ 21)
def as1 (w : Nat) : AReg := Fin.ofNat 4 (w / 2 ^ 16)
/-- The vector registers a word names: bits [2:0] of the field. -/
def vd (w : Nat) : VReg := Fin.ofNat 8 (w / 2 ^ 21)
def vs1 (w : Nat) : VReg := Fin.ofNat 8 (w / 2 ^ 16)
def vs2 (w : Nat) : VReg := Fin.ofNat 8 (w / 2 ^ 11)
/-- The shift amount of SHL and SHRA (R125). -/
def shiftField (w : Nat) : Shift := if bitOf w 5 then .reg (rs2 w) else .imm (BitVec.ofNat 5 w)
/-- The operands of PUT and GET (R131). -/
def exchField (w : Nat) : ExchOp :=
  { ch := BitVec.ofNat 8 (w / 2 ^ 13), wo := BitVec.ofNat 5 (w / 2 ^ 8), n := BitVec.ofNat 3 (w / 2 ^ 5), vec := bitOf w 4, d := rd w }
/-- An A slot as one of the four. -/
def aSlot : ASlot → Slot
  | .a0 => .a0
  | .a1 => .a1

/-! ### Decoding (R120, R125, R129, R131) -/

/-- The operation of an A slot word. -/
def decodeA (ln : BlockId) (sl : ASlot) (w : Nat) : Instr :=
  match bitsOf w 26 6 with
  | 0x00 => .nop ln (aSlot sl)
  | 0x01 => .add ln sl (rd w) (rs1 w) (rs2 w)
  | 0x02 => .addi ln sl (rd w) (rs1 w) (BitVec.ofNat 11 w)
  | 0x03 => .sub ln sl (rd w) (rs1 w) (rs2 w)
  | 0x04 => .and ln sl (rd w) (rs1 w) (rs2 w)
  | 0x05 => .or ln sl (rd w) (rs1 w) (rs2 w)
  | 0x06 => .xor ln sl (rd w) (rs1 w) (rs2 w)
  | 0x07 => .shl ln sl (rd w) (rs1 w) (shiftField w)
  | 0x08 => .shra ln sl (rd w) (rs1 w) (shiftField w)
  | 0x09 => .movl ln sl (rd w) (BitVec.ofNat 16 w)
  | 0x0A => .movh ln sl (rd w) (BitVec.ofNat 16 w)
  | 0x0B => .cmplt ln sl (rd w) (rs1 w) (rs2 w)
  | 0x10 => .qadd ln sl (rd w) (rs1 w) (rs2 w)
  | 0x11 => .qsub ln sl (rd w) (rs1 w) (rs2 w)
  | 0x12 => .qneg ln sl (rd w) (rs1 w)
  | 0x13 => .qabs ln sl (rd w) (rs1 w)
  | 0x14 => .qmul ln sl (rd w) (rs1 w) (rs2 w)
  | 0x15 => .lim ln sl (rd w) (rs1 w) (rs2 w)
  | 0x16 => .ramp ln sl (rd w) (rs1 w) (rs2 w)
  | 0x18 => .mpy ln sl (ad w) (rs1 w) (rs2 w)
  | 0x19 => .mac ln sl (ad w) (rs1 w) (rs2 w)
  | 0x1A => .msu ln sl (ad w) (rs1 w) (rs2 w)
  | 0x1B => .extr ln sl (rd w) (as1 w) (BitVec.ofNat 4 w)
  | 0x1C => .accld ln sl (ad w) (rs1 w)
  | 0x20 => .clarke ln sl (rd w) (rs1 w) (rs2 w)
  | 0x21 => .park ln sl (rd w) (rs1 w) (rs2 w)
  | 0x22 => .ipark ln sl (rd w) (rs1 w) (rs2 w)
  | 0x23 => .svpwm ln sl (rd w) (rs1 w)
  | 0x28 => .vadd ln sl (vd w) (vs1 w) (vs2 w) (bitOf w 0)
  | 0x29 => .vmul ln sl (vd w) (vs1 w) (vs2 w)
  | 0x2A => .vsmul ln sl (vd w) (vs1 w) (rs2 w)
  | 0x2B => .bnorm ln sl (vd w) (vs1 w)
  | 0x2C => .vscl ln sl (vd w) (vs1 w) (BitVec.ofNat 8 w)
  | 0x2D => .vtoq ln sl (rd w) (vs1 w) (BitVec.ofNat 3 w)
  | 0x2E => .qtov ln sl (vd w) (rs1 w) (BitVec.ofNat 3 w)
  | _ => .unassignedOpcode ln (aSlot sl)

/-- The operation of an M slot word. -/
def decodeM (ln : BlockId) (w : Nat) : Instr :=
  match bitsOf w 26 6 with
  | 0x00 => .nop ln .m
  | 0x01 => .ld ln (rd w) (rs1 w) (BitVec.ofNat 11 w) (BitVec.ofNat 3 (w / 2 ^ 13))
  | 0x02 => .ldp ln (rd w) (rs1 w) (BitVec.ofNat 11 w)
  | 0x03 => .st ln (rs1 w) (BitVec.ofNat 11 w) (rs2 w) (BitVec.ofNat 3 (w / 2 ^ 23))
  | 0x04 => .stp ln (rs1 w) (BitVec.ofNat 11 w) (rs2 w)
  | 0x05 => .vld ln (vd w) (rs1 w) (BitVec.ofNat 11 w)
  | 0x06 => .vst ln (rs1 w) (BitVec.ofNat 11 w) (vs2 w)
  | 0x08 => .gtab ln (rd w) (rs1 w) (BitVec.ofNat 4 w)
  | 0x09 => .ftab ln (rd w) (rs1 w) (BitVec.ofNat 2 w)
  | _ => .unassignedOpcode ln .m

/-- WAIT_PHASE by its mode (R136). -/
def decodeWait (ln : BlockId) (w : Nat) : Instr :=
  match bitsOf w 23 3 with
  | 0 => .waitPhaseIntake ln
  | 1 => .waitPhaseCompute ln
  | 2 => .waitPhaseExchange ln
  | 3 => .waitPhaseCommit ln
  | 4 => .waitPhaseEvent ln (BitVec.ofNat 5 (w / 2 ^ 16)) (BitVec.ofNat 16 w)
  | m => .waitPhaseReserved ln (Fin.ofNat 3 (m - 5))

/-- The operation of a C slot word. -/
def decodeC (ln : BlockId) (w : Nat) : Instr :=
  match bitsOf w 26 6 with
  | 0x00 => .nop ln .c
  | 0x01 => .br ln (BitVec.ofNat 12 w)
  | 0x02 => .brnz ln (rs1 w) (bitOf w 12) (BitVec.ofNat 12 w)
  | 0x03 => .brc ln (BitVec.ofNat 5 (w / 2 ^ 16)) (bitOf w 13) (bitOf w 12) (BitVec.ofNat 12 w)
  | 0x04 => .loop ln (BitVec.ofNat 12 (w / 2 ^ 14)) (BitVec.ofNat 12 w)
  | 0x05 => .call ln (BitVec.ofNat 12 w)
  | 0x06 => .ret ln
  | 0x08 => decodeWait ln w
  | 0x09 => .put ln (exchField w) (bitOf w 3)
  | 0x0A => .get ln (exchField w)
  | 0x0B => .commit ln (rd w) (rs1 w)
  | 0x0C => .sig ln (Fin.ofNat 4 w)
  | _ => .unassignedOpcode ln .c

/-- The operation a slot word of lane `ln` spells. -/
def decodeSlot (ln : BlockId) (sl : Slot) (w : Word) : Instr :=
  match sl with
  | .a0 => decodeA ln .a0 w.toNat
  | .a1 => decodeA ln .a1 w.toNat
  | .m => decodeM ln w.toNat
  | .c => decodeC ln w.toNat

/-! ### Encoding -/

/-- A slot word from its opcode, its d, s1 and s2 fields and the bits from 0 up (R119). -/
def slotWord (op d s1 s2 low : Nat) : Word := BitVec.ofNat 32 (op * 2 ^ 26 + d * 2 ^ 21 + s1 * 2 ^ 16 + s2 * 2 ^ 11 + low)

/-- 1 where a condition holds. -/
def oneIf (b : Bool) : Nat := if b then 1 else 0
/-- The s2 field and the immediate of a shift amount (R125). -/
def shiftReg : Shift → Nat
  | .imm _ => 0
  | .reg r => r.val
def shiftImm : Shift → Nat
  | .imm n => n.toNat
  | .reg _ => 2 ^ 5
/-- The bits of PUT and GET below the d field (R131). -/
def exchBits (x : ExchOp) : Nat := 2 ^ 13 * x.ch.toNat + 2 ^ 8 * x.wo.toNat + 2 ^ 5 * x.n.toNat + 2 ^ 4 * oneIf x.vec

/-- The word of a slot operation, with every unused field 0; none for a command that is no slot operation, and for an
unassigned opcode, which many words spell. -/
def encodeSlot (i : Instr) : Option Word :=
  match i with
  | .nop _ _ => some 0
  | .add _ _ gd gs1 gs2 => some (slotWord 1 gd.val gs1.val gs2.val 0)
  | .sub _ _ gd gs1 gs2 => some (slotWord 3 gd.val gs1.val gs2.val 0)
  | .and _ _ gd gs1 gs2 => some (slotWord 4 gd.val gs1.val gs2.val 0)
  | .or _ _ gd gs1 gs2 => some (slotWord 5 gd.val gs1.val gs2.val 0)
  | .xor _ _ gd gs1 gs2 => some (slotWord 6 gd.val gs1.val gs2.val 0)
  | .cmplt _ _ gd gs1 gs2 => some (slotWord 11 gd.val gs1.val gs2.val 0)
  | .qadd _ _ gd gs1 gs2 => some (slotWord 16 gd.val gs1.val gs2.val 0)
  | .qsub _ _ gd gs1 gs2 => some (slotWord 17 gd.val gs1.val gs2.val 0)
  | .qmul _ _ gd gs1 gs2 => some (slotWord 20 gd.val gs1.val gs2.val 0)
  | .lim _ _ gd gs1 gs2 => some (slotWord 21 gd.val gs1.val gs2.val 0)
  | .ramp _ _ gd gs1 gs2 => some (slotWord 22 gd.val gs1.val gs2.val 0)
  | .clarke _ _ gd gs1 gs2 => some (slotWord 32 gd.val gs1.val gs2.val 0)
  | .park _ _ gd gs1 gs2 => some (slotWord 33 gd.val gs1.val gs2.val 0)
  | .ipark _ _ gd gs1 gs2 => some (slotWord 34 gd.val gs1.val gs2.val 0)
  | .qneg _ _ gd gs1 => some (slotWord 18 gd.val gs1.val 0 0)
  | .qabs _ _ gd gs1 => some (slotWord 19 gd.val gs1.val 0 0)
  | .svpwm _ _ gd gs1 => some (slotWord 35 gd.val gs1.val 0 0)
  | .mpy _ _ accd gs1 gs2 => some (slotWord 24 accd.val gs1.val gs2.val 0)
  | .mac _ _ accd gs1 gs2 => some (slotWord 25 accd.val gs1.val gs2.val 0)
  | .msu _ _ accd gs1 gs2 => some (slotWord 26 accd.val gs1.val gs2.val 0)
  | .addi _ _ gd gs1 imm => some (slotWord 2 gd.val gs1.val 0 imm.toNat)
  | .shl _ _ gd gs1 sh => some (slotWord 7 gd.val gs1.val (shiftReg sh) (shiftImm sh))
  | .shra _ _ gd gs1 sh => some (slotWord 8 gd.val gs1.val (shiftReg sh) (shiftImm sh))
  | .movl _ _ gd k => some (slotWord 9 gd.val 0 0 k.toNat)
  | .movh _ _ gd k => some (slotWord 10 gd.val 0 0 k.toNat)
  | .extr _ _ gd accs1 sh => some (slotWord 0x1B gd.val accs1.val 0 sh.toNat)
  | .accld _ _ accd gs1 => some (slotWord 0x1C accd.val gs1.val 0 0)
  | .vadd _ _ md ms1 ms2 sub => some (slotWord 0x28 md.val ms1.val ms2.val (oneIf sub))
  | .vmul _ _ md ms1 ms2 => some (slotWord 0x29 md.val ms1.val ms2.val 0)
  | .vsmul _ _ md ms1 gs2 => some (slotWord 0x2A md.val ms1.val gs2.val 0)
  | .bnorm _ _ md ms1 => some (slotWord 0x2B md.val ms1.val 0 0)
  | .vscl _ _ md ms1 imm => some (slotWord 0x2C md.val ms1.val 0 imm.toNat)
  | .vtoq _ _ gd ms1 el => some (slotWord 0x2D gd.val ms1.val 0 el.toNat)
  | .qtov _ _ md gs1 el => some (slotWord 0x2E md.val gs1.val 0 el.toNat)
  | .ld _ gd gs1 imm size => some (slotWord 1 gd.val gs1.val 0 (imm.toNat + 2 ^ 13 * size.toNat))
  | .ldp _ gd gs1 imm => some (slotWord 2 gd.val gs1.val 0 imm.toNat)
  | .st _ gs1 imm gs2 size => some (slotWord 3 (4 * size.toNat) gs1.val gs2.val imm.toNat)
  | .stp _ gs1 imm gs2 => some (slotWord 4 0 gs1.val gs2.val imm.toNat)
  | .vld _ md gs1 imm => some (slotWord 5 md.val gs1.val 0 imm.toNat)
  | .vst _ gs1 imm ms2 => some (slotWord 6 0 gs1.val ms2.val imm.toNat)
  | .gtab _ gd gs1 t => some (slotWord 8 gd.val gs1.val 0 t.toNat)
  | .ftab _ gd gs1 t => some (slotWord 9 gd.val gs1.val 0 t.toNat)
  | .br _ off => some (slotWord 1 0 0 0 off.toNat)
  | .brnz _ gs1 sense off => some (slotWord 2 0 gs1.val 0 (off.toNat + 2 ^ 12 * oneIf sense))
  | .brc _ bit prev sense off => some (slotWord 3 0 bit.toNat 0 (off.toNat + 2 ^ 12 * oneIf sense + 2 ^ 13 * oneIf prev))
  | .loop _ last cnt => some (slotWord 4 0 0 0 (cnt.toNat + 2 ^ 14 * last.toNat))
  | .call _ target => some (slotWord 5 0 0 0 target.toNat)
  | .ret _ => some (slotWord 6 0 0 0 0)
  | .put _ x sealing => some (slotWord 9 x.d.val 0 0 (exchBits x + 2 ^ 3 * oneIf sealing))
  | .get _ x => some (slotWord 10 x.d.val 0 0 (exchBits x))
  | .commit _ gd leg => some (slotWord 11 gd.val leg.val 0 0)
  | .sig _ n => some (slotWord 12 0 0 0 n.val)
  | .waitPhaseIntake _ => some (slotWord 8 0 0 0 0)
  | .waitPhaseCompute _ => some (slotWord 8 4 0 0 0)
  | .waitPhaseExchange _ => some (slotWord 8 8 0 0 0)
  | .waitPhaseCommit _ => some (slotWord 8 12 0 0 0)
  | .waitPhaseEvent _ bit dl => some (slotWord 8 16 bit.toNat 0 dl.toNat)
  | .waitPhaseReserved _ mode => some (slotWord 8 (4 * (mode.val + 5)) 0 0 0)
  | _ => none

/-- The lane and the slot a slot operation belongs to. -/
def laneSlot (i : Instr) : Option (BlockId × Slot) :=
  match i with
  | .nop ln sl | .unassignedOpcode ln sl => some (ln, sl)
  | .add ln sl _ _ _ => some (ln, aSlot sl)
  | .sub ln sl _ _ _ => some (ln, aSlot sl)
  | .and ln sl _ _ _ => some (ln, aSlot sl)
  | .or ln sl _ _ _ => some (ln, aSlot sl)
  | .xor ln sl _ _ _ => some (ln, aSlot sl)
  | .cmplt ln sl _ _ _ => some (ln, aSlot sl)
  | .qadd ln sl _ _ _ => some (ln, aSlot sl)
  | .qsub ln sl _ _ _ => some (ln, aSlot sl)
  | .qmul ln sl _ _ _ => some (ln, aSlot sl)
  | .lim ln sl _ _ _ => some (ln, aSlot sl)
  | .ramp ln sl _ _ _ => some (ln, aSlot sl)
  | .clarke ln sl _ _ _ => some (ln, aSlot sl)
  | .park ln sl _ _ _ => some (ln, aSlot sl)
  | .ipark ln sl _ _ _ => some (ln, aSlot sl)
  | .qneg ln sl _ _ => some (ln, aSlot sl)
  | .qabs ln sl _ _ => some (ln, aSlot sl)
  | .svpwm ln sl _ _ => some (ln, aSlot sl)
  | .mpy ln sl _ _ _ => some (ln, aSlot sl)
  | .mac ln sl _ _ _ => some (ln, aSlot sl)
  | .msu ln sl _ _ _ => some (ln, aSlot sl)
  | .addi ln sl _ _ _ => some (ln, aSlot sl)
  | .shl ln sl _ _ _ => some (ln, aSlot sl)
  | .shra ln sl _ _ _ => some (ln, aSlot sl)
  | .movl ln sl _ _ => some (ln, aSlot sl)
  | .movh ln sl _ _ => some (ln, aSlot sl)
  | .extr ln sl _ _ _ => some (ln, aSlot sl)
  | .accld ln sl _ _ => some (ln, aSlot sl)
  | .vadd ln sl _ _ _ _ => some (ln, aSlot sl)
  | .vmul ln sl _ _ _ => some (ln, aSlot sl)
  | .vsmul ln sl _ _ _ => some (ln, aSlot sl)
  | .bnorm ln sl _ _ => some (ln, aSlot sl)
  | .vscl ln sl _ _ _ => some (ln, aSlot sl)
  | .vtoq ln sl _ _ _ => some (ln, aSlot sl)
  | .qtov ln sl _ _ _ => some (ln, aSlot sl)
  | .ld ln _ _ _ _ => some (ln, .m)
  | .ldp ln _ _ _ => some (ln, .m)
  | .st ln _ _ _ _ => some (ln, .m)
  | .stp ln _ _ _ => some (ln, .m)
  | .vld ln _ _ _ => some (ln, .m)
  | .vst ln _ _ _ => some (ln, .m)
  | .gtab ln _ _ _ => some (ln, .m)
  | .ftab ln _ _ _ => some (ln, .m)
  | .br ln _ => some (ln, .c)
  | .brnz ln _ _ _ => some (ln, .c)
  | .brc ln _ _ _ _ => some (ln, .c)
  | .loop ln _ _ => some (ln, .c)
  | .call ln _ => some (ln, .c)
  | .ret ln => some (ln, .c)
  | .put ln _ _ => some (ln, .c)
  | .get ln _ => some (ln, .c)
  | .commit ln _ _ => some (ln, .c)
  | .sig ln _ => some (ln, .c)
  | .waitPhaseIntake ln | .waitPhaseCompute ln | .waitPhaseExchange ln | .waitPhaseCommit ln => some (ln, .c)
  | .waitPhaseEvent ln _ _ => some (ln, .c)
  | .waitPhaseReserved ln _ => some (ln, .c)
  | _ => none

/-- The command a word spells by the table's bits: none, because spec/opcode_table.json gives no row any bits. -/
def decodeTableWord (_nbits _w : Nat) : Option Instr := none

end Sys2Proof
end

