-- ==== Sys2Proof/Machine/LoadCheck.lean ====
section
/-! DEFINITION. What the loader checks of a lane program: encoding, control flow, ownership, exchange pairing, and the
walk over its bundles with collisions, bounds, idle windows and the worst case (R141 to R150). -/

namespace Sys2Proof.Machine

/-- Where a check failed: the code of R154, the bundle and the slot. -/
structure LoadFail where
  code : Nat
  bundle : Nat
  slot : Nat
  deriving DecidableEq, Repr

/-- The four operations of a bundle. -/
structure BundleOps where
  a0 : Instr
  a1 : Instr
  m : Instr
  c : Instr
  deriving DecidableEq, Repr

/-- The slot words of a bundle (R118), and its operations for a lane. -/
def slotOfBundle (w : QWord) (i : Nat) : Word := BitVec.ofNat 32 (w.toNat / 2 ^ (32 * i))
def bundleOps (ln : BlockId) (w : QWord) : BundleOps :=
  ⟨decodeSlot ln .a0 (slotOfBundle w 0), decodeSlot ln .a1 (slotOfBundle w 1), decodeSlot ln .m (slotOfBundle w 2),
    decodeSlot ln .c (slotOfBundle w 3)⟩

/-- The first failure among checks given in order. -/
def firstFail : List (Option LoadFail) → Option LoadFail
  | [] => none
  | some f :: _ => some f
  | none :: t => firstFail t

/-! ### Encoding (R141) -/

/-- Register pairs, quads and runs that an operation names are aligned and do not wrap, and a size code is assigned. -/
def operandsFit : Instr → Bool
  | .clarke _ _ gd _ _ => gd.val % 2 == 0
  | .park _ _ gd gs1 _ | .ipark _ _ gd gs1 _ => gd.val % 2 == 0 && gs1.val % 2 == 0
  | .svpwm _ _ gd gs1 => decide (gd.val ≤ 29) && gs1.val % 2 == 0
  | .ld _ _ _ _ size => decide (size.toNat ≤ 4)
  | .st _ _ _ _ size => decide (size.toNat ≤ 4)
  | .ldp _ gd _ _ => gd.val % 2 == 0
  | .stp _ _ _ gs2 => gs2.val % 2 == 0
  | .commit _ gd _ => gd.val % 4 == 0
  | .put _ x _ | .get _ x => if x.vec then decide (x.d.val < 8) && x.n == 0 else decide (x.d.val + x.n.toNat ≤ 31)
  | _ => true

/-- A slot word decodes to an assigned operation, has 0 in every field the operation does not use, and fits. -/
def slotFits (ln : BlockId) (sl : Slot) (w : Word) : Bool :=
  let i := decodeSlot ln sl w
  encodeSlot i == some w && operandsFit i

/-- The first slot of a bundle that fails the encoding check. -/
def badSlot (ln : BlockId) (w : QWord) : Option Nat :=
  ([(.a0, 0), (.a1, 1), (.m, 2), (.c, 3)] : List (Slot × Nat)).findSome? (fun x =>
    if slotFits ln x.1 (slotOfBundle w x.2) then none else some x.2)

def encodingCheck (p : LaneProgram) : Option LoadFail :=
  p.bundles.zipIdx.findSome? (fun x => (badSlot p.block x.1).map (fun sl => ⟨2, x.2, sl⟩))

/-! ### Control flow seen bundle by bundle (R142) -/

/-- A loop of the code: its bundle, its end bundle and its count field. -/
structure LoopSpan where
  at_ : Nat
  last : Nat
  cnt : Nat
  deriving DecidableEq, Repr

/-- A bundle lies in the body of a loop. -/
def LoopSpan.holds (l : LoopSpan) (p : Nat) : Bool := decide (l.at_ < p ∧ p ≤ l.last)

/-- The loops of the code; one with an end of 0 is a NOP (R133). -/
def loopSpans (ops : List (BundleOps × Nat)) : List LoopSpan :=
  ops.filterMap (fun x => match x.1.c with
    | .loop _ last cnt => if last.toNat = 0 then none else some ⟨x.2, x.2 + last.toNat, cnt.toNat⟩
    | _ => none)

/-- The branch offset of a bundle. -/
def branchOff : Instr → Option Nat
  | .br _ off | .brnz _ _ _ off | .brc _ _ _ _ off => some off.toNat
  | _ => none

/-- What no end bundle may hold (R142). -/
def barsEnd : Instr → Bool
  | .br .. | .brnz .. | .brc .. | .call .. | .ret .. | .loop .. => true
  | .waitPhaseIntake .. | .waitPhaseCompute .. | .waitPhaseExchange .. | .waitPhaseCommit .. | .waitPhaseEvent .. |
    .waitPhaseReserved .. => true
  | _ => false

/-- Items 1, 2, 4, 5 and 9 of R142 for one bundle. -/
def flowFail (n : Nat) (spans : List LoopSpan) (x : BundleOps × Nat) : Bool :=
  (match branchOff x.1.c with
    | some off => off == 0 || decide (n ≤ x.2 + off) || spans.any (fun l => l.holds x.2 != l.holds (x.2 + off))
    | none => false) ||
  (match x.1.c with
    | .loop _ last _ => last.toNat != 0 && spans.any (fun o => o.holds x.2 && decide (o.last ≤ x.2 + last.toNat))
    | .waitPhaseReserved _ _ => true
    | _ => false) ||
  (barsEnd x.1.c && spans.any (fun l => l.last == x.2))

def flowCheck (ops : List (BundleOps × Nat)) : Option LoadFail :=
  (ops.find? (flowFail ops.length (loopSpans ops))).map (fun x => ⟨3, x.2, 3⟩)

/-! ### Ownership and exchange pairing (R146, R147) -/

/-- A COMMIT of a leg that no unit of the lane owns. -/
def Dev.ownFail (d : Dev) (b : BlockId) (x : BundleOps × Nat) : Bool :=
  match x.1.c with
  | .commit _ _ leg =>
    match d.owner (32 * (b.val / 4) + leg.val) with
    | some u => !(d.laneSet u).contains b.val
    | none => true
  | _ => false

def Dev.ownCheck (d : Dev) (b : BlockId) (ops : List (BundleOps × Nat)) : Option LoadFail :=
  (ops.find? (d.ownFail b)).map (fun x => ⟨9, x.2, 3⟩)

/-- A PUT or GET: its operands, whether it is a PUT and whether it seals. -/
def exchOf : Instr → Option (ExchOp × Bool × Bool)
  | .put _ x sealing => some (x, true, sealing)
  | .get _ x => some (x, false, false)
  | _ => none

/-- The channels that a program names, and those it seals. -/
def namedBy (ops : List (BundleOps × Nat)) : List Nat :=
  ops.filterMap (fun x => (exchOf x.1.c).map (fun e => e.1.ch.toNat))
def sealedBy (ops : List (BundleOps × Nat)) : List Nat :=
  ops.filterMap (fun x => match exchOf x.1.c with
    | some (e, true, true) => some e.ch.toNat
    | _ => none)

/-- Items 1, 2, 5 and 7 of R147 for one bundle, under the descriptors and the channels sealed in the region. -/
def pairFail (desc : Nat → Nat) (b : BlockId) (spans : List LoopSpan) (seals : List Nat) (x : BundleOps × Nat) : Bool :=
  match exchOf x.1.c with
  | none => false
  | some (e, isPut, sealing) =>
    let w := desc e.ch.toNat
    !bitOf w 31 || decide (8 * bitsOf w 16 6 < 8 * e.wo.toNat + exchBytes e) ||
      (if isPut then bitsOf w 0 2 != b.val % 4 else !bitOf w (4 + b.val % 4)) ||
      (sealing && spans.any (fun l => l.holds x.2 && decide (1 ≤ l.cnt))) ||
      (!isPut && !seals.contains e.ch.toNat)

/-- Item 3 of R147: the producer and every consumer of a named channel are among the lanes with a program. -/
def lanesMissing (desc : Nat → Nat) (lanes : List Nat) (ch : Nat) : Bool :=
  !lanes.contains (bitsOf (desc ch) 0 2) || [0, 1, 2, 3].any (fun i => bitOf (desc ch) (4 + i) && !lanes.contains i)

/-! ### The walk: registers (R121, R143, R144) -/

/-- Register numbers of the walk: g0 to g31, then acc0 to acc3 from 32, then m0 to m7 from 40. -/
def gNum (n : Nat) : Nat := n
def accNum (n : Nat) : Nat := 32 + n
def vecNum (n : Nat) : Nat := 40 + n

/-- The registers an A or M operation writes and its latency (R125, R129). -/
def opWrites : Instr → List Nat × Nat
  | .add _ _ gd _ _ | .sub _ _ gd _ _ | .and _ _ gd _ _ | .or _ _ gd _ _ | .xor _ _ gd _ _ | .cmplt _ _ gd _ _ => ([gNum gd], 1)
  | .qadd _ _ gd _ _ | .qsub _ _ gd _ _ | .lim _ _ gd _ _ | .ramp _ _ gd _ _ => ([gNum gd], 1)
  | .addi _ _ gd _ _ => ([gNum gd], 1)
  | .shl _ _ gd _ _ | .shra _ _ gd _ _ => ([gNum gd], 1)
  | .movl _ _ gd _ | .movh _ _ gd _ => ([gNum gd], 1)
  | .qneg _ _ gd _ | .qabs _ _ gd _ => ([gNum gd], 1)
  | .qmul _ _ gd _ _ => ([gNum gd], 2)
  | .mpy _ _ a _ _ | .mac _ _ a _ _ | .msu _ _ a _ _ => ([accNum a], 2)
  | .extr _ _ gd _ _ => ([gNum gd], 1)
  | .accld _ _ a _ => ([accNum a], 1)
  | .clarke _ _ gd _ _ | .park _ _ gd _ _ | .ipark _ _ gd _ _ => ([gNum gd, gNum (gd + 1)], 3)
  | .svpwm _ _ gd _ => ([gNum gd, gNum (gd + 1), gNum (gd + 2)], 3)
  | .vadd _ _ md _ _ _ => ([vecNum md], 2)
  | .vmul _ _ md _ _ => ([vecNum md], 2)
  | .vsmul _ _ md _ _ => ([vecNum md], 2)
  | .bnorm _ _ md _ => ([vecNum md], 3)
  | .vscl _ _ md _ _ => ([vecNum md], 1)
  | .vtoq _ _ gd _ _ => ([gNum gd], 1)
  | .qtov _ _ md _ _ => ([vecNum md], 1)
  | .ld _ gd _ _ _ => ([gNum gd], 2)
  | .ldp _ gd _ _ => ([gNum gd, gNum (gd + 1)], 2)
  | .vld _ md _ _ => ([vecNum md], 2)
  | .gtab _ gd _ _ | .ftab _ gd _ _ => ([gNum gd], 4)
  | _ => ([], 0)

/-- What the loader knows of a general register: the interval its signed value lies in, or nothing. -/
abbrev Known := Option (Int × Int)

/-- An interval, unless it leaves the 32-bit range. -/
def known (lo hi : Int) : Known := if -2 ^ 31 ≤ lo ∧ hi < 2 ^ 31 then some (lo, hi) else none

/-- The hull of two intervals (R144). -/
def Known.hull : Known → Known → Known
  | some a, some b => some (min a.1 b.1, max a.2 b.2)
  | _, _ => none

def Known.add : Known → Known → Known
  | some a, some b => known (a.1 + b.1) (a.2 + b.2)
  | _, _ => none
def Known.sub : Known → Known → Known
  | some a, some b => known (a.1 - b.2) (a.2 - b.1)
  | _, _ => none
/-- AND with a register in [0, k] lies in [0, k]. -/
def Known.and (x y : Known) : Known :=
  let top := fun (v : Known) => match v with
    | some a => if 0 ≤ a.1 then some a.2 else none
    | none => none
  match top x, top y with
  | some a, some b => some (0, min a b)
  | some a, none | none, some a => some (0, a)
  | none, none => none
def Known.shl : Known → Known → Known
  | some a, some s =>
    if 0 ≤ s.1 ∧ s.2 ≤ 31 then
      known (min (a.1 * 2 ^ s.1.toNat) (a.1 * 2 ^ s.2.toNat)) (max (a.2 * 2 ^ s.1.toNat) (a.2 * 2 ^ s.2.toNat))
    else none
  | _, _ => none
/-- MOVH keeps the low half of a register with a known interval, which is known where the interval holds one value (R144). -/
def Known.movh (k : Nat) : Known → Known
  | some a =>
    if a.1 = a.2 then let v := signed 32 (k * 65536 + lowBits 16 a.1); some (v, v)
    else some (signed 32 (k * 65536), signed 32 (k * 65536) + 65535)
  | none => none

/-- The interval an operation gives its register (R144). -/
def opKnown (iv : Nat → Known) : Instr → Known
  | .add _ _ _ a b => (iv a).add (iv b)
  | .addi _ _ _ a imm => (iv a).add (some (imm.toInt, imm.toInt))
  | .sub _ _ _ a b => (iv a).sub (iv b)
  | .and _ _ _ a b => (iv a).and (iv b)
  | .shl _ _ _ a (.imm n) => (iv a).shl (some (n.toNat, n.toNat))
  | .shl _ _ _ a (.reg r) => (iv a).shl (iv r)
  | .movl _ _ _ k => some (k.toNat, k.toNat)
  | .movh _ _ gd k => (iv gd).movh k.toNat
  | _ => none

/-- The access of an M operation: base register, offset in bytes, size, and whether it stores (R129, R130). -/
def memAccess : Instr → Option (Nat × Int × Nat × Bool)
  | .ld _ _ a imm size => let z : Nat := 2 ^ (size.toNat / 2); some (a, imm.toInt * z, z, false)
  | .st _ a imm _ size => let z : Nat := 2 ^ (size.toNat / 2); some (a, imm.toInt * z, z, true)
  | .ldp _ _ a imm => some (a, imm.toInt * 8, 8, false)
  | .stp _ a imm _ => some (a, imm.toInt * 8, 8, true)
  | .vld _ _ a imm => some (a, imm.toInt * 32, 32, false)
  | .vst _ a imm _ => some (a, imm.toInt * 32, 32, true)
  | _ => none

/-- The areas of R79 with what they permit: first address, end, loads, stores. -/
def laneAreas : List (Int × Int × Bool × Bool) :=
  [(0, 0x40000, true, true), (0x40000, 0x48000, true, false), (0x50000, 0x50400, true, false),
   (0x60000, 0x60020, true, false), (0x60100, 0x60180, true, false)]

/-- The range of an access lies in one area that permits it; a 4-byte store at LANE_STATUS is permitted (R144). The area's
first address. -/
def accessArea (base : Known) (off : Int) (z : Nat) (store : Bool) : Option Int :=
  match base with
  | none => none
  | some b =>
    let lo := b.1 + off
    let hi := b.2 + off + z
    if store && z == 4 && lo == 0x60000 && hi == 0x60004 then some 0x60000
    else (laneAreas.find? (fun a => decide (a.1 ≤ lo ∧ hi ≤ a.2.1) && (if store then a.2.2.2 else a.2.2.1))).map (fun a => a.1)

/-! ### The walk: states -/

/-- What the loader knows on reaching a bundle: the earliest and latest cycle from the compute boundary; writes in flight as
(cycles until seen, register); the intervals; the lengths of the runs of cycles without an idle cycle for data, table
and fetch; the pair in the fetch buffer, where every path has the same; channels sealed on every path and on some path; whether
a path holds a GET; and the exchange-wait allowance of the latest path (R149). -/
structure Walk where
  tmin : Nat
  tmax : Nat
  pend : List (Nat × Nat)
  iv : Store Known
  dataRun : Nat
  tableRun : Nat
  fetchRun : Nat
  pair : Option Nat
  must : List Nat
  may : List Nat
  got : Bool
  allow : Nat
  deriving DecidableEq, Repr

def Walk.start : Walk :=
  { tmin := 0, tmax := 0, pend := [], iv := [], dataRun := 0, tableRun := 0, fetchRun := 0, pair := none, must := [], may := [],
    got := false, allow := 0 }

def Walk.known (w : Walk) (r : Nat) : Known := Store.get (fun _ => none) w.iv r

/-- Two paths meet (R144, R148). -/
def Walk.join (x y : Walk) : Walk :=
  { tmin := min x.tmin y.tmin, tmax := max x.tmax y.tmax,
    pend := x.pend ++ y.pend.filter (fun p => !x.pend.contains p),
    iv := x.iv.filterMap (fun p => match p.2.hull (y.known p.1) with
      | some v => some (p.1, some v)
      | none => none),
    dataRun := max x.dataRun y.dataRun, tableRun := max x.tableRun y.tableRun, fetchRun := max x.fetchRun y.fetchRun,
    pair := if x.pair = y.pair then x.pair else none,
    must := x.must.filter (fun c => y.must.contains c), may := x.may ++ y.may.filter (fun c => !x.may.contains c),
    got := x.got || y.got,
    allow := if x.tmax < y.tmax then y.allow else if y.tmax < x.tmax then x.allow else max x.allow y.allow }

/-- The walks waiting at bundles. -/
abbrev Fronts := Store (Option Walk)
def Fronts.at_ (f : Fronts) (p : Nat) : Option Walk := Store.get (fun _ => none) f p
def Fronts.meet (f : Fronts) (p : Nat) (w : Walk) : Fronts :=
  Store.set (fun _ => none) f p (some (match f.at_ p with | some v => v.join w | none => w))

/-- The next bundle issues between `lo` and `hi` of a path's cycle: writes draw nearer, and cycles without issue are idle. The gap
of a path lies between the least and the greatest of those of the earliest and the latest path. -/
def Walk.pass (w : Walk) (lo hi : Nat → Nat) : Walk :=
  let gmin := min (lo w.tmin - w.tmin) (lo w.tmax - w.tmax)
  let gmax := max gmin (max (hi w.tmin - w.tmin) (hi w.tmax - w.tmax))
  let gaps := (List.range 5).filter (fun g => decide (gmin ≤ g ∧ g ≤ gmax))
  let moved := gaps.flatMap (fun g => w.pend.filterMap (fun p => if g < p.1 then some (p.1 - g, p.2) else none))
  { w with
    tmin := lo w.tmin, tmax := hi w.tmax, pend := moved.eraseDups,
    dataRun := if 2 ≤ gmin then 0 else w.dataRun, tableRun := if 2 ≤ gmin then 0 else w.tableRun,
    fetchRun := if 2 ≤ gmin then 0 else w.fetchRun }

/-- The bundle after the next cycle. -/
def Walk.next (w : Walk) : Walk := w.pass (fun t => t + 1) (fun t => t + 1)
/-- The target of a redirection, whose pair is fetched in the bubble (R139). -/
def Walk.jump (w : Walk) (target : Nat) : Walk :=
  { w.pass (fun t => t + 2) (fun t => t + 2) with fetchRun := w.fetchRun + 1, pair := some (target / 2) }

/-- Whether two writes reach one register in one cycle (R143). -/
def collides (pend : List (Nat × Nat)) : List (Nat × Nat) → Bool
  | [] => false
  | p :: t => pend.contains p || t.contains p || collides pend t

/-- The first slot whose writes reach a register in the cycle of a write in flight or of a slot before it. -/
def collidingSlot (pend : List (Nat × Nat)) (n : Nat) : List (List (Nat × Nat)) → Option Nat
  | [] => none
  | x :: t => if collides pend x then some n else collidingSlot (pend ++ x) (n + 1) t

/-- The A and M operations of a bundle: collisions, bounds and runs. The pair of the bundle is fetched where the buffer does not
hold it (R139, R145). -/
def Walk.operate (w : Walk) (pc : Nat) (o : BundleOps) : Except LoadFail Walk :=
  let bySlot := [o.a0, o.a1, o.m].map (fun i => (opWrites i).1.map (fun r => ((opWrites i).2, r)))
  let writes := bySlot.flatten
  let acc := memAccess o.m
  let area := acc.bind (fun a => accessArea (w.known a.1) a.2.1 a.2.2.1 a.2.2.2)
  let isTab := match o.m with
    | .gtab .. | .ftab .. => true
    | _ => false
  let dr := if area == some 0 then w.dataRun + 1 else 0
  let tr := if isTab || area == some 0x40000 then w.tableRun + 1 else 0
  let fr := if w.pair = some (pc / 2) then 0 else w.fetchRun + 1
  match collidingSlot w.pend 0 bySlot with
  | some sl => .error ⟨6, pc, sl⟩
  | none =>
  if acc.isSome && area.isNone then .error ⟨7, pc, 2⟩
  else if 64 ≤ dr ∨ 64 ≤ tr ∨ 64 ≤ fr then .error ⟨8, pc, 2⟩
  else
    let iv := [o.a0, o.a1, o.m].foldl (fun m i =>
      (opWrites i).1.foldl (fun m r =>
        let later := w.pend.any (fun p => p.2 == r && decide ((opWrites i).2 < p.1)) ||
          writes.any (fun p => p.2 == r && decide ((opWrites i).2 < p.1))
        Store.set (fun _ => none) m r (if later then none else opKnown w.known i)) m) w.iv
    .ok { w with
      pend := w.pend ++ writes, iv := iv, dataRun := dr, tableRun := tr, fetchRun := fr, pair := some (pc / 2) }

/-! ### The walk: control flow (R142, R147 to R150) -/

/-- What a walk is made under: the lane, its code, X and C_b, the ready time of each channel, the channels it must seal, and
whether this is the pass that stops at the first GET (R149). -/
structure WalkCtx where
  lane : BlockId
  len : Nat
  fetch : Nat → QWord
  x : Nat
  cb : Nat
  ready : Nat → Nat
  produced : List Nat
  first : Bool

/-- What the paths so far have shown: the latest issue of WAIT_PHASE mode 0 with the exchange-wait allowance of its path, and the
latest issue of each sealing PUT. -/
structure WalkSeen where
  worst : Nat
  allow : Nat
  seals : Store (Option Nat)
  deriving DecidableEq, Repr

/-- Where a stretch of code stands: its last bundle, the loops active, whether it is reached through a CALL, whether it is the
body of a loop and whether that repeats, and the end bundle of the caller's loop with whether it repeats. -/
structure WalkFrame where
  last : Nat
  depth : Nat
  inCall : Bool
  inLoop : Bool
  again : Bool
  callEnd : Option (Nat × Bool)
  deriving DecidableEq, Repr

/-- The walks that leave a stretch, those that return, and what has been seen. -/
structure WalkOut where
  out : Fronts
  ret : Option Walk
  seen : WalkSeen

/-- An exchange operation that can complete after C_b, or can wait for more than 255 cycles (R150). -/
def exchLate (c : WalkCtx) (w : Walk) (done : Nat → Nat) : Bool :=
  decide (c.cb < done w.tmax) || decide (255 < done w.tmin - max c.x w.tmin) || decide (255 < done w.tmax - max c.x w.tmax)

/-- A PUT (R131, R147, R148). -/
def walkPut (c : WalkCtx) (pc : Nat) (w : Walk) (x : ExchOp) (sealing : Bool) (seen : WalkSeen) :
    Except LoadFail (Walk × WalkSeen) :=
  let ch := x.ch.toNat
  let done := fun (t : Nat) => max c.x t + 4
  if w.may.contains ch then .error ⟨10, pc, 3⟩
  else if sealing && w.got then .error ⟨11, pc, 3⟩
  else if exchLate c w done then .error ⟨12, pc, 3⟩
  else
    let w1 := { w.pass (fun t => max c.x t + 1) done with allow := w.allow + (done w.tmax - max c.x w.tmax) }
    if sealing then
      let before := (Store.get (fun _ => none) seen.seals ch).getD 0
      .ok ({ w1 with must := ch :: w1.must, may := ch :: w1.may },
        { seen with seals := Store.set (fun _ => none) seen.seals ch (some (max before w.tmax)) })
    else .ok (w1, seen)

/-- The destinations of a GET, written 2 cycles after it completes. -/
def getDests (x : ExchOp) : List (Nat × Nat) :=
  if x.vec then [(2, vecNum (x.d.val % 8))] else (List.range (x.n.toNat + 1)).map (fun i => (2, gNum ((x.d.val + i) % 32)))

/-- A GET (R131, R143, R148). -/
def walkGet (c : WalkCtx) (pc : Nat) (w : Walk) (x : ExchOp) : Except LoadFail Walk :=
  let done := fun (t : Nat) => max (max c.x t) (c.ready x.ch.toNat) + 4
  if exchLate c w done then .error ⟨12, pc, 3⟩
  else
    let w1 := { w.pass (fun t => max c.x t + 1) done with allow := w.allow + (done w.tmax - max c.x w.tmax) }
    if collides w1.pend (getDests x) then .error ⟨6, pc, 3⟩
    else .ok { w1 with
      pend := w1.pend ++ getDests x, got := true,
      iv := (getDests x).foldl (fun m p => Store.set (fun _ => none) m p.2 none) w1.iv }

/-- Two sets of walks, either of which may be empty, meet. -/
def meetWalks : Option Walk → Option Walk → Option Walk
  | some v, some w => some (v.join w)
  | some v, none => some v
  | none, w => w

/-- What the body of a loop leads to: the walk at its end, the walks that return out of it, and what has been seen. -/
abbrev BodyOut := Option Walk × Option Walk × WalkSeen

/-- Run the body of a loop `n` times more, as long as a path reaches its end. The first bundle's pair is in the fetch buffer
(R133, R139). -/
def walkTimes (first : Nat) (body : Walk → WalkSeen → Except LoadFail BodyOut) : Nat → BodyOut → Except LoadFail BodyOut
  | 0, o => .ok o
  | n + 1, o =>
    match o.1 with
    | none => .ok o
    | some w =>
      match body { w with pair := some (first / 2) } o.2.2 with
      | .error e => .error e
      | .ok r => walkTimes first body n (r.1, meetWalks o.2.1 r.2.1, r.2.2)

/-- A path leaves the code: in called code it reaches no RET, else no WAIT_PHASE mode 0 (items 7 and 8 of R142). -/
def pathFail (fr : WalkFrame) (pc : Nat) : LoadFail := ⟨if fr.inCall then 5 else 3, pc, 3⟩

/-- Where a C operation takes a walk whose A and M operations are done: the fronts it reaches. Loops and calls are walked by
`walk` itself. -/
def walkOp (c : WalkCtx) (fr : WalkFrame) (pc : Nat) (w : Walk) (op : Instr) (o : WalkOut) : Except LoadFail WalkOut :=
  let goes := fun (v : Walk) => Except.ok { o with out := o.out.meet (pc + 1) v }
  let jump := fun (off : Nat) => o.out.meet (pc + off) (w.jump (pc + off))
  match op with
  | .br _ off => .ok { o with out := jump off.toNat }
  | .brnz _ _ _ off => .ok { o with out := (jump off.toNat).meet (pc + 1) w.next }
  | .brc _ _ _ _ off => .ok { o with out := (jump off.toNat).meet (pc + 1) w.next }
  | .ret _ =>
    if fr.inCall then .ok { o with ret := meetWalks o.ret (some { w.jump 0 with pair := none }) }
    else goes w.next
  | .waitPhaseIntake _ =>
    if fr.inCall then .error (pathFail fr pc)
    else if !c.first && c.produced.any (fun ch => !w.must.contains ch) then .error ⟨10, pc, 3⟩
    else
      let later := decide (o.seen.worst < w.tmax) || (o.seen.worst == w.tmax && decide (o.seen.allow < w.allow))
      .ok { o with seen := if later then { o.seen with worst := w.tmax, allow := w.allow } else o.seen }
  | .waitPhaseExchange _ => goes (w.pass (fun t => max (t + 1) c.x) (fun t => max (t + 1) c.x))
  | .waitPhaseCommit _ => goes (w.pass (fun t => max (t + 1) c.cb) (fun t => max (t + 1) c.cb))
  | .waitPhaseEvent _ _ dl => goes (w.pass (fun t => t + 1) (fun t => max (t + 1) (4 * dl.toNat)))
  | .commit _ _ _ => goes (w.pass (fun t => max t c.cb + 1) (fun t => max t c.cb + 1))
  | .put _ x sealing =>
    match walkPut c pc w x sealing o.seen with
    | .error e => .error e
    | .ok (v, seen) => .ok { o with out := o.out.meet (pc + 1) v, seen := seen }
  | .get _ x =>
    if c.first then .ok o
    else match walkGet c pc w x with
      | .error e => .error e
      | .ok v => goes v
  | _ => goes w.next

/-- Walk a stretch of code in bundle order, with the body of a loop once per iteration and the code of a CALL at its call
site. Called code that passes the end of a repeating loop of its caller is taken back to the CALL (item 6 of R142). The fuel
bounds the bundles of nested stretches. -/
def walk (c : WalkCtx) : Nat → WalkFrame → Nat → WalkOut → Except LoadFail WalkOut
  | 0, fr, pc, _ => .error (pathFail fr pc)
  | fuel + 1, fr, pc, o =>
    if fr.last < pc then .ok o
    else match o.out.at_ pc with
    | none => walk c fuel fr (pc + 1) o
    | some w0 =>
      let ops := bundleOps c.lane (c.fetch pc)
      let o1 := { o with out := Store.drop o.out pc }
      if c.len ≤ pc then .error (pathFail fr pc)
      else if fr.callEnd = some (pc, true) then .error ⟨5, pc, 3⟩
      else match w0.operate pc ops with
      | .error e => .error e
      | .ok w =>
        match ops.c with
        | .loop _ last cnt =>
          if last.toNat = 0 then walk c fuel fr (pc + 1) { o1 with out := o1.out.meet (pc + 1) w.next }
          else if 2 ≤ fr.depth then .error ⟨4, pc, 3⟩
          else
            let stop := pc + last.toNat
            let body := fun (v : Walk) (seen : WalkSeen) =>
              match walk c fuel ⟨stop, fr.depth + 1, fr.inCall, true, cnt.toNat != 0, none⟩
                (pc + 1) { out := Fronts.meet [] (pc + 1) v, ret := none, seen := seen } with
              | .error e => Except.error e
              | .ok r =>
                if r.out.any (fun p => p.1 != stop + 1) then .error ⟨3, stop, 3⟩ else .ok (r.out.at_ (stop + 1), r.ret, r.seen)
            match body w.next o1.seen with
            | .error e => .error e
            | .ok once =>
              match walkTimes (pc + 1) body cnt.toNat once with
              | .error e => .error e
              | .ok r =>
                walk c fuel fr (pc + 1)
                  { out := (match r.1 with
                      | some v => o1.out.meet (stop + 1) v
                      | none => o1.out)
                    ret := meetWalks o1.ret r.2.1, seen := r.2.2 }
        | .call _ target =>
          if fr.inCall then .error ⟨5, pc, 3⟩
          else
            let inner := if fr.inLoop then some (fr.last, fr.again) else none
            match walk c fuel ⟨c.len, fr.depth, true, false, false, inner⟩ target.toNat
                { out := Fronts.meet [] target.toNat (w.jump target.toNat), ret := none, seen := o1.seen } with
            | .error e => .error e
            | .ok r =>
              if r.out.isEmpty then
                walk c fuel fr (pc + 1)
                  { o1 with seen := r.seen, out := (match r.ret with
                    | some v => o1.out.meet (pc + 1) { v with pair := some ((pc + 1) / 2) }
                    | none => o1.out) }
              else .error ⟨5, target.toNat, 3⟩
        | op =>
          match walkOp c fr pc w op o1 with
          | .error e => .error e
          | .ok o2 => walk c fuel fr (pc + 1) o2

/-- Walk a program from its entry bundle. -/
def walkProgram (c : WalkCtx) (entry : Nat) : Except LoadFail WalkSeen :=
  if c.len ≤ entry then .error ⟨3, entry, 3⟩
  else
    match walk c 20000 ⟨c.len, 0, false, false, false, none⟩ entry
        { out := Fronts.meet [] entry Walk.start, ret := none, seen := ⟨0, 0, []⟩ } with
    | .error e => .error e
    | .ok o => if o.out.isEmpty then .ok o.seen else .error ⟨3, c.len - 1, 3⟩

end Sys2Proof.Machine
end

