-- ==== Sys2Proof/Machine/Loader.lean ====
section
/-! DEFINITION. The loader and the timing-apply service of the chip firmware (R140 to R154). -/

namespace Sys2Proof.Machine

/-! ### What is walked -/

/-- A program to be walked: its block, length in bundles, code, entry bundle and claim. -/
structure WalkProg where
  block : BlockId
  len : Nat
  fetch : Nat → QWord
  entry : Nat
  claim : Nat

/-- A boundary of a block's shortest sub-tick, in lane cycles from its compute boundary (R60, R131). -/
def Dev.fromCompute (d : Dev) (b : Nat) (f : Fld) : Nat :=
  d.inForce (rgnReg (b / 4)) f * d.subLen b / 1000 - d.inForce (rgnReg (b / 4)) F.RGN_PHASE0_compute * d.subLen b / 1000

/-- X and C_b of a block. -/
def Dev.exchAt (d : Dev) (b : Nat) : Nat := d.fromCompute b F.RGN_PHASE0_exchange
def Dev.commitAt (d : Dev) (b : Nat) : Nat := d.fromCompute b F.RGN_PHASE1_commit

/-- What a program is walked under. -/
def Dev.walkCtx (d : Dev) (p : WalkProg) (ready : Nat → Nat) (produced : List Nat) (first : Bool) : WalkCtx :=
  { lane := p.block, len := p.len, fetch := p.fetch, x := d.exchAt p.block, cb := d.commitAt p.block, ready := ready,
    produced := produced, first := first }

/-- A failure as a result record. -/
def LoadFail.result (f : LoadFail) (b worst claim : Nat) : LoadResult := ⟨f.code, b, f.bundle, f.slot, worst, claim⟩

/-- The first pass: the ready time of each channel that a program seals (R149). -/
def Dev.readyTimes (d : Dev) : List WalkProg → Except LoadResult (Store Nat)
  | [] => .ok []
  | p :: t =>
    match walkProgram (d.walkCtx p (fun _ => 0) [] true) p.entry with
    | .error f => .error (f.result p.block 0 p.claim)
    | .ok seen =>
      match d.readyTimes t with
      | .error r => .error r
      | .ok m => .ok (seen.seals.foldl (fun m x =>
          Store.set (fun _ => 0) m x.1 (max (max (d.exchAt p.block) (x.2.getD 0) + 4) (Store.get (fun _ => 0) m x.1))) m)

/-- The second pass: the worst case of each program with its exchange-wait allowance (R148, R149). -/
def Dev.worstCases (d : Dev) (ready : Store Nat) (produced : Nat → List Nat) :
    List WalkProg → Except LoadResult (List (WalkProg × Nat × Nat))
  | [] => .ok []
  | p :: t =>
    match walkProgram (d.walkCtx p (Store.get (fun _ => 0) ready) (produced p.block.val) false) p.entry with
    | .error f => .error (f.result p.block 0 p.claim)
    | .ok seen =>
      match d.worstCases ready produced t with
      | .error r => .error r
      | .ok l => .ok ((p, seen.worst + 1, seen.allow) :: l)

/-- A program whose worst case exceeds its claim, or whose claim exceeds its budget (R150). -/
def Dev.budgetFail (d : Dev) (x : WalkProg × Nat × Nat) : Option LoadResult :=
  if x.1.claim < x.2.1 then some ⟨13, x.1.block, 0, 0, x.2.1, x.1.claim⟩
  else if d.laneBudget x.1.block ≤ 640 ∨ d.laneBudget x.1.block - 640 < x.1.claim then
    some ⟨14, x.1.block, 0, 0, x.2.1, x.1.claim⟩
  else none

/-- Both passes over the programs of a region, and the acceptance of R150. -/
def Dev.walkRegion (d : Dev) (produced : Nat → List Nat) (l : List WalkProg) : Except LoadResult (List (WalkProg × Nat × Nat)) :=
  match d.readyTimes l with
  | .error r => .error r
  | .ok ready =>
    match d.worstCases ready produced l with
    | .error r => .error r
    | .ok ws =>
      match ws.findSome? d.budgetFail with
      | some r => .error r
      | none => .ok ws

/-- The first failure over the programs of several regions. -/
def Dev.walkAll (d : Dev) (produced : Nat → List Nat) : List (List WalkProg) → Option LoadResult
  | [] => none
  | l :: t =>
    match d.walkRegion produced l with
    | .error r => some r
    | .ok _ => d.walkAll produced t

/-! ### The loader -/

/-- The slot and bank of a region that are not in force. -/
def Dev.otherSlot (d : Dev) (r : Nat) : Nat := 1 - d.activeSlot r
def Dev.otherBank (d : Dev) (r : Nat) : Nat := 1 - d.activeBank r

/-- Regions and blocks of an image, and the program and budget word of a block (R151). -/
def imageRegions (x : LaneSetImage) : List Nat := [0, 1, 2, 3].filter (fun r => bitOf x.mask.toNat r)
def imageProgram (x : LaneSetImage) (b : Nat) : Option LaneProgram := x.programs.find? (fun p => p.block.val == b)
def budgetWord (x : LaneSetImage) (b : Nat) : Nat := (x.budget.getD b 0).toNat
def claimOf (x : LaneSetImage) (b : Nat) : Nat := bitsOf (budgetWord x b) 0 18
def factorOf (x : LaneSetImage) (b : Nat) : Nat := bitsOf (budgetWord x b) 18 2
def entryOf (x : LaneSetImage) (b : Nat) : Nat := bitsOf (budgetWord x b) 20 12

/-- The descriptor of a channel in the set that the load will bring into force (R147). -/
def Dev.newDesc (d : Dev) (x : LaneSetImage) (r ch : Nat) : Nat :=
  match x.exch.find? (fun e => e.1.val == r && e.2.1.val == ch) with
  | some e => e.2.2.toNat
  | none => (d.reg (rgnReg r + (if d.otherSlot r = 0 then 0x400 else 0x800) + 4 * ch)).toNat

/-- The Cask is verified for each region of its mask, and its parts fit their memories (R140, R151, R154). -/
def Dev.caskRefused (d : Dev) (x : LaneSetImage) : Bool :=
  x.mask == 0 ||
  (imageRegions x).any (fun r =>
    match Store.get (fun _ => none) d.cellar.meas (4 + 2 * r + d.otherSlot r) with
    | some m => m.typ != 3 || m.mask != x.mask.toNat
    | none => true) ||
  (List.range 16).any (fun b => !bitOf x.mask.toNat (b / 4) && budgetWord x b != 0) ||
  x.programs.any (fun p => !bitOf x.mask.toNat (p.block.val / 4) || decide (4096 < p.bundles.length) ||
    decide (8192 < p.table.length)) ||
  decide (4080 < x.map.length)

/-- A failure of a check made program by program. -/
def programFail (x : LaneSetImage) (f : LaneProgram → Option LoadFail) : Option LoadResult :=
  x.programs.findSome? (fun p => (f p).map (fun e => e.result p.block 0 (claimOf x p.block)))

def programOps (p : LaneProgram) : List (BundleOps × Nat) := (p.bundles.map (bundleOps p.block)).zipIdx

/-- The exchange pairing of the programs of one region (R147). DEDUCED: the channels named in the Cask are those of the valid
descriptors it carries and those its programs name; a lane produces the channels of every valid descriptor of the set to come
that names it as the producer (assumption 90). -/
def Dev.pairingFail (d : Dev) (x : LaneSetImage) (r : Nat) : Option LoadResult :=
  let ps := x.programs.filter (fun p => p.block.val / 4 == r)
  let desc := d.newDesc x r
  let seals := ps.flatMap (fun p => sealedBy (programOps p))
  let carried := (x.exch.filter (fun e => e.1.val == r && bitOf e.2.2.toNat 31)).map (fun e => e.2.1.val)
  let named := carried ++ ps.flatMap (fun p => namedBy (programOps p))
  match ps.findSome? (fun p =>
      ((programOps p).find? (pairFail desc p.block (loopSpans (programOps p)) seals)).map (fun y => (p.block.val, y.2))) with
  | some y => some ⟨10, y.1, y.2, 3, 0, claimOf x y.1⟩
  | none =>
    (named.find? (lanesMissing desc (ps.map (fun p => p.block.val % 4)))).map (fun ch =>
      let b := 4 * r + bitsOf (desc ch) 0 2
      ⟨10, b, 0, 3, 0, claimOf x b⟩)

/-- The channels that a block's lane produces under the set to come (R147). -/
def Dev.producedIn (d : Dev) (x : LaneSetImage) (b : Nat) : List Nat :=
  (List.range 256).filter (fun ch =>
    let w := d.newDesc x (b / 4) ch
    bitOf w 31 && bitsOf w 0 2 == b % 4)

/-- The programs of an image in a region, with blocks that have a claim and no program (R151). -/
def imageWalks (x : LaneSetImage) (r : Nat) : List WalkProg :=
  ([4 * r, 4 * r + 1, 4 * r + 2, 4 * r + 3].filter (fun b => claimOf x b != 0 || (imageProgram x b).isSome)).map (fun b =>
    let bs := match imageProgram x b with
      | some p => p.bundles
      | none => []
    ⟨Fin.ofNat 16 b, bs.length, fun n => bs.getD n 0, entryOf x b, claimOf x b⟩)

/-- A block whose budget word names another factor than the one in force (R150). -/
def Dev.factorFail (d : Dev) (x : LaneSetImage) : Option LoadResult :=
  ((List.range 16).find? (fun b => claimOf x b != 0 && 2 ^ factorOf x b != d.subFactor b)).map (fun b =>
    ⟨15, b, 0, 0, 0, claimOf x b⟩)

/-- The first failure of the loader's checks; none where the Cask is accepted (R140, R154). -/
def Dev.loadFailure (d : Dev) (x : LaneSetImage) : Option LoadResult :=
  if d.caskRefused x then some ⟨1, 0, 0, 0, 0, 0⟩
  else if (imageRegions x).any (fun r => d.rackState r != rackIdle) then some ⟨16, 0, 0, 0, 0, 0⟩
  else
    match programFail x encodingCheck with
    | some r => some r
    | none =>
      match programFail x (fun p => flowCheck (programOps p)) with
      | some r => some r
      | none =>
        match programFail x (fun p => d.ownCheck p.block (programOps p)) with
        | some r => some r
        | none =>
          match (imageRegions x).findSome? (d.pairingFail x) with
          | some r => some r
          | none =>
            match d.factorFail x with
            | some r => some r
            | none => d.walkAll (d.producedIn x) ((imageRegions x).map (imageWalks x))

/-- A lane load sets the lane's registers to 0 (R76). -/
def Dev.zeroLane (d : Dev) (b : Nat) : Dev := d.setLane b { d.lane b with g := [], acc := [], vm := [], ve := [] }

/-- The exchange-wait allowances that the second pass finds are kept beside the claims (R149). -/
def Dev.noteWaits (d : Dev) (r : Nat) (produced : Nat → List Nat) (l : List WalkProg) : Dev :=
  match d.walkRegion produced l with
  | .error _ => d
  | .ok ws => ws.foldl (fun e x =>
      { e with slotWaits := Store.set (fun _ => 0) e.slotWaits (2 * x.1.block.val + d.otherSlot r) x.2.2 }) d

/-- Write the program and table of a block into its inactive slot and bank (R140, R152). -/
def Dev.writeImage (d : Dev) (x : LaneSetImage) (b : Nat) : Dev :=
  let r := b / 4
  let slot := d.otherSlot r
  let claim := claimOf x b
  let entry := if claim = 0 then 0 else entryOf x b
  let wcet := (claim + 3) / 4
  let d1 := if slot = 0 then (d.setFld (blkReg b) F.LANE_ENTRY_a entry).setFld (blkReg b) F.LANE_WCET_a wcet
    else (d.setFld (blkReg b) F.LANE_ENTRY_b entry).setFld (blkReg b) F.LANE_WCET_b wcet
  let d2 := { d1 with
    refSlots := Store.set (fun _ => false) d1.refSlots (2 * b + slot)
      (match imageProgram x b with | some p => p.reference | none => false)
    slotFac := Store.set (fun _ => 0) d1.slotFac (2 * b + slot) (factorOf x b)
    slotClaim := Store.set (fun _ => 0) d1.slotClaim (2 * b + slot) claim }
  match imageProgram x b with
  | none => d2
  | some p =>
    let words := p.bundles.flatMap (fun w => [slotOfBundle w 0, slotOfBundle w 1, slotOfBundle w 2, slotOfBundle w 3])
    (((d2.storeWords (blkBase b + 0x10000 * slot) words).storeWords (blkBase b + 0x80000 + 0x8000 * d.otherBank r) p.table).zeroLane b).renewProgs b true

/-- Write bytes upwards, 8 at a time as full words (R433). -/
def Dev.storeList (d : Dev) (a : Nat) : List Byte → Dev
  | b0 :: b1 :: b2 :: b3 :: b4 :: b5 :: b6 :: b7 :: t =>
    (d.storeN a 8 (leNat [b0, b1, b2, b3, b4, b5, b6, b7])).storeList (a + 8) t
  | [] => d
  | b0 :: t => (d.storeN a 1 b0.toNat).storeList (a + 1) t

/-- Write the descriptor set and the state map of a region, and set loaded (R140, R524, R527). -/
def Dev.writeRegionImage (d : Dev) (x : LaneSetImage) (r : Nat) : Dev :=
  let d1 := d.each [4 * r, 4 * r + 1, 4 * r + 2, 4 * r + 3] (fun b d => d.writeImage x b)
  let d2 := (x.exch.filter (fun e => e.1.val == r)).foldl (fun d e =>
    d.setReg (rgnReg r + (if d.otherSlot r = 0 then 0x400 else 0x800) + 4 * e.2.1.val) e.2.2) d1
  let d3 := (d2.setFld (rgnReg r) F.RGN_RACK_MAP_n (x.map.length / 16)).storeList (d2.mapBase r) x.map
  d3.setFld (rgnReg r) F.RGN_RACK_CTRL_loaded 1

/-- LOADER_LOAD: checks a verified lane set and, if every check passes, writes it into the inactive slots; a refusal during start-up
is raised for its regions (R140 to R152, R518). -/
def execLoaderLoad (x : LaneSetImage) (s : State) : Host.Outcome State Fault Refusal :=
  s.done (
    match s.dev.loadFailure x with
    | some r => { (imageRegions x).foldl (fun d k => d.startupFail 4 (some k)) s.dev with loadRes := r }
    | none =>
      { s.dev.each (imageRegions x) (fun r d => (d.noteWaits r (d.producedIn x) (imageWalks x r)).writeRegionImage x r) with
        loadRes := ⟨0, 0, 0, 0, 0, 0⟩ })

/-! ### The timing-apply service (R153) -/

/-- The bundle at `n` of a block's slot. -/
def Dev.bundleAt (d : Dev) (b slot n : Nat) : QWord := BitVec.ofNat 128 (d.loadN (blkBase b + 0x10000 * slot + 16 * n) 16)

/-- The claim of a block's slot: that of the budget word it was loaded with, or, of a program that came otherwise, what LANE_WCET
records (R150, R152). -/
def Dev.claimIn (d : Dev) (b s w : Nat) : Nat :=
  let c := Store.get (fun _ => 0) d.slotClaim (2 * b + s)
  if (c + 3) / 4 = w then c else 4 * w

/-- The programs of slot `s` of a region, with their claims. -/
def Dev.slotWalks (d : Dev) (s r : Nat) : List WalkProg :=
  [4 * r, 4 * r + 1, 4 * r + 2, 4 * r + 3].filterMap (fun b =>
    let w := d.fld (blkReg b) (if s = 0 then F.LANE_WCET_a else F.LANE_WCET_b)
    if w = 0 then none
    else some ⟨Fin.ofNat 16 b, 4096, d.bundleAt b s, d.fld (blkReg b) (if s = 0 then F.LANE_ENTRY_a else F.LANE_ENTRY_b), d.claimIn b s w⟩)

/-- A loaded program built for another factor than the shadowed one (R150, R153). -/
def Dev.loadedFactorFail (d : Dev) : Option LoadResult :=
  ((List.range 32).find? (fun n =>
    d.fld (blkReg (n / 2)) (if n % 2 = 0 then F.LANE_WCET_a else F.LANE_WCET_b) != 0 &&
      2 ^ Store.get (fun _ => 0) d.slotFac n != d.subFactor (n / 2))).map (fun n => ⟨15, n / 2, 0, 0, 0, 0⟩)

/-- The first loaded program that fails under the shadowed timing. -/
def Dev.timingFailure (d : Dev) : Option LoadResult :=
  match d.takeTiming.loadedFactorFail with
  | some r => some r
  | none => d.takeTiming.walkAll (fun _ => [])
      ([0, 1, 2, 3].flatMap (fun r => [d.slotWalks 0 r, d.slotWalks 1 r]))

/-- TIMING_APPLY_SERVICE: walks every loaded program under the shadowed timing, and writes apply only if all pass (R68, R153). -/
def execTimingApplyService (s : State) : Host.Outcome State Fault Refusal :=
  s.done (
    match s.dev.timingFailure with
    | some r => { s.dev with loadRes := r }
    | none => { s.dev.setFld 0 F.TRL_STATUS_apply_pending 1 with loadRes := ⟨0, 0, 0, 0, 0, 0⟩ })

end Sys2Proof.Machine
end

