-- ==== Sys2Proof/Machine/Startup.lean ====
section
/-! DEFINITION. Power-on reset, start-up and the calibration of the delay line (R397, R516 to R521, R541, R547). -/

namespace Sys2Proof.Machine

/-- The registers that OTP and NVS keep: the Vintages, floors, floor bumps and owner slots of the Cellar, and the consumed lives
(R388, R411). -/
def keptRegs : List Nat :=
  (List.range 5).flatMap (fun i => [0x40030044 + 4 * i, 0x40030064 + 4 * i, 0x40030084 + 4 * i]) ++ [0x400300A0] ++
    (List.range 32).map (fun n => 0x40030408 + 0x10 * n)

/-- What outlives power: OTP and NVS, the module tags on the buses, and the levels at the pins. The registers loaded from OTP and
NVS hold 0 until the load completes (R11). A sector that was being updated suffers (R444). A trial of a chip firmware slot has ended with the power, and the pointer names the
previous slot (R397, R533). -/
def Dev.powerOn (d0 : Dev) : Dev :=
  let d := d0.nvsInterrupt
  let v := d.vault
  let v1 := if v.trial then { v with bootSlot := !v.bootSlot, trial := false } else v
  let kept := if v.loaded then (0x40030000 :: keptRegs).foldl (fun m a => Store.set zeroWord m a (d.reg a)) [] else v.parked
  let live := fun (x : FbPin) => ({ x with since := 0, ns := 0, out := x.level } : FbPin)
  let d1 := { Dev.initial with
    vault := { v1 with loaded := false, parked := kept }, nvs := d.nvs, nvsBad := d.nvsBad, tags := d.tags, free := d.free,
    pins := d.pins, hsl := { Hsl.initial with stoA := live d.hsl.stoA, stoB := live d.hsl.stoB } }
  (d1.setFld 0 F.HSL_STAT_safe_ack (d.fld 0 F.HSL_STAT_safe_ack)).setFld 0 F.HSL_SAFEOUTSTAT_fb (d.fld 0 F.HSL_SAFEOUTSTAT_fb) |>.stoLevels

/-- The load of the registers that OTP and NVS keep completes (R11, R351, R388, R411, R439). -/
def Dev.loadKept (d : Dev) : Dev :=
  let kept := Store.get zeroWord d.vault.parked
  let d1 := { keptRegs.foldl (fun e a => e.setReg a (kept a)) d with vault := { d.vault with loaded := true, parked := [] } }
  let d2 := (d1.setFld 0 F.CEL_STAT_provisioned (flagBit d.vault.identity.isSome)).setFld 0 F.CEL_STAT_field
    (bitsOf (kept 0x40030000).toNat 5 1)
  ((d2.setFld 0 F.HSL_SPLIT_split (flagBit d.vault.split)).setFld 0 F.HSL_STAT_split (flagBit d.vault.split)).showNvs

/-- A Cask in NVS has verified at start-up: its measurement is recorded and it is the committed image of its destination, so the
stored Vintage rises (R399, R405). -/
def Dev.bootCask (d : Dev) (dest : Nat) : Dev :=
  let h := d.nvsBytes (imageArea dest) 256
  let d1 := ((d.setMeas dest (some { measOf h with typ := (destType dest).getD 0 })).commitCask dest).bump 0 F.CEL_CNT_verified
  if dest < 2 then d1.setSlotOk dest
  else if dest = 3 then d1.takeAnchors (d.nvsBytes (imageArea 3 + 256) (min (cutNat h 0xC 4) 4616)) else d1

/-- The chip firmware: the slot the boot pointer names, or else the other, which is recorded; none where both fail (R397). -/
def Dev.bootChip (d : Dev) : Option Dev :=
  let slot := d.vault.bootSlot
  let ok := fun (s : Bool) => d.storedCaskOk (flagBit s)
  let go := fun (e : Dev) (s : Bool) => (e.bootCask (flagBit s)).setFld 0 F.CHIP_RACK_active (flagBit s)
  if ok slot then some (go d slot)
  else if ok (!slot) then some (go { d with vault := { d.vault with bootSlot := !slot, fallback := true } }.showNvs (!slot))
  else none

/-- The outcomes of step 2 (R397, R518): the self-tests, the chip firmware, then the safety firmware and the calibration, all read
from their NVS image areas. DEV_STAT is written by the chip firmware, once it runs. -/
def Dev.boot (d : Dev) (alarm : Option (Fin 6)) : Dev :=
  match alarm with
  | some bit => d.cellarAlarm bit
  | none =>
    let d0 := if d.vintLost then d.raise Ev.VINTAGE_NVS_LOST scopeChip 0 else d
    match d0.bootChip with
    | none => (d0.setFld 0 F.CEL_STAT_state 2).startupFail 2 none
    | some d1 =>
      let safety := d1.storedCaskOk 2
      let calibration := d1.storedCaskOk 3
      let d2 := if safety then d1.bootCask 2 else d1
      let d3 := if calibration then d2.bootCask 3 else d2
      let d4 := d3.setFld 0 F.CEL_STAT_state 1
      if safety && calibration then d4.releasePair
      else { d4.holdPair with hsl := { d4.holdPair.hsl with wdGood := false } }.hslTrip 1 |>.startupFail 2 none

/-- POWER_ON_RESET_RELEASE: time zero, every supply in its window. The load of OTP and NVS and steps 1 to 3 of start-up run, with
the Cellar's self-tests finding `alarm`; what the chip and safety firmware write afterwards are commands of their own (R11,
R391, R397, R516, R517, R541). -/
def execPorRelease (alarm : Option (Fin 6)) (s : State) : Host.Outcome State Fault Refusal :=
  s.done (({ s.dev.powerOn with trl := { s.dev.powerOn.trl with calibrations := 1 } } : Dev).loadKept.boot alarm)

/-- PAIR_RESET_END: after 1 ms the safety firmware is reloaded and verified; it releases the pair, or the pair stays in
reset and the watchdog trips; a pair that start-up did not release stays as it is (R348, R397). -/
def execPairResetEnd (s : State) : Host.Outcome State Fault Refusal :=
  let d := s.dev
  s.done (
    if d.pairResetDue then
      (if d.storedCaskOk 2 then d.releasePair else { d with hsl := { d.hsl with wdGood := false, reloadBad := true } }.hslTrip 1)
    else d)

/-- PORST_N_LOW: a low of at least 1 µs is a power-on reset, one below 200 ns has no effect, between them either happens
(R541). -/
def execPorstLow (ns : Nat) (s : State) : Host.Outcome State Fault Refusal :=
  let d := s.dev
  s.done (
    if ns < 200 then d
    else if 1000 ≤ ns then d.powerOn
    else
      let d1 := { d with free := d.free + 1 }
      if Config.freeBool d.free then d1.powerOn else d1)

/-- A write of DEV_STAT: ready from 0 to 1 raises DEV_READY with ms (R521, R538). -/
def Dev.writeDevStat (d : Dev) (m : Master) (v : Word) : Dev :=
  let d1 := d.plainWrite m 0x40060100 v
  if !d.flag 0 F.DEV_STAT_ready && d1.flag 0 F.DEV_STAT_ready then
    d1.raise Ev.DEV_READY scopeChip (d1.fld 0 F.DEV_STAT_ms)
  else d1

/-- DEV_STAT_READY_WRITE (R521). -/
def execDevStatReadyWrite (m : Master) (v : Word) (s : State) : Host.Outcome State Fault Refusal :=
  s.done (s.dev.writeDevStat m v)

/-- DELAY_LINE_CALIBRATION: 10 ms after the last one; the edges of the model lie at their ideal steps (R547). -/
def execDelayLineCalibration (s : State) : Host.Outcome State Fault Refusal :=
  let d := s.dev
  s.done (
    if d.trl.calibratedAt + 10 * cyclesPerMs ≤ d.now then
      { d with trl := { d.trl with calibrations := d.trl.calibrations + 1, calibratedAt := d.now } }
    else d)

end Sys2Proof.Machine
end

