-- ==== Sys2Proof/Machine/Registers.lean ====
section
/-! DEFINITION. Every write and read of a master in the address map, by address (R494 to R497), and the accesses of the
safety pair (R345). -/

namespace Sys2Proof.Machine

/-! ### Clearing causes (R40, R185, R277, R342, R436) -/

/-- A W1C write of a cause register: bits whose condition has not ended, and bits set in the same cycle, stay (R40, R498). -/
def Dev.clearCauses (d : Dev) (a mask live : Nat) (v : Word) : Dev :=
  d.setReg a (BitVec.ofNat 32 (clearedCause mask (d.reg a).toNat (v.toNat &&& ((live ||| d.setHere a) ^^^ 0xFFFFFFFF))))

/-- Whether any aligned 64-bit word of a range is uncorrectable. -/
def Dev.anyBad (d : Dev) (a n : Nat) : Bool := d.bad.any (fun x => x.2 && decide (a ≤ 8 * x.1 ∧ 8 * x.1 < a + n))

/-- The memories of a block with the numbers of their bits in BLK_MEMERR: slots, data memory, table banks (R438). -/
def blockMemories (b : Nat) : List (Nat × Nat × Nat) :=
  [(16, blkBase b, 0x10000), (17, blkBase b + 0x10000, 0x10000), (18, blkBase b + 0x40000, 0x40000),
    (19, blkBase b + 0x80000, 0x8000), (20, blkBase b + 0x88000, 0x8000)]

/-- The bits of BLK_MEMERR whose memory still holds an uncorrectable word (R436). -/
def Dev.memLive (d : Dev) (b : Nat) : Nat :=
  (blockMemories b).foldl (fun acc x => if d.anyBad x.2.1 x.2.2 then acc + 2 ^ x.1 else acc) 0

/-- The bits of BLK_CAUSE whose condition goes on: a lane-memory error while data memory, the active slot or the active bank
holds an uncorrectable word (R40). -/
def Dev.blkLive (d : Dev) (b : Nat) : Nat :=
  let m := d.memLive b
  let mem := bitOf m 18 || bitOf m (16 + d.activeSlot (b / 4)) || bitOf m (19 + d.activeBank (b / 4))
  d.liveAt (blkReg b + 0x40) ||| (if mem then 2 else 0)

/-- The bits of LEG_FAULT whose condition goes on: an active comparator, a sinc1 overcurrent, an active FLT input, and for hs_to a
checked channel that is not driven and does not show off (R185, R203, R209). -/
def Dev.legLive (d : Dev) (k : Nat) : Nat :=
  let l := d.leg k
  let stuck := (d.checksOff k .high && !l.drvH && !d.showsOff k l .high) || (d.checksOff k .low && !l.drvL && !d.showsOff k l .low)
  let sinc := (List.range 16).any (fun n => bitOf ((d.sd (k / 32) n).tripped.getD 0).toNat (k % 32))
  pack [(flagBit (d.hardOut k).1, 1), (flagBit ((d.tripClears k && (d.tripOut k).1) || sinc), 1), (flagBit stuck, 1), (0, 1),
    (flagBit (d.fltActive k), 1)]

/-- The feedback channels bound to a unit that have a live cause (R278). -/
def Dev.fbBoundLive (d : Dev) (u : Nat) : Bool :=
  (List.range 8).any (fun c =>
    let a := fbBase (c / 2) (c % 2)
    d.flag a F.FB_BIND_en && d.fld a F.FB_BIND_unit == u && d.liveAt (a + 0x1C38) != 0)

/-- The bits of UNIT_CAUSE whose condition goes on (R342). -/
def Dev.unitLive (d : Dev) (u : Nat) : Nat :=
  let trips := 2 ^ causeHard + 2 ^ causeTrip + 2 ^ causeFlt
  let legs := (d.unitLegs u).map (fun k => d.legLive k)
  let slots := (List.range 8).any (fun k => d.slotActs k u) ||
    (d.fld 0 F.HSL_UPD_state != 0 && updClass (d.fld (unitBase u) F.UNIT_CFG_class))
  pack [(flagBit (legs.any (fun x => x &&& trips != 0)), 1), (flagBit (legs.any (fun x => x / 2 ^ causeHsTo % 2 == 1)), 1),
    (bitsOf (d.liveAt (unitReg u + 0x0C)) 2 1, 1), (flagBit (d.fbBoundLive u), 1), (flagBit (d.readbackBad u), 1),
    (flagBit ((d.laneSet u).any (fun b => d.blkLive b != 0)), 1),
    (flagBit ((d.laneSet u).any (fun b => d.liveAt (rgnReg (b / 4) + 0x40) != 0)), 1),
    (flagBit (d.flag 0 F.HSL_STAT_lockout || slots), 1), (flagBit (d.ov3Acts u), 1)]

/-! ### Writes by address -/

/-- A write of LANE_STATUS: where the lane stores to it in the same lane cycle, the lane's value stands (R497). -/
def Dev.writeLaneStatus (d : Dev) (b : Nat) (v : Word) : Dev :=
  if (d.lane b).statusAt = d.now + 1 then d.raise Ev.WRITE_COLLISION scopeChip (blkReg b + 0x20)
  else
    let c := d.statusClears b v.toNat
    let w := (d.reg (blkReg b + 0x20)).toNat
    (d.setReg (blkReg b + 0x20) (BitVec.ofNat 32 (w &&& (c ^^^ 0xFFFFFFFF)))).setLane b
      { d.lane b with hostAt := d.now + 1, hostClr := BitVec.ofNat 32 (w &&& c) }

/-- A write of a block register. -/
def Dev.writeBlk (d : Dev) (m : Master) (b off : Nat) (v : Word) : Dev :=
  match off with
  | 0x00 => d.writeBlkCtrl b v
  | 0x20 => d.writeLaneStatus b v
  | 0x28 => d.writeLaneEntry b v
  | 0x2C => d.writeLaneWcet b v
  | 0x40 => d.clearCauses (blkReg b + 0x40) 0xFF (d.blkLive b) v
  | 0x70 => d.plainWrite m (blkReg b + 0x70) (BitVec.ofNat 32 (v.toNat &&& (d.memLive b ^^^ 0xFFFFFFFF)))
  | _ => d.plainWrite m (blkReg b + off) v

/-- A write of a leg register. -/
def Dev.writeLegReg (d : Dev) (m : Master) (k off : Nat) (v : Word) : Dev :=
  match off with
  | 0x00 => d.writeLeg m k .cfg v
  | 0x04 => d.writeLeg m k .period v
  | 0x08 => d.writeLeg m k .phase v
  | 0x0C => d.writeLeg m k .dt v
  | 0x10 => d.writeLeg m k .hs v
  | 0x14 => d.writeLeg m k .minon v
  | 0x24 => d.clearCauses (legReg k + 0x24) 0x3F (d.legLive k) v
  | 0x44 => d.writeLegGuard m k v
  | 0x48 => if isDirect k then d.plainWrite m (legReg k + 0x48) v else d
  | _ => if 0x80 ≤ off then d.writeLegCmp m k off v else d.plainWrite m (legReg k + off) v

/-- A write of a register of the analogue front end (R199 to R219). -/
def Dev.writeAfe (d : Dev) (m : Master) (r x : Nat) (v : Word) : Dev :=
  let plain := d.plainWrite m (rgnReg r + x) v
  if x < 0x1200 then
    if x % 0x40 = 0 then d.writeSeqCfg m r ((x - 0x1000) / 0x80) (x % 0x80 / 0x40) v else plain
  else if x = 0x1200 then d.writeSdClk m r v
  else if 0x1240 ≤ x ∧ x < 0x1280 then d.writeSdCfg m r ((x - 0x1240) / 4) v
  else if 0x1400 ≤ x ∧ x < 0x1500 then
    let n := (x - 0x1400) / 0x10
    if x % 0x10 = 8 then d.writeWinStat r n v else (plain.dacStepped r (64 + n) (d.fld (winBase r n) F.WIN_DAC_code)).formRaw r n
  else plain

/-- A write of a register of the feedback channels and probes (R257 to R277). -/
def Dev.writeFb (d : Dev) (m : Master) (r x : Nat) (v : Word) : Dev :=
  if 0x1D00 ≤ x then
    if x % 0x20 = 0 ∧ x < 0x1D40 then d.writeFbReg m r ((x - 0x1D00) / 0x20) .probe v else d.plainWrite m (rgnReg r + x) v
  else
    let f := (x - 0x1C00) / 0x80
    match x % 0x80 with
    | 0x00 => d.writeFbReg m r f .cfg v
    | 0x0C => d.writeFbReg m r f .qep v
    | 0x20 => d.writeFbReg m r f .resCfg v
    | 0x24 => d.writeResExc m r f v
    | 0x34 => d.writeFbReg m r f .ssi v
    | 0x38 => d.clearCauses (rgnReg r + x) 0x3F (d.liveAt (rgnReg r + x)) v
    | _ => d.plainWrite m (rgnReg r + x) v

/-- A write of a unit register: it lands in the unit's region only (R342). -/
def Dev.writeUnit (d : Dev) (m : Master) (r u off : Nat) (v : Word) : Dev :=
  match off with
  | 0x00 => d.writeUnitCfg m r u v
  | 0x04 => d.writeUnitCtrl r u v
  | 0x0C => if d.unitHere r u then d.clearCauses (unitReg u + 0x0C) 0x1FF (d.unitLive u) v else d
  | _ => d

/-- A write of a capture register. -/
def Dev.writeCap (d : Dev) (m : Master) (r x : Nat) (v : Word) : Dev :=
  match x with
  | 0x2900 => d.writeCapReg m r .cfg v
  | 0x2904 => d.writeCapReg m r .smp v
  | 0x2910 => d.writeCapReg m r .base v
  | 0x2914 => d.writeCapReg m r (.sel 0) v
  | 0x2918 => d.writeCapReg m r (.sel 1) v
  | 0x291C => d.writeCapReg m r (.sel 2) v
  | 0x2920 => d.writeCapReg m r (.sel 3) v
  | _ => d.plainWrite m (rgnReg r + x) v

/-- A write of an indirect pair's register; false with an error response (R499, R503). -/
def Dev.writeInd (d : Dev) (m : Master) (sc : IndScope) (off : Nat) (v : Word) : Dev :=
  match off with
  | 0x00 => d.indAddr m sc (some v)
  | 0x04 => d.indData m sc (some v)
  | 0x08 => d.indLock m sc v
  | 0x10 => d.writeSnap sc v
  | _ => d.plainWrite m (indBase sc + off) v

/-- A write of a racking or restart register (R522 to R528). -/
def Dev.writeRack (d : Dev) (m : Master) (r x : Nat) (v : Word) : Dev :=
  match x with
  | 0x3100 => d.writeRackCtrl m r v
  | 0x3110 => d.writeRestartDma r v
  | 0x3104 | 0x3114 => if d.rackState r = rackIdle then d.plainWrite m (rgnReg r + x) v else d
  | _ => d.plainWrite m (rgnReg r + x) v

/-- A write of a region register. -/
def Dev.writeRgn (d : Dev) (m : Master) (r : RegionId) (x : Nat) (v : Word) : Dev :=
  if x = 0x40 then d.clearCauses (rgnReg r + 0x40) 0xFF (d.liveAt (rgnReg r + 0x40)) v
  else if x = 0x60 ∨ x = 0x64 then d.writePhase m r (x == 0x64) v
  else if x = 0x68 then d.writeSubtick r v
  else if 0x100 ≤ x ∧ x < 0x120 then d.writeLegOwn r ((x - 0x100) / 4) v
  else if 0x400 ≤ x ∧ x < 0x800 then d.writeExch m r false ((x - 0x400) / 4) v
  else if 0x800 ≤ x ∧ x < 0xC00 then d.writeExch m r true ((x - 0x800) / 4) v
  else if 0x1000 ≤ x ∧ x < 0x1800 then d.writeAfe m r x v
  else if 0x1A00 ≤ x ∧ x < 0x1A80 then
    match x % 0x40 with
    | 0 => d.writeShdCfg m r ((x - 0x1A00) / 0x40) v
    | 4 => d.writeShdLegs m r ((x - 0x1A00) / 0x40) v
    | _ => d.plainWrite m (rgnReg r + x) v
  else if 0x1C00 ≤ x ∧ x < 0x1E00 then d.writeFb m r x v
  else if 0x1E00 ≤ x ∧ x < 0x1E80 then
    if x % 8 = 0 then d.writeRf m r (.ch (Fin.ofNat 16 ((x - 0x1E00) / 8))) v else d.plainWrite m (rgnReg r + x) v
  else if x = 0x1F00 then d.writeRf m r .cfg v
  else if x = 0x1F04 then d.writeRf m r .base v
  else if 0x2000 ≤ x ∧ x < 0x2800 then d.writeUnit m r ((x - 0x2000) / 0x40) (x % 0x40) v
  else if 0x2800 ≤ x ∧ x < 0x2880 then
    match x % 0x20 with
    | 0 => d.dmaPush r (Fin.ofNat 4 ((x - 0x2800) / 0x20)) v
    | 4 => d.writeDmaCtrl r ((x - 0x2800) / 0x20) v
    | _ => d.plainWrite m (rgnReg r + x) v
  else if 0x2900 ≤ x ∧ x < 0x2A00 then d.writeCap m r x v
  else if 0x3000 ≤ x ∧ x < 0x3020 then d.writeInd m (.region r) (x - 0x3000) v
  else if 0x3100 ≤ x then d.writeRack m r x v
  else d.plainWrite m (rgnReg r + x) v

/-- A write of CEL_CMD: the command of its op (R389). -/
def Dev.writeCelCmd (d : Dev) (m : Master) (v : Word) : Dev :=
  let arg := bitsOf v.toNat 16 16
  let tag := fun (d : Dev) => let r := d.tagAuth arg; (some r.1, r.2)
  let run : Option (Dev → Option Nat × Dev) := match bitsOf v.toNat 0 8 with
    | 1 => some (fun d => d.verifyCask arg)
    | 2 => some Dev.attest
    | 3 => some Dev.provision
    | 4 => some Dev.endorse
    | 5 => some (fun d => d.floorBump arg)
    | 6 => some (fun d => d.revokeSlot arg)
    | 7 => some Dev.debugChallenge
    | 8 => some Dev.debugOpen
    | 9 => some tag
    | 0x0A => some (fun d => d.lifeStore arg)
    | 0x0B => some (fun d => d.lifeWrite arg)
    | 0x0C => some (fun d => d.macsecKey arg)
    | 0x0D => some (fun d => d.releaseCask arg)
    | 0x0E => some (fun d => d.sealCmd (arg % 256))
    | 0x0F => some (fun d => d.unsealCmd (arg % 256))
    | _ => none
  match run with
  | some f => d.celCmd m (bitsOf v.toNat 0 8) f
  | none => d.celUnknown m (bitsOf v.toNat 0 8)

/-- A write of an HSL register; `x` is its offset. -/
def Dev.writeHsl (d : Dev) (m : Master) (x : Nat) (v : Word) : Dev :=
  let a := 0x40020000 + x
  if x = 4 then d.writeSplit m v
  else if x = 0x54 then d.writeSffault m v
  else if x = 0x58 then d.writeUnlock m v
  else if 0x100 ≤ x ∧ x < 0x180 then d.writeFloor m ((x - 0x100) / 4) v
  else if x = 0x200 ∨ x = 0x204 then d.sfWrite m a v
  else if x = 0x20C ∨ x = 0x210 then d.writeWdResp m (x == 0x210) v
  else if x = 0x220 ∨ x = 0x224 then d.writeSafeOut m ((x - 0x220) / 4) v
  else if x = 0x248 then d.writeSfreq m v
  else if x = 0x24C then d.writeSfdone m v
  else if x = 0x270 then (d.plainWrite m a v).uvCheck
  else if x = 0x318 then d.writeOv3Sel m v
  else if 0x400 ≤ x ∧ x < 0x480 then d.writeSafe m ((x - 0x400) / 4) v
  else if 0x500 ≤ x ∧ x < 0x510 then d.writeSoftSlot m ((x - 0x500) / 4) v
  else if 0x600 ≤ x ∧ x < 0x700 then
    let k := (x - 0x600) / 0x20
    match x % 0x20 with
    | 0x00 => d.writeSf m k .cfg v
    | 0x04 => d.writeSf m k .units v
    | 0x08 => d.writeSf m k .p1 v
    | 0x0C => d.writeSf m k .p2 v
    | 0x10 => d.writeSf m k .ceil v
    | _ => d.plainWrite m a v
  else if x = 0x700 then d.writeUpd m v
  else if x = 0x710 then d.writeHslTest m v
  else d.plainWrite m a v

/-- A write of a register of the safe channel; `x` is its offset. -/
def Dev.writeSch (d : Dev) (m : Master) (x : Nat) (v : Word) : Dev :=
  let a := 0x40050000 + x
  if 0x100 ≤ x ∧ x < 0x900 then
    let n := (x - 0x100) / 0x40
    match x % 0x40 with
    | 0x00 => d.writeConCfg m n v
    | 0x04 | 0x0C | 0x10 | 0x14 => d.sfWrite m a v
    | 0x08 => d.writeSid m n v
    | 0x18 => d.writeConCtrl m n v
    | _ => d.plainWrite m a v
  else if 0x1000 ≤ x ∧ x < 0x1800 then d.writeSchBuf m ((x - 0x1000) / 0x40) (x % 0x40 / 4) v
  else d.plainWrite m a v

/-- A write of a chip register. -/
def Dev.writeChip (d : Dev) (m : Master) (a : Nat) (v : Word) : Dev :=
  if a = 0x40000000 then d.writeTrlCtrl m v
  else if a = 0x40000008 then d.writeTimeLo v
  else if a = 0x4000000C then d.writeTimeHi v
  else if a = 0x40000038 then d.writeTrlPort m v
  else if a = 0x40011430 then d.softRaise v
  else if 0x40020000 ≤ a ∧ a < 0x40030000 then d.writeHsl m (a - 0x40020000) v
  else if a = 0x40030004 then d.writeCelCmd m v
  else if 0x40030400 ≤ a ∧ a < 0x40030600 ∧ a % 0x10 = 0 then d.writeTagMap m ((a - 0x40030400) / 0x10) v
  else if 0x40050000 ≤ a ∧ a < 0x40060000 then d.writeSch m (a - 0x40050000) v
  else if 0x40060000 ≤ a ∧ a < 0x40060020 then d.writeInd m .chip (a - 0x40060000) v
  else if a = 0x40060100 then d.writeDevStat m v
  else if a = 0x40060110 then d.writeChipRack m v
  else d.plainWrite m a v

/-- An aligned write of a master to a register address. -/
def Dev.writeReg (d : Dev) (m : Master) (a : Nat) (v : Word) : Dev :=
  if 0x20000000 ≤ a ∧ a < 0x24000000 then
    let r := (a - 0x20000000) / 0x1000000
    let x := (a - 0x20000000) % 0x1000000
    if 0x800000 ≤ x then d.writeRgn m (Fin.ofNat 4 r) (x - 0x800000) v
    else
      let b := 4 * r + (x - 0x400000) / 0x100000
      let y := x % 0x100000
      if 0xD0000 ≤ y then d.writeLegReg m (8 * b + (y - 0xD0000) / 0x100) (y % 0x100) v
      else d.writeBlk m b (y - 0xC0000) v
  else if 0x40100000 ≤ a then d.writePort m ((a - 0x40100000) / 0x10000) ((a - 0x40100000) % 0x10000) v
  else d.writeChip m a v

/-! ### Accesses -/

/-- Whether an access of `n` bytes is an aligned access to a register (R495). -/
def isRegAccess (a n : Nat) : Bool := (regSpace a).isSome && n == 4 && a % 4 == 0

/-- A write of `n` bytes by a master: a memory, a register, or nothing, which is a bus error (R494, R495). -/
def Dev.busWrite (d : Dev) (m : Master) (a n v : Nat) : Dev :=
  let d1 := { d with resp := 0, respErr := false }
  if (memKind a).isSome then (d1.memWrite m.id a n v).2
  else if isRegAccess a n then d1.writeReg m a (BitVec.ofNat 32 v)
  else d1.busError m.id a

/-- A read of an indirect pair's register. -/
def Dev.readInd (d : Dev) (m : Master) (sc : IndScope) (off : Nat) : Dev :=
  match off with
  | 0x00 => d.indAddr m sc none
  | 0x04 => d.indData m sc none
  | _ => d.answer (d.plainRead m (indBase sc + off) (d.reg (indBase sc + off)))

/-- The scope and offset of an indirect pair's register. -/
def indOf (a : Nat) : Option (IndScope × Nat) :=
  if 0x40060000 ≤ a ∧ a < 0x40060020 then some (.chip, a - 0x40060000)
  else if 0x20803000 ≤ a ∧ a < 0x24000000 ∧ 0x803000 ≤ a % 0x1000000 ∧ a % 0x1000000 < 0x803020 then
    some (.region (Fin.ofNat 4 ((a - 0x20000000) / 0x1000000)), a % 0x1000000 - 0x803000)
  else none

/-- An aligned read of a register; every master may read a receive buffer of the safe channel (R9, R385). -/
def Dev.readReg (d : Dev) (m : Master) (a : Nat) : Dev :=
  match indOf a with
  | some (sc, off) => d.readInd m sc off
  | none =>
    if a = 0x40000008 then d.copyTime.answer (d.ns.setWidth 32)
    else
      let x := d.view a
      x.2.answer (if d.isRxBuf a then x.1 else x.2.plainRead m a x.1)

/-- A read of `n` bytes by a master; its answer is in `resp`. -/
def Dev.busRead (d : Dev) (m : Master) (a n : Nat) : Dev :=
  if (memKind a).isSome then
    let x := d.memRead m.id a n
    match x.1 with
    | some v => x.2.answer (BitVec.ofNat 32 v)
    | none => { x.2 with resp := 0, respErr := true }
  else if isRegAccess a n then d.readReg m a
  else d.busError m.id a

/-- REGISTER_WRITE: a 32-bit write of a master anywhere in the address map. -/
def execRegisterWrite (m : Master) (addr v : Word) (s : State) : Host.Outcome State Fault Refusal :=
  s.done (s.dev.busWrite m addr.toNat 4 v.toNat)

/-- BUS_ERROR: an access whose address lies nowhere, or one to a register that is no aligned 32-bit access; any other access is
none (R495). -/
def execBusError (m : Master) (addr : Word) (size : Nat) (_wr : Bool) (s : State) : Host.Outcome State Fault Refusal :=
  let a := addr.toNat
  s.done (if (memKind a).isSome || isRegAccess a size then s.dev else s.dev.busError m.id a)

/-! ### The safety pair (R345, R346, R351) -/

/-- An access of a safety core, as a master. -/
def Dev.pairAccess (d : Dev) (m : Master) : PairAccess → Dev
  | .write a n v => d.busWrite m a.toNat n v.toNat
  | .read a n => d.busRead m a.toNat n

/-- The address of an access. -/
def accessAddr : PairAccess → Nat
  | .write a _ _ => a.toNat
  | .read a _ => a.toNat

/-- An access of one core alone: to its own SRAM, and a write of a response of the watchdog. -/
def ownAccess (sc1 : Bool) (x : PairAccess) : Bool :=
  let a := accessAddr x
  let base := 0x11000000 + (if sc1 then 0x80000 else 0)
  decide (base ≤ a ∧ a < base + 0x80000) ||
    match x with
    | .write _ _ _ => a == 0x4002020C || a == 0x40020210
    | .read _ _ => false

/-- PAIR_EXTERNAL_ACCESS: in split mode, and for an access of one core alone, the core's own access. Otherwise a compare point:
a read is issued once, when the first core arrives, and both have its answer; a write is issued once, when both have
arrived. The pair issues as master 2, and in machine mode with the secure attribute. A pair held in reset issues nothing. -/
def execPairExternalAccess (sc1 : Bool) (machine : Bool) (x : PairAccess) (s : State) : Host.Outcome State Fault Refusal :=
  let d := s.dev
  let own : Master := ⟨if sc1 then 3 else 2, machine⟩
  let both : Master := ⟨2, machine⟩
  s.done (
    if d.hsl.pairUp = false then d
    else if d.isSplit || ownAccess sc1 x then d.pairAccess own x
    else
      match x with
      | .read _ _ => d.pairArrive sc1 (.access x) (fun d => d.pairAccess both x)
          (fun w d => { d with resp := w.data, respErr := w.err })
      | .write _ _ _ => d.pairArrive sc1 (.access x) id (fun _ d => d.pairAccess both x))

end Sys2Proof.Machine
end

