-- ==== Sys2Proof/Machine/SafetyFrame.lean ====
section
/-! DEFINITION. One frame of the safety firmware: it reads its inputs, evaluates every safety-function slot and writes its
outputs (R314, R316, R349, R360 to R362, R366, R368, R379, R381). -/

namespace Sys2Proof.Machine

/-- One rpm in the units of `speedOf`: 1/360360 of 2^-32, so that every FB_CFG.pp divides it. -/
abbrev rpmUnit : Nat := 360360 * 2 ^ 32

/-- The mechanical speed of a chip feedback channel from its intake word, in 1 / `rpmUnit` rpm; a Hall speed is divided by
FB_CFG.pp (R259, R362). -/
def Dev.speedOf (d : Dev) (c : Nat) : Int :=
  let a := fbBase (c / 2) (c % 2)
  let w : Int := 60000000 * (BitVec.ofNat 32 (d.intake (4 * (c / 2)) (128 + 32 * (c % 2) + 2))).toInt * 360360
  if d.fld a F.FB_CFG_src = 1 then w / d.fld a F.FB_CFG_pp else w

/-- Whether the connection of a slot demands it: not in RUN, or bit `k` of its last payload byte 0 is 0 (R360, R381). -/
def Dev.conDemands (d : Dev) (k : Nat) : Bool :=
  let n := d.fld (sfBase k) F.HSL_SF_CFG_con
  d.flag (sfBase k) F.HSL_SF_CFG_con_en &&
    (d.conState n != conRun || !bitOf (d.sch n).payload0.toNat k)

/-- The slots for which a predicate holds, as bits. -/
def slotMask (p : Nat → Bool) : Nat := ((List.range 8).map (fun k => if p k then 2 ^ k else 0)).sum

/-- Parts of the parameters of a slot (R384). -/
def Dev.sfP1 (d : Dev) (k lo w : Nat) : Nat := bitsOf (d.fld (sfBase k) F.HSL_SF_P1_p1) lo w
def Dev.sfP2 (d : Dev) (k lo w : Nat) : Nat := bitsOf (d.fld (sfBase k) F.HSL_SF_P2_p2) lo w

/-- A slot of type `t` that is demanded. -/
def Dev.demandedAs (d : Dev) (k t : Nat) : Bool :=
  bitOf (d.fld 0 F.HSL_SFSTAT_demand) k && d.fld (sfBase k) F.HSL_SF_CFG_type == t

/-- An SS1 slot in ramp mode that is demanded, with the speed of its channel and the speed at the demand (R362), in
1 / `rpmUnit` rpm. -/
def Dev.ss1Ramp (d : Dev) (k : Nat) : Bool := d.demandedAs k 2 && d.sfP1 k 16 1 == 1
def Dev.ss1Speed (d : Dev) (k : Nat) : Nat := (d.speedOf (d.sfP1 k 17 3)).natAbs
def Dev.ss1Start (d : Dev) (k : Nat) : Nat :=
  match Store.get (fun _ => none) d.hsl.omega0 k with
  | some w => w.natAbs
  | none => d.ss1Speed k

/-- |ω| > max(0, ω0 − decel × t) + tol, multiplied through by the lane cycles of a second (R362). -/
def Dev.ss1Fault (d : Dev) (k : Nat) : Bool :=
  let t := d.now - Store.get (fun _ => 0) d.hsl.sfAt k
  d.ss1Ramp k && decide (max 0 ((d.ss1Start k * cyclesPerSecond : Nat) - (d.sfP2 k 0 16 * rpmUnit * t : Nat) : Int) +
    (d.sfP2 k 16 16 * rpmUnit * cyclesPerSecond : Nat) < (d.ss1Speed k * cyclesPerSecond : Nat))

/-- A slot of type SLS whose speeds differ by more than disc in this frame (R362). -/
def Dev.slsApart (d : Dev) (k : Nat) : Bool :=
  d.demandedAs k 3 && decide (d.sfP2 k 0 16 * rpmUnit < (d.speedOf (d.sfP1 k 0 3) - d.speedOf (d.sfP1 k 4 3)).natAbs)

/-- Whether an SLS slot faults: a speed above the limit, speeds apart for longer than disc_t, or a feedback fault (R362). -/
def Dev.slsFault (d : Dev) (k : Nat) : Bool :=
  let a := d.sfP1 k 0 3
  let b := d.sfP1 k 4 3
  let limit := d.sfP1 k 16 16 * rpmUnit
  let long := match Store.get (fun _ => none) d.hsl.slsAt k with
    | some t => d.slsApart k && decide (t + d.sfP2 k 16 8 * cyclesPerMs < d.now)
    | none => false
  let lost := fun c => d.fld (rgnReg (c / 2) + 0x80 * (c % 2)) F.FB_FAULT_cause != 0
  d.demandedAs k 3 && (decide (limit < (d.speedOf a).natAbs ∨ limit < (d.speedOf b).natAbs) || long || lost a || lost b)

/-- A connection fault with lock = 1 faults its slots, but not during an update (R379, R535). -/
def Dev.lockFault (d : Dev) (k : Nat) : Bool :=
  let n := d.fld (sfBase k) F.HSL_SF_CFG_con
  d.flag (sfBase k) F.HSL_SF_CFG_con_en && d.conState n == conFaulted && d.flag (conBase n) F.SCH_CON_CFG_lock &&
    d.fld 0 F.HSL_UPD_state == 0

/-- Every unit outside a DISCH slot is quiet (R362). -/
def Dev.othersQuiet (d : Dev) (k : Nat) : Bool :=
  (List.range 32).all (fun u => bitOf (d.fld (sfBase k) F.HSL_SF_UNITS_units) u ||
    (d.unit u).st == .disabled || (d.unit u).st == .hold || (d.unit u).st == .settle || (d.unit u).st == .locked)

/-- What the frame remembers of a slot: the speed at the demand, since when SLS speeds are apart, since when the others are
quiet. -/
def Dev.frameMarks (d : Dev) (k : Nat) : Dev :=
  let h := d.hsl
  let keep := fun (now : Bool) (old : Option Nat) => if now then some (old.getD d.now) else none
  { d with hsl := { h with
      omega0 := if d.ss1Ramp k then Store.set (fun _ => none) h.omega0 k (some (d.ss1Start k : Int)) else h.omega0,
      slsAt := Store.set (fun _ => none) h.slsAt k (keep (d.slsApart k) (Store.get (fun _ => none) h.slsAt k)),
      quietAt := Store.set (fun _ => none) h.quietAt k
        (keep (d.demandedAs k 4 && d.othersQuiet k) (Store.get (fun _ => none) h.quietAt k)) } }

/-- Whether the frame writes HSL_SFDONE for a slot: SS1 in ramp mode at |ω| ≤ tol, or DISCH once the settling time has passed
(R362). -/
def Dev.frameDone (d : Dev) (k : Nat) : Bool :=
  (d.ss1Ramp k && decide (d.ss1Speed k ≤ d.sfP2 k 16 16 * rpmUnit)) ||
    (d.demandedAs k 4 && match Store.get (fun _ => none) d.hsl.quietAt k with
      | some t => decide (t + d.sfP1 k 16 8 * cyclesPerMs ≤ d.now)
      | none => false)

/-- Whether TRC_STATUS of a traction unit shows a speed below 0.9 of its uncontrolled-generator speed. DESIGN CHOICE: of a unit
without a reference program nothing is known, and its bit is 0 (R228, R316, assumption 96). -/
def Dev.belowUcg (d : Dev) (u : Nat) : Bool :=
  match d.progLane u with
  | some b =>
    let speed := (BitVec.ofNat 32 (d.loadN (statusBase b + 8) 4)).toInt.natAbs
    d.unitClass u == 1 && decide (10 * speed < 9 * d.loadN (statusBase b + 0x18) 4)
  | none => false

/-- The units whose HSL_OV3SEL bit the frame writes with 1 (R316). -/
def Dev.frameOff (d : Dev) : Word :=
  BitVec.ofNat 32 (((List.range 32).map (fun u => if d.belowUcg u then 2 ^ u else 0)).sum)

/-- The safety pair as the master of its own writes. -/
def pairMaster : Master := ⟨2, true⟩

/-- A reset request on the reset authority's connection is served by the unlock word; outside lock-out there is nothing to
unlock (R368). -/
def Dev.serveReset (d : Dev) : Dev :=
  let n := d.fld 0 F.HSL_RSTAUTH_con
  if d.flag 0 F.HSL_RSTAUTH_en && (d.sch n).resetDue then
    let d1 := d.setSch n { d.sch n with resetDue := false }
    if d1.flag 0 F.HSL_STAT_lockout then d1.writeUnlock pairMaster 0x5AFE5AFE else d1
  else d

/-- A mechanical-brake request that is due goes into the buffer of the connection bound to the brake controller (R314). -/
def Dev.serveBrake (d : Dev) (x : SafetyInputs) : Dev :=
  match x.brake with
  | some (n, payload) =>
    if d.hsl.brakeDue then { d.fillBuf n payload with hsl := { d.hsl with brakeDue := false } } else d
  | none => d

/-- The outputs of a frame, computed from what it read at its start. -/
def Dev.safetyFrame (d : Dev) (x : SafetyInputs) : Dev :=
  let d00 : Dev := { d with hsl := { d.hsl with frameAt := some d.now, requests := x.request } }
  let d0 := d00.each (List.range 8) (fun k d => d.frameMarks k)
  let req := slotMask (fun k => bitOf x.request.toNat k || d0.conDemands k || bitOf d0.hsl.overCeil k)
  let fault := slotMask (fun k => d0.lockFault k || d0.ss1Fault k || d0.slsFault k || bitOf d0.hsl.dischBad k)
  let done := d0.fld 0 F.HSL_SFDONE_done ||| slotMask (fun k => d0.frameDone k)
  let d1 := (d0.setFld 0 F.HSL_SFREQ_req req).sfUpdate
  let d2 := ((d1.setSffault fault).setDone done).writeOv3Sel pairMaster d0.frameOff
  (d2.serveReset).serveBrake x

/-- Whether the next frame begins: half a safety-pair cycle after the last, the first with the release of the pair (R349). -/
def Dev.frameDue (d : Dev) : Bool :=
  d.hsl.pairUp && match d.hsl.frameAt with
    | some t => decide (2 * t + d.fld 0 F.HSL_WD_period * cyclesPerUs ≤ 2 * d.now)
    | none => true

/-- SAFETY_FRAME: what the application firmware asks of the safety firmware, or as in the last frame; a pair that is held in reset
evaluates nothing (R349). DESIGN CHOICE: a frame delivers its outputs as it reads its inputs (assumption 96). -/
def execSafetyFrame (x : Option SafetyInputs) (s : State) : Host.Outcome State Fault Refusal :=
  let d := s.dev
  s.done (if d.hsl.pairUp then d.safetyFrame (x.getD { request := d.hsl.requests, brake := none }) else d)

end Sys2Proof.Machine
end

