-- ==== Sys2Proof/Machine/Dispatch.lean ====
section
/-! DEFINITION. The effect of every command: one arm per constructor, each one call of its meaning. -/

namespace Sys2Proof.Machine

/-- The effect of a command on everything but the queue. -/
def exec (i : Instr) (s : State) : Host.Outcome State Fault Refusal :=
  match i with
  | .disablePathTestEnd line => Sys2Proof.Machine.execDisablePathTestEnd line s
  | .syncTimeout => Sys2Proof.Machine.execSyncTimeout s
  | .frameTick => Sys2Proof.Machine.execFrameTick s
  | .subTickStart b => Sys2Proof.Machine.execSubTickStart b s
  | .computeBoundary b => Sys2Proof.Machine.execComputeBoundary b s
  | .phaseBoundary b commit => Sys2Proof.Machine.execPhaseBoundary b commit s
  | .commitPoint b => Sys2Proof.Machine.execCommitPoint b s
  | .shedStart r q => Sys2Proof.Machine.execShedStart r q s
  | .shedComplete r q => Sys2Proof.Machine.execShedComplete r q s
  | .shedDwellEnd r q => Sys2Proof.Machine.execShedDwellEnd r q s
  | .shedHoldOffEnd r q => Sys2Proof.Machine.execShedHoldOffEnd r q s
  | .rainflowSample r n => Sys2Proof.Machine.execRainflowSample r n s
  | .eventWaitDeadline ln => Sys2Proof.Machine.execEventWaitDeadline ln s
  | .put ln x sealing => Sys2Proof.Machine.execPut ln x sealing s
  | .get ln x => Sys2Proof.Machine.execGet ln x s
  | .getComplete ln => Sys2Proof.Machine.execGetComplete ln s
  | .exchTimeout ln => Sys2Proof.Machine.execExchTimeout ln s
  | .carrierValley k at_ => Sys2Proof.Machine.execCarrierValley k at_ s
  | .carrierPeak k at_ => Sys2Proof.Machine.execCarrierPeak k at_ s
  | .requestEdge k at_ => Sys2Proof.Machine.execRequestEdge k at_ s
  | .deadTimeEnd k at_ => Sys2Proof.Machine.execDeadTimeEnd k at_ s
  | .handshakeTimeout k => Sys2Proof.Machine.execHandshakeTimeout k s
  | .hardComparatorTrip k uv => Sys2Proof.Machine.execHardComparatorTrip k uv s
  | .tripComparatorTrip k uv => Sys2Proof.Machine.execTripComparatorTrip k uv s
  | .cycleLimit k uv => Sys2Proof.Machine.execCycleLimit k uv s
  | .blankingEnd k => Sys2Proof.Machine.execBlankingEnd k s
  | .zeroCurrentDetect k uv => Sys2Proof.Machine.execZeroCurrentDetect k uv s
  | .sinc1Overcurrent r n bits => Sys2Proof.Machine.execSinc1Overcurrent r n bits s
  | .fltInput k level => Sys2Proof.Machine.execFltInput k level s
  | .softOffEnd k => Sys2Proof.Machine.execSoftOffEnd k s
  | .offSettleEnd k => Sys2Proof.Machine.execOffSettleEnd k s
  | .attributionWindowEnd u => Sys2Proof.Machine.execAttributionWindowEnd u s
  | .ascExitStep u => Sys2Proof.Machine.execAscExitStep u s
  | .enablingTimeout u => Sys2Proof.Machine.execEnablingTimeout u s
  | .quietTimeEnd u => Sys2Proof.Machine.execQuietTimeEnd u s
  | .adcTrigger r a q => Sys2Proof.Machine.execAdcTrigger r a q s
  | .adcSequenceStart r a q => Sys2Proof.Machine.execAdcSequenceStart r a q s
  | .adcResult r a q x => Sys2Proof.Machine.execAdcResult r a q x s
  | .sdDecimationOutput r n bits => Sys2Proof.Machine.execSdDecimationOutput r n bits s
  | .sdStuck r n bits => Sys2Proof.Machine.execSdStuck r n bits s
  | .windowComparatorActive r n uv => Sys2Proof.Machine.execWindowComparatorActive r n uv s
  | .fbSample r f => Sys2Proof.Machine.execFbSample r f s
  | .qepEdge r f a b => Sys2Proof.Machine.execQepEdge r f a b s
  | .indexEdge r f z => Sys2Proof.Machine.execIndexEdge r f z s
  | .hallStateChange r f st => Sys2Proof.Machine.execHallStateChange r f st s
  | .resPeakTrigger r f positive => Sys2Proof.Machine.execResPeakTrigger r f positive s
  | .resPair r f => Sys2Proof.Machine.execResPair r f s
  | .ssiFrameEnd r f line => Sys2Proof.Machine.execSsiFrameEnd r f line s
  | .zeroSpeedTimeout r f => Sys2Proof.Machine.execZeroSpeedTimeout r f s
  | .probeEdge r q level => Sys2Proof.Machine.execProbeEdge r q level s
  | .flyDetectEnd u => Sys2Proof.Machine.execFlyDetectEnd u s
  | .alignEnd u => Sys2Proof.Machine.execAlignEnd u s
  | .handOver u => Sys2Proof.Machine.execHandOver u s
  | .startAbort u => Sys2Proof.Machine.execStartAbort u s
  | .flyBrakeAbort u => Sys2Proof.Machine.execFlyBrakeAbort u s
  | .ascHoldExit u => Sys2Proof.Machine.execAscHoldExit u s
  | .stopComplete u => Sys2Proof.Machine.execStopComplete u s
  | .converterLimitEntry u => Sys2Proof.Machine.execConverterLimitEntry u s
  | .chopperPulsingChange u => Sys2Proof.Machine.execChopperPulsingChange u s
  | .chopperLegUnhealthy u leg => Sys2Proof.Machine.execChopperLegUnhealthy u leg s
  | .ov3SourceActive r n uv => Sys2Proof.Machine.execOv3SourceActive r n uv s
  | .ov3Release => Sys2Proof.Machine.execOv3Release s
  | .ov3selHoldExpiry u => Sys2Proof.Machine.execOv3selHoldExpiry u s
  | .uvSourceActive r n uv => Sys2Proof.Machine.execUvSourceActive r n uv s
  | .watchdogPeriod => Sys2Proof.Machine.execWatchdogPeriod s
  | .pairCompareTimeout => Sys2Proof.Machine.execPairCompareTimeout s
  | .pairResetEnd => Sys2Proof.Machine.execPairResetEnd s
  | .safetyFrame x => Sys2Proof.Machine.execSafetyFrame x s
  | .stoInputChange chB level => Sys2Proof.Machine.execStoInputChange chB level s
  | .stoDiscrepancy => Sys2Proof.Machine.execStoDiscrepancy s
  | .ss1Timeout k => Sys2Proof.Machine.execSs1Timeout k s
  | .dischTimeout k => Sys2Proof.Machine.execDischTimeout k s
  | .sfBoundRecompute => Sys2Proof.Machine.execSfBoundRecompute s
  | .safeOutDelay n => Sys2Proof.Machine.execSafeOutDelay n s
  | .safeFbMismatch n level => Sys2Proof.Machine.execSafeFbMismatch n level s
  | .resetArmTimeout => Sys2Proof.Machine.execResetArmTimeout s
  | .safetyCaskLoaded => Sys2Proof.Machine.execSafetyCaskLoaded s
  | .updateTimeLimit => Sys2Proof.Machine.execUpdateTimeLimit s
  | .schTransmit n => Sys2Proof.Machine.execSchTransmit n s
  | .schFrameCheck n => Sys2Proof.Machine.execSchFrameCheck n s
  | .schWatchdogExpiry n => Sys2Proof.Machine.execSchWatchdogExpiry n s
  | .release m arg => Sys2Proof.Machine.execRelease m arg s
  | .mtbNoresp bus => Sys2Proof.Machine.execMtbNoresp bus s
  | .tagPoll n tag => Sys2Proof.Machine.execTagPoll n tag s
  | .lifeServiceUpdate n => Sys2Proof.Machine.execLifeServiceUpdate n s
  | .lifeFactorStep n => Sys2Proof.Machine.execLifeFactorStep n s
  | .nvsWrite => Sys2Proof.Machine.execNvsWrite s
  | .nvsFill => Sys2Proof.Machine.execNvsFill s
  | .nvsVerify => Sys2Proof.Machine.execNvsVerify s
  | .nvsPatrol ecc => Sys2Proof.Machine.execNvsPatrol ecc s
  | .scrubPass late found => Sys2Proof.Machine.execScrubPass late found s
  | .fabricTagGrant m x noise => Sys2Proof.Machine.execFabricTagGrant m x noise s
  | .fabricStarve m => Sys2Proof.Machine.execFabricStarve m s
  | .dmaDescriptorStart r c => Sys2Proof.Machine.execDmaDescriptorStart r c s
  | .dmaDescriptorEnd r c => Sys2Proof.Machine.execDmaDescriptorEnd r c s
  | .capTrigger r => Sys2Proof.Machine.execCapTrigger r s
  | .capRecord r => Sys2Proof.Machine.execCapRecord r s
  | .logEntryWrite => Sys2Proof.Machine.execLogEntryWrite s
  | .indLockExpiry sc => Sys2Proof.Machine.execIndLockExpiry sc s
  | .rackSwitch r => Sys2Proof.Machine.execRackSwitch r s
  | .rackCommit r => Sys2Proof.Machine.execRackCommit r s
  | .unrack r => Sys2Proof.Machine.execUnrack r s
  | .chipFirmwareLoaded => Sys2Proof.Machine.execChipFirmwareLoaded s
  | .chipRackProbationEnd => Sys2Proof.Machine.execChipRackProbationEnd s
  | .linResponseTimeout p => Sys2Proof.Machine.execLinResponseTimeout p s
  | .axlLinkDown p inFrame => Sys2Proof.Machine.execAxlLinkDown p inFrame s
  | .bulkRetryTimeout p => Sys2Proof.Machine.execBulkRetryTimeout p s
  | .uvSourceInactive r n uv => Sys2Proof.Machine.execUvSourceInactive r n uv s
  | .porRelease alarm => Sys2Proof.Machine.execPorRelease alarm s
  | .porstLow ns => Sys2Proof.Machine.execPorstLow ns s
  | .supplyOutOfWindow rail mv => Sys2Proof.Machine.execSupplyOutOfWindow rail mv s
  | .devStatReadyWrite m v => Sys2Proof.Machine.execDevStatReadyWrite m v s
  | .hslTestInjWrite m v => Sys2Proof.Machine.execHslTestInjWrite m v s
  | .hslTestRun m v => Sys2Proof.Machine.execHslTestRun m v s
  | .delayLineCalibration => Sys2Proof.Machine.execDelayLineCalibration s
  | .sync p origin ivl => Sys2Proof.Machine.execSync p origin ivl s
  | .followUp p origin => Sys2Proof.Machine.execFollowUp p origin s
  | .announce p rank ivl own => Sys2Proof.Machine.execAnnounce p rank ivl own s
  | .pdelay p trip hold => Sys2Proof.Machine.execPdelay p trip hold s
  | .trlCtrlWrite m port v => Sys2Proof.Machine.execTrlCtrlWrite m port v s
  | .trlTimeLoRead m => Sys2Proof.Machine.execTrlTimeLoRead m s
  | .trlTimeHiWrite m v => Sys2Proof.Machine.execTrlTimeHiWrite m v s
  | .trlTimeLoWrite m v => Sys2Proof.Machine.execTrlTimeLoWrite m v s
  | .trlCtrlApply m v => Sys2Proof.Machine.execTrlCtrlApply m v s
  | .nop ln sl => Sys2Proof.Machine.execNop ln sl s
  | .unassignedOpcode ln sl => Sys2Proof.Machine.execUnassignedOpcode ln sl s
  | .add ln sl gd gs1 gs2 => Sys2Proof.Machine.execAdd ln sl gd gs1 gs2 s
  | .addi ln sl gd gs1 imm => Sys2Proof.Machine.execAddi ln sl gd gs1 imm s
  | .sub ln sl gd gs1 gs2 => Sys2Proof.Machine.execSub ln sl gd gs1 gs2 s
  | .and ln sl gd gs1 gs2 => Sys2Proof.Machine.execAnd ln sl gd gs1 gs2 s
  | .or ln sl gd gs1 gs2 => Sys2Proof.Machine.execOr ln sl gd gs1 gs2 s
  | .xor ln sl gd gs1 gs2 => Sys2Proof.Machine.execXor ln sl gd gs1 gs2 s
  | .shl ln sl gd gs1 sh => Sys2Proof.Machine.execShl ln sl gd gs1 sh s
  | .shra ln sl gd gs1 sh => Sys2Proof.Machine.execShra ln sl gd gs1 sh s
  | .movl ln sl gd k => Sys2Proof.Machine.execMovl ln sl gd k s
  | .movh ln sl gd k => Sys2Proof.Machine.execMovh ln sl gd k s
  | .cmplt ln sl gd gs1 gs2 => Sys2Proof.Machine.execCmplt ln sl gd gs1 gs2 s
  | .qadd ln sl gd gs1 gs2 => Sys2Proof.Machine.execQadd ln sl gd gs1 gs2 s
  | .qsub ln sl gd gs1 gs2 => Sys2Proof.Machine.execQsub ln sl gd gs1 gs2 s
  | .qneg ln sl gd gs1 => Sys2Proof.Machine.execQneg ln sl gd gs1 s
  | .qabs ln sl gd gs1 => Sys2Proof.Machine.execQabs ln sl gd gs1 s
  | .qmul ln sl gd gs1 gs2 => Sys2Proof.Machine.execQmul ln sl gd gs1 gs2 s
  | .lim ln sl gd gs1 gs2 => Sys2Proof.Machine.execLim ln sl gd gs1 gs2 s
  | .ramp ln sl gd gs1 gs2 => Sys2Proof.Machine.execRamp ln sl gd gs1 gs2 s
  | .mpy ln sl accd gs1 gs2 => Sys2Proof.Machine.execMpy ln sl accd gs1 gs2 s
  | .mac ln sl accd gs1 gs2 => Sys2Proof.Machine.execMac ln sl accd gs1 gs2 s
  | .msu ln sl accd gs1 gs2 => Sys2Proof.Machine.execMsu ln sl accd gs1 gs2 s
  | .extr ln sl gd accs1 sh => Sys2Proof.Machine.execExtr ln sl gd accs1 sh s
  | .accld ln sl accd gs1 => Sys2Proof.Machine.execAccld ln sl accd gs1 s
  | .clarke ln sl gd gs1 gs2 => Sys2Proof.Machine.execClarke ln sl gd gs1 gs2 s
  | .park ln sl gd gs1 gs2 => Sys2Proof.Machine.execPark ln sl gd gs1 gs2 s
  | .ipark ln sl gd gs1 gs2 => Sys2Proof.Machine.execIpark ln sl gd gs1 gs2 s
  | .svpwm ln sl gd gs1 => Sys2Proof.Machine.execSvpwm ln sl gd gs1 s
  | .vadd ln sl md ms1 ms2 subtract => Sys2Proof.Machine.execVadd ln sl md ms1 ms2 subtract s
  | .vmul ln sl md ms1 ms2 => Sys2Proof.Machine.execVmul ln sl md ms1 ms2 s
  | .vsmul ln sl md ms1 gs2 => Sys2Proof.Machine.execVsmul ln sl md ms1 gs2 s
  | .bnorm ln sl md ms1 => Sys2Proof.Machine.execBnorm ln sl md ms1 s
  | .vscl ln sl md ms1 imm => Sys2Proof.Machine.execVscl ln sl md ms1 imm s
  | .vtoq ln sl gd ms1 el => Sys2Proof.Machine.execVtoq ln sl gd ms1 el s
  | .qtov ln sl md gs1 el => Sys2Proof.Machine.execQtov ln sl md gs1 el s
  | .ld ln gd gs1 imm size => Sys2Proof.Machine.execLd ln gd gs1 imm size s
  | .ldp ln gd gs1 imm => Sys2Proof.Machine.execLdp ln gd gs1 imm s
  | .st ln gs1 imm gs2 size => Sys2Proof.Machine.execSt ln gs1 imm gs2 size s
  | .stp ln gs1 imm gs2 => Sys2Proof.Machine.execStp ln gs1 imm gs2 s
  | .vld ln md gs1 imm => Sys2Proof.Machine.execVld ln md gs1 imm s
  | .vst ln gs1 imm ms2 => Sys2Proof.Machine.execVst ln gs1 imm ms2 s
  | .gtab ln gd gs1 t => Sys2Proof.Machine.execGtab ln gd gs1 t s
  | .ftab ln gd gs1 t => Sys2Proof.Machine.execFtab ln gd gs1 t s
  | .br ln off => Sys2Proof.Machine.execBr ln off s
  | .brnz ln gs1 sense off => Sys2Proof.Machine.execBrnz ln gs1 sense off s
  | .brc ln bit prev sense off => Sys2Proof.Machine.execBrc ln bit prev sense off s
  | .loop ln last cnt => Sys2Proof.Machine.execLoop ln last cnt s
  | .call ln target => Sys2Proof.Machine.execCall ln target s
  | .ret ln => Sys2Proof.Machine.execRet ln s
  | .waitPhaseIntake ln => Sys2Proof.Machine.execWaitPhaseIntake ln s
  | .waitPhaseCompute ln => Sys2Proof.Machine.execWaitPhaseCompute ln s
  | .waitPhaseExchange ln => Sys2Proof.Machine.execWaitPhaseExchange ln s
  | .waitPhaseCommit ln => Sys2Proof.Machine.execWaitPhaseCommit ln s
  | .waitPhaseEvent ln bit dl => Sys2Proof.Machine.execWaitPhaseEvent ln bit dl s
  | .waitPhaseReserved ln mode => Sys2Proof.Machine.execWaitPhaseReserved ln mode s
  | .commit ln gd leg => Sys2Proof.Machine.execCommit ln gd leg s
  | .sig ln n => Sys2Proof.Machine.execSig ln n s
  | .fbObserved k high level at_ => Sys2Proof.Machine.execFbObserved k high level at_ s
  | .hslInterlock k high => Sys2Proof.Machine.execHslInterlock k high s
  | .bootstrapChange k ok => Sys2Proof.Machine.execBootstrapChange k ok s
  | .legHostWrite m k reg v => Sys2Proof.Machine.execLegHostWrite m k reg v s
  | .legGuardWrite m k v => Sys2Proof.Machine.execLegGuardWrite m k v s
  | .hslDtfloorWrite m u v => Sys2Proof.Machine.execHslDtfloorWrite m u v s
  | .legOwnWrite m r n v => Sys2Proof.Machine.execLegOwnWrite m r n v s
  | .unitEnable m r u v => Sys2Proof.Machine.execUnitEnable m r u v s
  | .unitDisable m r u => Sys2Proof.Machine.execUnitDisable m r u s
  | .ascExit m r u => Sys2Proof.Machine.execAscExit m r u s
  | .unitRelease m r u => Sys2Proof.Machine.execUnitRelease m r u s
  | .hslSafeUnlock m u v => Sys2Proof.Machine.execHslSafeUnlock m u v s
  | .hslSafeWrite m u v => Sys2Proof.Machine.execHslSafeWrite m u v s
  | .hslSoftslotWrite m n v => Sys2Proof.Machine.execHslSoftslotWrite m n v s
  | .unitCfgWrite m r u v => Sys2Proof.Machine.execUnitCfgWrite m r u v s
  | .blkCtrlRestart m b v => Sys2Proof.Machine.execBlkCtrlRestart m b v s
  | .rgnRestartDma m r v => Sys2Proof.Machine.execRgnRestartDma m r v s
  | .laneEntryWrite m b v => Sys2Proof.Machine.execLaneEntryWrite m b v s
  | .laneWcetWrite m b v => Sys2Proof.Machine.execLaneWcetWrite m b v s
  | .exchChWrite m r setB n v => Sys2Proof.Machine.execExchChWrite m r setB n v s
  | .programMemoryWrite m b off v => Sys2Proof.Machine.execProgramMemoryWrite m b off v s
  | .rgnSubtickWrite m r v => Sys2Proof.Machine.execRgnSubtickWrite m r v s
  | .rgnPhaseWrite m r second v => Sys2Proof.Machine.execRgnPhaseWrite m r second v s
  | .adcSeqSw m r a q v => Sys2Proof.Machine.execAdcSeqSw m r a q v s
  | .adcBackgroundCheck r a ground uv => Sys2Proof.Machine.execAdcBackgroundCheck r a ground uv s
  | .adcCheckStarved r a => Sys2Proof.Machine.execAdcCheckStarved r a s
  | .dacReadback r uv => Sys2Proof.Machine.execDacReadback r uv s
  | .dacRbStarved r => Sys2Proof.Machine.execDacRbStarved r s
  | .sdCfgWrite m r n v => Sys2Proof.Machine.execSdCfgWrite m r n v s
  | .sdClkWrite m r v => Sys2Proof.Machine.execSdClkWrite m r v s
  | .fbCfgWrite m r f reg v => Sys2Proof.Machine.execFbCfgWrite m r f reg v s
  | .pfcGridFault u => Sys2Proof.Machine.execPfcGridFault u s
  | .dcLinkService job => Sys2Proof.Machine.execDcLinkService job s
  | .hslOv3selWrite m v => Sys2Proof.Machine.execHslOv3selWrite m v s
  | .hslWdresp0Write m v => Sys2Proof.Machine.execHslWdresp0Write m v s
  | .hslWdresp1Write m v => Sys2Proof.Machine.execHslWdresp1Write m v s
  | .chkpt sc1 v => Sys2Proof.Machine.execChkpt sc1 v s
  | .pairExternalAccess sc1 machine x => Sys2Proof.Machine.execPairExternalAccess sc1 machine x s
  | .debugHalt sc1 => Sys2Proof.Machine.execDebugHalt sc1 s
  | .tickMonitorFail interval => Sys2Proof.Machine.execTickMonitorFail interval s
  | .clockMonitorFail count => Sys2Proof.Machine.execClockMonitorFail count s
  | .hslSfreqWrite m v => Sys2Proof.Machine.execHslSfreqWrite m v s
  | .hslSfdoneWrite m v => Sys2Proof.Machine.execHslSfdoneWrite m v s
  | .hslSffaultWrite m v => Sys2Proof.Machine.execHslSffaultWrite m v s
  | .sfConfigWrite m k reg v => Sys2Proof.Machine.execSfConfigWrite m k reg v s
  | .safeOutReqWrite m n v => Sys2Proof.Machine.execSafeOutReqWrite m n v s
  | .hslUnlockWrite m v => Sys2Proof.Machine.execHslUnlockWrite m v s
  | .safeAckRelease => Sys2Proof.Machine.execSafeAckRelease s
  | .hslUpdReqWrite m v => Sys2Proof.Machine.execHslUpdReqWrite m v s
  | .hslSplitWrite m v => Sys2Proof.Machine.execHslSplitWrite m v s
  | .schFrameLand p frame => Sys2Proof.Machine.execSchFrameLand p frame s
  | .schConnEnable m n v => Sys2Proof.Machine.execSchConnEnable m n v s
  | .schRearm m n v => Sys2Proof.Machine.execSchRearm m n v s
  | .verifyCask m dest => Sys2Proof.Machine.execVerifyCask m dest s
  | .attest m => Sys2Proof.Machine.execAttest m s
  | .provision m => Sys2Proof.Machine.execProvision m s
  | .endorse m => Sys2Proof.Machine.execEndorse m s
  | .floorBump m t => Sys2Proof.Machine.execFloorBump m t s
  | .revokeSlot m slot => Sys2Proof.Machine.execRevokeSlot m slot s
  | .debugChallenge m => Sys2Proof.Machine.execDebugChallenge m s
  | .debugOpen m => Sys2Proof.Machine.execDebugOpen m s
  | .debugEraseComplete ok => Sys2Proof.Machine.execDebugEraseComplete ok s
  | .tagAuth m n => Sys2Proof.Machine.execTagAuth m n s
  | .lifeStore m n => Sys2Proof.Machine.execLifeStore m n s
  | .lifeWrite m n => Sys2Proof.Machine.execLifeWrite m n s
  | .macsecKey m arg => Sys2Proof.Machine.execMacsecKey m arg s
  | .seal m purpose => Sys2Proof.Machine.execSeal m purpose s
  | .unseal m purpose => Sys2Proof.Machine.execUnseal m purpose s
  | .unknownCellarCommand m op => Sys2Proof.Machine.execUnknownCellarCommand m op s
  | .cellarAlarm bit => Sys2Proof.Machine.execCellarAlarm bit s
  | .cellarWatchdogExpiry => Sys2Proof.Machine.execCellarWatchdogExpiry s
  | .tagMapWrite m n v => Sys2Proof.Machine.execTagMapWrite m n v s
  | .status m bus addr => Sys2Proof.Machine.execStatus m bus addr s
  | .readId m bus addr => Sys2Proof.Machine.execReadId m bus addr s
  | .readLife m bus addr => Sys2Proof.Machine.execReadLife m bus addr s
  | .prove m bus addr nonce => Sys2Proof.Machine.execProve m bus addr nonce s
  | .writeLife m bus addr record => Sys2Proof.Machine.execWriteLife m bus addr record s
  | .mtbResponseEnd bus heard line => Sys2Proof.Machine.execMtbResponseEnd bus heard line s
  | .rfCfgWrite m r reg v => Sys2Proof.Machine.execRfCfgWrite m r reg v s
  | .nvsSubmit m addr => Sys2Proof.Machine.execNvsSubmit m addr s
  | .nvsWindowRead m off ecc => Sys2Proof.Machine.execNvsWindowRead m off ecc s
  | .nvsWindowWrite m off => Sys2Proof.Machine.execNvsWindowWrite m off s
  | .dmaPush m r c addr => Sys2Proof.Machine.execDmaPush m r c addr s
  | .dmaResume m r c => Sys2Proof.Machine.execDmaResume m r c s
  | .dmaFlush m r c => Sys2Proof.Machine.execDmaFlush m r c s
  | .capArm m r v => Sys2Proof.Machine.execCapArm m r v s
  | .capSoftTrigger m r v => Sys2Proof.Machine.execCapSoftTrigger m r v s
  | .capCfgWrite m r reg v => Sys2Proof.Machine.execCapCfgWrite m r reg v s
  | .evrSwraise m v => Sys2Proof.Machine.execEvrSwraise m v s
  | .indDataAccess m sc wr => Sys2Proof.Machine.execIndDataAccess m sc wr s
  | .indLockWrite m sc v => Sys2Proof.Machine.execIndLockWrite m sc v s
  | .snap m sc => Sys2Proof.Machine.execSnap m sc s
  | .snapAll m => Sys2Proof.Machine.execSnapAll m s
  | .registerWrite m addr v => Sys2Proof.Machine.execRegisterWrite m addr v s
  | .busError m addr size wr => Sys2Proof.Machine.execBusError m addr size wr s
  | .loaderLoad x => Sys2Proof.Machine.execLoaderLoad x s
  | .timingApplyService => Sys2Proof.Machine.execTimingApplyService s
  | .rackArm m r v => Sys2Proof.Machine.execRackArm m r v s
  | .rackCancel m r => Sys2Proof.Machine.execRackCancel m r s
  | .trimWrite m sc addr v => Sys2Proof.Machine.execTrimWrite m sc addr v s
  | .chipRackGo m v => Sys2Proof.Machine.execChipRackGo m v s
  | .chipRackConfirm m => Sys2Proof.Machine.execChipRackConfirm m s
  | .chipRackFail m => Sys2Proof.Machine.execChipRackFail m s
  | .portEnable m p v => Sys2Proof.Machine.execPortEnable m p v s
  | .portConfigWrite m p off v => Sys2Proof.Machine.execPortConfigWrite m p off v s
  | .ringDoorbell m p rx => Sys2Proof.Machine.execRingDoorbell m p rx s
  | .ethFrameReceive p frame => Sys2Proof.Machine.execEthFrameReceive p frame s
  | .ethFrameTransmit p src => Sys2Proof.Machine.execEthFrameTransmit p src s
  | .canFrameReceive p f ok => Sys2Proof.Machine.execCanFrameReceive p f ok s
  | .canFrameTransmit p src ok => Sys2Proof.Machine.execCanFrameTransmit p src ok s
  | .canBusOffRecovery p => Sys2Proof.Machine.execCanBusOffRecovery p s
  | .linHeader p pid rate resp => Sys2Proof.Machine.execLinHeader p pid rate resp s
  | .axlTrainingEnd p peerSrc => Sys2Proof.Machine.execAxlTrainingEnd p peerSrc s
  | .marker p offset t k period arrival crcOk => Sys2Proof.Machine.execMarker p offset t k period arrival crcOk s
  | .ping p => Sys2Proof.Machine.execPing p s
  | .echo p arrival hold => Sys2Proof.Machine.execEcho p arrival hold s
  | .ack p => Sys2Proof.Machine.execAck p s
  | .exchFrameReceive p slot words k fresh crcOk => Sys2Proof.Machine.execExchFrameReceive p slot words k fresh crcOk s
  | .safeFrameReceive p frame crcOk => Sys2Proof.Machine.execSafeFrameReceive p frame crcOk s
  | .bulkFrameReceive p data first last crcOk => Sys2Proof.Machine.execBulkFrameReceive p data first last crcOk s
  | .safeAckPress => Sys2Proof.Machine.execSafeAckPress s
  | .laneClockFault b failing core => Sys2Proof.Machine.execLaneClockFault b failing core s
  | .regionClockFault r failing core => Sys2Proof.Machine.execRegionClockFault r failing core s
  | .ethLinkStateChange p up => Sys2Proof.Machine.execEthLinkStateChange p up s
  | .supplyBelowHoldLevel rail mv => Sys2Proof.Machine.execSupplyBelowHoldLevel rail mv s

end Sys2Proof.Machine
end

