-- ==== Sys2Proof/Machine/FabricRun.lean ====
section
/-! DEFINITION. The transactions of the chip fabric while they run: their way to the target, their beats at the ports the lanes leave
idle, and their responses (R22, R24, R31, R34, R434, R435, R449). -/

namespace Sys2Proof.Machine

/-- The address of the next beat of a transaction, as its target decodes it. -/
def FabReq.at_ (x : FabReq) : Nat :=
  let a := match x.work with
    | .access (.write a _ _) | .access (.read a _) => a.toNat
    | .dmaRead _ _ _ left _ => left.headD 0
    | .dmaWrite _ _ _ left => (left.map (fun y => y.1)).headD 0
  a ^^^ x.noise.addr.toNat

/-- Whether two transactions belong to one master and one target (R34). -/
def FabReq.sameWay (x y : FabReq) : Bool := x.m.id == y.m.id && memKind x.at_ == memKind y.at_

/-- Whether a DMA engine makes the access. -/
def FabReq.isDma (x : FabReq) : Bool := decide (6 ≤ x.m.id.val ∧ x.m.id.val < 10)

/-- An access of a master reaches its target: performed where its code is right there; a read's data is given to the master
where the code is right at its port. Of a word that cannot be read both errors show (R434, R435, R459). -/
def Dev.serveAccess (d : Dev) (q : FabReq) (x : PairAccess) : FabReq × Dev :=
  let m := q.m.id.val
  match x with
  | .write a n v =>
    if noisePasses q.noise a.toNat n v.toNat then
      let d1 := d.busWrite q.m q.at_ n (noiseArrives q.noise a.toNat n v.toNat)
      ({ q with stage := .served, err := d1.respErr }, d1)
    else ({ q with stage := .served, err := true }, d.e2eFail m a.toNat)
  | .read a n =>
    let d1 := d.busRead q.m q.at_ n
    if d1.respErr then
      ({ q with stage := .served, err := true },
        if d.isBad q.at_ && !noisePasses q.noise a.toNat n 0 then d1.e2eFail m a.toNat else d1)
    else if noisePasses q.noise a.toNat n d1.resp.toNat then
      ({ q with stage := .served, resp := BitVec.ofNat 32 (noiseArrives q.noise a.toNat n d1.resp.toNat) }, d1)
    else ({ q with stage := .served, err := true }, d1.e2eFail m a.toNat)

/-- The next beat of a DMA read: its data is kept, or the descriptor meets code 4, 2 or 5 (R447, R450). -/
def Dev.serveDmaRead (d : Dev) (q : FabReq) (c : Fin 4) (seq at_ : Nat) (left : List Nat) (got : List DWord) : FabReq × Dev :=
  let r := q.m.id.val - 6
  match left with
  | [] => ({ q with stage := .served }, d)
  | a :: rest =>
    if d.dmaLive r c seq = false then ({ q with stage := .served, err := true }, d)
    else match d.memRead q.m.id.val q.at_ 8 with
      | (none, d1) =>
        let code := if d.isBad q.at_ || memKind q.at_ == some .nvs then 4 else 2
        if d.isBad q.at_ && !noisePasses q.noise a 8 0 then
          ({ q with stage := .served, err := true }, (d1.e2eFail q.m.id.val a).dmaFail r c seq 5)
        else ({ q with stage := .served, err := true }, d1.dmaFail r c seq code)
      | (some v, d1) =>
        if noisePasses q.noise a 8 v then
          let q1 := { q with work := .dmaRead c seq at_ rest (got ++ [BitVec.ofNat 64 (noiseArrives q.noise a 8 v)]), noise := noNoise }
          (if rest.isEmpty then { q1 with stage := .served } else q1, d1)
        else ({ q with stage := .served, err := true }, (d1.e2eFail q.m.id.val a).dmaFail r c seq 5)

/-- The next beat of a DMA write: performed and counted, or the descriptor meets code 3 or 5 (R447, R449, R450). -/
def Dev.serveDmaWrite (d : Dev) (q : FabReq) (c : Fin 4) (seq at_ : Nat) (left : List (Nat × DWord)) : FabReq × Dev :=
  let r := q.m.id.val - 6
  match left with
  | [] => ({ q with stage := .served }, d)
  | (a, v) :: rest =>
    if d.dmaLive r c seq = false then ({ q with stage := .served, err := true }, d)
    else if noisePasses q.noise a 8 v.toNat then
      let w := d.memWrite q.m.id.val q.at_ 8 (noiseArrives q.noise a 8 v.toNat)
      if w.1 then
        let x := w.2.chan r c
        let q1 := { q with work := .dmaWrite c seq at_ rest, noise := noNoise }
        (if rest.isEmpty then { q1 with stage := .served } else q1, w.2.setChan r c { x with moved := x.moved + 8 })
      else ({ q with stage := .served, err := true }, w.2.dmaFail r c seq 3)
    else ({ q with stage := .served, err := true }, (d.e2eFail q.m.id.val a).dmaFail r c seq 5)

/-- One beat of a transaction at its target. -/
def Dev.serveBeat (d : Dev) (q : FabReq) : FabReq × Dev :=
  match q.work with
  | .access x => d.serveAccess q x
  | .dmaRead c seq at_ left got => d.serveDmaRead q c seq at_ left got
  | .dmaWrite c seq at_ left => d.serveDmaWrite q c seq at_ left

/-- Whether a transaction that waits at its target may use the port in this lane cycle: no lane, no rainflow read and no other
access does, and where a DMA and a host access both wait there, the one not served most recently goes first (R22, R24). -/
def Dev.mayServe (d : Dev) (all : List FabReq) (q : FabReq) : Bool :=
  match portOf q.at_ with
  | none => true
  | some p =>
    let other := all.any (fun y => y.stage == .waiting && y.isDma != q.isDma && portOf y.at_ == some p)
    !d.portBusy p && (!other || Store.get (fun _ => false) d.portDma p != q.isDma)

/-- Mark the port of an access that has been served (R22). -/
def Dev.servedPort (d : Dev) (q : FabReq) : Dev :=
  match portOf q.at_ with
  | none => d
  | some p => { d.usePort p with portDma := Store.set (fun _ => false) d.portDma p q.isDma }

/-- Serve one beat of every transaction that may be served, in the order of acceptance; those of one master to one target keep
their order (R34). `before` are the transactions already gone through. -/
def Dev.serveAll (d : Dev) (before : List FabReq) : List FabReq → List FabReq × Dev
  | [] => (before, d)
  | q :: t =>
    if q.stage == .waiting && !before.any (fun y => y.stage != .served && y.sameWay q) && d.mayServe (before ++ q :: t) q then
      let x := (d.servedPort q).serveBeat q
      x.2.serveAll (before ++ [x.1]) t
    else d.serveAll (before ++ [q]) t

/-- The response of a transaction reaches its master: the answer of an access; the data of a DMA read, which is then written;
its tag is free (R31, R32, R449). -/
def Dev.fabRespond (d : Dev) (q : FabReq) : Dev :=
  match q.work with
  | .access _ => { d with resp := q.resp, respErr := q.err }
  | .dmaRead c seq at_ _ got =>
    let r := q.m.id.val - 6
    match (d.chan r c).cur with
    | some y =>
      if q.err = false ∧ d.dmaLive r c seq then
        d.fabPresent q.m (.dmaWrite c seq at_ ((dwords (y.dst.toNat + at_) (8 * got.length)).zip got)) noNoise
      else d
    | none => d
  | .dmaWrite _ _ _ _ => d

/-- A served transaction may get its response, and one on its way may reach its target; the fabric does not say when. Those of
one master to one target are completed in order (R34). -/
def Dev.fabMove (d : Dev) (before : List FabReq) : List FabReq → List FabReq × Dev
  | [] => (before, d)
  | q :: t =>
    let f := d.takeFree
    let held := before.any (fun y => y.sameWay q && (q.stage == .served || y.stage == .going))
    if bitOf f.1.toNat 0 = false ∨ held = true then f.2.fabMove (before ++ [q]) t
    else match q.stage with
      | .going => f.2.fabMove (before ++ [{ q with stage := .waiting }]) t
      | .waiting => f.2.fabMove (before ++ [q]) t
      | .served => (f.2.fabRespond q).fabMove before t

/-- The fabric in one lane cycle: the DMA engines present requests, responses are delivered, waiting accesses are served, and
others reach their targets. A lane's own accesses have been made before. -/
def Dev.fabricCycle (d0 : Dev) : Dev :=
  let d := d0.each [0, 1, 2, 3] (fun r d => d.dmaAsk r)
  if d.fab.running.isEmpty then d
  else
    let s := d.serveAll [] d.fab.running
    let m := s.2.fabMove [] s.1
    ({ m.2 with fab := { m.2.fab with running := m.1 } } : Dev).showTags

end Sys2Proof.Machine
end

