-- ==== Sys2Proof/Machine/Tick.lean ====
section
/-! DEFINITION. What the device does by its clock while no command waits: the commands that its own counters make due, the
bundles its lanes issue, and the passing of one lane cycle (R44, R55, R58, R77, R118, R121, R131). DESIGN CHOICE: assumption 1. -/

namespace Sys2Proof.Machine

/-! ### Commands that are due -/

/-- Keep a command where it is due. -/
def dueIf (c : Bool) (i : Instr) : List Instr := if c then [i] else []

/-- The frame tick, the starts of sub-ticks and the boundaries of phases; several boundaries of a block may fall in one lane cycle
(R56, R58, R60). -/
def Dev.dueTicks (d : Dev) : List Instr :=
  let last := d.stepNow + 31
  let tick := decide (d.trl.nextStep ≤ last)
  let sub := fun (b : Nat) => tick || match d.nextSub b with | some x => decide (x.2 ≤ last) | none => false
  let next := fun (b : Nat) => match (d.lane b).phase with
    | .intake => decide (d.boundaryAt b F.RGN_PHASE0_compute ≤ d.now)
    | .compute => decide (d.boundaryAt b F.RGN_PHASE0_exchange ≤ d.now)
    | .exchange => decide (d.boundaryAt b F.RGN_PHASE1_commit ≤ d.now)
    | .commit => decide (d.boundaryAt b F.RGN_PHASE1_commit_point ≤ d.now)
    | .closed => false
  let blocks := (List.range 16).flatMap (fun b =>
    let id : BlockId := Fin.ofNat 16 b
    if sub b || next b then
      dueIf (sub b) (.subTickStart id) ++
        [.computeBoundary id, .phaseBoundary id false, .phaseBoundary id true, .commitPoint id]
    else [])
  dueIf tick .frameTick ++ blocks

/-- What holds a lane may end (R26, R107, R116). -/
def Dev.dueHolds (d : Dev) : List Instr :=
  d.lanes.flatMap (fun x =>
    let id : BlockId := Fin.ofNat 16 x.1
    match x.2.held with
    | some (.get _ _ _ _ doneAt) =>
      (match doneAt with | some t => dueIf (decide (t ≤ d.now)) (.getComplete id) | none => []) ++ dueIf (d.exchLate x.1) (.exchTimeout id)
    | some (.put _ _ _ _ _ _ _) => dueIf (d.exchLate x.1) (.exchTimeout id)
    | some (.event _ t) => dueIf (decide (t ≤ d.now)) (.eventWaitDeadline id)
    | _ => [])

/-- The step within this lane cycle of an edge step, cut to the cycle. -/
def Dev.stepIn (d : Dev) (t : Int) : Fin 32 := Fin.ofNat 32 (clampInt 0 31 (t - d.stepNow)).toNat

/-- The edges of a leg's request and the end of a dead time at steps `lo` to `hi` of this lane cycle, `hi` not among them
(R160, R164, R166). -/
def Dev.dueEdges (d : Dev) (k : Nat) (l : Leg) (lo hi : Nat) : List Instr :=
  let id : LegId := Fin.ofNat 128 k
  let now := d.stepNow
  let steps := (List.range hi).drop lo
  let before := fun (i : Nat) => if i = lo then l.req else d.requestOf k (now + i - 1)
  let edges := if l.st == .run && l.modeHold.isNone then
      (steps.filter (fun i => d.requestOf k (now + i) != before i)).map (fun i => .requestEdge id (Fin.ofNat 32 i))
    else []
  let ons := match l.want with
    | some s => (steps.find? (fun i => d.mayTurnOn k (now + i) l s)).toList.map (fun i => .deadTimeEnd id (Fin.ofNat 32 i))
    | none => []
  edges ++ ons

/-- The carrier events of a leg in this lane cycle, after the edges that lie before the first of them (R156, R157). -/
def Dev.dueCarrier (d : Dev) (k : Nat) (l : Leg) : List Instr :=
  let id : LegId := Fin.ofNat 128 k
  let last := d.stepNow + 31
  let peak := l.zeroAt + (d.legPeriod k / 2 : Nat)
  let peakDue := d.counterRuns k && !l.peakDone && decide (peak ≤ last)
  let atPeak := fun (_ : Unit) => d.dueEdges k l 0 (d.stepIn peak) ++ [.carrierPeak id (d.stepIn peak)]
  match d.valleyDue k last with
  | some z =>
    if peakDue ∧ peak < z then atPeak () ++ [.carrierValley id (d.stepIn z)]
    else d.dueEdges k l 0 (d.stepIn z) ++ [.carrierValley id (d.stepIn z)]
  | none => if peakDue then atPeak () else []

/-- The step of this lane cycle from which a leg's edges are still to come: that of its last carrier event, where one lies in
the cycle. -/
def Dev.edgesFrom (d : Dev) (k : Nat) (l : Leg) : Nat :=
  let now : Int := d.stepNow
  let peak := l.zeroAt + (d.legPeriod k / 2 : Nat)
  if now ≤ l.zeroAt ∧ l.zeroAt ≤ now + 31 then d.stepIn l.zeroAt
  else if l.peakDone ∧ now ≤ peak ∧ peak ≤ now + 31 then d.stepIn peak
  else 0

/-- The edges of a leg after its carrier events, and its timers (R160, R164, R166, R168, R177, R178). -/
def Dev.dueLeg (d : Dev) (k : Nat) (l : Leg) : List Instr :=
  let id : LegId := Fin.ofNat 128 k
  d.dueEdges k l (d.edgesFrom k l) 32 ++ dueIf l.want.isSome (.handshakeTimeout id) ++
    dueIf (l.st == .softOff) (.softOffEnd id) ++ dueIf (l.st == .settle) (.offSettleEnd id)

/-- The timers of a unit (R324, R331, R334). -/
def dueUnit (u : Nat) (x : UnitRec) : List Instr :=
  let id : UnitId := Fin.ofNat 32 u
  dueIf x.window.isSome (.attributionWindowEnd id) ++ dueIf x.exiting (.ascExitStep id) ++
    dueIf (x.st == .enabling) (.enablingTimeout id) ++ dueIf (x.st == .settle) (.quietTimeEnd id)

/-- What the reference program of a unit has come to (R239, R248 to R255, R289, R310, R311). -/
def Dev.dueProg (d : Dev) (u : Nat) : List Instr :=
  let id : UnitId := Fin.ofNat 32 u
  match d.progLane u with
  | none => []
  | some b =>
    let p := d.prog u
    if isTraction (d.unitClass u) then
      dueIf (d.flyDue b p) (.flyDetectEnd id) ++ dueIf (d.alignDue b p) (.alignEnd id) ++ dueIf (d.handOverDue b p) (.handOver id) ++
        dueIf (d.abortDue b p) (.startAbort id) ++ dueIf p.brakeAbortDue (.flyBrakeAbort id) ++
        dueIf (d.ascDue b p) (.ascHoldExit id) ++ dueIf (d.stopDue b p) (.stopComplete id)
    else if d.unitClass u = 2 then dueIf (d.limitDue b p) (.converterLimitEntry id)
    else if d.unitClass u = 3 then
      (List.range 4).flatMap (fun j => dueIf (d.brakeFails b u j p) (.chopperLegUnhealthy id (Fin.ofNat 4 j))) ++
        dueIf (d.pulsingBegins b p || d.pulsingEnds b p) (.chopperPulsingChange id)
    else []

/-- The sequences that wait for their converter (R191, R192). -/
def Dev.dueStarts (d : Dev) : List Instr :=
  d.seqs.flatMap (fun x =>
    match x.2.phase with
    | .waiting t => dueIf (decide (t ≤ d.now)) (.adcSequenceStart (Fin.ofNat 4 (x.1 / 8)) (Fin.ofNat 4 (x.1 / 2)) (Fin.ofNat 2 x.1))
    | _ => [])

/-- The comparators of a leg that are to act, the end of a blanking, a detection in diode emulation and a filter that completes
(R177, R206 to R209, R215). -/
def Dev.dueCompare (d : Dev) (k : Nat) (l : Leg) : List Instr :=
  let id : LegId := Fin.ofNat 128 k
  let t := (d.tripOut k).1 && d.tripLive k
  dueIf ((d.hardOut k).1 && !l.hSeen) (.hardComparatorTrip id none) ++
    dueIf (l.blanking && decide (l.blankEnd ≤ d.now)) (.blankingEnd id) ++
    dueIf (t && d.tripClears k && !l.tSeen) (.tripComparatorTrip id none) ++
    dueIf (t && !d.tripClears k && l.drv (d.controlSide k) && !l.cycleHeld) (.cycleLimit id none) ++
    dueIf (d.zcdDue k) (.zeroCurrentDetect id none) ++
    dueIf (match l.fltAt with | some _ => !l.fltSeen | none => false) (.fltInput id l.flt)

/-- The window comparators: a filter that completes, and the sources of OV3 and UV (R212, R315, R318, R358). -/
def Dev.dueWindows (d : Dev) : List Instr :=
  let ids := fun (i : Nat) => ((Fin.ofNat 4 (i / 16) : RegionId), (Fin.ofNat 16 i : Fin 16))
  let filters := d.rawAt.flatMap (fun x =>
    dueIf (d.filterDone (x.1 / 16) (x.1 % 16)) (.windowComparatorActive (ids x.1).1 (ids x.1).2 none))
  let acts := d.flag 0 F.HSL_OV3STAT_active
  let rises := d.raws.flatMap (fun x =>
    dueIf (x.2 && d.isOv3 (x.1 / 16) (x.1 % 16) && !acts) (.ov3SourceActive (ids x.1).1 (ids x.1).2 none) ++
      dueIf (d.uvRaw (x.1 / 16) (x.1 % 16) && !d.uvOn.contains x.1) (.uvSourceActive (ids x.1).1 (ids x.1).2 none))
  let falls := (d.uvOn.filter (fun i => !d.uvRaw (i / 16) (i % 16))).map (fun i => .uvSourceInactive (ids i).1 (ids i).2 none)
  filters ++ rises ++ falls ++ dueIf acts .ov3Release

/-- The converters and the sigma-delta inputs: entries that are due, outputs, and bits of inputs whose sinc1 filter or whose pin is
watched (R189, R199 to R204). -/
def Dev.dueConvert (d : Dev) : List Instr :=
  let results := d.seqs.flatMap (fun x =>
    match x.2.phase with
    | .running since e => dueIf (decide (since + 80 * (e + 1) ≤ d.now))
        (.adcResult (Fin.ofNat 4 (x.1 / 8)) (Fin.ofNat 4 (x.1 / 2)) (Fin.ofNat 2 x.1) none)
    | _ => [])
  let sds := d.sds.flatMap (fun x =>
    let r : RegionId := Fin.ofNat 4 (x.1 / 16)
    let n : Fin 16 := Fin.ofNat 16 x.1
    let more := decide (x.2.taken < d.sdEdges r n d.now)
    if d.sdRuns r n then
      dueIf (decide (d.sdInstant r n + 8 ≤ d.now)) (.sdDecimationOutput r n []) ++
        dueIf (more && d.flag (sdBase r n) F.SD_CFG_oc_en) (.sinc1Overcurrent r n []) ++
        dueIf (more && decide (63 ≤ x.2.run) && !x.2.stuck) (.sdStuck r n [])
    else [])
  results ++ sds

/-- The front end: triggers, samples and captures already noted (R190, R258, R274, R452, R453). -/
def Dev.dueFront (d : Dev) : List Instr :=
  let seqs := d.seqs.flatMap (fun x =>
    dueIf x.2.trig (.adcTrigger (Fin.ofNat 4 (x.1 / 8)) (Fin.ofNat 4 (x.1 / 2)) (Fin.ofNat 2 x.1)))
  let fbs := d.fbs.flatMap (fun x =>
    let r : RegionId := Fin.ofNat 4 (x.1 / 2)
    let f : Fin 2 := Fin.ofNat 2 x.1
    let pass := fun (p : FbPin) => p.passes d.now (d.fld (fbBase r f) F.FB_CFG_filt)
    let pins := if d.fld (fbBase r f) F.FB_CFG_src = 1 then
        dueIf (d.fbPasses r f) (.hallStateChange r f (BitVec.ofNat 3 (flagBit x.2.pinA.level + 2 * flagBit x.2.pinB.level + 4 * flagBit x.2.pinZ.level)))
      else dueIf (pass x.2.pinA || pass x.2.pinB) (.qepEdge r f x.2.pinA.level x.2.pinB.level) ++ dueIf (pass x.2.pinZ) (.indexEdge r f x.2.pinZ.level)
    let peak := match d.excPeak r f with
      | some p => dueIf (x.2.peakAt != d.now + 1) (.resPeakTrigger r f p)
      | none => []
    let frame := match x.2.frame with
      | some (_, start) => dueIf (decide (d.frameEnd r f start ≤ d.now)) (.ssiFrameEnd r f [])
      | none => []
    pins ++ dueIf (d.pairDue r f) (.resPair r f) ++ peak ++ frame ++ dueIf x.2.trig (.fbSample r f) ++
      dueIf (!x.2.zero && d.zeroDue r f) (.zeroSpeedTimeout r f))
  let caps := d.caps.flatMap (fun x =>
    let r : RegionId := Fin.ofNat 4 x.1
    dueIf x.2.noted.isSome (.capTrigger r) ++ dueIf (!x.2.waiting.isEmpty) (.capRecord r))
  seqs ++ fbs ++ caps

/-- The probes whose edge has passed its filter (R276). -/
def Dev.dueProbes (d : Dev) : List Instr :=
  d.prbs.flatMap (fun x =>
    dueIf (x.2.pin.passes d.now (d.fld (rgnReg (x.1 / 2) + 0x20 * (x.1 % 2)) F.PRB_CFG_filt))
      (.probeEdge (Fin.ofNat 4 (x.1 / 2)) (Fin.ofNat 2 x.1) x.2.pin.level))

/-- Shed marks and racking (R293, R294, R299, R526, R529). -/
def Dev.dueRegion (d : Dev) : List Instr :=
  let sheds := d.sheds.flatMap (fun x =>
    let r : RegionId := Fin.ofNat 4 (x.1 / 2)
    let q : Fin 2 := Fin.ofNat 2 x.1
    match x.2.mark with
    | some .start => [.shedStart r q]
    | some .complete => [.shedComplete r q]
    | some .dwellEnd => [.shedDwellEnd r q]
    | some .holdEnd => [.shedHoldOffEnd r q]
    | none => [])
  let racks := [0, 1, 2, 3].flatMap (fun r =>
    match d.rackState r with
    | 1 => [.rackSwitch (Fin.ofNat 4 r)]
    | 2 => [.unrack (Fin.ofNat 4 r)]
    | _ => [])
  sheds ++ racks

/-- The grants of the arbitration in this lane cycle: the fabric has 5 cycles to 4 lane cycles, and each grants one request (R27,
R28). -/
def Dev.dueGrants (d : Dev) : List Instr :=
  let n := 5 * (d.now + 1) / 4 - 5 * d.now / 4
  let one := d.fabWinner
  let grant := fun (m : Nat) => Instr.fabricTagGrant ⟨Fin.ofNat 28 m, false⟩ none noNoise
  match one with
  | none => []
  | some m =>
    let two := if n = 2 then (d.fabAccept m).fabWinner else none
    grant m :: two.toList.map grant

/-- Requests that have starved, and the DMA channels with a descriptor to start or to end (R33, R447, R449). -/
def Dev.dueFabric (d : Dev) : List Instr :=
  let starved := (d.fab.waiting.filter (fun x => d.starving x)).map (fun x => Instr.fabricStarve x.m.id)
  let chans := d.dma.flatMap (fun x =>
    let r : RegionId := Fin.ofNat 4 (x.1 / 4)
    let c : Fin 4 := Fin.ofNat 4 x.1
    match x.2.cur with
    | some _ => dueIf (d.dmaEnds r c) (.dmaDescriptorEnd r c)
    | none => if x.2.queue.isEmpty then [] else [.dmaDescriptorStart r c])
  starved ++ d.dueGrants ++ chans

/-- The HSL, the end of Syncs, the safe channel, the buses and the event log (R48, R346, R350, R353, R355, R369, R374, R379, R479, R491, R501, R513, R547). -/
def Dev.dueChip (d : Dev) : List Instr :=
  let filt := d.stoFilt
  let hsl := dueIf d.hsl.pairUp .watchdogPeriod ++ dueIf d.pairWait.isSome .pairCompareTimeout ++
    dueIf (d.hsl.stoA.passes d.now filt) (.stoInputChange false none) ++ dueIf (d.hsl.stoB.passes d.now filt) (.stoInputChange true none) ++
    dueIf d.stoApart .stoDiscrepancy ++ dueIf (d.safeFbLate 0) (.safeFbMismatch 0 none) ++ dueIf (d.safeFbLate 1) (.safeFbMismatch 1 none) ++
    dueIf d.hsl.wcDue .sfBoundRecompute ++ dueIf d.frameDue (.safetyFrame none) ++ d.hsl.soAt.map (fun x => .safeOutDelay (Fin.ofNat 2 x.1)) ++
    dueIf (d.flag 0 F.HSL_STAT_reset_armed) .resetArmTimeout
  let sync := dueIf ((d.trlState == trlLocked || d.trlState == trlAcquire) &&
    decide (d.trl.lastSync + 3 * d.trl.syncIvl ≤ d.now)) .syncTimeout
  let sch := d.schs.flatMap (fun x => dueIf (d.schSends x.1) (.schTransmit (Fin.ofNat 32 x.1)) ++
    dueIf (d.schLate x.1) (.schWatchdogExpiry (Fin.ofNat 32 x.1)))
  let mute := fun (x : Nat × MtbBus) => match x.2.run with | some t => (d.tagAt (16 * x.1 + t.addr)).isNone | none => false
  let buses := d.mtbs.flatMap (fun x => dueIf (mute x) (.mtbNoresp (Fin.ofNat 2 x.1))) ++
    d.axls.flatMap (fun x => dueIf (!x.2.frags.isEmpty) (.bulkRetryTimeout (Fin.ofNat 2 x.1)) ++
      dueIf (d.axlQuiet x.1) (.axlLinkDown (Fin.ofNat 2 x.1) none))
  let locks := d.indAt.map (fun x => .indLockExpiry (if x.1 = 4 then .chip else .region (Fin.ofNat 4 x.1)))
  let sels := d.ov3SelAt.flatMap (fun x =>
    dueIf (bitOf (d.fld 0 F.HSL_OV3SEL_off) x.1 && decide (x.2 + d.fld 0 F.HSL_OV3CFG_hold * cyclesPerMs ≤ d.now))
      (.ov3selHoldExpiry (Fin.ofNat 32 x.1)))
  let slots := d.hsl.sfAt.flatMap (fun x =>
    let k : Fin 8 := Fin.ofNat 8 x.1
    dueIf (d.slotAged k 2 (bitsOf (d.fld (sfBase k) F.HSL_SF_P1_p1) 0 16) && !bitOf (d.fld 0 F.HSL_SFSTAT_acting) k) (.ss1Timeout k) ++
      dueIf (d.dischLate k && !bitOf (d.fld 0 F.HSL_SFFAULT_fault) k) (.dischTimeout k))
  let upd := dueIf (d.fld 0 F.HSL_UPD_state != 0 && decide (d.hsl.updAt + d.fld 0 F.HSL_UPD_tmax * 100 * cyclesPerMs ≤ d.now))
    .updateTimeLimit
  let checks := (d.schs.filter (fun x => x.2.landed.isSome && x.2.landTick != d.tickName)).map (fun x => Instr.schFrameCheck (Fin.ofNat 32 x.1))
  let lins := d.ports.flatMap (fun x =>
    match x.2.linAt with
    | some (t, len) => dueIf (d.linLate x.1 t len) (.linResponseTimeout (Fin.ofNat 2 (x.1 - 14)))
    | none => [])
  let line := dueIf (decide (0 < d.trl.calibrations ∧ d.trl.calibratedAt + 10 * cyclesPerMs ≤ d.now)) .delayLineCalibration
  let logs := (d.stage.take (5 * (d.now + 1) / 4 - 5 * d.now / 4)).map (fun _ => Instr.logEntryWrite)
  hsl ++ sels ++ slots ++ upd ++ sync ++ checks ++ sch ++ lins ++ buses ++ locks ++ line ++ logs

/-- The chip firmware, once the Cellar has released it, polls the tags, reads the histograms and moves the life factors; a pair that
has been held in reset is reloaded; the NVS controller, its patrol and the scrubbers do their work (R348, R397, R417, R424,
R426, R437, R443, R445); the start-up test, an update and a restart of the chip firmware come to their ends (R520, R533, R536). -/
def Dev.dueService (d : Dev) : List Instr :=
  let life := d.binds.flatMap (fun x =>
    let n : Fin 32 := Fin.ofNat 32 x.1
    dueIf (d.pollDue x.1) (.tagPoll n (d.tagAt (d.tagKey x.1))) ++ dueIf (d.lifeDue x.1) (.lifeServiceUpdate n) ++
      dueIf (d.factorDue x.1) (.lifeFactorStep n))
  let nvs := match d.nvsq with
    | (_, a) :: _ => dueIf d.nvsDue (match (d.nvsJob a.toNat).op with | 2 => .nvsFill | 3 => .nvsVerify | _ => .nvsWrite)
    | [] => []
  let st := d.fld 0 F.CHIP_RACK_state
  let chip := dueIf (st == chipRestarting && decide (d.chipAt + 50 * cyclesPerMs ≤ d.now)) .chipFirmwareLoaded ++
    dueIf (st == chipProbation && decide (d.chipAt + d.fld 0 F.CHIP_RACK_prob * cyclesPerSecond ≤ d.now)) .chipRackProbationEnd
  let test := match d.hsl.testAt with
    | some t => dueIf (!d.flag 0 F.HSL_TEST_done && decide (t + 2 * cyclesPerMs ≤ d.now)) (.disablePathTestEnd none)
    | none => []
  (if d.fld 0 F.CEL_STAT_state = 1 ∧ st ≠ chipRestarting then life else []) ++ dueIf d.pairResetDue .pairResetEnd ++ chip ++ test ++
    dueIf (d.fld 0 F.HSL_UPD_state == 1 && d.hsl.updOk) .safetyCaskLoaded ++ nvs ++
    dueIf d.patrolDue (.nvsPatrol .clean) ++ dueIf d.scrubDue (.scrubPass false [])

/-- The timed commands that may be due in this lane cycle, in the order in which one leads to another: the grid and the phases
of the blocks; the carriers that it restarts; what a carrier event or a phase triggers, and every other timer; the sequences
that a trigger starts, and what the comparators make of it all. Each command looks itself whether its time has come. -/
def Dev.dueRound (d : Dev) (n : Nat) : List Instr :=
  match n with
  | 0 => d.dueTicks
  | 1 => d.legs.flatMap (fun x => d.dueCarrier x.1 x.2)
  | 2 => d.dueHolds ++ d.legs.flatMap (fun x => d.dueLeg x.1 x.2) ++ d.units.flatMap (fun x => dueUnit x.1 x.2) ++ d.progs.flatMap (fun x => d.dueProg x.1) ++
      d.dueConvert ++ d.dueFront ++ d.dueRegion ++ d.dueFabric ++ d.dueChip ++ d.dueService
  | _ => d.dueStarts ++ d.legs.flatMap (fun x => d.dueCompare x.1 x.2) ++ d.dueWindows ++ d.dueProbes ++
      ([0, 1, 2, 3].filter (fun r => d.rackState r == 2)).map (fun r => .rackCommit (Fin.ofNat 4 r))

/-- The rainflow reads that are owed: one for each data memory whose port no lane uses in this lane cycle (R22, R422). -/
def Dev.dueReads (d : Dev) : List Instr :=
  let owed := d.rfs.filter (fun x => x.2.dueFrom.isSome && !d.portBusy (d.rfPort (x.1 / 16) (x.1 % 16)))
  let first := owed.filter (fun x => !owed.any (fun y => decide (y.1 < x.1) &&
    d.rfPort (y.1 / 16) (y.1 % 16) == d.rfPort (x.1 / 16) (x.1 % 16)))
  first.map (fun x => .rainflowSample (Fin.ofNat 4 (x.1 / 16)) (Fin.ofNat 16 x.1))

/-! ### Issue of bundles (R118, R121) -/

/-- Whether a lane issues its bundle in this lane cycle; a lane under a reference program has no bundles of its own. -/
def Dev.issuesNow (d : Dev) (b : Nat) : Bool :=
  let l := d.lane b
  l.mode == .run && !l.issued && decide (l.nextAt ≤ d.now) && !d.isRef b

/-- The address of a bundle in the active slot. -/
def Dev.issueAddr (d : Dev) (b pc : Nat) : Nat := blkBase b + d.activeSlot (b / 4) * 0x10000 + 16 * pc

/-- Fetch the aligned pair of bundles that holds bundle `pc`: program memory is used, and an uncorrectable word in either bundle
makes a block fault (R139, R432, R436). -/
def Dev.fetchPair (d : Dev) (b pc : Nat) : Dev :=
  let a := d.issueAddr b (pc / 2 * 2)
  let d1 := (d.usePort (3 * b)).setLane b { d.lane b with pair := some (pc / 2) }
  match [a, a + 8, a + 16, a + 24].find? (fun y => d.isBad y) with
  | some y => d1.uncorrectable y
  | none => d1

/-- Issue the four operations of a bundle, whose pair is fetched where it has not been; beyond bundle 4095 the sub-tick
completes instead (R118, R137, R139). -/
def Dev.issue (d : Dev) (b : Nat) : Dev × List Instr :=
  let l := d.lane b
  let id : BlockId := Fin.ofNat 16 b
  if 4095 < l.pc then (d.laneComplete b, [])
  else
    let d1 := if l.pair = some (l.pc / 2) then d else d.fetchPair b l.pc
    if (d1.lane b).mode = .halted then (d1, [])
    else
      let word := fun (i : Nat) => BitVec.ofNat 32 (d.loadN (d.issueAddr b l.pc + 4 * i) 4)
      (d1.setLane b { d1.lane b with issued := true },
        [decodeSlot id .a0 (word 0), decodeSlot id .a1 (word 1), decodeSlot id .m (word 2), decodeSlot id .c (word 3)])

/-- Every lane that is due issues its bundle. -/
def Dev.issueAll (d : Dev) : List Nat → Dev × List Instr
  | [] => (d, [])
  | b :: t =>
    let x := d.issue b
    let y := x.1.issueAll t
    (y.1, x.2 ++ y.2)

/-! ### One lane cycle -/

/-- Time goes on by one lane cycle, which is 1.25 ns of network time: the lane clock is trimmed with the counter. A correction in
progress, against the master, is slewed at up to 100 ppm (R43, R44, R50). -/
def Dev.advanceTime (d : Dev) : Dev :=
  { d with
    now := d.now + 1
    regs0 := d.regs
    regsHsl := if (d.now + 1) % 20 = 0 then d.regs else d.regsHsl
    net := d.net + 0x14000
    trl := { d.trl with slew := d.trl.slew - clampInt (-8) 8 d.trl.slew } }

/-- A lane at the start of a lane cycle: its writes that are due take place; the bundle after one that has issued is next, and
a taken branch, CALL or RET fetches its target's pair; a PUT that is due completes (R26, R77, R107, R131, R139). -/
def Dev.laneCycle (d0 : Dev) (b : Nat) : Dev :=
  let d := d0.settleLane b d0.now
  let l := d.lane b
  match l.mode, l.held with
  | .run, _ =>
    if l.issued then
      let d1 := d.setLane b (l.advance d.now)
      match l.redirect with
      | some p => if p ≤ 4095 then d1.fetchPair b p else d1
      | none => d1
    else d
  | .wait, some (.put x sealing data since _ _ (some t)) =>
    if t ≤ d.now ∧ t ≤ d.exchDeadline b since then d.putComplete b x sealing data else d
  | _, _ => d

/-- What a lane waits for may have come: a GET's channel is ready, an event's bit is 1 (R107, R116). -/
def Dev.lanePoll (d : Dev) (b : Nat) : Dev :=
  match (d.lane b).mode, (d.lane b).held with
  | .wait, some (.get x since none _ _) => if d.channelReady b x then d.pollGet b x since else d
  | .wait, some (.event bit _) => if d.condSet b bit then d.release b d.now else d
  | _, _ => d

/-- Condition bits that were to be set in this lane cycle, and intake words that land in it (R84, R258). -/
def Dev.takeConds (d : Dev) : Dev :=
  d.condNext.foldl (fun d x => d.setCond x.1 x.2.toNat) { d with condNext := [] }
def Dev.takeLandings (d : Dev) : Dev :=
  let due := d.landings.filter (fun x => decide (x.due ≤ d.now))
  due.foldl (fun d x =>
    let d1 := d.putIntake x.region x.word x.val
    if x.cond = 0 then d1 else d1.condRegionNext x.region x.cond.toNat)
    { d with landings := d.landings.filter (fun x => !decide (x.due ≤ d.now)) }

/-- On a link leg both DRV outputs go low 8 lane cycles after SOFT went active (R178). -/
def Dev.dropSoft (d : Dev) : Dev :=
  d.each ((d.legs.filter (fun x => x.2.st == .softOff && (x.2.drvH || x.2.drvL) && decide (x.2.softAt ≤ d.now))).map (fun x => x.1))
    (fun k d => d.setLeg k ((d.leg k).allOff d.stepNow))

/-- The inputs at the start of a lane cycle: an output of a comparator that has gone inactive is ready to act again, and where a
threshold DAC has just settled a window comparator forms its output anew (R206, R212, R219). -/
def Dev.lookAgain (d : Dev) : Dev :=
  let seen := (d.legs.filter (fun x => x.2.hSeen || x.2.tSeen)).map (fun x => x.1)
  let d1 := d.each seen (fun k d =>
    let l := d.leg k
    d.setLeg k { l with hSeen := l.hSeen && (d.hardOut k).1, tSeen := l.tSeen && (d.tripOut k).1 })
  let settled := (d1.dacAt.filter (fun x => decide (x.2.1 + 39 = d1.now ∧ 64 ≤ x.1 % 80))).map (fun x => x.1)
  d1.each settled (fun i d => d.formRaw (i / 80) (i % 80 - 64))

/-- The end of a lane cycle for samples and probes, and the start of the next for the feedback channels (R261, R265, R280). -/
def Dev.fbEnd (d : Dev) : Dev :=
  let d1 := d.each (d.fbs.map (fun x => x.1)) (fun i d => d.sampleAgain (i / 2) (i % 2))
  d1.each (d1.prbs.map (fun x => x.1)) (fun i d => d.probeAgain (i / 2) (i % 2))
def Dev.fbBegin (d : Dev) : Dev := d.each (d.fbs.map (fun x => x.1)) (fun i d => d.fbStart i)

/-- The axle links reach their frame boundaries, and the module-tag buses the end of their guard times (R476, R486). -/
def Dev.lineCycle (d : Dev) : Dev := (d.each (d.axls.map (fun x => x.1)) (fun i d => d.axlServe i)).mtbGuards

/-- One lane cycle passes: at its end the exchange banks serve the lanes and the fabric and the links move on; then the next
begins. -/
def Dev.cycle (d0 : Dev) : Dev :=
  let d := ((([0, 1, 2, 3].foldl (fun d r => d.serveBanks r) d0.fbEnd).copyCycle).fabricCycle).lineCycle
  let d1 := (d.advanceTime.fbBegin.takeConds).takeLandings.unitCycle
  let d2 := d1.each (d1.lanes.map (fun x => x.1)) (fun b d => d.laneCycle b)
  let d3 := d2.each (d2.lanes.map (fun x => x.1)) (fun b d => d.lanePoll b)
  (((d3.dropSoft.lookAgain).becomeGm.gmSends).watchSafeFb 0).watchSafeFb 1

/-- The next round of this lane cycle that has a command, if any. -/
def Dev.nextRound (d : Dev) : Option (Nat × List Instr) :=
  let done := d.dueAt - 6 * d.now
  ([0, 1, 2, 3].filter (fun n => decide (done ≤ n))).findSome? (fun n =>
    let due := d.dueRound n
    if due.isEmpty then none else some (n, due))

/-- What an empty queue leads to: first the timed commands of this lane cycle, round after round, then the bundles of its
lanes, then the reads that use the ports they leave idle, come to wait; then the cycle passes. -/
def Dev.idle (d : Dev) : Dev × List Instr :=
  match d.nextRound with
  | some x => ({ d with dueAt := 6 * d.now + x.1 + 1 }, x.2)
  | none =>
    let lanes := (d.lanes.map (fun x => x.1)).filter (fun b => d.issuesNow b)
    let reads := d.dueReads
    if d.dueAt < 6 * d.now + 5 ∧ lanes.isEmpty = false then { d with dueAt := 6 * d.now + 5 }.issueAll lanes
    else if d.dueAt < 6 * d.now + 6 ∧ reads.isEmpty = false then ({ d with dueAt := 6 * d.now + 6 }, reads)
    else (d.cycle, [])

end Sys2Proof.Machine
end

