-- ==== Sys2Proof/Safety.lean ====
section
/-! DEFINITION. What counts as a safe device, and the words in which the statements speak of a lane's writes. -/

namespace Sys2Proof.Machine

/-- The two channels of a leg are never driven on together (R170). -/
def Dev.interlock (d : Dev) : Prop := ∀ k, ((d.leg k).drvH && (d.leg k).drvL) = false

/-- The SRAM and the NVS are in canonical form. -/
def Dev.memoryWf (d : Dev) : Prop := Memory.wf d.mem = true ∧ Memory.wf d.nvs = true

/-- What every step keeps: the interlock of the gate outputs, and memories in canonical form. -/
structure State.Safe (s : State) : Prop where
  interlock : s.dev.interlock
  memory : s.dev.memoryWf

/-- The state with one more write of a lane in flight: it is seen `lat` cycles from now (R121). -/
def State.sent (s : State) (ln : BlockId) (slot lat : Nat) (dst : LaneDst) (v : LaneVal) (flags : Nat) : State :=
  { s with dev := s.dev.laneWrite ln slot lat dst v flags }

/-- The lane runs (R86). -/
def State.running (s : State) (ln : BlockId) : Prop := (s.dev.lane ln).mode = .run

/-- The answer of a command that changes the device to `d` and leaves the queue alone. -/
def State.answers (s : State) (o : Host.Outcome State Fault Refusal) (p : Dev → Prop) : Prop :=
  ∃ d, o = .next ⟨d, s.pending⟩ ∧ p d

end Sys2Proof.Machine
end

