-- ==== Sys2Proof/WellFormed.lean ====
section
/-! DEFINITION. The operands a command can have beyond what their types say: what the loader admits of lane operations (R124,
R132, R133, R136, R141), and the lengths and alignments that the spec fixes for the other commands. -/

namespace Sys2Proof

/-- Registers that start a pair or a quad are aligned, size codes and wait modes are assigned, and a branch or loop reaches
forward. -/
def laneOperandsOk : Instr → Bool
  | .clarke _ _ gd _ _ => gd.val % 2 == 0
  | .park _ _ gd gs1 _ => gd.val % 2 == 0 && gs1.val % 2 == 0
  | .ipark _ _ gd gs1 _ => gd.val % 2 == 0 && gs1.val % 2 == 0
  | .svpwm _ _ gd gs1 => decide (gd.val ≤ 29) && gs1.val % 2 == 0
  | .ld _ _ _ _ size => decide (size.toNat ≤ 4)
  | .st _ _ _ _ size => decide (size.toNat ≤ 4)
  | .ldp _ gd _ _ => gd.val % 2 == 0
  | .stp _ _ _ gs2 => gs2.val % 2 == 0
  | .commit _ gd _ => gd.val % 4 == 0
  | .put _ x _ => if x.vec then decide (x.d.val < 8) && x.n == 0 else decide (x.d.val + x.n.toNat ≤ 31)
  | .get _ x => if x.vec then decide (x.d.val < 8) && x.n == 0 else decide (x.d.val + x.n.toNat ≤ 31)
  | .br _ off => off != 0
  | .brnz _ _ _ off => off != 0
  | .brc _ _ _ _ off => off != 0
  | .loop _ last _ => last != 0
  | .waitPhaseReserved _ _ => false
  | .unassignedOpcode _ _ => false
  | _ => true

/-- The number of data bytes of a CAN frame by its format (R467, R469). -/
def canLengthOk (f : CanFrame) : Bool :=
  match f.format with
  | 0 => decide (f.data.length ≤ 8)
  | 1 => [0, 1, 2, 3, 4, 5, 6, 7, 8, 12, 16, 20, 24, 32, 48, 64].contains f.data.length
  | 2 => decide (1 ≤ f.data.length ∧ f.data.length ≤ 2048)

/-- The image of a lane set fits its memories (R82, R83, R140, R151). -/
def laneSetFits (x : LaneSetImage) : Bool :=
  x.budget.length == 16 && x.programs.all (fun p => decide (p.bundles.length ≤ 4096 ∧ p.table.length ≤ 8192))

/-- Lengths and alignments of the other commands. -/
def otherOperandsOk : Instr → Bool
  | .prove _ _ _ nonce => nonce.length == 32
  | .writeLife _ _ _ record => record.length == 256
  | .tagPoll _ (some t) => t.id.length == 256 && t.life.length == 256
  | .registerWrite _ addr _ => addr.toNat % 4 == 0
  | .canFrameReceive _ f _ => canLengthOk f
  | .linHeader _ _ _ (.data l) => decide (1 ≤ l.length ∧ l.length ≤ 9)
  | .exchFrameReceive _ _ words _ _ _ => decide (1 ≤ words.length ∧ words.length ≤ 32)
  | .loaderLoad x => laneSetFits x
  | .marker _ offset _ _ _ _ _ => decide (offset.toNat ≤ 51)
  | _ => true

/-- A command whose operands the spec admits. -/
def wellFormed (i : Instr) : Bool := laneOperandsOk i && otherOperandsOk i

end Sys2Proof
end

