-- ==== Sys2Proof/Certificates/Slice0/Obligations.lean ====
section
/-! DEFINITION. The statements about the device, for the provers. -/

open Sys2Proof Sys2Proof.Machine

/-- The integer operations of the A slots send their result on its way with latency 1 and set no flag: sums and differences
modulo 2^32, the bitwise operations, shifts by an immediate or a register's low five bits, constants and the signed
comparison (R87, R121, R125). Nothing else changes.
The Q15 operations of the A slots (R87, R88, R90, R125, R128). A result is the exact value brought to the nearest limit of
[−0x8000, 0x7FFF], and sat is set where it lies outside; QMUL rounds to nearest with a tie to the even result, with latency 2;
LIM writes whether it clamped; RAMP moves towards its target by at most |gs2|. -/
def Obligations.LaneScalarOps : Prop :=
  (∀ (ln : BlockId) (sl : ASlot) (gd gs1 gs2 : GReg) (s : State), s.running ln →
      let l := s.dev.lane ln
      let a := l.gr gs1
      let b := l.gr gs2
      let gives := fun (v : Word) => Host.Outcome.next (s.sent ln (aslotNum sl) 1 (.g gd) (.word v) 0)
      exec (.add ln sl gd gs1 gs2) s = gives (BitVec.ofNat 32 (a.toNat + b.toNat)) ∧
      (∀ imm : BitVec 11, exec (.addi ln sl gd gs1 imm) s = gives (BitVec.ofInt 32 (a.toInt + imm.toInt))) ∧
      exec (.sub ln sl gd gs1 gs2) s = gives (BitVec.ofInt 32 ((a.toNat : Int) - b.toNat)) ∧
      exec (.and ln sl gd gs1 gs2) s = gives (a &&& b) ∧
      exec (.or ln sl gd gs1 gs2) s = gives (a ||| b) ∧
      exec (.xor ln sl gd gs1 gs2) s = gives (a ^^^ b) ∧
      (∀ n : BitVec 5, exec (.shl ln sl gd gs1 (.imm n)) s = gives (BitVec.ofNat 32 (a.toNat * 2 ^ n.toNat)) ∧
        exec (.shra ln sl gd gs1 (.imm n)) s = gives (BitVec.ofInt 32 (a.toInt / 2 ^ n.toNat))) ∧
      exec (.shl ln sl gd gs1 (.reg gs2)) s = gives (BitVec.ofNat 32 (a.toNat * 2 ^ (b.toNat % 32))) ∧
      exec (.shra ln sl gd gs1 (.reg gs2)) s = gives (BitVec.ofInt 32 (a.toInt / 2 ^ (b.toNat % 32))) ∧
      (∀ k : BitVec 16, exec (.movl ln sl gd k) s = gives (BitVec.ofNat 32 k.toNat) ∧
        exec (.movh ln sl gd k) s = gives (BitVec.ofNat 32 (k.toNat * 65536 + (l.gr gd).toNat % 65536))) ∧
      exec (.cmplt ln sl gd gs1 gs2) s = gives (if a.toInt < b.toInt then 1 else 0)) ∧
  (∀ (ln : BlockId) (sl : ASlot) (gd gs1 gs2 : GReg) (s : State), s.running ln →
      let l := s.dev.lane ln
      let a := q15 (l.gr gs1)
      let b := q15 (l.gr gs2)
      let r := q15 (l.gr gd)
      let gives := fun (lat : Nat) (x : Int) (sat : Bool) =>
        Host.Outcome.next (s.sent ln (aslotNum sl) lat (.g gd) (.word (BitVec.ofInt 32 x)) (if sat then 1 else 0))
      let limit := fun (lat : Nat) (x : Int) =>
        gives lat (max (-0x8000) (min 0x7FFF x)) (decide (x < -0x8000 ∨ 0x7FFF < x))
      let step := min 0x7FFF |b|
      exec (.qadd ln sl gd gs1 gs2) s = limit 1 (a + b) ∧
      exec (.qsub ln sl gd gs1 gs2) s = limit 1 (a - b) ∧
      exec (.qneg ln sl gd gs1) s = limit 1 (-a) ∧
      exec (.qabs ln sl gd gs1) s = limit 1 |a| ∧
      (∃ q : Int, exec (.qmul ln sl gd gs1 gs2) s = limit 2 q ∧ 2 * |a * b - q * 0x8000| ≤ 0x8000 ∧
        (2 * |a * b - q * 0x8000| = 0x8000 → q % 2 = 0)) ∧
      exec (.lim ln sl gd gs1 gs2) s = .next ⟨s.dev.laneWriteLim ln (aslotNum sl) 1 (.g gd)
        (.word (BitVec.ofInt 32 (max (-step) (min step a)))) (if b = -0x8000 then 1 else 0) (decide (step < |a|)), s.pending⟩ ∧
      exec (.ramp ln sl gd gs1 gs2) s = gives 1 (r + max (-step) (min step (a - r))) (decide (b = -0x8000)))

/-- The accumulator operations (R89, R90, R122, R125). A product is exact with 30 fraction bits and takes 2 cycles; MAC and MSU
send the product itself on its way, to be added to the accumulator as it stands in their last cycle; ACCLD is exact; EXTR
rounds the accumulator times 2^s to a multiple of 2^−15, half to even, and saturates.
A MAC or MSU issued with nothing else in flight leaves the accumulator at the sum or difference, brought to the nearer limit of
[−512, 512 − 2^−30] with LANE_STATUS.ovf set where it lies outside; and it leaves the old value until its last cycle has
passed (R89, R121). -/
def Obligations.LaneAccumulatorOps : Prop :=
  (∀ (ln : BlockId) (sl : ASlot) (gd gs1 gs2 : GReg) (acc : AReg) (s : State), s.running ln →
      let l := s.dev.lane ln
      let p := q15 (l.gr gs1) * q15 (l.gr gs2)
      let gives := fun (lat : Nat) (v : LaneVal) => Host.Outcome.next (s.sent ln (aslotNum sl) lat (.acc acc) v 0)
      exec (.mpy ln sl acc gs1 gs2) s = gives 2 (.acc (BitVec.ofInt 40 p)) ∧
      exec (.mac ln sl acc gs1 gs2) s = gives 2 (.addProduct p) ∧
      exec (.msu ln sl acc gs1 gs2) s = gives 2 (.addProduct (-p)) ∧
      exec (.accld ln sl acc gs1) s = gives 1 (.acc (BitVec.ofInt 40 (q15 (l.gr gs1) * 0x8000))) ∧
      ∀ sh : BitVec 4, ∃ q : Int,
        let x := (l.ac acc).toInt * 2 ^ min sh.toNat 8
        exec (.extr ln sl gd acc sh) s = .next (s.sent ln (aslotNum sl) 1 (.g gd)
          (.word (BitVec.ofInt 32 (max (-0x8000) (min 0x7FFF q)))) (if q < -0x8000 ∨ 0x7FFF < q then 1 else 0)) ∧
        2 * |x - q * 0x8000| ≤ 0x8000 ∧ (2 * |x - q * 0x8000| = 0x8000 → q % 2 = 0)) ∧
  (∀ (ln : BlockId) (sl : ASlot) (gs1 gs2 : GReg) (acc : AReg) (sub : Bool) (s t : State), s.running ln → (s.dev.lane ln).writes = [] →
      exec (if sub then .msu ln sl acc gs1 gs2 else .mac ln sl acc gs1 gs2) s = .next t →
      let p := q15 ((s.dev.lane ln).gr gs1) * q15 ((s.dev.lane ln).gr gs2)
      let x := ((s.dev.lane ln).ac acc).toInt + if sub then -p else p
      (t.dev.settleLane ln (s.dev.now + 1)).lane ln = t.dev.lane ln ∧ (t.dev.lane ln).ac acc = (s.dev.lane ln).ac acc ∧
      (((t.dev.settleLane ln (s.dev.now + 2)).lane ln).ac acc).toInt = max (-0x8000000000) (min 0x7FFFFFFFFF x) ∧
      ((x < -0x8000000000 ∨ 0x7FFFFFFFFF < x) →
        bitOf ((t.dev.settleLane ln (s.dev.now + 2)).reg (blkReg ln + 0x20)).toNat 1 = true))

/-- The fused transforms send a register pair on its way with latency 3, SVPWM three registers (R124, R126, R127). CLARKE copies
ia and forms (ia + 2 ib) / √3 to nearest; PARK and IPARK use the lane's table of sine and cosine, whose values lie within 2^−14
of the model's series; a SVPWM duty lies in [0, 0x7FFF]. -/
def Obligations.LaneTransformOps : Prop :=
  ∀ (ln : BlockId) (sl : ASlot) (gd gs1 gs2 : GReg) (s : State), s.running ln →
    let l := s.dev.lane ln
    let lo := pairBase gs1
    let a := q15 (l.gr lo)
    let b := q15 (l.gr (regPlus lo 1))
    let pair := fun (x y : Int) (sat : Bool) =>
      Host.Outcome.next ((s.sent ln (aslotNum sl) 3 (.g (pairBase gd)) (.word (BitVec.ofInt 32 x)) (if sat then 1 else 0)).sent ln
        (aslotNum sl) 3 (.g (regPlus (pairBase gd) 1)) (.word (BitVec.ofInt 32 y)) 0)
    (∃ q : Int, let n := q15 (l.gr gs1) + 2 * q15 (l.gr gs2)
      exec (.clarke ln sl gd gs1 gs2) s =
        pair (q15 (l.gr gs1)) (max (-0x8000) (min 0x7FFF q)) (decide (q < -0x8000 ∨ 0x7FFF < q)) ∧
      (0 ≤ n → 0 ≤ q) ∧ (n ≤ 0 → q ≤ 0) ∧ 3 * (2 * |q| - 1) ^ 2 ≤ 4 * n ^ 2 + 3 ∧ 4 * n ^ 2 < 3 * (2 * |q| + 1) ^ 2) ∧
    (let r := parkOf a b (l.gr gs2);
      exec (.park ln sl gd gs1 gs2) s = pair r.1 r.2.1 r.2.2 ∧ (-0x8000 ≤ r.1 ∧ r.1 ≤ 0x7FFF) ∧ (-0x8000 ≤ r.2.1 ∧ r.2.1 ≤ 0x7FFF)) ∧
    (let r := iparkOf a b (l.gr gs2);
      exec (.ipark ln sl gd gs1 gs2) s = pair r.1 r.2.1 r.2.2 ∧ (-0x8000 ≤ r.1 ∧ r.1 ≤ 0x7FFF) ∧ (-0x8000 ≤ r.2.1 ∧ r.2.1 ≤ 0x7FFF)) ∧
    |tableSin (l.gr gs2) - sinExact (l.gr gs2)| ≤ 2 ^ 26 ∧ |tableCos (l.gr gs2) - cosExact (l.gr gs2)| ≤ 2 ^ 26 ∧
    ∃ x y z : Int, ∃ sat : Bool,
      exec (.svpwm ln sl gd gs1) s =
        .next (((s.sent ln (aslotNum sl) 3 (.g gd) (.word (BitVec.ofInt 32 x)) (if sat then 1 else 0)).sent ln (aslotNum sl) 3
          (.g (regPlus gd 1)) (.word (BitVec.ofInt 32 y)) 0).sent ln (aslotNum sl) 3 (.g (regPlus gd 2))
          (.word (BitVec.ofInt 32 z)) 0) ∧
      svpwmOf a b = ([x, y, z], sat) ∧ (0 ≤ x ∧ x ≤ 0x7FFF) ∧ (0 ≤ y ∧ y ≤ 0x7FFF) ∧ (0 ≤ z ∧ z ≤ 0x7FFF)

/-- The model-class operations send a vector with its exponent on its way (R91 to R96, R125). VADD with equal exponents and sums
in range adds or subtracts element by element; VMUL and VSMUL round each product once; BNORM of a vector of zeros gives
exponent −128; VSCL within the limits adds to the exponent alone; QTOV places one element with exponent 0; VTOQ shifts an
element by its exponent and saturates. -/
def Obligations.LaneVectorOps : Prop :=
  ∀ (ln : BlockId) (sl : ASlot) (gd gs : GReg) (md ms1 ms2 : VReg) (sub : Bool) (s : State), s.running ln →
    let l := s.dev.lane ln
    let m1 := l.vmant ms1
    let m2 := l.vmant ms2
    let e1 := l.vexp ms1
    let e2 := l.vexp ms2
    let el := fun (m : QWord) (i : Nat) => signed 16 (m.toNat / 2 ^ (16 * i))
    let sum := fun (i : Nat) => if sub then el m1 i - el m2 i else el m1 i + el m2 i
    let gives := fun (lat : Nat) (r : VecResult) =>
      Host.Outcome.next (s.sent ln (aslotNum sl) lat (.vec md) (.vec r.m r.e) r.flags)
    (∃ r, exec (.vadd ln sl md ms1 ms2 sub) s = gives 2 r ∧
      (e1 = e2 → (∀ i < 8, -0x8000 ≤ sum i ∧ sum i ≤ 0x7FFF) →
        r.flags = 0 ∧ r.e = e1 ∧ ∀ i < 8, el r.m i = sum i)) ∧
    (∃ r, exec (.vmul ln sl md ms1 ms2) s = gives 2 r ∧
      ((∀ i < 8, el m1 i ≠ -0x8000) → -128 ≤ e1.toInt + e2.toInt → e1.toInt + e2.toInt ≤ 127 →
        r.flags = 0 ∧ r.e.toInt = e1.toInt + e2.toInt ∧ ∀ i < 8, el r.m i = roundShift (el m1 i * el m2 i) 15)) ∧
    (∃ r, exec (.vsmul ln sl md ms1 gs) s = gives 2 r ∧
      (q15 (l.gr gs) ≠ -0x8000 →
        r.flags = 0 ∧ r.e = e1 ∧ ∀ i < 8, el r.m i = roundShift (el m1 i * q15 (l.gr gs)) 15)) ∧
    (∃ r, exec (.bnorm ln sl md ms1) s = gives 3 r ∧
      (m1 = 0 → r.m = 0 ∧ r.e.toInt = -128 ∧ r.flags = 0)) ∧
    (∀ imm : BitVec 8, ∃ r, exec (.vscl ln sl md ms1 imm) s = gives 1 r ∧
      (-128 ≤ e1.toInt + imm.toInt → e1.toInt + imm.toInt ≤ 127 → r.m = m1 ∧ r.e.toInt = e1.toInt + imm.toInt ∧ r.flags = 0)) ∧
    (∀ i : BitVec 3,
      (∃ q : Int, exec (.vtoq ln sl gd ms1 i) s = .next (s.sent ln (aslotNum sl) 1 (.g gd)
          (.word (BitVec.ofInt 32 (max (-0x8000) (min 0x7FFF q)))) (if q < -0x8000 ∨ 0x7FFF < q then 1 else 0)) ∧
        (0 ≤ e1.toInt → q = el m1 i.toNat * 2 ^ e1.toInt.toNat) ∧
        (e1.toInt < 0 → q = roundShift (el m1 i.toNat) (-e1.toInt).toNat)) ∧
      ∃ r, exec (.qtov ln sl md gs i) s = gives 1 r ∧ r.e = 0 ∧ r.flags = 0 ∧
        ∀ j < 8, el r.m j = if j = i.toNat then q15 (l.gr gs) else 0)

/-- Loads (R79 to R81, R121, R129, R130). A load that the lane's map admits and that meets no uncorrectable word sends its bytes,
read little-endian in the issue cycle, to its destination with latency 2: LD one register, extended by its size code; LDP a pair,
the low word to the even register; VLD eight mantissas and the exponent of byte 16. In data memory the bytes are those of the
block's data memory. The access uses the port of the memory that holds it (R22). One that meets an uncorrectable word ends there as a
block fault (R432, R436), and one the map does not admit sends 0, sets LANE_STATUS.addr and raises LANE_ADDR with its address (R80). -/
def Obligations.LaneLoads : Prop :=
  ∀ (ln : BlockId) (gd gs1 : GReg) (md : VReg) (imm : BitVec 11) (size : BitVec 3) (s : State), s.running ln →
    let d := s.dev
    let l := d.lane ln
    let goes := fun (n : Nat) => d.mayLoad ln (l.address gs1 imm n) n = true ∧ d.badIn ln (l.address gs1 imm n) n = none
    let v := fun (n : Nat) => d.laneBytes ln (l.address gs1 imm n) n
    let used := fun (n : Nat) => State.mk (d.useLanePort ln (l.address gs1 imm n)) s.pending
    let refused := fun (n : Nat) => State.mk (((d.useLanePort ln (l.address gs1 imm n)).setFlags ln 16).raise Ev.LANE_ADDR (scopeBlk ln)
      (pack [(l.address gs1 imm n, 19), (l.pc, 12)])) s.pending
    ((size = 0 ∧ goes 1) → exec (.ld ln gd gs1 imm size) s = .next ((used 1).sent ln 2 2 (.g gd) (.word (BitVec.ofInt 32 (signed 8 (v 1)))) 0)) ∧
    ((size = 1 ∧ goes 1) → exec (.ld ln gd gs1 imm size) s = .next ((used 1).sent ln 2 2 (.g gd) (.word (BitVec.ofNat 32 (v 1))) 0)) ∧
    ((size = 2 ∧ goes 2) → exec (.ld ln gd gs1 imm size) s = .next ((used 2).sent ln 2 2 (.g gd) (.word (BitVec.ofInt 32 (signed 16 (v 2)))) 0)) ∧
    ((size = 3 ∧ goes 2) → exec (.ld ln gd gs1 imm size) s = .next ((used 2).sent ln 2 2 (.g gd) (.word (BitVec.ofNat 32 (v 2))) 0)) ∧
    ((size = 4 ∧ goes 4) → exec (.ld ln gd gs1 imm size) s = .next ((used 4).sent ln 2 2 (.g gd) (.word (BitVec.ofNat 32 (v 4))) 0)) ∧
    (goes 8 → exec (.ldp ln gd gs1 imm) s = .next (((used 8).sent ln 2 2 (.g (pairBase gd)) (.word (BitVec.ofNat 32 (v 8))) 0).sent ln 2 2
      (.g (regPlus (pairBase gd) 1)) (.word (BitVec.ofNat 32 (v 8 / 2 ^ 32))) 0)) ∧
    (goes 32 → exec (.vld ln md gs1 imm) s =
      .next ((used 32).sent ln 2 2 (.vec md) (.vec (BitVec.ofNat 128 (v 32)) (BitVec.ofNat 8 (v 32 / 2 ^ 128))) 0)) ∧
    (∀ n y, sizeBytes size = some n → d.mayLoad ln (l.address gs1 imm n) n = true → d.badIn ln (l.address gs1 imm n) n = some y →
      exec (.ld ln gd gs1 imm size) s = .next ⟨(d.useLanePort ln (l.address gs1 imm n)).uncorrectable y, s.pending⟩) ∧
    (∀ n, sizeBytes size = some n → d.mayLoad ln (l.address gs1 imm n) n = false →
      exec (.ld ln gd gs1 imm size) s = .next ((refused n).sent ln 2 2 (.g gd) (.word 0) 0)) ∧
    (d.mayLoad ln (l.address gs1 imm 8) 8 = false → exec (.ldp ln gd gs1 imm) s =
      .next (((refused 8).sent ln 2 2 (.g (pairBase gd)) (.word 0) 0).sent ln 2 2 (.g (regPlus (pairBase gd) 1)) (.word 0) 0)) ∧
    (d.mayLoad ln (l.address gs1 imm 32) 32 = false → exec (.vld ln md gs1 imm) s =
      .next ((refused 32).sent ln 2 2 (.vec md) (.vec 0 0) 0)) ∧
    ∀ n a : Nat, a + n ≤ 0x40000 → d.laneBytes ln a n = d.loadN (blkBase ln + 0x40000 + a) n

/-- Stores to data memory (R80, R81, R129, R130, R433). A store changes exactly the bytes from the block's data memory at its lane
address up, little-endian: 1, 2 or 4 bytes of a register, the 8 bytes of a pair, or a 32-byte record of the mantissas, the
exponent sign-extended to a word, and zeros. Every other byte and everything else but the error mark of a word written whole and the
port it used (R22) stays as it was. A store of less than a whole word into an uncorrectable word is left out here: it is not performed.
An access the lane's map does not admit is not performed: a load sends 0, a store writes nothing, LANE_STATUS.addr is set and,
for a refusal by R80, LANE_ADDR raised with the address; a reserved size code only sets the flag (R80, R130). -/
def Obligations.LaneStores : Prop :=
  (∀ (ln : BlockId) (gs1 gs2 : GReg) (ms : VReg) (imm : BitVec 11) (size : BitVec 3) (s : State), s.running ln →
      let l := s.dev.lane ln
      let place := fun (n : Nat) => blkBase ln + 0x40000 + l.address gs1 imm n
      let goes := fun (n : Nat) => l.address gs1 imm n % n = 0 ∧ l.address gs1 imm n < 0x40000
      let stored := fun (n v : Nat) (o : Host.Outcome State Fault Refusal) => s.answers o (fun d =>
        d = { s.dev with mem := d.mem, bad := d.bad, portAt := (s.dev.usePort (3 * ln + 1)).portAt } ∧
        (∀ x, x < place n ∨ place n + n ≤ x → d.byte x = s.dev.byte x) ∧
        ∀ i < n, d.byte (place n + i) = BitVec.ofNat 8 (v / 256 ^ i))
      (∀ n, sizeBytes size = some n → goes n → s.dev.isBad (place n) = false →
        stored n (l.gr gs2).toNat (exec (.st ln gs1 imm gs2 size) s)) ∧
      (goes 8 → stored 8 ((l.gr (pairBase gs2)).toNat + 2 ^ 32 * (l.gr (regPlus (pairBase gs2) 1)).toNat) (exec (.stp ln gs1 imm gs2) s)) ∧
      (goes 32 → stored 32 ((l.vmant ms).toNat + 2 ^ 128 * ((l.vexp ms).signExtend 32).toNat) (exec (.vst ln gs1 imm ms) s))) ∧
  (∀ (ln : BlockId) (gd gs1 gs2 : GReg) (imm : BitVec 11) (size : BitVec 3) (n : Nat) (s : State), s.running ln →
      let d := s.dev
      let a := (d.lane ln).address gs1 imm n
      let status := (d.reg (blkReg ln + 0x20)).toNat
      (sizeBytes size = none → exec (.ld ln gd gs1 imm size) s =
          .next ((State.mk (d.setFlags ln 16) s.pending).sent ln 2 2 (.g gd) (.word 0) 0) ∧
        exec (.st ln gs1 imm gs2 size) s = .next ⟨d.setFlags ln 16, s.pending⟩ ∧
        (d.setFlags ln 16).reg (blkReg ln + 0x20) = BitVec.ofNat 32 (status ||| 16)) ∧
      (sizeBytes size = some n → d.mayLoad ln a n = false → s.answers (exec (.ld ln gd gs1 imm size) s) (fun e =>
        e.reg (blkReg ln + 0x20) = BitVec.ofNat 32 (status ||| 16) ∧ e.mem = d.mem ∧
        ∃ w ∈ (e.lane ln).writes, w.due = d.now + 2 ∧ w.dst = .g gd ∧ w.val = .word 0)) ∧
      (sizeBytes size = some n → mayStore a n = false → s.answers (exec (.st ln gs1 imm gs2 size) s) (fun e =>
        e = (d.setFlags ln 16).raise Ev.LANE_ADDR (scopeBlk ln) (pack [(a, 19), ((d.lane ln).pc, 12)]) ∧
        e.reg (blkReg ln + 0x20) = BitVec.ofNat 32 (status ||| 16) ∧ e.mem = d.mem ∧ e.legs = d.legs)) ∧
      (∀ ms : VReg, mayStore ((d.lane ln).address gs1 imm 8) 8 = false → mayStore ((d.lane ln).address gs1 imm 32) 32 = false →
        s.answers (exec (.stp ln gs1 imm gs2) s) (fun e => e.mem = d.mem ∧ e.reg (blkReg ln + 0x20) = BitVec.ofNat 32 (status ||| 16)) ∧
        s.answers (exec (.vst ln gs1 imm ms) s) (fun e => e.mem = d.mem ∧ e.reg (blkReg ln + 0x20) = BitVec.ofNat 32 (status ||| 16))))

/-- Table operations (R110 to R113). Where the words read hold no uncorrectable error, GTAB sends E[i] + (E[i+1] − E[i]) · f / 512 times
2^out_exp with latency 4, i and f from |gs1| shifted left by in_shift and saturated; FTAB sends E[i] + (E[i+1] − E[i]) · f / 32768,
i and f from the angle gs1 and the table's offset, entry 1023 going over into entry 0 (which number a tie goes to: log entry 90). Each uses the port of the table memory (R22). -/
def Obligations.LaneTables : Prop :=
  ∀ (ln : BlockId) (gd gs1 : GReg) (t : BitVec 4) (u : BitVec 2) (s : State), s.running ln → (∀ a, s.dev.isBad a = false) →
    let d := s.dev
    let l := d.lane ln
    let bank := blkBase ln + 0x80000 + 0x8000 * d.activeBank (ln.val / 4)
    let used := State.mk (d.usePort (3 * ln + 2)) s.pending
    (let base := bank + 0x100 * t.toNat
     let header := d.loadN base 4
     let a := min (min 0x7FFF (q15 (l.gr gs1)).natAbs * 2 ^ (header % 16)) 0x7FFF
     let el := fun (i : Nat) => signed 16 (d.loadN (base + 4 + 2 * i) 2)
     exec (.gtab ln gd gs1 t) s = .next (used.sent ln 2 4 (.g gd) (.word (BitVec.ofInt 32
      ((el (a / 512) + roundShift ((el (a / 512 + 1) - el (a / 512)) * (a % 512 : Nat)) 9) * 2 ^ min (header / 256 % 16) 8))) 0)) ∧
    (let base := bank + 0x1000 + 0x800 * u.toNat
     let i := ((l.gr gs1).toNat / 2 ^ 22 + d.loadN (bank + 0x3000 + 0x10 * u.toNat) 4) % 1024
     let el := fun (i : Nat) => signed 16 (d.loadN (base + 2 * i) 2)
     exec (.ftab ln gd gs1 u) s = .next (used.sent ln 2 4 (.g gd) (.word (BitVec.ofInt 32
      (el i + roundShift ((el ((i + 1) % 1024) - el i) * ((l.gr gs1).toNat / 2 ^ 7 % 2 ^ 15 : Nat)) 15))) 0))

/-- Operations of the C slot that direct the lane (R120, R131 to R136). Everything but the lane's redirection, loop stack and link stays
as it was; what is not assigned, reserved or out of range acts as a NOP and raises LANE_ILLEGAL with the lane and its bundle.
The bundle after one that has issued in cycle t (R131, R133, R134): a redirected lane issues its target in t + 2; the end bundle of
the innermost loop sends the lane back in t + 1 as long as repeats are left, and pops the loop otherwise; else the next bundle
follows in t + 1. A redirection leaves the loop stack alone. -/
def Obligations.LaneControl : Prop :=
  (∀ (ln : BlockId) (sl : Slot) (gs1 : GReg) (off last cnt : BitVec 12) (bit : BitVec 5) (prev sense : Bool) (mode : Fin 3) (s : State),
      s.running ln →
      let d := s.dev
      let l := d.lane ln
      let goes := fun (x : Lane) => Host.Outcome.next (State.mk (d.setLane ln x) s.pending)
      let illegal := Host.Outcome.next (State.mk (d.raise Ev.LANE_ILLEGAL (scopeBlk ln) (ln.val + 16 * (l.pc % 4096))) s.pending)
      let branch := fun (taken : Bool) =>
        if off = 0 ∨ 4095 < l.pc + off.toNat then illegal
        else if taken then goes { l with redirect := some (l.pc + off.toNat) } else .next s
      let live := (d.reg (blkReg ln + if prev then 0x34 else 0x30)).getLsbD bit.toNat
      exec (.nop ln sl) s = .next s ∧
      exec (.unassignedOpcode ln sl) s = illegal ∧
      exec (.br ln off) s = branch true ∧
      exec (.brnz ln gs1 sense off) s = branch (if sense then l.gr gs1 == 0 else l.gr gs1 != 0) ∧
      exec (.brc ln bit prev sense off) s = branch (if sense then !live else live) ∧
      exec (.loop ln last cnt) s = (if last = 0 ∨ 2 ≤ l.loops.length then illegal
        else goes { l with loops := ⟨l.pc + 1, l.pc + last.toNat, cnt.toNat⟩ :: l.loops }) ∧
      exec (.call ln off) s = (if l.link = none then goes { l with link := some (l.pc + 1), redirect := some off.toNat } else illegal) ∧
      (l.link = none → exec (.ret ln) s = illegal) ∧
      (∀ p, l.link = some p → exec (.ret ln) s = goes { l with link := none, redirect := some p }) ∧
      exec (.waitPhaseReserved ln mode) s = illegal) ∧
  (∀ (l : Lane) (t : Nat),
      let n := l.advance (t + 1)
      n.issued = false ∧ n.redirect = none ∧ n.g = l.g ∧ n.acc = l.acc ∧ n.vm = l.vm ∧ n.ve = l.ve ∧ n.writes = l.writes ∧ n.link = l.link ∧
      (∀ p, l.redirect = some p → n.pc = p ∧ n.nextAt = t + 2 ∧ n.loops = l.loops) ∧
      (l.redirect = none → n.nextAt = t + 1 ∧
        (l.loops = [] → n.pc = l.pc + 1) ∧
        ∀ e rest, l.loops = e :: rest →
          (e.last ≠ l.pc → n.pc = l.pc + 1 ∧ n.loops = l.loops) ∧
          (e.last = l.pc → e.left = 0 → n.pc = l.pc + 1 ∧ n.loops = rest) ∧
          (e.last = l.pc → e.left ≠ 0 → n.pc = e.first ∧ n.loops = { e with left := e.left - 1 } :: rest)))

/-- Waits (R62, R63, R86, R116, R136 to R138). Naming intake completes the sub-tick: the lane is DONE with loop stack and link empty and
BLK_OVR_MAX.cycles holds the largest number of cycles used. Naming compute goes on at once. Naming exchange or commit holds the
lane only before that phase. An event wait goes on at once where its bit is 1, is late where its deadline has passed, and holds
the lane otherwise; at the deadline with the bit still 0 it ends with evt_late set. SIG raises its event, and SIG 3 is a fault of the units
that the lane leads and that listen to it (R117, R327). -/
def Obligations.LaneWaits : Prop :=
  ∀ (ln : BlockId) (bit : BitVec 5) (dl : BitVec 16) (n : Fin 4) (h : Nat) (s : State),
    let d := s.dev
    let l := d.lane ln
    let used := d.now - l.computeAt + 1
    let held := fun (h : Held) => Host.Outcome.next (State.mk (d.setLane ln { l with mode := .wait, held := some h }) s.pending)
    let due := l.computeAt + 4 * dl.toNat
    (s.running ln →
    s.answers (exec (.waitPhaseIntake ln) s) (fun e =>
      e.lane ln = { l with mode := .done, held := none, issued := false, redirect := none, loops := [], link := none, completed := true } ∧
      (used < 2 ^ 18 → e.fld (blkReg ln) F.BLK_OVR_MAX_cycles = max used (d.fld (blkReg ln) F.BLK_OVR_MAX_cycles)) ∧
      e.mem = d.mem ∧ e.legs = d.legs ∧ e.units = d.units) ∧
    exec (.waitPhaseCompute ln) s = .next s ∧
    exec (.waitPhaseExchange ln) s = (if l.phase = .intake ∨ l.phase = .compute then held (.phase .exchange) else .next s) ∧
    exec (.waitPhaseCommit ln) s = (if l.phase = .commit ∨ l.phase = .closed then .next s else held (.phase .commit)) ∧
    ((d.reg (blkReg ln + 0x30)).getLsbD bit.toNat = true → exec (.waitPhaseEvent ln bit dl) s = .next s) ∧
    ((d.reg (blkReg ln + 0x30)).getLsbD bit.toNat = false →
      (d.now < due → exec (.waitPhaseEvent ln bit dl) s = held (.event bit due)) ∧
      (due ≤ d.now → s.answers (exec (.waitPhaseEvent ln bit dl) s) (fun e =>
        (e.lane ln).mode = .run ∧ e.reg (blkReg ln + 0x20) = d.reg (blkReg ln + 0x20) ||| 8))) ∧
    s.answers (exec (.sig ln n) s) (fun e => e.mem = d.mem ∧
      ((n ≠ 3 ∨ ∀ u, d.flag (4 * u) F.HSL_UFIN_sig_en = false) → e = d.raise (Ev.LANE_SIG0 + n) (scopeBlk ln) 0 ∧ e.legs = d.legs) ∧
      (n = 3 → ∀ u ∈ d.blockUnits ln, d.leadLane u = some ln.val → d.flag (4 * u) F.HSL_UFIN_sig_en = true → (e.unit u).active = false))) ∧
    (l.mode = .wait → l.held = some (.event bit h) → h ≤ d.now → (d.reg (blkReg ln + 0x30)).getLsbD bit.toNat = false →
      s.answers (exec (.eventWaitDeadline ln) s) (fun e =>
        (e.lane ln).mode = .run ∧ (e.lane ln).held = none ∧ e.reg (blkReg ln + 0x20) = d.reg (blkReg ln + 0x20) ||| 8 ∧
        (∀ b, b ≠ ln.val → (e.lane b).mode = (d.lane b).mode) ∧ e.mem = d.mem ∧ e.legs = d.legs ∧ e.units = d.units)) ∧
    (l.mode = .wait → l.held = some (.event bit h) →
      (h ≤ d.now → (d.reg (blkReg ln + 0x30)).getLsbD bit.toNat = true → s.answers (exec (.eventWaitDeadline ln) s) (fun e =>
        (e.lane ln).mode = .run ∧ (e.lane ln).held = none ∧ e.regs = d.regs ∧ e.mem = d.mem)) ∧
      (d.now < h → exec (.eventWaitDeadline ln) s = .next s)) ∧
    (l.held = none → exec (.eventWaitDeadline ln) s = .next s)

/-- Exchange (R24 to R26, R107 to R109). Before the exchange phase PUT and GET hold the lane with their operands. In it, a PUT of the
producer into a valid channel that is not ready and long enough holds the lane with its data until its banks have served it, and
a GET of a consumer holds the lane, requesting its banks once the channel is ready; past the commit boundary such an EXCH ends as at its
last cycle. A refused PUT or GET goes on after one cycle with exch_ref set. A PUT that completes stores its data in the channel and,
with the seal, makes the channel ready in that cycle. A GET whose access is done in time sends what the channel holds to its
destinations and lets the lane run on, or ends as a block fault at an uncorrectable word; an EXCH that has not completed by the last
cycle it may take is ended, and the lane halts by a block fault with cause bit 2 and no destination written (R26, R62). -/
def Obligations.LaneExchange : Prop :=
  ∀ (ln : BlockId) (x : ExchOp) (sealing : Bool) (s : State),
    let d := s.dev
    let l := d.lane ln
    let early := l.phase = .intake ∨ l.phase = .compute
    let holds := fun (h : Held) => Host.Outcome.next (State.mk (d.setLane ln { l with mode := .wait, held := some h }) s.pending)
    let ended := fun (e : Dev) => e = (d.raise Ev.EXCH_TIMEOUT (scopeBlk ln) 0).blockFault ln 2 ∧ (e.lane ln).mode = .halted ∧
      (e.lane ln).writes = l.writes ∧ e.mem = d.mem ∧ e.chReady = d.chReady
    let refused := fun (e : Dev) => (e.lane ln).mode = .run ∧ (e.lane ln).held = none ∧
      e.reg (blkReg ln + 0x20) = d.reg (blkReg ln + 0x20) ||| 32 ∧ e.mem = d.mem ∧ e.chReady = d.chReady
    let bank := exchAddr ln x
    (s.running ln → early →
      exec (.put ln x sealing) s = holds (.putEarly x sealing (l.putData x)) ∧ exec (.get ln x) s = holds (.getEarly x)) ∧
    (s.running ln → l.phase = .exchange → d.exchCase ln x true = 0 →
      exec (.put ln x sealing) s = holds (.put x sealing (l.putData x) d.now (some d.now) (exchBanks ln x) none)) ∧
    (s.running ln → l.phase = .exchange → d.exchCase ln x false = 0 →
      exec (.get ln x) s = holds (.get x d.now (if d.channelReady ln x = true then some d.now else none) (exchBanks ln x) none)) ∧
    (s.running ln → (l.phase = .commit ∨ l.phase = .closed) →
      (d.exchCase ln x true = 0 → s.answers (exec (.put ln x sealing) s) ended) ∧
      (d.exchCase ln x false = 0 → s.answers (exec (.get ln x) s) ended)) ∧
    (s.running ln → ¬ early →
      (d.exchCase ln x true ≠ 0 → s.answers (exec (.put ln x sealing) s) refused) ∧
      (d.exchCase ln x false ≠ 0 → s.answers (exec (.get ln x) s) refused)) ∧
    (let e := d.putComplete ln x sealing (l.putData x)
     (sealing = true → Store.get (fun _ => none) e.chReady (256 * (ln.val / 4) + x.ch.toNat) = some d.now) ∧
     (sealing = false → e.chReady = d.chReady) ∧ (e.lane ln).mode = .run ∧ (e.lane ln).held = none ∧ e.regs = d.regs ∧ e.legs = d.legs ∧
     (∀ a, a < bank ∨ bank + exchBytes x ≤ a → e.byte a = d.byte a) ∧
     (d.bad = [] → ∀ i < (l.putData x).length, e.loadN (bank + 4 * i) 4 = ((l.putData x).getD i 0).toNat)) ∧
    (∀ since arrived left done, l.held = some (.get x since arrived left (some done)) →
      (d.now < done ∨ d.exchDeadline ln since < done → exec (.getComplete ln) s = .next s) ∧
      (done ≤ d.now → done ≤ d.exchDeadline ln since →
        ((∀ i < (exchBytes x + 7) / 8, d.isBad (bank + 8 * i) = false) → s.answers (exec (.getComplete ln) s) (fun e =>
          (e.lane ln).mode = .run ∧ (e.lane ln).held = none ∧ e.mem = d.mem ∧ e.regs = d.regs ∧
          (x.vec = false → ∀ i ≤ x.n.toNat, ∃ w ∈ (e.lane ln).writes, w.due = d.now + 2 ∧ w.issue = since ∧ w.dst = .g (regPlus x.d i) ∧
            w.val = .word (BitVec.ofNat 32 (d.loadN (bank + 4 * i) 4))) ∧
          (x.vec = true → ∃ w ∈ (e.lane ln).writes, w.due = d.now + 2 ∧ w.issue = since ∧ w.dst = .vec (Fin.ofNat 8 x.d.val) ∧
            w.val = .vec (BitVec.ofNat 128 (d.loadN bank 32)) (BitVec.ofNat 8 (d.loadN bank 32 / 2 ^ 128))))) ∧
        ((∃ i < (exchBytes x + 7) / 8, d.isBad (bank + 8 * i) = true) → s.answers (exec (.getComplete ln) s) (fun e =>
          (e.lane ln).mode = .halted ∧ (e.lane ln).writes = l.writes ∧ e.mem = d.mem)))) ∧
    (∀ since arrived left done, (l.held = some (.get x since arrived left done) ∨
        (∃ data, l.held = some (.put x sealing data since arrived left done))) →
      (d.now < d.exchDeadline ln since → exec (.exchTimeout ln) s = .next s) ∧
      (∀ t, done = some t → t ≤ d.exchDeadline ln since → exec (.exchTimeout ln) s = .next s) ∧
      (d.exchDeadline ln since ≤ d.now → (∀ t, done = some t → d.exchDeadline ln since < t) → s.answers (exec (.exchTimeout ln) s) ended)) ∧
    (l.held = none → exec (.getComplete ln) s = .next s ∧ exec (.exchTimeout ln) s = .next s)

/-- Commits (R17, R18, R62, R100, R101). Before the commit phase COMMIT holds the lane with its command. In it, a command for a leg of a
unit in ENABLING or RUN whose lane set holds the lane enters the leg's next slot unsealed, if it asks for no two channels on at
once and the leg has taken no trip and no commit in this cycle; over a sealed command it raises LEG_OVERRUN. A commit to a leg
without an owner changes nothing, one from outside the lane set is counted and changes no leg, and one to a unit that does not run or to
a leg that trips in the cycle is dropped; one that asks for both channels turns both off (R171), and of two lanes' commits in one
cycle that of the lower block stays (R102). -/
def Obligations.LaneCommit : Prop :=
  ∀ (ln : BlockId) (gd : GReg) (leg : Fin 32) (s : State), s.running ln →
    let d := s.dev
    let l := d.lane ln
    let k := 32 * (ln.val / 4) + leg.val
    let cmd := l.quad gd
    let later := l.phase = .commit ∨ l.phase = .closed
    (¬ later → exec (.commit ln gd leg) s = .next ⟨d.setLane ln { l with mode := .wait, held := some (.commit leg cmd) }, s.pending⟩) ∧
    (later → d.owner k = none → exec (.commit ln gd leg) s = .next s) ∧
    (∀ u, later → d.owner k = some u → ln.val ∉ d.laneSet u → s.answers (exec (.commit ln gd leg) s) (fun e =>
      e.legs = d.legs ∧ e.mem = d.mem ∧ e.units = d.units)) ∧
    (∀ u, later → d.owner k = some u → ln.val ∈ d.laneSet u → ((d.unit u).active = false ∨ (d.leg k).tripAt = some d.now) →
      exec (.commit ln gd leg) s = .next s) ∧
    (∀ u, later → d.owner k = some u → ln.val ∈ d.laneSet u → (d.unit u).active = true → (d.leg k).tripAt ≠ some d.now →
      ((d.leg k).commitAt ≠ d.now + 1 → isCross cmd = true → s.answers (exec (.commit ln gd leg) s) (fun e =>
        (e.leg k).drvH = false ∧ (e.leg k).drvL = false ∧ (e.leg k).next = none ∧ cmdHs (e.leg k).cur = 0 ∧ cmdLs (e.leg k).cur = 0 ∧
        e.mem = d.mem ∧ ∀ j, j ≠ k → e.leg j = d.leg j)) ∧
      ((d.leg k).commitAt = d.now + 1 → (d.leg k).commitBy ≠ ln → isCross cmd = false → s.answers (exec (.commit ln gd leg) s) (fun e =>
        (e.leg k).next = (if ln < (d.leg k).commitBy then some ⟨cmd, false, ln⟩ else (d.leg k).next) ∧ e.mem = d.mem ∧ e.units = d.units ∧
        ∀ j, j ≠ k → e.leg j = d.leg j))) ∧
    (∀ u, later → d.owner k = some u → ln.val ∈ d.laneSet u → (d.unit u).active = true → isCross cmd = false →
      (d.leg k).tripAt ≠ some d.now → (d.leg k).commitAt ≠ d.now + 1 → s.answers (exec (.commit ln gd leg) s) (fun e =>
        (e.leg k).next = some ⟨cmd, false, ln⟩ ∧ (e.leg k).st = (d.leg k).st ∧ (e.leg k).cur = (d.leg k).cur ∧
        (∀ j, j ≠ k → e.leg j = d.leg j) ∧ e.mem = d.mem ∧ e.units = d.units ∧
        ((∀ x, (d.leg k).next = some x → x.isSealed = false) → e = d.setLeg k { d.leg k with
          next := some ⟨cmd, false, ln⟩, commitAt := d.now + 1, commitBy := ln })))

/-- Causes that send a leg to FAULT (R20, R168, R170, R177, R179, R180, R206 to R209, R320). Whatever the leg was doing: after an
activation of the hard comparator by the voltage last told of its input, or an FLT input active for its filter time, both channels of
the leg are off, and from every state but OFF it is in FAULT; after an interlock of the HSL, and after a handshake that was not answered in
time, it is in FAULT with both channels off from any state. The same holds of a trip comparator with clear latching that is enabled and
not blanked. A level that activates neither comparator moves no leg; an FLT level that is inactive, or not yet active for its time, moves
none either. The FLT input of a direct leg does nothing. Memory stays as it was. The clauses on comparators are of thresholds whose DACs
have settled; that the channels stay driven is of a leg that is powered and drives not both. -/
def Obligations.LegFaultEvents : Prop :=
  ∀ (k : LegId) (high level : Bool) (uv : Option Nat) (s : State),
    let d := s.dev
    let l := d.leg k
    let r := k.val / 32
    let i := k.val % 32
    let seen := if uv.isSome then uv else d.pin r (64 + i)
    let still := d.dacSettling r (32 + i) = false ∧ d.dacSettling r i = false
    let hard := compares (d.flag (legReg k) F.LEG_CMP_h_pol) seen (3000 * d.fld (legReg k) F.LEG_HDAC_code)
    let trip := compares (d.flag (legReg k) F.LEG_CMP_t_pol) seen (3000 * d.tripCode k d.now)
    let off := fun (e : Dev) => (e.leg k).drvH = false ∧ (e.leg k).drvL = false ∧ e.mem = d.mem ∧ e.now = d.now
    let faulted := fun (e : Dev) => off e ∧ (e.leg k).st = .fault
    let kept := d.unpowered k = false ∧ (l.drvH && l.drvL) = false
    let rests := fun (e : Dev) => e.mem = d.mem ∧ e.units = d.units ∧ (e.leg k).st = l.st ∧
      (kept → (e.leg k).drvH = l.drvH ∧ (e.leg k).drvL = l.drvL) ∧ ∀ j, j ≠ k.val → e.leg j = d.leg j
    (still → hard = true → l.hSeen = false →
      s.answers (exec (.hardComparatorTrip k uv) s) (fun e => off e ∧ (l.st ≠ .off → (e.leg k).st = .fault))) ∧
    (still → hard = false → trip = false → ∀ c ∈ [Instr.hardComparatorTrip k uv, .tripComparatorTrip k uv, .cycleLimit k uv],
      s.answers (exec c s) rests) ∧
    (isDirect k = false → level = d.flag (legReg k) F.LEG_HS_flt_pol → l.fltSeen = false →
      (l.fltAt.getD d.now + d.fld (legReg k) F.LEG_HS_flt_filt ≤ d.now →
        s.answers (exec (.fltInput k level) s) (fun e => off e ∧ (l.st ≠ .off → (e.leg k).st = .fault))) ∧
      (d.now < l.fltAt.getD d.now + d.fld (legReg k) F.LEG_HS_flt_filt →
        s.answers (exec (.fltInput k level) s) (fun e => rests e ∧ (e.leg k).fltAt = some (l.fltAt.getD d.now) ∧ e.regs = d.regs))) ∧
    (isDirect k = false → level ≠ d.flag (legReg k) F.LEG_HS_flt_pol →
      s.answers (exec (.fltInput k level) s) (fun e => rests e ∧ (e.leg k).fltAt = none ∧ (e.leg k).fltSeen = false ∧ e.regs = d.regs)) ∧
    (isDirect k = true → exec (.fltInput k level) s = .next s) ∧
    s.answers (exec (.hslInterlock k high) s) faulted ∧
    (∀ side, l.want = some side → d.checksOff k side.other = true → d.showsOff k l side.other = false →
      l.offAt side.other + 32 * d.fld (legReg k) F.LEG_HS_timeout ≤ d.stepNow →
      s.answers (exec (.handshakeTimeout k) s) faulted) ∧
    (∀ side, l.want = some side → (d.checksOff k side.other = false ∨ d.showsOff k l side.other = true ∨
      d.stepNow < l.offAt side.other + 32 * d.fld (legReg k) F.LEG_HS_timeout) → exec (.handshakeTimeout k) s = .next s) ∧
    (still → trip = true → d.tripClears k = true → d.flag (legReg k) F.LEG_CMP_t_en = true → d.isBlanked k = false → l.tSeen = false →
      l.st ≠ .off → ¬ (l.hsl = true ∧ l.tripAt = some d.now) → s.answers (exec (.tripComparatorTrip k uv) s) faulted)

/-- A turn-on takes place exactly where its dead time has elapsed, the other channel is off and shown off or not checked, a direct
leg's bootstrap holds, and neither a change of the mode nor a cycle limit holds the channel off; then the channel is driven, the other
stays off and the edge is counted, unless the interval would be too short to be emitted. A leg without a waiting turn-on is left alone; an
observation is noted (R162, R164, R166, R169, R174, R183, R184). -/
def Obligations.LegTurnOn : Prop :=
  ∀ (k : LegId) (n : Fin 32) (side : Side) (high level : Bool) (s : State),
    let d := s.dev
    let l := d.leg k
    let t := d.stepNow + n
    (l.want = some side → d.mayTurnOn k t l side = true → d.tooShort k t l side = false → d.unpowered k = false →
      s.answers (exec (.deadTimeEnd k n) s) (fun e =>
        (e.leg k).drv side = true ∧ (e.leg k).drv side.other = false ∧ (e.leg k).want = none ∧ (e.leg k).st = l.st ∧
        (∀ j, j ≠ k.val → e.leg j = d.leg j) ∧ e.mem = d.mem ∧ e.lanes = d.lanes)) ∧
    (l.want = some side → d.mayTurnOn k t l side = true → d.tooShort k t l side = true → l.drvH = false → l.drvL = false →
      s.answers (exec (.deadTimeEnd k n) s) (fun e => (e.leg k).drv side = false ∧ (e.leg k).want = none ∧ e.regs = d.regs)) ∧
    ((∀ side, l.want = some side → d.mayTurnOn k t l side = false) → s.answers (exec (.deadTimeEnd k n) s) (fun e => e.legs = d.legs)) ∧
    (d.mayTurnOn k t l side = true ↔
      l.drv side.other = false ∧ d.deadTime k side ≤ t - l.offAt side.other ∧
      (d.showsOff k l side.other = true ∨ d.checksOff k side.other = false) ∧
      (side = .high → isDirect k = true → d.flag (legReg k) F.LEG_DIRECT_boot_ok = true) ∧
      l.modeHeld t = false ∧ ¬ (l.cycleHeld = true ∧ d.controlSide k = side)) ∧
    s.answers (exec (.fbObserved k high level n) s) (fun e =>
      (if high then (e.leg k).fbH = level else (e.leg k).fbL = level) ∧ (e.leg k).st = l.st ∧ (∀ j, j ≠ k.val → e.leg j = d.leg j) ∧ e.mem = d.mem)

/-- Turn-offs and settling of a leg (R162, R177, R178, R182, R183, R207, R208, R215, R216, R552). A cycle limit outside blanking ends the
on-interval of the control channel for the period; the end of blanking with inactive outputs only ends it; an active raw output of the
mapped comparator turns the low side of a diode-emulating leg off; at the end of the soft path both channels are off, SOFT is released
and the leg settles; a settled leg enters OFF, and one whose channel has not shown off in time enters FAULT; a failing bootstrap turns a
direct leg's high side off. Before its time or outside its state each does nothing. The clauses on comparators are of thresholds whose
DACs have settled. -/
def Obligations.LegTurnOff : Prop :=
  ∀ (k : LegId) (uv : Option Nat) (ok : Bool) (s : State),
    let d := s.dev
    let l := d.leg k
    let r := k.val / 32
    let i := k.val % 32
    let side := d.controlSide k
    let sees := fun (v : Option Nat) => compares (d.flag (legReg k) F.LEG_CMP_t_pol) v (3000 * d.tripCode k d.now)
    let hard := fun (v : Option Nat) => compares (d.flag (legReg k) F.LEG_CMP_h_pol) v (3000 * d.fld (legReg k) F.LEG_HDAC_code)
    let seen := if uv.isSome then uv else d.pin r (64 + i)
    let still := d.dacSettling r (32 + i) = false ∧ d.dacSettling r i = false
    let zcd := rgnReg r + 4 * i
    let z := d.seeWindow r (d.fld zcd F.RGN_ZCD_win) uv
    let others := fun (e : Dev) => e.mem = d.mem ∧ ∀ j, j ≠ k.val → e.leg j = d.leg j
    (still → hard seen = false → sees seen = true → d.tripClears k = false → d.isBlanked k = false →
      d.flag (legReg k) F.LEG_CMP_t_en = true → l.drv side = true → l.cycleHeld = false →
      s.answers (exec (.cycleLimit k uv) s) (fun e => (e.leg k).cycleHeld = true ∧ (e.leg k).limitAt = d.stepNow ∧
        (e.leg k).drv side = false ∧ (e.leg k).st = l.st ∧ others e)) ∧
    (l.blanking = true → l.blankEnd ≤ d.now → still → hard (d.pin r (64 + i)) = false → sees (d.pin r (64 + i)) = false →
      s.answers (exec (.blankingEnd k) s) (fun e => (e.leg k).blanking = false ∧ (e.leg k).st = l.st ∧
        (d.unpowered k = false → (l.drvH && l.drvL) = false → (e.leg k).drvH = l.drvH ∧ (e.leg k).drvL = l.drvL) ∧ e.regs = d.regs ∧ others e)) ∧
    (l.blanking = true → l.blankEnd ≤ d.now → exec (.blankingEnd k) s = .next ⟨(d.setLeg k { l with blanking := false }).compareLeg k, s.pending⟩) ∧
    (l.blanking = false ∨ d.now < l.blankEnd → exec (.blankingEnd k) s = .next s) ∧
    (l.st = .run → cmdLs l.cur = 3 → d.flag zcd F.RGN_ZCD_en = true → l.drvL = true → l.drvH = false →
      l.onAtL + 160 * d.fld zcd F.RGN_ZCD_blank ≤ d.stepNow → z.raw r (d.fld zcd F.RGN_ZCD_win) = true →
      s.answers (exec (.zeroCurrentDetect k uv) s) (fun e => (e.leg k).drvL = false ∧ (e.leg k).drvH = false ∧ (e.leg k).zcdHeld = some false ∧
        (e.leg k).offAtL = d.stepNow ∧ e.regs = d.regs ∧ others e)) ∧
    (z.zcdDue k = false → s.answers (exec (.zeroCurrentDetect k uv) s) (fun e => e.legs = d.legs ∧ e.regs = d.regs ∧ e.mem = d.mem)) ∧
    (l.st = .softOff → l.softAt + d.softTime k ≤ d.now →
      s.answers (exec (.softOffEnd k) s) (fun e => (e.leg k).st = .settle ∧ (e.leg k).drvH = false ∧ (e.leg k).drvL = false ∧
        (e.leg k).soft = false ∧ (e.leg k).settleAt = d.now ∧ e.regs = d.regs ∧ others e)) ∧
    (l.st ≠ .softOff ∨ d.now < l.softAt + d.softTime k → exec (.softOffEnd k) s = .next s) ∧
    (l.st = .settle → d.settled k = true →
      s.answers (exec (.offSettleEnd k) s) (fun e => (e.leg k).st = .off ∧ e.regs = d.regs ∧ others e)) ∧
    (∀ sd, l.st = .settle → d.settled k = false → d.checksOff k sd = true → d.showsOff k l sd = false →
      l.settleAt + d.fld (legReg k) F.LEG_HS_timeout ≤ d.now →
      s.answers (exec (.offSettleEnd k) s) (fun e => (e.leg k).st = .fault ∧ (e.leg k).drvH = false ∧ (e.leg k).drvL = false ∧ e.mem = d.mem)) ∧
    (l.st ≠ .settle → exec (.offSettleEnd k) s = .next s) ∧
    (isDirect k = true → d.flag (legReg k) F.LEG_DIRECT_boot_ok = true →
      s.answers (exec (.bootstrapChange k false) s) (fun e => (e.leg k).drvH = false ∧ (e.leg k).st = l.st ∧ others e ∧
        e.flag (legReg k) F.LEG_DIRECT_boot_ok = false)) ∧
    (isDirect k = true → d.flag (legReg k) F.LEG_DIRECT_boot_ok = false →
      s.answers (exec (.bootstrapChange k true) s) (fun e => (e.leg k).st = l.st ∧ others e ∧ e.flag (legReg k) F.LEG_DIRECT_boot_ok = true)) ∧
    (isDirect k = false ∨ d.flag (legReg k) F.LEG_DIRECT_boot_ok = ok → exec (.bootstrapChange k ok) s = .next s)

/-- The carrier (R156 to R158, R160 to R163, R174, R177). At a valley the counter restarts at that step, a cycle limit of the period is over,
and, where the leg updates at valleys, a sealed command becomes the current one, which moves an ARMED leg to RUN; at a peak the
period's peak has been; at an edge the request of a running leg is that of its current command. Where none of them is due, nothing
happens. -/
def Obligations.Carrier : Prop :=
  ∀ (k : LegId) (n : Fin 32) (s : State),
    let d := s.dev
    let l := d.leg k
    (∀ z, d.valleyDue k (d.stepNow + n) = some z → s.answers (exec (.carrierValley k n) s) (fun e =>
      (e.leg k).zeroAt = z ∧ (e.leg k).peakDone = false ∧ (e.leg k).restart = l.restart.filter (fun t => decide (z < t)) ∧ e.now = d.now ∧
      (∀ a, (∀ b, a < intakeBase b ∨ intakeBase b + 0x200 ≤ a) → e.byte a = d.byte a) ∧ (∀ j, j ≠ k.val → (d.leg j).st ≠ .off → (e.leg j).zeroAt = (d.leg j).zeroAt))) ∧
    (d.valleyDue k (d.stepNow + n) = none → exec (.carrierValley k n) s = .next s) ∧
    (d.counterRuns k = true → l.peakDone = false → l.evFrom ≤ d.now → l.zeroAt + (d.legPeriod k / 2 : Nat) ≤ (d.stepNow + n : Nat) →
      s.answers (exec (.carrierPeak k n) s) (fun e => (e.leg k).peakDone = true ∧ (e.leg k).zeroAt = l.zeroAt ∧ e.mem = d.mem ∧ e.now = d.now)) ∧
    (d.counterRuns k = false ∨ l.peakDone = true ∨ d.now < l.evFrom ∨ (d.stepNow + n : Nat) < l.zeroAt + (d.legPeriod k / 2 : Nat) →
      exec (.carrierPeak k n) s = .next s) ∧
    (l.st = .run → s.answers (exec (.requestEdge k n) s) (fun e =>
      (e.leg k).req = (l.modeHold.isNone && d.requestOf k (d.stepNow + n)) ∧ (e.leg k).st = .run ∧ (e.leg k).cur = l.cur ∧ e.mem = d.mem ∧
      ∀ j, j ≠ k.val → e.leg j = d.leg j)) ∧
    (l.st ≠ .run → exec (.requestEdge k n) s = .next s) ∧
    (∀ x, l.next = some x → x.isSealed = true → (l.st = .armed ∨ l.st = .run) →
      ((d.updateEvent k (d.stepNow + n)).leg k).cur = x.cmd ∧ ((d.updateEvent k (d.stepNow + n)).leg k).next = none ∧
      ((d.updateEvent k (d.stepNow + n)).leg k).st = .run)

/-- Host writes of a leg (R14 to R16, R165, R167, R174, R180, R186). LEG_MINON takes the write field by field and nothing else happens;
LEG_HS takes it and then the FLT input is judged by it, LEG_DT and HSL_DTFLOOR take it, and after each a waiting turn-on is tried;
LEG_PERIOD and LEG_PHASE take it, and a period or an offset that does not change leaves the counter alone; a write moves no leg but
its own, and that only to FAULT; LEG_GUARD takes it in OFF from a privileged master and is refused with
LEG_CFG_REFUSED in any other state; a byte of LEG_OWN changes only for a leg in OFF between DISABLED units. -/
def Obligations.LegWrites : Prop :=
  ∀ (m : Master) (k : LegId) (u : UnitId) (r : RegionId) (n : Fin 8) (v : Word) (s : State),
    let d := s.dev
    let does := fun (e : Dev) => Host.Outcome.next (State.mk e s.pending)
    exec (.legHostWrite m k .hs v) s = does ((((d.plainWrite m (legReg k + 0x10) v).fltCheck k).tryAfterWrite k).checkOwner k) ∧
    exec (.legHostWrite m k .minon v) s = does (d.plainWrite m (legReg k + 0x14) v) ∧
    exec (.legHostWrite m k .dt v) s = does (((d.plainWrite m (legReg k + 0xC) v).tryAfterWrite k).checkOwner k) ∧
    (d.legPeriod k = (d.plainWrite m (legReg k + 4) v).legPeriod k →
      exec (.legHostWrite m k .period v) s = does (d.plainWrite m (legReg k + 4) v)) ∧
    (d.fld (legReg k) F.LEG_PHASE_offset = (d.plainWrite m (legReg k + 8) v).fld (legReg k) F.LEG_PHASE_offset →
      exec (.legHostWrite m k .phase v) s = does (d.plainWrite m (legReg k + 8) v)) ∧
    (∀ reg : LegCfgReg, s.answers (exec (.legHostWrite m k reg v) s) (fun e => e.mem = d.mem ∧ e.now = d.now ∧
      (∀ j, j ≠ k.val → e.leg j = d.leg j) ∧ ((e.leg k).st = (d.leg k).st ∨ (e.leg k).st = .fault))) ∧
    (masterPriv m = true → (d.leg k).st = .off → exec (.legGuardWrite m k v) s = does (d.plainWrite m (legReg k + 0x44) v)) ∧
    (masterPriv m = true → (d.leg k).st ≠ .off → s.answers (exec (.legGuardWrite m k v) s) (fun e =>
      e = d.raise Ev.LEG_CFG_REFUSED (scopeBlk (k / 8)) 0 ∧ e.reg (legReg k + 0x44) = d.reg (legReg k + 0x44) ∧ e.legs = d.legs)) ∧
    (masterPriv m = false → s.answers (exec (.legGuardWrite m k v) s) (fun e =>
      e.reg (legReg k + 0x44) = d.reg (legReg k + 0x44) ∧ e.legs = d.legs)) ∧
    s.answers (exec (.hslDtfloorWrite m u v) s) (fun e =>
      e = (d.plainWrite m (0x40020100 + 4 * u) v).each ((d.plainWrite m (0x40020100 + 4 * u) v).unitLegs u)
        (fun k d => (d.tryAfterWrite k).checkOwner k) ∧ e.mem = d.mem) ∧
    s.answers (exec (.legOwnWrite m r n v) s) (fun e => e.mem = d.mem ∧ e.legs = d.legs ∧ e.units = d.units ∧
      ∀ j : Fin 4, (d.leg (32 * r + 4 * n + j)).st ≠ .off → e.ownByte (32 * r + 4 * n + j) = d.ownByte (32 * r + 4 * n + j))

/-- Requests of a unit (R243, R331 to R334, R336, R337). An enable without an obstacle is accepted of a DISABLED unit, and in the next lane
cycle a unit that no HSL action acts on goes to ENABLING with its legs in OFF to ARMED; an obstacle leaves unit and legs as they are and
counts the refusal, as does every other state but ENABLING and RUN, in which nothing happens. A disable of a unit in ENABLING or RUN
takes it out of them with soft-off where it holds a slot and immediate off otherwise. An ASC exit releases legs of SAFE_HOLD,
LOCKED_OUT and DISABLED step by step. A release in DISABLED sends every leg in FAULT whose cause reads 0 to OFF_SETTLE. A write of one
bit of UNIT_CTRL is the request of that bit. A write for a unit of another region does nothing. -/
def Obligations.UnitRequests : Prop :=
  ∀ (m : Master) (r : RegionId) (u : UnitId) (v : Word) (s : State),
    let d := s.dev
    let x := d.unit u
    let g := if d.isGuarded r u then d.setFld (wgBase r u) F.WG_STAT_infeasible (flagBit (d.guardInfeasible r u)) else d
    let refuses := fun (y : Dev) (ev : Nat) (e : Dev) => e.units = d.units ∧ e.legs = d.legs ∧
      e = (y.bump (unitBase u) F.UNIT_CNT_refused).raise ev (scopeRgn r) u
    let quiet := x.st = .hold ∨ x.st = .locked ∨ x.st = .disabled
    (d.unitHere r u = false → exec (.unitEnable m r u v) s = .next s ∧ exec (.unitDisable m r u) s = .next s ∧
      exec (.ascExit m r u) s = .next s ∧ exec (.unitRelease m r u) s = .next s) ∧
    exec (.unitEnable m r u 2) s = exec (.unitDisable m r u) s ∧ exec (.unitEnable m r u 4) s = exec (.ascExit m r u) s ∧
    exec (.unitEnable m r u 8) s = exec (.unitRelease m r u) s ∧ exec (.unitEnable m r u 0) s = .next s ∧
    (x.st = .disabled → d.hslActs u = false → d.flag 0 F.HSL_OV3STAT_active = false →
      let e := d.acceptEnable u
      ((e.unit u).st = .enabling ∨ (e.unit u).st = .run) ∧ (e.unit u).accepted = false ∧ e.mem = d.mem ∧
      (∀ b, (e.lane b).mode = (d.lane b).mode) ∧ (∀ v, v ≠ u.val → e.unit v = d.unit v) ∧
      ∀ k, d.owner k = some u.val → k < 128 → (d.leg k).st = .off → (e.leg k).st = .armed) ∧
    (d.unitHere r u = true →
      (x.st = .disabled → g.enableRefusal r u = none →
        exec (.unitEnable m r u 1) s = .next ⟨g.setUnit u { x with accepted := true }, s.pending⟩) ∧
      (∀ ev, x.st = .disabled → g.enableRefusal r u = some ev → s.answers (exec (.unitEnable m r u 1) s) (refuses g ev)) ∧
      (x.st = .shutting ∨ x.st = .settle ∨ x.st = .hold → s.answers (exec (.unitEnable m r u 1) s) (refuses d Ev.ENABLE_REFUSED_BUSY)) ∧
      (x.st = .locked → s.answers (exec (.unitEnable m r u 1) s) (refuses d Ev.ENABLE_REFUSED_LOCKED)) ∧
      (x.active = true → exec (.unitEnable m r u 1) s = .next s) ∧
      (x.active = true → s.answers (exec (.unitDisable m r u) s) (fun e =>
        (e.unit u).active = false ∧ (e.unit u).decided = true ∧ (e.unit u).window = none ∧
        ((e.unit u).st ≠ .settle → (e.unit u).action = if d.holdsSlot u then .soft else .off) ∧
        (∀ v, v ≠ u.val → e.unit v = d.unit v) ∧ e.mem = d.mem)) ∧
      (x.active = false → exec (.unitDisable m r u) s = .next s) ∧
      (quiet → d.hslActs u = false → x.exiting = false → s.answers (exec (.ascExit m r u) s) (fun e =>
        ((e.unit u).exiting = true ∨ (e.unit u).st = (if x.st = .disabled then .disabled else .settle)) ∧ e.mem = d.mem ∧
        (∀ v, v ≠ u.val → e.unit v = d.unit v) ∧
        (d.fld (4 * u) F.HSL_SAFE_asc_step = 0 → ∀ k, d.owner k = some u.val → k < 128 → ((d.leg k).st = .ascHigh ∨ (d.leg k).st = .ascLow) →
          (e.leg k).st = .settle ∧ (e.leg k).drvH = false ∧ (e.leg k).drvL = false))) ∧
      (quiet → d.hslActs u = false → x.exiting = true → exec (.ascExit m r u) s = .next s) ∧
      (quiet → d.hslActs u = true → s.answers (exec (.ascExit m r u) s) (fun e =>
        e = d.raise Ev.ASC_EXIT_REFUSED (scopeRgn r) u ∧ e.legs = d.legs ∧ e.units = d.units)) ∧
      (¬ quiet → exec (.ascExit m r u) s = .next s) ∧
      (x.st = .disabled → s.answers (exec (.unitRelease m r u) s) (fun e => e.units = d.units ∧ e.regs = d.regs ∧ ∀ k, k < 128 →
        d.owner k = some u.val → (d.leg k).st = .fault → d.fld (legReg k) F.LEG_FAULT_cause = 0 → (e.leg k).st = .settle)) ∧
      (x.st ≠ .disabled → s.answers (exec (.unitRelease m r u) s) (fun e =>
        e = d.raise Ev.UNIT_CFG_REFUSED (scopeRgn r) 0 ∧ e.legs = d.legs ∧ e.units = d.units)))

/-- Timers of a unit (R324, R331, R334, R335). The attribution window ends with the decision of its sides; en_to ticks in ENABLING end with
immediate off; after the quiet time the unit is DISABLED, or LOCKED_OUT with lock_pend; a step of an ASC exit releases the next leg. Before
its time, or without it, each does nothing. -/
def Obligations.UnitTimers : Prop :=
  ∀ (u : UnitId) (s : State),
    let d := s.dev
    let x := d.unit u
    (∀ t, x.window = some t → t ≤ d.now → s.answers (exec (.attributionWindowEnd u) s) (fun e =>
      (e.unit u).window = none ∧ (e.unit u).decided = true ∧ (e.unit u).action = d.pattern u ∧ (e.unit u).deciding = true ∧
      (∀ v, v ≠ u.val → e.unit v = d.unit v) ∧ e.legs = d.legs ∧ e.mem = d.mem ∧ e.regs = d.regs)) ∧
    (∀ t, x.window = some t → d.now < t → exec (.attributionWindowEnd u) s = .next s) ∧
    (x.window = none → exec (.attributionWindowEnd u) s = .next s) ∧
    (x.st = .enabling → d.fld (unitBase u) F.UNIT_CFG_en_to ≤ x.enTicks → s.answers (exec (.enablingTimeout u) s) (fun e =>
      (e.unit u).active = false ∧ (e.unit u).decided = true ∧ e.mem = d.mem)) ∧
    (x.st ≠ .enabling ∨ x.enTicks < d.fld (unitBase u) F.UNIT_CFG_en_to → exec (.enablingTimeout u) s = .next s) ∧
    (x.st = .settle → x.settleAt + d.fld (unitBase u) F.UNIT_CFG_quiet * 800 ≤ d.now → s.answers (exec (.quietTimeEnd u) s) (fun e =>
      (e.unit u).st = (if x.lockPend then .locked else .disabled) ∧ e.mem = d.mem ∧ e.regs = d.regs)) ∧
    (x.st ≠ .settle ∨ d.now < x.settleAt + d.fld (unitBase u) F.UNIT_CFG_quiet * 800 → exec (.quietTimeEnd u) s = .next s) ∧
    (∀ k rest, x.exiting = true → x.exitLegs = k :: rest → x.exitAt ≤ d.now → s.answers (exec (.ascExitStep u) s) (fun e =>
      ((d.leg k).st = .ascHigh ∨ (d.leg k).st = .ascLow → (e.leg k).st = .settle ∧ (e.leg k).drvH = false ∧ (e.leg k).drvL = false) ∧
      e.mem = d.mem)) ∧
    (x.exiting = false ∨ x.exitLegs = [] ∨ d.now < x.exitAt → exec (.ascExitStep u) s = .next s)

/-- Protected registers of a unit (R329, R335, R339, R342). In DISABLED a write of HSL_SAFEu or UNIT_CFG and a write of a soft-off slot that
names no unit twice are taken field by field; outside DISABLED UNIT_CFG is refused and HSL_SAFEu keeps kind, asc_high and t1, and a slot is not given to such a unit; from a
master that is not privileged HSL_SAFEu and a slot change nothing. An unlock of a LOCKED_OUT unit with every leg at rest, outside
lock-out, makes it DISABLED; of a unit that is not LOCKED_OUT it is refused. -/
def Obligations.UnitProtected : Prop :=
  ∀ (m : Master) (r : RegionId) (u : UnitId) (n : Fin 4) (v : Word) (s : State),
    let d := s.dev
    let does := fun (e : Dev) => Host.Outcome.next (State.mk e s.pending)
    let a := 0x40020400 + 4 * u.val
    (masterPriv m = true → v.getLsbD 3 = false → (d.unit u).st = .disabled →
      exec (.hslSafeWrite m u v) s = does (d.plainWrite m a v)) ∧
    (masterPriv m = true → v.getLsbD 3 = false → (d.unit u).st ≠ .disabled → s.answers (exec (.hslSafeWrite m u v) s) (fun e =>
      bitsOf (e.reg a).toNat 0 3 = bitsOf (d.reg a).toNat 0 3 ∧ bitsOf (e.reg a).toNat 4 12 = bitsOf (d.reg a).toNat 4 12 ∧ e.units = d.units)) ∧
    (masterPriv m = false → s.answers (exec (.hslSafeWrite m u v) s) (fun e => e.reg a = d.reg a ∧ e.units = d.units)) ∧
    (masterPriv m = true → v.getLsbD 3 = true → (d.unit u).st = .locked → d.flag 0 F.HSL_STAT_lockout = false →
      (∀ k, d.owner k = some u.val → (d.leg k).atRest = true) → s.answers (exec (.hslSafeUnlock m u v) s) (fun e =>
        (e.unit u).st = .disabled ∧ (e.unit u).lockPend = false ∧ e.mem = d.mem)) ∧
    exec (.hslSafeUnlock m u v) s = exec (.hslSafeWrite m u v) s ∧
    (masterPriv m = true → ((d.unit u).st ≠ .locked ∨ d.flag 0 F.HSL_STAT_lockout = true) →
      s.answers (exec (.hslSafeUnlock m u v) s) (fun e => e.units = d.units ∧ e.legs = d.legs ∧ e.mem = d.mem)) ∧
    (masterPriv m = true → v.getLsbD 7 = true → (d.unit (v.toNat % 32)).st ≠ .disabled → d.reg (0x40020500 + 4 * n) = 0 →
      exec (.hslSoftslotWrite m n v) s = does (d.raise Ev.SAFE_CFG_REFUSED scopeChip 0)) ∧
    (masterPriv m = true → (d.unit (v.toNat % 32)).st = .disabled →
      (∀ i < 4, i ≠ n.val → d.flag (4 * i) F.HSL_SOFTSLOT_valid = false) → d.reg (0x40020500 + 4 * n) = 0 →
      exec (.hslSoftslotWrite m n v) s = does (d.plainWrite m (0x40020500 + 4 * n) v)) ∧
    (masterPriv m = false → s.answers (exec (.hslSoftslotWrite m n v) s) (fun e =>
      e.reg (0x40020500 + 4 * n) = d.reg (0x40020500 + 4 * n))) ∧
    (d.unitHere r u = true → (d.unit u).st = .disabled → (∀ k < 8, d.sfBad k = true) →
      exec (.unitCfgWrite m r u v) s = does (d.plainWrite m (unitReg u) v)) ∧
    (d.unitHere r u = true → (d.unit u).st = .disabled → s.answers (exec (.unitCfgWrite m r u v) s) (fun e =>
      e = d.plainWrite m (unitReg u) v ∨ e = d.raise Ev.SF_CFG_REFUSED scopeChip 0)) ∧
    (d.unitHere r u = true → (d.unit u).st ≠ .disabled → s.answers (exec (.unitCfgWrite m r u v) s) (fun e =>
      e.reg (unitReg u) = d.reg (unitReg u) ∧ e.units = d.units))

/-- A unit fault (R103, R324, R325, R327, R331, R335): from ENABLING or RUN the unit leaves them with its configured kind as the standing
decision and no open window; after a decision it is counted and latched only. UNIT_CAUSE holds the bit, a leg in FAULT stays there, and
no memory, converter or program changes.
A block fault halts its lane, latches its bit in BLK_CAUSE and notes it there as the first where none was latched; a unit that owns no leg
in the block, and another block's lane, keep running; a chip fault sets lock-out and leaves every unit LOCKED_OUT, and a leg in FAULT there, but for one that
a comparator alone put into it in this lane cycle (R20, R35, R36, R38, R331). -/
def Obligations.FaultReactions : Prop :=
  (∀ (d : Dev) (u : UnitId) (bit : Nat), bit < 8 →
      let e := d.unitFault u bit
      bitOf (e.reg (unitReg u + 0x0C)).toNat bit = true ∧ e.mem = d.mem ∧ e.seqs = d.seqs ∧ e.progs = d.progs ∧ e.now = d.now ∧
      (∀ k, (d.leg k).st = .fault → (e.leg k).st = .fault) ∧ (∀ v, v ≠ u.val → e.unit v = d.unit v) ∧
      ((d.unit u).active = true → (e.unit u).active = false ∧ (e.unit u).decided = true ∧ (e.unit u).window = none ∧
        ((e.unit u).st ≠ .settle → (e.unit u).action = d.kindAction u) ∧ (e.unit u).faultAt.head? = some d.now) ∧
      ((d.unit u).active = false → e.legs = d.legs ∧ (e.unit u).st = (d.unit u).st ∧ (e.unit u).action = (d.unit u).action)) ∧
  (∀ (d : Dev) (b : BlockId) (bit : Nat), bit < 8 →
      let e := d.blockFault b bit
      let c := d.chipFault bit
      (e.lane b).mode = .halted ∧ (∀ a, a ≠ b.val → (e.lane a).mode = (d.lane a).mode ∧ (e.lane a).g = (d.lane a).g) ∧
      bitOf (e.reg (blkReg b + 0x40)).toNat bit = true ∧
      (bitOf (d.reg (blkReg b + 0x40)).toNat 15 = false → bitsOf (e.reg (blkReg b + 0x40)).toNat 8 3 = bit ∧
        bitOf (e.reg (blkReg b + 0x40)).toNat 15 = true ∧ e.reg (blkReg b + 0x44) = d.ns.setWidth 32) ∧
      (∀ u, u ∉ d.blockUnits b → e.unit u = d.unit u) ∧ e.mem = d.mem ∧
      c.flag 0 F.HSL_STAT_lockout = true ∧ bitOf (c.reg 0x40020040).toNat bit = true ∧ c.mem = d.mem ∧
      (∀ u < 32, (c.unit u).st = .locked ∧ (c.unit u).lockPend = true) ∧ (∀ k, (d.leg k).st = .fault → (d.leg k).compAt ≠ some d.now → (c.leg k).st = .fault))

/-- The frame tick (R55, R56, R68). The tick that is due is emitted: the next one comes P later, at most one correction off. A pending
apply puts the timing registers in force at the tick where every lane fits, and the next tick comes after the new period (the model's reading,
log entry 91); else it is dropped and the timing stays. A tick that is not due does nothing. -/
def Obligations.FrameTick : Prop :=
  ∀ s : State,
    let d := s.dev
    let due := d.trl.nextStep ≤ d.stepNow + 31
    let new := (d.setFld 0 F.TRL_STATUS_apply_pending 0).takeTiming
    let kept := fun (e : Dev) => e.trl.tickStep = d.trl.nextStep ∧ e.mem = d.mem ∧ e.legs = d.legs ∧ e.net = d.net
    let near := fun (x e : Dev) => d.trl.nextStep + 32 * x.tickCycles ≤ e.trl.nextStep + x.tickCorrection ∧
      e.trl.nextStep ≤ d.trl.nextStep + 32 * x.tickCycles + x.tickCorrection
    (due → d.flag 0 F.TRL_STATUS_apply_pending = false → s.answers (exec .frameTick s) (fun e => kept e ∧ e.inforce = d.inforce ∧ near d e)) ∧
    (due → d.flag 0 F.TRL_STATUS_apply_pending = true → (∀ b < 16, new.laneFits b = true) → s.answers (exec .frameTick s) (fun e =>
      kept e ∧ near new e ∧ e.trl.appliedStep = some d.trl.nextStep ∧
      e.flag 0 F.TRL_STATUS_apply_pending = false ∧ ∀ a ∈ timingRegs, Store.get resetWord e.inforce a = d.reg a)) ∧
    (due → d.flag 0 F.TRL_STATUS_apply_pending = true → (∃ b < 16, new.laneFits b = false) → s.answers (exec .frameTick s) (fun e =>
      kept e ∧ near d e ∧ e.inforce = d.inforce ∧ e.flag 0 F.TRL_STATUS_apply_pending = false)) ∧
    (d.stepNow + 31 < d.trl.nextStep → exec .frameTick s = .next s)

/-- The phases of a sub-tick (R58, R60, R62, R86, R195). A sub-tick starts in the intake phase and clears the fresh bits of the intake buffer,
but for words written in its lane cycle; the compute boundary starts a lane in DONE that has a worst case at its entry; the exchange and the
commit boundary follow, and release a lane that waits for them; a lane of reference programs completes at its commit boundary. Before its time each does
nothing. Of a lane without a reference program the legs stay. -/
def Obligations.SubTickPhases : Prop :=
  ∀ (b : BlockId) (s : State),
    let d := s.dev
    let l := d.lane b
    (∀ j start, d.nextSub b = some (j, start) → start ≤ d.stepNow + 31 → s.answers (exec (.subTickStart b) s) (fun e =>
      (e.lane b).phase = .intake ∧ (e.lane b).subTick = j ∧ (e.lane b).tickOf = some d.trl.tickStep ∧
      (e.lane b).subStart = start / 32 ∧ (e.lane b).mode = l.mode ∧
      (∀ w < 96, (Store.get (fun _ => (0, 0)) d.intakeOld (intakeBase b + 4 * w)).1 ≠ d.now + 1 →
        bitOf (e.loadN (intakeBase b + 4 * w) 4) 16 = false) ∧
      ∀ a, (a < intakeBase b ∨ intakeBase b + 0x294 ≤ a) → e.byte a = d.byte a)) ∧
    (d.nextSub b = none → exec (.subTickStart b) s = .next s) ∧
    (∀ j start, d.nextSub b = some (j, start) → d.stepNow + 31 < start → exec (.subTickStart b) s = .next s) ∧
    (l.phase = .intake → d.boundaryAt b F.RGN_PHASE0_compute ≤ d.now → d.isRef b = false →
      s.answers (exec (.computeBoundary b) s) (fun e => (e.lane b).phase = .compute ∧ e.mem = d.mem ∧ e.legs = d.legs ∧
        (l.mode = .done → d.laneWcet b ≠ 0 →
          (e.lane b).mode = .run ∧ (e.lane b).pc = d.laneEntry b ∧ (e.lane b).nextAt = d.now ∧ (e.lane b).completed = false) ∧
        (l.mode ≠ .done → (e.lane b).mode = l.mode ∧ (e.lane b).pc = l.pc))) ∧
    (l.phase = .intake → d.boundaryAt b F.RGN_PHASE0_compute ≤ d.now → s.answers (exec (.computeBoundary b) s) (fun e =>
      (e.lane b).phase = .compute ∧ (e.lane b).computeAt = d.boundaryAt b F.RGN_PHASE0_compute)) ∧
    (l.phase ≠ .intake ∨ d.now < d.boundaryAt b F.RGN_PHASE0_compute → exec (.computeBoundary b) s = .next s) ∧
    (l.phase ≠ .compute ∨ d.now < d.boundaryAt b F.RGN_PHASE0_exchange → exec (.phaseBoundary b false) s = .next s) ∧
    (l.phase ≠ .exchange ∨ d.now < d.boundaryAt b F.RGN_PHASE1_commit → exec (.phaseBoundary b true) s = .next s) ∧
    (l.phase = .exchange → d.boundaryAt b F.RGN_PHASE1_commit ≤ d.now → d.isRef b = true → l.mode = .run → l.held = none →
      s.answers (exec (.phaseBoundary b true) s) (fun e => (e.lane b).phase = .commit ∧ (e.lane b).mode = .done ∧ (e.lane b).completed = true)) ∧
    (l.phase = .compute → d.boundaryAt b F.RGN_PHASE0_exchange ≤ d.now →
      s.answers (exec (.phaseBoundary b false) s) (fun e => (e.lane b).phase = .exchange ∧
        (l.held = none → e.legs = d.legs ∧ e.mem = d.mem ∧ (e.lane b).mode = l.mode ∧ e.regs = d.regs) ∧
        (l.held = some (.phase .exchange) →
          (e.lane b).mode = .run ∧ (e.lane b).held = none ∧ e.legs = d.legs ∧ e.mem = d.mem ∧ e.regs = d.regs))) ∧
    (l.phase = .exchange → d.boundaryAt b F.RGN_PHASE1_commit ≤ d.now → d.isRef b = false →
      s.answers (exec (.phaseBoundary b true) s) (fun e => (e.lane b).phase = .commit ∧ e.mem = d.mem ∧
        (l.held = none → e.legs = d.legs ∧ (e.lane b).mode = l.mode ∧ e.regs = d.regs) ∧
        (l.held = some (.phase .commit) → (e.lane b).mode = .run ∧ (e.lane b).held = none ∧ e.legs = d.legs ∧ e.regs = d.regs)))

/-- The commit point (R60, R63, R65, R66). Where no unit of the block is complete with this lane and no memory word is bad: a lane that has completed
closes with its commands sealed and the overrun mark cleared; a lane that has not is counted as overrun, its commands are withdrawn and it
returns to its entry; a halted lane's commands are withdrawn. Commands of other lanes stay as they are. A later overrun in a row halts the lane. -/
def Obligations.CommitPoint : Prop :=
  ∀ (b : BlockId) (s : State),
    let d := s.dev
    let l := d.lane b
    let open_ := ∀ u ∈ d.blockUnits b, ∃ c ∈ d.laneSet u, c ≠ b.val ∧ (d.lane c).phase ≠ .closed
    let mine := fun (k : Nat) (x : NextCmd) => k / 32 = b.val / 4 ∧ k < 128 ∧ x.lane = b ∧ x.isSealed = false
    let others := fun (e : Dev) => ∀ k x, (d.leg k).next = some x → ¬ mine k x → (e.leg k).next = some x
    (l.phase ≠ .commit ∨ d.now < d.boundaryAt b F.RGN_PHASE1_commit_point → exec (.commitPoint b) s = .next s) ∧
    (l.phase = .commit → d.boundaryAt b F.RGN_PHASE1_commit_point ≤ d.now →
      s.answers (exec (.commitPoint b) s) (fun e => (e.lane b).phase = .closed ∧ e.now = d.now)) ∧
    (l.phase = .commit → d.boundaryAt b F.RGN_PHASE1_commit_point ≤ d.now → open_ → d.bad = [] →
      (l.mode ≠ .halted → l.completed = true → s.answers (exec (.commitPoint b) s) (fun e =>
        (e.lane b).phase = .closed ∧ (e.lane b).overrunLast = false ∧ (e.lane b).mode = l.mode ∧ e.mem = d.mem ∧ others e ∧
        e.fld (blkReg b) F.BLK_OVR_last = 0 ∧
        ∀ k x, (d.leg k).next = some x → mine k x → (e.leg k).next = some { x with isSealed := true })) ∧
      (l.mode ≠ .halted → l.completed = false → l.overrunLast = false → s.answers (exec (.commitPoint b) s) (fun e =>
        (e.lane b).phase = .closed ∧ (e.lane b).overrunLast = true ∧ (e.lane b).mode = .done ∧ e.mem = d.mem ∧ others e ∧
        e.fld (blkReg b) F.BLK_OVR_count = satInc F.BLK_OVR_count.w (d.fld (blkReg b) F.BLK_OVR_count) ∧
        ∀ k x, (d.leg k).next = some x → mine k x → (e.leg k).next = none)) ∧
      (l.mode ≠ .halted → l.completed = false → l.overrunLast = true → s.answers (exec (.commitPoint b) s) (fun e =>
        (e.lane b).phase = .closed ∧ (e.lane b).mode = .halted ∧ bitOf (e.reg (blkReg b + 0x40)).toNat 0 = true)) ∧
      (l.mode = .halted → s.answers (exec (.commitPoint b) s) (fun e =>
        (e.lane b).phase = .closed ∧ (e.lane b).mode = .halted ∧ e.mem = d.mem ∧ others e ∧
        ∀ k x, (d.leg k).next = some x → mine k x → (e.leg k).next = none)))

/-- gPTP messages (R46 to R50, R52). A Sync on the chosen port that carries its origin time gives the offset, less the link delay and the path
asymmetry of the port; in LOCKED it slews the counter; in FREE, GM and HOLDOVER it leads to ACQUIRE, and steps the counter where it is off by
more than 1 µs and no unit is active; the fourth Sync within 50 ns locks. Without its origin it waits for the Follow_Up, which then gives
the offset. Pdelay and Announce are recorded, and a device that wins becomes grandmaster; without a Sync for three intervals LOCKED
becomes HOLDOVER, and ACQUIRE becomes GM where the device wins and FREE where it does not. No message touches legs or memory. -/
def Obligations.GptpMessages : Prop :=
  ∀ (p : EthPort) (t : PtpTime) (ivl trip hold : Nat) (rank : Option ClockRank) (own : Option OwnClock) (s : State),
    let d := s.dev
    let takes := d.takesFrom p = true
    let rest := fun (e : Dev) => e.mem = d.mem ∧ e.legs = d.legs ∧ e.units = d.units ∧ e.now = d.now
    let u := d.syncOffset p d.syncStamp t
    let slews := fun (u : Int) (e : Dev) => rest e ∧ e.net = d.net ∧ e.trl.slew = -u ∧ e.fld 0 F.TRL_OFFSET_ns = lowBits 32 (u / 65536)
    let noted := fun (e : Dev) => rest e ∧ e.fld 0 F.TRL_STATUS_port = p.val ∧ e.fld 0 F.TRL_OFFSET_ns = lowBits 32 (u / 65536)
    let arrived := Store.get (fun _ => none) d.trl.arrival p
    let sync := exec (.sync p (some t) ivl) s
    (takes → d.trlState = trlLocked → s.answers sync (fun e => noted e ∧ slews u e ∧ e.trlState = trlLocked)) ∧
    (takes → d.trlState = trlFree ∨ d.trlState = trlGm ∨ d.trlState = trlHoldover → s.answers sync (fun e =>
      noted e ∧ e.trlState = trlAcquire ∧
      ((u / 65536 < -1000 ∨ 1000 < u / 65536) → d.anyActive = false →
        e.net = BitVec.ofInt 80 ((d.net.toNat : Int) - u) ∧ e.trl.slew = 0) ∧
      (-1000 ≤ u / 65536 → u / 65536 ≤ 1000 → slews u e))) ∧
    (takes → d.trlState = trlAcquire → 3 ≤ d.trl.synced → -50 ≤ u / 65536 → u / 65536 ≤ 50 → s.answers sync (fun e =>
      noted e ∧ e.trlState = trlLocked ∧ e.net = d.net)) ∧
    (takes → s.answers (exec (.sync p none ivl) s) (fun e => rest e ∧ e.net = d.net ∧ e.fld 0 F.TRL_STATUS_port = p.val ∧
      e.trlState = (if d.trlState = trlLocked then trlLocked else trlAcquire) ∧ e.trl.lastSync = d.now ∧ e.trl.syncIvl = ivl ∧
      Store.get (fun _ => none) e.trl.arrival p = some d.syncStamp)) ∧
    (¬ takes → sync = .next s ∧ exec (.sync p none ivl) s = .next s) ∧
    (arrived = none → exec (.followUp p t) s = .next s) ∧
    (∀ a, arrived = some a → s.answers (exec (.followUp p t) s) (fun e => rest e ∧ Store.get (fun _ => none) e.trl.arrival p = none ∧
      (takes → d.trlState = trlLocked → slews (d.syncOffset p a t) e) ∧
      (¬ takes ∨ (d.trlState ≠ trlAcquire ∧ d.trlState ≠ trlLocked) → e.regs = d.regs ∧ e.net = d.net ∧ e.trl.slew = d.trl.slew))) ∧
    exec (.pdelay p trip hold) s =
      .next ⟨{ d with trl := { d.trl with delay := Store.set (fun _ => 0) d.trl.delay p ((trip - hold) / 2) } }, s.pending⟩ ∧
    s.answers (exec (.announce p rank ivl own) s) (fun e => rest e ∧ e.net = d.net ∧
      (∀ x, rank = some x → Store.get (fun _ => none) e.trl.rank p = some ⟨x, d.now, ivl⟩) ∧
      (∀ x, own = some x → e.trl.own = x) ∧ (rank = none → own = none → e.trl.rank = d.trl.rank ∧ e.trl.own = d.trl.own) ∧
      (d.trlState ≠ trlAxle → e.winsBmca = true → e.trlState = trlGm) ∧
      (e.winsBmca = false → e.regs = d.regs)) ∧
    (d.trl.lastSync + 3 * d.trl.syncIvl ≤ d.now →
      (d.trlState = trlLocked → s.answers (exec .syncTimeout s) (fun e =>
        e.trlState = trlHoldover ∧ e.trl.holdAt = d.now ∧ e.fld 0 F.TRL_STATUS_port = 7 ∧ rest e ∧ e.net = d.net)) ∧
      (d.trlState = trlAcquire → d.winsBmca = false → s.answers (exec .syncTimeout s) (fun e =>
        e.trlState = trlFree ∧ e.fld 0 F.TRL_STATUS_port = 7 ∧ e.fld 0 F.TRL_HOLD_ERR_ns = 0xFFFFFFFF ∧ rest e ∧ e.net = d.net)) ∧
      (d.trlState = trlAcquire → d.winsBmca = true → s.answers (exec .syncTimeout s) (fun e =>
        e.trlState = trlGm ∧ e.fld 0 F.TRL_HOLD_ERR_ns = 0 ∧ rest e ∧ e.net = d.net)) ∧
      (d.trlState ≠ trlLocked → d.trlState ≠ trlAcquire → exec .syncTimeout s = .next s)) ∧
    (d.now < d.trl.lastSync + 3 * d.trl.syncIvl → exec .syncTimeout s = .next s)

/-- Registers of the Trellis (R45, R48, R51, R59, R61, R68). A write of TRL_CTRL whose apply bit is set makes an apply pending; one that sets src with a link that
gives time leads to AXLE. A read of TRL_TIME_LO answers the low word and copies the rest. A write of TRL_TIME_LO steps the counter to the held
high word in FREE or GM without active units, and else only uses it up. RGN_SUBTICK changes block by block, none whose unit is not DISABLED; RGN_PHASE
changes as a whole or not. None of them touches what is in force, memory or legs. -/
def Obligations.TrellisRegisters : Prop :=
  ∀ (m : Master) (r : RegionId) (second : Bool) (v : Word) (s : State),
    let d := s.dev
    let rest := fun (e : Dev) => e.mem = d.mem ∧ e.legs = d.legs ∧ e.units = d.units ∧ e.inforce = d.inforce
    let kept := fun (e : Dev) => rest e ∧ e.net = d.net
    let w := d.plainWrite m 0x40000000 v
    s.answers (exec (.trlCtrlWrite m false v) s) (fun e => kept e ∧ e.flag 0 F.TRL_CTRL_src = bitOf v.toNat 1 ∧
      e.flag 0 F.TRL_CTRL_gm_enable = bitOf v.toNat 0 ∧
      (bitOf v.toNat 1 = true → w.axlTime 0 = true ∨ w.axlTime 1 = true → e.trlState = trlAxle) ∧
      (bitOf v.toNat 4 = false → e.flag 0 F.TRL_STATUS_apply_pending = d.flag 0 F.TRL_STATUS_apply_pending)) ∧
    s.answers (exec (.trlCtrlWrite m true v) s) (fun e => kept e ∧ e.fld 0 F.TRL_PORT_enable = bitsOf v.toNat 0 6) ∧
    (bitOf v.toNat 4 = true → s.answers (exec (.trlCtrlApply m v) s) (fun e =>
      e.flag 0 F.TRL_STATUS_apply_pending = true ∧ e.trl.nextStep = d.trl.nextStep ∧ kept e)) ∧
    s.answers (exec (.trlTimeLoRead m) s) (fun e => e.resp = d.ns.setWidth 32 ∧ e.respErr = false ∧
      e.fld 0 F.TRL_TIME_HI_ns = d.ns.toNat / 2 ^ 32 ∧ e.fld 0 F.TRL_TIME_FRAC_frac = d.net.toNat % 65536 ∧ kept e) ∧
    s.answers (exec (.trlTimeHiWrite m v) s) (fun e => e.trl.heldHi = some v ∧ e.regs = d.regs ∧ kept e) ∧
    (∀ h, d.trl.heldHi = some h → d.trlState = trlFree ∨ d.trlState = trlGm → d.anyActive = false →
      s.answers (exec (.trlTimeLoWrite m v) s) (fun e =>
        e.net.toNat = (h.toNat * 2 ^ 32 + v.toNat) * 65536 ∧ e.trl.heldHi = none ∧ e.trl.slew = 0 ∧ rest e)) ∧
    ((d.trlState ≠ trlFree ∧ d.trlState ≠ trlGm) ∨ d.anyActive = true → s.answers (exec (.trlTimeLoWrite m v) s) (fun e =>
      e.trl.heldHi = none ∧ e.trl.slew = d.trl.slew ∧ kept e)) ∧
    s.answers (exec (.rgnSubtickWrite m r v) s) (fun e => kept e ∧ ∀ i < 4,
      bitsOf (e.reg (rgnReg r + 0x68)).toNat (2 * i) 2 =
        if d.subtickRefused r i v then bitsOf (d.reg (rgnReg r + 0x68)).toNat (2 * i) 2 else bitsOf v.toNat (2 * i) 2) ∧
    (let a := rgnReg r + if second then 0x64 else 0x60
     let lo := if second then (d.reg (rgnReg r + 0x60)).toNat else v.toNat
     let hi := if second then v.toNat else (d.reg (rgnReg r + 0x64)).toNat
     s.answers (exec (.rgnPhaseWrite m r second v) s) (fun e => kept e ∧
       (phasesOk (bitsOf lo 0 10) (bitsOf lo 16 10) (bitsOf hi 0 10) (bitsOf hi 16 10) = true → e = d.plainWrite m a v) ∧
       (phasesOk (bitsOf lo 0 10) (bitsOf lo 16 10) (bitsOf hi 0 10) (bitsOf hi 16 10) = false → e.reg a = d.reg a ∧
         e = d.raise Ev.TICK_CFG_REFUSED scopeChip 0)))

/-- OV3 and UV sources (R212, R315 to R318, R353, R358, R552). A voltage at the input of a window comparator forms its raw output against a threshold that
does not settle. While the raw output of an OV3 source is active the action begins: it is counted and stamped; an active unit with code 2
goes off, one with code 0, or neither active nor in a window, stays. When no source has been active for the release time the action is
withdrawn and no leg changes state. A selection bit is held for its time from each write of 1. The first active UV source sets
HSL_STAT.uv, which trips only where that is enabled and a traction unit runs; it ends with the last source. A leg in FAULT
stays there, but for one that a comparator alone put into it in this lane cycle (R20). -/
def Obligations.HslSources : Prop :=
  ∀ (m : Master) (r : RegionId) (n : Fin 16) (u : UnitId) (volts : Option Nat) (v : Word) (s : State),
    let d := s.dev
    let i := 16 * r.val + n.val
    let f := d.seeWindow r n volts
    let sees := Host.Outcome.next (State.mk f s.pending)
    let rest := fun (e : Dev) => e.mem = d.mem ∧ e.net = d.net ∧
      ∀ k, (d.leg k).st = .fault → (d.leg k).compAt ≠ some d.now → (e.leg k).st = .fault
    let still := fun (e : Dev) => rest e ∧ e.units = d.units ∧ e.legs = d.legs
    (∀ x, volts = some x → d.flag (winBase r n) F.WIN_CFG_en = true → d.dacSettling r (64 + n) = false →
      f.raw r n = compares (d.flag (winBase r n) F.WIN_CFG_pol) volts (3000 * d.fld (winBase r n) F.WIN_DAC_code)) ∧
    (f.ov3Raw = true → d.flag 0 F.HSL_OV3STAT_active = false → s.answers (exec (.ov3SourceActive r n volts) s) (fun e => rest e ∧
      e.flag 0 F.HSL_OV3STAT_active = true ∧ e.fld 0 F.HSL_OV3STAT_count = satInc 16 (d.fld 0 F.HSL_OV3STAT_count) ∧
      e.reg 0x40020324 = d.ns.setWidth 32 ∧ e.hsl.brakeDue = true ∧
      ∀ w < 32, let x := d.unit w
        (x.active = true → d.actCode F.HSL_OV3ACT_act w = 2 →
          (e.unit w).active = false ∧ (e.unit w).action = .off ∧ (e.unit w).hsl = true) ∧
        (d.actCode F.HSL_OV3ACT_act w = 0 ∨ (x.active = false ∧ x.window = none) → e.unit w = d.unit w))) ∧
    (f.ov3Raw = false ∨ d.flag 0 F.HSL_OV3STAT_active = true → exec (.ov3SourceActive r n volts) s = sees) ∧
    (d.flag 0 F.HSL_OV3STAT_active = true → d.ov3Raw = false → d.ov3At + d.fld 0 F.HSL_OV3CFG_release * 800 ≤ d.now →
      s.answers (exec .ov3Release s) (fun e => rest e ∧ e.flag 0 F.HSL_OV3STAT_active = false ∧ e.hsl.ov3Units = 0 ∧
        ∀ k, (e.leg k).st = (d.leg k).st)) ∧
    (d.flag 0 F.HSL_OV3STAT_active = false ∨ d.ov3Raw = true ∨ d.now < d.ov3At + d.fld 0 F.HSL_OV3CFG_release * 800 →
      exec .ov3Release s = .next s) ∧
    (masterPriv m = true → s.answers (exec (.hslOv3selWrite m v) s) (fun e => still e ∧ e.reg 0x40020318 = v ∧ ∀ w < 32,
      Store.get (fun _ => 0) e.ov3SelAt w = if bitOf v.toNat w then d.now else Store.get (fun _ => 0) d.ov3SelAt w)) ∧
    (masterPriv m = false → s.answers (exec (.hslOv3selWrite m v) s) (fun e => still e ∧ e.reg 0x40020318 = d.reg 0x40020318)) ∧
    (Store.get (fun _ => 0) d.ov3SelAt u.val + d.fld 0 F.HSL_OV3CFG_hold * 800000 ≤ d.now →
      s.answers (exec (.ov3selHoldExpiry u) s) (fun e => still e ∧ ∀ w < 32,
        bitOf (e.reg 0x40020318).toNat w = (decide (w ≠ u.val) && bitOf (d.reg 0x40020318).toNat w))) ∧
    (d.now < Store.get (fun _ => 0) d.ov3SelAt u.val + d.fld 0 F.HSL_OV3CFG_hold * 800000 → exec (.ov3selHoldExpiry u) s = .next s) ∧
    (f.uvRaw r n = true → d.uvOn = [] → s.answers (exec (.uvSourceActive r n volts) s) (fun e => rest e ∧ e.flag 0 F.HSL_STAT_uv = true ∧
      e.uvOn = [i] ∧ e.uvSince = d.now ∧
      (d.flag 0 F.HSL_UVCFG_trip = false → still e) ∧
      (d.flag 0 F.HSL_UVCFG_trip = true → ∀ w < 32, (d.unit w).st = .run → d.fld (unitBase w) F.UNIT_CFG_class = 1 →
        e.flag 0 F.HSL_STAT_lockout = true ∧ bitOf (e.reg 0x40020050).toNat 5 = true))) ∧
    (f.uvRaw r n = true → d.uvOn ≠ [] → i ∉ d.uvOn →
      exec (.uvSourceActive r n volts) s = .next ⟨{ f with uvOn := i :: d.uvOn }, s.pending⟩) ∧
    (f.uvRaw r n = false ∨ i ∈ d.uvOn → exec (.uvSourceActive r n volts) s = sees) ∧
    (f.uvRaw r n = false → i ∈ d.uvOn → s.answers (exec (.uvSourceInactive r n volts) s) (fun e => still e ∧
      e.uvOn = d.uvOn.filter (fun j => j != i) ∧
      (e.uvOn = [] → e.flag 0 F.HSL_STAT_uv = false) ∧ (e.uvOn ≠ [] → e.regs = d.regs))) ∧
    (f.uvRaw r n = true ∨ i ∉ d.uvOn → exec (.uvSourceInactive r n volts) s = sees)

/-- SAFE_OUT (R355, R357). A request of a privileged master energises an output with no bound demand outside lock-out once the tests have passed; req = 0,
lock-out or a test not passed takes it low. The delay after a bound demand takes it low and clears the request; before its end nothing happens. The
level of a feedback is recorded; one that agrees with the output, or is not checked, never trips, one that has differed for longer
than fb_time trips the HSL, once. -/
def Obligations.SafeOutputs : Prop :=
  ∀ (m : Master) (n : Fin 2) (level : Option Bool) (v : Word) (s : State),
    let d := s.dev
    let base := 4 * n.val
    let out := fun (e : Dev) => bitOf (e.fld 0 F.HSL_SAFEOUTSTAT_out) n
    let still := fun (e : Dev) => e.mem = d.mem ∧ e.legs = d.legs ∧ e.units = d.units
    let told := match level with
      | some l => d.setFld 0 F.HSL_SAFEOUTSTAT_fb (withBits (d.fld 0 F.HSL_SAFEOUTSTAT_fb) n 1 (flagBit l))
      | none => d
    let seen := told.watchSafeFb n
    let due := fun (t : Nat) => t + d.fld base F.HSL_SAFEOUT_delay * 800000 ≤ d.now
    (masterPriv m = true → d.flag 0 F.HSL_STAT_lockout = false → d.flag 0 F.HSL_TEST_pass = true → bitOf v.toNat 24 = true →
      d.fld 0 F.HSL_SFSTAT_demand &&& bitsOf v.toNat 0 8 = 0 → s.answers (exec (.safeOutReqWrite m n v) s) (fun e =>
        out e = true ∧ e.flag base F.HSL_SAFEOUT_req = true ∧ still e)) ∧
    (masterPriv m = true → bitOf v.toNat 24 = false ∨ d.flag 0 F.HSL_STAT_lockout = true ∨ d.flag 0 F.HSL_TEST_pass = false →
      s.answers (exec (.safeOutReqWrite m n v) s) (fun e => out e = false ∧ e.flag base F.HSL_SAFEOUT_req = false ∧ still e)) ∧
    (masterPriv m = false → s.answers (exec (.safeOutReqWrite m n v) s) (fun e =>
      e.reg (0x40020220 + base) = d.reg (0x40020220 + base) ∧ e.reg 0x40020228 = d.reg 0x40020228 ∧ still e)) ∧
    (∀ t, Store.get (fun _ => none) d.hsl.soAt n.val = some t → due t →
      s.answers (exec (.safeOutDelay n) s) (fun e => out e = false ∧ e.flag base F.HSL_SAFEOUT_req = false ∧ still e)) ∧
    (∀ t, Store.get (fun _ => none) d.hsl.soAt n.val = some t → ¬ due t → exec (.safeOutDelay n) s = .next s) ∧
    (Store.get (fun _ => none) d.hsl.soAt n.val = none → exec (.safeOutDelay n) s = .next s) ∧
    (seen.safeFbLate n = false → exec (.safeFbMismatch n level) s = .next ⟨seen, s.pending⟩) ∧
    (told.safeFbDiffers n = false → seen.safeFbLate n = false) ∧
    (∀ t, told.safeFbDiffers n = true → d.safeFbAt n = some (t, false) → t + d.fld base F.HSL_SAFEOUT_fb_time * 800000 < d.now →
      s.answers (exec (.safeFbMismatch n level) s) (fun e => e.mem = d.mem ∧ e.flag 0 F.HSL_STAT_lockout = true ∧
        bitOf (e.reg 0x40020050).toNat 9 = true ∧ out e = false ∧ e.safeFbAt n = some (t, true) ∧ ∀ w < 32, (e.unit w).st = .locked))

/-- Demands of safety-function slots (R353, R354, R360 to R362, R382). A level of a pin that has held for the filter time becomes its filtered level; one
that opens demands the slots bound to the pins, HSL_SFREQ of a privileged master its
slots, and a slot of type STO that becomes demanded acts at once: its units leave ENABLING and RUN. SS1 acts when its time or its done bit
comes. A new fault bit trips the HSL outside an update; a discharge that has not ended in its time sets one; pins that differ too long trip it too. -/
def Obligations.SafetyDemands : Prop :=
  ∀ (m : Master) (chB : Bool) (level : Option Bool) (v : Word) (k : Fin 8) (s : State),
    let d := s.dev
    let a := sfBase k
    let demanded := fun (e : Dev) => bitOf (e.fld 0 F.HSL_SFSTAT_demand) k = true
    let acting := fun (e : Dev) => bitOf (e.fld 0 F.HSL_SFSTAT_acting) k = true ∧
      ∀ w < 32, bitOf (d.fld a F.HSL_SF_UNITS_units) w = true → (e.unit w).active = false ∧ (e.unit w).hsl = true
    let free := d.flag 0 F.HSL_STAT_lockout = false
    let tripped := fun (e : Dev) (bit : Nat) => e.flag 0 F.HSL_STAT_lockout = true ∧ bitOf (e.reg 0x40020050).toNat bit = true
    let aged := fun (t : Nat) => bitOf (d.fld 0 F.HSL_SFSTAT_demand) k = true ∧ d.fld a F.HSL_SF_CFG_type = t ∧
      Store.get (fun _ => 0) d.hsl.sfAt k.val + bitsOf (d.fld a F.HSL_SF_P1_p1) 0 16 * 800000 ≤ d.now
    let late := aged 4 ∧ (d.uvOn = [] ∨ d.now < d.uvSince + 8000000)
    let idle := bitOf (d.fld 0 F.HSL_SFSTAT_acting) k = false
    let old := if chB then d.hsl.stoB else d.hsl.stoA
    let x := (old.see d.now d.ns (level.getD old.level)).served d.now (d.fld 0 F.HSL_STO_filt * 800)
    let change := exec (.stoInputChange chB level) s
    (x.out = old.out → change = .next ⟨{ d with hsl := if chB then { d.hsl with stoB := x } else { d.hsl with stoA := x } }, s.pending⟩) ∧
    (x.out ≠ old.out → s.answers change (fun e =>
      e.flag 0 (if chB then F.HSL_STAT_sto_b else F.HSL_STAT_sto_a) = x.out ∧ e.mem = d.mem ∧
      (x.out = false → e.flag 0 F.HSL_SFSTAT_pins = true ∧ (d.flag a F.HSL_SF_CFG_pins = true → demanded e ∧
        (free → ¬ demanded d → idle → d.fld a F.HSL_SF_CFG_type = 1 → acting e))))) ∧
    (masterPriv m = true → s.answers (exec (.hslSfreqWrite m v) s) (fun e => e.fld 0 F.HSL_SFREQ_req = bitsOf v.toNat 0 8 ∧ e.mem = d.mem ∧
      (bitOf v.toNat k = true → demanded e ∧ (free → ¬ demanded d → idle → d.fld a F.HSL_SF_CFG_type = 1 → acting e)) ∧
      (bitOf v.toNat k = false → d.flag a F.HSL_SF_CFG_pins = false → d.fld 0 F.HSL_UPD_state = 0 → ¬ demanded e))) ∧
    (masterPriv m = true → s.answers (exec (.hslSfdoneWrite m v) s) (fun e => e.mem = d.mem ∧
        e.fld 0 F.HSL_SFDONE_done = bitsOf v.toNat 0 8 &&& d.fld 0 F.HSL_SFSTAT_demand ∧
      (demanded d → bitOf v.toNat k = true → bitOf (d.fld 0 F.HSL_SFDONE_done) k = false → free → idle →
        d.fld a F.HSL_SF_CFG_type = 2 → acting e))) ∧
    (aged 2 → free → idle → s.answers (exec (.ss1Timeout k) s) (fun e => acting e ∧ e.mem = d.mem)) ∧
    (¬ aged 2 ∨ ¬ idle → exec (.ss1Timeout k) s = .next s) ∧
    (late → s.answers (exec (.dischTimeout k) s) (fun e => bitOf (e.fld 0 F.HSL_SFFAULT_fault) k = true ∧ e.mem = d.mem ∧
      (bitOf (d.fld 0 F.HSL_SFFAULT_fault) k = false → d.fld 0 F.HSL_UPD_state = 0 → tripped e 6))) ∧
    (¬ late → exec (.dischTimeout k) s = .next s) ∧
    (masterPriv m = true → s.answers (exec (.hslSffaultWrite m v) s) (fun e => e.fld 0 F.HSL_SFFAULT_fault = bitsOf v.toNat 0 8 ∧
      e.mem = d.mem ∧ (bitOf v.toNat k = true → bitOf (d.fld 0 F.HSL_SFFAULT_fault) k = false → d.fld 0 F.HSL_UPD_state = 0 → tripped e 6))) ∧
    (d.stoApart = true → s.answers (exec .stoDiscrepancy s) (fun e => tripped e 0 ∧ e.mem = d.mem)) ∧
    (d.stoApart = false → exec .stoDiscrepancy s = .next s) ∧
    (∀ t, d.hsl.stoDiff = some (t, false) → d.stoApart = decide (t + d.fld 0 F.HSL_STO_disc * 800000 < d.now)) ∧
    (d.hsl.stoDiff = none → d.stoApart = false)

/-- The safety pair (R345, R346, R348, R350 to R352). A watchdog period posts the next challenge with its copies in both SRAMs; without both right
responses it trips. Only the first response of a core counts. The first core at a compare point waits; the second in time at the same point lets both
go on, a read being issued once by the first and a write once by the second, and take the interrupts that are pending at a checkpoint (R347); another point or a
late one is a loss of agreement, which holds the pair in reset; after 1 ms the stored firmware releases it again or trips. A debugger at an open port breaks
the pair; split mode is selected before the first release only. -/
def Obligations.SafetyPair : Prop :=
  ∀ (m : Master) (sc1 machine : Bool) (v addr val : Word) (size : Nat) (w : PairWait) (s : State),
    let d := s.dev
    let chal := fun (e : Dev) => e.fld 0 F.HSL_WDCHAL_chal
    let posted := fun (e : Dev) => e.hsl.wdAt = some d.now ∧ e.hsl.resp0 = none ∧ e.hsl.resp1 = none ∧ chal e ≠ 0 ∧
      (chal d ≠ 0 → chal e = lfsrNext (chal d)) ∧ e.loadN 0x1107FF00 2 = chal e ∧ e.loadN 0x110FFF00 2 = chal e
    let tripped := fun (e : Dev) (bit : Nat) => e.flag 0 F.HSL_STAT_lockout = true ∧ bitOf (e.reg 0x40020050).toNat bit = true
    let both : Master := ⟨2, machine⟩
    let read : PairAccess := .read addr size
    let write : PairAccess := .write addr size val
    let meets := d.pairWait = some w ∧ w.sc1 ≠ sc1 ∧ d.now ≤ w.since + pairLimit ∧ d.flag 0 F.HSL_TEST_inj = false
    let live := d.hsl.pairUp = true ∧ d.isSplit = false
    let lost := fun (e : Dev) => bitOf (e.reg 0x40020040).toNat 1 = true ∧ e.flag 0 F.HSL_STAT_lockout = true ∧ e.hsl.pairUp = false ∧
      e.pairReset = some d.now ∧ e.pairWait = none ∧ e.mem = d.mem
    (d.hsl.wdAt = none → d.hsl.pairUp = false → exec .watchdogPeriod s = .next s) ∧
    (d.hsl.wdAt = none → d.hsl.pairUp = true → s.answers (exec .watchdogPeriod s) (fun e => posted e ∧ e.units = d.units)) ∧
    (∀ t, d.hsl.wdAt = some t → t + d.fld 0 F.HSL_WD_period * 800 ≤ d.now →
      (d.hsl.resp0 = some true → d.hsl.resp1 = some true → s.answers (exec .watchdogPeriod s) (fun e =>
        posted e ∧ e.hsl.wdGood = true ∧ e.units = d.units ∧ e.legs = d.legs)) ∧
      (d.wdAnswered = false → d.fld 0 F.HSL_UPD_state = 0 → s.answers (exec .watchdogPeriod s) (fun e =>
        posted e ∧ e.hsl.wdGood = false ∧ tripped e 1)) ∧
      (d.wdAnswered = false → d.fld 0 F.HSL_UPD_state ≠ 0 → s.answers (exec .watchdogPeriod s) (fun e =>
        posted e ∧ e.hsl.wdGood = false ∧ e.units = d.units))) ∧
    (∀ t, d.hsl.wdAt = some t → d.now < t + d.fld 0 F.HSL_WD_period * 800 → exec .watchdogPeriod s = .next s) ∧
    (∀ t, d.hsl.wdAt = some t → m.id = 2 → d.hsl.resp0 = none → s.answers (exec (.hslWdresp0Write m v) s) (fun e =>
      e = { d with hsl := { d.hsl with resp0 := some (d.wdOpen t && v.toNat % 2 ^ 16 == wdExpect0 (chal d)) } })) ∧
    (∀ t, d.hsl.wdAt = some t → m.id = 3 → d.hsl.resp1 = none → s.answers (exec (.hslWdresp1Write m v) s) (fun e =>
      e = { d with hsl := { d.hsl with resp1 := some (d.wdOpen t && v.toNat % 2 ^ 16 == wdExpect1 (chal d)) } })) ∧
    (d.hsl.wdAt = none ∨ d.hsl.resp0 ≠ none → m.id = 2 → exec (.hslWdresp0Write m v) s = .next s) ∧
    (d.hsl.wdAt = none ∨ d.hsl.resp1 ≠ none → m.id = 3 → exec (.hslWdresp1Write m v) s = .next s) ∧
    (m.id ≠ 2 → s.answers (exec (.hslWdresp0Write m v) s) (fun e => e.hsl = d.hsl ∧ e.mem = d.mem)) ∧
    (m.id ≠ 3 → s.answers (exec (.hslWdresp1Write m v) s) (fun e => e.hsl = d.hsl ∧ e.mem = d.mem)) ∧
    (¬ live → exec (.chkpt sc1 v) s = .next s) ∧
    (live → d.pairWait = none → exec (.chkpt sc1 v) s =
      .next ⟨{ d with pairWait := some ⟨sc1, d.now, .chkpt v, d.resp, d.respErr⟩ }, s.pending⟩) ∧
    (live → meets → w.point = .chkpt v → exec (.chkpt sc1 v) s = .next ⟨({ d with pairWait := none } : Dev).takeInterrupts, s.pending⟩) ∧
    (live → d.pairWait = some w → w.sc1 ≠ sc1 → w.point ≠ .chkpt v ∨ w.since + pairLimit < d.now →
      s.answers (exec (.chkpt sc1 v) s) lost) ∧
    (d.pairWait = some w → w.since + pairLimit < d.now → s.answers (exec .pairCompareTimeout s) lost) ∧
    (d.pairWait = some w → d.now ≤ w.since + pairLimit → exec .pairCompareTimeout s = .next s) ∧
    (d.pairWait = none → exec .pairCompareTimeout s = .next s) ∧
    (∀ t, d.pairReset = some t → d.pairResetDue = (decide (t + 800000 ≤ d.now) && d.fld 0 F.HSL_UPD_state == 0 && d.hsl.released &&
      !d.hsl.reloadBad)) ∧
    (d.pairResetDue = true → s.answers (exec .pairResetEnd s) (fun e =>
        if d.storedCaskOk 2 then e.hsl.pairUp = true ∧ e.pairReset = none ∧ e.regs = d.regs
        else e.hsl.pairUp = d.hsl.pairUp ∧ e.hsl.reloadBad = true ∧ tripped e 1)) ∧
    (d.pairResetDue = false → exec .pairResetEnd s = .next s) ∧
    (d.debugPort = true → s.answers (exec (.debugHalt sc1) s) (fun e =>
      e.flag 0 F.HSL_STAT_debug_split = true ∧ tripped e 7 ∧ e.pairWait = none)) ∧
    (d.debugPort = false → exec (.debugHalt sc1) s = .next s) ∧
    (masterPriv m = false → s.answers (exec (.hslSplitWrite m v) s) (fun e => e.flag 0 F.HSL_STAT_split = d.flag 0 F.HSL_STAT_split ∧
      e.mem = d.mem)) ∧
    (masterPriv m = true → s.answers (exec (.hslSplitWrite m v) s) (fun e => e.flag 0 F.HSL_STAT_split =
      if d.hsl.released then d.flag 0 F.HSL_STAT_split else bitOf v.toNat 0)) ∧
    (live → ownAccess sc1 read = false → d.pairWait = none → exec (.pairExternalAccess sc1 machine read) s =
      .next ⟨{ d.pairAccess both read with
        pairWait := some ⟨sc1, d.now, .access read, (d.pairAccess both read).resp, (d.pairAccess both read).respErr⟩ }, s.pending⟩) ∧
    (live → meets → ownAccess sc1 read = false → w.point = .access read → exec (.pairExternalAccess sc1 machine read) s =
      .next ⟨{ d with pairWait := none, resp := w.data, respErr := w.err }, s.pending⟩) ∧
    (live → meets → ownAccess sc1 write = false → w.point = .access write → exec (.pairExternalAccess sc1 machine write) s =
      .next ⟨({ d with pairWait := none } : Dev).pairAccess both write, s.pending⟩) ∧
    (d.hsl.pairUp = false → exec (.pairExternalAccess sc1 machine read) s = .next s)

/-- Monitors and the end of lock-out (R353, R368, R369, R540, R541). A tick interval below half or above 1.5 of the HSL's copy of the period, a clock count outside its window and a supply outside its window trip the HSL; inside it the
condition has ended. A supply below its hold level takes the outputs that it serves low. In lock-out the unlock word arms a reset; SAFE_ACK low for 100 ms and
released ends lock-out where every condition is over, clears the causes and makes locked units at rest DISABLED, and else is refused; 5 s after arming it is
over. -/
def Obligations.MonitorsAndLockout : Prop :=
  ∀ (m : Master) (count mv : Nat) (rail : Rail) (hold : HoldRail) (v : Word) (s : State),
    let d := s.dev
    let tripped := fun (e : Dev) (bit : Nat) => e.flag 0 F.HSL_STAT_lockout = true ∧ bitOf (e.reg 0x40020050).toNat bit = true ∧
      bitOf (e.reg 0x40020040).toNat 0 = true ∧ e.mem = d.mem ∧ ∀ u < 32, (e.unit u).st = .locked
    let still := fun (e : Dev) => e.mem = d.mem ∧ e.legs = d.legs ∧ e.units = d.units
    let locked := fun (e : Dev) => e.flag 0 F.HSL_STAT_lockout
    let armed := fun (e : Dev) => e.flag 0 F.HSL_STAT_reset_armed
    let served := fun (k : Nat) => match hold with | .lnk => k < 112 | .drv => 112 ≤ k | .ana | .io => True
    (2 * count < d.hsl.tickP ∨ 3 * d.hsl.tickP < 2 * count → s.answers (exec (.tickMonitorFail count) s) (fun e => tripped e 2)) ∧
    (d.hsl.tickP ≤ 2 * count → 2 * count ≤ 3 * d.hsl.tickP →
      exec (.tickMonitorFail count) s = .next ⟨d.setLive 0x40020050 (2 ^ 2) false, s.pending⟩) ∧
    (count < 2432 ∨ 2688 < count → s.answers (exec (.clockMonitorFail count) s) (fun e => tripped e 3)) ∧
    (2432 ≤ count → count ≤ 2688 → exec (.clockMonitorFail count) s = .next ⟨d.setLive 0x40020050 (2 ^ 3) false, s.pending⟩) ∧
    (railOutside rail mv = true → s.answers (exec (.supplyOutOfWindow rail mv) s) (fun e => tripped e 4 ∧
      (rail = .core → bitOf (e.reg 0x40020040).toNat 3 = true))) ∧
    (railOutside rail mv = false → s.answers (exec (.supplyOutOfWindow rail mv) s) (fun e => still e ∧ e.regs = d.regs ∧
      (rail = .core → bitOf (e.liveAt 0x40020040) 3 = false))) ∧
    (holdLevel hold < mv → s.answers (exec (.supplyBelowHoldLevel hold mv) s) (fun e => e.mem = d.mem ∧ e.units = d.units ∧ e.regs = d.regs ∧
      ∀ k < 128, (e.leg k).st = (d.leg k).st)) ∧
    (mv ≤ holdLevel hold → s.answers (exec (.supplyBelowHoldLevel hold mv) s) (fun e => e.mem = d.mem ∧ e.units = d.units ∧
      (∀ k < 128, served k → (e.leg k).drvH = false ∧ (e.leg k).drvL = false ∧ (e.leg k).soft = false ∧ (e.leg k).st = (d.leg k).st) ∧
      (hold = .ana ∨ hold = .io → e.fld 0 F.HSL_SAFEOUTSTAT_out = 0))) ∧
    (masterPriv m = true → locked d = true → s.answers (exec (.hslUnlockWrite m 0x5AFE5AFE) s) (fun e =>
      armed e = true ∧ e.hsl.armedAt = d.now ∧ locked e = true ∧ still e)) ∧
    (masterPriv m = true → v ≠ 0x5AFE5AFE ∨ locked d = false → s.answers (exec (.hslUnlockWrite m v) s) (fun e =>
      armed e = armed d ∧ e.hsl = d.hsl ∧ still e)) ∧
    (d.flag 0 F.HSL_STAT_safe_ack = true → s.answers (exec .safeAckPress s) (fun e =>
      e.flag 0 F.HSL_STAT_safe_ack = false ∧ e.hsl.ackLow = some d.now ∧ locked e = locked d ∧ still e)) ∧
    (d.flag 0 F.HSL_STAT_safe_ack = false → exec .safeAckPress s = .next s) ∧
    (∀ t, d.hsl.ackLow = some t → d.flag 0 F.HSL_STAT_safe_ack = false → armed d = true → max t d.hsl.armedAt + 80000000 ≤ d.now →
      (d.resetReady = true → s.answers (exec .safeAckRelease s) (fun e =>
        locked e = false ∧ armed e = false ∧ e.reg 0x40020040 = 0 ∧ e.reg 0x40020050 = 0 ∧ e.mem = d.mem ∧
        ∀ u < 32, (e.unit u).lockPend = false ∧ ((d.unit u).st = .locked → (∀ k ∈ d.unitLegs u, (d.leg k).atRest = true) →
          (e.unit u).st = .disabled))) ∧
      (d.resetReady = false → s.answers (exec .safeAckRelease s) (fun e => locked e = locked d ∧ armed e = false ∧ still e))) ∧
    (armed d = false → s.answers (exec .safeAckRelease s) (fun e =>
      e.flag 0 F.HSL_STAT_safe_ack = true ∧ e.hsl.ackLow = none ∧ locked e = locked d ∧ still e)) ∧
    (armed d = true → d.hsl.armedAt + 4000000000 ≤ d.now → s.answers (exec .resetArmTimeout s) (fun e =>
      armed e = false ∧ locked e = locked d ∧ still e)) ∧
    (armed d = false ∨ d.now < d.hsl.armedAt + 4000000000 → exec .resetArmTimeout s = .next s) ∧
    (masterPriv m = false → s.answers (exec (.hslUnlockWrite m v) s) (fun e => e.hsl = d.hsl ∧ e.regs = d.regs ∧ still e))

/-- The disable-path test and the update of the safety firmware (R519, R520, R535, R536). Only before the test is done can a mismatch be injected; the test runs
once. Its success sets pass, its failure records leg and cause and trips the HSL. A request in NORMAL enters UPDATE: the pair is held, every slot is
demanded, active motion units stop; the verified and loaded Cask releases the pair; the end of the request returns to NORMAL; too long an update trips. -/
def Obligations.TestAndUpdate : Prop :=
  ∀ (m : Master) (line : Option (LegId × Bool)) (v : Word) (s : State),
    let d := s.dev
    let state := fun (e : Dev) => e.fld 0 F.HSL_UPD_state
    let still := fun (e : Dev) => e.mem = d.mem ∧ e.legs = d.legs ∧ e.units = d.units
    let tripped := fun (e : Dev) (bit : Nat) => e.flag 0 F.HSL_STAT_lockout = true ∧ bitOf (e.reg 0x40020050).toNat bit = true
    let running := d.hsl.testAt ≠ none ∧ d.flag 0 F.HSL_TEST_done = false
    (masterPriv m = true → s.answers (exec (.hslTestInjWrite m v) s) (fun e => still e ∧
      e.flag 0 F.HSL_TEST_inj = if d.flag 0 F.HSL_TEST_done then d.flag 0 F.HSL_TEST_inj else bitOf v.toNat 0)) ∧
    (masterPriv m = true → bitOf v.toNat 4 = true → s.answers (exec (.hslTestRun m v) s) (fun e => still e ∧
      e.hsl.testAt = if d.hsl.testAt = none then some d.now else d.hsl.testAt)) ∧
    (masterPriv m = false → s.answers (exec (.hslTestRun m v) s) (fun e => still e ∧ e.hsl = d.hsl ∧ e.reg 0x40020710 = d.reg 0x40020710)) ∧
    (running → d.testFailure line = none → s.answers (exec (.disablePathTestEnd line) s) (fun e => still e ∧
      e.flag 0 F.HSL_TEST_done = true ∧ e.flag 0 F.HSL_TEST_pass = true)) ∧
    (∀ k c, running → d.testFailure line = some (k, c) → s.answers (exec (.disablePathTestEnd line) s) (fun e =>
      e.flag 0 F.HSL_TEST_done = true ∧
      e.flag 0 F.HSL_TEST_pass = d.flag 0 F.HSL_TEST_pass ∧ e.fld 0 F.HSL_TEST_leg = k ∧ e.fld 0 F.HSL_TEST_cause = c ∧
      tripped e 8 ∧ e.mem = d.mem)) ∧
    (∀ k drv, line = some (k, drv) → d.notOff = none → d.testFailure line = some (k.val, if drv then 2 else 1)) ∧
    (line = none → d.testFailure line = d.notOff.map (fun j => (j, 3))) ∧
    (¬ running → exec (.disablePathTestEnd line) s = .next s) ∧
    (masterPriv m = true → state d = 0 → bitOf v.toNat 0 = true → d.flag 0 F.HSL_STAT_lockout = false →
      s.answers (exec (.hslUpdReqWrite m v) s) (fun e => state e = 1 ∧ e.hsl.pairUp = false ∧ e.hsl.updAt = d.now ∧
        e.fld 0 F.HSL_SFSTAT_demand = 255 ∧ e.mem = d.mem ∧
        ∀ u < 32, updClass (d.fld (unitBase u) F.UNIT_CFG_class) = true → (e.unit u).active = false)) ∧
    (masterPriv m = true → state d = 2 → bitOf v.toNat 0 = false → s.answers (exec (.hslUpdReqWrite m v) s) (fun e =>
      state e = 0 ∧ e.hsl.resp0 = some true ∧ e.hsl.resp1 = some true ∧ e.mem = d.mem)) ∧
    (state d = 1 → d.hsl.updOk = true → s.answers (exec .safetyCaskLoaded s) (fun e => state e = 2 ∧ e.hsl.pairUp = true ∧ e.hsl.released = true ∧
      e.pairReset = none ∧ still e)) ∧
    (state d ≠ 1 ∨ d.hsl.updOk = false → exec .safetyCaskLoaded s = .next s) ∧
    (state d ≠ 0 → d.hsl.updAt + d.fld 0 F.HSL_UPD_tmax * 80000000 ≤ d.now → s.answers (exec .updateTimeLimit s) (fun e =>
      tripped e 1 ∧ e.hsl.wdGood = false ∧ e.mem = d.mem)) ∧
    (state d = 0 ∨ d.now < d.hsl.updAt + d.fld 0 F.HSL_UPD_tmax * 80000000 → exec .updateTimeLimit s = .next s)

/-- Connections of the safe channel (R370, R371, R374 to R377, R379, R380). A transmit connection that is due sends a frame of 20 bytes more than its payload,
counts its sequence, is in RUN and queues the frame at its port. A landed frame waits for the next tick, a second one in a tick is excess, one without a connection unknown. A frame that
passes every check in RUN fills the buffer; the second consecutive one in SYNC leads to RUN; the third error in a row and a watchdog without a frame fault the
connection; a re-arm under the ceiling starts it anew, inverting the toggle of a transmit connection. -/
def Obligations.SafeChannel : Prop :=
  ∀ (m : Master) (n : Fin 32) (p : PortId) (f : List Byte) (at_ : Nat) (ns : DWord) (v : Word) (s : State),
    let d := s.dev
    let a := conBase n
    let x := d.sch n
    let port := d.fld a F.SCH_CON_CFG_port
    let classic := fun (p : Nat) => isCan p && d.canMode p == 0
    let still := fun (e : Dev) => e.mem = d.mem ∧ e.legs = d.legs ∧ e.units = d.units
    let due := d.conSends n = true ∧ d.conLive n = true ∧ d.fld a F.SCH_CON_CFG_div ≤ x.ticks ∧ classic port = false
    let checked := x.landed = some (f, at_, ns) ∧ x.landTick ≠ d.tickName ∧ d.conLive n = true
    let w := d.plainWrite m (0x40050100 + 0x40 * n) v
    let allowed := (∀ k < 8, w.sfBad k = true → d.sfBad k = true) ∧ ∀ k < 8, w.slotOver k = false
    let q := bitsOf v.toNat 4 5
    let carries := safePort q = true ∧ (d.isFd q = true → bitsOf v.toNat 16 7 ≤ 44)
    (due → s.answers (exec (.schTransmit n) s) (fun e => still e ∧
      (port < 22 → Store.get (fun _ => []) e.linkq port = Store.get (fun _ => []) d.linkq port ++ [d.safeFrame n]) ∧ e.conState n = conRun ∧ (e.sch n).ticks = 0 ∧
      (e.sch n).sent = d.safeFrame n ∧ (e.sch n).txSeq = (x.txSeq + 1) % 65536 ∧ e.fld a F.SCH_CON_STAT_seq = x.txSeq % 65536 ∧
      (d.safeFrame n).length = 20 + d.fld a F.SCH_CON_CFG_len)) ∧
    (¬ due → exec (.schTransmit n) s = .next s) ∧
    (classic p = false → d.conFor p f = none → s.answers (exec (.schFrameLand p f) s) (fun e => still e ∧ e.schs = d.schs ∧
      e = d.bump 0 F.SCH_STAT_unknown)) ∧
    (classic p = true → exec (.schFrameLand p f) s = .next s) ∧
    (classic p = false → d.conFor p f = some n.val → x.landTick ≠ d.tickName → s.answers (exec (.schFrameLand p f) s) (fun e =>
      still e ∧ (e.sch n).landed = some (f, d.now, d.ns) ∧ (e.sch n).landTick = d.tickName)) ∧
    (classic p = false → d.conFor p f = some n.val → x.landTick ≠ d.tickName → x.landed = none →
      s.answers (exec (.schFrameLand p f) s) (fun e => still e ∧ e.regs = d.regs ∧ (e.sch n).landed = some (f, d.now, d.ns) ∧
        (e.sch n).landTick = d.tickName)) ∧
    (classic p = false → d.conFor p f = some n.val → x.landTick = d.tickName → s.answers (exec (.schFrameLand p f) s) (fun e =>
      still e ∧ e.schs = d.schs ∧ e = d.bump a F.SCH_CON_CNT2_excess)) ∧
    (checked → d.schCode n f ns = 0 → d.conState n = conRun → s.answers (exec (.schFrameCheck n) s) (fun e => still e ∧
      e.conState n = conRun ∧ e.fld a F.SCH_CON_CNT_valid = satInc 16 (d.fld a F.SCH_CON_CNT_valid) ∧ e.fld a F.SCH_CON_STAT_errs = 0 ∧
      (e.sch n).since = at_ ∧ (e.sch n).landed = none ∧ e.fld a F.SCH_CON_STAT_seq = frameNat f 4 2 % 65536 ∧
      ∀ i, i < d.fld a F.SCH_CON_CFG_len → i < 64 → ∀ y, f[16 + i]? = some y → e.bufByte n i = y)) ∧
    (checked → d.schCode n f ns = 0 → d.conState n = conSync → x.synced = true →
      frameNat f 4 2 = (d.fld a F.SCH_CON_STAT_seq + 1) % 65536 → s.answers (exec (.schFrameCheck n) s) (fun e => e.conState n = conRun ∧ still e)) ∧
    (checked → d.schCode n f ns ≠ 0 → s.answers (exec (.schFrameCheck n) s) (fun e => still e ∧
      e.fld a F.SCH_CON_STAT_last_err = d.schCode n f ns ∧
      (d.fld a F.SCH_CON_STAT_errs < 2 → e.conState n = d.conState n ∧ e.fld a F.SCH_CON_STAT_errs = d.fld a F.SCH_CON_STAT_errs + 1) ∧
      (2 ≤ d.fld a F.SCH_CON_STAT_errs → e.conState n = conFaulted ∧ e.fld a F.SCH_CON_STAT_fault = 1))) ∧
    (x.landed = some (f, at_, ns) → x.landTick ≠ d.tickName → d.conLive n = false →
      exec (.schFrameCheck n) s = .next ⟨d.setSch n { x with landed := none }, s.pending⟩) ∧
    (x.landed = none ∨ x.landTick = d.tickName → exec (.schFrameCheck n) s = .next s) ∧
    (d.conSends n = false → d.conLive n = true → 32 * (x.since + d.fld a F.SCH_CON_WD_wd * 800) ≤ d.trl.tickStep →
      s.answers (exec (.schWatchdogExpiry n) s) (fun e => still e ∧ e.conState n = conFaulted ∧ e.fld a F.SCH_CON_STAT_fault = 2 ∧
        ∀ j < 32, j ≠ n.val → e.conState j = d.conState j)) ∧
    (d.conSends n = true ∨ d.conLive n = false ∨ d.trl.tickStep < 32 * (x.since + d.fld a F.SCH_CON_WD_wd * 800) →
      exec (.schWatchdogExpiry n) s = .next s) ∧
    (masterPriv m = true → bitOf v.toNat 0 = true → d.flag a F.SCH_CON_CFG_en = false → carries → allowed → s.answers (exec (.schConnEnable m n v) s) (fun e => still e ∧
        e.flag a F.SCH_CON_CFG_en = true ∧ e.conState n = conSync ∧ (e.sch n).synced = false ∧ (e.sch n).since = d.now ∧
        e.fld a F.SCH_CON_CFG_port = bitsOf v.toNat 4 5)) ∧
    (masterPriv m = true → bitOf v.toNat 0 = true → d.flag a F.SCH_CON_CFG_en = false → ¬ carries →
      s.answers (exec (.schConnEnable m n v) s) (fun e => still e ∧ e = d.raise Ev.SCH_CFG_REFUSED scopeChip 0)) ∧
    (masterPriv m = true → bitOf v.toNat 0 = false → allowed → s.answers (exec (.schConnEnable m n v) s) (fun e =>
      still e ∧ e.conState n = conOff)) ∧
    (masterPriv m = true → bitOf v.toNat 0 = true → d.conState n = conFaulted → s.answers (exec (.schRearm m n v) s) (fun e => still e ∧
      (d.overCeiling n = false → e.conState n = conSync ∧ e.fld a F.SCH_CON_STAT_fault = 0 ∧
        e.fld a F.SCH_CON_STAT_toggle = if d.conSends n then 1 - d.fld a F.SCH_CON_STAT_toggle else d.fld a F.SCH_CON_STAT_toggle) ∧
      (d.overCeiling n = true → e.conState n = conFaulted))) ∧
    (masterPriv m = true → d.conState n ≠ conFaulted → s.answers (exec (.schRearm m n v) s) (fun e =>
      e = d.plainWrite m (0x40050118 + 0x40 * n) v ∧ e.conState n = d.conState n)) ∧
    (masterPriv m = true → bitOf v.toNat 0 = false → s.answers (exec (.schRearm m n v) s) (fun e =>
      e = d.plainWrite m (0x40050118 + 0x40 * n) v ∧ e.conState n = d.conState n)) ∧
    (masterPriv m = true → bitOf v.toNat 0 = true → d.flag a F.SCH_CON_CFG_en = true → allowed →
      s.answers (exec (.schConnEnable m n v) s) (fun e => still e ∧ e.conState n = d.conState n)) ∧
    (masterPriv m = false → s.answers (exec (.schConnEnable m n v) s) (fun e => still e ∧ e.schs = d.schs ∧ e.conState n = d.conState n) ∧
      s.answers (exec (.schRearm m n v) s) (fun e => still e ∧ e.schs = d.schs ∧ e.conState n = d.conState n))

/-- Configuration of safety-function slots (R363 to R366). A write of a privileged master takes effect unless it makes a slot's configuration bad or takes its worst case
above its ceiling, and not for others. After a timing apply each worst case is published anew, and a BOUND slot that has come above its ceiling is demanded.
A frame of the safety firmware (R349, R360, R366, R381). A pair that is up requests and demands each slot that the application, its
connection or its ceiling asks for, in the last frame where it says nothing new, and changes no memory; a pair in reset evaluates nothing. -/
def Obligations.SafetyFramesAndSlots : Prop :=
  (∀ (m : Master) (k : Fin 8) (reg : SfReg) (v : Word) (s : State),
      let d := s.dev
      let a := sfReg k reg
      let w := d.plainWrite m a v
      (masterPriv m = true → (∀ j < 8, w.sfBad j = true → d.sfBad j = true) → (∀ j < 8, w.slotOver j = false) →
        s.answers (exec (.sfConfigWrite m k reg v) s) (fun e => e.reg a = w.reg a ∧ e.mem = d.mem)) ∧
      (masterPriv m = true → (∃ j < 8, w.sfBad j = true ∧ d.sfBad j = false) →
        s.answers (exec (.sfConfigWrite m k reg v) s) (fun e => e.reg a = d.reg a ∧ e.mem = d.mem)) ∧
      (masterPriv m = true → (∃ j < 8, w.slotOver j = true ∧ d.slotOver j = false) →
        s.answers (exec (.sfConfigWrite m k reg v) s) (fun e => e.reg a = d.reg a ∧ e.mem = d.mem)) ∧
      (masterPriv m = false → s.answers (exec (.sfConfigWrite m k reg v) s) (fun e =>
        e.reg a = d.reg a ∧ e.units = d.units ∧ e.legs = d.legs ∧ e.mem = d.mem)) ∧
      s.answers (exec .sfBoundRecompute s) (fun e => e.mem = d.mem ∧ bitOf e.hsl.overCeil k = d.slotOver k ∧
        (d.fld (sfBase k) F.HSL_SF_CFG_type ≠ 0 → e.fld (sfBase k) F.HSL_SF_WC_wc = min ((d.slotWc k + 3) / 4) 0xFFFFFFFF) ∧
        (d.slotOver k = true → bitOf d.hsl.overCeil k = false →
          bitOf (e.fld 0 F.HSL_SFREQ_req) k = true ∧ bitOf (e.fld 0 F.HSL_SFSTAT_demand) k = true))) ∧
  (∀ (x : Option SafetyInputs) (s : State),
      let d := s.dev
      let asked := match x with | some i => i.request | none => d.hsl.requests
      (d.hsl.pairUp = true → s.answers (exec (.safetyFrame x) s) (fun e => e.mem = d.mem ∧ e.now = d.now ∧ ∀ k < 8,
        (bitOf (e.fld 0 F.HSL_SFREQ_req) k = (bitOf asked.toNat k || d.conDemands k || bitOf d.hsl.overCeil k)) ∧
        (bitOf asked.toNat k = true → bitOf (e.fld 0 F.HSL_SFSTAT_demand) k = true))) ∧
      (d.hsl.pairUp = false → exec (.safetyFrame x) s = .next s))

/-- Converters (R188 to R198, R268). A trigger makes an idle sequence wait for its delay, another one is lost and counted; a sequence that may start copies its
configuration; each result, of what its channel shows, lands in the intake buffers of the four blocks, or for a resolver in its half of word
+6, and the last one ends the sequence. A background check acts in an idle window only: a failed one is flagged, a second
one in a row is a region fault; without an idle window for 1 ms the converter is flagged as starved. -/
def Obligations.Converters : Prop :=
  ∀ (m : Master) (r : RegionId) (a : Fin 4) (q : Fin 2) (see : Option AdcSeen) (uv : Nat) (ground : Bool) (v : Word) (s : State),
    let d := s.dev
    let x := d.seq r a q
    let base := seqBase r a q
    let still := fun (e : Dev) => e.mem = d.mem ∧ e.legs = d.legs ∧ e.units = d.units
    let w := d.plainWrite m (base + 0x1000) v
    let c := d.conv r a
    let soft := bitOf v.toNat 31 = true ∧ w.seqTrig r a q = 6 ∧ w.overridden r a q = false
    let idleWindow := d.convIdle r a = true ∧ c.freeAt + 80 ≤ d.now
    let bad := if ground then 24 < adcCode uv else (adcCode uv < 8168 ∨ 8216 < adcCode uv)
    let flag := fun (e : Dev) (i : Nat) => bitOf (e.reg (rgnReg r + 0x1614)).toNat i = true
    let ent := fun (i : Nat) => x.ents.getD i 0
    let value := fun (i : Nat) => entryValue (ent i) (d.convert r a (entryChannel (ent i)) see).1
    let next := fun (since i : Nat) (e : Dev) => (e.seq r a q).phase = (if i = bitsOf x.cfg.toNat 28 3 then .idle else .running since (i + 1))
    (x.trig = true → d.seqTrig r a q ≠ 0 → x.phase = .idle → s.answers (exec (.adcTrigger r a q) s) (fun e => still e ∧ e.regs = d.regs ∧
      (e.seq r a q).phase = .waiting (d.now + d.fld base F.ADC_SEQ_CFG_delay) ∧ (e.seq r a q).trig = false)) ∧
    (x.trig = true → d.seqTrig r a q ≠ 0 → x.phase ≠ .idle → s.answers (exec (.adcTrigger r a q) s) (fun e => still e ∧
      (e.seq r a q).phase = x.phase ∧ (e.seq r a q).trig = false ∧
      e.fld base F.ADC_SEQ_STAT_lost = satInc 8 (d.fld base F.ADC_SEQ_STAT_lost))) ∧
    (x.trig = true → d.seqTrig r a q = 0 → exec (.adcTrigger r a q) s = .next ⟨d.setSeq r a q { x with trig := false }, s.pending⟩) ∧
    (x.trig = false → exec (.adcTrigger r a q) s = .next s) ∧
    (soft → x.phase = .idle →
      s.answers (exec (.adcSeqSw m r a q v) s) (fun e => still e ∧ e.regs = w.regs ∧
        (e.seq r a q).phase = .waiting (d.now + w.fld base F.ADC_SEQ_CFG_delay))) ∧
    (soft → x.phase ≠ .idle → s.answers (exec (.adcSeqSw m r a q v) s) (fun e => still e ∧ (e.seq r a q).phase = x.phase ∧
      e.fld base F.ADC_SEQ_STAT_lost = satInc 8 (d.fld base F.ADC_SEQ_STAT_lost))) ∧
    (¬ soft → exec (.adcSeqSw m r a q v) s = .next ⟨w, s.pending⟩) ∧
    (d.mayStart r a q = true → s.answers (exec (.adcSequenceStart r a q) s) (fun e => still e ∧
      (e.seq r a q).phase = .running d.now 0 ∧ (e.seq r a q).cfg = (d.seqCopy r a q).1 ∧ (e.seq r a q).ents = (d.seqCopy r a q).2)) ∧
    (d.mayStart r a q = false → exec (.adcSequenceStart r a q) s = .next s) ∧
    (∀ y ch, (d.convert r a ch (some y)).1 = adcCode (scaled ch y) ∧
      ∀ z, ch < 16 → d.pin r (16 * a + ch) = some z → (d.convert r a ch none).1 = adcCode z) ∧
    (∀ since i, i < 8 → x.phase = .running since i → since + 80 * (i + 1) ≤ d.now → (q.val = 1 → d.resolverOf r a = none) →
      s.answers (exec (.adcResult r a q see) s) (fun e => e.legs = d.legs ∧ e.units = d.units ∧ next since i e ∧
        ∀ b, b / 4 = r.val → e.loadN (intakeBase b + 4 * (16 * a + 8 * q + i)) 4 = (resultWord (value i) x.count).toNat)) ∧
    (∀ since i f sine, x.phase = .running since i → since + 80 * (i + 1) ≤ d.now → q.val = 1 → d.resolverOf r a = some (f, sine) →
      s.answers (exec (.adcResult r a q see) s) (fun e => e.legs = d.legs ∧ e.units = d.units ∧ next since i e ∧
        ∀ b, b / 4 = r.val → bitsOf (e.loadN (intakeBase b + 4 * (128 + 32 * f + 6)) 4) (if sine then 0 else 16) 16 =
          lowBits 16 (value i).1)) ∧
    (∀ since i, x.phase = .running since i → d.now < since + 80 * (i + 1) → exec (.adcResult r a q see) s = .next s) ∧
    (x.phase.isRunning = false → exec (.adcResult r a q see) s = .next s) ∧
    (idleWindow → ¬ bad → s.answers (exec (.adcBackgroundCheck r a ground uv) s) (fun e => still e ∧ e.regs = d.regs ∧
      (if ground then (e.conv r a).failGnd else (e.conv r a).failRef) = false)) ∧
    (idleWindow → bad → (if ground then c.failGnd else c.failRef) = false →
      s.answers (exec (.adcBackgroundCheck r a ground uv) s) (fun e => still e ∧ flag e a ∧
        (if ground then (e.conv r a).failGnd else (e.conv r a).failRef) = true)) ∧
    (idleWindow → bad → (if ground then c.failGnd else c.failRef) = true →
      s.answers (exec (.adcBackgroundCheck r a ground uv) s) (fun e => flag e a ∧
        bitOf (e.reg (rgnReg r + 0x40)).toNat 0 = true ∧ ∀ b, b / 4 = r.val → (e.lane b).mode = .halted)) ∧
    (¬ idleWindow → exec (.adcBackgroundCheck r a ground uv) s = .next s) ∧
    (¬ idleWindow → c.idleAt + 800000 ≤ d.now → s.answers (exec (.adcCheckStarved r a) s) (fun e => still e ∧
      flag e (8 + a) ∧ (e.conv r a).idleAt = d.now)) ∧
    (idleWindow ∨ d.now < c.idleAt + 800000 → exec (.adcCheckStarved r a) s = .next s)

/-- Sigma-delta inputs and threshold DACs (R199 to R205, R217, R218). Modulator bits enter an enabled input whose clock runs, one a clock. Its output is due 8
cycles after its instant, and lands, with the weighted density of the bits within one unit, in the
intake buffers; a pin at one level for 64 bits is flagged; an overcurrent trips every masked leg that is not OFF and that no HSL action reached in this
cycle. A configuration without divisibility, or a new divider of a clock in
use, is refused. In ADC3's background time each DAC is read back in turn; a code that is off is counted and flagged, and readback 79 ends the pass. -/
def Obligations.SigmaDeltaAndDacs : Prop :=
  ∀ (m : Master) (r : RegionId) (n : Fin 16) (bits : List Bool) (bit : Bool) (uv : Nat) (v : Word) (s : State),
    let d := s.dev
    let base := sdBase r n
    let x := d.sd r n
    let still := fun (e : Dev) => e.mem = d.mem ∧ e.legs = d.legs ∧ e.units = d.units
    let osr := d.fld base F.SD_CFG_osr
    let whole : Int := ((osr * osr * osr : Nat) : Int)
    let on := d.flag base F.SD_CFG_en = true
    let runs := d.sdRuns r n = true
    let due := d.sdInstant r n + 8 ≤ d.now
    let y := (d.sdTake r n (d.sdInstant r n) bits).1.sd r n
    let dens : Int := (2 * (weightOnes (sinc3 osr) y.bits : Int) - whole) * 32768
    let width := d.fld base F.SD_CFG_osr1
    let one := runs ∧ d.sdEdges r n d.now = x.taken + 1
    let z := x.push bit
    let ones := (z.bits.take width).countP (fun b => b)
    let hot := d.flag base F.SD_CFG_oc_en = true ∧ width ≤ z.bits.length ∧
      d.fld base F.SD_OC_thr * width ≤ (2 * (ones : Int) - width).natAbs * 32768
    let taken := Host.Outcome.next (State.mk (d.sdTake r n d.now bits).1 s.pending)
    let w := d.plainWrite m (base + 0x1240) v
    let word := (w.reg (base + 0x1240)).toNat
    let misaligned := bitOf word 2 = true ∧
      w.aligns (4 * r + bitsOf word 4 2) (bitsOf word 7 9) (w.sdDiv r (bitsOf word 1 1)) = false
    let clk := rgnReg r + 0x1200
    let c := d.plainWrite m clk v
    let inUse := fun (k : Nat) => ∃ i < 16, d.flag (sdBase r i) F.SD_CFG_en = true ∧ d.fld (sdBase r i) F.SD_CFG_clk = k
    let near := fun (i j : Nat) => i ≤ j + 32 ∧ j ≤ i + 32
    let bg := d.conv r 3
    let dac := bg.turn - 2
    let turn := d.backgroundDue r 3 = true ∧ 2 ≤ bg.turn ∧ dac < 80
    let good := d.dacFresh r dac = true ∨ near (adcCode uv) (16 * d.dacCode r dac d.now)
    let passTime := Store.get (fun _ => 0) d.passAt r.val + d.fld (rgnReg r) F.RGN_RB_CTRL_timeout * 800000
    (runs → due → 0 < osr → 0 < width → s.answers (exec (.sdDecimationOutput r n bits) s) (fun e =>
      (d.flag base F.SD_CFG_oc_en = false → e.legs = d.legs ∧ e.units = d.units) ∧ (e.sd r n).lastOut = d.sdInstant r n ∧
      (e.sd r n).count = (y.count + 1) % 256 ∧ ∀ b, b / 4 = r.val →
        let word := e.loadN (intakeBase b + 4 * (64 + n)) 4
        (∃ a : Int, dens - whole < a * whole ∧ a * whole < dens + whole ∧ bitsOf word 0 16 = lowBits 16 (satQ15 a).1) ∧
        bitOf word 16 = true ∧ bitOf word 17 = (!y.stuck && decide (3 * osr ≤ y.entered)) ∧
        bitsOf word 24 8 = (y.count + 1) % 256)) ∧
    (¬ due → exec (.sdDecimationOutput r n bits) s = taken) ∧
    exec (.sdStuck r n bits) s = taken ∧ exec (.sinc1Overcurrent r n bits) s = taken ∧
    (¬ runs → exec (.sdDecimationOutput r n bits) s = .next s ∧ taken = .next s) ∧
    (d.sdEdges r n d.now ≤ x.taken → taken = .next s) ∧
    (one → x.bits.head? = some bit → 63 ≤ x.run → s.answers (exec (.sdStuck r n [bit]) s) (fun e => (e.sd r n).stuck = true ∧
      (x.stuck = false → bitOf (e.reg (rgnReg r + 0x1300)).toNat n = true))) ∧
    (one → x.bits.head? ≠ some bit → s.answers (exec (.sdStuck r n [bit]) s) (fun e => (e.sd r n).stuck = false)) ∧
    (one → hot → x.tripped = none → s.answers (exec (.sinc1Overcurrent r n [bit]) s) (fun e => e.mem = d.mem ∧
      bitOf (e.reg (rgnReg r + 0x1300)).toNat (16 + n) = true ∧
      ∀ j < 32, bitOf (d.fld base F.SD_OCMASK_legs) j = true → let l := d.leg (32 * r + j)
        l.st ≠ .off → (l.st = .fault ∨ l.hsl = false ∨ l.tripAt ≠ some d.now) →
        (e.leg (32 * r + j)).st = .fault ∧ (e.leg (32 * r + j)).drvH = false ∧ (e.leg (32 * r + j)).drvL = false)) ∧
    (one → ¬ hot → s.answers (exec (.sinc1Overcurrent r n [bit]) s) (fun e => still e ∧ (e.sd r n).tripped = none)) ∧
    (misaligned → exec (.sdCfgWrite m r n v) s = .next ⟨d.raise Ev.AFE_CFG_REFUSED (scopeRgn r) 0, s.pending⟩) ∧
    (¬ misaligned → s.answers (exec (.sdCfgWrite m r n v) s) (fun e => still e ∧ e.regs = w.regs ∧ (e.sd r n).unaligned = false ∧
      (on → bitOf word 0 = true → bitsOf word 1 1 = bitsOf (d.reg (base + 0x1240)).toNat 1 1 →
        bitsOf word 7 9 = bitsOf (d.reg (base + 0x1240)).toNat 7 9 → bitsOf word 16 3 = bitsOf (d.reg (base + 0x1240)).toNat 16 3 →
        (e.sd r n).since = x.since ∧ (e.sd r n).count = x.count) ∧
      (¬ on → bitOf word 0 = true → (e.sd r n).since = d.now ∧ (e.sd r n).bits = [] ∧ (e.sd r n).count = 0))) ∧
    ((∃ k < 2, inUse k ∧ d.sdDiv r k ≠ c.sdDiv r k) →
      exec (.sdClkWrite m r v) s = .next ⟨d.raise Ev.AFE_CFG_REFUSED (scopeRgn r) 0, s.pending⟩) ∧
    ((∀ k < 2, inUse k → d.sdDiv r k = c.sdDiv r k) → s.answers (exec (.sdClkWrite m r v) s) (fun e =>
      e.reg clk = c.reg clk ∧ e.mem = d.mem ∧
      (bitsOf (c.reg clk).toNat 16 2 = bitsOf (d.reg clk).toNat 16 2 → e = c) ∧
      (on → bitOf (c.reg clk).toNat (16 + d.fld base F.SD_CFG_clk) ≠ bitOf (d.reg clk).toNat (16 + d.fld base F.SD_CFG_clk) →
        (e.sd r n).since = d.now ∧ (e.sd r n).taken = 0 ∧ (e.sd r n).lastOut = d.now))) ∧
    (turn → good → s.answers (exec (.dacReadback r uv) s) (fun e => still e ∧
      (dac ≠ 79 → e.regs = d.regs ∧ (e.conv r 3).turn = bg.turn + 1) ∧
      (dac = 79 → (e.conv r 3).turn = 0 ∧ Store.get (fun _ => 0) e.passAt r.val = d.now ∧
        e.regs = (d.bumpWrap (rgnReg r) F.RGN_RB_STAT_passes).regs))) ∧
    (turn → ¬ good → s.answers (exec (.dacReadback r uv) s) (fun e => e.mem = d.mem ∧
      e.fld (rgnReg r) F.RGN_RB_STAT_fails = satInc 16 (d.fld (rgnReg r) F.RGN_RB_STAT_fails) ∧
      bitOf (e.reg (rgnReg r + 0x1608 + dac / 32 * 4)).toNat (dac % 32) = true ∧
      ∀ u, dac < 64 → d.owner (32 * r + dac % 32) = some u → d.flag (4 * u) F.HSL_UFIN_rb_en = true →
        bitOf (e.reg (unitReg u + 0x0C)).toNat 4 = true)) ∧
    (d.backgroundDue r 3 = false ∨ bg.turn < 2 → exec (.dacReadback r uv) s = .next s) ∧
    (passTime ≤ d.now → s.answers (exec (.dacRbStarved r) s) (fun e => still e ∧ Store.get (fun _ => 0) e.passAt r.val = d.now)) ∧
    (d.now < passTime → exec (.dacRbStarved r) s = .next s)

/-- Shed sequencers and window comparators (R213, R291 to R299). A marked start sheds the active phase of highest rank from step 1, its completion takes that leg out of the
active ones and dwells; the ends of dwell and hold-off lead to IDLE. Once the raw output that a window comparator's input makes has held for its filter time the filtered
output follows: active it latches, counts and shows in the intake buffers, and a sequencer that listens to it
and sheds is aborted into HOLD_OFF. Without its mark a command does nothing, and no leg outside the served ones changes. -/
def Obligations.ShedSequencers : Prop :=
  ∀ (r : RegionId) (q : Fin 2) (n : Fin 16) (volts : Option Nat) (s : State),
    let d := s.dev
    let a := shdBase r q
    let mark := (d.shed r q).mark
    let others := fun (e : Dev) => e.mem = d.mem ∧ e.units = d.units ∧ ∀ k, k ∉ d.servedLegs r q → k ∉ d.activeLegs r q → e.leg k = d.leg k
    let listens := d.flag a F.SHD_CFG_en = true ∧ d.flag a F.SHD_CFG_win_en = true ∧ d.fld a F.SHD_CFG_win = n.val ∧
      (d.unit (d.fld a F.SHD_CFG_unit)).active = true ∧ d.referenceLeg r q ≠ none
    let base := winBase r n
    let f := d.seeWindow r n volts
    let window := exec (.windowComparatorActive r n volts) s
    (mark = some .start → d.referenceLeg r q ≠ none → s.answers (exec (.shedStart r q) s) (fun e => others e ∧
      e.shdState r q = shdShedding ∧ e.fld a F.SHD_STAT_j = 1 ∧ e.fld a F.SHD_STAT_leg = (d.activeLegs r q).getLastD 0 % 32)) ∧
    (mark ≠ some .start ∨ d.referenceLeg r q = none → exec (.shedStart r q) s = .next s) ∧
    (mark = some .complete → s.answers (exec (.shedComplete r q) s) (fun e => others e ∧ e.shdState r q = shdDwell ∧
      e.fld a F.SHD_STAT_n_act = (d.activeLegs r q).length - 1 ∧ e.fld a F.SHD_CNT_sheds = satInc F.SHD_CNT_sheds.w (d.fld a F.SHD_CNT_sheds) ∧
      (e.shed r q).mark = none ∧ (e.shed r q).count = 0)) ∧
    (mark ≠ some .complete → exec (.shedComplete r q) s = .next s) ∧
    (mark = some .dwellEnd → s.answers (exec (.shedDwellEnd r q) s) (fun e => e.shdState r q = shdIdle ∧ e.legs = d.legs ∧ others e)) ∧
    (mark ≠ some .dwellEnd → exec (.shedDwellEnd r q) s = .next s) ∧
    (mark = some .holdEnd → s.answers (exec (.shedHoldOffEnd r q) s) (fun e => e.shdState r q = shdIdle ∧ e.legs = d.legs ∧ others e)) ∧
    (mark ≠ some .holdEnd → exec (.shedHoldOffEnd r q) s = .next s) ∧
    (f.filterDone r n = false → window = .next ⟨f, s.pending⟩) ∧
    (∀ t, f.rawSince r n = some t → f.filterDone r n = decide (t + d.fld base F.WIN_CFG_filt ≤ d.now)) ∧
    (f.rawSince r n = none → f.filterDone r n = false) ∧
    (f.filterDone r n = true → f.raw r n = true → s.answers window (fun e => e.units = d.units ∧
      e.flag base F.WIN_STAT_latched = true ∧ e.flag base F.WIN_STAT_out = true ∧
      e.fld base F.WIN_STAT_count = satInc 16 (d.fld base F.WIN_STAT_count) ∧
      (∀ b, b / 4 = r.val → bitOf (e.loadN (intakeBase b + 4 * 96) 4) (16 + n) = true ∧
        bitOf (e.loadN (intakeBase b + 4 * 96) 4) n = true) ∧
      (listens → d.shdState r q = shdShedding → e.shdState r q = shdHoldOff ∧
        e.fld a F.SHD_CNT_aborts = satInc F.SHD_CNT_aborts.w (d.fld a F.SHD_CNT_aborts)))) ∧
    (f.filterDone r n = true → f.raw r n = false → s.answers window (fun e => e.units = d.units ∧ e.legs = d.legs ∧
      e.flag base F.WIN_STAT_out = false ∧ e.flag base F.WIN_STAT_latched = d.flag base F.WIN_STAT_latched ∧
      ∀ b, b / 4 = r.val → bitOf (e.loadN (intakeBase b + 4 * 96) 4) n = false))

/-- Rainflow channels (R22, R422, R423). The sample that a channel owes, read when the port of its data memory is free, moves its running extreme with the signal; a reversal below the hysteresis changes nothing, one of
at least the hysteresis turns it. A full cycle of the four-point rule is the inner pair of the four newest points whose range neither neighbour
undercuts. Registers of an enabled channel, and RF_CFG while any is, cannot be written; an enable empties the stack. -/
def Obligations.Rainflow : Prop :=
  ∀ (m : Master) (r : RegionId) (n : Fin 16) (v : Word) (s : State),
    let d := s.dev
    let base := rfBase r n
    let x := d.rf r n
    let a := blkBase (4 * r + d.fld base F.RF_CH_blk) + 0x40000 + d.fld base F.RF_CH_addr / 2 * 2
    let t := signed 16 (d.loadN a 2)
    let on := d.flag base F.RF_CH_en = true
    let port := d.rfPort r n
    let reads := x.dueFrom ≠ none ∧ d.portBusy port = false
    let due := reads ∧ on ∧ d.isBad a = false
    let still := fun (e : Dev) => e.legs = d.legs ∧ e.units = d.units ∧ (e.rf r n).dueFrom = none
    let kept := fun (e : Dev) => still e ∧ e.mem = d.mem ∧ e.regs = d.regs ∧ (e.rf r n).stack = x.stack
    let refused := Host.Outcome.next (State.mk (d.raise Ev.RF_CFG_REFUSED (scopeRgn r) 0) s.pending)
    (due → x.last = none → s.answers (exec (.rainflowSample r n) s) (fun e => kept e ∧ (e.rf r n).last = some t)) ∧
    (∀ y, due → x.last = some y → (if x.up then y ≤ t else t ≤ y) → s.answers (exec (.rainflowSample r n) s) (fun e =>
      kept e ∧ (e.rf r n).last = some t ∧ (e.rf r n).up = x.up)) ∧
    (∀ y, due → x.last = some y → ¬ (if x.up then y ≤ t else t ≤ y) → 10 * (t - y).natAbs < 16 * d.fld (rgnReg r) F.RF_CFG_hyst →
      s.answers (exec (.rainflowSample r n) s) (fun e => kept e ∧ (e.rf r n).last = some y ∧ (e.rf r n).up = x.up)) ∧
    (∀ y, due → x.last = some y → ¬ (if x.up then y ≤ t else t ≤ y) → 16 * d.fld (rgnReg r) F.RF_CFG_hyst ≤ 10 * (t - y).natAbs →
      s.answers (exec (.rainflowSample r n) s) (fun e => still e ∧ (e.rf r n).last = some t ∧ (e.rf r n).up = !x.up ∧
        (e.rf r n).stack = (fourPoint 32 (y :: if 64 ≤ x.stack.length then x.stack.dropLast else x.stack)).2)) ∧
    (reads → ¬ on → exec (.rainflowSample r n) s = .next ⟨(d.usePort port).setRf r n { x with dueFrom := none }, s.pending⟩) ∧
    (x.dueFrom = none ∨ d.portBusy port = true → exec (.rainflowSample r n) s = .next s) ∧
    (∀ (l : List Int) (i : Nat), (fourPoint i l).2.length + 2 * (fourPoint i l).1.length = l.length) ∧
    (on → exec (.rfCfgWrite m r (.ch n) v) s = refused ∧ exec (.rfCfgWrite m r .cfg v) s = refused ∧ exec (.rfCfgWrite m r .base v) s = refused) ∧
    (¬ on → s.answers (exec (.rfCfgWrite m r (.ch n) v) s) (fun e => e.mem = d.mem ∧ e.legs = d.legs ∧
      e.reg (base + 0x1E00) = (d.plainWrite m (base + 0x1E00) v).reg (base + 0x1E00) ∧
      (e.flag base F.RF_CH_en = true → (e.rf r n).stack = [] ∧ e.fld base F.RF_STAT_depth = 0 ∧ (e.rf r n).last = none))) ∧
    (d.rfAnyOn r = false → exec (.rfCfgWrite m r .cfg v) s = .next ⟨d.plainWrite m (rgnReg r + 0x1F00) v, s.pending⟩ ∧
      exec (.rfCfgWrite m r .base v) s = .next ⟨d.plainWrite m (rgnReg r + 0x1F04) v, s.pending⟩)

/-- Quadrature, Hall and SSI sampling (R257 to R266, R271, R274). A pin takes a new level once it has held it for filt. Of A and B one new level counts by one in the
direction it shows, two at once are illegal and leave the
count; a rise of Z is recorded and by its mode zeroes or corrects it; an adjacent Hall state enters its sector, another jumps and restarts the
measurement. A sample lands its words four cycles later, or starts an SSI frame; an invalid Hall state holds angle and speed. An enabled channel's sensor cannot be
changed. -/
def Obligations.FeedbackEdges : Prop :=
  ∀ (m : Master) (r : RegionId) (f : Fin 2) (a b z : Bool) (st : BitVec 3) (v : Word) (s : State),
    let d := s.dev
    let base := fbBase r f
    let x := d.fb r f
    let still := fun (e : Dev) => e.mem = d.mem ∧ e.legs = d.legs
    let quiet := fun (e : Dev) => still e ∧ e.regs = d.regs ∧ e.units = d.units
    let y := fun (e : Dev) => e.fb r f
    let qep := d.fbIs r f 0 = true
    let pass := fun (p : FbPin) (l : Bool) => (p.see d.now d.ns l).served d.now (d.fld base F.FB_CFG_filt)
    let pa := pass x.pinA a
    let pb := pass x.pinB b
    let pz := pass x.pinZ z
    let edge := exec (.qepEdge r f a b) s
    let calm := ¬ (x.pinZ.out = false ∧ (pass x.pinZ x.pinZ.level).out = true)
    let up := qepUp x.pinA.out pa.out pb.out != d.flag base F.FB_QEP_dir
    let index := exec (.indexEdge r f z) s
    let rises := qep ∧ (pass x.pinA x.pinA.level).out = x.pinA.out ∧ (pass x.pinB x.pinB.level).out = x.pinB.out ∧
      x.pinZ.out = false ∧ pz.out = true
    let open_ := rises ∧ (d.flag base F.FB_QEP_idx_gate = false ∨ (x.pinA.out = true ∧ x.pinB.out = true))
    let mode := d.fld base F.FB_QEP_idx_mode
    let near := nearestMultiple x.count (d.qepCounts r f)
    let off := (d.fld base F.FB_IDX_tol : Int) < (x.count - near).natAbs
    let ha := pass x.pinA (st.getLsbD 0)
    let hb := pass x.pinB (st.getLsbD 1)
    let hz := pass x.pinZ (st.getLsbD 2)
    let code := flagBit ha.out + 2 * flagBit hb.out + 4 * flagBit hz.out
    let k := d.hallSector r f (BitVec.ofNat 3 code)
    let hall := d.fbIs r f 1 = true ∧ code ≠ x.hall ∧ code ≠ 0 ∧ code ≠ 7
    let change := exec (.hallStateChange r f st) s
    let at_ := fun (e : Dev) (v : Nat) => (y e).fine = v ∧ (y e).turns = turnsAfter x.turns (d.hallWord r f x.fine) (d.hallWord r f v)
    let start := fun (j : Nat) => if d.flag base F.FB_HALL_interp then fineOf j 6 else fineOf (2 * k + 1) 12
    let w := d.plainWrite m (base + 0x1C00) v
    let field := fun (e : Dev) (lo n : Nat) => bitsOf (e.reg (base + 0x1C00)).toNat lo n
    let same := ∀ p ∈ [(1, 2), (16, 8), (24, 4)], field w p.1 p.2 = field d p.1 p.2
    let on := d.flag base F.FB_CFG_en = true
    let fits := w.fld base F.FB_CFG_src ≠ 3 ∧ ∀ j < 8, w.sfBad j = true → d.sfBad j = true
    let refused := Host.Outcome.next (State.mk (d.raise Ev.FB_CFG_REFUSED (scopeRgn r) 0) s.pending)
    (qep → calm → (pa.out = x.pinA.out ↔ pb.out ≠ x.pinB.out) → s.answers edge (fun e => quiet e ∧ (y e).pinA = pa ∧ (y e).pinB = pb ∧
      (y e).up = up ∧ (y e).count = (if up then x.count + 1 else x.count - 1) ∧
      (y e).lastEdge = (if pa.out = x.pinA.out then pb.since else pa.since) ∧ (y e).edges.head? = some (y e).lastEdge)) ∧
    (qep → calm → pa.out ≠ x.pinA.out → pb.out ≠ x.pinB.out → s.answers edge (fun e => e.mem = d.mem ∧ (y e).count = x.count ∧
      (y e).pinA = pa ∧ (y e).pinB = pb ∧
      e.fld base F.FB_ERR_B_qep_ill = satInc F.FB_ERR_B_qep_ill.w (d.fld base F.FB_ERR_B_qep_ill) ∧
      (3 ≤ (x.illegalAt.filter (fun t => decide (d.now < t + 800000))).length →
        bitOf (e.reg (base + 0x1C38)).toNat 1 = true ∧ (y e).valid = false))) ∧
    (qep → calm → pa.out = x.pinA.out → pb.out = x.pinB.out → s.answers edge (fun e => quiet e ∧
      y e = { x with pinA := pa, pinB := pb, pinZ := pass x.pinZ x.pinZ.level })) ∧
    (d.fbIs r f 0 = false → d.fbIs r f 1 = false → s.answers edge (fun e => quiet e ∧
        y e = { x with pinA := pa, pinB := pb, pinZ := pass x.pinZ x.pinZ.level }) ∧
      s.answers change (fun e => quiet e ∧ y e = { x with pinA := ha, pinB := hb, pinZ := hz })) ∧
    (open_ → mode = 1 → s.answers index (fun e => still e ∧ (y e).count = x.count ∧ (y e).indexed = true ∧
      e.fld base F.FB_IDX_AT_at = lowBits 32 x.count)) ∧
    (open_ → 2 ≤ mode → x.indexed = false → s.answers index (fun e => still e ∧ (y e).count = 0 ∧ (y e).indexed = true ∧
      e.fld base F.FB_IDX_AT_at = lowBits 32 x.count)) ∧
    (open_ → 2 ≤ mode → x.indexed = true → s.answers index (fun e => still e ∧
      (y e).count = (if mode = 3 ∧ off then near else x.count) ∧ e.fld base F.FB_IDX_AT_at = lowBits 32 x.count ∧
      (off → e.fld base F.FB_ERR_B_qep_idx = satInc F.FB_ERR_B_qep_idx.w (d.fld base F.FB_ERR_B_qep_idx)))) ∧
    (rises → mode = 0 ∨ ¬ open_ → s.answers index (fun e => quiet e ∧ (y e).count = x.count ∧ (y e).pinZ = pz)) ∧
    (∀ k0, hall → x.sector = some k0 → k ≠ k0 → k = (k0 + 1) % 6 → s.answers change (fun e => quiet e ∧
      (y e).sector = some k ∧ (y e).up = true ∧ (y e).hold = false ∧ at_ e (start k))) ∧
    (∀ k0, hall → x.sector = some k0 → k ≠ k0 → k ≠ (k0 + 1) % 6 → k0 = (k + 1) % 6 → s.answers change (fun e => quiet e ∧
      (y e).sector = some k ∧ (y e).up = false ∧ (y e).hold = false ∧ at_ e (start (k + 1)))) ∧
    (∀ k0, hall → x.sector = some k0 → k ≠ k0 → k ≠ (k0 + 1) % 6 → k0 ≠ (k + 1) % 6 → s.answers change (fun e => still e ∧
      (y e).sector = some k ∧ (y e).edges = [] ∧ at_ e (fineOf (2 * k + 1) 12) ∧
      e.fld base F.FB_ERR_A_hall_skip = satInc F.FB_ERR_A_hall_skip.w (d.fld base F.FB_ERR_A_hall_skip))) ∧
    (hall → x.sector = some k → s.answers change (fun e => quiet e ∧ y e = { x with pinA := ha, pinB := hb, pinZ := hz, hold := false })) ∧
    (hall → x.sector = none → s.answers change (fun e => quiet e ∧ (y e).sector = some k ∧ (y e).fine = fineOf (2 * k + 1) 12 ∧
      (y e).edges = [])) ∧
    (d.fbIs r f 1 = true → ¬ hall → s.answers change (fun e => quiet e ∧ y e = { x with pinA := ha, pinB := hb, pinZ := hz })) ∧
    (qep → x.trig = true → s.answers (exec (.fbSample r f) s) (fun e => quiet e ∧ (y e).trig = false ∧ (y e).samples = (x.samples + 1) % 256 ∧
      ⟨d.now + 4, r.val, fbWord f, d.fbAngle r f, 0⟩ ∈ e.landings ∧
      ⟨d.now + 4, r.val, fbWord f + 6, BitVec.ofInt 32 x.count, 0⟩ ∈ e.landings)) ∧
    (d.fbIs r f 1 = true → x.trig = true → x.hall ≠ 0 → x.hall ≠ 7 → s.answers (exec (.fbSample r f) s) (fun e => quiet e ∧
      (y e).samples = (x.samples + 1) % 256 ∧ ⟨d.now + 4, r.val, fbWord f, d.fbAngle r f, 0⟩ ∈ e.landings)) ∧
    (d.fbIs r f 1 = true → x.trig = true → x.hall = 0 ∨ x.hall = 7 → s.answers (exec (.fbSample r f) s) (fun e => e.mem = d.mem ∧
      (y e).hold = true ∧ (y e).heldSpeed = d.signedSpeed r f ∧ (y e).fine = x.fine ∧
      e.fld base F.FB_ERR_A_hall_inv = satInc F.FB_ERR_A_hall_inv.w (d.fld base F.FB_ERR_A_hall_inv) ∧
      (3 ≤ x.hallBad → bitOf (e.reg (base + 0x1C38)).toNat 0 = true ∧ (y e).valid = false))) ∧
    (d.fbIs r f 2 = true → x.trig = true → s.answers (exec (.fbSample r f) s) (fun e => quiet e ∧ (y e).samples = (x.samples + 1) % 256 ∧
      ⟨d.now + 4, r.val, fbWord f, d.observerAngle r f, 0⟩ ∈ e.landings)) ∧
    (d.fbIs r f 3 = true → x.trig = true → x.frame = none → s.answers (exec (.fbSample r f) s) (fun e => quiet e ∧
      (y e).frame = some (d.now, max d.now x.nextFrame) ∧ (y e).trig = false)) ∧
    (d.fbIs r f 3 = true → x.trig = true → x.frame ≠ none → s.answers (exec (.fbSample r f) s) (fun e => still e ∧
      (y e).frame = x.frame ∧ (y e).trig = false)) ∧
    (¬ on → x.trig = true → exec (.fbSample r f) s = .next ⟨d.setFb r f { x with trig := false }, s.pending⟩) ∧
    (x.trig = false → exec (.fbSample r f) s = .next s) ∧
    (qep → x.hold = false → d.zeroDue r f = decide (x.lastEdge + d.fld base F.FB_ZS_timeout * 800 ≤ d.now)) ∧
    (d.zeroDue r f = true → exec (.zeroSpeedTimeout r f) s = .next ⟨d.setFb r f { x with zero := true }, s.pending⟩) ∧
    (d.zeroDue r f = false → exec (.zeroSpeedTimeout r f) s = .next s) ∧
    (on → ¬ same → exec (.fbCfgWrite m r f .cfg v) s = refused) ∧
    (on → same → w.flag base F.FB_CFG_en = true → fits → exec (.fbCfgWrite m r f .cfg v) s = .next ⟨w, s.pending⟩) ∧
    (¬ on → w.flag base F.FB_CFG_en = true → fits → s.answers (exec (.fbCfgWrite m r f .cfg v) s) (fun e => still e ∧ e.regs = w.regs ∧
        (y e).valid = false ∧ (y e).edges = [] ∧ (y e).lastEdge = d.now ∧ (y e).indexed = false ∧ (y e).sector = none)) ∧
    (bitsOf v.toNat 0 2 = bitsOf v.toNat 2 2 → exec (.fbCfgWrite m r f .resCfg v) s = refused) ∧
    (bitsOf v.toNat 0 2 ≠ bitsOf v.toNat 2 2 →
      exec (.fbCfgWrite m r f .resCfg v) s = .next ⟨d.plainWrite m (base + 0x1C20) v, s.pending⟩) ∧
    s.answers (exec (.fbCfgWrite m r f .qep v) s) (fun e => still e ∧ e.regs = (d.plainWrite m (base + 0x1C0C) v).regs ∧
      e.linesOf r f = d.linesOf r f)

/-- Resolver, SSI frames and probes (R267 to R272, R276, R277, R474). A peak of the excitation triggers both converters, once, or costs the pair where one of them is
busy. A pair of exact
samples shows its amplitude, a skipped one is counted. A frame is judged when its clocks and dcomp have passed: a good one becomes the position of its instant, a
bad one leaves it and the third in a row is a fault. A new level of a probe latches the channel's angle; the
selected edge that passes the filter confirms angle and time of the edge, and overflows where the last one was still new. -/
def Obligations.ResolverSsiProbes : Prop :=
  ∀ (r : RegionId) (f q : Fin 2) (positive level : Bool) (line : List Bool) (s : State),
    let d := s.dev
    let base := fbBase r f
    let x := d.fb r f
    let still := fun (e : Dev) => e.mem = d.mem ∧ e.legs = d.legs
    let y := fun (e : Dev) => e.fb r f
    let a := d.fld base F.RES_CFG_adc_s
    let c := d.fld base F.RES_CFG_adc_c
    let peak := d.excPeak r f = some positive ∧ x.peakAt ≠ d.now + 1
    let runs := peak ∧ a ≠ c
    let phase := fun (e : Dev) (i : Nat) => (e.seq r i 1).phase
    let n := d.fld base F.FB_SSI_bits
    let bits := (line.drop 1).take n
    let p := d.ssiPosition r f bits
    let jump := d.fld base F.FB_SSI_jump
    let ends := fun (t : Nat) => d.frameEnd r f t ≤ d.now ∧ line.length = n + 2 ∧ d.fbIs r f 3 = true
    let bad := line.headD true = false ∨ line.getD (n + 1) false = true ∨
      (d.flag base F.FB_SSI_err_bit = true ∧ bits.getD (d.fld base F.FB_SSI_st + 1 + d.fld base F.FB_SSI_mt) false = true) ∨
      ∃ p0 t0, x.good = some (p0, t0) ∧ jump ≠ 0 ∧ jump * 2 ^ 20 < (p - p0).natAbs
    let prb := rgnReg r + 0x20 * q.val
    let o := d.prb r q
    let sel := d.fld prb F.PRB_CFG_edge
    let passes := o.pin.level = level ∧ o.pin.passes d.now (d.fld prb F.PRB_CFG_filt) = true
    let selected := d.flag prb F.PRB_CFG_en = true ∧ (if level then sel ≠ 2 else sel = 2 ∨ sel = 3)
    let angle := if o.pin.since = d.now then d.probeAngle r q else o.angle
    let word := fbWord (d.fld prb F.PRB_CFG_ch) + 8 + 2 * d.fld prb F.PRB_CFG_slot
    let probe := exec (.probeEdge r q level) s
    (runs → phase d a = .idle → phase d c = .idle → s.answers (exec (.resPeakTrigger r f positive) s) (fun e => still e ∧ e.regs = d.regs ∧
      phase e a = .waiting (d.now + d.fld base F.RES_CFG_phase) ∧ phase e c = .waiting (d.now + d.fld base F.RES_CFG_phase) ∧
      (y e).positive = positive ∧ (y e).skip = x.skip ∧ (y e).peakAt = d.now + 1)) ∧
    (runs → phase d a ≠ .idle ∨ phase d c ≠ .idle → s.answers (exec (.resPeakTrigger r f positive) s) (fun e => still e ∧ (y e).skip = true ∧
      (phase d a ≠ .idle → phase e a = phase d a))) ∧
    (¬ peak → exec (.resPeakTrigger r f positive) s = .next s) ∧
    (d.pairDue r f = true → x.skip = true → s.answers (exec (.resPair r f) s) (fun e => e.mem = d.mem ∧ (y e).skip = false ∧ (y e).skips = x.skips + 1 ∧
      (y e).posS = none ∧ e.fld base F.FB_ERR_C_res_skip = satInc F.FB_ERR_C_res_skip.w (d.fld base F.FB_ERR_C_res_skip) ∧
      (2 ≤ x.skips → bitOf (e.reg (base + 0x1C38)).toNat 4 = true))) ∧
    (∀ ps ns pc nc sv cv : Int, ∀ amp : Nat, d.pairDue r f = true → x.skip = false → x.posS = some ps → x.negS = some ns → x.posC = some pc →
      x.negC = some nc → ps - ns = 2 * sv → pc - nc = 2 * cv → sv * sv + cv * cv = (amp : Int) * amp →
      s.answers (exec (.resPair r f) s) (fun e => e.mem = d.mem ∧ (y e).paired = true ∧ (y e).posS = none ∧ (y e).phiAt = d.now ∧
        (y e).skips = 0 ∧ e.fld base F.RES_MON_amp = min amp 0xFFFF)) ∧
    (d.pairDue r f = false → exec (.resPair r f) s = .next s) ∧
    (∀ i t, x.frame = some (i, t) → ends t → ¬ bad → s.answers (exec (.ssiFrameEnd r f line) s) (fun e =>
      still e ∧ e.regs = d.regs ∧ (y e).frame = none ∧ (y e).good = some (p, i) ∧ (y e).before = x.good ∧ (y e).badRun = 0)) ∧
    (∀ i t, x.frame = some (i, t) → ends t → bad → s.answers (exec (.ssiFrameEnd r f line) s) (fun e =>
      e.mem = d.mem ∧ (y e).frame = none ∧ (y e).good = x.good ∧ (y e).badRun = x.badRun + 1 ∧
      e.fld base F.FB_ERR_C_ssi_err = satInc F.FB_ERR_C_ssi_err.w (d.fld base F.FB_ERR_C_ssi_err) ∧
      (2 ≤ x.badRun → bitOf (e.reg (base + 0x1C38)).toNat 5 = true ∧ (y e).valid = false))) ∧
    (∀ i t, x.frame = some (i, t) → d.now < d.frameEnd r f t → exec (.ssiFrameEnd r f line) s = .next s) ∧
    (x.frame = none → exec (.ssiFrameEnd r f line) s = .next s) ∧
    (o.pin.level ≠ level → probe = .next ⟨d.setPrb r q ⟨o.pin.see d.now d.ns level, d.probeAngle r q⟩, s.pending⟩) ∧
    (passes → selected → s.answers probe (fun e => e.legs = d.legs ∧ e.reg (prb + 0x1D04) = angle ∧
      e.reg (prb + 0x1D08) = o.pin.ns.setWidth 32 ∧ e.flag prb F.PRB_STAT_new = true ∧ (e.prb r q).pin.out = level ∧
      (d.flag prb F.PRB_STAT_new = true → e.flag prb F.PRB_STAT_ovf = true) ∧
      (d.flag prb F.PRB_STAT_new = false → e.flag prb F.PRB_STAT_ovf = d.flag prb F.PRB_STAT_ovf) ∧
      ∀ i, i / 4 = r.val → e.loadN (intakeBase i + 4 * word) 4 = angle.toNat)) ∧
    (passes → ¬ selected → probe = .next ⟨d.setPrb r q { o with pin := { o.pin with out := level } }, s.pending⟩) ∧
    (o.pin.level = level → o.pin.passes d.now (d.fld prb F.PRB_CFG_filt) = false → probe = .next s)

/-- Capture units (R452 to R454, R459). An arm that fits makes the unit ARMED with a new ring, else it is refused; a trigger of a unit ARMED in an earlier cycle, by software
or noted, makes it
TRIGGERED with its time; a record is stored at its place in the ring and nowhere else (one that would overwrite one of the last pre records before the trigger is not stored), the first at or after the trigger is the trigger record, and the last one after it
makes the unit DONE. A running unit keeps its sampling configuration. -/
def Obligations.CaptureUnits : Prop :=
  ∀ (m : Master) (r : RegionId) (reg : CapReg) (v : Word) (s : State),
    let d := s.dev
    let base := rgnReg r
    let x := d.cap r
    let y := fun (e : Dev) => e.cap r
    let still := fun (e : Dev) => e.mem = d.mem ∧ e.legs = d.legs ∧ e.units = d.units
    let w := d.plainWrite m (base + 0x2900) v
    let free := x.st = .idle ∨ x.st = .done
    let mine := free ∨ bitsOf v.toNat 16 4 = d.capN r
    let fits := d.fld base F.CAP_LEN_pre + d.fld base F.CAP_LEN_post ≤ w.capQ r ∧ d.fld base F.CAP_LEN_post ≠ 0 ∧
      w.dmaReads (w.capBase r) (4 * (w.capN r + 2) * w.capQ r) = false
    let ready := x.st = .armed ∧ x.armAt ≠ d.now + 1
    let at_ := d.capBase r + 4 * (d.capN r + 2) * x.next
    let size := 4 * (d.capN r + 2)
    let back := fun (k : Nat) => (k + d.capQ r - x.next) % d.capQ r
    let kept := ∃ k, x.trigRec = some k ∧ 1 ≤ back k ∧ back k ≤ d.fld base F.CAP_LEN_pre ∧ back k ≤ x.before
    let triggered := fun (e : Dev) (t : Nat) => (y e).st = .triggered ∧ (y e).trigAt = t ∧ (y e).left = d.fld base F.CAP_LEN_post ∧
      e.fld base F.CAP_STAT_state = 2 ∧ e.reg (base + 0x2930) = d.ns.setWidth 32 ∧ still e
    let writes := fun (off : Nat) (x : Word) => Host.Outcome.next (State.mk (d.plainWrite m (base + off) x) s.pending)
    (mine → bitOf v.toNat 0 = true → fits → s.answers (exec (.capArm m r v) s) (fun e =>
      y e = { CapUnit.initial with st := .armed, armAt := d.now + 1 } ∧ e.fld base F.CAP_STAT_state = 1 ∧ still e)) ∧
    (free → bitOf v.toNat 0 = true → ¬ fits → s.answers (exec (.capArm m r v) s) (fun e =>
      e = w.raise Ev.CAP_CFG_REFUSED (scopeRgn r) 0 ∧ (y e).st = x.st ∧ still e)) ∧
    (ready → bitOf v.toNat 0 = false → bitOf v.toNat 1 = true → mine →
      s.answers (exec (.capSoftTrigger m r v) s) (fun e => triggered e d.now)) ∧
    (mine → bitOf v.toNat 0 = false → bitOf v.toNat 1 = false ∨ ¬ ready → exec (.capSoftTrigger m r v) s = .next ⟨w, s.pending⟩) ∧
    exec (.capCfgWrite m r .cfg v) s = exec (.capArm m r v) s ∧ exec (.capSoftTrigger m r v) s = exec (.capArm m r v) s ∧
    (∀ t, ready → x.noted = some t → s.answers (exec (.capTrigger r) s) (fun e => triggered e t)) ∧
    (x.noted = none ∨ ¬ ready → exec (.capTrigger r) s = .next s) ∧
    (free → exec (.capCfgWrite m r .smp v) s = writes 0x2904 v ∧
      exec (.capCfgWrite m r .base v) s = writes 0x2910 (BitVec.ofNat 32 (withBits v.toNat 12 8 (min (bitsOf v.toNat 12 8) 0xB0))) ∧
      ∀ k, exec (.capCfgWrite m r (.sel k) v) s = writes (0x2914 + 4 * k.val) v) ∧
    (¬ free → reg ≠ .cfg → exec (.capCfgWrite m r reg v) s = .next ⟨d.raise Ev.CAP_CFG_REFUSED (scopeRgn r) 0, s.pending⟩) ∧
    (∀ i rest, x.waiting = i :: rest → i.due ≤ d.now → x.st = .armed ∨ x.st = .triggered → d.bad = [] → ¬ kept →
      s.answers (exec (.capRecord r) s) (fun e => e.loadN at_ 4 = i.ns.toNat ∧ (y e).written = x.written + 1 ∧ e.legs = d.legs ∧ e.units = d.units ∧
        (y e).next = (x.next + 1) % d.capQ r ∧ (∀ b, b < at_ ∨ at_ + size ≤ b → e.byte b = d.byte b) ∧
        (∀ k, x.trigRec = some k → x.left = 1 → (y e).st = .done ∧ e.fld base F.CAP_STAT_state = 3 ∧ e.fld base F.CAP_POS2_trig = k % 2 ^ F.CAP_POS2_trig.w) ∧
        (x.trigRec = none → x.st = .triggered → x.trigAt ≤ i.at_ → 1 < x.left → (y e).trigRec = some x.next ∧ (y e).left = x.left - 1) ∧
        (x.trigRec = none → x.st = .armed → (y e).st = .armed ∧ e.regs = d.regs ∧ (y e).waiting = rest))) ∧
    (∀ i rest, x.waiting = i :: rest → i.due ≤ d.now → x.st = .armed ∨ x.st = .triggered → kept →
      s.answers (exec (.capRecord r) s) (fun e => still e ∧ (y e).written = x.written ∧ (y e).next = x.next ∧ (y e).waiting.length ≤ rest.length ∧
        (y e).left = x.left - 1 ∧ (y e).trigRec = x.trigRec)) ∧
    (∀ i rest, x.waiting = i :: rest → d.now < i.due ∨ (x.st ≠ .armed ∧ x.st ≠ .triggered) → exec (.capRecord r) s = .next s) ∧
    (x.waiting = [] → exec (.capRecord r) s = .next s)

/-- The mailbox of the Cellar (R387 to R391). A command of another master, or while one executes, is refused and does nothing else. In ALARM every command ends with code
0x10, with a misplaced range with code 0x04, and an op without a meaning with code 0x03: the result names op and code, and memory stays. An alarm is latched, takes the Cellar to
ALARM and is a chip fault with cause 2. -/
def Obligations.CellarMailbox : Prop :=
  ∀ (m : Master) (arg : BitVec 16) (op : BitVec 8) (bit : Fin 6) (s : State),
    let d := s.dev
    let commands : List (Nat × Instr) := [(1, .verifyCask m arg), (2, .attest m), (3, .provision m), (4, .endorse m), (5, .floorBump m arg),
      (6, .revokeSlot m arg), (7, .debugChallenge m), (8, .debugOpen m), (9, .tagAuth m arg), (0xA, .lifeStore m arg), (0xB, .lifeWrite m arg),
      (0xC, .macsecKey m arg), (0xD, .release m arg), (0xE, .seal m arg), (0xF, .unseal m arg)]
    let other := op.toNat = 0 ∨ 15 < op.toNat
    let ends := fun (e : Dev) (op code : Nat) => e.reg 0x40030010 = BitVec.ofNat 32 (pack [(code, 8), (op, 8), (1, 1)]) ∧
      e.flag 0 F.CEL_STAT_busy = false ∧ e.fld 0 F.CEL_CNT_refused = satInc 16 (d.fld 0 F.CEL_CNT_refused) ∧ e.mem = d.mem ∧
      e.vault = d.vault ∧ e.cellar = d.cellar ∧ e.legs = d.legs
    let refused := Host.Outcome.next (State.mk (d.raise Ev.CEL_CMD_REFUSED scopeChip 0) s.pending)
    let alarm := fun (e : Dev) (i : Nat) => e.fld 0 F.CEL_STAT_state = 5 ∧ bitOf (e.reg 0x40030014).toNat i = true ∧
      bitOf (e.reg 0x40020040).toNat 2 = true ∧ e.flag 0 F.HSL_STAT_lockout = true ∧ e.mem = d.mem
    (d.celTurned m = true → (∀ x ∈ commands, exec x.2 s = refused) ∧ (other → exec (.unknownCellarCommand m op) s = refused)) ∧
    (d.celTurned m = false → d.fld 0 F.CEL_STAT_state = 5 → (∀ x ∈ commands, s.answers (exec x.2 s) (fun e => ends e x.1 0x10)) ∧
      (other → s.answers (exec (.unknownCellarCommand m op) s) (fun e => ends e op.toNat 0x10))) ∧
    (d.celTurned m = false → d.fld 0 F.CEL_STAT_state ≠ 5 → d.celRange d.celLen = false → ∀ x ∈ commands,
      s.answers (exec x.2 s) (fun e => ends e x.1 4)) ∧
    (d.celTurned m = false → d.fld 0 F.CEL_STAT_state ≠ 5 → other → s.answers (exec (.unknownCellarCommand m op) s) (fun e => ends e op.toNat 3)) ∧
    (d.celTurned m = true ↔ 4 ≤ m.id.val ∨ (d.flag 0 F.CEL_STAT_busy = true ∧ d.fld 0 F.CEL_STAT_state ≠ 5)) ∧
    (¬ other → exec (.unknownCellarCommand m op) s = .next s) ∧
    s.answers (exec (.cellarAlarm bit) s) (fun e => alarm e bit) ∧
    s.answers (exec .cellarWatchdogExpiry s) (fun e => alarm e 4)

/-- Casks, keys and identity (R393 to R396, R399 to R403, R406, R409). A Cask that passes every check is locked and measured at its destination, another one locks nothing.
A floor, a revocation and an endorsement take effect exactly where their checks and the signature of an owner key pass. An identity is made once and its public key
answered; a report is followed by its signature. A secret is sealed into a blob that opens to it again, and only an opened key enters the MACsec store. -/
def Obligations.CellarCommands : Prop :=
  ∀ (m : Master) (arg : BitVec 16) (s : State),
    let d := s.dev
    let ready := d.celTurned m = false ∧ d.fld 0 F.CEL_STAT_state ≠ 5 ∧ d.celRange d.celLen = true
    let ends := fun (e : Dev) (op code : Nat) => e.reg 0x40030010 = BitVec.ofNat 32 (pack [(code, 8), (op, 8), (1, 1)]) ∧
      e.flag 0 F.CEL_STAT_busy = false ∧ e.legs = d.legs ∧ e.units = d.units
    let n := arg.toNat
    let header := d.request 0 256
    let code := if d.celLen < 256 then 4 else d.castCode n
    let key := d.request 0 64
    let owner := fun (k : List Byte) (p : Nat → Bool) => d.ownerKey k p = true
    let signed := fun (msg : List Byte) => verifies key msg (d.request 64 64) = true
    let floorOk := 1 ≤ n ∧ n ≤ 5 ∧ 128 ≤ d.celLen ∧ owner key (fun _ => true) ∧ d.bumps n < 64 ∧
      signed (ascii "IGK-FLOOR" ++ d.serial ++ leBytes 1 n ++ leBytes 1 (d.bumps n) ++ leBytes 4 (d.vint n))
    let last := d.slotLive n = true ∧ ∀ i < 4, i ≠ n → d.slotLive i = false
    let revokeOk := n ≤ 3 ∧ ¬ last ∧ 128 ≤ d.celLen ∧ owner key (fun i => i != n) ∧ signed (ascii "IGK-REVOKE" ++ d.serial ++ leBytes 1 n)
    let second := d.request 64 64
    let endorseOk := 128 ≤ d.celLen ∧ owner second (fun _ => true) ∧ d.vault.identity ≠ none ∧
      verifies second (endorsedText d.serial d.idKey) key = true
    let body := d.report (d.request 0 32)
    let attestOk := 32 ≤ d.celLen ∧ d.vault.identity ≠ none ∧ body.length + 64 ≤ d.celLen
    let purpose := n % 256
    let sealing := d.sealKey purpose
    let opened := openBlob sealing (d.request 0 d.celLen)
    let wrapped := d.vault.wrapKey ≠ none
    let sak := if bitOf n 5 then 32 else 16
    let store := 8 * bitsOf n 0 2 + 4 * bitsOf n 2 1 + bitsOf n 3 2
    (ready → s.answers (exec (.verifyCask m arg) s) (fun e => ends e 1 code ∧ e.mem = d.mem ∧
      e.flag 0 F.CEL_STAT_locked = decide (code = 0) ∧
      e.cellar.lock = (if code = 0 then some (d.celPtr, 256 + cutNat header 0xC 4) else none) ∧
      Store.get (fun _ => none) e.cellar.meas n =
        (if code = 0 then some (measOf header) else Store.get (fun _ => none) d.cellar.meas n))) ∧
    (ready → s.answers (exec (.release m arg) s) (fun e => ends e 0xD 0 ∧ e.mem = d.mem ∧ e.cellar.lock = none ∧
      e.flag 0 F.CEL_STAT_locked = false ∧ (n % 2 = 1 → d.cellar.lock ≠ none →
        Store.get (fun _ => none) e.cellar.meas d.cellar.lockDest = none))) ∧
    (ready → s.answers (exec (.floorBump m arg) s) (fun e => ∃ c, ends e 5 c ∧ e.mem = d.mem ∧ (c = 0 ↔ floorOk) ∧
      (floorOk → e.floor n = d.vint n ∧ e.bumps n = d.bumps n + 1) ∧ (¬ floorOk → e.vault = d.vault ∧ e.floor n = d.floor n))) ∧
    (ready → s.answers (exec (.revokeSlot m arg) s) (fun e => ∃ c, ends e 6 c ∧ e.mem = d.mem ∧ (c = 0 ↔ revokeOk) ∧
      (revokeOk → e.slotLive n = false) ∧ ∀ i < 4, (i ≠ n ∨ ¬ revokeOk) → e.slotLive i = d.slotLive i)) ∧
    (ready → s.answers (exec (.provision m) s) (fun e => if d.celLen < 64 then ends e 3 4 ∧ e.vault = d.vault ∧ e.mem = d.mem else
      ends e 3 0 ∧ e.vault.identity ≠ none ∧ (∀ i, d.vault.identity = some i → e.vault.identity = some i) ∧
      e.bytes d.celPtr 64 = e.idKey)) ∧
    (ready → s.answers (exec (.endorse m) s) (fun e => ∃ c, ends e 4 c ∧ e.mem = d.mem ∧ (c = 0 ↔ endorseOk) ∧
      e.vault.endorsement = if c = 0 then some (key, second) else d.vault.endorsement)) ∧
    (ready → s.answers (exec (.attest m) s) (fun e => ∃ c, ends e 2 c ∧ (c = 0 ↔ attestOk) ∧
      (attestOk → ∃ sig, sig.length = 64 ∧ e.bytes d.celPtr (body.length + 64) = body ++ sig) ∧ (¬ attestOk → e.mem = d.mem))) ∧
    (ready → purpose = 0 → s.answers (exec (.seal m arg) s) (fun e => ∃ c, ends e 0xE c ∧ e.mem = d.mem ∧
      (c = 0 ↔ d.celLen = 32 ∧ ¬ wrapped) ∧ e.vault.wrapKey = if c = 0 then some (d.request 0 32) else d.vault.wrapKey)) ∧
    (ready → purpose ≠ 0 → s.answers (exec (.seal m arg) s) (fun e => ∃ c, ends e 0xE c ∧ e.vault = d.vault ∧
      (c = 0 ↔ d.celLen ≤ 4096 ∧ d.celRange (d.celLen + 28) = true ∧ wrapped) ∧
      (c = 0 → ∃ nonce, nonce.length = 12 ∧ e.bytes d.celPtr (d.celLen + 28) = sealBlob sealing nonce (d.request 0 d.celLen)))) ∧
    (∀ key nonce l, nonce.length = 12 → openBlob key (sealBlob key nonce l) = some l) ∧
    (ready → purpose ≠ 0 → 28 ≤ d.celLen → d.celLen ≤ 4124 → wrapped → s.answers (exec (.unseal m arg) s) (fun e => e.vault = d.vault ∧
      match opened with
      | some l => ends e 0xF 0 ∧ e.bytes d.celPtr l.length = l
      | none => ends e 0xF 7 ∧ e.mem = d.mem)) ∧
    (ready → wrapped → d.celLen = sak + 28 → s.answers (exec (.macsecKey m arg) s) (fun e => e.mem = d.mem ∧ e.vault = d.vault ∧
      match openBlob (d.sealKey 1) (d.request 0 (sak + 28)) with
      | some k => ends e 0xC 0 ∧ Store.get (fun _ => none) e.cellar.macsec store = some (bitOf n 5, k) ∧
          Store.get (fun _ => 0) e.cellar.packets store = 1
      | none => ends e 0xC 7 ∧ e.cellar = d.cellar)) ∧
    (ready → ¬ wrapped ∨ d.celLen ≠ sak + 28 → s.answers (exec (.macsecKey m arg) s) (fun e => ∃ c, c ≠ 0 ∧ ends e 0xC c ∧
      e.cellar = d.cellar ∧ e.vault = d.vault ∧ e.mem = d.mem)) ∧
    (ready → purpose = 0 ∨ d.celLen < 28 ∨ 4124 < d.celLen ∨ ¬ wrapped → s.answers (exec (.unseal m arg) s) (fun e =>
      ∃ c, c ≠ 0 ∧ ends e 0xF c ∧ e.vault = d.vault ∧ e.mem = d.mem))

/-- The debug port (R407, R408). A challenge is random, remembered with its time and answered; an opening passes exactly where an owner key has signed it within 60 s and
every unit is quiet: then the identity, the wrapping key, the MACsec keys and the safety identities are erased before the port opens; the challenge is used up in
any case. A read-back that finds more than zeros repeats the erasure once and then alarms. -/
def Obligations.DebugPort : Prop :=
  ∀ (m : Master) (s : State),
    let d := s.dev
    let ready := d.celTurned m = false ∧ d.fld 0 F.CEL_STAT_state ≠ 5 ∧ d.celRange d.celLen = true
    let ends := fun (e : Dev) (op code : Nat) => e.reg 0x40030010 = BitVec.ofNat 32 (pack [(code, 8), (op, 8), (1, 1)]) ∧
      e.flag 0 F.CEL_STAT_busy = false
    let key := d.request 0 64
    let openOk := 128 ≤ d.celLen ∧ d.ownerKey key (fun _ => true) = true ∧
      (∃ n t, d.cellar.nonce = some (n, t) ∧ d.now ≤ t + 48000000000 ∧ verifies key (ascii "IGK-DEBUG" ++ d.serial ++ n) (d.request 64 64) = true) ∧
      ∀ u < 32, (d.unit u).st = .disabled ∨ (d.unit u).st = .locked
    let erased := fun (e : Dev) => e.vault.identity = none ∧ e.vault.endorsement = none ∧ e.vault.wrapKey = none ∧ e.cellar.macsec = [] ∧
      (∀ n < 32, e.reg (0x40050108 + 0x40 * n) = 0 ∧ (e.sch n).erased = true) ∧ e.flag 0 F.CEL_STAT_provisioned = false
    let erasing := d.fld 0 F.CEL_STAT_state = 3
    (ready → 32 ≤ d.celLen → s.answers (exec (.debugChallenge m) s) (fun e => ends e 7 0 ∧
      ∃ n, n.length = 32 ∧ e.cellar.nonce = some (n, d.now) ∧ e.bytes d.celPtr 32 = n ∧ e.vault = d.vault)) ∧
    (ready → d.celLen < 32 → s.answers (exec (.debugChallenge m) s) (fun e => ends e 7 4 ∧ e.cellar = d.cellar ∧ e.mem = d.mem)) ∧
    (ready → s.answers (exec (.debugOpen m) s) (fun e => e.cellar.nonce = none ∧ e.mem = d.mem ∧
      (openOk → erased e ∧ e.fld 0 F.CEL_STAT_state = 3 ∧ e.flag 0 F.CEL_STAT_busy = true) ∧
      (¬ openOk → e.vault = d.vault ∧ e.fld 0 F.CEL_STAT_state = d.fld 0 F.CEL_STAT_state ∧ ∃ c, c ≠ 0 ∧ ends e 8 c))) ∧
    (erasing → s.answers (exec (.debugEraseComplete true) s) (fun e => e.fld 0 F.CEL_STAT_state = 4 ∧ ends e 8 0 ∧ e.mem = d.mem)) ∧
    (erasing → d.cellar.again = false → s.answers (exec (.debugEraseComplete false) s) (fun e =>
      erased e ∧ e.cellar.again = true ∧ e.fld 0 F.CEL_STAT_state = 3)) ∧
    (erasing → d.cellar.again = true → s.answers (exec (.debugEraseComplete false) s) (fun e =>
      e.fld 0 F.CEL_STAT_state = 5 ∧ ends e 8 0x10 ∧ e.flag 0 F.HSL_STAT_lockout = true)) ∧
    (¬ erasing → exec (.debugEraseComplete true) s = .next s ∧ exec (.debugEraseComplete false) s = .next s)

/-- The bindings of module tags (R411, R415 to R420). TAG_MAPn changes for a privileged master only, and neither for a unit that is not DISABLED nor into a duplicate. An
authentication ends in AUTH_OK or, with code 0x0D, in AUTH_FAIL; a new tag of a unit that is not DISABLED waits in PRESENT. A poll notes what answers: a third miss leads to
ABSENT, and a tag that reappears is authenticated. What these change in memory, of limits and thermal records, lies in the memories of regions. -/
def Obligations.TagBindings : Prop :=
  ∀ (m : Master) (n : Fin 32) (v : Word) (arg : BitVec 16) (tag : Option ModuleTag) (s : State),
    let d := s.dev
    let a := 0x40030400 + 0x10 * n.val
    let old := (d.reg a).toNat
    let runs := fun (w : Nat) => bitOf w 31 = true ∧ (d.unit (bitsOf w 8 5)).st ≠ .disabled
    let clash := ∃ j < 32, j ≠ n.val ∧ mapsClash v.toNat (d.reg (0x40030400 + 0x10 * j)).toNat = true
    let same := bitOf old 31 = true ∧ bitOf old 0 = bitOf v.toNat 0 ∧ bitsOf old 4 4 = bitsOf v.toNat 4 4
    let ready := d.celTurned m = false ∧ d.fld 0 F.CEL_STAT_state ≠ 5 ∧ d.celRange d.celLen = true
    let ends := fun (e : Dev) (op code : Nat) => e.reg 0x40030010 = BitVec.ofNat 32 (pack [(code, 8), (op, 8), (1, 1)]) ∧
      e.flag 0 F.CEL_STAT_busy = false ∧ e.tags = d.tags ∧ e.vault = d.vault ∧ e.units = d.units
    let k := arg.toNat
    let held := fun (n : Nat) (t : ModuleTag) => d.tagSwapped n t = true ∧ (d.unit (d.tagUnit n)).st ≠ .disabled
    let failed := fun (e : Dev) (n : Nat) => e.tagState n = 4 ∧ e.fld (tagBase n) F.TAG_STAT_fails = satInc 16 (d.fld (tagBase n) F.TAG_STAT_fails) ∧
      (e.bind n).serial = (d.bind n).serial
    let accepted := fun (e : Dev) (n : Nat) (t : ModuleTag) => e.tagState n = 3 ∧ (e.bind n).serial = tagSerial t ∧
      (cutNat t.life 8 4 = 0 → e.fld (tagBase n) F.TAG_STAT_trust = 0) ∧ d.makerKey (cutNat t.id 6 2) ≠ none ∧ cutNat t.id 4 2 = 1
    let outside := fun (e : Dev) => ∀ x, (x < 0x20000000 ∨ 0x24000000 ≤ x) → e.byte x = d.byte x
    let frame := fun (e : Dev) => outside e ∧ e.legs = d.legs ∧ e.units = d.units ∧ e.vault = d.vault
    (masterPriv m = false → exec (.tagMapWrite m n v) s = .next ⟨d.guardViolation m a, s.pending⟩) ∧
    (masterPriv m = true → runs old ∨ runs v.toNat ∨ clash → exec (.tagMapWrite m n v) s = .next ⟨d.raise Ev.TAG_CFG_REFUSED scopeChip 0, s.pending⟩) ∧
    (masterPriv m = true → ¬ (runs old ∨ runs v.toNat ∨ clash) → s.answers (exec (.tagMapWrite m n v) s) (fun e =>
      (∀ f ∈ [F.TAG_MAP_bus, F.TAG_MAP_addr, F.TAG_MAP_unit, F.TAG_MAP_module, F.TAG_MAP_resp, F.TAG_MAP_valid],
        e.fld (tagBase n) f = bitsOf v.toNat f.lo f.w) ∧
      (bitOf v.toNat 31 = false → e.tagState n = 0) ∧ (bitOf v.toNat 31 = true → same → e.tagState n = d.tagState n) ∧
      (bitOf v.toNat 31 = true → ¬ same → e.tagState n = 1) ∧ e.tags = d.tags ∧ frame e)) ∧
    (ready → ¬ (k < 32 ∧ d.tagBound k = true) → s.answers (exec (.tagAuth m arg) s) (fun e => ends e 9 0xD ∧ e.binds = d.binds ∧ e.mem = d.mem)) ∧
    (ready → k < 32 → d.tagBound k = true → d.tagAt (d.tagKey k) = none → s.answers (exec (.tagAuth m arg) s) (fun e => ends e 9 0xD ∧ failed e k ∧ outside e)) ∧
    (∀ t, ready → k < 32 → d.tagBound k = true → d.tagAt (d.tagKey k) = some t →
      (held k t → s.answers (exec (.tagAuth m arg) s) (fun e => ends e 9 0xA ∧ e.tagState k = 2 ∧ e.binds = d.binds ∧ outside e)) ∧
      (¬ held k t → s.answers (exec (.tagAuth m arg) s) (fun e => outside e ∧ ((ends e 9 0 ∧ accepted e k t) ∨ (ends e 9 0xD ∧ failed e k))))) ∧
    (d.tagBound n = false → exec (.tagPoll n tag) s = .next s) ∧
    (d.tagBound n = true → s.answers (exec (.tagPoll n none) s) (fun e => e.tagAt (d.tagKey n) = none ∧ frame e ∧
      (e.bind n).missed = min 3 ((d.bind n).missed + 1) ∧ (e.bind n).serial = (d.bind n).serial ∧
      e.tagState n = (if 2 ≤ (d.bind n).missed then 1 else d.tagState n))) ∧
    (∀ t, d.tagBound n = true → s.answers (exec (.tagPoll n (some t)) s) (fun e => e.tagAt (d.tagKey n) = some t ∧ e.units = d.units ∧ e.vault = d.vault ∧
      (e.bind n).missed = 0 ∧
      outside e ∧ (held n t → e.tagState n = 2 ∧ (e.bind n).serial = (d.bind n).serial) ∧
      (d.tagSwapped n t = false → d.tagState n ≠ 1 → d.tagState n ≠ 2 → e.tagState n = d.tagState n ∧ e.mem = d.mem) ∧
      (¬ held n t → d.tagSwapped n t = true ∨ d.tagState n = 1 ∨ d.tagState n = 2 → accepted e n t ∨ failed e n)))

/-- The life of modules (R413, R414, R424 to R427). A store below the kept values is refused, another replaces them; a life record reaches a tag only where the tag takes it. The
life service adds to the accumulator and, for a unit in RUN, to seconds and distance; once a minute the life factor of a binding moves by at most 0x0148 towards its target,
and TAG_FACT shows it, or the tag derate for as long as that applies. -/
def Obligations.ModuleLife : Prop :=
  ∀ (m : Master) (arg : BitVec 16) (n : Fin 32) (s : State),
    let d := s.dev
    let k := arg.toNat
    let ready := d.celTurned m = false ∧ d.fld 0 F.CEL_STAT_state ≠ 5 ∧ d.celRange d.celLen = true
    let ends := fun (e : Dev) (op code : Nat) => e.reg 0x40030010 = BitVec.ofNat 32 (pack [(code, 8), (op, 8), (1, 1)]) ∧
      e.flag 0 F.CEL_STAT_busy = false ∧ e.units = d.units ∧ e.legs = d.legs
    let l := d.request 0 16
    let name := d.lifeName k
    let new : LifeCopy := ⟨name, cutNat l 0 4 * 2 ^ 32 + cutNat l 12 4, cutNat l 4 4, cutNat l 8 4⟩
    let kept := d.lifeCopy name
    let storeOk := 16 ≤ d.celLen ∧ k < 32 ∧ d.tagBound k = true ∧ kept.consumed ≤ new.consumed ∧ kept.seconds ≤ new.seconds ∧ kept.distance ≤ new.distance
    let runs := (d.unit (d.tagUnit n)).st = .run
    let x := d.bind n
    let used := d.lifeInUse n
    let excess : Int := ((used.consumed / 2 ^ 32 : Nat) : Int) - d.allocated used
    let margin : Int := d.fld 0 F.LIFE_MARGIN_margin
    let band : Int := d.fld 0 F.LIFE_BAND_band
    let f := x.factor
    let towards := fun (t : Nat) => if f ≤ t then min t (f + 0x148) else max t (f - 0x148)
    let others := fun (e : Dev) => (∀ j, j ≠ n.val → e.bind j = d.bind j) ∧ e.vault = d.vault ∧ e.tags = d.tags
    (ready → s.answers (exec (.lifeStore m arg) s) (fun e => ∃ c, ends e 0xA c ∧ (c = 0 ↔ storeOk) ∧ e.mem = d.mem ∧ e.tags = d.tags ∧
      (storeOk → e.lifeCopy name = new) ∧ (¬ storeOk → e.vault = d.vault) ∧ ∀ other, other ≠ name → e.lifeCopy other = d.lifeCopy other)) ∧
    (ready → d.vault.identity = none → s.answers (exec (.lifeWrite m arg) s) (fun e => ends e 0xB 0xC ∧ e.tags = d.tags ∧ e.vault = d.vault ∧ e.mem = d.mem)) ∧
    (ready → d.vault.identity ≠ none → s.answers (exec (.lifeWrite m arg) s) (fun e => ∃ c, ends e 0xB c ∧ e.vault = d.vault ∧
      (c ≠ 0 → e.tags = d.tags) ∧ (c = 0 → ∃ t l, d.tagAt (d.tagKey k) = some t ∧ tagTakes t l = true ∧
        e.tagAt (d.tagKey k) = some { t with life := l } ∧ ∀ j, j ≠ d.tagKey k → e.tagAt j = d.tagAt j))) ∧
    (d.tagBound n = false → exec (.lifeServiceUpdate n) s = .next s) ∧ (d.factorDue n = false → exec (.lifeFactorStep n) s = .next s) ∧
    (d.tagBound n = true → s.answers (exec (.lifeServiceUpdate n) s) (fun e => ∃ added, (e.bind n).acc = min (x.acc + added) (2 ^ 64 - 1) ∧
      (d.rfOf n = none → added = 0) ∧ x.seconds ≤ (e.bind n).seconds ∧ (e.bind n).seconds ≤ x.seconds + 10 ∧ x.distance ≤ (e.bind n).distance ∧
      (¬ runs → (e.bind n).seconds = x.seconds ∧ (e.bind n).distance = x.distance) ∧ others e ∧ e.mem = d.mem ∧ e.units = d.units ∧ e.legs = d.legs)) ∧
    (d.factorDue n = (d.tagBound n && match x.steppedAt with | some t => decide (t + 48000000000 ≤ d.now) | none => true)) ∧
    (d.factorDue n = true → s.answers (exec (.lifeFactorStep n) s) (fun e => others e ∧ e.units = d.units ∧ e.legs = d.legs ∧
      e.tagState n = d.tagState n ∧ (e.bind n).acc = x.acc ∧ (∀ y, (y < 0x20000000 ∨ 0x24000000 ≤ y) → e.byte y = d.byte y) ∧
      let after := (e.bind n).factor
      after ≤ f + 0x148 ∧ f ≤ after + 0x148 ∧ (excess ≤ margin → after = towards 0x8000) ∧
      (margin < excess → margin + band ≤ excess → after = towards (d.fld 0 F.LIFE_FMIN_f_min)) ∧
      e.fld (tagBase n) F.TAG_FACT_factor = if d.derated n then d.fld 0 F.LIFE_FMIN_tag_derate else after % 2 ^ 16))

/-- The module-tag buses (R414, R461, R476 to R480). An idle enabled bus starts a command once its guard time is over; another one waits in the place of its master, and a third is
ignored. PROVE and WRITE_LIFE belong to the Cellar. At the
end of a transaction the result is shown, and with no guard time the next command starts, the Cellar's first; a tag takes a life record only as R414 says, and nothing of a request it has
not heard right. A response that has not started 10 µs after its limit ends the transaction with code 1. -/
def Obligations.ModuleTagBuses : Prop :=
  ∀ (m : Master) (i : Fin 2) (addr : Fin 16) (nonce record : List Byte) (s : State),
    let d := s.dev
    let a := mtbReg i
    let cellar := m.id == 5
    let all : List (Nat × Instr × List Byte) := [(1, .status m i addr, []), (2, .readId m i addr, []), (3, .readLife m i addr, []),
      (4, .prove m i addr nonce, nonce), (5, .writeLife m i addr record, record)]
    let bus := d.mtb i
    let en := d.flag a F.PORT_CTRL_en = true
    let own := fun (op : Nat) => 4 ≤ op
    let txn := fun (op : Nat) (l : List Byte) => MtbTxn.mk cellar op addr l d.now
    let waiting := if cellar then bus.own else bus.fw
    let frame := fun (e : Dev) => e.mem = d.mem ∧ e.units = d.units ∧ e.legs = d.legs ∧ e.binds = d.binds
    let idle := { bus with run := none, freeAt := d.now + d.fld a F.MTB_CFG_guard * 800 }
    let ended := fun (e : Dev) (code status len : Nat) => e.fld a F.MTB_STAT_code = code ∧ e.fld a F.MTB_STAT_tstat = status ∧
      e.fld a F.MTB_STAT_rlen = len ∧ frame e ∧
      e.mtb i = (if en ∧ d.fld a F.MTB_CFG_guard = 0 then match bus.own, bus.fw with
          | some t, _ => { idle with run := some { t with since := d.now }, own := none }
          | none, some t => { idle with run := some { t with since := d.now }, fw := none }
          | none, none => idle
        else idle)
    (∀ x ∈ all, own x.1 → cellar = false → exec x.2.1 s = .next ⟨d.raise Ev.MTB_REFUSED (scopePort (20 + i)) 0, s.pending⟩) ∧
    (∀ x ∈ all, ¬ own x.1 ∨ cellar = true → (∃ t, bus.run = some t ∧ t.cellar = cellar) ∨ waiting ≠ none →
      exec x.2.1 s = .next ⟨d.raise Ev.MTB_BUSY (scopePort (20 + i)) 0, s.pending⟩) ∧
    (∀ x ∈ all, ¬ own x.1 ∨ cellar = true → bus.run = none → bus.own = none → bus.fw = none → bus.freeAt ≤ d.now → en →
      s.answers (exec x.2.1 s) (fun e => frame e ∧ e.tags = d.tags ∧
        e.mtb i = { bus with run := some (txn x.1 x.2.2) } ∧ e.flag a F.MTB_STAT_busy = true ∧ e.flag a F.MTB_STAT_pend = false ∧
        e.fld a F.PORT_CNT2_tx = satInc 16 (d.fld a F.PORT_CNT2_tx))) ∧
    (∀ x ∈ all, ¬ own x.1 ∨ cellar = true → waiting = none →
      (∃ t, bus.run = some t ∧ t.cellar ≠ cellar) ∨ (bus.run = none ∧ (¬ en ∨ d.now < bus.freeAt)) →
      s.answers (exec x.2.1 s) (fun e => frame e ∧ e.tags = d.tags ∧ e.flag a F.MTB_STAT_pend = true ∧
        e.mtb i = (if cellar then { bus with own := some (txn x.1 x.2.2) } else { bus with fw := some (txn x.1 x.2.2) }))) ∧
    (bus.run = none → exec (.mtbNoresp i) s = .next s ∧ ∀ heard line, exec (.mtbResponseEnd i heard line) s = .next s) ∧
    (∀ x heard line, bus.run = some x → d.tagAt (16 * i + x.addr) = none ∨ d.flag a F.PORT_CTRL_loop = true →
      exec (.mtbResponseEnd i heard line) s = .next s) ∧
    (∀ x t, bus.run = some x → d.tagAt (16 * i + x.addr) = some t → d.flag a F.PORT_CTRL_loop = false →
      let tagIs := fun (e : Dev) (u : ModuleTag) => e.tagAt (16 * i + x.addr) = some u ∧ ∀ j, j ≠ 16 * i.val + x.addr → e.tagAt j = d.tagAt j
      let sound := exec (.mtbResponseEnd i true none) s
      (x.op = 1 → s.answers sound (fun e => ended e 0 0 20 ∧ tagIs e t)) ∧
      (x.op = 2 → t.id.length = 256 → s.answers sound (fun e => ended e 0 0 256 ∧ tagIs e t)) ∧
      (x.op = 3 → t.life.length = 256 → s.answers sound (fun e => ended e 0 0 256 ∧ tagIs e t)) ∧
      (x.op = 5 → tagTakes t x.payload = true → s.answers sound (fun e => ended e 0 0 0 ∧ tagIs e { t with life := x.payload })) ∧
      (x.op = 5 → tagTakes t x.payload = false → s.answers sound (fun e => ended e 3 1 0 ∧ tagIs e t)) ∧
      s.answers (exec (.mtbResponseEnd i false none) s) (fun e => ended e 3 2 0 ∧ tagIs e t) ∧
      (∀ l bad, mtbTake (mtbHeader x.op x.addr) l = .inl bad → x.op ≠ 5 → s.answers (exec (.mtbResponseEnd i true (some l)) s) (fun e =>
        ended e 2 0 0 ∧ tagIs e t ∧ (bad = 1 → e.fld a F.MTB_CNT_crc = satInc 16 (d.fld a F.MTB_CNT_crc))))) ∧
    (∀ x, bus.run = some x →
      let limit := if x.op = 4 then 25000 else if x.op = 5 then 20000 else 500
      let end_ := x.since + 80 * (100 * (6 + x.payload.length) + limit + 100)
      (d.now < end_ → exec (.mtbNoresp i) s = .next s) ∧
      (end_ ≤ d.now → s.answers (exec (.mtbNoresp i) s) (fun e => ended e 1 0 0 ∧ e.tags = d.tags ∧
        e.fld a F.MTB_CNT_noresp = satInc 16 (d.fld a F.MTB_CNT_noresp))))

/-- The NVS (R431, R439 to R445). A submission is queued, the Cellar's ahead of the others that have not begun, or refused. The first command checks its descriptor and its area, then writes, fills or compares
sector by sector, and posts its status. A read through the window answers the stored bytes unless the sector is lost; a write through it is refused; the patrol, where it is due,
reads the next sector and changes none (when it is due: log entry 98). -/
def Obligations.NvsCommands : Prop :=
  ∀ (m : Master) (addr : Word) (off : BitVec 26) (ecc : EccSeen) (w : Nat) (a : Word) (rest : List (Nat × Word)) (s : State),
    let d := s.dev
    let refused := 8 ≤ d.nvsq.length ∨ addr.toNat % 32 ≠ 0 ∨ ¬ (0x12000000 ≤ addr.toNat ∧ addr.toNat + 32 ≤ 0x121C0000)
    let own := fun (x : Nat × Word) => x.1 == 5
    let frame := fun (e : Dev) => e.regs = d.regs ∧ e.mem = d.mem ∧ e.nvs = d.nvs ∧ e.lanes = d.lanes
    let j := d.nvsJob a.toNat
    let run := if j.op = 2 then Instr.nvsFill else if j.op = 3 then Instr.nvsVerify else Instr.nvsWrite
    let posted := fun (e : Dev) (code n : Nat) => e.loadN (a.toNat + 0x14) 4 = pack [(1, 1), (if code = 0 then 0 else 1, 1), (0, 2), (code, 4), (0, 8), (n, 16)] ∧
      e.nvsq = rest ∧ (∀ x, (x < a.toNat + 0x14 ∨ a.toNat + 0x18 ≤ x) → e.byte x = d.byte x) ∧ e.units = d.units ∧ e.legs = d.legs
    let front := d.nvsq = (w, a) :: rest ∧ d.isBad (a.toNat + 0x14) = false
    let sound := j.off % 8 = 0 ∧ j.len % 8 = 0 ∧ 8 ≤ j.len ∧ j.len ≤ 1048576
    let source := j.op = 2 ∨ (j.src % 8 = 0 ∧ 0x12000000 ≤ j.src ∧ j.src + j.len ≤ 0x121C0000 ∧ ∀ i < j.len, d.isBad (j.src + i) = false)
    let open_ := 0x800000 ≤ j.off ∧ j.off + j.len ≤ 0x4000000 ∧ (w = 0 ∨ w = 1 ∨ w = 5)
    let clean := ∀ k, j.off / 1024 ≤ k → k ≤ (j.off + j.len - 1) / 1024 → d.sectorBad k = false
    let nvs := fun (e : Dev) (x : Nat) => Store.get unwrittenByte e.nvs x
    let data := fun (i : Nat) => if j.op = 2 then BitVec.ofNat 8 (j.pattern / 2 ^ (8 * (i % 4))) else d.byte (j.src + i)
    let count := (j.off + j.len - 1) / 1024 - j.off / 1024 + 1
    let o := off.toNat / 4 * 4
    let seen := m.id.val < 10 ∧ (0x100000 ≤ o ∨ m.id = 5)
    let lost := fun (e : Dev) (k : Nat) => e.sectorBad k = true ∧ e.nvsFld F.NVS_UE_SECT_sector = k ∧
      e.nvsFld F.NVS_CNT2_ue = satInc 16 (d.nvsFld F.NVS_CNT2_ue) ∧ e.nvs = d.nvs
    (refused → s.answers (exec (.nvsSubmit m addr) s) (fun e => e.nvsq = d.nvsq ∧ e.mem = d.mem ∧ e.nvs = d.nvs ∧
      e.nvsFld F.NVS_CNT2_refused = satInc 16 (d.nvsFld F.NVS_CNT2_refused))) ∧
    (¬ refused → s.answers (exec (.nvsSubmit m addr) s) (fun e => frame e ∧ e.nvsFld F.NVS_STAT_queued = d.nvsq.length + 1 ∧ e.nvsFld F.NVS_STAT_busy = 1 ∧
      e.nvsq = match d.nvsq with
        | [] => [(m.id.val, addr)]
        | h :: q => if m.id = 5 then h :: (q.filter own ++ (5, addr) :: q.filter (fun x => !own x)) else (h :: q) ++ [(m.id.val, addr)])) ∧
    (d.nvsq = [] → ∀ c ∈ [Instr.nvsWrite, .nvsFill, .nvsVerify], exec c s = .next s) ∧
    (front → ∀ c ∈ [Instr.nvsWrite, .nvsFill, .nvsVerify], c ≠ run → exec c s = .next s) ∧
    (front → (j.op = 0 ∨ 3 < j.op ∨ ¬ sound) → s.answers (exec run s) (fun e => posted e 1 0 ∧ e.nvs = d.nvs)) ∧
    (front → j.op = 1 ∨ j.op = 2 → sound → source → j.off + j.len ≤ 0x100000 → w ≠ 5 → s.answers (exec run s) (fun e => posted e 2 0 ∧ e.nvs = d.nvs)) ∧
    (front → j.op = 1 ∨ j.op = 2 → sound → source → open_ → clean → s.answers (exec run s) (fun e => posted e 0 count ∧
      ∀ x, nvs e x = if j.off ≤ x ∧ x < j.off + j.len then data (x - j.off) else nvs d x)) ∧
    (front → j.op = 3 → sound → source → open_ → clean → s.answers (exec run s) (fun e => e.nvs = d.nvs ∧
      ((∀ i < j.len, nvs d (j.off + i) = data i) → posted e 0 count) ∧ (¬ (∀ i < j.len, nvs d (j.off + i) = data i) → ∃ n, posted e 5 n))) ∧
    (¬ seen → exec (.nvsWindowRead m off ecc) s = .next ⟨d.accessRefused m.id (0x30000000 + o), s.pending⟩) ∧
    (seen → ecc = .clean ∨ ecc = .corrected ∨ ecc = .uncorrectable true → d.sectorBad (o / 1024) = false → s.answers (exec (.nvsWindowRead m off ecc) s) (fun e =>
      e.resp = BitVec.ofNat 32 (leNat (d.nvsBytes o 4)) ∧ e.respErr = false ∧ frame e)) ∧
    (seen → ecc = .uncorrectable false ∨ d.sectorBad (o / 1024) = true → s.answers (exec (.nvsWindowRead m off ecc) s) (fun e =>
      e.resp = 0 ∧ e.respErr = true ∧ lost e (o / 1024))) ∧
    s.answers (exec (.nvsWindowWrite m off) s) (fun e => e.respErr = true ∧ e.nvs = d.nvs ∧ e.mem = d.mem ∧
      e.nvsFld F.NVS_CNT2_refused = satInc 16 (d.nvsFld F.NVS_CNT2_refused)) ∧
    (d.now < d.patrolAt + d.nvsFld F.NVS_SCRUB_interval * cyclesPerMs → exec (.nvsPatrol ecc) s = .next s) ∧
    (d.patrolAt + d.nvsFld F.NVS_SCRUB_interval * cyclesPerMs ≤ d.now → s.answers (exec (.nvsPatrol ecc) s) (fun e => e.patrolAt = d.now ∧ e.patrol = (d.patrol + 1) % 65536 ∧ e.nvs = d.nvs ∧ e.mem = d.mem ∧
      (d.patrol < 65536 → ecc = .uncorrectable false → lost e d.patrol) ∧
      (ecc = .clean → d.sectorBad d.patrol = false → frame e ∧ e.ind = d.ind)))

/-- The fabric, the scrubber and the loader (R28 to R33, R76, R82, R140, R150, R152 to R154, R396, R436, R437, R524). A request joins its port; of those a tag is free for, the
safety class goes first in its order, then the shared ring within its weights, and the one granted takes a tag. A request that waits too long is told once. A pass of the scrubber
meets every bad word again. A write reaches a program slot or table bank only in IDLE and only the inactive one, and drops what was loaded. A failed check of the loader reports and
writes nothing; a load that passes sets the entry and worst case of each block and loaded, and its lanes' registers to 0. The timing service sets apply only where every loaded
program passes. -/
def Obligations.FabricAndLoader : Prop :=
  ∀ (m : Master) (id : MasterId) (acc : Option PairAccess) (noise : BeatNoise) (late : Bool) (b : BlockId) (off : BitVec 20) (v x : Word) (image : LaneSetImage) (s : State),
    let d := s.dev
    let port : List FabReq := match acc with
      | some y => d.fab.waiting ++ [⟨m, .access y, noise, d.now, false, .going, 0, false⟩]
      | none => d.fab.waiting
    let limit := fun (k : Nat) => if k < 2 then 16 else if k < 4 then 8 else if k = 4 then 4 else if k = 5 then 8 else if k < 10 then 32
      else if k < 18 then 16 else 2
    let safety := d.tagSum true
    let pool := d.tagSum false + (safety - 16)
    let asks := fun (k : Nat) => (∃ q ∈ port, q.m.id.val = k) ∧ d.tagsOf k < limit k ∧ (pool < 240 ∨ (2 ≤ k ∧ k ≤ 5 ∧ safety < 16))
    let shared := fun (k : Nat) => k < 2 ∨ 6 ≤ k
    let far := fun (k : Nat) => if d.fab.holder < k then k - d.fab.holder else k + 28
    let keeps := shared d.fab.holder ∧ asks d.fab.holder ∧ d.fab.grants < d.fabWeight d.fab.holder
    let wins := asks m.id.val ∧ (if shared m.id.val then (∀ k ∈ [4, 2, 3, 5], ¬ asks k) ∧
        (if keeps then m.id.val = d.fab.holder else ∀ k < 28, shared k → asks k → far m.id.val ≤ far k)
      else ∀ k ∈ [4, 2, 3, 5].takeWhile (· != m.id.val), ¬ asks k)
    let starved := fun (q : FabReq) => q.m.id = id ∧ q.told = false ∧ q.since + 3277 ≤ d.now
    let due := d.scrubAt + d.fld 0 F.MEM_SCRUB_period * cyclesPerMs ≤ d.now
    let a := blkBase b + off.toNat / 4 * 4
    let r := b.val / 4
    let slot := off.toNat / 0x10000
    let bank := (off.toNat - 0x80000) / 0x8000
    let image_ := off.toNat < 0x20000 ∨ (0x80000 ≤ off.toNat ∧ off.toNat < 0x90000)
    let inUse := (off.toNat < 0x20000 ∧ d.activeSlot r = slot) ∨ (0x80000 ≤ off.toNat ∧ d.activeBank r = bank) ∨ (d.rackState r ≠ 0 ∧ d.armedHere r = false)
    let locked := m.id ≠ 5 ∧ d.inLock a = true
    let frame := fun (e : Dev) => e.units = d.units ∧ e.legs = d.legs ∧ e.nvs = d.nvs
    let written := bitOf image.mask.toNat r = true ∧ (imageProgram image b).isSome = true
    (wins → s.answers (exec (.fabricTagGrant m acc noise) s) (fun e => e.tagsOf m.id = d.tagsOf m.id + 1 ∧ (∀ i, i ≠ m.id.val → e.tagsOf i = d.tagsOf i) ∧
      (acc.isSome = true ∨ noise = noNoise → ∃ q, port.find? (fun y => y.m.id.val == m.id.val) = some q ∧ e.fab.running = d.fab.running ++ [q] ∧
        e.fab.waiting = port.erase q) ∧ (m.id.val = 2 ∨ m.id.val = 3 ∨ m.id.val = 4 ∨ m.id.val = 5 ∨ e.fab.holder = m.id.val) ∧
      e.mem = d.mem ∧ frame e ∧ e.lanes = d.lanes ∧ e.fld 0 F.FAB_TAGS_in_use = (e.tagSum true + e.tagSum false) % 512)) ∧
    (¬ wins → s.answers (exec (.fabricTagGrant m acc noise) s) (fun e => e.fab.running = d.fab.running ∧ e.fab.waiting.length = port.length ∧
      (∀ y, acc = some y → e = { d with fab := { d.fab with waiting := port } }) ∧ e.mem = d.mem ∧ frame e ∧ e.lanes = d.lanes ∧ e.regs = d.regs)) ∧
    (¬ wins → acc = none → noise = noNoise → exec (.fabricTagGrant m acc noise) s = .next s) ∧
    ((∃ q ∈ d.fab.waiting, starved q) → s.answers (exec (.fabricStarve id) s) (fun e => e.fld 0 F.FAB_STARVE_master = id.val ∧
      e.fld 0 F.FAB_STARVE_count = satInc 16 (d.fld 0 F.FAB_STARVE_count) ∧ e.fab.running = d.fab.running ∧
      (e.fab.waiting.filter (fun q => q.told)).length = (d.fab.waiting.filter (fun q => q.told)).length + 1 ∧
      e.fab.waiting.map (fun q => (q.m, q.work, q.since)) = d.fab.waiting.map (fun q => (q.m, q.work, q.since)) ∧ e.mem = d.mem ∧ frame e)) ∧
    (¬ (∃ q ∈ d.fab.waiting, starved q) → exec (.fabricStarve id) s = .next s) ∧
    (¬ due → exec (.scrubPass late []) s = .next s) ∧
    (due → (∀ y ∈ d.bad, y.2 = false) → exec (.scrubPass late []) s =
      .next ⟨{ (if late then d.raise Ev.SCRUB_LATE scopeChip 0 else d) with scrubAt := d.now }, s.pending⟩) ∧
    (∀ found, (¬ due ∧ found = [(x, false)]) ∨ (due ∧ x.toNat % 8 = 0 ∧ d.bad = [(x.toNat / 8, true)] ∧ found = []) →
      s.answers (exec (.scrubPass late found) s) (fun e => e.isBad x.toNat = true ∧ e.mem = d.mem ∧
        (memKind x.toNat = some (.data b) → bitOf (e.reg (blkReg b + 0x40)).toNat 1 = true ∧ bitOf (e.reg (blkReg b + 0x70)).toNat 18 = true ∧
          e.reg (blkReg b + 0x74) = x) ∧
        (memKind x.toNat = some .chipRam → e.reg 0x40040104 = x ∧ e.units = d.units))) ∧
    (¬ due → s.answers (exec (.scrubPass late [(x, true)]) s) (fun e => e.bad = d.bad ∧ e.mem = d.mem ∧ e.units = d.units ∧
      (memKind x.toNat = some (.data b) → e.fld (blkReg b) F.BLK_MEMERR_ce = satInc 16 (d.fld (blkReg b) F.BLK_MEMERR_ce)))) ∧
    (image_ → 10 ≤ m.id.val → exec (.programMemoryWrite m b off v) s = .next ⟨d.accessRefused m.id a, s.pending⟩) ∧
    (image_ → m.id.val < 10 → locked → exec (.programMemoryWrite m b off v) s = .next ⟨d.raise Ev.CEL_LOCK_VIOLATION scopeChip 0, s.pending⟩) ∧
    (image_ → m.id.val < 10 → ¬ locked → inUse →
      exec (.programMemoryWrite m b off v) s = .next ⟨d.raise Ev.LANE_MEM_REFUSED (scopeBlk b) a, s.pending⟩) ∧
    (image_ → m.id.val < 10 → ¬ locked → ¬ inUse → d.isBad a = false → s.answers (exec (.programMemoryWrite m b off v) s) (fun e =>
      e.loadN a 4 = v.toNat ∧ (∀ y, (y < a ∨ a + 4 ≤ y) → e.byte y = d.byte y) ∧ e.fld (rgnReg r) F.RGN_RACK_CTRL_loaded = 0 ∧ frame e ∧
      (d.rackState r = 1 → d.fld (rgnReg r) F.RGN_RACK_CTRL_what ≠ 2 → e.rackState r = 0) ∧ (d.rackState r = 0 → e.rackState r = 0 ∧ e.lanes = d.lanes))) ∧
    (¬ image_ → exec (.programMemoryWrite m b off v) s = .next s) ∧
    (∀ f, d.loadFailure image = some f → s.answers (exec (.loaderLoad image) s) (fun e => e.loadRes = f ∧ e.mem = d.mem ∧ frame e) ∧
      (d.flag 0 F.DEV_STAT_ready = true → exec (.loaderLoad image) s = .next ⟨{ d with loadRes := f }, s.pending⟩)) ∧
    (d.caskRefused image = true → s.answers (exec (.loaderLoad image) s) (fun e => e.loadRes.code = 1 ∧ e.mem = d.mem ∧ frame e)) ∧
    (d.caskRefused image = false → bitOf image.mask.toNat r = true → d.rackState r ≠ 0 → s.answers (exec (.loaderLoad image) s) (fun e =>
      e.loadRes.code = 16 ∧ e.mem = d.mem ∧ frame e)) ∧
    (d.loadFailure image = none → s.answers (exec (.loaderLoad image) s) (fun e => e.loadRes.code = 0 ∧ frame e ∧
      (written → (∀ n, Store.get (fun _ => 0) (e.lane b).g n = 0) ∧ (e.lane b).mode = (d.lane b).mode ∧ (e.lane b).pc = (d.lane b).pc) ∧
      (¬ written → e.lane b = d.lane b) ∧
      (bitOf image.mask.toNat r = true → e.fld (rgnReg r) F.RGN_RACK_CTRL_loaded = 1 ∧ e.activeSlot r = d.activeSlot r ∧
        (claimOf image b ≠ 0 → d.activeSlot r = 1 → e.fld (blkReg b) F.LANE_ENTRY_a = entryOf image b ∧ e.fld (blkReg b) F.LANE_WCET_a = (claimOf image b + 3) / 4 % 65536) ∧
        (claimOf image b ≠ 0 → d.activeSlot r = 0 → e.fld (blkReg b) F.LANE_ENTRY_b = entryOf image b ∧ e.fld (blkReg b) F.LANE_WCET_b = (claimOf image b + 3) / 4 % 65536)))) ∧
    (∀ f, d.timingFailure = some f → exec .timingApplyService s = .next ⟨{ d with loadRes := f }, s.pending⟩) ∧
    (d.timingFailure = none → s.answers (exec .timingApplyService s) (fun e => e.loadRes.code = 0 ∧ e.flag 0 F.TRL_STATUS_apply_pending = true ∧
      e.mem = d.mem ∧ frame e ∧ e.lanes = d.lanes))

/-- The region DMA engines (R447 to R450, R459). A push is queued or refused, an ending descriptor counted first; a channel in IDLE or RUN takes its next descriptor as it reads it
then; each beat of a transaction keeps what it reads or stores its double word upwards; a descriptor whose last write has been answered posts its status; one with an error halts
its channel, which goes on after resume; flush answers every queued descriptor with code 7. -/
def Obligations.DmaEngines : Prop :=
  ∀ (m : Master) (r : RegionId) (c : Fin 4) (addr : Word) (s : State),
    let d := s.dev
    let ch := d.chan r c
    let n := ch.queue.length + if ch.cur.isSome then 1 else 0
    let base := dmaBase r c
    let others := fun (e : Dev) => ∀ i, i ≠ 4 * r.val + c.val → Store.get (fun _ => DmaChan.initial) e.dma i = Store.get (fun _ => DmaChan.initial) d.dma i
    let frame := fun (e : Dev) => e.units = d.units ∧ e.legs = d.legs ∧ e.nvs = d.nvs ∧ e.fab = d.fab ∧ others e
    let own := 0x20000000 + 0x1000000 * r.val
    let ram := fun (a l : Nat) => (0x12000000 ≤ a ∧ a + l ≤ 0x121C0000) ∨ (own ≤ a ∧ a + l ≤ own + 0x100000)
    let writable := fun (a : Word) => a.toNat % 32 = 0 ∧ ram a.toNat 32 ∧ d.isBad (a.toNat + 0x10) = false ∧ d.inLock (a.toNat + 0x10) = false
    let status := fun (code moved : Nat) => pack [(1, 1), (if code = 0 then 0 else 1, 1), (0, 2), (code, 4), (0, 8), (min (moved / 64) 0xFFFF, 16)]
    let ends := fun (x : DmaDesc) => ch.err ≠ 0 ∨ (ch.moved = x.len ∧ d.dmaRuns r c = false)
    let fill := fun (x : DmaDesc) => bitOf x.ctrl.toNat 1 = true
    let bad := fun (x : DmaDesc) => x.len = 0 ∨ x.len % 8 ≠ 0 ∨ x.dst.toNat % 8 ≠ 0 ∨ (¬ fill x ∧ x.src.toNat % 8 ≠ 0)
    let outside := fun (e : Dev) (x : DmaDesc) => ∀ y, (y < x.addr.toNat + 0x10 ∨ x.addr.toNat + 0x14 ≤ y) → e.byte y = d.byte y
    let read := fun (a : Word) (x : DmaDesc) => x.addr = a ∧ x.src.toNat = d.loadN a.toNat 4 ∧ x.dst.toNat = d.loadN (a.toNat + 4) 4 ∧
      x.len = d.loadN (a.toNat + 8) 4 % 2 ^ 24 ∧ x.ctrl.toNat = d.loadN (a.toNat + 0xC) 4 ∧ x.user.toNat = d.loadN (a.toNat + 0x14) 4 ∧
      x.pattern.toNat = d.loadN (a.toNat + 0x18) 8
    let taken := fun (a : Word) => a.toNat % 32 = 0 ∧ ch.cur = none ∧ d.dmaState r c < 2 ∧ ch.queue.head? = some a
    ((addr.toNat % 32 ≠ 0 ∧ n < 64) ∨ (64 ≤ n ∧ ∀ x, ch.cur = some x → ¬ ends x) → s.answers (exec (.dmaPush m r c addr) s) (fun e => e.dma = d.dma ∧
      e.mem = d.mem ∧ e.fld base F.DMA_STAT2_qfull = satInc 16 (d.fld base F.DMA_STAT2_qfull))) ∧
    (addr.toNat % 32 = 0 → n < 64 → s.answers (exec (.dmaPush m r c addr) s) (fun e => e.chan r c = { ch with queue := ch.queue ++ [addr] } ∧ e.mem = d.mem ∧
      e.fld base F.DMA_STAT_queued = n + 1 ∧ frame e)) ∧
    (∀ x, ch.cur = some x → ends x → addr.toNat % 32 = 0 → n = 64 → s.answers (exec (.dmaPush m r c addr) s) (fun e =>
      e.chan r c = { ch with queue := ch.queue ++ [addr], cur := none } ∧ e.fld base F.DMA_STAT_queued = 64 ∧ others e)) ∧
    (d.dmaState r c = 2 → s.answers (exec (.dmaResume m r c) s) (fun e => e.dmaState r c = 0 ∧ e.dma = d.dma ∧ e.mem = d.mem ∧ frame e)) ∧
    (d.dmaState r c ≠ 2 → exec (.dmaResume m r c) s = .next s) ∧
    ((∀ a ∈ ch.queue, writable a) → s.answers (exec (.dmaFlush m r c) s) (fun e => e.chan r c = { ch with queue := [] } ∧ frame e ∧
      (∀ a ∈ ch.queue, e.loadN (a.toNat + 0x10) 4 = status 7 0) ∧
      ∀ y, (∀ a ∈ ch.queue, y < a.toNat + 0x10 ∨ a.toNat + 0x14 ≤ y) → e.byte y = d.byte y)) ∧
    (ch.cur ≠ none ∨ d.dmaState r c = 2 ∨ d.dmaState r c = 3 ∨ ch.queue = [] → exec (.dmaDescriptorStart r c) s = .next s) ∧
    (∀ a, taken a → ram a.toNat 32 → (∀ i < 32, d.isBad (a.toNat + i) = false) → s.answers (exec (.dmaDescriptorStart r c) s) (fun e =>
      (∃ x code, read a x ∧ e.chan r c = ⟨ch.queue.tail, some x, 0, 0, code, ch.started + 1⟩ ∧ (bad x → code = 1) ∧
        (¬ bad x → fill x ∨ ram x.src.toNat x.len → ram x.dst.toNat x.len → code = 0) ∧
        (¬ bad x → ¬ fill x → memKind x.src.toNat = none → code = 2) ∧
        (¬ bad x → fill x ∨ ram x.src.toNat x.len → memKind x.dst.toNat = none → code = 3)) ∧
      e.dmaState r c = 1 ∧ e.fld base F.DMA_CUR_addr = a.toNat ∧ e.mem = d.mem ∧ frame e)) ∧
    (∀ a, taken a → memKind a.toNat = none ∨ (ram a.toNat 32 ∧ d.isBad a.toNat = true) → s.answers (exec (.dmaDescriptorStart r c) s) (fun e =>
      e.chan r c = ⟨ch.queue.tail, none, 0, 0, 6, ch.started + 1⟩ ∧ e.dmaState r c = 2 ∧ e.fld base F.DMA_STAT_code = 6 ∧ e.mem = d.mem ∧ others e)) ∧
    (ch.cur = none → exec (.dmaDescriptorEnd r c) s = .next s) ∧
    (∀ x, ch.cur = some x → ¬ ends x → exec (.dmaDescriptorEnd r c) s = .next s) ∧
    (∀ x, ch.cur = some x → ch.err ≠ 0 → ch.err ≠ 6 → writable x.addr → s.answers (exec (.dmaDescriptorEnd r c) s) (fun e => e.dmaState r c = 2 ∧
      e.fld base F.DMA_STAT_code = ch.err % 16 ∧ e.fld base F.DMA_STAT2_errors = satInc 16 (d.fld base F.DMA_STAT2_errors) ∧
      e.chan r c = { ch with cur := none } ∧ e.loadN (x.addr.toNat + 0x10) 4 = status ch.err ch.moved ∧ outside e x ∧ frame e)) ∧
    (∀ x, ch.cur = some x → ch.err = 0 → ends x → writable x.addr → s.answers (exec (.dmaDescriptorEnd r c) s) (fun e =>
      e.loadN (x.addr.toNat + 0x10) 4 = status 0 x.len ∧ e.chan r c = { ch with cur := none } ∧
      e.fld base F.DMA_STAT_done = (d.fld base F.DMA_STAT_done + 1) % 65536 ∧ e.dmaState r c = (if ch.queue = [] then 0 else d.dmaState r c) ∧
      outside e x ∧ frame e)) ∧
    (∀ (q : FabReq) seq at_ a v rest, q.m.id.val = 6 + r.val → q.noise = noNoise → d.dmaLive r c seq = true → a % 8 = 0 → ram a 8 → d.inLock a = false →
      q.work = .dmaWrite c seq at_ ((a, v) :: rest) → (d.serveBeat q).2.loadN a 8 = v.toNat ∧ ((d.serveBeat q).2.chan r c).moved = ch.moved + 8 ∧
        (d.serveBeat q).1.work = .dmaWrite c seq at_ rest ∧ ∀ y, (y < a ∨ a + 8 ≤ y) → (d.serveBeat q).2.byte y = d.byte y) ∧
    (∀ (q : FabReq) seq at_ a rest got, q.m.id.val = 6 + r.val → q.noise = noNoise → d.dmaLive r c seq = true → a % 8 = 0 → ram a 8 → d.isBad a = false →
      q.work = .dmaRead c seq at_ (a :: rest) got → (d.serveBeat q).2 = d ∧
        (d.serveBeat q).1.work = .dmaRead c seq at_ rest (got ++ [BitVec.ofNat 64 (d.loadN a 8)]))

/-- Indirect pairs, snapshots, routes and the log (R498 to R505, R507 to R513, R515). A master that a lock keeps out gets an error response, unless the lock was acquired in this cycle, which the access undoes; another access reads or writes the indirect word and adds
4 to IND_ADDR. A lock ends with its owner's write of 0 or 1 ms after its last access. A snapshot copies every register of its scope as it stood when the cycle began, one snapshot per cycle. A software raise is counted,
sets the pending bit of every matching core route and the condition bit of every matching lane route, and is staged; the log takes the oldest. -/
def Obligations.IndirectAndEvents : Prop :=
  ∀ (m : Master) (sc : IndScope) (v : Word) (o : Nat) (s : State),
    let d := s.dev
    let at_ := indBase sc
    let a := (d.reg at_).toNat
    let locked := bitOf (d.reg (at_ + 8)).toNat 8 = true
    let shut := locked ∧ bitsOf (d.reg (at_ + 8)).toNat 0 5 ≠ m.id.val
    let busy := d.raise Ev.IND_BUSY (scopeMaster m.id) 0
    let state := fun (e : Dev) => e.mem = d.mem ∧ e.units = d.units ∧ e.legs = d.legs ∧ e.lanes = d.lanes ∧ e.nvs = d.nvs
    let stepped := fun (e : Dev) (w : Word) => e.reg at_ = d.reg at_ + 4 ∧ e.resp = w ∧ e.respErr = false ∧ state e
    let was := fun (a : Nat) => Store.get resetWord d.regs0 a
    let fresh := Store.get (fun _ => 0) d.indGot (indNum sc) = d.now + 1
    let used := Store.get (fun _ => 0) d.indUse (indNum sc) / 32 = d.now + 1 ∧ Store.get (fun _ => 0) d.indUse (indNum sc) % 32 ≠ m.id.val
    let copy := fun (e : Dev) (a : Nat) => Store.get zeroWord e.snaps a
    let inCopies := match sc with | .chip => a = 0x10000000 + o ∧ o < 0x70000 | .region _ => a = 0x10800000 + o ∧ o < 0x4000
    let source := match sc with | .chip => 0x40000000 + o | .region r => rgnReg r + o
    let unmapped := (match sc with | .chip => 0x3000 ≤ a | .region _ => 0x1000 ≤ a) ∧ a < 0x10000000
    let taken := fun (sc : IndScope) => Store.get (fun _ => 0) d.snapAt (indNum sc) = d.now + 1
    let seq := fun (e : Dev) (sc : IndScope) => bitsOf (e.reg (indBase sc + 0x10)).toNat 16 16
    let arg := BitVec.ofNat 32 (d.fld 0 F.EVR_SWARG_arg)
    let routed := fun (w : Word) (src : Nat) => bitOf w.toNat 31 = true ∧ bitsOf w.toNat 0 8 = src ∧ 0 &&& bitsOf w.toNat 16 8 = bitsOf w.toNat 8 8 &&& bitsOf w.toNat 16 8
    let count := fun (e : Dev) (n : Nat) => e.fld (4 * (0xC0 + n)) F.EVR_CNT_count
    (shut → ¬ fresh → ∀ wr, exec (.indDataAccess m sc wr) s = .next ⟨{ busy with resp := 0, respErr := true }, s.pending⟩) ∧
    (shut → fresh → inCopies → s.answers (exec (.indDataAccess m sc none) s) (fun e => e.resp = copy d source ∧ e.respErr = false ∧ e.reg (at_ + 8) = 0 ∧
      e.reg at_ = d.reg at_ + 4 ∧ e.mem = d.mem ∧ e.units = d.units ∧ e.legs = d.legs)) ∧
    (¬ shut → inCopies → s.answers (exec (.indDataAccess m sc none) s) (fun e => stepped e (copy d source)) ∧
      s.answers (exec (.indDataAccess m sc (some v)) s) (fun e => stepped e 0 ∧ e.snaps = d.snaps ∧ e.ind = d.ind)) ∧
    (¬ shut → unmapped → ∀ wr, s.answers (exec (.indDataAccess m sc wr) s) (fun e => stepped e 0 ∧ e.ind = d.ind ∧ e.snaps = d.snaps ∧
      bitOf (e.reg (at_ + 0xC)).toNat 0 = true)) ∧
    (∀ r, sc = .region r → ¬ shut → a < 0x1000 → s.answers (exec (.indDataAccess m sc none) s) (fun e => stepped e (d.indGet ((r.val + 1) * 2 ^ 32 + a))) ∧
      (a % 4 = 0 → a / 0x800 ≠ d.fld (rgnReg r) F.RGN_RACK_STAT_trim → s.answers (exec (.indDataAccess m sc (some v)) s) (fun e => stepped e 0 ∧
        e.indGet ((r.val + 1) * 2 ^ 32 + a) = v))) ∧
    (sc = .chip → ¬ shut → 0x2000 ≤ a → a < 0x2400 → s.answers (exec (.indDataAccess m sc none) s) (fun e => stepped e (d.indGet a)) ∧
      s.answers (exec (.indDataAccess m sc (some v)) s) (fun e => stepped e 0 ∧ e.indGet a = v)) ∧
    (bitOf v.toNat 8 = true → shut ∨ used → exec (.indLockWrite m sc v) s = .next ⟨busy, s.pending⟩) ∧
    (bitOf v.toNat 8 = true → ¬ shut → ¬ used → s.answers (exec (.indLockWrite m sc v) s) (fun e => e.reg (at_ + 8) = BitVec.ofNat 32 (256 + m.id.val) ∧ state e ∧
      Store.get (fun _ => 0) e.indAt (indNum sc) = d.now)) ∧
    (bitOf v.toNat 8 = false → locked → ¬ shut → s.answers (exec (.indLockWrite m sc v) s) (fun e => e.reg (at_ + 8) = 0 ∧ state e)) ∧
    (bitOf v.toNat 8 = false → ¬ locked ∨ shut → exec (.indLockWrite m sc v) s = .next s) ∧
    (locked → Store.get (fun _ => 0) d.indAt (indNum sc) + 800000 ≤ d.now → s.answers (exec (.indLockExpiry sc) s) (fun e => e.reg (at_ + 8) = 0 ∧
      bitOf (e.reg (at_ + 0xC)).toNat 1 = true ∧ state e)) ∧
    (¬ locked ∨ d.now < Store.get (fun _ => 0) d.indAt (indNum sc) + 800000 → exec (.indLockExpiry sc) s = .next s) ∧
    (¬ taken sc → s.answers (exec (.snap m sc) s) (fun e => seq e sc = (seq d sc + 1) % 65536 ∧ e.reg (at_ + 0x14) = d.ns.setWidth 32 ∧
      e.reg (at_ + 0x18) = (d.ns >>> 32).setWidth 32 ∧ state e ∧
      (∀ r, sc = .region r → ∀ i < 4, ∀ j < 32, copy e (blkReg (4 * r + i) + 0x50) = was (blkReg (4 * r + i) + 0x50) ∧
        copy e (legReg (32 * r + j) + 0x18) = BitVec.ofNat 32 (({ d with regs := d.regs0 } : Dev).legState (32 * r + j)) ∧
        copy e (legReg (32 * r + j) + 0x3C) = was (legReg (32 * r + j) + 0x3C)) ∧
      (sc = .chip → copy e 0x40000008 = d.ns.setWidth 32 ∧ ∀ k < 256, copy e (0x40011000 + 4 * k) = was (0x40011000 + 4 * k)))) ∧
    (taken sc → exec (.snap m sc) s = .next s) ∧
    s.answers (exec (.snapAll m) s) (fun e => state e ∧ ∀ x, seq e x = if taken x then seq d x else (seq d x + 1) % 65536) ∧
    s.answers (exec (.evrSwraise m v) s) (fun e => e.mem = d.mem ∧ e.units = d.units ∧ e.legs = d.legs ∧
      ∀ n < 16, count e n = if bitOf v.toNat n then satInc 16 (count d n) else count d n) ∧
    (∀ n < 16, v.toNat % 65536 = 2 ^ n → s.answers (exec (.evrSwraise m v) s) (fun e =>
      (∀ c < 5, ∀ i < 64, (c = 3 → d.isSplit = true) → routed (was (0x40010000 + 0x100 * c + 4 * i)) (0xC0 + n) →
        bitOf (e.reg (0x40010C00 + 8 * c + 4 * (i / 32))).toNat (i % 32) = true) ∧
      (∀ l < 16, ∀ j < 16, routed (Store.get zeroWord d.laneRoutes (16 * l + j)) (0xC0 + n) → bitOf (e.reg (blkReg l + 0x30)).toNat (16 + j) = true) ∧
      (bitOf (d.reg 0x40011428).toNat n = true → d.stage.length < 32 → ⟨d.now, 0xC0 + n, 0, arg, d.ns⟩ ∈ e.stage ∧ e.stage.length = d.stage.length + 1) ∧
      (bitOf (d.reg 0x40011428).toNat n = true → 32 ≤ d.stage.length → e.stage = d.stage ∧ e.fld 0 F.EVR_STAT_lost = satInc 16 (d.fld 0 F.EVR_STAT_lost)) ∧
      (bitOf (d.reg 0x40011428).toNat n = false → e.stage = d.stage))) ∧
    (d.stage = [] → exec .logEntryWrite s = .next s) ∧
    (∀ x t, d.stage = x :: t →
      let wr := d.fld 0 F.EVR_LOG_WR_idx
      let full := (wr + 1) % 256 = fget (was F.EVR_LOG_RD_idx.off) F.EVR_LOG_RD_idx
      (full → s.answers (exec .logEntryWrite s) (fun e => e.stage = t ∧ e.fld 0 F.EVR_STAT_lost = satInc 16 (d.fld 0 F.EVR_STAT_lost) ∧
        e.fld 0 F.EVR_LOG_WR_idx = wr ∧ state e)) ∧
      (¬ full → s.answers (exec .logEntryWrite s) (fun e => e.stage = t ∧ e.fld 0 F.EVR_LOG_WR_idx = (wr + 1) % 256 ∧ state e ∧
        e.reg (0x40012000 + 16 * wr) = BitVec.ofNat 32 (pack [(x.src, 8), (x.scope, 8)]) ∧ e.reg (0x40012004 + 16 * wr) = x.arg ∧
        e.reg (0x40012008 + 16 * wr) = x.ns.setWidth 32 ∧ e.reg (0x4001200C + 16 * wr) = (x.ns >>> 32).setWidth 32)))

/-- Racking of a region (R86, R99, R106, R152, R522, R524 to R530). An arm is refused with the first check that fails; an armed region switches at its tick, clears its lanes for a
lane set, begins to copy its state map and enters PROBATION; a trigger takes it back with the map reversed, before a restart of the same cycle, and without one it commits. A restart needs a HALTED lane and no cause; a write of what is in force is refused. -/
def Obligations.RegionRacking : Prop :=
  ∀ (m : Master) (r : RegionId) (b : BlockId) (v : Word) (setB : Bool) (n : Fin 256) (s : State),
    let d := s.dev
    let st := d.rackState r
    let what := d.fld (rgnReg r) F.RGN_RACK_CTRL_what
    let field := fun (e : Dev) (f : Fld) => e.fld (rgnReg r) f
    let frame := fun (e : Dev) => e.units = d.units ∧ e.legs = d.legs ∧ e.mem = d.mem
    let others := fun (e : Dev) => ∀ q, q < 4 → q ≠ r.val → e.rackState q = d.rackState q ∧ e.activeSlot q = d.activeSlot q ∧ e.activeBank q = d.activeBank q
    let refusedArm := fun (e : Dev) (k : Nat) => e.rackState r = st ∧ ∃ x : Dev, e = x.raise Ev.RACK_REFUSED (scopeRgn r) k
    let word := d.reg (rgnReg r + 0x3104)
    let ahead := (word.toNat + 2 ^ 32 - d.fld 0 F.TRL_TICK_CNT_k) % 2 ^ 32
    let early := ahead < 2 ∨ 2 ^ 31 < ahead
    let w := bitsOf v.toNat 2 2
    let lost := fun (i : Nat) => (w = 0 ∧ bitOf (d.reg (blkReg (4 * r.val + i) + 0x70)).toNat (17 - d.activeSlot r) = true) ∨
      (w ≠ 2 ∧ bitOf (d.reg (blkReg (4 * r.val + i) + 0x70)).toNat (20 - d.activeBank r) = true)
    let sound := w ≠ 2 → bitOf v.toNat 4 = true ∧ (∀ i < 4, ¬ lost i) ∧ (w = 0 → d.wcetFits r = true)
    let armOnly := v.toNat % 4 = 1
    let mapless := d.fld (rgnReg r) F.RGN_RACK_MAP_n = 0
    let blocks := fun (p : Nat → Prop) => ∀ i < 4, p (4 * r.val + i)
    let cleared := fun (e : Dev) (b : Nat) (mode : LaneMode) => e.reg (blkReg b + 0x20) = 0 ∧
      ∃ x y z, e.lane b = { (d.lane b).cleared mode with freshAt := x, fresh := y, freshNew := z }
    let copied := fun (e : Dev) (back : Bool) => blocks (fun b => e.copyList b = d.copyList b ++
      ((d.stateMap r).filter (fun x => x.blk % 4 == b % 4)).flatMap (fun x => mapWords (blkBase b + 0x40000) x back))
    let modeAfter := fun (b : Nat) => if (d.lane b).mode = .halted ∧ (d.rack r).racked = true then LaneMode.halted else .done
    let swapped := fun (e : Dev) => e.activeSlot r = 1 - d.activeSlot r ∧ e.activeBank r = 1 - d.activeBank r
    let kept := fun (e : Dev) => e.activeSlot r = d.activeSlot r ∧ e.activeBank r = d.activeBank r
    let due := st = 1 ∧ d.fld 0 F.TRL_TICK_CNT_k = word.toNat
    let steady := d.trl.appliedStep ≠ some d.trl.tickStep
    let descr := rgnReg r + (if setB then 0x800 else 0x400) + 4 * n
    let inForce := d.activeSlot r = if setB then 1 else 0
    let restartable := (d.lane b).mode = .halted ∧ d.reg (blkReg b + 0x40) = 0 ∧ d.reg (rgnReg (b / 4) + 0x40) = 0 ∧
      bitOf (d.reg (blkReg b + 0x70)).toNat (16 + d.activeSlot (b / 4)) = false ∧ bitOf (d.reg (blkReg b + 0x70)).toNat (19 + d.activeBank (b / 4)) = false ∧
      bitOf (d.reg (blkReg b + 0x70)).toNat 18 = false
    let quiet := (d.rack (b / 4)).trig = none ∨ d.rackState (b / 4) ≠ 2 ∨ ((d.rack (b / 4)).due = false ∧ (d.stepNow : Int) + 31 < d.trl.nextStep)
    let pairs := [(Instr.laneEntryWrite m b v, F.LANE_ENTRY_a, F.LANE_ENTRY_b), (Instr.laneWcetWrite m b v, F.LANE_WCET_a, F.LANE_WCET_b)]
    (armOnly → st ≠ 0 → s.answers (exec (.rackArm m r v) s) (fun e => refusedArm e 1 ∧ kept e ∧ frame e)) ∧
    (armOnly → st = 0 → early → s.answers (exec (.rackArm m r v) s) (fun e => refusedArm e 2 ∧ kept e ∧ frame e)) ∧
    (armOnly → st = 0 → ¬ early → w ≠ 2 → bitOf v.toNat 4 = false →
      s.answers (exec (.rackArm m r v) s) (fun e => refusedArm e 3 ∧ kept e ∧ frame e)) ∧
    (armOnly → st = 0 → ¬ early → bitOf v.toNat 4 = true → (∃ i < 4, lost i) → s.answers (exec (.rackArm m r v) s) (fun e => refusedArm e 4 ∧ kept e ∧ frame e)) ∧
    (armOnly → st = 0 → ¬ early → bitOf v.toNat 4 = true → w = 0 → (∀ i < 4, ¬ lost i) → d.wcetFits r = false →
      s.answers (exec (.rackArm m r v) s) (fun e => refusedArm e 5 ∧ kept e ∧ frame e)) ∧
    (armOnly → st = 0 → ¬ early → sound → mapless → s.answers (exec (.rackArm m r v) s) (fun e =>
      e.rackState r = 1 ∧ field e F.RGN_RACK_CTRL_what = w ∧ field e F.RGN_RACK_CTRL_probation = max 1 (bitsOf v.toNat 16 16) ∧ kept e ∧ frame e ∧ others e)) ∧
    (st = 1 → s.answers (exec (.rackCancel m r) s) (fun e => e.rackState r = 0 ∧ kept e ∧ frame e ∧ others e ∧ e.lanes = d.lanes)) ∧
    (st ≠ 1 → exec (.rackCancel m r) s = .next s) ∧
    (¬ due → exec (.rackSwitch r) s = .next s) ∧
    (due → steady → what = 0 → s.answers (exec (.rackSwitch r) s) (fun e => e.rackState r = 2 ∧ swapped e ∧ frame e ∧ others e ∧
      field e F.RGN_RACK_STAT_left = field d F.RGN_RACK_CTRL_probation ∧ field e F.RGN_RACK_CTRL_loaded = 0 ∧ (e.rack r).racked = true ∧
      copied e false ∧ ((d.rack r).faultAt ≠ d.now + 1 → (e.rack r).trig = none) ∧ blocks (fun b => cleared e b (modeAfter b)))) ∧
    (due → steady → what = 1 ∨ what = 3 → s.answers (exec (.rackSwitch r) s) (fun e => e.rackState r = 0 ∧ e.activeSlot r = d.activeSlot r ∧
      e.activeBank r = 1 - d.activeBank r ∧ frame e ∧ others e ∧ field e F.RGN_RACK_CNT_racks = satInc 16 (field d F.RGN_RACK_CNT_racks) ∧
      copied e false ∧ blocks (fun b => (e.lane b).mode = (if (d.rack r).racked then (d.lane b).mode else .done) ∧ (e.lane b).pc = (d.lane b).pc))) ∧
    (due → steady → what = 2 → s.answers (exec (.rackSwitch r) s) (fun e => e.rackState r = 0 ∧ kept e ∧ frame e ∧ others e ∧
      field e F.RGN_RACK_STAT_trim = 1 - field d F.RGN_RACK_STAT_trim)) ∧
    (due → ¬ steady → what = 0 → d.wcetFits r = false → s.answers (exec (.rackSwitch r) s) (fun e => e.rackState r = 0 ∧ kept e ∧ frame e ∧ others e ∧
      ∃ x : Dev, e = x.raise Ev.RACK_REFUSED (scopeRgn r) 7)) ∧
    (st = 2 → field d F.RGN_RACK_STAT_left = 0 → (d.rack r).trig = none → s.answers (exec (.rackCommit r) s) (fun e => e.rackState r = 0 ∧ kept e ∧ frame e ∧ others e ∧
      field e F.RGN_RACK_CNT_racks = satInc 16 (field d F.RGN_RACK_CNT_racks))) ∧
    (¬ (st = 2 ∧ field d F.RGN_RACK_STAT_left = 0 ∧ (d.rack r).trig = none) → exec (.rackCommit r) s = .next s) ∧
    (∀ src, st = 2 → (d.rack r).trig = some src → (d.rack r).due = true → s.answers (exec (.unrack r) s) (fun e => e.rackState r = 0 ∧ swapped e ∧ frame e ∧ others e ∧
      field e F.RGN_RACK_CNT_unracks = satInc 16 (field d F.RGN_RACK_CNT_unracks) ∧ field e F.RGN_RACK_CTRL_loaded = 0 ∧ copied e true ∧
      blocks (fun b => cleared e b (if (d.lane b).mode = .halted then .halted else .done)) ∧ ∃ x : Dev, e = x.raise Ev.UNRACK (scopeRgn r) src)) ∧
    (st ≠ 2 ∨ (d.rack r).trig = none ∨ (d.rack r).due = false → exec (.unrack r) s = .next s) ∧
    (v.toNat % 2 = 1 → quiet → restartable → s.answers (exec (.blkCtrlRestart m b v) s) (fun e => cleared e b .done ∧ frame e ∧ ∀ q, q ≠ b.val → e.lane q = d.lane q)) ∧
    (v.toNat % 2 = 1 → quiet → ¬ restartable → exec (.blkCtrlRestart m b v) s = .next ⟨d.raise Ev.LANE_RESTART_REFUSED (scopeBlk b) 0, s.pending⟩) ∧
    (v.toNat % 2 = 1 → ¬ quiet → s.answers (exec (.blkCtrlRestart m b v) s) (fun e => e.rackState (b / 4) = 0 ∧ e.activeSlot (b / 4) = 1 - d.activeSlot (b / 4) ∧
      e.activeBank (b / 4) = 1 - d.activeBank (b / 4) ∧ frame e)) ∧
    (v.toNat % 2 = 0 → exec (.blkCtrlRestart m b v) s = .next s) ∧
    (v.toNat % 2 = 1 → d.reg (rgnReg r + 0x40) = 0 → s.answers (exec (.rgnRestartDma m r v) s) (fun e => frame e ∧ e.dma = d.dma ∧
      ∀ c < 4, e.dmaState r c = if d.dmaState r c = 3 then 0 else d.dmaState r c)) ∧
    (v.toNat % 2 = 0 ∨ d.reg (rgnReg r + 0x40) ≠ 0 → exec (.rgnRestartDma m r v) s = .next s) ∧
    (∀ x ∈ pairs,
      let active := if d.activeSlot (b / 4) = 0 then x.2.1 else x.2.2
      let other := if d.activeSlot (b / 4) = 0 then x.2.2 else x.2.1
      s.answers (exec x.1 s) (fun e => e.fld (blkReg b) other = bitsOf v.toNat other.lo other.w ∧ e.fld (blkReg b) active = d.fld (blkReg b) active ∧ frame e ∧
        (bitsOf v.toNat active.lo active.w ≠ d.fld (blkReg b) active → ∃ x : Dev, e = x.raise Ev.LANE_MEM_REFUSED (scopeBlk b) (blkReg b + active.off)))) ∧
    (inForce → exec (.exchChWrite m r setB n v) s = .next ⟨d.raise Ev.EXCH_CFG_REFUSED (scopeRgn r) descr, s.pending⟩) ∧
    (¬ inForce → st ≠ 0 → d.armedHere r = false → exec (.exchChWrite m r setB n v) s = .next ⟨d.raise Ev.LANE_MEM_REFUSED (scopeRgn r) descr, s.pending⟩) ∧
    (¬ inForce → st = 0 ∨ d.armedHere r = true → s.answers (exec (.exchChWrite m r setB n v) s) (fun e => field e F.RGN_RACK_CTRL_loaded = 0 ∧ frame e ∧
      (st = 0 → e.lanes = d.lanes) ∧
      ∀ f ∈ [(0, 2), (4, 4), (8, 5), (31, 1)], bitsOf (e.reg descr).toNat f.1 f.2 = bitsOf v.toNat f.1 f.2))

/-- Power-on, clock faults, trims and the chip firmware (R11, R35, R38 to R40, R397, R399, R516 to R518, R521, R531 to R533, R541, R547). At the release of reset nothing but OTP, NVS and tags is kept and every leg is off; what
verifies is released, a failed safety firmware leaves the device in lock-out, and two failed chip firmware slots leave it in RECOVERY. A clock fault halts what it clocks (the core
clock's comes with one: log entry 15). Trims in force stay; a go of AC0 or AC1 starts the other slot on trial, which confirm makes permanent and fail or the end of prob undo by a
restart from the other slot (a trial that does not verify: log entry 100). -/
def Obligations.StartUpAndChipRacking : Prop :=
  ∀ (m : Master) (alarm : Option (Fin 6)) (ns : Nat) (v : Word) (b : BlockId) (r : RegionId) (core : Bool) (sc : IndScope) (addr : BitVec 12) (s : State),
    let d := s.dev
    let pointer := if d.vault.trial then !d.vault.bootSlot else d.vault.bootSlot
    let loaded := ({ d.powerOn with trl := { d.powerOn.trl with calibrations := 1 } } : Dev).loadKept
    let up := if loaded.vintLost then loaded.raise Ev.VINTAGE_NVS_LOST scopeChip 0 else loaded
    let ok := fun (slot : Bool) => up.storedCaskOk (if slot then 1 else 0)
    let chosen := if ok pointer then pointer else !pointer
    let fresh := fun (e : Dev) => e.now = 0 ∧ (d.nvsq = [] → e.nvs = d.nvs) ∧ e.tags = d.tags ∧ e.mem = [] ∧ e.legs = [] ∧ e.lanes = [] ∧
      e.vault.serial = d.vault.serial ∧ e.vault.identity = d.vault.identity
    let own := [0x40020000, 0x40020228, 0x40020250]
    let frame := fun (e : Dev) => e.mem = d.mem ∧ e.units = d.units ∧ e.legs = d.legs
    let ready := d.flag 0 F.DEV_STAT_ready
    let chip := d.fld 0 F.CHIP_RACK_state
    let ac := m.id = 0 ∨ m.id = 1
    let go := ac ∧ chip ≠ 1 ∧ v.toNat % 2 = 1 ∧ bitsOf v.toNat 2 2 = 0
    let slot := bitsOf v.toNat 1 1
    let active := d.fld 0 F.CHIP_RACK_active
    let next := if d.vault.bootSlot then 1 else 0
    let refused := slot = active ∨ (∃ q < 4, d.rackState q ≠ 0) ∨ d.fld 0 F.HSL_UPD_state ≠ 0 ∨ Store.get (fun _ => false) d.slotOk slot = false
    let boot := fun (e : Dev) (slot trial : Bool) => e.vault.bootSlot = slot ∧ e.vault.trial = trial ∧ e.nvsFld F.NVS_STAT_boot_slot = (if slot then 1 else 0)
    let undone := fun (e : Dev) => e.fld 0 F.CHIP_RACK_state = 1 ∧ e.fld 0 F.CHIP_RACK_active = active ∧ boot e (decide (active = 0)) false ∧
      e.chipAt = d.now ∧ frame e ∧ ∃ y : Dev, e = y.raise Ev.CHIP_UNRACK scopeChip (1 - active)
    s.answers (exec (.porRelease alarm) s) fresh ∧
    (alarm = none → ok chosen = true → s.answers (exec (.porRelease alarm) s) (fun e => e.fld 0 F.CEL_STAT_state = 1 ∧ e.vault.bootSlot = chosen ∧
      e.vault.trial = false ∧ e.fld 0 F.CHIP_RACK_active = (if chosen then 1 else 0) ∧ (chosen ≠ pointer → e.vault.fallback = true))) ∧
    (∀ c, alarm = none → up.bootChip = some c → c.storedCaskOk 2 = true → c.storedCaskOk 3 = true → s.answers (exec (.porRelease alarm) s) (fun e =>
      e.hsl.pairUp = true ∧ e.pairReset = none ∧ e.units = [])) ∧
    (∀ c, alarm = none → up.bootChip = some c → c.storedCaskOk 2 = false ∨ c.storedCaskOk 3 = false → s.answers (exec (.porRelease alarm) s) (fun e =>
      e.hsl.pairUp = false ∧ e.flag 0 F.HSL_STAT_lockout = true ∧ bitOf (e.reg 0x40020050).toNat 1 = true)) ∧
    (alarm = none → ok true = false → ok false = false → s.answers (exec (.porRelease alarm) s) (fun e => e.fld 0 F.CEL_STAT_state = 2 ∧
      e.hsl.pairUp = false ∧ e.units = [])) ∧
    (∀ i : Fin 6, alarm = some i → s.answers (exec (.porRelease alarm) s) (fun e => e.fld 0 F.CEL_STAT_state = 5 ∧ bitOf (e.reg 0x40030014).toNat i = true ∧
      e.flag 0 F.HSL_STAT_lockout = true ∧ e.hsl.pairUp = false)) ∧
    (ns < 200 → exec (.porstLow ns) s = .next s) ∧
    (1000 ≤ ns → s.answers (exec (.porstLow ns) s) (fun e => fresh e ∧ e.units = [] ∧ ∀ a, a ∉ own → e.reg a = resetWord a)) ∧
    (200 ≤ ns → ns < 1000 → s.answers (exec (.porstLow ns) s) (fun e => fresh e ∨ e = { d with free := d.free + 1 })) ∧
    s.answers (exec (.devStatReadyWrite m v) s) (fun e => frame e ∧
      (∀ f ∈ [F.DEV_STAT_step, F.DEV_STAT_ready, F.DEV_STAT_fail, F.DEV_STAT_ms], e.fld 0 f = bitsOf v.toNat f.lo f.w) ∧
      (ready = false → bitOf v.toNat 4 = true → ∃ y : Dev, e = y.raise Ev.DEV_READY scopeChip (bitsOf v.toNat 16 16))) ∧
    (d.trl.calibratedAt + 8000000 ≤ d.now → s.answers (exec .delayLineCalibration s) (fun e => e.trl.calibrations = d.trl.calibrations + 1 ∧
      e.trl.calibratedAt = d.now ∧ frame e ∧ e.regs = d.regs)) ∧
    (d.now < d.trl.calibratedAt + 8000000 → exec .delayLineCalibration s = .next s) ∧
    s.answers (exec (.laneClockFault b true core) s) (fun e => bitOf (e.reg (blkReg b + 0x40)).toNat 3 = true ∧ (e.lane b).mode = .halted ∧ e.mem = d.mem ∧
      e.fld (blkReg b) F.BLK_CAUSE_CNT_count = satInc 16 (d.fld (blkReg b) F.BLK_CAUSE_CNT_count) ∧ bitOf (e.liveAt (blkReg b + 0x40)) 3 = true ∧
      (core = true → bitOf (e.reg 0x40020040).toNat 4 = true ∧ e.flag 0 F.HSL_STAT_lockout = true) ∧
      (d.flag (blkReg b) F.BLK_CAUSE_first_valid = false → e.fld (blkReg b) F.BLK_CAUSE_first = 3 ∧ e.flag (blkReg b) F.BLK_CAUSE_ts_invalid = true)) ∧
    exec (.laneClockFault b false core) s = .next ⟨d.setLive (blkReg b + 0x40) 8 false, s.pending⟩ ∧
    s.answers (exec (.regionClockFault r true core) s) (fun e => bitOf (e.reg (rgnReg r + 0x40)).toNat 2 = true ∧ e.mem = d.mem ∧
      (∀ i < 4, (e.lane (4 * r + i)).mode = .halted ∧ e.dmaState r i = 3 ∧ (e.chan r i).queue = [] ∧ (e.chan r i).cur = none) ∧
      bitOf (e.liveAt (rgnReg r + 0x40)) 2 = true ∧ (core = true → bitOf (e.reg 0x40020040).toNat 4 = true ∧ e.flag 0 F.HSL_STAT_lockout = true) ∧
      (d.flag (rgnReg r) F.RGN_CAUSE_first_valid = false → e.fld (rgnReg r) F.RGN_CAUSE_first = 2 ∧ e.flag (rgnReg r) F.RGN_CAUSE_ts_invalid = true)) ∧
    exec (.regionClockFault r false core) s = .next ⟨d.setLive (rgnReg r + 0x40) 4 false, s.pending⟩ ∧
    (sc = .chip → ready = true → exec (.trimWrite m sc addr v) s = .next s) ∧
    (sc = .chip → ready = false → s.answers (exec (.trimWrite m sc addr v) s) (fun e => e.indGet (addr.toNat / 4 * 4) = v ∧ frame e ∧ e.regs = d.regs)) ∧
    (∀ q : RegionId, sc = .region q → addr.toNat / 0x800 = d.fld (rgnReg q) F.RGN_RACK_STAT_trim →
      exec (.trimWrite m sc addr v) s = .next ⟨d.raise Ev.TRIM_REFUSED (scopeRgn q) (addr.toNat / 4 * 4), s.pending⟩) ∧
    (∀ q : RegionId, sc = .region q → addr.toNat / 0x800 ≠ d.fld (rgnReg q) F.RGN_RACK_STAT_trim → s.answers (exec (.trimWrite m sc addr v) s) (fun e =>
      e.indGet ((q.val + 1) * 2 ^ 32 + addr.toNat / 4 * 4) = v ∧ frame e ∧ e.regs = d.regs)) ∧
    (¬ ac ∨ chip = 1 → exec (.chipRackGo m v) s = .next s) ∧
    (go → refused → s.answers (exec (.chipRackGo m v) s) (fun e => e.vault = d.vault ∧ e.fld 0 F.CHIP_RACK_state = chip ∧ frame e ∧
      ∃ y : Dev, e = y.raise Ev.CHIP_RACK_REFUSED scopeChip 0)) ∧
    (go → ¬ refused → s.answers (exec (.chipRackGo m v) s) (fun e => boot e (slot == 1) true ∧ e.fld 0 F.CHIP_RACK_state = 1 ∧ e.chipAt = d.now ∧ frame e)) ∧
    (chip = 1 → d.vault.trial = true → d.storedCaskOk next = true → s.answers (exec .chipFirmwareLoaded s) (fun e => e.fld 0 F.CHIP_RACK_state = 2 ∧
      e.fld 0 F.CHIP_RACK_active = next ∧ e.vault = d.vault ∧ e.chipAt = d.now ∧ frame e)) ∧
    (chip = 1 → d.vault.trial = true → d.storedCaskOk next = false → s.answers (exec .chipFirmwareLoaded s) (fun e => e.fld 0 F.CHIP_RACK_state = 0 ∧
      e.fld 0 F.CHIP_RACK_active = active ∧ boot e (!d.vault.bootSlot) false ∧ frame e)) ∧
    (chip = 1 → d.vault.trial = false → s.answers (exec .chipFirmwareLoaded s) (fun e => e.fld 0 F.CHIP_RACK_state = 0 ∧ e.fld 0 F.CHIP_RACK_active = next ∧
      e.vault = d.vault ∧ e.chipAt = d.now ∧ frame e)) ∧
    (chip ≠ 1 → exec .chipFirmwareLoaded s = .next s) ∧
    (ac → chip = 2 → s.answers (exec (.chipRackConfirm m) s) (fun e => e.fld 0 F.CHIP_RACK_state = 0 ∧ e.vault.trial = false ∧
      e.vault.bootSlot = d.vault.bootSlot ∧ frame e ∧ e.fld 0 F.CHIP_RACK_active = active)) ∧
    (¬ ac ∨ chip ≠ 2 → exec (.chipRackConfirm m) s = .next s ∧ exec (.chipRackFail m) s = .next s) ∧
    (ac → chip = 2 → s.answers (exec (.chipRackFail m) s) undone) ∧
    (chip = 2 → d.chipAt + d.fld 0 F.CHIP_RACK_prob * 800000000 ≤ d.now → s.answers (exec .chipRackProbationEnd s) undone) ∧
    (chip ≠ 2 ∨ d.now < d.chipAt + d.fld 0 F.CHIP_RACK_prob * 800000000 → exec .chipRackProbationEnd s = .next s)

/-- A write in the address map (R8 to R10, R494 to R496, R498). Memory takes it; a register keeps what its access codes allow: RW within its range, W1C cleared unless set in the same cycle, RO kept, RWG for a privileged master only, which is
reported; an unassigned offset ignores it. What lies nowhere, and a register access that is no aligned word, is a bus error. -/
def Obligations.RegisterAccess : Prop :=
  ∀ (m : Master) (a v : Word) (size : Nat) (wr : Bool) (r : RegionId) (n : Fin 16) (b : BlockId) (o : Nat) (s : State),
    let d := s.dev
    let frame := fun (e : Dev) => e.units = d.units ∧ e.legs = d.legs ∧ e.lanes = d.lanes ∧ e.respErr = false
    let put := fun (k : Nat) => exec (.registerWrite m (BitVec.ofNat 32 k) v) s
    let ram := 0x12000000 ≤ a.toNat ∧ a.toNat < 0x121C0000 ∧ a.toNat % 4 = 0
    let nowhere := fun (size : Nat) => memKind a.toNat = none ∧ ¬ ((regSpace a.toNat).isSome = true ∧ size = 4 ∧ a.toNat % 4 = 0)
    let failed := fun (e : Dev) => e.resp = 0 ∧ e.respErr = true ∧ e.mem = d.mem ∧ e.units = d.units ∧ e.legs = d.legs ∧
      e.fld (4 * Ev.BUS_ERROR) F.EVR_CNT_count = satInc 16 (d.fld (4 * Ev.BUS_ERROR) F.EVR_CNT_count)
    let rf := rgnReg r + 0x1E04 + 8 * n
    (ram → m.id = 5 ∨ d.inLock a.toNat = false → d.isBad a.toNat = false → s.answers (exec (.registerWrite m a v) s) (fun e => e.loadN a.toNat 4 = v.toNat ∧ frame e ∧
      e.regs = d.regs ∧ ∀ y, (y < a.toNat ∨ a.toNat + 4 ≤ y) → e.byte y = d.byte y)) ∧
    (nowhere 4 → s.answers (exec (.registerWrite m a v) s) failed) ∧
    (nowhere size → s.answers (exec (.busError m a size wr) s) failed) ∧
    (¬ nowhere size → exec (.busError m a size wr) s = .next s) ∧
    s.answers (put 0x40040108) (fun e => frame e ∧ e.mem = d.mem ∧ e.fld 0 F.MEM_SCRUB_period = max 10 (bitsOf v.toNat 0 16) ∧
      ∀ k, k ≠ 0x40040108 → e.reg k = d.reg k) ∧
    s.answers (put rf) (fun e => frame e ∧ e.mem = d.mem ∧ (∀ k, k ≠ rf → e.reg k = d.reg k) ∧
      bitOf (e.reg rf).toNat 24 = (bitOf (d.reg rf).toNat 24 && (!bitOf v.toNat 24 || bitOf (d.setHere rf) 24)) ∧
      bitsOf (e.reg rf).toNat 0 16 = bitsOf (d.reg rf).toNat 0 16) ∧
    (o < 256 → s.answers (put (0x40011000 + 4 * o)) (fun e => frame e ∧ e.mem = d.mem ∧ ∀ k, e.reg k = d.reg k)) ∧
    (masterPriv m = true → s.answers (put 0x40030600) (fun e => frame e ∧ e.mem = d.mem ∧ e.fld 0 F.LIFE_HOURS_hours = bitsOf v.toNat 0 24 ∧
      ∀ k, k ≠ 0x40030600 → e.reg k = d.reg k)) ∧
    (masterPriv m = false → s.answers (put 0x40030600) (fun e => e.reg 0x40030600 = d.reg 0x40030600 ∧ e.mem = d.mem ∧ e.units = d.units ∧
      ∃ y : Dev, (∀ k, y.reg k = d.reg k) ∧ e = y.raise Ev.GUARD_VIOLATION (scopeMaster m.id) 0x40030600)) ∧
    (o < 0x4000 → o % 4 = 0 → 0x100 ≤ o → rowAt (blkReg b + o) = none → s.answers (put (blkReg b + o)) (fun e => frame e ∧ e.mem = d.mem ∧ e.regs = d.regs))

/-- The Ethernet, CAN and LIN ports and the rings (R457, R458, R461 to R464, R466, R468 to R473). Enabling starts both rings at their first entry; a configuration is refused while the port is enabled; a doorbell
resumes a ring that no bad access stopped. A frame that passes the checks reaches the receive ring, one that does not is counted; frames of the Trellis and the safe channel go out ahead of the
ring's, and an entry is written back with own = 0. Error counting of CAN and the LIN checksum are the model's (log entry 80), the FCS, the MACsec EtherType and the LIN parity are from
the standards (log entry 99). -/
def Obligations.Ports : Prop :=
  ∀ (m : Master) (p : PortId) (e0 : EthPort) (c0 : CanPort) (l0 : LinPort) (v : Word) (rx up ok : Bool) (f : List Byte) (g : CanFrame)
    (id : BitVec 6) (pid : Byte) (rate : Nat) (resp : LinResponse) (s : State),
    let d := s.dev
    let rings := p.val < 16 ∨ 22 ≤ p.val
    let a := portReg p.val
    let on := d.portOn p.val = true
    let state := fun (e : Dev) => e.units = d.units ∧ e.legs = d.legs
    let sound := d.bad = [] ∧ d.cellar.lock = none
    let ram := fun (x n : Nat) => 0x12000000 ≤ x ∧ x + n ≤ 0x121C0000
    let apart := fun (x n y l : Nat) => x + n ≤ y ∨ y + l ≤ x
    let up_ := fun (e : Dev) (q : Nat) (fld : Fld) => e.fld (portReg q) fld = satInc 16 (d.fld (portReg q) fld)
    let wired := fun (e : Dev) (q : Nat) (x : LineItem) => Store.get (fun _ => []) e.wire q = (x :: Store.get (fun _ => []) d.wire q).take 16
    let outside := fun (q : Nat) => d.flag (portReg q) F.PORT_CTRL_loop = false
    let entry := fun (q : Nat) (tx : Bool) => d.entryAt q tx (d.ringIndex q tx)
    let owned := fun (q : Nat) (tx : Bool) (flags : Nat) => 0 < d.ringLen q tx ∧ ram (entry q tx) 32 ∧ bitOf (d.loadN (entry q tx + flags) 4) 0 = true
    let moved := fun (e : Dev) (q : Nat) (tx : Bool) (flags : Nat) => bitOf (e.loadN (entry q tx + flags) 4) 0 = false ∧
      e.ringIndex q tx = (if d.ringIndex q tx + 1 < d.ringLen q tx then d.ringIndex q tx + 1 else 0) % 1024
    let e1 := e0.val
    let c1 := 6 + c0.val
    let l1 := 14 + l0.val
    let live := d.portLive e1 = true
    let dst := f.take 6
    let kind := frameType f
    let good := exec (.ethFrameReceive e0 (f ++ ethFcs f)) s
    let plain := f.length ≤ 1518 ∧ d.accepts e1 dst = true ∧ (4 ≤ e1 ∨ kind ≠ 0x88E5) ∧ kind ≠ 0x88F7 ∧ kind ≠ d.fld (portReg e1) F.ETH_SCH_etype
    let padded := fun (l : List Byte) => let x := if l.length < 60 then l ++ List.replicate (60 - l.length) 0 else l
      x ++ ethFcs x
    let clear := Store.get (fun _ => none) d.cellar.txSa e1 = none
    let txBuf := d.loadN (entry e1 true) 4
    let txLen := d.loadN (entry e1 true + 4) 4 % 65536
    let rxBuf := d.loadN (entry e1 false) 4
    let canOn := d.canLive c1 = true
    let mode := d.canMode c1
    let canBuf := fun (tx : Bool) => d.loadN (entry c1 tx + 0x14) 4
    let canWord := d.loadN (entry c1 true) 4
    let canLen := if bitOf canWord 5 then 0 else d.loadN (entry c1 true + 0x10) 4 % 4096
    let linOn := d.portOn l1 = true
    let responder := d.flag (portReg l1) F.LIN_CFG_role = true
    let rtab := 16 * d.fld (portReg l1) F.LIN_RTAB_addr + 16 * id.toNat
    let rlen := max 1 (min 8 (bitsOf (d.byte rtab).toNat 4 4))
    let rdata := d.bytes (rtab + 8) rlen
    let linId := bitsOf (d.loadN (entry l1 true + 4) 4) 0 6
    let linData := d.bytes (entry l1 true + 8) (max 1 (min 8 (bitsOf (d.loadN (entry l1 true + 4) 4) 8 8)))
    let syncs := 86 * d.fld (portReg l1) F.LIN_CFG_rate ≤ 100 * rate ∧ 100 * rate ≤ 114 * d.fld (portReg l1) F.LIN_CFG_rate
    let wiredAfterBreak := fun (e : Dev) (x : LineItem) => Store.get (fun _ => []) e.wire l1 =
      (x :: .linBreak (d.fld (portReg l1) F.LIN_CFG_brk) :: Store.get (fun _ => []) d.wire l1).take 16
    let linSumOf := linSum linId (bitOf (d.loadN (entry l1 true) 4) 2) linData
    (¬ on → v.toNat % 2 = 1 → s.answers (exec (.portEnable m p v) s) (fun e => e.portOn p.val = true ∧ e.flag a F.PORT_CTRL_loop = bitOf v.toNat 1 ∧ state e ∧ e.mem = d.mem ∧
      (rings → e.port p.val = ⟨true, true, false, false, none⟩ ∧ e.ringIndex p.val true = 0 ∧ e.ringIndex p.val false = 0) ∧
      (6 ≤ p.val → p.val < 14 → e.fld a F.CAN_ERR_tec = 0 ∧ e.fld a F.CAN_ERR_rec = 0 ∧ e.flag a F.PORT_STAT_up = true) ∧
      (22 ≤ p.val → e.fld a F.AXL_STAT_state = 1 ∧ e.flag a F.PORT_STAT_up = false))) ∧
    (on → v.toNat % 2 = 0 → s.answers (exec (.portEnable m p v) s) (fun e => e.portOn p.val = false ∧ e.mem = d.mem ∧ (e.port p.val).tx = false ∧ (e.port p.val).rx = false ∧
      (6 ≤ p.val → p.val < 14 → e.flag a F.PORT_STAT_up = false) ∧ (22 ≤ p.val → e.fld a F.AXL_STAT_state = 0))) ∧
    (rings → on → exec (.portConfigWrite m p 0x44 v) s = .next ⟨d.raise Ev.PORT_CFG_REFUSED (scopePort p) 0, s.pending⟩) ∧
    (rings → ¬ on → s.answers (exec (.portConfigWrite m p 0x44 v) s) (fun e => e.ringLen p.val true = max 2 (min 1024 (bitsOf v.toNat 0 11)) ∧ state e ∧ e.mem = d.mem)) ∧
    (p.val < 16 → on → s.answers (exec (.ringDoorbell m p rx) s) (fun e => state e ∧ e.regs = d.regs ∧ e.mem = d.mem ∧
      e.port p.val = if rx then { d.port p.val with rx := !(d.port p.val).rxHalt } else { d.port p.val with tx := !(d.port p.val).txHalt })) ∧
    (¬ rings ∨ (p.val < 16 ∧ ¬ on) → exec (.ringDoorbell m p rx) s = .next s) ∧
    s.answers (exec (.ethLinkStateChange e0 up) s) (fun e => e.flag (portReg e1) F.PORT_STAT_up = up ∧ state e ∧ e.mem = d.mem) ∧
    (¬ live → exec (.ethFrameReceive e0 f) s = .next s ∧ ∀ src, exec (.ethFrameTransmit e0 src) s = .next s) ∧
    (live → 1522 < f.length → s.answers (exec (.ethFrameReceive e0 f) s) (fun e => up_ e e1 F.PORT_CNT_rx_err ∧ up_ e e1 F.ETH_CNT3_long ∧ state e ∧ e.mem = d.mem)) ∧
    (live → f.length ≤ 1522 → f.drop (f.length - 4) ≠ ethFcs (f.take (f.length - 4)) → s.answers (exec (.ethFrameReceive e0 f) s) (fun e => up_ e e1 F.PORT_CNT_rx_err ∧ state e ∧ e.mem = d.mem)) ∧
    (live → f.length ≤ 1518 → d.accepts e1 dst = false → s.answers good (fun e => up_ e e1 F.ETH_CNT3_filt ∧ state e ∧ e.mem = d.mem)) ∧
    (live → f.length ≤ 1518 → d.accepts e1 dst = true → kind = 0x88F7 → good = .next ⟨d.bump (portReg e1) F.PORT_CNT_rx, s.pending⟩) ∧
    (live → plain → (d.port e1).rx = false → s.answers good (fun e => up_ e e1 F.PORT_CNT_rx ∧ state e ∧ e.mem = d.mem)) ∧
    (live → plain → (d.port e1).rx = true → sound → owned e1 false 8 → f.length ≤ d.loadN (entry e1 false + 4) 4 % 65536 → rxBuf % 8 = 0 → ram rxBuf f.length →
      apart rxBuf f.length (entry e1 false) 32 → s.answers good (fun e => up_ e e1 F.PORT_CNT_rx ∧ state e ∧ moved e e1 false 8 ∧
        e.bytes rxBuf f.length = f ∧ e.loadN (entry e1 false + 6) 2 = f.length ∧
        bitOf (e.loadN (entry e1 false + 8) 4) 1 = true ∧ bitOf (e.loadN (entry e1 false + 8) 4) 2 = true)) ∧
    (live → clear → outside e1 → s.answers (exec (.ethFrameTransmit e0 (.trellis f)) s) (fun e => wired e e1 (.bytes (padded f)) ∧ up_ e e1 F.PORT_CNT2_tx ∧ state e ∧ e.mem = d.mem)) ∧
    (∀ x t, live → clear → outside e1 → d.waitingSafe e1 = x :: t → s.answers (exec (.ethFrameTransmit e0 .safe) s) (fun e => e.waitingSafe e1 = t ∧ state e ∧ e.mem = d.mem ∧
      wired e e1 (.bytes (padded (d.macBytes (portReg e1) F.ETH_SCHDST_LO_addr F.ETH_SCHDST_HI_addr ++ d.macBytes (portReg e1) F.ETH_MAC_LO_addr F.ETH_MAC_HI_addr ++
        beBytes 2 (d.fld (portReg e1) F.ETH_SCH_etype) ++ beBytes 2 x.length ++ x))))) ∧
    (d.waitingSafe e1 = [] → exec (.ethFrameTransmit e0 .safe) s = .next s) ∧
    (d.waitingSafe e1 ≠ [] ∨ (d.port e1).tx = false → exec (.ethFrameTransmit e0 .ring) s = .next s) ∧
    (live → clear → outside e1 → d.waitingSafe e1 = [] → (d.port e1).tx = true → sound → owned e1 true 8 → bitOf (d.loadN (entry e1 true + 8) 4) 2 = true → txLen ≤ 1518 → txBuf % 8 = 0 →
      ram txBuf (txLen + 8) → s.answers (exec (.ethFrameTransmit e0 .ring) s) (fun e => wired e e1 (.bytes (padded (d.bytes txBuf txLen))) ∧ up_ e e1 F.PORT_CNT2_tx ∧
        moved e e1 true 8 ∧ state e)) ∧
    (¬ canOn → exec (.canFrameReceive c0 g ok) s = .next s ∧ ∀ src, exec (.canFrameTransmit c0 src ok) s = .next s) ∧
    (canOn → ok = false ∨ mode < g.format.val → s.answers (exec (.canFrameReceive c0 g ok) s) (fun e => up_ e c1 F.PORT_CNT_rx_err ∧ state e ∧ e.mem = d.mem ∧
      e.fld (portReg c1) F.CAN_ERR_rec = min (d.canRec c1 + 1) 255)) ∧
    (canOn → ok = true → g.format.val ≤ mode → d.canSafe c1 g = false → d.canPasses c1 g.id.toNat = false ∨ (d.port c1).rx = false →
      s.answers (exec (.canFrameReceive c0 g ok) s) (fun e => up_ e c1 F.PORT_CNT_rx ∧ state e ∧ e.mem = d.mem)) ∧
    (canOn → ok = true → g.format.val ≤ mode → d.canSafe c1 g = false → d.canPasses c1 g.id.toNat = true → (d.port c1).rx = true → sound → owned c1 false 0 →
      canBuf false % 8 = 0 → ram (canBuf false) g.data.length → g.data.length ≤ 2048 → apart (canBuf false) g.data.length (entry c1 false) 32 →
      s.answers (exec (.canFrameReceive c0 g ok) s) (fun e => moved e c1 false 0 ∧ state e ∧ e.bytes (canBuf false) g.data.length = g.data ∧
        e.loadN (entry c1 false + 4) 4 = g.id.toNat ∧ e.loadN (entry c1 false + 0x10) 4 = g.data.length ∧ bitsOf (e.loadN (entry c1 false) 4) 1 2 = g.format.val)) ∧
    (∀ x t, canOn → outside c1 → d.waitingSafe c1 = x :: t →
      s.answers (exec (.canFrameTransmit c0 .safe true) s) (fun e => wired e c1 (.can (d.canSafeFrame c1 x)) ∧ e.waitingSafe c1 = t ∧ up_ e c1 F.PORT_CNT2_tx ∧ state e ∧ e.mem = d.mem) ∧
      s.answers (exec (.canFrameTransmit c0 .safe false) s) (fun e => e.waitingSafe c1 = x :: t ∧ up_ e c1 F.PORT_CNT2_tx_err ∧ state e ∧ e.mem = d.mem)) ∧
    (canOn → d.waitingSafe c1 = [] → (d.port c1).tx = true → sound → owned c1 true 0 → mode < bitsOf canWord 1 2 → s.answers (exec (.canFrameTransmit c0 .ring ok) s) (fun e =>
      moved e c1 true 0 ∧ bitsOf (e.loadN (entry c1 true) 4) 8 4 = 2 ∧ bitOf (e.loadN (entry c1 true) 4) 6 = true ∧ e.fld (portReg c1) F.PORT_STAT_code = 2 ∧ state e)) ∧
    (canOn → outside c1 → d.waitingSafe c1 = [] → (d.port c1).tx = true → sound → owned c1 true 0 → bitsOf canWord 1 2 ≤ mode → canBuf true % 8 = 0 → ram (canBuf true) (canLen + 8) →
      s.answers (exec (.canFrameTransmit c0 .ring true) s) (fun e => moved e c1 true 0 ∧ up_ e c1 F.PORT_CNT2_tx ∧ state e ∧
        wired e c1 (.can (canOf ⟨entry c1 true, d.bytes (entry c1 true) 32⟩ (d.bytes (canBuf true) canLen))))) ∧
    (d.portOn c1 = true → d.canOff c1 = true → d.flag (portReg c1) F.CAN_CFG_auto_rec = true → s.answers (exec (.canBusOffRecovery c0) s) (fun e => e.canTec c1 = 0 ∧ e.canRec c1 = 0 ∧
      e.canOff c1 = false ∧ e.flag (portReg c1) F.PORT_STAT_up = true ∧ state e ∧ e.mem = d.mem)) ∧
    (d.canOff c1 = false ∨ d.flag (portReg c1) F.CAN_CFG_auto_rec = false → exec (.canBusOffRecovery c0) s = .next s) ∧
    (¬ linOn ∨ (responder ∧ (¬ syncs ∨ linPid (pid.toNat % 64) ≠ pid.toNat)) ∨ (¬ responder ∧ ((d.port l1).tx = false ∨ (d.port l1).linAt ≠ none)) →
      exec (.linHeader l0 pid rate resp) s = .next s) ∧
    (linOn → responder → syncs → outside l1 → sound → ram rtab 16 → bitOf (d.byte rtab).toNat 0 = true → resp ≠ .framing →
      s.answers (exec (.linHeader l0 (BitVec.ofNat 8 (linPid id.toNat)) rate resp) s) (fun e =>
        wired e l1 (.bytes (rdata ++ [linSum id.toNat (bitOf (d.byte rtab).toNat 2) rdata])) ∧ up_ e l1 F.PORT_CNT2_tx ∧ state e ∧ e.mem = d.mem)) ∧
    (linOn → ¬ responder → (d.port l1).linAt = none → outside l1 → sound → (d.port l1).tx = true → owned l1 true 0 → bitOf (d.loadN (entry l1 true) 4) 1 = false → resp ≠ .framing →
      s.answers (exec (.linHeader l0 pid rate resp) s) (fun e => moved e l1 true 0 ∧ up_ e l1 F.PORT_CNT2_tx ∧ state e ∧ bitsOf (e.loadN (entry l1 true) 4) 8 4 = 0 ∧
        wiredAfterBreak e (.bytes ([0x55, BitVec.ofNat 8 (linPid linId)] ++ linData ++ [linSumOf])))) ∧
    (linOn → ¬ responder → (d.port l1).linAt = none → outside l1 → sound → (d.port l1).tx = true → owned l1 true 0 → bitOf (d.loadN (entry l1 true) 4) 1 = true → resp = .none →
      s.answers (exec (.linHeader l0 pid rate resp) s) (fun e => (e.port l1).linAt = some (d.now, linData.length) ∧ state e ∧ e.mem = d.mem ∧
        wiredAfterBreak e (.bytes [0x55, BitVec.ofNat 8 (linPid linId)]))) ∧
    ((d.port l1).linAt = none → exec (.linResponseTimeout l0) s = .next s) ∧
    (∀ t n, (d.port l1).linAt = some (t, n) → d.linLate l1 t n = false → exec (.linResponseTimeout l0) s = .next s) ∧
    (∀ t n, (d.port l1).linAt = some (t, n) → d.linLate l1 t n = true → responder → s.answers (exec (.linResponseTimeout l0) s) (fun e => (e.port l1).linAt = none ∧
      up_ e l1 F.PORT_CNT_rx_err ∧ e.fld (portReg l1) F.PORT_STAT_code = 3 ∧ state e ∧ e.mem = d.mem)) ∧
    (∀ t n, (d.port l1).linAt = some (t, n) → d.linLate l1 t n = true → ¬ responder → sound → owned l1 true 0 → s.answers (exec (.linResponseTimeout l0) s) (fun e =>
      (e.port l1).linAt = none ∧ moved e l1 true 0 ∧ bitsOf (e.loadN (entry l1 true) 4) 8 4 = 3 ∧ e.fld (portReg l1) F.PORT_STAT_code = 3 ∧ state e))

/-- The axle links (R458, R462, R482 to R493). Only a link that is UP acts on what arrives. Training ends in UP where the roles differ and in ROLE_ERR where they are equal; a lost link trains again. The follower takes
the tick and the time from a MARKER of its own period and averages its delay over 16 measurements; the leader answers a PING. A BULK fragment waits for a frame boundary, is repeated 3 times and then fails its
entry; a received slot is written whole, with its trailer, unless it is bad, late or a copy. What the CRC of a frame covers is given with it (log entry 99). -/
def Obligations.AxleLinks : Prop :=
  ∀ (m : Master) (p : AxlPort) (offset : BitVec 6) (t : BitVec 64) (k v : Word) (period arrival hold : Nat) (frame data : List Byte) (first last rx peerSrc fresh crcOk : Bool) (inFrame : Option (Fin 16))
    (slot : Fin 16) (words : List (BitVec 64)) (s : State),
    let d := s.dev
    let i := p.val
    let n := slot.val
    let a := axlReg i
    let q : PortId := ⟨22 + i, by omega⟩
    let up := d.axlUp i = true
    let follower := d.flag 0 F.TRL_CTRL_src = true
    let x := d.axl i
    let plain := fun (e : Dev) => e.units = d.units ∧ e.legs = d.legs ∧ e.mem = d.mem
    let up_ := fun (e : Dev) (fld : Fld) => e.fld a fld = satInc 16 (d.fld a fld)
    let outside := d.flag a F.PORT_CTRL_loop = false
    let wired := fun (e : Dev) (y : LineItem) => Store.get (fun _ => []) e.wire (22 + i) = (y :: Store.get (fun _ => []) d.wire (22 + i)).take 16
    let tick := d.reg F.TRL_TICK_CNT.off
    let instant : Int := (arrival : Int) - offset.toNat - ((d.fld a F.AXL_OWD_owd : Int) * 8 / 5)
    let one := fun (sent : Nat) => 5 * ((arrival : Int) - sent - hold) + 16 * signed 16 (d.fld a F.AXL_ASYM_asym)
    let kept := fun (sent : Nat) => (one sent :: x.owds).take 16
    let owd := fun (e : Dev) (l : List Int) => ∃ r : Int, e.fld a F.AXL_OWD_owd = lowBits 20 r ∧ 16 * l.length * r ≤ l.sum + 16 * l.length ∧ l.sum ≤ 16 * l.length * r + 16 * l.length
    let sent := x.fragDue = false ∨ 0 < x.tries
    let marker := fun (crc : Bool) => exec (.marker p offset t k period arrival crc) s
    let bulk := fun (crc : Bool) => exec (.bulkFrameReceive p data first last crc) s
    let bad : Host.Outcome State Fault Refusal := .next ⟨(d.bump a F.AXL_CNT_crc).bump a F.PORT_CNT_rx_err, s.pending⟩
    let quiet := follower ∧ x.markAt + 3 * d.tickCycles ≤ d.now
    let b := d.fld (slotReg i n) F.AXL_SLOT_CFG_blk
    let takes := d.slotTakes i n = true
    let dest := blkBase b + 0x40000 + 8 * d.fld (slotReg i n) F.AXL_SLOT_ADDR_addr
    let fits := d.bad = [] ∧ 8 * d.fld (slotReg i n) F.AXL_SLOT_ADDR_addr + 8 * (words.length + 1) ≤ 0x40000
    let sized := words.length = d.fld (slotReg i n) F.AXL_SLOT_CFG_words
    let copy := d.slotTwin i n = true ∧ Store.get (fun _ => none) d.slotK (16 * (1 - i) + n) = some k
    let lost := fun (e : Dev) => up_ e F.AXL_CNT2_lost ∧ up_ e F.PORT_CNT_rx_err ∧ plain e
    let exch := exec (.exchFrameReceive p slot words k fresh crcOk) s
    let due := x.frags ≠ [] ∧ x.fragDue = false ∧ x.sentAt + 1600 ≤ d.now
    let cfg : BitVec 12 := BitVec.ofNat 12 (0x200 + 8 * n)
    let enabled := d.flag (slotReg i n) F.AXL_SLOT_CFG_en = true
    let sameRest := withBits (withBits (v.toNat % 2 ^ 22) 12 6 (max 1 (min 32 (bitsOf v.toNat 12 6)))) 0 1 1 = withBits ((d.reg (a + 0x200 + 8 * n)).toNat % 2 ^ 22) 0 1 1
    let fields := [F.AXL_SLOT_CFG_en, F.AXL_SLOT_CFG_dir, F.AXL_SLOT_CFG_rgn, F.AXL_SLOT_CFG_ch, F.AXL_SLOT_CFG_blk]
    (¬ up → marker crcOk = .next s ∧ exec (.ping p) s = .next s ∧ exec (.echo p arrival hold) s = .next s ∧ exec (.ack p) s = .next s ∧
      exch = .next s ∧ exec (.safeFrameReceive p frame crcOk) s = .next s ∧ bulk crcOk = .next s ∧ exec (.bulkRetryTimeout p) s = .next s ∧
      exec (.axlLinkDown p inFrame) s = .next s) ∧
    (up → marker false = .next ⟨d.bump a F.AXL_CNT_crc, s.pending⟩ ∧ bulk false = bad ∧ exec (.safeFrameReceive p frame false) s = bad) ∧
    (up → ¬ follower → marker true = .next s ∧ exec (.echo p arrival hold) s = .next s ∧
      s.answers (exec (.ping p) s) (fun e => plain e ∧ e.regs = d.regs ∧ (outside → ∃ h, wired e (.echo h)))) ∧
    (up → follower → exec (.ping p) s = .next s) ∧
    (x.pingAt = none → exec (.echo p arrival hold) s = .next s) ∧
    (∀ y, up → follower → x.pingAt = some y → s.answers (exec (.echo p arrival hold) s) (fun e => plain e ∧ e.axl i = { x with owds := kept y, pingAt := none } ∧
      owd e (kept y))) ∧
    (up → follower → period = d.tickCycles → s.answers (marker true) (fun e => e.axl i = { x with marked := true, markAt := d.now, otherPeriod := false } ∧
      e.mem = d.mem ∧ e.reg (a + 0x10C) = BitVec.ofNat 32 (lowBits 32 ((d.trl.tickStep : Int) - instant)) ∧
      (e.timeLink = some i → e.trl.lead = some (instant, k.toNat) ∧ e.trl.slew = (t.toNat : Int) * 65536 - (d.net.toNat + (instant - 32 * (d.now : Int)) * 2560)))) ∧
    (up → follower → period ≠ d.tickCycles → s.answers (marker true) (fun e => e.axl i = { x with marked := true, markAt := d.now, otherPeriod := true } ∧
      e.axlTime i = false ∧ e.mem = d.mem ∧ ∃ y : Dev, e = y.raise Ev.AXL_TIME_REFUSED (scopePort (22 + i)) 0)) ∧
    (x.frags = [] ∨ ¬ sent → exec (.ack p) s = .next s) ∧
    (∀ f g l, up → sent → x.frags = f :: g :: l → s.answers (exec (.ack p) s) (fun e => plain e ∧ e.regs = d.regs ∧ e.wire = d.wire ∧
      e.axl i = { x with frags := g :: l, tries := 0, fragDue := true })) ∧
    (∀ f, up → sent → x.frags = [f] → s.answers (exec (.ack p) s) (fun e => up_ e F.PORT_CNT2_tx ∧ e.units = d.units ∧ e.legs = d.legs)) ∧
    (∀ f l, up → outside → x.freeAt ≤ 5 * d.now → x.exq = [] → x.safeq = [] → x.frags = f :: l → x.fragDue = true →
      wired (d.axlServe i) (.frame 3 false 0 tick f) ∧ ((d.axlServe i).axl i).fragDue = false ∧ ((d.axlServe i).axl i).freeAt = max x.freeAt (5 * d.now) + 8 * (12 + f.length)) ∧
    (up → ¬ due → exec (.bulkRetryTimeout p) s = .next s) ∧
    (up → due → x.tries < 3 → s.answers (exec (.bulkRetryTimeout p) s) (fun e => plain e ∧ up_ e F.AXL_CNT3_retry ∧
      e.axl i = { x with tries := x.tries + 1, fragDue := true })) ∧
    (up → due → 3 ≤ x.tries → s.answers (exec (.bulkRetryTimeout p) s) (fun e => up_ e F.PORT_CNT2_tx_err ∧ e.units = d.units ∧ e.legs = d.legs)) ∧
    (up → outside → last = false → s.answers (bulk true) (fun e => plain e ∧ e.regs = d.regs ∧ wired e .ack ∧
      e.axl i = { x with got := (if first then [] else x.got) ++ data })) ∧
    (up → outside → last = true → (d.port (22 + i)).rx = false → s.answers (bulk true) (fun e => plain e ∧ wired e .ack ∧
      up_ e F.PORT_CNT_rx ∧ e.axl i = { x with got := [] })) ∧
    (up → s.answers (exec (.safeFrameReceive p frame true) s) (fun e => up_ e F.PORT_CNT_rx ∧ e.mem = d.mem ∧
      (d.conFor (22 + i) frame = none → e.fld 0 F.SCH_STAT_unknown = satInc F.SCH_STAT_unknown.w (d.fld 0 F.SCH_STAT_unknown) ∧ plain e))) ∧
    (d.fld a F.AXL_STAT_state ≠ 1 → exec (.axlTrainingEnd p peerSrc) s = .next s) ∧
    (d.fld a F.AXL_STAT_state = 1 → peerSrc = d.flag 0 F.TRL_CTRL_src → s.answers (exec (.axlTrainingEnd p peerSrc) s) (fun e => plain e ∧ e.fld a F.AXL_STAT_state = 3 ∧
      e.flag a F.PORT_STAT_up = false ∧ ∃ y : Dev, e = y.raise Ev.AXL_ROLE_ERR (scopePort (22 + i)) 0)) ∧
    (d.fld a F.AXL_STAT_state = 1 → peerSrc ≠ d.flag 0 F.TRL_CTRL_src → (d.port (22 + i)).tx = false → s.answers (exec (.axlTrainingEnd p peerSrc) s) (fun e => e.mem = d.mem ∧
      e.axlUp i = true ∧ e.flag a F.PORT_STAT_up = true ∧ e.axl i = { AxlLink.initial with markAt := d.now, otherPeriod := x.otherPeriod })) ∧
    (up → s.answers (exec (.axlLinkDown p inFrame) s) (fun e => e.mem = d.mem ∧ e.fld a F.AXL_STAT_state = 1 ∧ e.flag a F.PORT_STAT_up = false ∧ (e.axl i).frags = [] ∧ (e.axl i).got = [] ∧
      (∃ y : Dev, e = y.raise Ev.AXL_DOWN (scopePort (22 + i)) 0) ∧
      (∀ y : Fin 16, inFrame = some y → d.slotTakes i y.val = true → up_ e F.AXL_CNT2_lost ∧ up_ e F.PORT_CNT_rx_err) ∧
      e.fld a F.AXL_CNT_code = if quiet then d.fld a F.AXL_CNT_code else min 65535 (d.fld a F.AXL_CNT_code + 8))) ∧
    (¬ takes → exch = .next s) ∧
    (up → takes → crcOk = false → s.answers exch (fun e => lost e ∧ up_ e F.AXL_CNT_crc)) ∧
    (up → takes → crcOk = true → ¬ sized → s.answers exch lost) ∧
    (up → takes → crcOk = true → sized → d.slotLate b k = true → s.answers exch (fun e => up_ e F.AXL_CNT2_late ∧ up_ e F.PORT_CNT_rx ∧ plain e)) ∧
    (up → takes → crcOk = true → sized → d.slotLate b k = false → copy → s.answers exch (fun e => up_ e F.PORT_CNT_rx ∧ plain e)) ∧
    (up → takes → crcOk = true → sized → d.slotLate b k = false → ¬ copy → fits → s.answers exch (fun e => up_ e F.PORT_CNT_rx ∧ e.units = d.units ∧ e.legs = d.legs ∧
      (∀ j w, words[j]? = some w → e.loadN (dest + 8 * j) 8 = w.toNat) ∧ e.loadN (dest + 8 * words.length) 8 = k.toNat + 2 ^ 32 * (if fresh then 1 else 0) ∧
      ∀ y, (y < dest ∨ dest + 8 * (words.length + 1) ≤ y) → e.byte y = d.byte y)) ∧
    (d.portOn q = true → enabled → ¬ sameRest → exec (.portConfigWrite m q cfg v) s = .next ⟨d.raise Ev.PORT_CFG_REFUSED (scopePort (22 + i)) 0, s.pending⟩) ∧
    (enabled → sameRest → bitOf v.toNat 0 = false → s.answers (exec (.portConfigWrite m q cfg v) s) (fun e => plain e ∧ e.flag (slotReg i n) F.AXL_SLOT_CFG_en = false ∧
      ∀ f ∈ fields.drop 1, e.fld (slotReg i n) f = d.fld (slotReg i n) f)) ∧
    (¬ enabled → bitOf v.toNat 0 = true → bitOf v.toNat 1 = false → s.answers (exec (.portConfigWrite m q cfg v) s) (fun e => plain e ∧
      ∀ f ∈ fields, e.fld (slotReg i n) f = bitsOf v.toNat f.lo f.w)) ∧
    (¬ enabled → bitOf v.toNat 0 = true → bitOf v.toNat 1 = true →
      d.subFactor (4 * bitsOf v.toNat 2 2 + bitsOf (d.exchDesc (bitsOf v.toNat 2 2) (bitsOf v.toNat 4 8)) 0 2) ≠ 1 →
      exec (.portConfigWrite m q cfg v) s = .next ⟨d.raise Ev.AXL_CFG_REFUSED (scopePort (22 + i)) 0, s.pending⟩) ∧
    (¬ enabled → bitOf v.toNat 0 = true → bitOf v.toNat 1 = true →
      d.subFactor (4 * bitsOf v.toNat 2 2 + bitsOf (d.exchDesc (bitsOf v.toNat 2 2) (bitsOf v.toNat 4 8)) 0 2) = 1 →
      (d.plainWrite m (a + 0x200 + 8 * n) v).budgetLost i = false → s.answers (exec (.portConfigWrite m q cfg v) s) (fun e => plain e ∧
        (∀ f ∈ fields, e.fld (slotReg i n) f = bitsOf v.toNat f.lo f.w) ∧ Store.get (fun _ => 0) (e.axl i).slotAt n = d.now + 1)) ∧
    (d.portOn q = true → (rx = true ∨ ¬ up) → s.answers (exec (.ringDoorbell m q rx) s) (fun e => plain e ∧ e.regs = d.regs ∧
      e.port q = if rx then { d.port q with rx := !(d.port q).rxHalt } else { d.port q with tx := !(d.port q).txHalt })) ∧
    (d.portOn q = false → (rx = true ∨ ¬ up) → exec (.ringDoorbell m q rx) s = .next s)

/-- The events of the reference programs and the DC-link service (R225, R231, R237, R239, R248 to R255, R289, R305, R307, R310 to R314). An event moves the program of a unit whose lead
lane runs it, from the states and under the conditions of its rule, with its signal, and does nothing otherwise. Thresholds take effect only in a strictly increasing set; the regenerating
limits follow what the choppers can take. How inexact results round, and references of several units of a lane, are the model's (log entries 20 and 95). -/
def Obligations.ProgramEvents : Prop :=
  ∀ (u : UnitId) (lim peer ov1 ov2 ov3 : Nat) (leg : Fin 4) (code : BitVec 10) (b : Nat) (s : State),
    let d := s.dev
    let p := d.prog u
    let x := p.drive
    let cls := d.unitClass u
    let traction := d.progLane u = some b ∧ isTraction cls = true
    let converter := d.progLane u = some b ∧ cls = 2
    let chopper := d.progLane u = some b ∧ cls = 3
    let aged := fun (ms : Nat) => ms * 800000 ≤ p.age
    let ramp := fun (w : Nat) => w * 800000000 ≤ d.param b 0x68 * p.age
    let frame := fun (e : Dev) => e.mem = d.mem ∧ e.legs = d.legs ∧ ∀ j, j ≠ u.val → e.prog j = d.prog j
    let goes := fun (e : Dev) (st : Nat) => (e.prog u).st = st ∧ frame e
    let signals := fun (e : Dev) (n : Nat) => ∃ y : Dev, e = y.raise (Ev.LANE_SIG0 + n) (scopeBlk b) 0
    let rated : Nat := 2 ^ 32 * (d.param b 0x20 * d.param b 0x1C)
    let reaches := fun (w pct : Int) => pct * (rated : Int) ≤ w.natAbs * 6000000
    let ucg := d.ucgAt b (p.draw + 9) x.volts
    let flyW : Int := d.paramBits b 0x74 16 16
    let seen : Int := if d.flyStill b x then 0 else tend (p.draw + 8) (x.turned * 800000000) p.age
    let shorted := reaches seen ucg ∨ flyHigh x = true
    let fly := exec (.flyDetectEnd u) s
    let flyDue := p.st = 1 ∧ aged (d.paramBits b 0x74 0 16)
    let seeded := fun (e : Dev) => let y := (e.prog u).drive
      y.idRef = y.id * 65536 ∧ y.iqRef = y.iq * 65536 ∧ y.idSlew = true ∧ y.iqSlew = true ∧ y.spdI = y.torque ∧
        (y.id, y.iq) = ((parkOf (d.currentVector b).1 (d.currentVector b).2 y.theta).1, (parkOf (d.currentVector b).1 (d.currentVector b).2 y.theta).2.1)
    let alignDue := p.st = 4 ∧ aged (d.param b 0x60)
    let handDue := p.st = 5 ∧ ramp (d.param b 0x6C) ∧ d.paramBits b 0x70 16 16 * 800000 ≤ x.errLow
    let late := (p.st = 5 ∧ ramp (2 * d.param b 0x6C) ∧ ¬ handDue) ∨ (p.st = 6 ∧ p.fromFly = true ∧ aged 50)
    let braked := p.st = 2 ∧ 4000000 ≤ x.errHigh
    let slow := p.st = 3 ∧ (x.speed.natAbs : Int) * 6000000 * 32768 < q15 (BitVec.ofNat 32 (d.param b 0x7C)) * ucg * rated
    let small := fun (r : Int) => r.natAbs * 100 * d.param b 0xC < d.param b 0x10 * 2 ^ 31
    let stopped := (p.st = 6 ∨ p.st = 2) ∧ p.mode 1 = 0 ∧ small x.idRef ∧ small x.iqRef
    let limited := (p.st = 1 ∨ p.st = 2) ∧ d.param b 0x24 ≤ p.atMax
    let v1 : Int := (d.paramBits b 0xC 0 16 : Int) * 32768
    let begins := p.st = 1 ∧ v1 ≤ p.linkV
    let ends := p.st = 2 ∧ p.linkV + d.param b 0x10 * 32768 < v1
    let low := (p.brake leg).low
    let fails := bitOf p.healthy leg = true ∧ leg.val < (d.unitLegs u).length ∧ (d.unit u).active = true ∧ (p.hot = true ∨
      (d.leg ((d.unitLegs u).getD leg 0)).st = .fault ∨ (1 ≤ low ∧ d.paramBits b 0x20 16 4 ≤ low))
    let healthy := if p.hot then 0 else withBits p.healthy leg 1 0
    let aborted := fun (e : Dev) => (e.prog u).attempts = p.attempts + 1 ∧ (e.prog u).fromFly = false ∧ e.mem = d.mem ∧
      (if p.second then (e.prog u).st = 10 else goes e 8 ∧ signals e 2)
    let allow := (9 * (d.sumCap + peer)).toNat
    let regen := (10 * d.sumRegen).toNat
    let limit := if allow = 0 then 0 else if allow < regen then min lim ((d.torqueNow b).natAbs * allow / regen) else lim
    let win := fun (i : Nat) => winBase (i / 16) (i % 16)
    let bank := fun (off : Nat) => blkBase b + 0x80000 + (1 - d.activeBank (b / 4)) * 0x8000 + 0x4000 + off
    let writes := d.bad = [] ∧ d.cellar.lock = none
    (d.progLane u = none → ∀ c ∈ [Instr.flyDetectEnd u, .alignEnd u, .handOver u, .startAbort u, .flyBrakeAbort u, .ascHoldExit u, .stopComplete u,
      .converterLimitEntry u, .pfcGridFault u, .chopperPulsingChange u, .chopperLegUnhealthy u leg], exec c s = .next s) ∧
    (d.progLane u = some b → isTraction cls = false → ∀ c ∈ [Instr.flyDetectEnd u, .alignEnd u, .handOver u, .startAbort u, .flyBrakeAbort u, .ascHoldExit u, .stopComplete u],
      exec c s = .next s) ∧
    (traction → ¬ flyDue → fly = .next s) ∧
    (traction → flyDue → shorted → s.answers fly (fun e => goes e 3 ∧ signals e 1)) ∧
    (traction → flyDue → ¬ shorted → reaches seen flyW → 0 ≤ seen → s.answers fly (fun e => goes e 6 ∧ (e.prog u).fromFly = true ∧ (e.prog u).attempts = 0 ∧
      seeded e ∧ (e.prog u).drive.speed = seen ∧ (e.prog u).drive.theta = x.lastAngle.getD 0)) ∧
    (traction → flyDue → ¬ shorted → reaches seen flyW → seen < 0 → s.answers fly (fun e => goes e 2 ∧ (e.prog u).drive.idRef = 0 ∧ (e.prog u).drive.iqRef = 0 ∧
      (e.prog u).drive.speed = seen)) ∧
    (traction → flyDue → ¬ shorted → ¬ reaches seen flyW → s.answers fly (fun e => goes e 4 ∧ (e.prog u).drive.theta = 0 ∧ (e.prog u).drive.idRef = 0)) ∧
    (traction → alignDue → s.answers (exec (.alignEnd u) s) (fun e => goes e 5 ∧ (e.prog u).age = 0 ∧ (e.prog u).drive.idRef = 0 ∧
      (e.prog u).drive.iqRef = d.ratedCurrent b (p.draw + 10) (d.param b 0x64))) ∧
    (traction → ¬ alignDue → exec (.alignEnd u) s = .next s) ∧
    (traction → handDue → s.answers (exec (.handOver u) s) (fun e => goes e 6 ∧ (e.prog u).attempts = 0 ∧ (e.prog u).fromFly = false ∧ seeded e ∧
      (e.prog u).drive.theta = x.obsAngle ∧ (e.prog u).drive.speed = x.obsSpeed)) ∧
    (traction → ¬ handDue → exec (.handOver u) s = .next s) ∧
    (traction → late → s.answers (exec (.startAbort u) s) aborted) ∧
    (traction → ¬ late → exec (.startAbort u) s = .next s) ∧
    (traction → braked → s.answers (exec (.flyBrakeAbort u) s) aborted) ∧
    (traction → ¬ braked → exec (.flyBrakeAbort u) s = .next s) ∧
    (traction → slow → s.answers (exec (.ascHoldExit u) s) (fun e => goes e (if p.stopAsked then 0 else 1) ∧ signals e 0)) ∧
    (traction → ¬ slow → exec (.ascHoldExit u) s = .next s) ∧
    (traction → stopped → s.answers (exec (.stopComplete u) s) (fun e => goes e 0 ∧ signals e 0 ∧ e.units = d.units)) ∧
    (traction → ¬ stopped → exec (.stopComplete u) s = .next s) ∧
    (converter → limited → s.answers (exec (.converterLimitEntry u) s) (fun e => goes e 3 ∧ signals e 1 ∧ e.units = d.units)) ∧
    (¬ converter ∨ ¬ limited → d.progLane u = some b → exec (.converterLimitEntry u) s = .next s) ∧
    (d.progLane u = some b → cls = 4 → s.answers (exec (.pfcGridFault u) s) (fun e => goes e 0 ∧ e.units = d.units)) ∧
    (d.progLane u = some b → cls ≠ 4 → exec (.pfcGridFault u) s = .next s) ∧
    (chopper → begins → s.answers (exec (.chopperPulsingChange u) s) (fun e => goes e 2 ∧ signals e 1)) ∧
    (chopper → ends → s.answers (exec (.chopperPulsingChange u) s) (fun e => goes e 1 ∧ signals e 0)) ∧
    (d.progLane u = some b → cls ≠ 3 ∨ (¬ begins ∧ ¬ ends) → exec (.chopperPulsingChange u) s = .next s) ∧
    (chopper → fails → s.answers (exec (.chopperLegUnhealthy u leg) s) (fun e => (e.prog u).healthy = healthy ∧ e.mem = d.mem ∧
      (healthy = 0 → (e.prog u).st = 3) ∧ (healthy ≠ 0 → goes e p.st ∧ e.fld (4 * (Ev.LANE_SIG0 + 2)) F.EVR_CNT_count =
        satInc F.EVR_CNT_count.w (d.fld (4 * (Ev.LANE_SIG0 + 2)) F.EVR_CNT_count)) ∧ (e.regenPast 0 = true → e.hsl.brakeDue = true))) ∧
    (d.progLane u = some b → cls ≠ 3 ∨ ¬ fails → exec (.chopperLegUnhealthy u leg) s = .next s) ∧
    (¬ (ov1 < ov2 ∧ ov2 < ov3) → exec (.dcLinkService (.thresholds ov1 ov2 ov3 code)) s = .next s) ∧
    (ov1 < ov2 → ov2 < ov3 → s.answers (exec (.dcLinkService (.thresholds ov1 ov2 ov3 code)) s) (fun e => e.units = d.units ∧ e.legs = d.legs ∧
      (∀ i < 64, bitOf (d.fld (4 * (i / 16)) F.HSL_OV3SRC_mask) (i % 16) = true → e.fld (win i) F.WIN_DAC_code = code.toNat) ∧
      (writes → d.leadOf u (fun c => c == 3) = some b → d.rackState (b / 4) = 0 →
        bitsOf (e.loadN (bank 0xC) 4) 0 16 = ov1 % 65536 ∧ bitsOf (e.loadN (bank 0xC) 4) 16 16 = ov2 % 65536) ∧
      (writes → d.leadOf u isTraction = some b → d.rackState (b / 4) = 0 →
        bitsOf (e.loadN (bank 0x80) 4) 0 16 = ov2 % 65536 ∧ bitsOf (e.loadN (bank 0x80) 4) 16 16 = ov3 % 65536))) ∧
    (s.answers (exec (.dcLinkService (.limits [⟨u, lim⟩] peer)) s) (fun e => e.units = d.units ∧ e.legs = d.legs ∧ (writes → e.regs = d.regs) ∧ (allow < regen → e.hsl.brakeDue = true) ∧
      (writes → d.leadOf u isTraction = some b → (∀ j < 32, d.leadOf j isTraction = some b → j = u.val) → e.loadN (commandBase b + 0x14) 4 = limit % 2 ^ 32 ∧
        e.loadN (commandBase b) 4 = (p.seq + 1).toNat ∧ e.loadN (commandBase b + 0x18) 4 = (p.seq + 1).toNat)))

/-- The state after reset: the queue is empty, every register reads its reset value, no leg drives a channel, every leg is in OFF, every
unit is DISABLED and every lane halted, no memory byte differs from an unwritten one, and the device is safe. Named values: the
tick period, the phases of a region, the receiving port of time, the leg's configuration, its dead times and handshake, its
comparator word, the window guard, the safe outputs of a unit and the fabric's weights. -/
def Obligations.ResetState : Prop :=
  let d := State.reset.dev
  State.reset.pending = [] ∧ State.Safe State.reset ∧ d.mem = [] ∧ d.nvs = [] ∧ d.now = 0 ∧
  (∀ k, (d.leg k).st = .off ∧ (d.leg k).drvH = false ∧ (d.leg k).drvL = false ∧ (d.leg k).next = none) ∧
  (∀ u, (d.unit u).st = .disabled) ∧
  (∀ b, (d.lane b).mode = .halted ∧ (d.lane b).writes = [] ∧ (d.lane b).loops = [] ∧ (d.lane b).link = none) ∧
  (∀ a, d.reg a = resetWord a) ∧
  d.fld 0 F.TRL_PERIOD_cycles = 16000 ∧ d.fld 0 F.TRL_STATUS_port = 7 ∧ d.fld 0 F.DEV_STAT_ready = 0 ∧
  (∀ r : RegionId, (d.reg (rgnReg r + 0x60)).toNat = 0x02EE0032 ∧ (d.reg (rgnReg r + 0x64)).toNat = 0x03840339 ∧ (d.reg (rgnReg r + 0x68)).toNat = 0) ∧
  (∀ k : Fin 128, (d.reg (legReg k)).toNat = 0x310 ∧ d.fld (legReg k) F.LEG_DIRECT_boot_ok = 0) ∧
  (∀ u : UnitId, d.fld (4 * u) F.HSL_SAFE_t1 = 800)

/-- The step takes the command at the front of the queue: it answers what the command makes of the device, with the rest of the queue.
Every command completes and leaves the rest of the queue alone. On an empty queue the device goes on by itself, and the step
answers a next state too (the model's choice, assumption 1). -/
def Obligations.StepTakesFront : Prop :=
  (∀ (c : Instr) (s : State), step { s with pending := c :: s.pending } = exec c s) ∧
  (∀ (c : Instr) (s : State), s.answers (exec c s) (fun _ => True)) ∧
  (∀ s : State, s.pending = [] → step s = .next ⟨s.dev.idle.1, s.dev.idle.2⟩)

/-- A slot operation and its word agree (R119, R120, R125, R129, R131, R136): the word that encodes an operation decodes, in its slot and its
lane, to that operation with every operand; every operation of a slot except an unassigned opcode has a word; and every word of a
slot decodes to an operation of that slot and lane. -/
def Obligations.SlotWordsRoundTrip : Prop :=
  ∀ (ln : BlockId) (sl : Slot),
    (∀ (i : Instr) (w : Word), laneSlot i = some (ln, sl) → encodeSlot i = some w → decodeSlot ln sl w = i) ∧
    (∀ i : Instr, laneSlot i = some (ln, sl) → i ≠ .unassignedOpcode ln sl → ∃ w, encodeSlot i = some w) ∧
    (∀ w : Word, laneSlot (decodeSlot ln sl w) = some (ln, sl))

/-- Every step keeps the device safe: no leg ever drives its two gate channels on together (R170), and the contents of the memories and of
the nonvolatile store stay in canonical form. The statement holds of every safe state, whether or not a run reaches it. -/
def Obligations.SafetyKept : Prop :=
  ∀ s t : State, State.Safe s → step s = .next t → State.Safe t
end

