-- ==== Sys2Proof/Laws/Arith.lean ====
section
/-! SUPPORT. What rounding, saturation and clamping compute, in terms of order and absolute value. -/

namespace Sys2Proof.Machine

theorem satQ15_eq (x : Int) : satQ15 x = (max (-0x8000) (min 0x7FFF x), decide (x < -0x8000 ∨ 0x7FFF < x)) := by
  unfold satQ15; split
  · simp; omega
  · split <;> simp <;> omega

/-- Rounding by the rule of R90 gives a nearest multiple, and at half the even one. -/
theorem roundShift_spec (x : Int) (n : Nat) (hn : 0 < n) :
    2 * |x - roundShift x n * 2 ^ n| ≤ 2 ^ n ∧ (2 * |x - roundShift x n * 2 ^ n| = 2 ^ n → roundShift x n % 2 = 0) := by
  have hp : (2:Int) ^ n = 2 * 2 ^ (n - 1) := by rw [← pow_succ']; congr 1; omega
  have hq : (0:Int) < 2 ^ (n - 1) := by positivity
  have h1 := Int.emod_add_mul_ediv x (2 ^ n)
  have h2 := Int.emod_nonneg x (show (2:Int) ^ n ≠ 0 by positivity)
  have h3 := Int.emod_lt_of_pos x (show (0:Int) < 2 ^ n by positivity)
  unfold roundShift
  rw [if_neg (by omega)]
  dsimp only
  generalize x / 2 ^ n = q at *
  generalize x % 2 ^ n = r at *
  generalize (2:Int) ^ (n - 1) = m at *
  rw [hp] at h1 h3 ⊢
  have e0 : x - q * (2 * m) = r := by rw [← h1]; ring
  have e1 : x - (q + 1) * (2 * m) = r - 2 * m := by rw [← h1]; ring
  split_ifs with c1 c2 c3
  · rw [e0, abs_of_nonneg h2]; exact ⟨by omega, fun h => by omega⟩
  · rw [e1, abs_of_neg (by omega)]; exact ⟨by omega, fun h => by omega⟩
  · rw [e0, abs_of_nonneg h2]; exact ⟨by omega, fun h => by omega⟩
  · rw [e1, abs_of_neg (by omega)]; exact ⟨by omega, fun h => by omega⟩

theorem signed16_range (v : Nat) : -0x8000 ≤ signed 16 v ∧ signed 16 v ≤ 0x7FFF := by
  unfold signed; norm_num; split <;> omega

theorem q15_range (w : Word) : -0x8000 ≤ q15 w ∧ q15 w ≤ 0x7FFF := signed16_range _

theorem absQ15_eq (x : Int) (h : -0x8000 ≤ x ∧ x ≤ 0x7FFF) : absQ15 x = (min 0x7FFF |x|, decide (x = -0x8000)) := by
  unfold absQ15
  rw [satQ15_eq]
  have e : (if x < 0 then -x else x) = |x| := by
    split
    · rw [abs_of_neg (by omega)]
    · rw [abs_of_nonneg (by omega)]
  rw [e]
  have h0 : 0 ≤ |x| := abs_nonneg x
  have h1 : (|x| < -0x8000 ∨ 0x7FFF < |x|) ↔ x = -0x8000 := by
    rcases abs_cases x with hx | hx <;> omega
  rw [max_eq_right (by omega)]
  simp [h1]

theorem clampInt_eq (lo hi x : Int) (h : lo ≤ hi) : clampInt lo hi x = max lo (min hi x) := by
  unfold clampInt; split_ifs <;> omega

theorem satAcc_eq (x : Int) :
    satAcc x = (max (-0x8000000000) (min 0x7FFFFFFFFF x), decide (x < -0x8000000000 ∨ 0x7FFFFFFFFF < x)) := by
  unfold satAcc; split
  · simp; omega
  · split <;> simp <;> omega

end Sys2Proof.Machine
end

