-- ==== Sys2Proof/Laws/Store.lean ====
section
/-! SUPPORT. Reading after writing a store, and the canonical form that every write keeps. -/

namespace Sys2Proof.Machine

variable {α : Type}

theorem Store.get_drop_ne (d : Nat → α) (m : Store α) {k a : Nat} (h : a ≠ k) :
    Store.get d (Store.drop m k) a = Store.get d m a := by
  induction m with
  | nil => rfl
  | cons p t ih =>
    obtain ⟨j, v⟩ := p
    by_cases hj : j = k
    · subst hj; simpa [Store.drop, Store.get, Ne.symm h] using ih
    · simp only [Store.drop, hj, if_false, Store.get]
      rw [ih]

/-- What is dropped reads as the default. -/
theorem Store.get_drop_same (d : Nat → α) (m : Store α) (k : Nat) : Store.get d (Store.drop m k) k = d k := by
  induction m with
  | nil => rfl
  | cons p t ih =>
    obtain ⟨j, v⟩ := p
    by_cases hj : j = k
    · subst hj; simpa [Store.drop] using ih
    · simpa [Store.drop, hj, Store.get] using ih

theorem Store.get_put_same (d : Nat → α) (m : Store α) (k : Nat) (v : α) :
    Store.get d (Store.put m k v) k = v := by
  induction m with
  | nil => simp [Store.put, Store.get]
  | cons p t ih =>
    obtain ⟨j, w⟩ := p
    simp only [Store.put]
    split
    · simp [Store.get]
    · split
      · simp [Store.get]
      · simp_all [Store.get]

theorem Store.get_put_ne (d : Nat → α) (m : Store α) {k a : Nat} (v : α) (h : a ≠ k) :
    Store.get d (Store.put m k v) a = Store.get d m a := by
  induction m with
  | nil => simp [Store.put, Store.get, Ne.symm h]
  | cons p t ih =>
    obtain ⟨j, w⟩ := p
    simp only [Store.put]
    split
    · simp [Store.get, Ne.symm h]
    · split
      · rename_i hj; subst hj; simp [Store.get, Ne.symm h]
      · simp [Store.get, ih]

theorem Store.above_mono {n k : Nat} (m : Store α) (h : n ≤ k) (hm : Store.above k m = true) :
    Store.above n m = true := by
  induction m with
  | nil => rfl
  | cons p t ih => obtain ⟨j, v⟩ := p; simp [Store.above] at *; exact ⟨by omega, ih hm.2⟩

variable [DecidableEq α]

/-- A read after a write to the same key gives the value written. -/
@[simp] theorem Store.get_set_same (d : Nat → α) (m : Store α) (k : Nat) (v : α) :
    Store.get d (Store.set d m k v) k = v := by
  unfold Store.set
  split
  · rename_i h; rw [Store.get_drop_same d m k, h]
  · exact Store.get_put_same d m k v

/-- A write leaves every other key alone. -/
theorem Store.get_set_ne (d : Nat → α) (m : Store α) {k a : Nat} (v : α) (h : a ≠ k) :
    Store.get d (Store.set d m k v) a = Store.get d m a := by
  unfold Store.set
  split
  · exact Store.get_drop_ne d m h
  · exact Store.get_put_ne d m v h

omit [DecidableEq α] in
theorem Store.above_drop (m : Store α) {n k : Nat} (h : Store.above n m = true) :
    Store.above n (Store.drop m k) = true := by
  induction m with
  | nil => rfl
  | cons p t ih =>
    obtain ⟨j, v⟩ := p
    simp [Store.above] at h
    simp only [Store.drop]
    split
    · exact ih h.2
    · simp [Store.above, h.1, ih h.2]

omit [DecidableEq α] in
theorem Store.above_put (m : Store α) {n k : Nat} (v : α) (hk : n < k) (h : Store.above n m = true) :
    Store.above n (Store.put m k v) = true := by
  induction m with
  | nil => simp [Store.put, Store.above, hk]
  | cons p t ih =>
    obtain ⟨j, w⟩ := p
    simp [Store.above] at h
    simp only [Store.put]
    split
    · simp [Store.above, hk, h]
    · split
      · simp [Store.above, hk, h.2]
      · simp [Store.above, h.1, ih h.2]

theorem Store.wf_drop (d : Nat → α) (m : Store α) (k : Nat) (hm : Store.wf d m = true) :
    Store.wf d (Store.drop m k) = true := by
  induction m with
  | nil => rfl
  | cons p t ih =>
    obtain ⟨j, v⟩ := p
    simp [Store.wf] at hm
    simp only [Store.drop]
    split
    · exact ih hm.2
    · simp [Store.wf, hm.1.2, Store.above_drop t hm.1.1, ih hm.2]

theorem Store.wf_put (d : Nat → α) (m : Store α) (k : Nat) (v : α) (hv : v ≠ d k)
    (hm : Store.wf d m = true) : Store.wf d (Store.put m k v) = true := by
  induction m with
  | nil => simp [Store.put, Store.wf, Store.above, hv]
  | cons p t ih =>
    obtain ⟨j, w⟩ := p
    simp [Store.wf] at hm
    simp only [Store.put]
    split
    · rename_i hkj
      simp [Store.wf, Store.above, hkj, hv, hm, Store.above_mono t (Nat.le_of_lt hkj) hm.1.1]
    · split
      · rename_i hjk; subst hjk; simp [Store.wf, hv, hm]
      · rename_i h1 h2
        simp [Store.wf, hm.1.2, Store.above_put t v (show j < k by omega) hm.1.1, ih hm.2]

/-- Every write keeps the canonical form. -/
theorem Store.wf_set (d : Nat → α) (m : Store α) (k : Nat) (v : α) (hm : Store.wf d m = true) :
    Store.wf d (Store.set d m k v) = true := by
  unfold Store.set
  split
  · exact Store.wf_drop d m k hm
  · rename_i h; exact Store.wf_put d m k v h hm

/-- Any read after a write. -/
theorem Store.get_set (d : Nat → α) (m : Store α) (k a : Nat) (v : α) :
    Store.get d (Store.set d m k v) a = if a = k then v else Store.get d m a := by
  split
  · rename_i h; subst h; exact Store.get_set_same d m a v
  · rename_i h; exact Store.get_set_ne d m v h

end Sys2Proof.Machine
end

