-- ==== Sys2Proof/Laws/State.lean ====
section
/-! SUPPORT. What the primitive updates of the device change, field by field: each changes the one store it names (noteSet, the note of
the bits set in the cycle). -/

namespace Sys2Proof.Machine

/-! ### setReg -/

@[simp] theorem Dev.setReg_now (d : Dev) (a : Nat) (w : Word) : (d.setReg a w).now = d.now := rfl
@[simp] theorem Dev.setReg_net (d : Dev) (a : Nat) (w : Word) : (d.setReg a w).net = d.net := rfl
@[simp] theorem Dev.setReg_inforce (d : Dev) (a : Nat) (w : Word) : (d.setReg a w).inforce = d.inforce := rfl
@[simp] theorem Dev.setReg_snaps (d : Dev) (a : Nat) (w : Word) : (d.setReg a w).snaps = d.snaps := rfl
@[simp] theorem Dev.setReg_ind (d : Dev) (a : Nat) (w : Word) : (d.setReg a w).ind = d.ind := rfl
@[simp] theorem Dev.setReg_live (d : Dev) (a : Nat) (w : Word) : (d.setReg a w).live = d.live := rfl
@[simp] theorem Dev.setReg_mem (d : Dev) (a : Nat) (w : Word) : (d.setReg a w).mem = d.mem := rfl
@[simp] theorem Dev.setReg_bad (d : Dev) (a : Nat) (w : Word) : (d.setReg a w).bad = d.bad := rfl
@[simp] theorem Dev.setReg_intakeOld (d : Dev) (a : Nat) (w : Word) : (d.setReg a w).intakeOld = d.intakeOld := rfl
@[simp] theorem Dev.setReg_lanes (d : Dev) (a : Nat) (w : Word) : (d.setReg a w).lanes = d.lanes := rfl
@[simp] theorem Dev.setReg_legs (d : Dev) (a : Nat) (w : Word) : (d.setReg a w).legs = d.legs := rfl
@[simp] theorem Dev.setReg_units (d : Dev) (a : Nat) (w : Word) : (d.setReg a w).units = d.units := rfl
@[simp] theorem Dev.setReg_chReady (d : Dev) (a : Nat) (w : Word) : (d.setReg a w).chReady = d.chReady := rfl
@[simp] theorem Dev.setReg_portAt (d : Dev) (a : Nat) (w : Word) : (d.setReg a w).portAt = d.portAt := rfl
@[simp] theorem Dev.setReg_portDma (d : Dev) (a : Nat) (w : Word) : (d.setReg a w).portDma = d.portDma := rfl
@[simp] theorem Dev.setReg_laneRoutes (d : Dev) (a : Nat) (w : Word) : (d.setReg a w).laneRoutes = d.laneRoutes := rfl
@[simp] theorem Dev.setReg_stage (d : Dev) (a : Nat) (w : Word) : (d.setReg a w).stage = d.stage := rfl
@[simp] theorem Dev.setReg_regs0 (d : Dev) (a : Nat) (w : Word) : (d.setReg a w).regs0 = d.regs0 := rfl
@[simp] theorem Dev.setReg_regsHsl (d : Dev) (a : Nat) (w : Word) : (d.setReg a w).regsHsl = d.regsHsl := rfl
@[simp] theorem Dev.setReg_setAt (d : Dev) (a : Nat) (w : Word) : (d.setReg a w).setAt = d.setAt := rfl
@[simp] theorem Dev.setReg_setBits (d : Dev) (a : Nat) (w : Word) : (d.setReg a w).setBits = d.setBits := rfl
@[simp] theorem Dev.setReg_causeAt (d : Dev) (a : Nat) (w : Word) : (d.setReg a w).causeAt = d.causeAt := rfl
@[simp] theorem Dev.setReg_resp (d : Dev) (a : Nat) (w : Word) : (d.setReg a w).resp = d.resp := rfl
@[simp] theorem Dev.setReg_respErr (d : Dev) (a : Nat) (w : Word) : (d.setReg a w).respErr = d.respErr := rfl
@[simp] theorem Dev.setReg_free (d : Dev) (a : Nat) (w : Word) : (d.setReg a w).free = d.free := rfl
@[simp] theorem Dev.setReg_dma (d : Dev) (a : Nat) (w : Word) : (d.setReg a w).dma = d.dma := rfl
@[simp] theorem Dev.setReg_pairWait (d : Dev) (a : Nat) (w : Word) : (d.setReg a w).pairWait = d.pairWait := rfl
@[simp] theorem Dev.setReg_pairReset (d : Dev) (a : Nat) (w : Word) : (d.setReg a w).pairReset = d.pairReset := rfl
@[simp] theorem Dev.setReg_correctedAt (d : Dev) (a : Nat) (w : Word) : (d.setReg a w).correctedAt = d.correctedAt := rfl
@[simp] theorem Dev.setReg_trl (d : Dev) (a : Nat) (w : Word) : (d.setReg a w).trl = d.trl := rfl
@[simp] theorem Dev.setReg_seqs (d : Dev) (a : Nat) (w : Word) : (d.setReg a w).seqs = d.seqs := rfl
@[simp] theorem Dev.setReg_convs (d : Dev) (a : Nat) (w : Word) : (d.setReg a w).convs = d.convs := rfl
@[simp] theorem Dev.setReg_sds (d : Dev) (a : Nat) (w : Word) : (d.setReg a w).sds = d.sds := rfl
@[simp] theorem Dev.setReg_dacAt (d : Dev) (a : Nat) (w : Word) : (d.setReg a w).dacAt = d.dacAt := rfl
@[simp] theorem Dev.setReg_rbBad (d : Dev) (a : Nat) (w : Word) : (d.setReg a w).rbBad = d.rbBad := rfl
@[simp] theorem Dev.setReg_pins (d : Dev) (a : Nat) (w : Word) : (d.setReg a w).pins = d.pins := rfl
@[simp] theorem Dev.setReg_raws (d : Dev) (a : Nat) (w : Word) : (d.setReg a w).raws = d.raws := rfl
@[simp] theorem Dev.setReg_rawAt (d : Dev) (a : Nat) (w : Word) : (d.setReg a w).rawAt = d.rawAt := rfl
@[simp] theorem Dev.setReg_passAt (d : Dev) (a : Nat) (w : Word) : (d.setReg a w).passAt = d.passAt := rfl
@[simp] theorem Dev.setReg_condNext (d : Dev) (a : Nat) (w : Word) : (d.setReg a w).condNext = d.condNext := rfl
@[simp] theorem Dev.setReg_fbs (d : Dev) (a : Nat) (w : Word) : (d.setReg a w).fbs = d.fbs := rfl
@[simp] theorem Dev.setReg_prbs (d : Dev) (a : Nat) (w : Word) : (d.setReg a w).prbs = d.prbs := rfl
@[simp] theorem Dev.setReg_landings (d : Dev) (a : Nat) (w : Word) : (d.setReg a w).landings = d.landings := rfl
@[simp] theorem Dev.setReg_caps (d : Dev) (a : Nat) (w : Word) : (d.setReg a w).caps = d.caps := rfl
@[simp] theorem Dev.setReg_sheds (d : Dev) (a : Nat) (w : Word) : (d.setReg a w).sheds = d.sheds := rfl
@[simp] theorem Dev.setReg_progs (d : Dev) (a : Nat) (w : Word) : (d.setReg a w).progs = d.progs := rfl
@[simp] theorem Dev.setReg_notices (d : Dev) (a : Nat) (w : Word) : (d.setReg a w).notices = d.notices := rfl
@[simp] theorem Dev.setReg_refSlots (d : Dev) (a : Nat) (w : Word) : (d.setReg a w).refSlots = d.refSlots := rfl
@[simp] theorem Dev.setReg_slotFac (d : Dev) (a : Nat) (w : Word) : (d.setReg a w).slotFac = d.slotFac := rfl
@[simp] theorem Dev.setReg_slotClaim (d : Dev) (a : Nat) (w : Word) : (d.setReg a w).slotClaim = d.slotClaim := rfl
@[simp] theorem Dev.setReg_slotWaits (d : Dev) (a : Nat) (w : Word) : (d.setReg a w).slotWaits = d.slotWaits := rfl
@[simp] theorem Dev.setReg_ov3At (d : Dev) (a : Nat) (w : Word) : (d.setReg a w).ov3At = d.ov3At := rfl
@[simp] theorem Dev.setReg_ov3SelAt (d : Dev) (a : Nat) (w : Word) : (d.setReg a w).ov3SelAt = d.ov3SelAt := rfl
@[simp] theorem Dev.setReg_uvOn (d : Dev) (a : Nat) (w : Word) : (d.setReg a w).uvOn = d.uvOn := rfl
@[simp] theorem Dev.setReg_uvSince (d : Dev) (a : Nat) (w : Word) : (d.setReg a w).uvSince = d.uvSince := rfl
@[simp] theorem Dev.setReg_hsl (d : Dev) (a : Nat) (w : Word) : (d.setReg a w).hsl = d.hsl := rfl
@[simp] theorem Dev.setReg_schs (d : Dev) (a : Nat) (w : Word) : (d.setReg a w).schs = d.schs := rfl
@[simp] theorem Dev.setReg_lowRails (d : Dev) (a : Nat) (w : Word) : (d.setReg a w).lowRails = d.lowRails := rfl
@[simp] theorem Dev.setReg_railsOut (d : Dev) (a : Nat) (w : Word) : (d.setReg a w).railsOut = d.railsOut := rfl
@[simp] theorem Dev.setReg_vault (d : Dev) (a : Nat) (w : Word) : (d.setReg a w).vault = d.vault := rfl
@[simp] theorem Dev.setReg_cellar (d : Dev) (a : Nat) (w : Word) : (d.setReg a w).cellar = d.cellar := rfl
@[simp] theorem Dev.setReg_tags (d : Dev) (a : Nat) (w : Word) : (d.setReg a w).tags = d.tags := rfl
@[simp] theorem Dev.setReg_binds (d : Dev) (a : Nat) (w : Word) : (d.setReg a w).binds = d.binds := rfl
@[simp] theorem Dev.setReg_rfs (d : Dev) (a : Nat) (w : Word) : (d.setReg a w).rfs = d.rfs := rfl
@[simp] theorem Dev.setReg_nvs (d : Dev) (a : Nat) (w : Word) : (d.setReg a w).nvs = d.nvs := rfl
@[simp] theorem Dev.setReg_linkq (d : Dev) (a : Nat) (w : Word) : (d.setReg a w).linkq = d.linkq := rfl
@[simp] theorem Dev.setReg_wire (d : Dev) (a : Nat) (w : Word) : (d.setReg a w).wire = d.wire := rfl
@[simp] theorem Dev.setReg_axls (d : Dev) (a : Nat) (w : Word) : (d.setReg a w).axls = d.axls := rfl
@[simp] theorem Dev.setReg_slotK (d : Dev) (a : Nat) (w : Word) : (d.setReg a w).slotK = d.slotK := rfl
@[simp] theorem Dev.setReg_ports (d : Dev) (a : Nat) (w : Word) : (d.setReg a w).ports = d.ports := rfl
@[simp] theorem Dev.setReg_mtbs (d : Dev) (a : Nat) (w : Word) : (d.setReg a w).mtbs = d.mtbs := rfl
@[simp] theorem Dev.setReg_racks (d : Dev) (a : Nat) (w : Word) : (d.setReg a w).racks = d.racks := rfl
@[simp] theorem Dev.setReg_copies (d : Dev) (a : Nat) (w : Word) : (d.setReg a w).copies = d.copies := rfl
@[simp] theorem Dev.setReg_trimmed (d : Dev) (a : Nat) (w : Word) : (d.setReg a w).trimmed = d.trimmed := rfl
@[simp] theorem Dev.setReg_nvsq (d : Dev) (a : Nat) (w : Word) : (d.setReg a w).nvsq = d.nvsq := rfl
@[simp] theorem Dev.setReg_nvsBad (d : Dev) (a : Nat) (w : Word) : (d.setReg a w).nvsBad = d.nvsBad := rfl
@[simp] theorem Dev.setReg_slotOk (d : Dev) (a : Nat) (w : Word) : (d.setReg a w).slotOk = d.slotOk := rfl
@[simp] theorem Dev.setReg_indAt (d : Dev) (a : Nat) (w : Word) : (d.setReg a w).indAt = d.indAt := rfl
@[simp] theorem Dev.setReg_indUse (d : Dev) (a : Nat) (w : Word) : (d.setReg a w).indUse = d.indUse := rfl
@[simp] theorem Dev.setReg_indGot (d : Dev) (a : Nat) (w : Word) : (d.setReg a w).indGot = d.indGot := rfl
@[simp] theorem Dev.setReg_snapAt (d : Dev) (a : Nat) (w : Word) : (d.setReg a w).snapAt = d.snapAt := rfl
@[simp] theorem Dev.setReg_fab (d : Dev) (a : Nat) (w : Word) : (d.setReg a w).fab = d.fab := rfl
@[simp] theorem Dev.setReg_chipAt (d : Dev) (a : Nat) (w : Word) : (d.setReg a w).chipAt = d.chipAt := rfl
@[simp] theorem Dev.setReg_patrol (d : Dev) (a : Nat) (w : Word) : (d.setReg a w).patrol = d.patrol := rfl
@[simp] theorem Dev.setReg_scrubAt (d : Dev) (a : Nat) (w : Word) : (d.setReg a w).scrubAt = d.scrubAt := rfl
@[simp] theorem Dev.setReg_patrolAt (d : Dev) (a : Nat) (w : Word) : (d.setReg a w).patrolAt = d.patrolAt := rfl
@[simp] theorem Dev.setReg_nvsAt (d : Dev) (a : Nat) (w : Word) : (d.setReg a w).nvsAt = d.nvsAt := rfl
@[simp] theorem Dev.setReg_loadRes (d : Dev) (a : Nat) (w : Word) : (d.setReg a w).loadRes = d.loadRes := rfl
@[simp] theorem Dev.setReg_dueAt (d : Dev) (a : Nat) (w : Word) : (d.setReg a w).dueAt = d.dueAt := rfl

/-! ### setLane -/

@[simp] theorem Dev.setLane_now (d : Dev) (b : Nat) (l : Lane) : (d.setLane b l).now = d.now := rfl
@[simp] theorem Dev.setLane_net (d : Dev) (b : Nat) (l : Lane) : (d.setLane b l).net = d.net := rfl
@[simp] theorem Dev.setLane_regs (d : Dev) (b : Nat) (l : Lane) : (d.setLane b l).regs = d.regs := rfl
@[simp] theorem Dev.setLane_inforce (d : Dev) (b : Nat) (l : Lane) : (d.setLane b l).inforce = d.inforce := rfl
@[simp] theorem Dev.setLane_snaps (d : Dev) (b : Nat) (l : Lane) : (d.setLane b l).snaps = d.snaps := rfl
@[simp] theorem Dev.setLane_ind (d : Dev) (b : Nat) (l : Lane) : (d.setLane b l).ind = d.ind := rfl
@[simp] theorem Dev.setLane_live (d : Dev) (b : Nat) (l : Lane) : (d.setLane b l).live = d.live := rfl
@[simp] theorem Dev.setLane_mem (d : Dev) (b : Nat) (l : Lane) : (d.setLane b l).mem = d.mem := rfl
@[simp] theorem Dev.setLane_bad (d : Dev) (b : Nat) (l : Lane) : (d.setLane b l).bad = d.bad := rfl
@[simp] theorem Dev.setLane_intakeOld (d : Dev) (b : Nat) (l : Lane) : (d.setLane b l).intakeOld = d.intakeOld := rfl
@[simp] theorem Dev.setLane_legs (d : Dev) (b : Nat) (l : Lane) : (d.setLane b l).legs = d.legs := rfl
@[simp] theorem Dev.setLane_units (d : Dev) (b : Nat) (l : Lane) : (d.setLane b l).units = d.units := rfl
@[simp] theorem Dev.setLane_chReady (d : Dev) (b : Nat) (l : Lane) : (d.setLane b l).chReady = d.chReady := rfl
@[simp] theorem Dev.setLane_portAt (d : Dev) (b : Nat) (l : Lane) : (d.setLane b l).portAt = d.portAt := rfl
@[simp] theorem Dev.setLane_portDma (d : Dev) (b : Nat) (l : Lane) : (d.setLane b l).portDma = d.portDma := rfl
@[simp] theorem Dev.setLane_laneRoutes (d : Dev) (b : Nat) (l : Lane) : (d.setLane b l).laneRoutes = d.laneRoutes := rfl
@[simp] theorem Dev.setLane_stage (d : Dev) (b : Nat) (l : Lane) : (d.setLane b l).stage = d.stage := rfl
@[simp] theorem Dev.setLane_regs0 (d : Dev) (b : Nat) (l : Lane) : (d.setLane b l).regs0 = d.regs0 := rfl
@[simp] theorem Dev.setLane_regsHsl (d : Dev) (b : Nat) (l : Lane) : (d.setLane b l).regsHsl = d.regsHsl := rfl
@[simp] theorem Dev.setLane_setAt (d : Dev) (b : Nat) (l : Lane) : (d.setLane b l).setAt = d.setAt := rfl
@[simp] theorem Dev.setLane_setBits (d : Dev) (b : Nat) (l : Lane) : (d.setLane b l).setBits = d.setBits := rfl
@[simp] theorem Dev.setLane_causeAt (d : Dev) (b : Nat) (l : Lane) : (d.setLane b l).causeAt = d.causeAt := rfl
@[simp] theorem Dev.setLane_resp (d : Dev) (b : Nat) (l : Lane) : (d.setLane b l).resp = d.resp := rfl
@[simp] theorem Dev.setLane_respErr (d : Dev) (b : Nat) (l : Lane) : (d.setLane b l).respErr = d.respErr := rfl
@[simp] theorem Dev.setLane_free (d : Dev) (b : Nat) (l : Lane) : (d.setLane b l).free = d.free := rfl
@[simp] theorem Dev.setLane_dma (d : Dev) (b : Nat) (l : Lane) : (d.setLane b l).dma = d.dma := rfl
@[simp] theorem Dev.setLane_pairWait (d : Dev) (b : Nat) (l : Lane) : (d.setLane b l).pairWait = d.pairWait := rfl
@[simp] theorem Dev.setLane_pairReset (d : Dev) (b : Nat) (l : Lane) : (d.setLane b l).pairReset = d.pairReset := rfl
@[simp] theorem Dev.setLane_correctedAt (d : Dev) (b : Nat) (l : Lane) : (d.setLane b l).correctedAt = d.correctedAt := rfl
@[simp] theorem Dev.setLane_trl (d : Dev) (b : Nat) (l : Lane) : (d.setLane b l).trl = d.trl := rfl
@[simp] theorem Dev.setLane_seqs (d : Dev) (b : Nat) (l : Lane) : (d.setLane b l).seqs = d.seqs := rfl
@[simp] theorem Dev.setLane_convs (d : Dev) (b : Nat) (l : Lane) : (d.setLane b l).convs = d.convs := rfl
@[simp] theorem Dev.setLane_sds (d : Dev) (b : Nat) (l : Lane) : (d.setLane b l).sds = d.sds := rfl
@[simp] theorem Dev.setLane_dacAt (d : Dev) (b : Nat) (l : Lane) : (d.setLane b l).dacAt = d.dacAt := rfl
@[simp] theorem Dev.setLane_rbBad (d : Dev) (b : Nat) (l : Lane) : (d.setLane b l).rbBad = d.rbBad := rfl
@[simp] theorem Dev.setLane_pins (d : Dev) (b : Nat) (l : Lane) : (d.setLane b l).pins = d.pins := rfl
@[simp] theorem Dev.setLane_raws (d : Dev) (b : Nat) (l : Lane) : (d.setLane b l).raws = d.raws := rfl
@[simp] theorem Dev.setLane_rawAt (d : Dev) (b : Nat) (l : Lane) : (d.setLane b l).rawAt = d.rawAt := rfl
@[simp] theorem Dev.setLane_passAt (d : Dev) (b : Nat) (l : Lane) : (d.setLane b l).passAt = d.passAt := rfl
@[simp] theorem Dev.setLane_condNext (d : Dev) (b : Nat) (l : Lane) : (d.setLane b l).condNext = d.condNext := rfl
@[simp] theorem Dev.setLane_fbs (d : Dev) (b : Nat) (l : Lane) : (d.setLane b l).fbs = d.fbs := rfl
@[simp] theorem Dev.setLane_prbs (d : Dev) (b : Nat) (l : Lane) : (d.setLane b l).prbs = d.prbs := rfl
@[simp] theorem Dev.setLane_landings (d : Dev) (b : Nat) (l : Lane) : (d.setLane b l).landings = d.landings := rfl
@[simp] theorem Dev.setLane_caps (d : Dev) (b : Nat) (l : Lane) : (d.setLane b l).caps = d.caps := rfl
@[simp] theorem Dev.setLane_sheds (d : Dev) (b : Nat) (l : Lane) : (d.setLane b l).sheds = d.sheds := rfl
@[simp] theorem Dev.setLane_progs (d : Dev) (b : Nat) (l : Lane) : (d.setLane b l).progs = d.progs := rfl
@[simp] theorem Dev.setLane_notices (d : Dev) (b : Nat) (l : Lane) : (d.setLane b l).notices = d.notices := rfl
@[simp] theorem Dev.setLane_refSlots (d : Dev) (b : Nat) (l : Lane) : (d.setLane b l).refSlots = d.refSlots := rfl
@[simp] theorem Dev.setLane_slotFac (d : Dev) (b : Nat) (l : Lane) : (d.setLane b l).slotFac = d.slotFac := rfl
@[simp] theorem Dev.setLane_slotClaim (d : Dev) (b : Nat) (l : Lane) : (d.setLane b l).slotClaim = d.slotClaim := rfl
@[simp] theorem Dev.setLane_slotWaits (d : Dev) (b : Nat) (l : Lane) : (d.setLane b l).slotWaits = d.slotWaits := rfl
@[simp] theorem Dev.setLane_ov3At (d : Dev) (b : Nat) (l : Lane) : (d.setLane b l).ov3At = d.ov3At := rfl
@[simp] theorem Dev.setLane_ov3SelAt (d : Dev) (b : Nat) (l : Lane) : (d.setLane b l).ov3SelAt = d.ov3SelAt := rfl
@[simp] theorem Dev.setLane_uvOn (d : Dev) (b : Nat) (l : Lane) : (d.setLane b l).uvOn = d.uvOn := rfl
@[simp] theorem Dev.setLane_uvSince (d : Dev) (b : Nat) (l : Lane) : (d.setLane b l).uvSince = d.uvSince := rfl
@[simp] theorem Dev.setLane_hsl (d : Dev) (b : Nat) (l : Lane) : (d.setLane b l).hsl = d.hsl := rfl
@[simp] theorem Dev.setLane_schs (d : Dev) (b : Nat) (l : Lane) : (d.setLane b l).schs = d.schs := rfl
@[simp] theorem Dev.setLane_lowRails (d : Dev) (b : Nat) (l : Lane) : (d.setLane b l).lowRails = d.lowRails := rfl
@[simp] theorem Dev.setLane_railsOut (d : Dev) (b : Nat) (l : Lane) : (d.setLane b l).railsOut = d.railsOut := rfl
@[simp] theorem Dev.setLane_vault (d : Dev) (b : Nat) (l : Lane) : (d.setLane b l).vault = d.vault := rfl
@[simp] theorem Dev.setLane_cellar (d : Dev) (b : Nat) (l : Lane) : (d.setLane b l).cellar = d.cellar := rfl
@[simp] theorem Dev.setLane_tags (d : Dev) (b : Nat) (l : Lane) : (d.setLane b l).tags = d.tags := rfl
@[simp] theorem Dev.setLane_binds (d : Dev) (b : Nat) (l : Lane) : (d.setLane b l).binds = d.binds := rfl
@[simp] theorem Dev.setLane_rfs (d : Dev) (b : Nat) (l : Lane) : (d.setLane b l).rfs = d.rfs := rfl
@[simp] theorem Dev.setLane_nvs (d : Dev) (b : Nat) (l : Lane) : (d.setLane b l).nvs = d.nvs := rfl
@[simp] theorem Dev.setLane_linkq (d : Dev) (b : Nat) (l : Lane) : (d.setLane b l).linkq = d.linkq := rfl
@[simp] theorem Dev.setLane_wire (d : Dev) (b : Nat) (l : Lane) : (d.setLane b l).wire = d.wire := rfl
@[simp] theorem Dev.setLane_axls (d : Dev) (b : Nat) (l : Lane) : (d.setLane b l).axls = d.axls := rfl
@[simp] theorem Dev.setLane_slotK (d : Dev) (b : Nat) (l : Lane) : (d.setLane b l).slotK = d.slotK := rfl
@[simp] theorem Dev.setLane_ports (d : Dev) (b : Nat) (l : Lane) : (d.setLane b l).ports = d.ports := rfl
@[simp] theorem Dev.setLane_mtbs (d : Dev) (b : Nat) (l : Lane) : (d.setLane b l).mtbs = d.mtbs := rfl
@[simp] theorem Dev.setLane_racks (d : Dev) (b : Nat) (l : Lane) : (d.setLane b l).racks = d.racks := rfl
@[simp] theorem Dev.setLane_copies (d : Dev) (b : Nat) (l : Lane) : (d.setLane b l).copies = d.copies := rfl
@[simp] theorem Dev.setLane_trimmed (d : Dev) (b : Nat) (l : Lane) : (d.setLane b l).trimmed = d.trimmed := rfl
@[simp] theorem Dev.setLane_nvsq (d : Dev) (b : Nat) (l : Lane) : (d.setLane b l).nvsq = d.nvsq := rfl
@[simp] theorem Dev.setLane_nvsBad (d : Dev) (b : Nat) (l : Lane) : (d.setLane b l).nvsBad = d.nvsBad := rfl
@[simp] theorem Dev.setLane_slotOk (d : Dev) (b : Nat) (l : Lane) : (d.setLane b l).slotOk = d.slotOk := rfl
@[simp] theorem Dev.setLane_indAt (d : Dev) (b : Nat) (l : Lane) : (d.setLane b l).indAt = d.indAt := rfl
@[simp] theorem Dev.setLane_indUse (d : Dev) (b : Nat) (l : Lane) : (d.setLane b l).indUse = d.indUse := rfl
@[simp] theorem Dev.setLane_indGot (d : Dev) (b : Nat) (l : Lane) : (d.setLane b l).indGot = d.indGot := rfl
@[simp] theorem Dev.setLane_snapAt (d : Dev) (b : Nat) (l : Lane) : (d.setLane b l).snapAt = d.snapAt := rfl
@[simp] theorem Dev.setLane_fab (d : Dev) (b : Nat) (l : Lane) : (d.setLane b l).fab = d.fab := rfl
@[simp] theorem Dev.setLane_chipAt (d : Dev) (b : Nat) (l : Lane) : (d.setLane b l).chipAt = d.chipAt := rfl
@[simp] theorem Dev.setLane_patrol (d : Dev) (b : Nat) (l : Lane) : (d.setLane b l).patrol = d.patrol := rfl
@[simp] theorem Dev.setLane_scrubAt (d : Dev) (b : Nat) (l : Lane) : (d.setLane b l).scrubAt = d.scrubAt := rfl
@[simp] theorem Dev.setLane_patrolAt (d : Dev) (b : Nat) (l : Lane) : (d.setLane b l).patrolAt = d.patrolAt := rfl
@[simp] theorem Dev.setLane_nvsAt (d : Dev) (b : Nat) (l : Lane) : (d.setLane b l).nvsAt = d.nvsAt := rfl
@[simp] theorem Dev.setLane_loadRes (d : Dev) (b : Nat) (l : Lane) : (d.setLane b l).loadRes = d.loadRes := rfl
@[simp] theorem Dev.setLane_dueAt (d : Dev) (b : Nat) (l : Lane) : (d.setLane b l).dueAt = d.dueAt := rfl

/-! ### setLeg -/

@[simp] theorem Dev.setLeg_now (d : Dev) (k : Nat) (l : Leg) : (d.setLeg k l).now = d.now := rfl
@[simp] theorem Dev.setLeg_net (d : Dev) (k : Nat) (l : Leg) : (d.setLeg k l).net = d.net := rfl
@[simp] theorem Dev.setLeg_regs (d : Dev) (k : Nat) (l : Leg) : (d.setLeg k l).regs = d.regs := rfl
@[simp] theorem Dev.setLeg_inforce (d : Dev) (k : Nat) (l : Leg) : (d.setLeg k l).inforce = d.inforce := rfl
@[simp] theorem Dev.setLeg_snaps (d : Dev) (k : Nat) (l : Leg) : (d.setLeg k l).snaps = d.snaps := rfl
@[simp] theorem Dev.setLeg_ind (d : Dev) (k : Nat) (l : Leg) : (d.setLeg k l).ind = d.ind := rfl
@[simp] theorem Dev.setLeg_live (d : Dev) (k : Nat) (l : Leg) : (d.setLeg k l).live = d.live := rfl
@[simp] theorem Dev.setLeg_mem (d : Dev) (k : Nat) (l : Leg) : (d.setLeg k l).mem = d.mem := rfl
@[simp] theorem Dev.setLeg_bad (d : Dev) (k : Nat) (l : Leg) : (d.setLeg k l).bad = d.bad := rfl
@[simp] theorem Dev.setLeg_intakeOld (d : Dev) (k : Nat) (l : Leg) : (d.setLeg k l).intakeOld = d.intakeOld := rfl
@[simp] theorem Dev.setLeg_lanes (d : Dev) (k : Nat) (l : Leg) : (d.setLeg k l).lanes = d.lanes := rfl
@[simp] theorem Dev.setLeg_units (d : Dev) (k : Nat) (l : Leg) : (d.setLeg k l).units = d.units := rfl
@[simp] theorem Dev.setLeg_chReady (d : Dev) (k : Nat) (l : Leg) : (d.setLeg k l).chReady = d.chReady := rfl
@[simp] theorem Dev.setLeg_portAt (d : Dev) (k : Nat) (l : Leg) : (d.setLeg k l).portAt = d.portAt := rfl
@[simp] theorem Dev.setLeg_portDma (d : Dev) (k : Nat) (l : Leg) : (d.setLeg k l).portDma = d.portDma := rfl
@[simp] theorem Dev.setLeg_laneRoutes (d : Dev) (k : Nat) (l : Leg) : (d.setLeg k l).laneRoutes = d.laneRoutes := rfl
@[simp] theorem Dev.setLeg_stage (d : Dev) (k : Nat) (l : Leg) : (d.setLeg k l).stage = d.stage := rfl
@[simp] theorem Dev.setLeg_regs0 (d : Dev) (k : Nat) (l : Leg) : (d.setLeg k l).regs0 = d.regs0 := rfl
@[simp] theorem Dev.setLeg_regsHsl (d : Dev) (k : Nat) (l : Leg) : (d.setLeg k l).regsHsl = d.regsHsl := rfl
@[simp] theorem Dev.setLeg_setAt (d : Dev) (k : Nat) (l : Leg) : (d.setLeg k l).setAt = d.setAt := rfl
@[simp] theorem Dev.setLeg_setBits (d : Dev) (k : Nat) (l : Leg) : (d.setLeg k l).setBits = d.setBits := rfl
@[simp] theorem Dev.setLeg_causeAt (d : Dev) (k : Nat) (l : Leg) : (d.setLeg k l).causeAt = d.causeAt := rfl
@[simp] theorem Dev.setLeg_resp (d : Dev) (k : Nat) (l : Leg) : (d.setLeg k l).resp = d.resp := rfl
@[simp] theorem Dev.setLeg_respErr (d : Dev) (k : Nat) (l : Leg) : (d.setLeg k l).respErr = d.respErr := rfl
@[simp] theorem Dev.setLeg_free (d : Dev) (k : Nat) (l : Leg) : (d.setLeg k l).free = d.free := rfl
@[simp] theorem Dev.setLeg_dma (d : Dev) (k : Nat) (l : Leg) : (d.setLeg k l).dma = d.dma := rfl
@[simp] theorem Dev.setLeg_pairWait (d : Dev) (k : Nat) (l : Leg) : (d.setLeg k l).pairWait = d.pairWait := rfl
@[simp] theorem Dev.setLeg_pairReset (d : Dev) (k : Nat) (l : Leg) : (d.setLeg k l).pairReset = d.pairReset := rfl
@[simp] theorem Dev.setLeg_correctedAt (d : Dev) (k : Nat) (l : Leg) : (d.setLeg k l).correctedAt = d.correctedAt := rfl
@[simp] theorem Dev.setLeg_trl (d : Dev) (k : Nat) (l : Leg) : (d.setLeg k l).trl = d.trl := rfl
@[simp] theorem Dev.setLeg_seqs (d : Dev) (k : Nat) (l : Leg) : (d.setLeg k l).seqs = d.seqs := rfl
@[simp] theorem Dev.setLeg_convs (d : Dev) (k : Nat) (l : Leg) : (d.setLeg k l).convs = d.convs := rfl
@[simp] theorem Dev.setLeg_sds (d : Dev) (k : Nat) (l : Leg) : (d.setLeg k l).sds = d.sds := rfl
@[simp] theorem Dev.setLeg_dacAt (d : Dev) (k : Nat) (l : Leg) : (d.setLeg k l).dacAt = d.dacAt := rfl
@[simp] theorem Dev.setLeg_rbBad (d : Dev) (k : Nat) (l : Leg) : (d.setLeg k l).rbBad = d.rbBad := rfl
@[simp] theorem Dev.setLeg_pins (d : Dev) (k : Nat) (l : Leg) : (d.setLeg k l).pins = d.pins := rfl
@[simp] theorem Dev.setLeg_raws (d : Dev) (k : Nat) (l : Leg) : (d.setLeg k l).raws = d.raws := rfl
@[simp] theorem Dev.setLeg_rawAt (d : Dev) (k : Nat) (l : Leg) : (d.setLeg k l).rawAt = d.rawAt := rfl
@[simp] theorem Dev.setLeg_passAt (d : Dev) (k : Nat) (l : Leg) : (d.setLeg k l).passAt = d.passAt := rfl
@[simp] theorem Dev.setLeg_condNext (d : Dev) (k : Nat) (l : Leg) : (d.setLeg k l).condNext = d.condNext := rfl
@[simp] theorem Dev.setLeg_fbs (d : Dev) (k : Nat) (l : Leg) : (d.setLeg k l).fbs = d.fbs := rfl
@[simp] theorem Dev.setLeg_prbs (d : Dev) (k : Nat) (l : Leg) : (d.setLeg k l).prbs = d.prbs := rfl
@[simp] theorem Dev.setLeg_landings (d : Dev) (k : Nat) (l : Leg) : (d.setLeg k l).landings = d.landings := rfl
@[simp] theorem Dev.setLeg_caps (d : Dev) (k : Nat) (l : Leg) : (d.setLeg k l).caps = d.caps := rfl
@[simp] theorem Dev.setLeg_sheds (d : Dev) (k : Nat) (l : Leg) : (d.setLeg k l).sheds = d.sheds := rfl
@[simp] theorem Dev.setLeg_progs (d : Dev) (k : Nat) (l : Leg) : (d.setLeg k l).progs = d.progs := rfl
@[simp] theorem Dev.setLeg_notices (d : Dev) (k : Nat) (l : Leg) : (d.setLeg k l).notices = d.notices := rfl
@[simp] theorem Dev.setLeg_refSlots (d : Dev) (k : Nat) (l : Leg) : (d.setLeg k l).refSlots = d.refSlots := rfl
@[simp] theorem Dev.setLeg_slotFac (d : Dev) (k : Nat) (l : Leg) : (d.setLeg k l).slotFac = d.slotFac := rfl
@[simp] theorem Dev.setLeg_slotClaim (d : Dev) (k : Nat) (l : Leg) : (d.setLeg k l).slotClaim = d.slotClaim := rfl
@[simp] theorem Dev.setLeg_slotWaits (d : Dev) (k : Nat) (l : Leg) : (d.setLeg k l).slotWaits = d.slotWaits := rfl
@[simp] theorem Dev.setLeg_ov3At (d : Dev) (k : Nat) (l : Leg) : (d.setLeg k l).ov3At = d.ov3At := rfl
@[simp] theorem Dev.setLeg_ov3SelAt (d : Dev) (k : Nat) (l : Leg) : (d.setLeg k l).ov3SelAt = d.ov3SelAt := rfl
@[simp] theorem Dev.setLeg_uvOn (d : Dev) (k : Nat) (l : Leg) : (d.setLeg k l).uvOn = d.uvOn := rfl
@[simp] theorem Dev.setLeg_uvSince (d : Dev) (k : Nat) (l : Leg) : (d.setLeg k l).uvSince = d.uvSince := rfl
@[simp] theorem Dev.setLeg_hsl (d : Dev) (k : Nat) (l : Leg) : (d.setLeg k l).hsl = d.hsl := rfl
@[simp] theorem Dev.setLeg_schs (d : Dev) (k : Nat) (l : Leg) : (d.setLeg k l).schs = d.schs := rfl
@[simp] theorem Dev.setLeg_lowRails (d : Dev) (k : Nat) (l : Leg) : (d.setLeg k l).lowRails = d.lowRails := rfl
@[simp] theorem Dev.setLeg_railsOut (d : Dev) (k : Nat) (l : Leg) : (d.setLeg k l).railsOut = d.railsOut := rfl
@[simp] theorem Dev.setLeg_vault (d : Dev) (k : Nat) (l : Leg) : (d.setLeg k l).vault = d.vault := rfl
@[simp] theorem Dev.setLeg_cellar (d : Dev) (k : Nat) (l : Leg) : (d.setLeg k l).cellar = d.cellar := rfl
@[simp] theorem Dev.setLeg_tags (d : Dev) (k : Nat) (l : Leg) : (d.setLeg k l).tags = d.tags := rfl
@[simp] theorem Dev.setLeg_binds (d : Dev) (k : Nat) (l : Leg) : (d.setLeg k l).binds = d.binds := rfl
@[simp] theorem Dev.setLeg_rfs (d : Dev) (k : Nat) (l : Leg) : (d.setLeg k l).rfs = d.rfs := rfl
@[simp] theorem Dev.setLeg_nvs (d : Dev) (k : Nat) (l : Leg) : (d.setLeg k l).nvs = d.nvs := rfl
@[simp] theorem Dev.setLeg_linkq (d : Dev) (k : Nat) (l : Leg) : (d.setLeg k l).linkq = d.linkq := rfl
@[simp] theorem Dev.setLeg_wire (d : Dev) (k : Nat) (l : Leg) : (d.setLeg k l).wire = d.wire := rfl
@[simp] theorem Dev.setLeg_axls (d : Dev) (k : Nat) (l : Leg) : (d.setLeg k l).axls = d.axls := rfl
@[simp] theorem Dev.setLeg_slotK (d : Dev) (k : Nat) (l : Leg) : (d.setLeg k l).slotK = d.slotK := rfl
@[simp] theorem Dev.setLeg_ports (d : Dev) (k : Nat) (l : Leg) : (d.setLeg k l).ports = d.ports := rfl
@[simp] theorem Dev.setLeg_mtbs (d : Dev) (k : Nat) (l : Leg) : (d.setLeg k l).mtbs = d.mtbs := rfl
@[simp] theorem Dev.setLeg_racks (d : Dev) (k : Nat) (l : Leg) : (d.setLeg k l).racks = d.racks := rfl
@[simp] theorem Dev.setLeg_copies (d : Dev) (k : Nat) (l : Leg) : (d.setLeg k l).copies = d.copies := rfl
@[simp] theorem Dev.setLeg_trimmed (d : Dev) (k : Nat) (l : Leg) : (d.setLeg k l).trimmed = d.trimmed := rfl
@[simp] theorem Dev.setLeg_nvsq (d : Dev) (k : Nat) (l : Leg) : (d.setLeg k l).nvsq = d.nvsq := rfl
@[simp] theorem Dev.setLeg_nvsBad (d : Dev) (k : Nat) (l : Leg) : (d.setLeg k l).nvsBad = d.nvsBad := rfl
@[simp] theorem Dev.setLeg_slotOk (d : Dev) (k : Nat) (l : Leg) : (d.setLeg k l).slotOk = d.slotOk := rfl
@[simp] theorem Dev.setLeg_indAt (d : Dev) (k : Nat) (l : Leg) : (d.setLeg k l).indAt = d.indAt := rfl
@[simp] theorem Dev.setLeg_indUse (d : Dev) (k : Nat) (l : Leg) : (d.setLeg k l).indUse = d.indUse := rfl
@[simp] theorem Dev.setLeg_indGot (d : Dev) (k : Nat) (l : Leg) : (d.setLeg k l).indGot = d.indGot := rfl
@[simp] theorem Dev.setLeg_snapAt (d : Dev) (k : Nat) (l : Leg) : (d.setLeg k l).snapAt = d.snapAt := rfl
@[simp] theorem Dev.setLeg_fab (d : Dev) (k : Nat) (l : Leg) : (d.setLeg k l).fab = d.fab := rfl
@[simp] theorem Dev.setLeg_chipAt (d : Dev) (k : Nat) (l : Leg) : (d.setLeg k l).chipAt = d.chipAt := rfl
@[simp] theorem Dev.setLeg_patrol (d : Dev) (k : Nat) (l : Leg) : (d.setLeg k l).patrol = d.patrol := rfl
@[simp] theorem Dev.setLeg_scrubAt (d : Dev) (k : Nat) (l : Leg) : (d.setLeg k l).scrubAt = d.scrubAt := rfl
@[simp] theorem Dev.setLeg_patrolAt (d : Dev) (k : Nat) (l : Leg) : (d.setLeg k l).patrolAt = d.patrolAt := rfl
@[simp] theorem Dev.setLeg_nvsAt (d : Dev) (k : Nat) (l : Leg) : (d.setLeg k l).nvsAt = d.nvsAt := rfl
@[simp] theorem Dev.setLeg_loadRes (d : Dev) (k : Nat) (l : Leg) : (d.setLeg k l).loadRes = d.loadRes := rfl
@[simp] theorem Dev.setLeg_dueAt (d : Dev) (k : Nat) (l : Leg) : (d.setLeg k l).dueAt = d.dueAt := rfl

/-! ### setUnit -/

@[simp] theorem Dev.setUnit_now (d : Dev) (u : Nat) (x : UnitRec) : (d.setUnit u x).now = d.now := rfl
@[simp] theorem Dev.setUnit_net (d : Dev) (u : Nat) (x : UnitRec) : (d.setUnit u x).net = d.net := rfl
@[simp] theorem Dev.setUnit_regs (d : Dev) (u : Nat) (x : UnitRec) : (d.setUnit u x).regs = d.regs := rfl
@[simp] theorem Dev.setUnit_inforce (d : Dev) (u : Nat) (x : UnitRec) : (d.setUnit u x).inforce = d.inforce := rfl
@[simp] theorem Dev.setUnit_snaps (d : Dev) (u : Nat) (x : UnitRec) : (d.setUnit u x).snaps = d.snaps := rfl
@[simp] theorem Dev.setUnit_ind (d : Dev) (u : Nat) (x : UnitRec) : (d.setUnit u x).ind = d.ind := rfl
@[simp] theorem Dev.setUnit_live (d : Dev) (u : Nat) (x : UnitRec) : (d.setUnit u x).live = d.live := rfl
@[simp] theorem Dev.setUnit_mem (d : Dev) (u : Nat) (x : UnitRec) : (d.setUnit u x).mem = d.mem := rfl
@[simp] theorem Dev.setUnit_bad (d : Dev) (u : Nat) (x : UnitRec) : (d.setUnit u x).bad = d.bad := rfl
@[simp] theorem Dev.setUnit_intakeOld (d : Dev) (u : Nat) (x : UnitRec) : (d.setUnit u x).intakeOld = d.intakeOld := rfl
@[simp] theorem Dev.setUnit_lanes (d : Dev) (u : Nat) (x : UnitRec) : (d.setUnit u x).lanes = d.lanes := rfl
@[simp] theorem Dev.setUnit_legs (d : Dev) (u : Nat) (x : UnitRec) : (d.setUnit u x).legs = d.legs := rfl
@[simp] theorem Dev.setUnit_chReady (d : Dev) (u : Nat) (x : UnitRec) : (d.setUnit u x).chReady = d.chReady := rfl
@[simp] theorem Dev.setUnit_portAt (d : Dev) (u : Nat) (x : UnitRec) : (d.setUnit u x).portAt = d.portAt := rfl
@[simp] theorem Dev.setUnit_portDma (d : Dev) (u : Nat) (x : UnitRec) : (d.setUnit u x).portDma = d.portDma := rfl
@[simp] theorem Dev.setUnit_laneRoutes (d : Dev) (u : Nat) (x : UnitRec) : (d.setUnit u x).laneRoutes = d.laneRoutes := rfl
@[simp] theorem Dev.setUnit_stage (d : Dev) (u : Nat) (x : UnitRec) : (d.setUnit u x).stage = d.stage := rfl
@[simp] theorem Dev.setUnit_regs0 (d : Dev) (u : Nat) (x : UnitRec) : (d.setUnit u x).regs0 = d.regs0 := rfl
@[simp] theorem Dev.setUnit_regsHsl (d : Dev) (u : Nat) (x : UnitRec) : (d.setUnit u x).regsHsl = d.regsHsl := rfl
@[simp] theorem Dev.setUnit_setAt (d : Dev) (u : Nat) (x : UnitRec) : (d.setUnit u x).setAt = d.setAt := rfl
@[simp] theorem Dev.setUnit_setBits (d : Dev) (u : Nat) (x : UnitRec) : (d.setUnit u x).setBits = d.setBits := rfl
@[simp] theorem Dev.setUnit_causeAt (d : Dev) (u : Nat) (x : UnitRec) : (d.setUnit u x).causeAt = d.causeAt := rfl
@[simp] theorem Dev.setUnit_resp (d : Dev) (u : Nat) (x : UnitRec) : (d.setUnit u x).resp = d.resp := rfl
@[simp] theorem Dev.setUnit_respErr (d : Dev) (u : Nat) (x : UnitRec) : (d.setUnit u x).respErr = d.respErr := rfl
@[simp] theorem Dev.setUnit_free (d : Dev) (u : Nat) (x : UnitRec) : (d.setUnit u x).free = d.free := rfl
@[simp] theorem Dev.setUnit_dma (d : Dev) (u : Nat) (x : UnitRec) : (d.setUnit u x).dma = d.dma := rfl
@[simp] theorem Dev.setUnit_pairWait (d : Dev) (u : Nat) (x : UnitRec) : (d.setUnit u x).pairWait = d.pairWait := rfl
@[simp] theorem Dev.setUnit_pairReset (d : Dev) (u : Nat) (x : UnitRec) : (d.setUnit u x).pairReset = d.pairReset := rfl
@[simp] theorem Dev.setUnit_correctedAt (d : Dev) (u : Nat) (x : UnitRec) : (d.setUnit u x).correctedAt = d.correctedAt := rfl
@[simp] theorem Dev.setUnit_trl (d : Dev) (u : Nat) (x : UnitRec) : (d.setUnit u x).trl = d.trl := rfl
@[simp] theorem Dev.setUnit_seqs (d : Dev) (u : Nat) (x : UnitRec) : (d.setUnit u x).seqs = d.seqs := rfl
@[simp] theorem Dev.setUnit_convs (d : Dev) (u : Nat) (x : UnitRec) : (d.setUnit u x).convs = d.convs := rfl
@[simp] theorem Dev.setUnit_sds (d : Dev) (u : Nat) (x : UnitRec) : (d.setUnit u x).sds = d.sds := rfl
@[simp] theorem Dev.setUnit_dacAt (d : Dev) (u : Nat) (x : UnitRec) : (d.setUnit u x).dacAt = d.dacAt := rfl
@[simp] theorem Dev.setUnit_rbBad (d : Dev) (u : Nat) (x : UnitRec) : (d.setUnit u x).rbBad = d.rbBad := rfl
@[simp] theorem Dev.setUnit_pins (d : Dev) (u : Nat) (x : UnitRec) : (d.setUnit u x).pins = d.pins := rfl
@[simp] theorem Dev.setUnit_raws (d : Dev) (u : Nat) (x : UnitRec) : (d.setUnit u x).raws = d.raws := rfl
@[simp] theorem Dev.setUnit_rawAt (d : Dev) (u : Nat) (x : UnitRec) : (d.setUnit u x).rawAt = d.rawAt := rfl
@[simp] theorem Dev.setUnit_passAt (d : Dev) (u : Nat) (x : UnitRec) : (d.setUnit u x).passAt = d.passAt := rfl
@[simp] theorem Dev.setUnit_condNext (d : Dev) (u : Nat) (x : UnitRec) : (d.setUnit u x).condNext = d.condNext := rfl
@[simp] theorem Dev.setUnit_fbs (d : Dev) (u : Nat) (x : UnitRec) : (d.setUnit u x).fbs = d.fbs := rfl
@[simp] theorem Dev.setUnit_prbs (d : Dev) (u : Nat) (x : UnitRec) : (d.setUnit u x).prbs = d.prbs := rfl
@[simp] theorem Dev.setUnit_landings (d : Dev) (u : Nat) (x : UnitRec) : (d.setUnit u x).landings = d.landings := rfl
@[simp] theorem Dev.setUnit_caps (d : Dev) (u : Nat) (x : UnitRec) : (d.setUnit u x).caps = d.caps := rfl
@[simp] theorem Dev.setUnit_sheds (d : Dev) (u : Nat) (x : UnitRec) : (d.setUnit u x).sheds = d.sheds := rfl
@[simp] theorem Dev.setUnit_progs (d : Dev) (u : Nat) (x : UnitRec) : (d.setUnit u x).progs = d.progs := rfl
@[simp] theorem Dev.setUnit_notices (d : Dev) (u : Nat) (x : UnitRec) : (d.setUnit u x).notices = d.notices := rfl
@[simp] theorem Dev.setUnit_refSlots (d : Dev) (u : Nat) (x : UnitRec) : (d.setUnit u x).refSlots = d.refSlots := rfl
@[simp] theorem Dev.setUnit_slotFac (d : Dev) (u : Nat) (x : UnitRec) : (d.setUnit u x).slotFac = d.slotFac := rfl
@[simp] theorem Dev.setUnit_slotClaim (d : Dev) (u : Nat) (x : UnitRec) : (d.setUnit u x).slotClaim = d.slotClaim := rfl
@[simp] theorem Dev.setUnit_slotWaits (d : Dev) (u : Nat) (x : UnitRec) : (d.setUnit u x).slotWaits = d.slotWaits := rfl
@[simp] theorem Dev.setUnit_ov3At (d : Dev) (u : Nat) (x : UnitRec) : (d.setUnit u x).ov3At = d.ov3At := rfl
@[simp] theorem Dev.setUnit_ov3SelAt (d : Dev) (u : Nat) (x : UnitRec) : (d.setUnit u x).ov3SelAt = d.ov3SelAt := rfl
@[simp] theorem Dev.setUnit_uvOn (d : Dev) (u : Nat) (x : UnitRec) : (d.setUnit u x).uvOn = d.uvOn := rfl
@[simp] theorem Dev.setUnit_uvSince (d : Dev) (u : Nat) (x : UnitRec) : (d.setUnit u x).uvSince = d.uvSince := rfl
@[simp] theorem Dev.setUnit_hsl (d : Dev) (u : Nat) (x : UnitRec) : (d.setUnit u x).hsl = d.hsl := rfl
@[simp] theorem Dev.setUnit_schs (d : Dev) (u : Nat) (x : UnitRec) : (d.setUnit u x).schs = d.schs := rfl
@[simp] theorem Dev.setUnit_lowRails (d : Dev) (u : Nat) (x : UnitRec) : (d.setUnit u x).lowRails = d.lowRails := rfl
@[simp] theorem Dev.setUnit_railsOut (d : Dev) (u : Nat) (x : UnitRec) : (d.setUnit u x).railsOut = d.railsOut := rfl
@[simp] theorem Dev.setUnit_vault (d : Dev) (u : Nat) (x : UnitRec) : (d.setUnit u x).vault = d.vault := rfl
@[simp] theorem Dev.setUnit_cellar (d : Dev) (u : Nat) (x : UnitRec) : (d.setUnit u x).cellar = d.cellar := rfl
@[simp] theorem Dev.setUnit_tags (d : Dev) (u : Nat) (x : UnitRec) : (d.setUnit u x).tags = d.tags := rfl
@[simp] theorem Dev.setUnit_binds (d : Dev) (u : Nat) (x : UnitRec) : (d.setUnit u x).binds = d.binds := rfl
@[simp] theorem Dev.setUnit_rfs (d : Dev) (u : Nat) (x : UnitRec) : (d.setUnit u x).rfs = d.rfs := rfl
@[simp] theorem Dev.setUnit_nvs (d : Dev) (u : Nat) (x : UnitRec) : (d.setUnit u x).nvs = d.nvs := rfl
@[simp] theorem Dev.setUnit_linkq (d : Dev) (u : Nat) (x : UnitRec) : (d.setUnit u x).linkq = d.linkq := rfl
@[simp] theorem Dev.setUnit_wire (d : Dev) (u : Nat) (x : UnitRec) : (d.setUnit u x).wire = d.wire := rfl
@[simp] theorem Dev.setUnit_axls (d : Dev) (u : Nat) (x : UnitRec) : (d.setUnit u x).axls = d.axls := rfl
@[simp] theorem Dev.setUnit_slotK (d : Dev) (u : Nat) (x : UnitRec) : (d.setUnit u x).slotK = d.slotK := rfl
@[simp] theorem Dev.setUnit_ports (d : Dev) (u : Nat) (x : UnitRec) : (d.setUnit u x).ports = d.ports := rfl
@[simp] theorem Dev.setUnit_mtbs (d : Dev) (u : Nat) (x : UnitRec) : (d.setUnit u x).mtbs = d.mtbs := rfl
@[simp] theorem Dev.setUnit_racks (d : Dev) (u : Nat) (x : UnitRec) : (d.setUnit u x).racks = d.racks := rfl
@[simp] theorem Dev.setUnit_copies (d : Dev) (u : Nat) (x : UnitRec) : (d.setUnit u x).copies = d.copies := rfl
@[simp] theorem Dev.setUnit_trimmed (d : Dev) (u : Nat) (x : UnitRec) : (d.setUnit u x).trimmed = d.trimmed := rfl
@[simp] theorem Dev.setUnit_nvsq (d : Dev) (u : Nat) (x : UnitRec) : (d.setUnit u x).nvsq = d.nvsq := rfl
@[simp] theorem Dev.setUnit_nvsBad (d : Dev) (u : Nat) (x : UnitRec) : (d.setUnit u x).nvsBad = d.nvsBad := rfl
@[simp] theorem Dev.setUnit_slotOk (d : Dev) (u : Nat) (x : UnitRec) : (d.setUnit u x).slotOk = d.slotOk := rfl
@[simp] theorem Dev.setUnit_indAt (d : Dev) (u : Nat) (x : UnitRec) : (d.setUnit u x).indAt = d.indAt := rfl
@[simp] theorem Dev.setUnit_indUse (d : Dev) (u : Nat) (x : UnitRec) : (d.setUnit u x).indUse = d.indUse := rfl
@[simp] theorem Dev.setUnit_indGot (d : Dev) (u : Nat) (x : UnitRec) : (d.setUnit u x).indGot = d.indGot := rfl
@[simp] theorem Dev.setUnit_snapAt (d : Dev) (u : Nat) (x : UnitRec) : (d.setUnit u x).snapAt = d.snapAt := rfl
@[simp] theorem Dev.setUnit_fab (d : Dev) (u : Nat) (x : UnitRec) : (d.setUnit u x).fab = d.fab := rfl
@[simp] theorem Dev.setUnit_chipAt (d : Dev) (u : Nat) (x : UnitRec) : (d.setUnit u x).chipAt = d.chipAt := rfl
@[simp] theorem Dev.setUnit_patrol (d : Dev) (u : Nat) (x : UnitRec) : (d.setUnit u x).patrol = d.patrol := rfl
@[simp] theorem Dev.setUnit_scrubAt (d : Dev) (u : Nat) (x : UnitRec) : (d.setUnit u x).scrubAt = d.scrubAt := rfl
@[simp] theorem Dev.setUnit_patrolAt (d : Dev) (u : Nat) (x : UnitRec) : (d.setUnit u x).patrolAt = d.patrolAt := rfl
@[simp] theorem Dev.setUnit_nvsAt (d : Dev) (u : Nat) (x : UnitRec) : (d.setUnit u x).nvsAt = d.nvsAt := rfl
@[simp] theorem Dev.setUnit_loadRes (d : Dev) (u : Nat) (x : UnitRec) : (d.setUnit u x).loadRes = d.loadRes := rfl
@[simp] theorem Dev.setUnit_dueAt (d : Dev) (u : Nat) (x : UnitRec) : (d.setUnit u x).dueAt = d.dueAt := rfl

/-! ### setLive -/

@[simp] theorem Dev.setLive_now (d : Dev) (a mask : Nat) (on : Bool) : (d.setLive a mask on).now = d.now := rfl
@[simp] theorem Dev.setLive_net (d : Dev) (a mask : Nat) (on : Bool) : (d.setLive a mask on).net = d.net := rfl
@[simp] theorem Dev.setLive_regs (d : Dev) (a mask : Nat) (on : Bool) : (d.setLive a mask on).regs = d.regs := rfl
@[simp] theorem Dev.setLive_inforce (d : Dev) (a mask : Nat) (on : Bool) : (d.setLive a mask on).inforce = d.inforce := rfl
@[simp] theorem Dev.setLive_snaps (d : Dev) (a mask : Nat) (on : Bool) : (d.setLive a mask on).snaps = d.snaps := rfl
@[simp] theorem Dev.setLive_ind (d : Dev) (a mask : Nat) (on : Bool) : (d.setLive a mask on).ind = d.ind := rfl
@[simp] theorem Dev.setLive_mem (d : Dev) (a mask : Nat) (on : Bool) : (d.setLive a mask on).mem = d.mem := rfl
@[simp] theorem Dev.setLive_bad (d : Dev) (a mask : Nat) (on : Bool) : (d.setLive a mask on).bad = d.bad := rfl
@[simp] theorem Dev.setLive_intakeOld (d : Dev) (a mask : Nat) (on : Bool) : (d.setLive a mask on).intakeOld = d.intakeOld := rfl
@[simp] theorem Dev.setLive_lanes (d : Dev) (a mask : Nat) (on : Bool) : (d.setLive a mask on).lanes = d.lanes := rfl
@[simp] theorem Dev.setLive_legs (d : Dev) (a mask : Nat) (on : Bool) : (d.setLive a mask on).legs = d.legs := rfl
@[simp] theorem Dev.setLive_units (d : Dev) (a mask : Nat) (on : Bool) : (d.setLive a mask on).units = d.units := rfl
@[simp] theorem Dev.setLive_chReady (d : Dev) (a mask : Nat) (on : Bool) : (d.setLive a mask on).chReady = d.chReady := rfl
@[simp] theorem Dev.setLive_portAt (d : Dev) (a mask : Nat) (on : Bool) : (d.setLive a mask on).portAt = d.portAt := rfl
@[simp] theorem Dev.setLive_portDma (d : Dev) (a mask : Nat) (on : Bool) : (d.setLive a mask on).portDma = d.portDma := rfl
@[simp] theorem Dev.setLive_laneRoutes (d : Dev) (a mask : Nat) (on : Bool) : (d.setLive a mask on).laneRoutes = d.laneRoutes := rfl
@[simp] theorem Dev.setLive_stage (d : Dev) (a mask : Nat) (on : Bool) : (d.setLive a mask on).stage = d.stage := rfl
@[simp] theorem Dev.setLive_regs0 (d : Dev) (a mask : Nat) (on : Bool) : (d.setLive a mask on).regs0 = d.regs0 := rfl
@[simp] theorem Dev.setLive_regsHsl (d : Dev) (a mask : Nat) (on : Bool) : (d.setLive a mask on).regsHsl = d.regsHsl := rfl
@[simp] theorem Dev.setLive_setAt (d : Dev) (a mask : Nat) (on : Bool) : (d.setLive a mask on).setAt = d.setAt := rfl
@[simp] theorem Dev.setLive_setBits (d : Dev) (a mask : Nat) (on : Bool) : (d.setLive a mask on).setBits = d.setBits := rfl
@[simp] theorem Dev.setLive_causeAt (d : Dev) (a mask : Nat) (on : Bool) : (d.setLive a mask on).causeAt = d.causeAt := rfl
@[simp] theorem Dev.setLive_resp (d : Dev) (a mask : Nat) (on : Bool) : (d.setLive a mask on).resp = d.resp := rfl
@[simp] theorem Dev.setLive_respErr (d : Dev) (a mask : Nat) (on : Bool) : (d.setLive a mask on).respErr = d.respErr := rfl
@[simp] theorem Dev.setLive_free (d : Dev) (a mask : Nat) (on : Bool) : (d.setLive a mask on).free = d.free := rfl
@[simp] theorem Dev.setLive_dma (d : Dev) (a mask : Nat) (on : Bool) : (d.setLive a mask on).dma = d.dma := rfl
@[simp] theorem Dev.setLive_pairWait (d : Dev) (a mask : Nat) (on : Bool) : (d.setLive a mask on).pairWait = d.pairWait := rfl
@[simp] theorem Dev.setLive_pairReset (d : Dev) (a mask : Nat) (on : Bool) : (d.setLive a mask on).pairReset = d.pairReset := rfl
@[simp] theorem Dev.setLive_correctedAt (d : Dev) (a mask : Nat) (on : Bool) : (d.setLive a mask on).correctedAt = d.correctedAt := rfl
@[simp] theorem Dev.setLive_trl (d : Dev) (a mask : Nat) (on : Bool) : (d.setLive a mask on).trl = d.trl := rfl
@[simp] theorem Dev.setLive_seqs (d : Dev) (a mask : Nat) (on : Bool) : (d.setLive a mask on).seqs = d.seqs := rfl
@[simp] theorem Dev.setLive_convs (d : Dev) (a mask : Nat) (on : Bool) : (d.setLive a mask on).convs = d.convs := rfl
@[simp] theorem Dev.setLive_sds (d : Dev) (a mask : Nat) (on : Bool) : (d.setLive a mask on).sds = d.sds := rfl
@[simp] theorem Dev.setLive_dacAt (d : Dev) (a mask : Nat) (on : Bool) : (d.setLive a mask on).dacAt = d.dacAt := rfl
@[simp] theorem Dev.setLive_rbBad (d : Dev) (a mask : Nat) (on : Bool) : (d.setLive a mask on).rbBad = d.rbBad := rfl
@[simp] theorem Dev.setLive_pins (d : Dev) (a mask : Nat) (on : Bool) : (d.setLive a mask on).pins = d.pins := rfl
@[simp] theorem Dev.setLive_raws (d : Dev) (a mask : Nat) (on : Bool) : (d.setLive a mask on).raws = d.raws := rfl
@[simp] theorem Dev.setLive_rawAt (d : Dev) (a mask : Nat) (on : Bool) : (d.setLive a mask on).rawAt = d.rawAt := rfl
@[simp] theorem Dev.setLive_passAt (d : Dev) (a mask : Nat) (on : Bool) : (d.setLive a mask on).passAt = d.passAt := rfl
@[simp] theorem Dev.setLive_condNext (d : Dev) (a mask : Nat) (on : Bool) : (d.setLive a mask on).condNext = d.condNext := rfl
@[simp] theorem Dev.setLive_fbs (d : Dev) (a mask : Nat) (on : Bool) : (d.setLive a mask on).fbs = d.fbs := rfl
@[simp] theorem Dev.setLive_prbs (d : Dev) (a mask : Nat) (on : Bool) : (d.setLive a mask on).prbs = d.prbs := rfl
@[simp] theorem Dev.setLive_landings (d : Dev) (a mask : Nat) (on : Bool) : (d.setLive a mask on).landings = d.landings := rfl
@[simp] theorem Dev.setLive_caps (d : Dev) (a mask : Nat) (on : Bool) : (d.setLive a mask on).caps = d.caps := rfl
@[simp] theorem Dev.setLive_sheds (d : Dev) (a mask : Nat) (on : Bool) : (d.setLive a mask on).sheds = d.sheds := rfl
@[simp] theorem Dev.setLive_progs (d : Dev) (a mask : Nat) (on : Bool) : (d.setLive a mask on).progs = d.progs := rfl
@[simp] theorem Dev.setLive_notices (d : Dev) (a mask : Nat) (on : Bool) : (d.setLive a mask on).notices = d.notices := rfl
@[simp] theorem Dev.setLive_refSlots (d : Dev) (a mask : Nat) (on : Bool) : (d.setLive a mask on).refSlots = d.refSlots := rfl
@[simp] theorem Dev.setLive_slotFac (d : Dev) (a mask : Nat) (on : Bool) : (d.setLive a mask on).slotFac = d.slotFac := rfl
@[simp] theorem Dev.setLive_slotClaim (d : Dev) (a mask : Nat) (on : Bool) : (d.setLive a mask on).slotClaim = d.slotClaim := rfl
@[simp] theorem Dev.setLive_slotWaits (d : Dev) (a mask : Nat) (on : Bool) : (d.setLive a mask on).slotWaits = d.slotWaits := rfl
@[simp] theorem Dev.setLive_ov3At (d : Dev) (a mask : Nat) (on : Bool) : (d.setLive a mask on).ov3At = d.ov3At := rfl
@[simp] theorem Dev.setLive_ov3SelAt (d : Dev) (a mask : Nat) (on : Bool) : (d.setLive a mask on).ov3SelAt = d.ov3SelAt := rfl
@[simp] theorem Dev.setLive_uvOn (d : Dev) (a mask : Nat) (on : Bool) : (d.setLive a mask on).uvOn = d.uvOn := rfl
@[simp] theorem Dev.setLive_uvSince (d : Dev) (a mask : Nat) (on : Bool) : (d.setLive a mask on).uvSince = d.uvSince := rfl
@[simp] theorem Dev.setLive_hsl (d : Dev) (a mask : Nat) (on : Bool) : (d.setLive a mask on).hsl = d.hsl := rfl
@[simp] theorem Dev.setLive_schs (d : Dev) (a mask : Nat) (on : Bool) : (d.setLive a mask on).schs = d.schs := rfl
@[simp] theorem Dev.setLive_lowRails (d : Dev) (a mask : Nat) (on : Bool) : (d.setLive a mask on).lowRails = d.lowRails := rfl
@[simp] theorem Dev.setLive_railsOut (d : Dev) (a mask : Nat) (on : Bool) : (d.setLive a mask on).railsOut = d.railsOut := rfl
@[simp] theorem Dev.setLive_vault (d : Dev) (a mask : Nat) (on : Bool) : (d.setLive a mask on).vault = d.vault := rfl
@[simp] theorem Dev.setLive_cellar (d : Dev) (a mask : Nat) (on : Bool) : (d.setLive a mask on).cellar = d.cellar := rfl
@[simp] theorem Dev.setLive_tags (d : Dev) (a mask : Nat) (on : Bool) : (d.setLive a mask on).tags = d.tags := rfl
@[simp] theorem Dev.setLive_binds (d : Dev) (a mask : Nat) (on : Bool) : (d.setLive a mask on).binds = d.binds := rfl
@[simp] theorem Dev.setLive_rfs (d : Dev) (a mask : Nat) (on : Bool) : (d.setLive a mask on).rfs = d.rfs := rfl
@[simp] theorem Dev.setLive_nvs (d : Dev) (a mask : Nat) (on : Bool) : (d.setLive a mask on).nvs = d.nvs := rfl
@[simp] theorem Dev.setLive_linkq (d : Dev) (a mask : Nat) (on : Bool) : (d.setLive a mask on).linkq = d.linkq := rfl
@[simp] theorem Dev.setLive_wire (d : Dev) (a mask : Nat) (on : Bool) : (d.setLive a mask on).wire = d.wire := rfl
@[simp] theorem Dev.setLive_axls (d : Dev) (a mask : Nat) (on : Bool) : (d.setLive a mask on).axls = d.axls := rfl
@[simp] theorem Dev.setLive_slotK (d : Dev) (a mask : Nat) (on : Bool) : (d.setLive a mask on).slotK = d.slotK := rfl
@[simp] theorem Dev.setLive_ports (d : Dev) (a mask : Nat) (on : Bool) : (d.setLive a mask on).ports = d.ports := rfl
@[simp] theorem Dev.setLive_mtbs (d : Dev) (a mask : Nat) (on : Bool) : (d.setLive a mask on).mtbs = d.mtbs := rfl
@[simp] theorem Dev.setLive_racks (d : Dev) (a mask : Nat) (on : Bool) : (d.setLive a mask on).racks = d.racks := rfl
@[simp] theorem Dev.setLive_copies (d : Dev) (a mask : Nat) (on : Bool) : (d.setLive a mask on).copies = d.copies := rfl
@[simp] theorem Dev.setLive_trimmed (d : Dev) (a mask : Nat) (on : Bool) : (d.setLive a mask on).trimmed = d.trimmed := rfl
@[simp] theorem Dev.setLive_nvsq (d : Dev) (a mask : Nat) (on : Bool) : (d.setLive a mask on).nvsq = d.nvsq := rfl
@[simp] theorem Dev.setLive_nvsBad (d : Dev) (a mask : Nat) (on : Bool) : (d.setLive a mask on).nvsBad = d.nvsBad := rfl
@[simp] theorem Dev.setLive_slotOk (d : Dev) (a mask : Nat) (on : Bool) : (d.setLive a mask on).slotOk = d.slotOk := rfl
@[simp] theorem Dev.setLive_indAt (d : Dev) (a mask : Nat) (on : Bool) : (d.setLive a mask on).indAt = d.indAt := rfl
@[simp] theorem Dev.setLive_indUse (d : Dev) (a mask : Nat) (on : Bool) : (d.setLive a mask on).indUse = d.indUse := rfl
@[simp] theorem Dev.setLive_indGot (d : Dev) (a mask : Nat) (on : Bool) : (d.setLive a mask on).indGot = d.indGot := rfl
@[simp] theorem Dev.setLive_snapAt (d : Dev) (a mask : Nat) (on : Bool) : (d.setLive a mask on).snapAt = d.snapAt := rfl
@[simp] theorem Dev.setLive_fab (d : Dev) (a mask : Nat) (on : Bool) : (d.setLive a mask on).fab = d.fab := rfl
@[simp] theorem Dev.setLive_chipAt (d : Dev) (a mask : Nat) (on : Bool) : (d.setLive a mask on).chipAt = d.chipAt := rfl
@[simp] theorem Dev.setLive_patrol (d : Dev) (a mask : Nat) (on : Bool) : (d.setLive a mask on).patrol = d.patrol := rfl
@[simp] theorem Dev.setLive_scrubAt (d : Dev) (a mask : Nat) (on : Bool) : (d.setLive a mask on).scrubAt = d.scrubAt := rfl
@[simp] theorem Dev.setLive_patrolAt (d : Dev) (a mask : Nat) (on : Bool) : (d.setLive a mask on).patrolAt = d.patrolAt := rfl
@[simp] theorem Dev.setLive_nvsAt (d : Dev) (a mask : Nat) (on : Bool) : (d.setLive a mask on).nvsAt = d.nvsAt := rfl
@[simp] theorem Dev.setLive_loadRes (d : Dev) (a mask : Nat) (on : Bool) : (d.setLive a mask on).loadRes = d.loadRes := rfl
@[simp] theorem Dev.setLive_dueAt (d : Dev) (a mask : Nat) (on : Bool) : (d.setLive a mask on).dueAt = d.dueAt := rfl

/-! ### setCap -/

@[simp] theorem Dev.setCap_now (d : Dev) (r : Nat) (x : CapUnit) : (d.setCap r x).now = d.now := rfl
@[simp] theorem Dev.setCap_net (d : Dev) (r : Nat) (x : CapUnit) : (d.setCap r x).net = d.net := rfl
@[simp] theorem Dev.setCap_regs (d : Dev) (r : Nat) (x : CapUnit) : (d.setCap r x).regs = d.regs := rfl
@[simp] theorem Dev.setCap_inforce (d : Dev) (r : Nat) (x : CapUnit) : (d.setCap r x).inforce = d.inforce := rfl
@[simp] theorem Dev.setCap_snaps (d : Dev) (r : Nat) (x : CapUnit) : (d.setCap r x).snaps = d.snaps := rfl
@[simp] theorem Dev.setCap_ind (d : Dev) (r : Nat) (x : CapUnit) : (d.setCap r x).ind = d.ind := rfl
@[simp] theorem Dev.setCap_live (d : Dev) (r : Nat) (x : CapUnit) : (d.setCap r x).live = d.live := rfl
@[simp] theorem Dev.setCap_mem (d : Dev) (r : Nat) (x : CapUnit) : (d.setCap r x).mem = d.mem := rfl
@[simp] theorem Dev.setCap_bad (d : Dev) (r : Nat) (x : CapUnit) : (d.setCap r x).bad = d.bad := rfl
@[simp] theorem Dev.setCap_intakeOld (d : Dev) (r : Nat) (x : CapUnit) : (d.setCap r x).intakeOld = d.intakeOld := rfl
@[simp] theorem Dev.setCap_lanes (d : Dev) (r : Nat) (x : CapUnit) : (d.setCap r x).lanes = d.lanes := rfl
@[simp] theorem Dev.setCap_legs (d : Dev) (r : Nat) (x : CapUnit) : (d.setCap r x).legs = d.legs := rfl
@[simp] theorem Dev.setCap_units (d : Dev) (r : Nat) (x : CapUnit) : (d.setCap r x).units = d.units := rfl
@[simp] theorem Dev.setCap_chReady (d : Dev) (r : Nat) (x : CapUnit) : (d.setCap r x).chReady = d.chReady := rfl
@[simp] theorem Dev.setCap_portAt (d : Dev) (r : Nat) (x : CapUnit) : (d.setCap r x).portAt = d.portAt := rfl
@[simp] theorem Dev.setCap_portDma (d : Dev) (r : Nat) (x : CapUnit) : (d.setCap r x).portDma = d.portDma := rfl
@[simp] theorem Dev.setCap_laneRoutes (d : Dev) (r : Nat) (x : CapUnit) : (d.setCap r x).laneRoutes = d.laneRoutes := rfl
@[simp] theorem Dev.setCap_stage (d : Dev) (r : Nat) (x : CapUnit) : (d.setCap r x).stage = d.stage := rfl
@[simp] theorem Dev.setCap_regs0 (d : Dev) (r : Nat) (x : CapUnit) : (d.setCap r x).regs0 = d.regs0 := rfl
@[simp] theorem Dev.setCap_regsHsl (d : Dev) (r : Nat) (x : CapUnit) : (d.setCap r x).regsHsl = d.regsHsl := rfl
@[simp] theorem Dev.setCap_setAt (d : Dev) (r : Nat) (x : CapUnit) : (d.setCap r x).setAt = d.setAt := rfl
@[simp] theorem Dev.setCap_setBits (d : Dev) (r : Nat) (x : CapUnit) : (d.setCap r x).setBits = d.setBits := rfl
@[simp] theorem Dev.setCap_causeAt (d : Dev) (r : Nat) (x : CapUnit) : (d.setCap r x).causeAt = d.causeAt := rfl
@[simp] theorem Dev.setCap_resp (d : Dev) (r : Nat) (x : CapUnit) : (d.setCap r x).resp = d.resp := rfl
@[simp] theorem Dev.setCap_respErr (d : Dev) (r : Nat) (x : CapUnit) : (d.setCap r x).respErr = d.respErr := rfl
@[simp] theorem Dev.setCap_free (d : Dev) (r : Nat) (x : CapUnit) : (d.setCap r x).free = d.free := rfl
@[simp] theorem Dev.setCap_dma (d : Dev) (r : Nat) (x : CapUnit) : (d.setCap r x).dma = d.dma := rfl
@[simp] theorem Dev.setCap_pairWait (d : Dev) (r : Nat) (x : CapUnit) : (d.setCap r x).pairWait = d.pairWait := rfl
@[simp] theorem Dev.setCap_pairReset (d : Dev) (r : Nat) (x : CapUnit) : (d.setCap r x).pairReset = d.pairReset := rfl
@[simp] theorem Dev.setCap_correctedAt (d : Dev) (r : Nat) (x : CapUnit) : (d.setCap r x).correctedAt = d.correctedAt := rfl
@[simp] theorem Dev.setCap_trl (d : Dev) (r : Nat) (x : CapUnit) : (d.setCap r x).trl = d.trl := rfl
@[simp] theorem Dev.setCap_seqs (d : Dev) (r : Nat) (x : CapUnit) : (d.setCap r x).seqs = d.seqs := rfl
@[simp] theorem Dev.setCap_convs (d : Dev) (r : Nat) (x : CapUnit) : (d.setCap r x).convs = d.convs := rfl
@[simp] theorem Dev.setCap_sds (d : Dev) (r : Nat) (x : CapUnit) : (d.setCap r x).sds = d.sds := rfl
@[simp] theorem Dev.setCap_dacAt (d : Dev) (r : Nat) (x : CapUnit) : (d.setCap r x).dacAt = d.dacAt := rfl
@[simp] theorem Dev.setCap_rbBad (d : Dev) (r : Nat) (x : CapUnit) : (d.setCap r x).rbBad = d.rbBad := rfl
@[simp] theorem Dev.setCap_pins (d : Dev) (r : Nat) (x : CapUnit) : (d.setCap r x).pins = d.pins := rfl
@[simp] theorem Dev.setCap_raws (d : Dev) (r : Nat) (x : CapUnit) : (d.setCap r x).raws = d.raws := rfl
@[simp] theorem Dev.setCap_rawAt (d : Dev) (r : Nat) (x : CapUnit) : (d.setCap r x).rawAt = d.rawAt := rfl
@[simp] theorem Dev.setCap_passAt (d : Dev) (r : Nat) (x : CapUnit) : (d.setCap r x).passAt = d.passAt := rfl
@[simp] theorem Dev.setCap_condNext (d : Dev) (r : Nat) (x : CapUnit) : (d.setCap r x).condNext = d.condNext := rfl
@[simp] theorem Dev.setCap_fbs (d : Dev) (r : Nat) (x : CapUnit) : (d.setCap r x).fbs = d.fbs := rfl
@[simp] theorem Dev.setCap_prbs (d : Dev) (r : Nat) (x : CapUnit) : (d.setCap r x).prbs = d.prbs := rfl
@[simp] theorem Dev.setCap_landings (d : Dev) (r : Nat) (x : CapUnit) : (d.setCap r x).landings = d.landings := rfl
@[simp] theorem Dev.setCap_sheds (d : Dev) (r : Nat) (x : CapUnit) : (d.setCap r x).sheds = d.sheds := rfl
@[simp] theorem Dev.setCap_progs (d : Dev) (r : Nat) (x : CapUnit) : (d.setCap r x).progs = d.progs := rfl
@[simp] theorem Dev.setCap_notices (d : Dev) (r : Nat) (x : CapUnit) : (d.setCap r x).notices = d.notices := rfl
@[simp] theorem Dev.setCap_refSlots (d : Dev) (r : Nat) (x : CapUnit) : (d.setCap r x).refSlots = d.refSlots := rfl
@[simp] theorem Dev.setCap_slotFac (d : Dev) (r : Nat) (x : CapUnit) : (d.setCap r x).slotFac = d.slotFac := rfl
@[simp] theorem Dev.setCap_slotClaim (d : Dev) (r : Nat) (x : CapUnit) : (d.setCap r x).slotClaim = d.slotClaim := rfl
@[simp] theorem Dev.setCap_slotWaits (d : Dev) (r : Nat) (x : CapUnit) : (d.setCap r x).slotWaits = d.slotWaits := rfl
@[simp] theorem Dev.setCap_ov3At (d : Dev) (r : Nat) (x : CapUnit) : (d.setCap r x).ov3At = d.ov3At := rfl
@[simp] theorem Dev.setCap_ov3SelAt (d : Dev) (r : Nat) (x : CapUnit) : (d.setCap r x).ov3SelAt = d.ov3SelAt := rfl
@[simp] theorem Dev.setCap_uvOn (d : Dev) (r : Nat) (x : CapUnit) : (d.setCap r x).uvOn = d.uvOn := rfl
@[simp] theorem Dev.setCap_uvSince (d : Dev) (r : Nat) (x : CapUnit) : (d.setCap r x).uvSince = d.uvSince := rfl
@[simp] theorem Dev.setCap_hsl (d : Dev) (r : Nat) (x : CapUnit) : (d.setCap r x).hsl = d.hsl := rfl
@[simp] theorem Dev.setCap_schs (d : Dev) (r : Nat) (x : CapUnit) : (d.setCap r x).schs = d.schs := rfl
@[simp] theorem Dev.setCap_lowRails (d : Dev) (r : Nat) (x : CapUnit) : (d.setCap r x).lowRails = d.lowRails := rfl
@[simp] theorem Dev.setCap_railsOut (d : Dev) (r : Nat) (x : CapUnit) : (d.setCap r x).railsOut = d.railsOut := rfl
@[simp] theorem Dev.setCap_vault (d : Dev) (r : Nat) (x : CapUnit) : (d.setCap r x).vault = d.vault := rfl
@[simp] theorem Dev.setCap_cellar (d : Dev) (r : Nat) (x : CapUnit) : (d.setCap r x).cellar = d.cellar := rfl
@[simp] theorem Dev.setCap_tags (d : Dev) (r : Nat) (x : CapUnit) : (d.setCap r x).tags = d.tags := rfl
@[simp] theorem Dev.setCap_binds (d : Dev) (r : Nat) (x : CapUnit) : (d.setCap r x).binds = d.binds := rfl
@[simp] theorem Dev.setCap_rfs (d : Dev) (r : Nat) (x : CapUnit) : (d.setCap r x).rfs = d.rfs := rfl
@[simp] theorem Dev.setCap_nvs (d : Dev) (r : Nat) (x : CapUnit) : (d.setCap r x).nvs = d.nvs := rfl
@[simp] theorem Dev.setCap_linkq (d : Dev) (r : Nat) (x : CapUnit) : (d.setCap r x).linkq = d.linkq := rfl
@[simp] theorem Dev.setCap_wire (d : Dev) (r : Nat) (x : CapUnit) : (d.setCap r x).wire = d.wire := rfl
@[simp] theorem Dev.setCap_axls (d : Dev) (r : Nat) (x : CapUnit) : (d.setCap r x).axls = d.axls := rfl
@[simp] theorem Dev.setCap_slotK (d : Dev) (r : Nat) (x : CapUnit) : (d.setCap r x).slotK = d.slotK := rfl
@[simp] theorem Dev.setCap_ports (d : Dev) (r : Nat) (x : CapUnit) : (d.setCap r x).ports = d.ports := rfl
@[simp] theorem Dev.setCap_mtbs (d : Dev) (r : Nat) (x : CapUnit) : (d.setCap r x).mtbs = d.mtbs := rfl
@[simp] theorem Dev.setCap_racks (d : Dev) (r : Nat) (x : CapUnit) : (d.setCap r x).racks = d.racks := rfl
@[simp] theorem Dev.setCap_copies (d : Dev) (r : Nat) (x : CapUnit) : (d.setCap r x).copies = d.copies := rfl
@[simp] theorem Dev.setCap_trimmed (d : Dev) (r : Nat) (x : CapUnit) : (d.setCap r x).trimmed = d.trimmed := rfl
@[simp] theorem Dev.setCap_nvsq (d : Dev) (r : Nat) (x : CapUnit) : (d.setCap r x).nvsq = d.nvsq := rfl
@[simp] theorem Dev.setCap_nvsBad (d : Dev) (r : Nat) (x : CapUnit) : (d.setCap r x).nvsBad = d.nvsBad := rfl
@[simp] theorem Dev.setCap_slotOk (d : Dev) (r : Nat) (x : CapUnit) : (d.setCap r x).slotOk = d.slotOk := rfl
@[simp] theorem Dev.setCap_indAt (d : Dev) (r : Nat) (x : CapUnit) : (d.setCap r x).indAt = d.indAt := rfl
@[simp] theorem Dev.setCap_indUse (d : Dev) (r : Nat) (x : CapUnit) : (d.setCap r x).indUse = d.indUse := rfl
@[simp] theorem Dev.setCap_indGot (d : Dev) (r : Nat) (x : CapUnit) : (d.setCap r x).indGot = d.indGot := rfl
@[simp] theorem Dev.setCap_snapAt (d : Dev) (r : Nat) (x : CapUnit) : (d.setCap r x).snapAt = d.snapAt := rfl
@[simp] theorem Dev.setCap_fab (d : Dev) (r : Nat) (x : CapUnit) : (d.setCap r x).fab = d.fab := rfl
@[simp] theorem Dev.setCap_chipAt (d : Dev) (r : Nat) (x : CapUnit) : (d.setCap r x).chipAt = d.chipAt := rfl
@[simp] theorem Dev.setCap_patrol (d : Dev) (r : Nat) (x : CapUnit) : (d.setCap r x).patrol = d.patrol := rfl
@[simp] theorem Dev.setCap_scrubAt (d : Dev) (r : Nat) (x : CapUnit) : (d.setCap r x).scrubAt = d.scrubAt := rfl
@[simp] theorem Dev.setCap_patrolAt (d : Dev) (r : Nat) (x : CapUnit) : (d.setCap r x).patrolAt = d.patrolAt := rfl
@[simp] theorem Dev.setCap_nvsAt (d : Dev) (r : Nat) (x : CapUnit) : (d.setCap r x).nvsAt = d.nvsAt := rfl
@[simp] theorem Dev.setCap_loadRes (d : Dev) (r : Nat) (x : CapUnit) : (d.setCap r x).loadRes = d.loadRes := rfl
@[simp] theorem Dev.setCap_dueAt (d : Dev) (r : Nat) (x : CapUnit) : (d.setCap r x).dueAt = d.dueAt := rfl

/-! ### setRack -/

@[simp] theorem Dev.setRack_now (d : Dev) (r : Nat) (x : Rack) : (d.setRack r x).now = d.now := rfl
@[simp] theorem Dev.setRack_net (d : Dev) (r : Nat) (x : Rack) : (d.setRack r x).net = d.net := rfl
@[simp] theorem Dev.setRack_regs (d : Dev) (r : Nat) (x : Rack) : (d.setRack r x).regs = d.regs := rfl
@[simp] theorem Dev.setRack_inforce (d : Dev) (r : Nat) (x : Rack) : (d.setRack r x).inforce = d.inforce := rfl
@[simp] theorem Dev.setRack_snaps (d : Dev) (r : Nat) (x : Rack) : (d.setRack r x).snaps = d.snaps := rfl
@[simp] theorem Dev.setRack_ind (d : Dev) (r : Nat) (x : Rack) : (d.setRack r x).ind = d.ind := rfl
@[simp] theorem Dev.setRack_live (d : Dev) (r : Nat) (x : Rack) : (d.setRack r x).live = d.live := rfl
@[simp] theorem Dev.setRack_mem (d : Dev) (r : Nat) (x : Rack) : (d.setRack r x).mem = d.mem := rfl
@[simp] theorem Dev.setRack_bad (d : Dev) (r : Nat) (x : Rack) : (d.setRack r x).bad = d.bad := rfl
@[simp] theorem Dev.setRack_intakeOld (d : Dev) (r : Nat) (x : Rack) : (d.setRack r x).intakeOld = d.intakeOld := rfl
@[simp] theorem Dev.setRack_lanes (d : Dev) (r : Nat) (x : Rack) : (d.setRack r x).lanes = d.lanes := rfl
@[simp] theorem Dev.setRack_legs (d : Dev) (r : Nat) (x : Rack) : (d.setRack r x).legs = d.legs := rfl
@[simp] theorem Dev.setRack_units (d : Dev) (r : Nat) (x : Rack) : (d.setRack r x).units = d.units := rfl
@[simp] theorem Dev.setRack_chReady (d : Dev) (r : Nat) (x : Rack) : (d.setRack r x).chReady = d.chReady := rfl
@[simp] theorem Dev.setRack_portAt (d : Dev) (r : Nat) (x : Rack) : (d.setRack r x).portAt = d.portAt := rfl
@[simp] theorem Dev.setRack_portDma (d : Dev) (r : Nat) (x : Rack) : (d.setRack r x).portDma = d.portDma := rfl
@[simp] theorem Dev.setRack_laneRoutes (d : Dev) (r : Nat) (x : Rack) : (d.setRack r x).laneRoutes = d.laneRoutes := rfl
@[simp] theorem Dev.setRack_stage (d : Dev) (r : Nat) (x : Rack) : (d.setRack r x).stage = d.stage := rfl
@[simp] theorem Dev.setRack_regs0 (d : Dev) (r : Nat) (x : Rack) : (d.setRack r x).regs0 = d.regs0 := rfl
@[simp] theorem Dev.setRack_regsHsl (d : Dev) (r : Nat) (x : Rack) : (d.setRack r x).regsHsl = d.regsHsl := rfl
@[simp] theorem Dev.setRack_setAt (d : Dev) (r : Nat) (x : Rack) : (d.setRack r x).setAt = d.setAt := rfl
@[simp] theorem Dev.setRack_setBits (d : Dev) (r : Nat) (x : Rack) : (d.setRack r x).setBits = d.setBits := rfl
@[simp] theorem Dev.setRack_causeAt (d : Dev) (r : Nat) (x : Rack) : (d.setRack r x).causeAt = d.causeAt := rfl
@[simp] theorem Dev.setRack_resp (d : Dev) (r : Nat) (x : Rack) : (d.setRack r x).resp = d.resp := rfl
@[simp] theorem Dev.setRack_respErr (d : Dev) (r : Nat) (x : Rack) : (d.setRack r x).respErr = d.respErr := rfl
@[simp] theorem Dev.setRack_free (d : Dev) (r : Nat) (x : Rack) : (d.setRack r x).free = d.free := rfl
@[simp] theorem Dev.setRack_dma (d : Dev) (r : Nat) (x : Rack) : (d.setRack r x).dma = d.dma := rfl
@[simp] theorem Dev.setRack_pairWait (d : Dev) (r : Nat) (x : Rack) : (d.setRack r x).pairWait = d.pairWait := rfl
@[simp] theorem Dev.setRack_pairReset (d : Dev) (r : Nat) (x : Rack) : (d.setRack r x).pairReset = d.pairReset := rfl
@[simp] theorem Dev.setRack_correctedAt (d : Dev) (r : Nat) (x : Rack) : (d.setRack r x).correctedAt = d.correctedAt := rfl
@[simp] theorem Dev.setRack_trl (d : Dev) (r : Nat) (x : Rack) : (d.setRack r x).trl = d.trl := rfl
@[simp] theorem Dev.setRack_seqs (d : Dev) (r : Nat) (x : Rack) : (d.setRack r x).seqs = d.seqs := rfl
@[simp] theorem Dev.setRack_convs (d : Dev) (r : Nat) (x : Rack) : (d.setRack r x).convs = d.convs := rfl
@[simp] theorem Dev.setRack_sds (d : Dev) (r : Nat) (x : Rack) : (d.setRack r x).sds = d.sds := rfl
@[simp] theorem Dev.setRack_dacAt (d : Dev) (r : Nat) (x : Rack) : (d.setRack r x).dacAt = d.dacAt := rfl
@[simp] theorem Dev.setRack_rbBad (d : Dev) (r : Nat) (x : Rack) : (d.setRack r x).rbBad = d.rbBad := rfl
@[simp] theorem Dev.setRack_pins (d : Dev) (r : Nat) (x : Rack) : (d.setRack r x).pins = d.pins := rfl
@[simp] theorem Dev.setRack_raws (d : Dev) (r : Nat) (x : Rack) : (d.setRack r x).raws = d.raws := rfl
@[simp] theorem Dev.setRack_rawAt (d : Dev) (r : Nat) (x : Rack) : (d.setRack r x).rawAt = d.rawAt := rfl
@[simp] theorem Dev.setRack_passAt (d : Dev) (r : Nat) (x : Rack) : (d.setRack r x).passAt = d.passAt := rfl
@[simp] theorem Dev.setRack_condNext (d : Dev) (r : Nat) (x : Rack) : (d.setRack r x).condNext = d.condNext := rfl
@[simp] theorem Dev.setRack_fbs (d : Dev) (r : Nat) (x : Rack) : (d.setRack r x).fbs = d.fbs := rfl
@[simp] theorem Dev.setRack_prbs (d : Dev) (r : Nat) (x : Rack) : (d.setRack r x).prbs = d.prbs := rfl
@[simp] theorem Dev.setRack_landings (d : Dev) (r : Nat) (x : Rack) : (d.setRack r x).landings = d.landings := rfl
@[simp] theorem Dev.setRack_caps (d : Dev) (r : Nat) (x : Rack) : (d.setRack r x).caps = d.caps := rfl
@[simp] theorem Dev.setRack_sheds (d : Dev) (r : Nat) (x : Rack) : (d.setRack r x).sheds = d.sheds := rfl
@[simp] theorem Dev.setRack_progs (d : Dev) (r : Nat) (x : Rack) : (d.setRack r x).progs = d.progs := rfl
@[simp] theorem Dev.setRack_notices (d : Dev) (r : Nat) (x : Rack) : (d.setRack r x).notices = d.notices := rfl
@[simp] theorem Dev.setRack_refSlots (d : Dev) (r : Nat) (x : Rack) : (d.setRack r x).refSlots = d.refSlots := rfl
@[simp] theorem Dev.setRack_slotFac (d : Dev) (r : Nat) (x : Rack) : (d.setRack r x).slotFac = d.slotFac := rfl
@[simp] theorem Dev.setRack_slotClaim (d : Dev) (r : Nat) (x : Rack) : (d.setRack r x).slotClaim = d.slotClaim := rfl
@[simp] theorem Dev.setRack_slotWaits (d : Dev) (r : Nat) (x : Rack) : (d.setRack r x).slotWaits = d.slotWaits := rfl
@[simp] theorem Dev.setRack_ov3At (d : Dev) (r : Nat) (x : Rack) : (d.setRack r x).ov3At = d.ov3At := rfl
@[simp] theorem Dev.setRack_ov3SelAt (d : Dev) (r : Nat) (x : Rack) : (d.setRack r x).ov3SelAt = d.ov3SelAt := rfl
@[simp] theorem Dev.setRack_uvOn (d : Dev) (r : Nat) (x : Rack) : (d.setRack r x).uvOn = d.uvOn := rfl
@[simp] theorem Dev.setRack_uvSince (d : Dev) (r : Nat) (x : Rack) : (d.setRack r x).uvSince = d.uvSince := rfl
@[simp] theorem Dev.setRack_hsl (d : Dev) (r : Nat) (x : Rack) : (d.setRack r x).hsl = d.hsl := rfl
@[simp] theorem Dev.setRack_schs (d : Dev) (r : Nat) (x : Rack) : (d.setRack r x).schs = d.schs := rfl
@[simp] theorem Dev.setRack_lowRails (d : Dev) (r : Nat) (x : Rack) : (d.setRack r x).lowRails = d.lowRails := rfl
@[simp] theorem Dev.setRack_railsOut (d : Dev) (r : Nat) (x : Rack) : (d.setRack r x).railsOut = d.railsOut := rfl
@[simp] theorem Dev.setRack_vault (d : Dev) (r : Nat) (x : Rack) : (d.setRack r x).vault = d.vault := rfl
@[simp] theorem Dev.setRack_cellar (d : Dev) (r : Nat) (x : Rack) : (d.setRack r x).cellar = d.cellar := rfl
@[simp] theorem Dev.setRack_tags (d : Dev) (r : Nat) (x : Rack) : (d.setRack r x).tags = d.tags := rfl
@[simp] theorem Dev.setRack_binds (d : Dev) (r : Nat) (x : Rack) : (d.setRack r x).binds = d.binds := rfl
@[simp] theorem Dev.setRack_rfs (d : Dev) (r : Nat) (x : Rack) : (d.setRack r x).rfs = d.rfs := rfl
@[simp] theorem Dev.setRack_nvs (d : Dev) (r : Nat) (x : Rack) : (d.setRack r x).nvs = d.nvs := rfl
@[simp] theorem Dev.setRack_linkq (d : Dev) (r : Nat) (x : Rack) : (d.setRack r x).linkq = d.linkq := rfl
@[simp] theorem Dev.setRack_wire (d : Dev) (r : Nat) (x : Rack) : (d.setRack r x).wire = d.wire := rfl
@[simp] theorem Dev.setRack_axls (d : Dev) (r : Nat) (x : Rack) : (d.setRack r x).axls = d.axls := rfl
@[simp] theorem Dev.setRack_slotK (d : Dev) (r : Nat) (x : Rack) : (d.setRack r x).slotK = d.slotK := rfl
@[simp] theorem Dev.setRack_ports (d : Dev) (r : Nat) (x : Rack) : (d.setRack r x).ports = d.ports := rfl
@[simp] theorem Dev.setRack_mtbs (d : Dev) (r : Nat) (x : Rack) : (d.setRack r x).mtbs = d.mtbs := rfl
@[simp] theorem Dev.setRack_copies (d : Dev) (r : Nat) (x : Rack) : (d.setRack r x).copies = d.copies := rfl
@[simp] theorem Dev.setRack_trimmed (d : Dev) (r : Nat) (x : Rack) : (d.setRack r x).trimmed = d.trimmed := rfl
@[simp] theorem Dev.setRack_nvsq (d : Dev) (r : Nat) (x : Rack) : (d.setRack r x).nvsq = d.nvsq := rfl
@[simp] theorem Dev.setRack_nvsBad (d : Dev) (r : Nat) (x : Rack) : (d.setRack r x).nvsBad = d.nvsBad := rfl
@[simp] theorem Dev.setRack_slotOk (d : Dev) (r : Nat) (x : Rack) : (d.setRack r x).slotOk = d.slotOk := rfl
@[simp] theorem Dev.setRack_indAt (d : Dev) (r : Nat) (x : Rack) : (d.setRack r x).indAt = d.indAt := rfl
@[simp] theorem Dev.setRack_indUse (d : Dev) (r : Nat) (x : Rack) : (d.setRack r x).indUse = d.indUse := rfl
@[simp] theorem Dev.setRack_indGot (d : Dev) (r : Nat) (x : Rack) : (d.setRack r x).indGot = d.indGot := rfl
@[simp] theorem Dev.setRack_snapAt (d : Dev) (r : Nat) (x : Rack) : (d.setRack r x).snapAt = d.snapAt := rfl
@[simp] theorem Dev.setRack_fab (d : Dev) (r : Nat) (x : Rack) : (d.setRack r x).fab = d.fab := rfl
@[simp] theorem Dev.setRack_chipAt (d : Dev) (r : Nat) (x : Rack) : (d.setRack r x).chipAt = d.chipAt := rfl
@[simp] theorem Dev.setRack_patrol (d : Dev) (r : Nat) (x : Rack) : (d.setRack r x).patrol = d.patrol := rfl
@[simp] theorem Dev.setRack_scrubAt (d : Dev) (r : Nat) (x : Rack) : (d.setRack r x).scrubAt = d.scrubAt := rfl
@[simp] theorem Dev.setRack_patrolAt (d : Dev) (r : Nat) (x : Rack) : (d.setRack r x).patrolAt = d.patrolAt := rfl
@[simp] theorem Dev.setRack_nvsAt (d : Dev) (r : Nat) (x : Rack) : (d.setRack r x).nvsAt = d.nvsAt := rfl
@[simp] theorem Dev.setRack_loadRes (d : Dev) (r : Nat) (x : Rack) : (d.setRack r x).loadRes = d.loadRes := rfl
@[simp] theorem Dev.setRack_dueAt (d : Dev) (r : Nat) (x : Rack) : (d.setRack r x).dueAt = d.dueAt := rfl

/-! ### noteSet -/

@[simp] theorem Dev.noteSet_now (d : Dev) (a v : Nat) : (d.noteSet a v).now = d.now := rfl
@[simp] theorem Dev.noteSet_net (d : Dev) (a v : Nat) : (d.noteSet a v).net = d.net := rfl
@[simp] theorem Dev.noteSet_regs (d : Dev) (a v : Nat) : (d.noteSet a v).regs = d.regs := rfl
@[simp] theorem Dev.noteSet_inforce (d : Dev) (a v : Nat) : (d.noteSet a v).inforce = d.inforce := rfl
@[simp] theorem Dev.noteSet_snaps (d : Dev) (a v : Nat) : (d.noteSet a v).snaps = d.snaps := rfl
@[simp] theorem Dev.noteSet_ind (d : Dev) (a v : Nat) : (d.noteSet a v).ind = d.ind := rfl
@[simp] theorem Dev.noteSet_live (d : Dev) (a v : Nat) : (d.noteSet a v).live = d.live := rfl
@[simp] theorem Dev.noteSet_mem (d : Dev) (a v : Nat) : (d.noteSet a v).mem = d.mem := rfl
@[simp] theorem Dev.noteSet_bad (d : Dev) (a v : Nat) : (d.noteSet a v).bad = d.bad := rfl
@[simp] theorem Dev.noteSet_intakeOld (d : Dev) (a v : Nat) : (d.noteSet a v).intakeOld = d.intakeOld := rfl
@[simp] theorem Dev.noteSet_lanes (d : Dev) (a v : Nat) : (d.noteSet a v).lanes = d.lanes := rfl
@[simp] theorem Dev.noteSet_legs (d : Dev) (a v : Nat) : (d.noteSet a v).legs = d.legs := rfl
@[simp] theorem Dev.noteSet_units (d : Dev) (a v : Nat) : (d.noteSet a v).units = d.units := rfl
@[simp] theorem Dev.noteSet_chReady (d : Dev) (a v : Nat) : (d.noteSet a v).chReady = d.chReady := rfl
@[simp] theorem Dev.noteSet_portAt (d : Dev) (a v : Nat) : (d.noteSet a v).portAt = d.portAt := rfl
@[simp] theorem Dev.noteSet_portDma (d : Dev) (a v : Nat) : (d.noteSet a v).portDma = d.portDma := rfl
@[simp] theorem Dev.noteSet_laneRoutes (d : Dev) (a v : Nat) : (d.noteSet a v).laneRoutes = d.laneRoutes := rfl
@[simp] theorem Dev.noteSet_stage (d : Dev) (a v : Nat) : (d.noteSet a v).stage = d.stage := rfl
@[simp] theorem Dev.noteSet_regs0 (d : Dev) (a v : Nat) : (d.noteSet a v).regs0 = d.regs0 := rfl
@[simp] theorem Dev.noteSet_regsHsl (d : Dev) (a v : Nat) : (d.noteSet a v).regsHsl = d.regsHsl := rfl
@[simp] theorem Dev.noteSet_causeAt (d : Dev) (a v : Nat) : (d.noteSet a v).causeAt = d.causeAt := rfl
@[simp] theorem Dev.noteSet_resp (d : Dev) (a v : Nat) : (d.noteSet a v).resp = d.resp := rfl
@[simp] theorem Dev.noteSet_respErr (d : Dev) (a v : Nat) : (d.noteSet a v).respErr = d.respErr := rfl
@[simp] theorem Dev.noteSet_free (d : Dev) (a v : Nat) : (d.noteSet a v).free = d.free := rfl
@[simp] theorem Dev.noteSet_dma (d : Dev) (a v : Nat) : (d.noteSet a v).dma = d.dma := rfl
@[simp] theorem Dev.noteSet_pairWait (d : Dev) (a v : Nat) : (d.noteSet a v).pairWait = d.pairWait := rfl
@[simp] theorem Dev.noteSet_pairReset (d : Dev) (a v : Nat) : (d.noteSet a v).pairReset = d.pairReset := rfl
@[simp] theorem Dev.noteSet_correctedAt (d : Dev) (a v : Nat) : (d.noteSet a v).correctedAt = d.correctedAt := rfl
@[simp] theorem Dev.noteSet_trl (d : Dev) (a v : Nat) : (d.noteSet a v).trl = d.trl := rfl
@[simp] theorem Dev.noteSet_seqs (d : Dev) (a v : Nat) : (d.noteSet a v).seqs = d.seqs := rfl
@[simp] theorem Dev.noteSet_convs (d : Dev) (a v : Nat) : (d.noteSet a v).convs = d.convs := rfl
@[simp] theorem Dev.noteSet_sds (d : Dev) (a v : Nat) : (d.noteSet a v).sds = d.sds := rfl
@[simp] theorem Dev.noteSet_dacAt (d : Dev) (a v : Nat) : (d.noteSet a v).dacAt = d.dacAt := rfl
@[simp] theorem Dev.noteSet_rbBad (d : Dev) (a v : Nat) : (d.noteSet a v).rbBad = d.rbBad := rfl
@[simp] theorem Dev.noteSet_pins (d : Dev) (a v : Nat) : (d.noteSet a v).pins = d.pins := rfl
@[simp] theorem Dev.noteSet_raws (d : Dev) (a v : Nat) : (d.noteSet a v).raws = d.raws := rfl
@[simp] theorem Dev.noteSet_rawAt (d : Dev) (a v : Nat) : (d.noteSet a v).rawAt = d.rawAt := rfl
@[simp] theorem Dev.noteSet_passAt (d : Dev) (a v : Nat) : (d.noteSet a v).passAt = d.passAt := rfl
@[simp] theorem Dev.noteSet_condNext (d : Dev) (a v : Nat) : (d.noteSet a v).condNext = d.condNext := rfl
@[simp] theorem Dev.noteSet_fbs (d : Dev) (a v : Nat) : (d.noteSet a v).fbs = d.fbs := rfl
@[simp] theorem Dev.noteSet_prbs (d : Dev) (a v : Nat) : (d.noteSet a v).prbs = d.prbs := rfl
@[simp] theorem Dev.noteSet_landings (d : Dev) (a v : Nat) : (d.noteSet a v).landings = d.landings := rfl
@[simp] theorem Dev.noteSet_caps (d : Dev) (a v : Nat) : (d.noteSet a v).caps = d.caps := rfl
@[simp] theorem Dev.noteSet_sheds (d : Dev) (a v : Nat) : (d.noteSet a v).sheds = d.sheds := rfl
@[simp] theorem Dev.noteSet_progs (d : Dev) (a v : Nat) : (d.noteSet a v).progs = d.progs := rfl
@[simp] theorem Dev.noteSet_notices (d : Dev) (a v : Nat) : (d.noteSet a v).notices = d.notices := rfl
@[simp] theorem Dev.noteSet_refSlots (d : Dev) (a v : Nat) : (d.noteSet a v).refSlots = d.refSlots := rfl
@[simp] theorem Dev.noteSet_slotFac (d : Dev) (a v : Nat) : (d.noteSet a v).slotFac = d.slotFac := rfl
@[simp] theorem Dev.noteSet_slotClaim (d : Dev) (a v : Nat) : (d.noteSet a v).slotClaim = d.slotClaim := rfl
@[simp] theorem Dev.noteSet_slotWaits (d : Dev) (a v : Nat) : (d.noteSet a v).slotWaits = d.slotWaits := rfl
@[simp] theorem Dev.noteSet_ov3At (d : Dev) (a v : Nat) : (d.noteSet a v).ov3At = d.ov3At := rfl
@[simp] theorem Dev.noteSet_ov3SelAt (d : Dev) (a v : Nat) : (d.noteSet a v).ov3SelAt = d.ov3SelAt := rfl
@[simp] theorem Dev.noteSet_uvOn (d : Dev) (a v : Nat) : (d.noteSet a v).uvOn = d.uvOn := rfl
@[simp] theorem Dev.noteSet_uvSince (d : Dev) (a v : Nat) : (d.noteSet a v).uvSince = d.uvSince := rfl
@[simp] theorem Dev.noteSet_hsl (d : Dev) (a v : Nat) : (d.noteSet a v).hsl = d.hsl := rfl
@[simp] theorem Dev.noteSet_schs (d : Dev) (a v : Nat) : (d.noteSet a v).schs = d.schs := rfl
@[simp] theorem Dev.noteSet_lowRails (d : Dev) (a v : Nat) : (d.noteSet a v).lowRails = d.lowRails := rfl
@[simp] theorem Dev.noteSet_railsOut (d : Dev) (a v : Nat) : (d.noteSet a v).railsOut = d.railsOut := rfl
@[simp] theorem Dev.noteSet_vault (d : Dev) (a v : Nat) : (d.noteSet a v).vault = d.vault := rfl
@[simp] theorem Dev.noteSet_cellar (d : Dev) (a v : Nat) : (d.noteSet a v).cellar = d.cellar := rfl
@[simp] theorem Dev.noteSet_tags (d : Dev) (a v : Nat) : (d.noteSet a v).tags = d.tags := rfl
@[simp] theorem Dev.noteSet_binds (d : Dev) (a v : Nat) : (d.noteSet a v).binds = d.binds := rfl
@[simp] theorem Dev.noteSet_rfs (d : Dev) (a v : Nat) : (d.noteSet a v).rfs = d.rfs := rfl
@[simp] theorem Dev.noteSet_nvs (d : Dev) (a v : Nat) : (d.noteSet a v).nvs = d.nvs := rfl
@[simp] theorem Dev.noteSet_linkq (d : Dev) (a v : Nat) : (d.noteSet a v).linkq = d.linkq := rfl
@[simp] theorem Dev.noteSet_wire (d : Dev) (a v : Nat) : (d.noteSet a v).wire = d.wire := rfl
@[simp] theorem Dev.noteSet_axls (d : Dev) (a v : Nat) : (d.noteSet a v).axls = d.axls := rfl
@[simp] theorem Dev.noteSet_slotK (d : Dev) (a v : Nat) : (d.noteSet a v).slotK = d.slotK := rfl
@[simp] theorem Dev.noteSet_ports (d : Dev) (a v : Nat) : (d.noteSet a v).ports = d.ports := rfl
@[simp] theorem Dev.noteSet_mtbs (d : Dev) (a v : Nat) : (d.noteSet a v).mtbs = d.mtbs := rfl
@[simp] theorem Dev.noteSet_racks (d : Dev) (a v : Nat) : (d.noteSet a v).racks = d.racks := rfl
@[simp] theorem Dev.noteSet_copies (d : Dev) (a v : Nat) : (d.noteSet a v).copies = d.copies := rfl
@[simp] theorem Dev.noteSet_trimmed (d : Dev) (a v : Nat) : (d.noteSet a v).trimmed = d.trimmed := rfl
@[simp] theorem Dev.noteSet_nvsq (d : Dev) (a v : Nat) : (d.noteSet a v).nvsq = d.nvsq := rfl
@[simp] theorem Dev.noteSet_nvsBad (d : Dev) (a v : Nat) : (d.noteSet a v).nvsBad = d.nvsBad := rfl
@[simp] theorem Dev.noteSet_slotOk (d : Dev) (a v : Nat) : (d.noteSet a v).slotOk = d.slotOk := rfl
@[simp] theorem Dev.noteSet_indAt (d : Dev) (a v : Nat) : (d.noteSet a v).indAt = d.indAt := rfl
@[simp] theorem Dev.noteSet_indUse (d : Dev) (a v : Nat) : (d.noteSet a v).indUse = d.indUse := rfl
@[simp] theorem Dev.noteSet_indGot (d : Dev) (a v : Nat) : (d.noteSet a v).indGot = d.indGot := rfl
@[simp] theorem Dev.noteSet_snapAt (d : Dev) (a v : Nat) : (d.noteSet a v).snapAt = d.snapAt := rfl
@[simp] theorem Dev.noteSet_fab (d : Dev) (a v : Nat) : (d.noteSet a v).fab = d.fab := rfl
@[simp] theorem Dev.noteSet_chipAt (d : Dev) (a v : Nat) : (d.noteSet a v).chipAt = d.chipAt := rfl
@[simp] theorem Dev.noteSet_patrol (d : Dev) (a v : Nat) : (d.noteSet a v).patrol = d.patrol := rfl
@[simp] theorem Dev.noteSet_scrubAt (d : Dev) (a v : Nat) : (d.noteSet a v).scrubAt = d.scrubAt := rfl
@[simp] theorem Dev.noteSet_patrolAt (d : Dev) (a v : Nat) : (d.noteSet a v).patrolAt = d.patrolAt := rfl
@[simp] theorem Dev.noteSet_nvsAt (d : Dev) (a v : Nat) : (d.noteSet a v).nvsAt = d.nvsAt := rfl
@[simp] theorem Dev.noteSet_loadRes (d : Dev) (a v : Nat) : (d.noteSet a v).loadRes = d.loadRes := rfl
@[simp] theorem Dev.noteSet_dueAt (d : Dev) (a v : Nat) : (d.noteSet a v).dueAt = d.dueAt := rfl

/-! ### Reading after writing -/

theorem Dev.reg_setReg (d : Dev) (a b : Nat) (w : Word) : (d.setReg a w).reg b = if b = a then w else d.reg b :=
  Store.get_set _ _ _ _ _
@[simp] theorem Dev.reg_setReg_same (d : Dev) (a : Nat) (w : Word) : (d.setReg a w).reg a = w := Store.get_set_same _ _ _ _
theorem Dev.reg_setReg_ne (d : Dev) {a b : Nat} (w : Word) (h : b ≠ a) : (d.setReg a w).reg b = d.reg b :=
  Store.get_set_ne _ _ _ h
theorem Dev.lane_setLane (d : Dev) (a b : Nat) (l : Lane) : (d.setLane a l).lane b = if b = a then l else d.lane b :=
  Store.get_set _ _ _ _ _
@[simp] theorem Dev.lane_setLane_same (d : Dev) (a : Nat) (l : Lane) : (d.setLane a l).lane a = l := Store.get_set_same _ _ _ _
theorem Dev.unit_setUnit (d : Dev) (a b : Nat) (x : UnitRec) : (d.setUnit a x).unit b = if b = a then x else d.unit b :=
  Store.get_set _ _ _ _ _
@[simp] theorem Dev.unit_setUnit_same (d : Dev) (a : Nat) (x : UnitRec) : (d.setUnit a x).unit a = x := Store.get_set_same _ _ _ _

/-- A leg as it is kept: its outputs pass the interlock and need their supply (R170, R541). -/
def Dev.keptLeg (d : Dev) (k : Nat) (l : Leg) : Leg :=
  if d.unpowered k then { l.interlocked with drvH := false, drvL := false, soft := false } else l.interlocked
theorem Dev.leg_setLeg (d : Dev) (a b : Nat) (l : Leg) : (d.setLeg a l).leg b = if b = a then d.keptLeg a l else d.leg b :=
  Store.get_set _ _ _ _ _
@[simp] theorem Dev.leg_setLeg_same (d : Dev) (a : Nat) (l : Leg) : (d.setLeg a l).leg a = d.keptLeg a l := Store.get_set_same _ _ _ _
theorem Dev.leg_setLeg_ne (d : Dev) {a b : Nat} (l : Leg) (h : b ≠ a) : (d.setLeg a l).leg b = d.leg b :=
  Store.get_set_ne _ _ _ h
@[simp] theorem Dev.cap_setCap_same (d : Dev) (a : Nat) (x : CapUnit) : (d.setCap a x).cap a = x := Store.get_set_same _ _ _ _
@[simp] theorem Dev.rack_setRack_same (d : Dev) (a : Nat) (x : Rack) : (d.setRack a x).rack a = x := Store.get_set_same _ _ _ _

/-! ### Named reads after the updates of another store -/

@[simp] theorem Dev.setReg_lane (d : Dev) (a : Nat) (w : Word) (n : Nat) : (d.setReg a w).lane n = d.lane n := rfl
@[simp] theorem Dev.setReg_leg (d : Dev) (a : Nat) (w : Word) (n : Nat) : (d.setReg a w).leg n = d.leg n := rfl
@[simp] theorem Dev.setReg_unit (d : Dev) (a : Nat) (w : Word) (n : Nat) : (d.setReg a w).unit n = d.unit n := rfl
@[simp] theorem Dev.setReg_cap (d : Dev) (a : Nat) (w : Word) (n : Nat) : (d.setReg a w).cap n = d.cap n := rfl
@[simp] theorem Dev.setReg_rack (d : Dev) (a : Nat) (w : Word) (n : Nat) : (d.setReg a w).rack n = d.rack n := rfl
@[simp] theorem Dev.setReg_byte (d : Dev) (a : Nat) (w : Word) (n : Nat) : (d.setReg a w).byte n = d.byte n := rfl
@[simp] theorem Dev.setReg_liveAt (d : Dev) (a : Nat) (w : Word) (n : Nat) : (d.setReg a w).liveAt n = d.liveAt n := rfl
@[simp] theorem Dev.setReg_isBad (d : Dev) (a : Nat) (w : Word) (n : Nat) : (d.setReg a w).isBad n = d.isBad n := rfl
@[simp] theorem Dev.setLane_reg (d : Dev) (b : Nat) (l : Lane) (n : Nat) : (d.setLane b l).reg n = d.reg n := rfl
@[simp] theorem Dev.setLane_leg (d : Dev) (b : Nat) (l : Lane) (n : Nat) : (d.setLane b l).leg n = d.leg n := rfl
@[simp] theorem Dev.setLane_unit (d : Dev) (b : Nat) (l : Lane) (n : Nat) : (d.setLane b l).unit n = d.unit n := rfl
@[simp] theorem Dev.setLane_cap (d : Dev) (b : Nat) (l : Lane) (n : Nat) : (d.setLane b l).cap n = d.cap n := rfl
@[simp] theorem Dev.setLane_rack (d : Dev) (b : Nat) (l : Lane) (n : Nat) : (d.setLane b l).rack n = d.rack n := rfl
@[simp] theorem Dev.setLane_byte (d : Dev) (b : Nat) (l : Lane) (n : Nat) : (d.setLane b l).byte n = d.byte n := rfl
@[simp] theorem Dev.setLane_liveAt (d : Dev) (b : Nat) (l : Lane) (n : Nat) : (d.setLane b l).liveAt n = d.liveAt n := rfl
@[simp] theorem Dev.setLane_isBad (d : Dev) (b : Nat) (l : Lane) (n : Nat) : (d.setLane b l).isBad n = d.isBad n := rfl
@[simp] theorem Dev.setLeg_reg (d : Dev) (k : Nat) (l : Leg) (n : Nat) : (d.setLeg k l).reg n = d.reg n := rfl
@[simp] theorem Dev.setLeg_lane (d : Dev) (k : Nat) (l : Leg) (n : Nat) : (d.setLeg k l).lane n = d.lane n := rfl
@[simp] theorem Dev.setLeg_unit (d : Dev) (k : Nat) (l : Leg) (n : Nat) : (d.setLeg k l).unit n = d.unit n := rfl
@[simp] theorem Dev.setLeg_cap (d : Dev) (k : Nat) (l : Leg) (n : Nat) : (d.setLeg k l).cap n = d.cap n := rfl
@[simp] theorem Dev.setLeg_rack (d : Dev) (k : Nat) (l : Leg) (n : Nat) : (d.setLeg k l).rack n = d.rack n := rfl
@[simp] theorem Dev.setLeg_byte (d : Dev) (k : Nat) (l : Leg) (n : Nat) : (d.setLeg k l).byte n = d.byte n := rfl
@[simp] theorem Dev.setLeg_liveAt (d : Dev) (k : Nat) (l : Leg) (n : Nat) : (d.setLeg k l).liveAt n = d.liveAt n := rfl
@[simp] theorem Dev.setLeg_isBad (d : Dev) (k : Nat) (l : Leg) (n : Nat) : (d.setLeg k l).isBad n = d.isBad n := rfl
@[simp] theorem Dev.setUnit_reg (d : Dev) (u : Nat) (x : UnitRec) (n : Nat) : (d.setUnit u x).reg n = d.reg n := rfl
@[simp] theorem Dev.setUnit_lane (d : Dev) (u : Nat) (x : UnitRec) (n : Nat) : (d.setUnit u x).lane n = d.lane n := rfl
@[simp] theorem Dev.setUnit_leg (d : Dev) (u : Nat) (x : UnitRec) (n : Nat) : (d.setUnit u x).leg n = d.leg n := rfl
@[simp] theorem Dev.setUnit_cap (d : Dev) (u : Nat) (x : UnitRec) (n : Nat) : (d.setUnit u x).cap n = d.cap n := rfl
@[simp] theorem Dev.setUnit_rack (d : Dev) (u : Nat) (x : UnitRec) (n : Nat) : (d.setUnit u x).rack n = d.rack n := rfl
@[simp] theorem Dev.setUnit_byte (d : Dev) (u : Nat) (x : UnitRec) (n : Nat) : (d.setUnit u x).byte n = d.byte n := rfl
@[simp] theorem Dev.setUnit_liveAt (d : Dev) (u : Nat) (x : UnitRec) (n : Nat) : (d.setUnit u x).liveAt n = d.liveAt n := rfl
@[simp] theorem Dev.setUnit_isBad (d : Dev) (u : Nat) (x : UnitRec) (n : Nat) : (d.setUnit u x).isBad n = d.isBad n := rfl
@[simp] theorem Dev.setLive_reg (d : Dev) (a mask : Nat) (on : Bool) (n : Nat) : (d.setLive a mask on).reg n = d.reg n := rfl
@[simp] theorem Dev.setLive_lane (d : Dev) (a mask : Nat) (on : Bool) (n : Nat) : (d.setLive a mask on).lane n = d.lane n := rfl
@[simp] theorem Dev.setLive_leg (d : Dev) (a mask : Nat) (on : Bool) (n : Nat) : (d.setLive a mask on).leg n = d.leg n := rfl
@[simp] theorem Dev.setLive_unit (d : Dev) (a mask : Nat) (on : Bool) (n : Nat) : (d.setLive a mask on).unit n = d.unit n := rfl
@[simp] theorem Dev.setLive_cap (d : Dev) (a mask : Nat) (on : Bool) (n : Nat) : (d.setLive a mask on).cap n = d.cap n := rfl
@[simp] theorem Dev.setLive_rack (d : Dev) (a mask : Nat) (on : Bool) (n : Nat) : (d.setLive a mask on).rack n = d.rack n := rfl
@[simp] theorem Dev.setLive_byte (d : Dev) (a mask : Nat) (on : Bool) (n : Nat) : (d.setLive a mask on).byte n = d.byte n := rfl
@[simp] theorem Dev.setLive_isBad (d : Dev) (a mask : Nat) (on : Bool) (n : Nat) : (d.setLive a mask on).isBad n = d.isBad n := rfl
@[simp] theorem Dev.setCap_reg (d : Dev) (r : Nat) (x : CapUnit) (n : Nat) : (d.setCap r x).reg n = d.reg n := rfl
@[simp] theorem Dev.setCap_lane (d : Dev) (r : Nat) (x : CapUnit) (n : Nat) : (d.setCap r x).lane n = d.lane n := rfl
@[simp] theorem Dev.setCap_leg (d : Dev) (r : Nat) (x : CapUnit) (n : Nat) : (d.setCap r x).leg n = d.leg n := rfl
@[simp] theorem Dev.setCap_unit (d : Dev) (r : Nat) (x : CapUnit) (n : Nat) : (d.setCap r x).unit n = d.unit n := rfl
@[simp] theorem Dev.setCap_rack (d : Dev) (r : Nat) (x : CapUnit) (n : Nat) : (d.setCap r x).rack n = d.rack n := rfl
@[simp] theorem Dev.setCap_byte (d : Dev) (r : Nat) (x : CapUnit) (n : Nat) : (d.setCap r x).byte n = d.byte n := rfl
@[simp] theorem Dev.setCap_liveAt (d : Dev) (r : Nat) (x : CapUnit) (n : Nat) : (d.setCap r x).liveAt n = d.liveAt n := rfl
@[simp] theorem Dev.setCap_isBad (d : Dev) (r : Nat) (x : CapUnit) (n : Nat) : (d.setCap r x).isBad n = d.isBad n := rfl
@[simp] theorem Dev.setRack_reg (d : Dev) (r : Nat) (x : Rack) (n : Nat) : (d.setRack r x).reg n = d.reg n := rfl
@[simp] theorem Dev.setRack_lane (d : Dev) (r : Nat) (x : Rack) (n : Nat) : (d.setRack r x).lane n = d.lane n := rfl
@[simp] theorem Dev.setRack_leg (d : Dev) (r : Nat) (x : Rack) (n : Nat) : (d.setRack r x).leg n = d.leg n := rfl
@[simp] theorem Dev.setRack_unit (d : Dev) (r : Nat) (x : Rack) (n : Nat) : (d.setRack r x).unit n = d.unit n := rfl
@[simp] theorem Dev.setRack_cap (d : Dev) (r : Nat) (x : Rack) (n : Nat) : (d.setRack r x).cap n = d.cap n := rfl
@[simp] theorem Dev.setRack_byte (d : Dev) (r : Nat) (x : Rack) (n : Nat) : (d.setRack r x).byte n = d.byte n := rfl
@[simp] theorem Dev.setRack_liveAt (d : Dev) (r : Nat) (x : Rack) (n : Nat) : (d.setRack r x).liveAt n = d.liveAt n := rfl
@[simp] theorem Dev.setRack_isBad (d : Dev) (r : Nat) (x : Rack) (n : Nat) : (d.setRack r x).isBad n = d.isBad n := rfl

end Sys2Proof.Machine
end

