-- ==== Sys2Proof/Laws/Ops.lean ====
section
/-! SUPPORT. The shared operations over registers, fields, memory and events: what each leaves behind and what it leaves
alone. -/

namespace Sys2Proof.Machine

/-! ### Bit fields -/

theorem bitsOf_lt (v lo w : Nat) : bitsOf v lo w < 2 ^ w := Nat.mod_lt _ (Nat.two_pow_pos w)

theorem bitsOf_mul_le (v lo w : Nat) : bitsOf v lo w * 2 ^ lo ≤ v :=
  le_trans (Nat.mul_le_mul_right _ (Nat.mod_le _ _)) (Nat.div_mul_le_self v (2 ^ lo))

/-- A number split at a bit field: above it, in it, below it. -/
theorem split_field (v lo w : Nat) : v = v / 2 ^ (lo + w) * 2 ^ (lo + w) + bitsOf v lo w * 2 ^ lo + v % 2 ^ lo := by
  have h1 := Nat.div_add_mod v (2 ^ lo)
  have h2 := Nat.div_add_mod (v / 2 ^ lo) (2 ^ w)
  rw [Nat.div_div_eq_div_mul, ← pow_add] at h2
  unfold bitsOf
  calc v = 2 ^ lo * (v / 2 ^ lo) + v % 2 ^ lo := h1.symm
    _ = 2 ^ lo * (2 ^ w * (v / 2 ^ (lo + w)) + v / 2 ^ lo % 2 ^ w) + v % 2 ^ lo := by rw [h2]
    _ = _ := by rw [pow_add]; ring

/-- The number with a field replaced, split at the field. -/
theorem withBits_eq (v lo w x : Nat) :
    withBits v lo w x = v / 2 ^ (lo + w) * 2 ^ (lo + w) + x % 2 ^ w * 2 ^ lo + v % 2 ^ lo := by
  have h := split_field v lo w
  unfold withBits
  have hle := bitsOf_mul_le v lo w
  omega

/-- A replaced field reads as the value put there. -/
theorem bitsOf_withBits_same (v lo w x : Nat) : bitsOf (withBits v lo w x) lo w = x % 2 ^ w := by
  rw [withBits_eq, bitsOf, pow_add]
  have hl : v % 2 ^ lo < 2 ^ lo := Nat.mod_lt _ (Nat.two_pow_pos lo)
  have : v / (2 ^ lo * 2 ^ w) * (2 ^ lo * 2 ^ w) + x % 2 ^ w * 2 ^ lo + v % 2 ^ lo
      = 2 ^ lo * (v / (2 ^ lo * 2 ^ w) * 2 ^ w + x % 2 ^ w) + v % 2 ^ lo := by ring
  rw [this, Nat.mul_add_div (Nat.two_pow_pos lo), Nat.div_eq_of_lt hl, Nat.add_zero, Nat.mul_add_mod_self_right, Nat.mod_mod]

/-- A bit of a number with a field replaced. -/
theorem testBit_withBits (v lo w x i : Nat) :
    (withBits v lo w x).testBit i = if lo ≤ i ∧ i < lo + w then x.testBit (i - lo) else v.testBit i := by
  have hv : v % 2 ^ lo < 2 ^ lo := Nat.mod_lt _ (Nat.two_pow_pos lo)
  have hx : x % 2 ^ w < 2 ^ w := Nat.mod_lt _ (Nat.two_pow_pos w)
  have e : withBits v lo w x = 2 ^ lo * (2 ^ w * (v / 2 ^ (lo + w)) + x % 2 ^ w) + v % 2 ^ lo := by
    rw [withBits_eq, pow_add]; ring
  rw [e, Nat.testBit_two_pow_mul_add _ hv]
  by_cases h1 : i < lo
  · rw [if_pos h1, if_neg (by omega), Nat.testBit_mod_two_pow]; simp [h1]
  · rw [if_neg h1, Nat.testBit_two_pow_mul_add _ hx]
    by_cases h2 : i < lo + w
    · rw [if_pos (by omega), if_pos (by omega), Nat.testBit_mod_two_pow]; simp [show i - lo < w by omega]
    · rw [if_neg (by omega), if_neg (by omega), Nat.testBit_div_two_pow]; congr 1; omega

theorem testBit_bitsOf (v lo w i : Nat) : (bitsOf v lo w).testBit i = (decide (i < w) && v.testBit (i + lo)) := by
  unfold bitsOf; rw [Nat.testBit_mod_two_pow, Nat.testBit_div_two_pow]

/-- A field outside the replaced one reads as before. -/
theorem bitsOf_withBits_ne (v lo w x lo' w' : Nat) (h : lo' + w' ≤ lo ∨ lo + w ≤ lo') :
    bitsOf (withBits v lo w x) lo' w' = bitsOf v lo' w' := by
  apply Nat.eq_of_testBit_eq
  intro i
  rw [testBit_bitsOf, testBit_bitsOf, testBit_withBits]
  by_cases hi : i < w'
  · rw [if_neg (by omega)]
  · simp [hi]

theorem withBits_lt (v lo w x n : Nat) (hv : v < 2 ^ n) (h : lo + w ≤ n) : withBits v lo w x < 2 ^ n := by
  apply Nat.lt_pow_two_of_testBit
  intro i hi
  rw [testBit_withBits, if_neg (by omega)]
  exact Nat.testBit_lt_two_pow (lt_of_lt_of_le hv (Nat.pow_le_pow_right (by norm_num) hi))

/-! ### Fields of registers -/

theorem fget_fput_same (w : Word) (f : Fld) (v : Nat) (h : f.lo + f.w ≤ 32) : fget (fput w f v) f = v % 2 ^ f.w := by
  unfold fget fput
  rw [BitVec.toNat_ofNat, Nat.mod_eq_of_lt (withBits_lt _ _ _ _ 32 w.isLt h), bitsOf_withBits_same]

theorem fget_fput_ne (w : Word) (f g : Fld) (v : Nat) (h : f.lo + f.w ≤ 32) (hd : g.lo + g.w ≤ f.lo ∨ f.lo + f.w ≤ g.lo) :
    fget (fput w f v) g = fget w g := by
  unfold fget fput
  rw [BitVec.toNat_ofNat, Nat.mod_eq_of_lt (withBits_lt _ _ _ _ 32 w.isLt h), bitsOf_withBits_ne _ _ _ _ _ _ hd]

theorem Dev.fld_setFld_same (d : Dev) (b : Nat) (f : Fld) (v : Nat) (h : f.lo + f.w ≤ 32) :
    (d.setFld b f v).fld b f = v % 2 ^ f.w := by
  simp [Dev.fld, Dev.setFld, fget_fput_same _ _ _ h]

/-- Another field of the same register, given by any base. -/
theorem Dev.fld_setFld_field (d : Dev) (b c : Nat) (f g : Fld) (v : Nat) (h : f.lo + f.w ≤ 32) (e : c + g.off = b + f.off)
    (hd : g.lo + g.w ≤ f.lo ∨ f.lo + f.w ≤ g.lo) : (d.setFld b f v).fld c g = d.fld c g := by
  simp [Dev.fld, Dev.setFld, e, fget_fput_ne _ _ _ _ h hd]

/-- A field of another register. -/
theorem Dev.fld_setFld_ne (d : Dev) (b c : Nat) (f g : Fld) (v : Nat) (e : c + g.off ≠ b + f.off) :
    (d.setFld b f v).fld c g = d.fld c g := by
  simp [Dev.fld, Dev.setFld, Dev.reg_setReg_ne _ _ e]

theorem Dev.fld_setReg_ne (d : Dev) (a c : Nat) (g : Fld) (w : Word) (e : c + g.off ≠ a) :
    (d.setReg a w).fld c g = d.fld c g := by
  simp [Dev.fld, Dev.reg_setReg_ne _ _ e]

theorem Dev.reg_setFld_ne (d : Dev) (b a : Nat) (f : Fld) (v : Nat) (e : a ≠ b + f.off) : (d.setFld b f v).reg a = d.reg a := by
  simp [Dev.setFld, Dev.reg_setReg_ne _ _ e]

/-! ### Raising an event -/

/-- The addresses that raising an event may write: the event router's registers, and LANE_EVC_LIVE of a lane. -/
def RouterReg (a : Nat) : Prop := (0x40010000 ≤ a ∧ a < 0x40012000) ∨ ∃ n, a = blkReg n + 0x30

theorem routerReg_range {a : Nat} (h : 0x40010000 ≤ a) (h' : a < 0x40012000) : RouterReg a := Or.inl ⟨h, h'⟩
theorem routerReg_cond (b : Nat) : RouterReg (blkReg b + 0x30) := Or.inr ⟨b, rfl⟩
theorem routerReg_count {src : Nat} (hs : src < 0x100) : RouterReg (4 * src + F.EVR_CNT_count.off) := by
  have e : F.EVR_CNT_count.off = 0x40011000 := rfl
  rw [e]
  exact routerReg_range (by omega) (by omega)
theorem routerReg_lost : RouterReg (0 + F.EVR_STAT_lost.off) := by
  have e : F.EVR_STAT_lost.off = 0x40011408 := rfl
  rw [e]
  exact routerReg_range (by omega) (by omega)

variable {α : Type}

theorem routeCores_keeps (P : Dev → α) (hreg : ∀ d a w, RouterReg a → P (d.setReg a w) = P d)
    (hnote : ∀ (d : Dev) a v, P (d.noteSet a v) = P d) (src scope : Nat) (paired : Bool)
    (l : List (Nat × Word)) (d : Dev) : P (routeCores src scope paired l d) = P d := by
  induction l with
  | nil => rfl
  | cons x t ih =>
    obtain ⟨a, w⟩ := x
    simp only [routeCores]
    split
    · split
      · rw [Dev.orReg, hnote, hreg _ _ _ (Or.inl (by omega)), ih]
      · exact ih
    · exact ih

@[simp] theorem Dev.orReg_lane (d : Dev) (a v b : Nat) : (d.orReg a v).lane b = d.lane b := by
  simp only [Dev.orReg, Dev.lane, Dev.noteSet_lanes, Dev.setReg_lanes]

theorem Dev.setCond_keeps (P : Dev → α) (hreg : ∀ d a w, RouterReg a → P (d.setReg a w) = P d)
    (hnote : ∀ (d : Dev) a v, P (d.noteSet a v) = P d)
    (hlane : ∀ (d : Dev) b x y z, P (d.setLane b { d.lane b with freshAt := x, fresh := y, freshNew := z }) = P d)
    (d : Dev) (b mask : Nat) : P (d.setCond b mask) = P d := by
  have g : P (d.orReg (blkReg b + 0x30) mask) = P d := by
    rw [Dev.orReg, hnote]
    exact hreg _ _ _ (routerReg_cond b)
  have h := hlane (d.orReg (blkReg b + 0x30) mask) b
  simp only [Dev.orReg_lane, g] at h
  simp only [Dev.setCond]
  exact h _ _ _

theorem routeLanes_keeps (P : Dev → α) (hreg : ∀ d a w, RouterReg a → P (d.setReg a w) = P d)
    (hnote : ∀ (d : Dev) a v, P (d.noteSet a v) = P d)
    (hlane : ∀ (d : Dev) b x y z, P (d.setLane b { d.lane b with freshAt := x, fresh := y, freshNew := z }) = P d)
    (src scope : Nat) (l : List (Nat × Word)) (d : Dev) : P (routeLanes src scope l d) = P d := by
  induction l with
  | nil => rfl
  | cons x t ih =>
    obtain ⟨k, w⟩ := x
    simp only [routeLanes]
    split
    · rw [Dev.setCond_keeps P hreg hnote hlane, ih]
    · exact ih

theorem Dev.noteCapture_keeps (P : Dev → α) (hcap : ∀ (d : Dev) r x, P (d.setCap r { d.cap r with noted := x }) = P d)
    (d : Dev) (r : Nat) (p : Nat → Bool) : P (d.noteCapture r p) = P d := by
  simp only [Dev.noteCapture]
  split
  · exact hcap d r _
  · rfl

/-- What raising an event leaves alone: everything but the router's registers, the note of bits set in the cycle, the condition bits
of lanes with their freshness, the staged log entries, the noted triggers of capture units and the triggers of racking. -/
theorem Dev.raise_keeps (P : Dev → α) (hreg : ∀ d a w, RouterReg a → P (d.setReg a w) = P d)
    (hnote : ∀ (d : Dev) a v, P (d.noteSet a v) = P d)
    (hlane : ∀ (d : Dev) b x y z, P (d.setLane b { d.lane b with freshAt := x, fresh := y, freshNew := z }) = P d)
    (hstage : ∀ (d : Dev) x, P { d with stage := x } = P d)
    (hcap : ∀ (d : Dev) r x, P (d.setCap r { d.cap r with noted := x }) = P d)
    (hrack : ∀ (d : Dev) r x y z, P (d.setRack r { d.rack r with faultSrc := x, faultAt := y, trig := z }) = P d)
    (d : Dev) (src scope arg : Nat) (hs : src < 0x100) : P (d.raise src scope arg) = P d := by
  have hb : ∀ (e : Dev), P (e.bump (4 * src) F.EVR_CNT_count) = P e := by
    intro e
    rw [Dev.bump, Dev.setFld, hreg _ _ _ (routerReg_count hs)]
  have hl : ∀ (e : Dev), P (e.logRaise src scope arg) = P e := by
    intro e
    simp only [Dev.logRaise]
    split
    · split
      · exact hstage _ _
      · rw [Dev.bump, Dev.setFld, hreg _ _ _ routerReg_lost]
    · rfl
  have hk : ∀ (e : Dev), P (e.captureEvent src) = P e := by
    intro e
    simp only [Dev.captureEvent, List.foldl]
    rw [Dev.noteCapture_keeps P hcap, Dev.noteCapture_keeps P hcap, Dev.noteCapture_keeps P hcap, Dev.noteCapture_keeps P hcap]
  have ht : ∀ (e : Dev), P (e.rackTrigger src scope) = P e := by
    intro e
    simp only [Dev.rackTrigger]
    split
    · exact hrack _ _ _ _ _
    · rfl
  simp only [Dev.raise]
  rw [ht, hk, hl, routeLanes_keeps P hreg hnote hlane, routeCores_keeps P hreg hnote, hb]

/-- A register that is none of the router's is as before a raise. -/
theorem Dev.raise_reg (d : Dev) (src scope arg a : Nat) (hs : src < 0x100) (ha : ¬ RouterReg a) :
    (d.raise src scope arg).reg a = d.reg a := by
  refine Dev.raise_keeps (fun d => d.reg a) ?_ ?_ ?_ ?_ ?_ ?_ d src scope arg hs
  · intro d b w hb
    exact Dev.reg_setReg_ne _ _ (fun e => ha (e ▸ hb))
  all_goals intros; rfl

@[simp] theorem Dev.raise_now (d : Dev) (src scope arg : Nat) (hs : src < 0x100) : (d.raise src scope arg).now = d.now :=
  Dev.raise_keeps (fun d => d.now) (fun _ _ _ _ => rfl) (fun _ _ _ => rfl) (fun _ _ _ _ _ => rfl) (fun _ _ => rfl) (fun _ _ _ => rfl)
    (fun _ _ _ _ _ => rfl) d src scope arg hs
@[simp] theorem Dev.raise_net (d : Dev) (src scope arg : Nat) (hs : src < 0x100) : (d.raise src scope arg).net = d.net :=
  Dev.raise_keeps (fun d => d.net) (fun _ _ _ _ => rfl) (fun _ _ _ => rfl) (fun _ _ _ _ _ => rfl) (fun _ _ => rfl) (fun _ _ _ => rfl)
    (fun _ _ _ _ _ => rfl) d src scope arg hs
@[simp] theorem Dev.raise_inforce (d : Dev) (src scope arg : Nat) (hs : src < 0x100) : (d.raise src scope arg).inforce = d.inforce :=
  Dev.raise_keeps (fun d => d.inforce) (fun _ _ _ _ => rfl) (fun _ _ _ => rfl) (fun _ _ _ _ _ => rfl) (fun _ _ => rfl) (fun _ _ _ => rfl)
    (fun _ _ _ _ _ => rfl) d src scope arg hs
@[simp] theorem Dev.raise_snaps (d : Dev) (src scope arg : Nat) (hs : src < 0x100) : (d.raise src scope arg).snaps = d.snaps :=
  Dev.raise_keeps (fun d => d.snaps) (fun _ _ _ _ => rfl) (fun _ _ _ => rfl) (fun _ _ _ _ _ => rfl) (fun _ _ => rfl) (fun _ _ _ => rfl)
    (fun _ _ _ _ _ => rfl) d src scope arg hs
@[simp] theorem Dev.raise_ind (d : Dev) (src scope arg : Nat) (hs : src < 0x100) : (d.raise src scope arg).ind = d.ind :=
  Dev.raise_keeps (fun d => d.ind) (fun _ _ _ _ => rfl) (fun _ _ _ => rfl) (fun _ _ _ _ _ => rfl) (fun _ _ => rfl) (fun _ _ _ => rfl)
    (fun _ _ _ _ _ => rfl) d src scope arg hs
@[simp] theorem Dev.raise_live (d : Dev) (src scope arg : Nat) (hs : src < 0x100) : (d.raise src scope arg).live = d.live :=
  Dev.raise_keeps (fun d => d.live) (fun _ _ _ _ => rfl) (fun _ _ _ => rfl) (fun _ _ _ _ _ => rfl) (fun _ _ => rfl) (fun _ _ _ => rfl)
    (fun _ _ _ _ _ => rfl) d src scope arg hs
@[simp] theorem Dev.raise_mem (d : Dev) (src scope arg : Nat) (hs : src < 0x100) : (d.raise src scope arg).mem = d.mem :=
  Dev.raise_keeps (fun d => d.mem) (fun _ _ _ _ => rfl) (fun _ _ _ => rfl) (fun _ _ _ _ _ => rfl) (fun _ _ => rfl) (fun _ _ _ => rfl)
    (fun _ _ _ _ _ => rfl) d src scope arg hs
@[simp] theorem Dev.raise_bad (d : Dev) (src scope arg : Nat) (hs : src < 0x100) : (d.raise src scope arg).bad = d.bad :=
  Dev.raise_keeps (fun d => d.bad) (fun _ _ _ _ => rfl) (fun _ _ _ => rfl) (fun _ _ _ _ _ => rfl) (fun _ _ => rfl) (fun _ _ _ => rfl)
    (fun _ _ _ _ _ => rfl) d src scope arg hs
@[simp] theorem Dev.raise_intakeOld (d : Dev) (src scope arg : Nat) (hs : src < 0x100) : (d.raise src scope arg).intakeOld = d.intakeOld :=
  Dev.raise_keeps (fun d => d.intakeOld) (fun _ _ _ _ => rfl) (fun _ _ _ => rfl) (fun _ _ _ _ _ => rfl) (fun _ _ => rfl) (fun _ _ _ => rfl)
    (fun _ _ _ _ _ => rfl) d src scope arg hs
@[simp] theorem Dev.raise_legs (d : Dev) (src scope arg : Nat) (hs : src < 0x100) : (d.raise src scope arg).legs = d.legs :=
  Dev.raise_keeps (fun d => d.legs) (fun _ _ _ _ => rfl) (fun _ _ _ => rfl) (fun _ _ _ _ _ => rfl) (fun _ _ => rfl) (fun _ _ _ => rfl)
    (fun _ _ _ _ _ => rfl) d src scope arg hs
@[simp] theorem Dev.raise_units (d : Dev) (src scope arg : Nat) (hs : src < 0x100) : (d.raise src scope arg).units = d.units :=
  Dev.raise_keeps (fun d => d.units) (fun _ _ _ _ => rfl) (fun _ _ _ => rfl) (fun _ _ _ _ _ => rfl) (fun _ _ => rfl) (fun _ _ _ => rfl)
    (fun _ _ _ _ _ => rfl) d src scope arg hs
@[simp] theorem Dev.raise_chReady (d : Dev) (src scope arg : Nat) (hs : src < 0x100) : (d.raise src scope arg).chReady = d.chReady :=
  Dev.raise_keeps (fun d => d.chReady) (fun _ _ _ _ => rfl) (fun _ _ _ => rfl) (fun _ _ _ _ _ => rfl) (fun _ _ => rfl) (fun _ _ _ => rfl)
    (fun _ _ _ _ _ => rfl) d src scope arg hs
@[simp] theorem Dev.raise_portAt (d : Dev) (src scope arg : Nat) (hs : src < 0x100) : (d.raise src scope arg).portAt = d.portAt :=
  Dev.raise_keeps (fun d => d.portAt) (fun _ _ _ _ => rfl) (fun _ _ _ => rfl) (fun _ _ _ _ _ => rfl) (fun _ _ => rfl) (fun _ _ _ => rfl)
    (fun _ _ _ _ _ => rfl) d src scope arg hs
@[simp] theorem Dev.raise_portDma (d : Dev) (src scope arg : Nat) (hs : src < 0x100) : (d.raise src scope arg).portDma = d.portDma :=
  Dev.raise_keeps (fun d => d.portDma) (fun _ _ _ _ => rfl) (fun _ _ _ => rfl) (fun _ _ _ _ _ => rfl) (fun _ _ => rfl) (fun _ _ _ => rfl)
    (fun _ _ _ _ _ => rfl) d src scope arg hs
@[simp] theorem Dev.raise_laneRoutes (d : Dev) (src scope arg : Nat) (hs : src < 0x100) : (d.raise src scope arg).laneRoutes = d.laneRoutes :=
  Dev.raise_keeps (fun d => d.laneRoutes) (fun _ _ _ _ => rfl) (fun _ _ _ => rfl) (fun _ _ _ _ _ => rfl) (fun _ _ => rfl) (fun _ _ _ => rfl)
    (fun _ _ _ _ _ => rfl) d src scope arg hs
@[simp] theorem Dev.raise_regs0 (d : Dev) (src scope arg : Nat) (hs : src < 0x100) : (d.raise src scope arg).regs0 = d.regs0 :=
  Dev.raise_keeps (fun d => d.regs0) (fun _ _ _ _ => rfl) (fun _ _ _ => rfl) (fun _ _ _ _ _ => rfl) (fun _ _ => rfl) (fun _ _ _ => rfl)
    (fun _ _ _ _ _ => rfl) d src scope arg hs
@[simp] theorem Dev.raise_regsHsl (d : Dev) (src scope arg : Nat) (hs : src < 0x100) : (d.raise src scope arg).regsHsl = d.regsHsl :=
  Dev.raise_keeps (fun d => d.regsHsl) (fun _ _ _ _ => rfl) (fun _ _ _ => rfl) (fun _ _ _ _ _ => rfl) (fun _ _ => rfl) (fun _ _ _ => rfl)
    (fun _ _ _ _ _ => rfl) d src scope arg hs
@[simp] theorem Dev.raise_causeAt (d : Dev) (src scope arg : Nat) (hs : src < 0x100) : (d.raise src scope arg).causeAt = d.causeAt :=
  Dev.raise_keeps (fun d => d.causeAt) (fun _ _ _ _ => rfl) (fun _ _ _ => rfl) (fun _ _ _ _ _ => rfl) (fun _ _ => rfl) (fun _ _ _ => rfl)
    (fun _ _ _ _ _ => rfl) d src scope arg hs
@[simp] theorem Dev.raise_resp (d : Dev) (src scope arg : Nat) (hs : src < 0x100) : (d.raise src scope arg).resp = d.resp :=
  Dev.raise_keeps (fun d => d.resp) (fun _ _ _ _ => rfl) (fun _ _ _ => rfl) (fun _ _ _ _ _ => rfl) (fun _ _ => rfl) (fun _ _ _ => rfl)
    (fun _ _ _ _ _ => rfl) d src scope arg hs
@[simp] theorem Dev.raise_respErr (d : Dev) (src scope arg : Nat) (hs : src < 0x100) : (d.raise src scope arg).respErr = d.respErr :=
  Dev.raise_keeps (fun d => d.respErr) (fun _ _ _ _ => rfl) (fun _ _ _ => rfl) (fun _ _ _ _ _ => rfl) (fun _ _ => rfl) (fun _ _ _ => rfl)
    (fun _ _ _ _ _ => rfl) d src scope arg hs
@[simp] theorem Dev.raise_free (d : Dev) (src scope arg : Nat) (hs : src < 0x100) : (d.raise src scope arg).free = d.free :=
  Dev.raise_keeps (fun d => d.free) (fun _ _ _ _ => rfl) (fun _ _ _ => rfl) (fun _ _ _ _ _ => rfl) (fun _ _ => rfl) (fun _ _ _ => rfl)
    (fun _ _ _ _ _ => rfl) d src scope arg hs
@[simp] theorem Dev.raise_dma (d : Dev) (src scope arg : Nat) (hs : src < 0x100) : (d.raise src scope arg).dma = d.dma :=
  Dev.raise_keeps (fun d => d.dma) (fun _ _ _ _ => rfl) (fun _ _ _ => rfl) (fun _ _ _ _ _ => rfl) (fun _ _ => rfl) (fun _ _ _ => rfl)
    (fun _ _ _ _ _ => rfl) d src scope arg hs
@[simp] theorem Dev.raise_pairWait (d : Dev) (src scope arg : Nat) (hs : src < 0x100) : (d.raise src scope arg).pairWait = d.pairWait :=
  Dev.raise_keeps (fun d => d.pairWait) (fun _ _ _ _ => rfl) (fun _ _ _ => rfl) (fun _ _ _ _ _ => rfl) (fun _ _ => rfl) (fun _ _ _ => rfl)
    (fun _ _ _ _ _ => rfl) d src scope arg hs
@[simp] theorem Dev.raise_pairReset (d : Dev) (src scope arg : Nat) (hs : src < 0x100) : (d.raise src scope arg).pairReset = d.pairReset :=
  Dev.raise_keeps (fun d => d.pairReset) (fun _ _ _ _ => rfl) (fun _ _ _ => rfl) (fun _ _ _ _ _ => rfl) (fun _ _ => rfl) (fun _ _ _ => rfl)
    (fun _ _ _ _ _ => rfl) d src scope arg hs
@[simp] theorem Dev.raise_correctedAt (d : Dev) (src scope arg : Nat) (hs : src < 0x100) : (d.raise src scope arg).correctedAt = d.correctedAt :=
  Dev.raise_keeps (fun d => d.correctedAt) (fun _ _ _ _ => rfl) (fun _ _ _ => rfl) (fun _ _ _ _ _ => rfl) (fun _ _ => rfl) (fun _ _ _ => rfl)
    (fun _ _ _ _ _ => rfl) d src scope arg hs
@[simp] theorem Dev.raise_trl (d : Dev) (src scope arg : Nat) (hs : src < 0x100) : (d.raise src scope arg).trl = d.trl :=
  Dev.raise_keeps (fun d => d.trl) (fun _ _ _ _ => rfl) (fun _ _ _ => rfl) (fun _ _ _ _ _ => rfl) (fun _ _ => rfl) (fun _ _ _ => rfl)
    (fun _ _ _ _ _ => rfl) d src scope arg hs
@[simp] theorem Dev.raise_seqs (d : Dev) (src scope arg : Nat) (hs : src < 0x100) : (d.raise src scope arg).seqs = d.seqs :=
  Dev.raise_keeps (fun d => d.seqs) (fun _ _ _ _ => rfl) (fun _ _ _ => rfl) (fun _ _ _ _ _ => rfl) (fun _ _ => rfl) (fun _ _ _ => rfl)
    (fun _ _ _ _ _ => rfl) d src scope arg hs
@[simp] theorem Dev.raise_convs (d : Dev) (src scope arg : Nat) (hs : src < 0x100) : (d.raise src scope arg).convs = d.convs :=
  Dev.raise_keeps (fun d => d.convs) (fun _ _ _ _ => rfl) (fun _ _ _ => rfl) (fun _ _ _ _ _ => rfl) (fun _ _ => rfl) (fun _ _ _ => rfl)
    (fun _ _ _ _ _ => rfl) d src scope arg hs
@[simp] theorem Dev.raise_sds (d : Dev) (src scope arg : Nat) (hs : src < 0x100) : (d.raise src scope arg).sds = d.sds :=
  Dev.raise_keeps (fun d => d.sds) (fun _ _ _ _ => rfl) (fun _ _ _ => rfl) (fun _ _ _ _ _ => rfl) (fun _ _ => rfl) (fun _ _ _ => rfl)
    (fun _ _ _ _ _ => rfl) d src scope arg hs
@[simp] theorem Dev.raise_dacAt (d : Dev) (src scope arg : Nat) (hs : src < 0x100) : (d.raise src scope arg).dacAt = d.dacAt :=
  Dev.raise_keeps (fun d => d.dacAt) (fun _ _ _ _ => rfl) (fun _ _ _ => rfl) (fun _ _ _ _ _ => rfl) (fun _ _ => rfl) (fun _ _ _ => rfl)
    (fun _ _ _ _ _ => rfl) d src scope arg hs
@[simp] theorem Dev.raise_rbBad (d : Dev) (src scope arg : Nat) (hs : src < 0x100) : (d.raise src scope arg).rbBad = d.rbBad :=
  Dev.raise_keeps (fun d => d.rbBad) (fun _ _ _ _ => rfl) (fun _ _ _ => rfl) (fun _ _ _ _ _ => rfl) (fun _ _ => rfl) (fun _ _ _ => rfl)
    (fun _ _ _ _ _ => rfl) d src scope arg hs
@[simp] theorem Dev.raise_pins (d : Dev) (src scope arg : Nat) (hs : src < 0x100) : (d.raise src scope arg).pins = d.pins :=
  Dev.raise_keeps (fun d => d.pins) (fun _ _ _ _ => rfl) (fun _ _ _ => rfl) (fun _ _ _ _ _ => rfl) (fun _ _ => rfl) (fun _ _ _ => rfl)
    (fun _ _ _ _ _ => rfl) d src scope arg hs
@[simp] theorem Dev.raise_raws (d : Dev) (src scope arg : Nat) (hs : src < 0x100) : (d.raise src scope arg).raws = d.raws :=
  Dev.raise_keeps (fun d => d.raws) (fun _ _ _ _ => rfl) (fun _ _ _ => rfl) (fun _ _ _ _ _ => rfl) (fun _ _ => rfl) (fun _ _ _ => rfl)
    (fun _ _ _ _ _ => rfl) d src scope arg hs
@[simp] theorem Dev.raise_rawAt (d : Dev) (src scope arg : Nat) (hs : src < 0x100) : (d.raise src scope arg).rawAt = d.rawAt :=
  Dev.raise_keeps (fun d => d.rawAt) (fun _ _ _ _ => rfl) (fun _ _ _ => rfl) (fun _ _ _ _ _ => rfl) (fun _ _ => rfl) (fun _ _ _ => rfl)
    (fun _ _ _ _ _ => rfl) d src scope arg hs
@[simp] theorem Dev.raise_passAt (d : Dev) (src scope arg : Nat) (hs : src < 0x100) : (d.raise src scope arg).passAt = d.passAt :=
  Dev.raise_keeps (fun d => d.passAt) (fun _ _ _ _ => rfl) (fun _ _ _ => rfl) (fun _ _ _ _ _ => rfl) (fun _ _ => rfl) (fun _ _ _ => rfl)
    (fun _ _ _ _ _ => rfl) d src scope arg hs
@[simp] theorem Dev.raise_condNext (d : Dev) (src scope arg : Nat) (hs : src < 0x100) : (d.raise src scope arg).condNext = d.condNext :=
  Dev.raise_keeps (fun d => d.condNext) (fun _ _ _ _ => rfl) (fun _ _ _ => rfl) (fun _ _ _ _ _ => rfl) (fun _ _ => rfl) (fun _ _ _ => rfl)
    (fun _ _ _ _ _ => rfl) d src scope arg hs
@[simp] theorem Dev.raise_fbs (d : Dev) (src scope arg : Nat) (hs : src < 0x100) : (d.raise src scope arg).fbs = d.fbs :=
  Dev.raise_keeps (fun d => d.fbs) (fun _ _ _ _ => rfl) (fun _ _ _ => rfl) (fun _ _ _ _ _ => rfl) (fun _ _ => rfl) (fun _ _ _ => rfl)
    (fun _ _ _ _ _ => rfl) d src scope arg hs
@[simp] theorem Dev.raise_prbs (d : Dev) (src scope arg : Nat) (hs : src < 0x100) : (d.raise src scope arg).prbs = d.prbs :=
  Dev.raise_keeps (fun d => d.prbs) (fun _ _ _ _ => rfl) (fun _ _ _ => rfl) (fun _ _ _ _ _ => rfl) (fun _ _ => rfl) (fun _ _ _ => rfl)
    (fun _ _ _ _ _ => rfl) d src scope arg hs
@[simp] theorem Dev.raise_landings (d : Dev) (src scope arg : Nat) (hs : src < 0x100) : (d.raise src scope arg).landings = d.landings :=
  Dev.raise_keeps (fun d => d.landings) (fun _ _ _ _ => rfl) (fun _ _ _ => rfl) (fun _ _ _ _ _ => rfl) (fun _ _ => rfl) (fun _ _ _ => rfl)
    (fun _ _ _ _ _ => rfl) d src scope arg hs
@[simp] theorem Dev.raise_sheds (d : Dev) (src scope arg : Nat) (hs : src < 0x100) : (d.raise src scope arg).sheds = d.sheds :=
  Dev.raise_keeps (fun d => d.sheds) (fun _ _ _ _ => rfl) (fun _ _ _ => rfl) (fun _ _ _ _ _ => rfl) (fun _ _ => rfl) (fun _ _ _ => rfl)
    (fun _ _ _ _ _ => rfl) d src scope arg hs
@[simp] theorem Dev.raise_progs (d : Dev) (src scope arg : Nat) (hs : src < 0x100) : (d.raise src scope arg).progs = d.progs :=
  Dev.raise_keeps (fun d => d.progs) (fun _ _ _ _ => rfl) (fun _ _ _ => rfl) (fun _ _ _ _ _ => rfl) (fun _ _ => rfl) (fun _ _ _ => rfl)
    (fun _ _ _ _ _ => rfl) d src scope arg hs
@[simp] theorem Dev.raise_notices (d : Dev) (src scope arg : Nat) (hs : src < 0x100) : (d.raise src scope arg).notices = d.notices :=
  Dev.raise_keeps (fun d => d.notices) (fun _ _ _ _ => rfl) (fun _ _ _ => rfl) (fun _ _ _ _ _ => rfl) (fun _ _ => rfl) (fun _ _ _ => rfl)
    (fun _ _ _ _ _ => rfl) d src scope arg hs
@[simp] theorem Dev.raise_refSlots (d : Dev) (src scope arg : Nat) (hs : src < 0x100) : (d.raise src scope arg).refSlots = d.refSlots :=
  Dev.raise_keeps (fun d => d.refSlots) (fun _ _ _ _ => rfl) (fun _ _ _ => rfl) (fun _ _ _ _ _ => rfl) (fun _ _ => rfl) (fun _ _ _ => rfl)
    (fun _ _ _ _ _ => rfl) d src scope arg hs
@[simp] theorem Dev.raise_slotFac (d : Dev) (src scope arg : Nat) (hs : src < 0x100) : (d.raise src scope arg).slotFac = d.slotFac :=
  Dev.raise_keeps (fun d => d.slotFac) (fun _ _ _ _ => rfl) (fun _ _ _ => rfl) (fun _ _ _ _ _ => rfl) (fun _ _ => rfl) (fun _ _ _ => rfl)
    (fun _ _ _ _ _ => rfl) d src scope arg hs
@[simp] theorem Dev.raise_slotClaim (d : Dev) (src scope arg : Nat) (hs : src < 0x100) : (d.raise src scope arg).slotClaim = d.slotClaim :=
  Dev.raise_keeps (fun d => d.slotClaim) (fun _ _ _ _ => rfl) (fun _ _ _ => rfl) (fun _ _ _ _ _ => rfl) (fun _ _ => rfl) (fun _ _ _ => rfl)
    (fun _ _ _ _ _ => rfl) d src scope arg hs
@[simp] theorem Dev.raise_slotWaits (d : Dev) (src scope arg : Nat) (hs : src < 0x100) : (d.raise src scope arg).slotWaits = d.slotWaits :=
  Dev.raise_keeps (fun d => d.slotWaits) (fun _ _ _ _ => rfl) (fun _ _ _ => rfl) (fun _ _ _ _ _ => rfl) (fun _ _ => rfl) (fun _ _ _ => rfl)
    (fun _ _ _ _ _ => rfl) d src scope arg hs
@[simp] theorem Dev.raise_ov3At (d : Dev) (src scope arg : Nat) (hs : src < 0x100) : (d.raise src scope arg).ov3At = d.ov3At :=
  Dev.raise_keeps (fun d => d.ov3At) (fun _ _ _ _ => rfl) (fun _ _ _ => rfl) (fun _ _ _ _ _ => rfl) (fun _ _ => rfl) (fun _ _ _ => rfl)
    (fun _ _ _ _ _ => rfl) d src scope arg hs
@[simp] theorem Dev.raise_ov3SelAt (d : Dev) (src scope arg : Nat) (hs : src < 0x100) : (d.raise src scope arg).ov3SelAt = d.ov3SelAt :=
  Dev.raise_keeps (fun d => d.ov3SelAt) (fun _ _ _ _ => rfl) (fun _ _ _ => rfl) (fun _ _ _ _ _ => rfl) (fun _ _ => rfl) (fun _ _ _ => rfl)
    (fun _ _ _ _ _ => rfl) d src scope arg hs
@[simp] theorem Dev.raise_uvOn (d : Dev) (src scope arg : Nat) (hs : src < 0x100) : (d.raise src scope arg).uvOn = d.uvOn :=
  Dev.raise_keeps (fun d => d.uvOn) (fun _ _ _ _ => rfl) (fun _ _ _ => rfl) (fun _ _ _ _ _ => rfl) (fun _ _ => rfl) (fun _ _ _ => rfl)
    (fun _ _ _ _ _ => rfl) d src scope arg hs
@[simp] theorem Dev.raise_uvSince (d : Dev) (src scope arg : Nat) (hs : src < 0x100) : (d.raise src scope arg).uvSince = d.uvSince :=
  Dev.raise_keeps (fun d => d.uvSince) (fun _ _ _ _ => rfl) (fun _ _ _ => rfl) (fun _ _ _ _ _ => rfl) (fun _ _ => rfl) (fun _ _ _ => rfl)
    (fun _ _ _ _ _ => rfl) d src scope arg hs
@[simp] theorem Dev.raise_hsl (d : Dev) (src scope arg : Nat) (hs : src < 0x100) : (d.raise src scope arg).hsl = d.hsl :=
  Dev.raise_keeps (fun d => d.hsl) (fun _ _ _ _ => rfl) (fun _ _ _ => rfl) (fun _ _ _ _ _ => rfl) (fun _ _ => rfl) (fun _ _ _ => rfl)
    (fun _ _ _ _ _ => rfl) d src scope arg hs
@[simp] theorem Dev.raise_schs (d : Dev) (src scope arg : Nat) (hs : src < 0x100) : (d.raise src scope arg).schs = d.schs :=
  Dev.raise_keeps (fun d => d.schs) (fun _ _ _ _ => rfl) (fun _ _ _ => rfl) (fun _ _ _ _ _ => rfl) (fun _ _ => rfl) (fun _ _ _ => rfl)
    (fun _ _ _ _ _ => rfl) d src scope arg hs
@[simp] theorem Dev.raise_lowRails (d : Dev) (src scope arg : Nat) (hs : src < 0x100) : (d.raise src scope arg).lowRails = d.lowRails :=
  Dev.raise_keeps (fun d => d.lowRails) (fun _ _ _ _ => rfl) (fun _ _ _ => rfl) (fun _ _ _ _ _ => rfl) (fun _ _ => rfl) (fun _ _ _ => rfl)
    (fun _ _ _ _ _ => rfl) d src scope arg hs
@[simp] theorem Dev.raise_railsOut (d : Dev) (src scope arg : Nat) (hs : src < 0x100) : (d.raise src scope arg).railsOut = d.railsOut :=
  Dev.raise_keeps (fun d => d.railsOut) (fun _ _ _ _ => rfl) (fun _ _ _ => rfl) (fun _ _ _ _ _ => rfl) (fun _ _ => rfl) (fun _ _ _ => rfl)
    (fun _ _ _ _ _ => rfl) d src scope arg hs
@[simp] theorem Dev.raise_vault (d : Dev) (src scope arg : Nat) (hs : src < 0x100) : (d.raise src scope arg).vault = d.vault :=
  Dev.raise_keeps (fun d => d.vault) (fun _ _ _ _ => rfl) (fun _ _ _ => rfl) (fun _ _ _ _ _ => rfl) (fun _ _ => rfl) (fun _ _ _ => rfl)
    (fun _ _ _ _ _ => rfl) d src scope arg hs
@[simp] theorem Dev.raise_cellar (d : Dev) (src scope arg : Nat) (hs : src < 0x100) : (d.raise src scope arg).cellar = d.cellar :=
  Dev.raise_keeps (fun d => d.cellar) (fun _ _ _ _ => rfl) (fun _ _ _ => rfl) (fun _ _ _ _ _ => rfl) (fun _ _ => rfl) (fun _ _ _ => rfl)
    (fun _ _ _ _ _ => rfl) d src scope arg hs
@[simp] theorem Dev.raise_tags (d : Dev) (src scope arg : Nat) (hs : src < 0x100) : (d.raise src scope arg).tags = d.tags :=
  Dev.raise_keeps (fun d => d.tags) (fun _ _ _ _ => rfl) (fun _ _ _ => rfl) (fun _ _ _ _ _ => rfl) (fun _ _ => rfl) (fun _ _ _ => rfl)
    (fun _ _ _ _ _ => rfl) d src scope arg hs
@[simp] theorem Dev.raise_binds (d : Dev) (src scope arg : Nat) (hs : src < 0x100) : (d.raise src scope arg).binds = d.binds :=
  Dev.raise_keeps (fun d => d.binds) (fun _ _ _ _ => rfl) (fun _ _ _ => rfl) (fun _ _ _ _ _ => rfl) (fun _ _ => rfl) (fun _ _ _ => rfl)
    (fun _ _ _ _ _ => rfl) d src scope arg hs
@[simp] theorem Dev.raise_rfs (d : Dev) (src scope arg : Nat) (hs : src < 0x100) : (d.raise src scope arg).rfs = d.rfs :=
  Dev.raise_keeps (fun d => d.rfs) (fun _ _ _ _ => rfl) (fun _ _ _ => rfl) (fun _ _ _ _ _ => rfl) (fun _ _ => rfl) (fun _ _ _ => rfl)
    (fun _ _ _ _ _ => rfl) d src scope arg hs
@[simp] theorem Dev.raise_nvs (d : Dev) (src scope arg : Nat) (hs : src < 0x100) : (d.raise src scope arg).nvs = d.nvs :=
  Dev.raise_keeps (fun d => d.nvs) (fun _ _ _ _ => rfl) (fun _ _ _ => rfl) (fun _ _ _ _ _ => rfl) (fun _ _ => rfl) (fun _ _ _ => rfl)
    (fun _ _ _ _ _ => rfl) d src scope arg hs
@[simp] theorem Dev.raise_linkq (d : Dev) (src scope arg : Nat) (hs : src < 0x100) : (d.raise src scope arg).linkq = d.linkq :=
  Dev.raise_keeps (fun d => d.linkq) (fun _ _ _ _ => rfl) (fun _ _ _ => rfl) (fun _ _ _ _ _ => rfl) (fun _ _ => rfl) (fun _ _ _ => rfl)
    (fun _ _ _ _ _ => rfl) d src scope arg hs
@[simp] theorem Dev.raise_wire (d : Dev) (src scope arg : Nat) (hs : src < 0x100) : (d.raise src scope arg).wire = d.wire :=
  Dev.raise_keeps (fun d => d.wire) (fun _ _ _ _ => rfl) (fun _ _ _ => rfl) (fun _ _ _ _ _ => rfl) (fun _ _ => rfl) (fun _ _ _ => rfl)
    (fun _ _ _ _ _ => rfl) d src scope arg hs
@[simp] theorem Dev.raise_axls (d : Dev) (src scope arg : Nat) (hs : src < 0x100) : (d.raise src scope arg).axls = d.axls :=
  Dev.raise_keeps (fun d => d.axls) (fun _ _ _ _ => rfl) (fun _ _ _ => rfl) (fun _ _ _ _ _ => rfl) (fun _ _ => rfl) (fun _ _ _ => rfl)
    (fun _ _ _ _ _ => rfl) d src scope arg hs
@[simp] theorem Dev.raise_slotK (d : Dev) (src scope arg : Nat) (hs : src < 0x100) : (d.raise src scope arg).slotK = d.slotK :=
  Dev.raise_keeps (fun d => d.slotK) (fun _ _ _ _ => rfl) (fun _ _ _ => rfl) (fun _ _ _ _ _ => rfl) (fun _ _ => rfl) (fun _ _ _ => rfl)
    (fun _ _ _ _ _ => rfl) d src scope arg hs
@[simp] theorem Dev.raise_ports (d : Dev) (src scope arg : Nat) (hs : src < 0x100) : (d.raise src scope arg).ports = d.ports :=
  Dev.raise_keeps (fun d => d.ports) (fun _ _ _ _ => rfl) (fun _ _ _ => rfl) (fun _ _ _ _ _ => rfl) (fun _ _ => rfl) (fun _ _ _ => rfl)
    (fun _ _ _ _ _ => rfl) d src scope arg hs
@[simp] theorem Dev.raise_mtbs (d : Dev) (src scope arg : Nat) (hs : src < 0x100) : (d.raise src scope arg).mtbs = d.mtbs :=
  Dev.raise_keeps (fun d => d.mtbs) (fun _ _ _ _ => rfl) (fun _ _ _ => rfl) (fun _ _ _ _ _ => rfl) (fun _ _ => rfl) (fun _ _ _ => rfl)
    (fun _ _ _ _ _ => rfl) d src scope arg hs
@[simp] theorem Dev.raise_copies (d : Dev) (src scope arg : Nat) (hs : src < 0x100) : (d.raise src scope arg).copies = d.copies :=
  Dev.raise_keeps (fun d => d.copies) (fun _ _ _ _ => rfl) (fun _ _ _ => rfl) (fun _ _ _ _ _ => rfl) (fun _ _ => rfl) (fun _ _ _ => rfl)
    (fun _ _ _ _ _ => rfl) d src scope arg hs
@[simp] theorem Dev.raise_trimmed (d : Dev) (src scope arg : Nat) (hs : src < 0x100) : (d.raise src scope arg).trimmed = d.trimmed :=
  Dev.raise_keeps (fun d => d.trimmed) (fun _ _ _ _ => rfl) (fun _ _ _ => rfl) (fun _ _ _ _ _ => rfl) (fun _ _ => rfl) (fun _ _ _ => rfl)
    (fun _ _ _ _ _ => rfl) d src scope arg hs
@[simp] theorem Dev.raise_nvsq (d : Dev) (src scope arg : Nat) (hs : src < 0x100) : (d.raise src scope arg).nvsq = d.nvsq :=
  Dev.raise_keeps (fun d => d.nvsq) (fun _ _ _ _ => rfl) (fun _ _ _ => rfl) (fun _ _ _ _ _ => rfl) (fun _ _ => rfl) (fun _ _ _ => rfl)
    (fun _ _ _ _ _ => rfl) d src scope arg hs
@[simp] theorem Dev.raise_nvsBad (d : Dev) (src scope arg : Nat) (hs : src < 0x100) : (d.raise src scope arg).nvsBad = d.nvsBad :=
  Dev.raise_keeps (fun d => d.nvsBad) (fun _ _ _ _ => rfl) (fun _ _ _ => rfl) (fun _ _ _ _ _ => rfl) (fun _ _ => rfl) (fun _ _ _ => rfl)
    (fun _ _ _ _ _ => rfl) d src scope arg hs
@[simp] theorem Dev.raise_slotOk (d : Dev) (src scope arg : Nat) (hs : src < 0x100) : (d.raise src scope arg).slotOk = d.slotOk :=
  Dev.raise_keeps (fun d => d.slotOk) (fun _ _ _ _ => rfl) (fun _ _ _ => rfl) (fun _ _ _ _ _ => rfl) (fun _ _ => rfl) (fun _ _ _ => rfl)
    (fun _ _ _ _ _ => rfl) d src scope arg hs
@[simp] theorem Dev.raise_indAt (d : Dev) (src scope arg : Nat) (hs : src < 0x100) : (d.raise src scope arg).indAt = d.indAt :=
  Dev.raise_keeps (fun d => d.indAt) (fun _ _ _ _ => rfl) (fun _ _ _ => rfl) (fun _ _ _ _ _ => rfl) (fun _ _ => rfl) (fun _ _ _ => rfl)
    (fun _ _ _ _ _ => rfl) d src scope arg hs
@[simp] theorem Dev.raise_indUse (d : Dev) (src scope arg : Nat) (hs : src < 0x100) : (d.raise src scope arg).indUse = d.indUse :=
  Dev.raise_keeps (fun d => d.indUse) (fun _ _ _ _ => rfl) (fun _ _ _ => rfl) (fun _ _ _ _ _ => rfl) (fun _ _ => rfl) (fun _ _ _ => rfl)
    (fun _ _ _ _ _ => rfl) d src scope arg hs
@[simp] theorem Dev.raise_indGot (d : Dev) (src scope arg : Nat) (hs : src < 0x100) : (d.raise src scope arg).indGot = d.indGot :=
  Dev.raise_keeps (fun d => d.indGot) (fun _ _ _ _ => rfl) (fun _ _ _ => rfl) (fun _ _ _ _ _ => rfl) (fun _ _ => rfl) (fun _ _ _ => rfl)
    (fun _ _ _ _ _ => rfl) d src scope arg hs
@[simp] theorem Dev.raise_snapAt (d : Dev) (src scope arg : Nat) (hs : src < 0x100) : (d.raise src scope arg).snapAt = d.snapAt :=
  Dev.raise_keeps (fun d => d.snapAt) (fun _ _ _ _ => rfl) (fun _ _ _ => rfl) (fun _ _ _ _ _ => rfl) (fun _ _ => rfl) (fun _ _ _ => rfl)
    (fun _ _ _ _ _ => rfl) d src scope arg hs
@[simp] theorem Dev.raise_fab (d : Dev) (src scope arg : Nat) (hs : src < 0x100) : (d.raise src scope arg).fab = d.fab :=
  Dev.raise_keeps (fun d => d.fab) (fun _ _ _ _ => rfl) (fun _ _ _ => rfl) (fun _ _ _ _ _ => rfl) (fun _ _ => rfl) (fun _ _ _ => rfl)
    (fun _ _ _ _ _ => rfl) d src scope arg hs
@[simp] theorem Dev.raise_chipAt (d : Dev) (src scope arg : Nat) (hs : src < 0x100) : (d.raise src scope arg).chipAt = d.chipAt :=
  Dev.raise_keeps (fun d => d.chipAt) (fun _ _ _ _ => rfl) (fun _ _ _ => rfl) (fun _ _ _ _ _ => rfl) (fun _ _ => rfl) (fun _ _ _ => rfl)
    (fun _ _ _ _ _ => rfl) d src scope arg hs
@[simp] theorem Dev.raise_patrol (d : Dev) (src scope arg : Nat) (hs : src < 0x100) : (d.raise src scope arg).patrol = d.patrol :=
  Dev.raise_keeps (fun d => d.patrol) (fun _ _ _ _ => rfl) (fun _ _ _ => rfl) (fun _ _ _ _ _ => rfl) (fun _ _ => rfl) (fun _ _ _ => rfl)
    (fun _ _ _ _ _ => rfl) d src scope arg hs
@[simp] theorem Dev.raise_scrubAt (d : Dev) (src scope arg : Nat) (hs : src < 0x100) : (d.raise src scope arg).scrubAt = d.scrubAt :=
  Dev.raise_keeps (fun d => d.scrubAt) (fun _ _ _ _ => rfl) (fun _ _ _ => rfl) (fun _ _ _ _ _ => rfl) (fun _ _ => rfl) (fun _ _ _ => rfl)
    (fun _ _ _ _ _ => rfl) d src scope arg hs
@[simp] theorem Dev.raise_patrolAt (d : Dev) (src scope arg : Nat) (hs : src < 0x100) : (d.raise src scope arg).patrolAt = d.patrolAt :=
  Dev.raise_keeps (fun d => d.patrolAt) (fun _ _ _ _ => rfl) (fun _ _ _ => rfl) (fun _ _ _ _ _ => rfl) (fun _ _ => rfl) (fun _ _ _ => rfl)
    (fun _ _ _ _ _ => rfl) d src scope arg hs
@[simp] theorem Dev.raise_nvsAt (d : Dev) (src scope arg : Nat) (hs : src < 0x100) : (d.raise src scope arg).nvsAt = d.nvsAt :=
  Dev.raise_keeps (fun d => d.nvsAt) (fun _ _ _ _ => rfl) (fun _ _ _ => rfl) (fun _ _ _ _ _ => rfl) (fun _ _ => rfl) (fun _ _ _ => rfl)
    (fun _ _ _ _ _ => rfl) d src scope arg hs
@[simp] theorem Dev.raise_loadRes (d : Dev) (src scope arg : Nat) (hs : src < 0x100) : (d.raise src scope arg).loadRes = d.loadRes :=
  Dev.raise_keeps (fun d => d.loadRes) (fun _ _ _ _ => rfl) (fun _ _ _ => rfl) (fun _ _ _ _ _ => rfl) (fun _ _ => rfl) (fun _ _ _ => rfl)
    (fun _ _ _ _ _ => rfl) d src scope arg hs
@[simp] theorem Dev.raise_dueAt (d : Dev) (src scope arg : Nat) (hs : src < 0x100) : (d.raise src scope arg).dueAt = d.dueAt :=
  Dev.raise_keeps (fun d => d.dueAt) (fun _ _ _ _ => rfl) (fun _ _ _ => rfl) (fun _ _ _ _ _ => rfl) (fun _ _ => rfl) (fun _ _ _ => rfl)
    (fun _ _ _ _ _ => rfl) d src scope arg hs
@[simp] theorem Dev.raise_leg (d : Dev) (src scope arg n : Nat) (hs : src < 0x100) : (d.raise src scope arg).leg n = d.leg n := by
  simp only [Dev.leg, Dev.raise_legs _ _ _ _ hs]
@[simp] theorem Dev.raise_unit (d : Dev) (src scope arg n : Nat) (hs : src < 0x100) : (d.raise src scope arg).unit n = d.unit n := by
  simp only [Dev.unit, Dev.raise_units _ _ _ _ hs]
@[simp] theorem Dev.raise_lane_held (d : Dev) (src scope arg n : Nat) (hs : src < 0x100) : ((d.raise src scope arg).lane n).held = (d.lane n).held :=
  Dev.raise_keeps (fun d => (d.lane n).held) (fun _ _ _ _ => rfl) (fun _ _ _ => rfl)
    (fun d b _ _ _ => by simp only [Dev.lane_setLane]; split <;> simp_all)
    (fun _ _ => rfl) (fun _ _ _ => rfl) (fun _ _ _ _ _ => rfl) d src scope arg hs
@[simp] theorem Dev.raise_lane_g (d : Dev) (src scope arg n : Nat) (hs : src < 0x100) : ((d.raise src scope arg).lane n).g = (d.lane n).g :=
  Dev.raise_keeps (fun d => (d.lane n).g) (fun _ _ _ _ => rfl) (fun _ _ _ => rfl)
    (fun d b _ _ _ => by simp only [Dev.lane_setLane]; split <;> simp_all)
    (fun _ _ => rfl) (fun _ _ _ => rfl) (fun _ _ _ _ _ => rfl) d src scope arg hs
@[simp] theorem Dev.raise_lane_acc (d : Dev) (src scope arg n : Nat) (hs : src < 0x100) : ((d.raise src scope arg).lane n).acc = (d.lane n).acc :=
  Dev.raise_keeps (fun d => (d.lane n).acc) (fun _ _ _ _ => rfl) (fun _ _ _ => rfl)
    (fun d b _ _ _ => by simp only [Dev.lane_setLane]; split <;> simp_all)
    (fun _ _ => rfl) (fun _ _ _ => rfl) (fun _ _ _ _ _ => rfl) d src scope arg hs
@[simp] theorem Dev.raise_lane_vm (d : Dev) (src scope arg n : Nat) (hs : src < 0x100) : ((d.raise src scope arg).lane n).vm = (d.lane n).vm :=
  Dev.raise_keeps (fun d => (d.lane n).vm) (fun _ _ _ _ => rfl) (fun _ _ _ => rfl)
    (fun d b _ _ _ => by simp only [Dev.lane_setLane]; split <;> simp_all)
    (fun _ _ => rfl) (fun _ _ _ => rfl) (fun _ _ _ _ _ => rfl) d src scope arg hs
@[simp] theorem Dev.raise_lane_ve (d : Dev) (src scope arg n : Nat) (hs : src < 0x100) : ((d.raise src scope arg).lane n).ve = (d.lane n).ve :=
  Dev.raise_keeps (fun d => (d.lane n).ve) (fun _ _ _ _ => rfl) (fun _ _ _ => rfl)
    (fun d b _ _ _ => by simp only [Dev.lane_setLane]; split <;> simp_all)
    (fun _ _ => rfl) (fun _ _ _ => rfl) (fun _ _ _ _ _ => rfl) d src scope arg hs
@[simp] theorem Dev.raise_lane_pc (d : Dev) (src scope arg n : Nat) (hs : src < 0x100) : ((d.raise src scope arg).lane n).pc = (d.lane n).pc :=
  Dev.raise_keeps (fun d => (d.lane n).pc) (fun _ _ _ _ => rfl) (fun _ _ _ => rfl)
    (fun d b _ _ _ => by simp only [Dev.lane_setLane]; split <;> simp_all)
    (fun _ _ => rfl) (fun _ _ _ => rfl) (fun _ _ _ _ _ => rfl) d src scope arg hs
@[simp] theorem Dev.raise_lane_issued (d : Dev) (src scope arg n : Nat) (hs : src < 0x100) : ((d.raise src scope arg).lane n).issued = (d.lane n).issued :=
  Dev.raise_keeps (fun d => (d.lane n).issued) (fun _ _ _ _ => rfl) (fun _ _ _ => rfl)
    (fun d b _ _ _ => by simp only [Dev.lane_setLane]; split <;> simp_all)
    (fun _ _ => rfl) (fun _ _ _ => rfl) (fun _ _ _ _ _ => rfl) d src scope arg hs
@[simp] theorem Dev.raise_lane_nextAt (d : Dev) (src scope arg n : Nat) (hs : src < 0x100) : ((d.raise src scope arg).lane n).nextAt = (d.lane n).nextAt :=
  Dev.raise_keeps (fun d => (d.lane n).nextAt) (fun _ _ _ _ => rfl) (fun _ _ _ => rfl)
    (fun d b _ _ _ => by simp only [Dev.lane_setLane]; split <;> simp_all)
    (fun _ _ => rfl) (fun _ _ _ => rfl) (fun _ _ _ _ _ => rfl) d src scope arg hs
@[simp] theorem Dev.raise_lane_redirect (d : Dev) (src scope arg n : Nat) (hs : src < 0x100) : ((d.raise src scope arg).lane n).redirect = (d.lane n).redirect :=
  Dev.raise_keeps (fun d => (d.lane n).redirect) (fun _ _ _ _ => rfl) (fun _ _ _ => rfl)
    (fun d b _ _ _ => by simp only [Dev.lane_setLane]; split <;> simp_all)
    (fun _ _ => rfl) (fun _ _ _ => rfl) (fun _ _ _ _ _ => rfl) d src scope arg hs
@[simp] theorem Dev.raise_lane_writes (d : Dev) (src scope arg n : Nat) (hs : src < 0x100) : ((d.raise src scope arg).lane n).writes = (d.lane n).writes :=
  Dev.raise_keeps (fun d => (d.lane n).writes) (fun _ _ _ _ => rfl) (fun _ _ _ => rfl)
    (fun d b _ _ _ => by simp only [Dev.lane_setLane]; split <;> simp_all)
    (fun _ _ => rfl) (fun _ _ _ => rfl) (fun _ _ _ _ _ => rfl) d src scope arg hs
@[simp] theorem Dev.raise_lane_loops (d : Dev) (src scope arg n : Nat) (hs : src < 0x100) : ((d.raise src scope arg).lane n).loops = (d.lane n).loops :=
  Dev.raise_keeps (fun d => (d.lane n).loops) (fun _ _ _ _ => rfl) (fun _ _ _ => rfl)
    (fun d b _ _ _ => by simp only [Dev.lane_setLane]; split <;> simp_all)
    (fun _ _ => rfl) (fun _ _ _ => rfl) (fun _ _ _ _ _ => rfl) d src scope arg hs
@[simp] theorem Dev.raise_lane_link (d : Dev) (src scope arg n : Nat) (hs : src < 0x100) : ((d.raise src scope arg).lane n).link = (d.lane n).link :=
  Dev.raise_keeps (fun d => (d.lane n).link) (fun _ _ _ _ => rfl) (fun _ _ _ => rfl)
    (fun d b _ _ _ => by simp only [Dev.lane_setLane]; split <;> simp_all)
    (fun _ _ => rfl) (fun _ _ _ => rfl) (fun _ _ _ _ _ => rfl) d src scope arg hs
@[simp] theorem Dev.raise_lane_phase (d : Dev) (src scope arg n : Nat) (hs : src < 0x100) : ((d.raise src scope arg).lane n).phase = (d.lane n).phase :=
  Dev.raise_keeps (fun d => (d.lane n).phase) (fun _ _ _ _ => rfl) (fun _ _ _ => rfl)
    (fun d b _ _ _ => by simp only [Dev.lane_setLane]; split <;> simp_all)
    (fun _ _ => rfl) (fun _ _ _ => rfl) (fun _ _ _ _ _ => rfl) d src scope arg hs
@[simp] theorem Dev.raise_lane_completed (d : Dev) (src scope arg n : Nat) (hs : src < 0x100) : ((d.raise src scope arg).lane n).completed = (d.lane n).completed :=
  Dev.raise_keeps (fun d => (d.lane n).completed) (fun _ _ _ _ => rfl) (fun _ _ _ => rfl)
    (fun d b _ _ _ => by simp only [Dev.lane_setLane]; split <;> simp_all)
    (fun _ _ => rfl) (fun _ _ _ => rfl) (fun _ _ _ _ _ => rfl) d src scope arg hs
@[simp] theorem Dev.raise_lane_overrunLast (d : Dev) (src scope arg n : Nat) (hs : src < 0x100) : ((d.raise src scope arg).lane n).overrunLast = (d.lane n).overrunLast :=
  Dev.raise_keeps (fun d => (d.lane n).overrunLast) (fun _ _ _ _ => rfl) (fun _ _ _ => rfl)
    (fun d b _ _ _ => by simp only [Dev.lane_setLane]; split <;> simp_all)
    (fun _ _ => rfl) (fun _ _ _ => rfl) (fun _ _ _ _ _ => rfl) d src scope arg hs
@[simp] theorem Dev.raise_lane_subStart (d : Dev) (src scope arg n : Nat) (hs : src < 0x100) : ((d.raise src scope arg).lane n).subStart = (d.lane n).subStart :=
  Dev.raise_keeps (fun d => (d.lane n).subStart) (fun _ _ _ _ => rfl) (fun _ _ _ => rfl)
    (fun d b _ _ _ => by simp only [Dev.lane_setLane]; split <;> simp_all)
    (fun _ _ => rfl) (fun _ _ _ => rfl) (fun _ _ _ _ _ => rfl) d src scope arg hs

end Sys2Proof.Machine
end

