-- ==== Sys2Proof/Laws/Faults.lean ====
section
/-! SUPPORT. What the operations of faults, orders and unit transitions can change, in one relation that each of them keeps. -/

namespace Sys2Proof.Machine

/-- The registers that faults and unit transitions may write: the event router's, a unit's, a leg's, the block causes, and the
chip's HSL and cause registers. -/
def FaultReg (a : Nat) : Prop :=
  RouterReg a ∨ (∃ u, u < 32 ∧ unitReg u ≤ a ∧ a < unitReg u + 0x40) ∨ (∃ k, legReg k ≤ a ∧ a < legReg k + 0x100) ∨
    (∃ b, blkReg b + 0x40 ≤ a ∧ a < blkReg b + 0x50) ∨ (0x40020000 ≤ a ∧ a < 0x40021000)

/-- A device without what faults may change; a lane without its condition freshness; a leg without what orders change. -/
def Dev.rest (d : Dev) : Dev :=
  { d with
    regs := [], lanes := [], legs := [], units := [], causeAt := [], stage := [], caps := [], racks := [],
    notices := [], dacAt := [], setAt := 0, setBits := [] }
def Lane.core (l : Lane) : Lane := { l with freshAt := 0, fresh := 0, freshNew := 0 }
def Leg.core (l : Leg) : Leg :=
  { l with
    st := .off, drvH := false, drvL := false, soft := false, hsl := false, cur := 0, next := none, req := false, offAtH := 0,
    offAtL := 0, want := none, modeHold := none, blankEnd := 0, blanking := false, blankFrom := 0, onAtL := 0, rampFrom := 0,
    rampVal := 0, tripAt := none, compAt := none, softAt := 0, settleAt := 0, zeroAt := 0, restart := none, peakDone := false,
    late := false, zcdHeld := none }

/-- What an order or a fault leaves of a leg: its carrier, what its channels show, its comparators and its commits; a leg in FAULT
stays there, and no channel of it is turned on. -/
structure LegKeeps (l m : Leg) : Prop where
  core : m.core = l.core
  fault : l.st = .fault → m.st = .fault ∧ (l.drvH = false → m.drvH = false) ∧ (l.drvL = false → m.drvL = false)

theorem LegKeeps.refl (l : Leg) : LegKeeps l l := ⟨rfl, fun h => ⟨h, id, id⟩⟩

theorem LegKeeps.trans {l m n : Leg} (a : LegKeeps l m) (b : LegKeeps m n) : LegKeeps l n := by
  refine ⟨b.core.trans a.core, fun h => ?_⟩
  have h1 := a.fault h
  have h2 := b.fault h1.1
  exact ⟨h2.1, fun x => h2.2.1 (h1.2.1 x), fun x => h2.2.2 (h1.2.2 x)⟩

/-- What faults, orders and unit transitions leave of a device. -/
structure FaultKeeps (d e : Dev) : Prop where
  rest : e.rest = d.rest
  lane : ∀ b, (e.lane b).core = (d.lane b).core
  leg : ∀ k, LegKeeps (d.leg k) (e.leg k)
  reg : ∀ a, ¬ FaultReg a → e.reg a = d.reg a

theorem FaultKeeps.refl (d : Dev) : FaultKeeps d d := ⟨rfl, fun _ => rfl, fun _ => LegKeeps.refl _, fun _ _ => rfl⟩

theorem FaultKeeps.trans {d e f : Dev} (a : FaultKeeps d e) (b : FaultKeeps e f) : FaultKeeps d f :=
  ⟨b.rest.trans a.rest, fun n => (b.lane n).trans (a.lane n), fun k => (a.leg k).trans (b.leg k),
    fun n h => (b.reg n h).trans (a.reg n h)⟩

variable {d e : Dev}

theorem FaultKeeps.setReg (h : FaultKeeps d e) {a : Nat} (ha : FaultReg a) (w : Word) : FaultKeeps d (e.setReg a w) :=
  h.trans ⟨rfl, fun _ => rfl, fun _ => LegKeeps.refl _, fun _ hx => Dev.reg_setReg_ne _ _ (fun q => hx (q ▸ ha))⟩

theorem FaultKeeps.setFld (h : FaultKeeps d e) {b : Nat} {f : Fld} (ha : FaultReg (b + f.off)) (v : Nat) : FaultKeeps d (e.setFld b f v) :=
  h.setReg ha _

theorem FaultKeeps.bump (h : FaultKeeps d e) {b : Nat} {f : Fld} (ha : FaultReg (b + f.off)) : FaultKeeps d (e.bump b f) := h.setReg ha _

theorem FaultKeeps.bumpWrap (h : FaultKeeps d e) {b : Nat} {f : Fld} (ha : FaultReg (b + f.off)) : FaultKeeps d (e.bumpWrap b f) :=
  h.setReg ha _

theorem FaultKeeps.setUnit (h : FaultKeeps d e) (u : Nat) (x : UnitRec) : FaultKeeps d (e.setUnit u x) :=
  h.trans ⟨rfl, fun _ => rfl, fun _ => LegKeeps.refl _, fun _ _ => rfl⟩

/-- The leg as it is kept agrees with what was put, but that channels may be off and a turn-on dropped. -/
theorem keptLeg_keeps (d : Dev) (k : Nat) {l m : Leg} (h : LegKeeps l m) : LegKeeps l (d.keptLeg k m) := by
  refine h.trans ⟨?_, fun hf => ?_⟩
  · simp only [Dev.keptLeg, Leg.interlocked]; split <;> split <;> rfl
  · simp only [Dev.keptLeg, Leg.interlocked]; split <;> split <;> simp [hf]

theorem FaultKeeps.setLeg (h : FaultKeeps d e) (k : Nat) {l : Leg} (hl : LegKeeps (e.leg k) l) : FaultKeeps d (e.setLeg k l) := by
  refine h.trans ⟨rfl, fun _ => rfl, fun n => ?_, fun _ _ => rfl⟩
  rw [Dev.leg_setLeg]
  split
  · rename_i q; subst q; exact keptLeg_keeps _ _ hl
  · exact LegKeeps.refl _

theorem FaultKeeps.setCond (h : FaultKeeps d e) (b m : Nat) : FaultKeeps d (e.setCond b m) := by
  refine h.trans ⟨Dev.setCond_keeps Dev.rest (fun _ _ _ _ => rfl) (fun _ _ _ => rfl) (fun _ _ _ _ _ => rfl) e b m, fun n => ?_, fun k => ?_, fun x hx => ?_⟩
  · refine Dev.setCond_keeps (fun x => (x.lane n).core) (fun _ _ _ _ => rfl) (fun _ _ _ => rfl) (fun d b x y z => ?_) e b m
    simp only [Dev.lane_setLane]
    split
    · rename_i q; subst q; rfl
    · rfl
  · rw [Dev.setCond_keeps (fun x => x.leg k) (fun _ _ _ _ => rfl) (fun _ _ _ => rfl) (fun _ _ _ _ _ => rfl) e b m]; exact LegKeeps.refl _
  · exact Dev.setCond_keeps (fun d => d.reg x) (fun d a w ha => Dev.reg_setReg_ne _ _ (fun q => hx (q ▸ Or.inl ha)))
      (fun _ _ _ => rfl) (fun _ _ _ _ _ => rfl) e b m

theorem FaultKeeps.raise (h : FaultKeeps d e) {src : Nat} (scope arg : Nat) (hs : src < 0x100) : FaultKeeps d (e.raise src scope arg) := by
  refine h.trans ⟨?_, fun n => ?_, fun k => ?_, fun x hx => Dev.raise_reg _ _ _ _ _ hs (fun q => hx (Or.inl q))⟩
  · exact Dev.raise_keeps Dev.rest (fun _ _ _ _ => rfl) (fun _ _ _ => rfl) (fun _ _ _ _ _ => rfl) (fun _ _ => rfl) (fun _ _ _ => rfl)
      (fun _ _ _ _ _ => rfl) e src scope arg hs
  · refine Dev.raise_keeps (fun x => (x.lane n).core) (fun _ _ _ _ => rfl) (fun _ _ _ => rfl) (fun d b x y z => ?_) (fun _ _ => rfl) (fun _ _ _ => rfl)
      (fun _ _ _ _ _ => rfl) e src scope arg hs
    simp only [Dev.lane_setLane]
    split
    · rename_i q; subst q; rfl
    · rfl
  · rw [Dev.raise_leg _ _ _ _ _ hs]; exact LegKeeps.refl _

theorem FaultKeeps.noteSet (h : FaultKeeps d e) (a v : Nat) : FaultKeeps d (e.noteSet a v) :=
  h.trans ⟨rfl, fun _ => rfl, fun _ => LegKeeps.refl _, fun _ _ => rfl⟩

theorem FaultKeeps.each (f : Nat → Dev → Dev) (l : List Nat) (hf : ∀ k ∈ l, ∀ e, FaultKeeps d e → FaultKeeps d (f k e))
    (h : FaultKeeps d e) : FaultKeeps d (e.each l f) := by
  unfold Dev.each
  induction l generalizing e with
  | nil => exact h
  | cons k t ih => exact ih (fun j hj => hf j (List.mem_cons_of_mem _ hj)) (hf k List.mem_cons_self e h)

theorem FaultKeeps.causeAt (h : FaultKeeps d e) (x : Store Nat) : FaultKeeps d { e with causeAt := x } :=
  h.trans ⟨rfl, fun _ => rfl, fun _ => LegKeeps.refl _, fun _ _ => rfl⟩

/-- A cause register whose word and time stamp may be written. -/
def CauseReg.plain (c : CauseReg) : Prop :=
  FaultReg c.at_ ∧ ∀ o, c.ts = some o → FaultReg (c.at_ + o) ∧ FaultReg (c.at_ + o + 4)

theorem FaultKeeps.latchCause (h : FaultKeeps d e) {c : CauseReg} (hc : c.plain) (i : Nat) : FaultKeeps d (e.latchCause c i) := by
  unfold Dev.latchCause
  dsimp only
  have h := h.noteSet c.at_ (2 ^ i)
  split
  · refine FaultKeeps.causeAt ?_ _
    cases hts : c.ts with
    | none => exact h.setReg hc.1 _
    | some o => exact ((h.setReg hc.1 _).setReg (hc.2 o hts).1 _).setReg (hc.2 o hts).2 _
  · split
    · exact h.setReg hc.1 _
    · exact h.setReg hc.1 _

theorem faultReg_unit {u o : Nat} (hu : u < 32) (ho : o < 0x40) : FaultReg (unitReg u + o) :=
  Or.inr (Or.inl ⟨u, hu, Nat.le_add_right _ _, Nat.add_lt_add_left ho _⟩)
theorem faultReg_leg (k : Nat) {o : Nat} (ho : o < 0x100) : FaultReg (legReg k + o) :=
  Or.inr (Or.inr (Or.inl ⟨k, Nat.le_add_right _ _, Nat.add_lt_add_left ho _⟩))
theorem faultReg_blk (b : Nat) {o : Nat} (h1 : 0x40 ≤ o) (h2 : o < 0x50) : FaultReg (blkReg b + o) :=
  Or.inr (Or.inr (Or.inr (Or.inl ⟨b, Nat.add_le_add_left h1 _, Nat.add_lt_add_left h2 _⟩)))
theorem faultReg_chip {a : Nat} (h1 : 0x40020000 ≤ a) (h2 : a < 0x40021000) : FaultReg a := Or.inr (Or.inr (Or.inr (Or.inr ⟨h1, h2⟩)))
theorem faultReg_unitFld {u : Nat} (hu : u < 32) {f : Fld} (h1 : 0x2000 ≤ f.off) (h2 : f.off < 0x2040) : FaultReg (unitBase u + f.off) := by
  have e : unitBase u + f.off = unitReg u + (f.off - 0x2000) := by unfold unitBase unitReg; omega
  rw [e]; exact faultReg_unit hu (by omega)

theorem legCause_plain (k : Nat) : (legCause k).plain := by
  refine ⟨faultReg_leg k (by norm_num), fun o ho => ?_⟩
  have e : o = 4 := by simpa [legCause] using ho.symm
  subst e
  exact ⟨by simpa [legCause, Nat.add_assoc] using faultReg_leg k (o := 0x28) (by norm_num),
    by simpa [legCause, Nat.add_assoc] using faultReg_leg k (o := 0x2C) (by norm_num)⟩

theorem unitCause_plain {u : Nat} (hu : u < 32) : (unitCause u).plain := by
  refine ⟨faultReg_unit hu (by norm_num), fun o ho => ?_⟩
  have e : o = 8 := by simpa [unitCause] using ho.symm
  subst e
  exact ⟨by simpa [unitCause, Nat.add_assoc] using faultReg_unit hu (o := 0x14) (by norm_num),
    by simpa [unitCause, Nat.add_assoc] using faultReg_unit hu (o := 0x18) (by norm_num)⟩

theorem blkCause_plain (b : Nat) : (blkCause b).plain := by
  refine ⟨faultReg_blk b (by norm_num) (by norm_num), fun o ho => ?_⟩
  have e : o = 4 := by simpa [blkCause] using ho.symm
  subst e
  exact ⟨by simpa [blkCause, Nat.add_assoc] using faultReg_blk b (o := 0x44) (by norm_num) (by norm_num),
    by simpa [blkCause, Nat.add_assoc] using faultReg_blk b (o := 0x48) (by norm_num) (by norm_num)⟩

theorem chipCause_plain : chipCause.plain := by
  refine ⟨faultReg_chip (by norm_num [chipCause]) (by norm_num [chipCause]), fun o ho => ?_⟩
  have e : o = 4 := by simpa [chipCause] using ho.symm
  subst e
  exact ⟨faultReg_chip (by norm_num [chipCause]) (by norm_num [chipCause]), faultReg_chip (by norm_num [chipCause]) (by norm_num [chipCause])⟩

/-! ### Legs -/

theorem LegKeeps.ofCore {l m : Leg} (hc : m.core = l.core) (hf : l.st ≠ .fault) : LegKeeps l m := ⟨hc, fun h => absurd h hf⟩

@[simp] theorem Leg.turnOff_core (t : Nat) (l : Leg) (s : Side) : (l.turnOff t s).core = l.core := by
  cases s <;> simp only [Leg.turnOff] <;> split <;> rfl
@[simp] theorem Leg.turnOff_st (t : Nat) (l : Leg) (s : Side) : (l.turnOff t s).st = l.st := by
  cases s <;> simp only [Leg.turnOff] <;> split <;> rfl
@[simp] theorem Leg.allOff_core (t : Nat) (l : Leg) : (l.allOff t).core = l.core := by
  have : (l.allOff t).core = ((l.turnOff t .high).turnOff t .low).core := rfl
  rw [this]; simp
@[simp] theorem Leg.allOff_st (t : Nat) (l : Leg) : (l.allOff t).st = l.st := by
  have : (l.allOff t).st = ((l.turnOff t .high).turnOff t .low).st := rfl
  rw [this]; simp
@[simp] theorem Leg.allOff_drvH (t : Nat) (l : Leg) : (l.allOff t).drvH = false := by
  simp only [Leg.allOff, Leg.turnOff]; split <;> split <;> simp_all
@[simp] theorem Leg.allOff_drvL (t : Nat) (l : Leg) : (l.allOff t).drvL = false := by
  simp only [Leg.allOff, Leg.turnOff]; split <;> split <;> simp_all
@[simp] theorem Leg.turnOn_core (l : Leg) (s : Side) : (l.turnOn s).core = l.core := by
  cases s <;> simp only [Leg.turnOn] <;> split <;> rfl
@[simp] theorem Dev.startBlank_core (d : Dev) (k : Nat) (l : Leg) (s : Side) : (d.startBlank k l s).core = l.core := by
  simp only [Dev.startBlank]; split <;> split <;> rfl

theorem keptLeg_st (d : Dev) (k : Nat) (l : Leg) : (d.keptLeg k l).st = l.st := by
  simp only [Dev.keptLeg, Leg.interlocked]; split <;> split <;> rfl

theorem FaultKeeps.dacStepped (h : FaultKeeps d e) (r n old : Nat) : FaultKeeps d (e.dacStepped r n old) := by
  unfold Dev.dacStepped
  split
  · exact h
  · exact h.trans ⟨rfl, fun _ => rfl, fun _ => LegKeeps.refl _, fun _ _ => rfl⟩

theorem FaultKeeps.tryOn (h : FaultKeeps d e) (k t : Nat) (hf : (e.leg k).st ≠ .fault) : FaultKeeps d (e.tryOn k t) := by
  unfold Dev.tryOn
  dsimp only
  split
  · exact h
  · split
    · split
      · exact h.setLeg k (LegKeeps.ofCore rfl hf)
      · rename_i s _ _ _
        have hd : ∀ {f : Dev}, FaultKeeps d f → ∀ a b c, FaultKeeps d (f.dacStepped a b c) := fun g a b c => g.dacStepped a b c
        have hc : ∀ x : Leg, x.core = (e.leg k).core → ∀ n : Nat, ∀ v w : Nat,
            ({ x with onAtL := n, rampVal := v, rampFrom := w } : Leg).core = (e.leg k).core := fun x hx n v w => by
          have : ({ x with onAtL := n, rampVal := v, rampFrom := w } : Leg).core = x.core := rfl
          rw [this, hx]
        have h1 := h.setLeg k (LegKeeps.ofCore (hc (e.startBlank k ((e.leg k).turnOn s) s) (by simp)
          (if s = .low then t else (e.leg k).onAtL) (if (e.legMode k == 3 && e.controlSide k == s) = true then 0 else (e.leg k).rampVal)
          (if (e.legMode k == 3 && e.controlSide k == s) = true then e.now else (e.leg k).rampFrom)) hf)
        split
        · exact (hd h1 _ _ _).bumpWrap (faultReg_leg k (by norm_num))
        · exact (hd h1 _ _ _).bumpWrap (faultReg_leg k (by norm_num))
    · exact h

@[simp] theorem Dev.startCounter_core (d : Dev) (k : Nat) (l : Leg) : (d.startCounter k l).core = l.core := by
  simp only [Dev.startCounter]; split <;> rfl

theorem FaultKeeps.orderOff (h : FaultKeeps d e) (k : Nat) (hsl : Bool) : FaultKeeps d (e.orderOff k hsl) := by
  unfold Dev.orderOff
  dsimp only
  split
  · rename_i q; exact h.setLeg k (LegKeeps.ofCore (Leg.allOff_core _ _) (by simp [q]))
  · rename_i q; exact h.setLeg k (LegKeeps.ofCore (Leg.allOff_core _ _) (by simp [q]))
  all_goals first
    | exact h
    | (rename_i q; split
       · exact h.setLeg k (LegKeeps.ofCore (Leg.allOff_core _ _) (by simp [q]))
       · exact h)

theorem FaultKeeps.orderSoft (h : FaultKeeps d e) (k : Nat) (hsl : Bool) : FaultKeeps d (e.orderSoft k hsl) := by
  unfold Dev.orderSoft
  dsimp only
  have hc : ∀ (c : Bool) (t : Nat), ({ ((if c then (e.startCounter k (e.leg k)).allOff e.stepNow else
      { e.startCounter k (e.leg k) with want := none }).enter .softOff) with soft := true, softAt := t } : Leg).core = (e.leg k).core := by
    intro c t
    cases c
    · exact Dev.startCounter_core e k (e.leg k)
    · exact (Leg.allOff_core _ _).trans (Dev.startCounter_core e k (e.leg k))
  split
  all_goals first
    | exact h
    | (rename_i q; exact h.setLeg k (LegKeeps.ofCore (hc _ _) (by simp [q])))
    | (rename_i q; split
       · exact h.setLeg k (LegKeeps.ofCore (hc _ _) (by simp [q]))
       · exact h)

theorem FaultKeeps.orderAsc (h : FaultKeeps d e) (k : Nat) (s : Side) (hsl : Bool) : FaultKeeps d (e.orderAsc k s hsl) := by
  unfold Dev.orderAsc
  dsimp only
  have go : (e.leg k).st ≠ .fault → ∀ st : LegSt, st ≠ .fault → ∀ w : Option Side,
      FaultKeeps d ((e.setLeg k { (((e.startCounter k (e.leg k)).turnOff e.stepNow s.other).enter st) with
        want := w, soft := false }).tryOn k e.stepNow) := by
    intro hf st hst w
    refine (h.setLeg k (LegKeeps.ofCore ?_ hf)).tryOn k _ ?_
    · exact (Leg.turnOff_core _ _ _).trans (Dev.startCounter_core e k (e.leg k))
    · rw [Dev.leg_setLeg_same, keptLeg_st]; exact hst
  have hst : (match s with | .high => LegSt.ascHigh | .low => LegSt.ascLow) ≠ .fault := by cases s <;> simp
  split
  all_goals first
    | exact h
    | (rename_i q; exact go (by simp [q]) _ hst _)
    | (rename_i q; split
       · exact go (by simp [q]) _ hst _
       · exact h)

theorem FaultKeeps.order (h : FaultKeeps d e) (k : Nat) (a : Action) (hsl : Bool) : FaultKeeps d (e.order k a hsl) := by
  cases a
  · exact h
  · exact h.orderOff k hsl
  · exact h.orderSoft k hsl
  · exact h.orderAsc k .low hsl
  · exact h.orderAsc k .high hsl

theorem FaultKeeps.markHsl (h : FaultKeeps d e) (k : Nat) (on : Bool) : FaultKeeps d (e.markHsl k on) := by
  unfold Dev.markHsl
  dsimp only
  split
  · exact h
  · exact h.setLeg k ⟨rfl, fun q => ⟨q, id, id⟩⟩

/-! ### Units -/

theorem FaultKeeps.orderUnit (h : FaultKeeps d e) (u : Nat) (a : Action) (hsl : Bool) : FaultKeeps d (e.orderUnit u a hsl) :=
  FaultKeeps.each _ _ (fun k _ _ he => he.order k a hsl) h

theorem FaultKeeps.clearNext (h : FaultKeeps d e) (u : Nat) : FaultKeeps d (e.clearNext u) :=
  FaultKeeps.each _ _ (fun k _ _ he => he.setLeg k ⟨rfl, fun q => ⟨q, id, id⟩⟩) h

theorem FaultKeeps.startQuiet (h : FaultKeeps d e) (u : Nat) : FaultKeeps d (e.startQuiet u) := h.setUnit u _

theorem FaultKeeps.toDisabled (h : FaultKeeps d e) (u : Nat) : FaultKeeps d (e.toDisabled u) := by
  unfold Dev.toDisabled
  refine FaultKeeps.each _ _ (fun k _ f hf => ?_) (h.setUnit u _)
  split
  · rename_i q; exact hf.setLeg k (LegKeeps.ofCore (Leg.allOff_core _ _) (by simp [q]))
  · exact hf

theorem FaultKeeps.checkUnit (h : FaultKeeps d e) (u : Nat) : FaultKeeps d (e.checkUnit u) := by
  unfold Dev.checkUnit
  dsimp only
  repeat' split
  all_goals first | exact h | exact h.setUnit u _

theorem FaultKeeps.checkOwner (h : FaultKeeps d e) (k : Nat) : FaultKeeps d (e.checkOwner k) := by
  unfold Dev.checkOwner
  split
  · exact h.checkUnit _
  · exact h

theorem FaultKeeps.countFault (h : FaultKeeps d e) {u : Nat} (hu : u < 32) : FaultKeeps d (e.countFault u) :=
  (h.bump (faultReg_unitFld hu (by norm_num) (by norm_num))).setUnit u _

theorem FaultKeeps.takeDecision (h : FaultKeeps d e) (u : Nat) (a : Action) : FaultKeeps d (e.takeDecision u a) :=
  ((h.setUnit u _).orderUnit u a false).checkUnit u

theorem FaultKeeps.shutUnit (h : FaultKeeps d e) (u : Nat) : FaultKeeps d (e.shutUnit u) := (h.setUnit u _).clearNext u

theorem FaultKeeps.unitFault (h : FaultKeeps d e) {u : Nat} (hu : u < 32) (bit : Nat) : FaultKeeps d (e.unitFault u bit) := by
  unfold Dev.unitFault
  dsimp only
  have h1 := h.latchCause (unitCause_plain hu) bit
  split
  · exact ((h1.countFault hu).shutUnit u).takeDecision u _
  · split
    · exact h1
    · exact h1.countFault hu

theorem FaultKeeps.unitLevelFault (h : FaultKeeps d e) {u : Nat} (hu : u < 32) (bit : Nat) : FaultKeeps d (e.unitLevelFault u bit) := by
  unfold Dev.unitLevelFault
  dsimp only
  split
  · exact ((h.latchCause (unitCause_plain hu) bit).countFault hu).takeDecision u _
  · exact h.unitFault hu bit

theorem owner_lt {d : Dev} {k u : Nat} (h : d.owner k = some u) : u < 32 := by
  unfold Dev.owner at h
  split at h
  · have e := Option.some.inj h; subst e; exact bitsOf_lt _ 0 5
  · cases h

theorem FaultKeeps.decideFor (h : FaultKeeps d e) (u : Nat) (a : Action) : FaultKeeps d (e.decideFor u a) := h.setUnit u _

theorem FaultKeeps.notifyUnit (h : FaultKeeps d e) (k cause : Nat) : FaultKeeps d (e.notifyUnit k cause) := by
  unfold Dev.notifyUnit
  split
  · exact h
  · rename_i u ho
    have hu := owner_lt ho
    dsimp only
    split
    · exact h.unitFault hu 1
    · generalize (if cause = causeHsTo ∨ cause = causeIlk then 1 else 0) = bit
      generalize sideOf cause (e.flag (legReg k) F.LEG_FAULT_on_h) (e.flag (legReg k) F.LEG_FAULT_on_l) = side
      have h1 := h.latchCause (unitCause_plain hu) bit
      have rl : FaultReg (unitBase u + F.UNIT_ATTR_leg.off) := faultReg_unitFld hu (by norm_num) (by norm_num)
      have rs : FaultReg (unitBase u + F.UNIT_ATTR_side.off) := faultReg_unitFld hu (by norm_num) (by norm_num)
      split
      · have h2 := (((h1.setFld rl k).setFld rs side).countFault hu).shutUnit u
        split
        · exact h2.decideFor u _
        · exact h2.setUnit u _
      · split
        · split
          · exact (h1.setFld rs 3).decideFor u _
          · exact h1
        · exact h1.countFault hu

theorem FaultKeeps.hardLock (h : FaultKeeps d e) (k : Nat) : FaultKeeps d (e.hardLock k) := by
  unfold Dev.hardLock
  split
  · exact h
  · split
    · exact h.setUnit _ _
    · exact h

/-! ### Leg faults -/

theorem FaultKeeps.latchLeg (h : FaultKeeps d e) (k cause : Nat) : FaultKeeps d (e.latchLeg k cause) := by
  unfold Dev.latchLeg
  dsimp only
  have h1 := h.latchCause (legCause_plain k) cause
  split
  · exact (h1.setFld (faultReg_leg k (by norm_num)) _).setFld (faultReg_leg k (by norm_num)) _
  · exact h1

theorem FaultKeeps.noteCapture (h : FaultKeeps d e) (r : Nat) (p : Nat → Bool) : FaultKeeps d (e.noteCapture r p) := by
  unfold Dev.noteCapture
  dsimp only
  split
  · exact h.trans ⟨rfl, fun _ => rfl, fun _ => LegKeeps.refl _, fun _ _ => rfl⟩
  · exact h

/-- A leg that is put in FAULT with both channels off is kept so. -/
theorem LegKeeps.intoFault (t : Nat) (l : Leg) (w : Option Nat) :
    LegKeeps l { ((l.allOff t).enter .fault) with soft := false, tripAt := w } :=
  ⟨Leg.allOff_core t l, fun _ => ⟨rfl, fun _ => Leg.allOff_drvH t l, fun _ => Leg.allOff_drvL t l⟩⟩

theorem FaultKeeps.notify (h : FaultKeeps d e) (l : List (Nat × Nat)) : FaultKeeps d { e with notices := l } :=
  h.trans ⟨rfl, fun _ => rfl, fun _ => LegKeeps.refl _, fun _ _ => rfl⟩

theorem Dev.startCounter_keeps (d : Dev) (k : Nat) : LegKeeps (d.leg k) (d.startCounter k (d.leg k)) := by
  refine ⟨Dev.startCounter_core d k (d.leg k), fun q => ?_⟩
  have e : d.startCounter k (d.leg k) = d.leg k := by simp [Dev.startCounter, q]
  rw [e]
  exact ⟨q, id, id⟩

theorem FaultKeeps.enterFault (h : FaultKeeps d e) (k cause : Nat) : FaultKeeps d (e.enterFault k cause) := by
  unfold Dev.enterFault
  dsimp only
  refine FaultKeeps.checkOwner (FaultKeeps.notify (FaultKeeps.noteCapture (FaultKeeps.raise (FaultKeeps.setCond
    (h.setLeg k ?_) _ _) _ _ (by norm_num)) _ _) _) k
  exact (Dev.startCounter_keeps e k).trans (LegKeeps.intoFault _ _ _)

theorem FaultKeeps.legTrip (h : FaultKeeps d e) (k cause : Nat) : FaultKeeps d (e.legTrip k cause) := by
  unfold Dev.legTrip
  dsimp only
  have h0 := h.latchLeg k cause
  generalize e.latchLeg k cause = g at *
  have h1 : FaultKeeps d (if cause = causeHard then (g.setLeg k { g.leg k with compAt := none }).hardLock k else g) := by
    split
    · exact FaultKeeps.hardLock (h0.setLeg k (l := { g.leg k with compAt := none }) ⟨rfl, fun q => ⟨q, id, id⟩⟩) k
    · exact h0
  generalize (if cause = causeHard then (g.setLeg k { g.leg k with compAt := none }).hardLock k else g) = f at *
  have off : LegKeeps (f.leg k) { (f.leg k).allOff f.stepNow with tripAt := some f.now } :=
    ⟨Leg.allOff_core _ _, fun q => ⟨(Leg.allOff_st _ _).trans q, fun _ => Leg.allOff_drvH _ _, fun _ => Leg.allOff_drvL _ _⟩⟩
  split
  · exact h1.setLeg k off
  · exact h1.setLeg k off
  · exact h1.enterFault k cause

theorem FaultKeeps.legFaultAny (h : FaultKeeps d e) (k cause : Nat) : FaultKeeps d (e.legFaultAny k cause) := by
  unfold Dev.legFaultAny
  dsimp only
  have h1 := h.latchLeg k cause
  split
  · exact h1.setLeg k ⟨Leg.allOff_core _ _, fun q => ⟨(Leg.allOff_st _ _).trans q, fun _ => Leg.allOff_drvH _ _, fun _ => Leg.allOff_drvL _ _⟩⟩
  · exact h1.enterFault k cause

/-- A leg that enters FAULT is in FAULT with both channels off. -/
theorem Dev.enterFault_leg (d : Dev) (k cause : Nat) :
    ((d.enterFault k cause).leg k).st = .fault ∧ ((d.enterFault k cause).leg k).drvH = false ∧ ((d.enterFault k cause).leg k).drvL = false := by
  unfold Dev.enterFault
  dsimp only
  generalize hl : ({ ((d.startCounter k (d.leg k)).allOff d.stepNow).enter .fault with soft := false, tripAt := some d.now } : Leg) = l
  have e : l.st = .fault ∧ l.drvH = false ∧ l.drvL = false := by
    subst hl; exact ⟨rfl, Leg.allOff_drvH _ _, Leg.allOff_drvL _ _⟩
  have h0 : ((d.setLeg k l).leg k).st = .fault ∧ ((d.setLeg k l).leg k).drvH = false ∧ ((d.setLeg k l).leg k).drvL = false := by
    simp only [Dev.leg_setLeg_same, Dev.keptLeg, Leg.interlocked]
    split <;> split <;> simp [e.1, e.2.1, e.2.2]
  have go : ∀ e, FaultKeeps (d.setLeg k l) e → (e.leg k).st = .fault ∧ (e.leg k).drvH = false ∧ (e.leg k).drvL = false := fun e he => by
    have h2 := (he.leg k).fault h0.1
    exact ⟨h2.1, h2.2.1 h0.2.1, h2.2.2 h0.2.2⟩
  exact go _ (FaultKeeps.checkOwner (FaultKeeps.notify (FaultKeeps.noteCapture (FaultKeeps.raise (FaultKeeps.setCond
    (FaultKeeps.refl (d.setLeg k l)) _ _) _ _ (by norm_num)) _ _) _) k)

/-! ### Block faults -/

/-- What a block fault leaves: everything that faults of the block's units leave, once its lane is halted. -/
theorem Dev.blockFault_keeps (d : Dev) (b bit : Nat) :
    FaultKeeps ((((d.latchCause (blkCause b) bit).bump (blkReg b) F.BLK_CAUSE_CNT_count).raise Ev.BLOCK_FAULT (scopeBlk b) bit).haltLane b)
      (d.blockFault b bit) := by
  unfold Dev.blockFault
  dsimp only
  refine FaultKeeps.each _ _ (fun u hu _ hf => hf.unitLevelFault ?_ 5) (FaultKeeps.refl _)
  have := List.mem_of_mem_filter hu
  exact List.mem_range.mp this

end Sys2Proof.Machine
end

