-- ==== Sys2Proof/Laws/Memory.lean ====
section
/-! SUPPORT. Every memory operation keeps the canonical form, a read after a write, and what keeps a device safe. -/

namespace Sys2Proof.Machine

/-! ### Bytes -/

theorem storeBytes_wf (m : Store Byte) (a : Nat) (l : List Byte) (h : Memory.wf m = true) : Memory.wf (storeBytes m a l) = true := by
  induction l generalizing m a with
  | nil => exact h
  | cons b t ih => exact ih _ _ (Store.wf_set _ _ _ _ h)

/-- Bytes outside those stored keep their values. -/
theorem storeBytes_get_out (m : Store Byte) (a x : Nat) (l : List Byte) (h : x < a ∨ a + l.length ≤ x) :
    Store.get unwrittenByte (storeBytes m a l) x = Store.get unwrittenByte m x := by
  induction l generalizing m a with
  | nil => rfl
  | cons b t ih =>
    simp only [List.length_cons] at h
    rw [storeBytes, ih _ _ (by omega), Store.get_set_ne _ _ _ (by omega)]

/-- The stored bytes read back. -/
theorem storeBytes_get_in (m : Store Byte) (a : Nat) (l : List Byte) {i : Nat} (h : i < l.length) :
    Store.get unwrittenByte (storeBytes m a l) (a + i) = l[i] := by
  induction l generalizing m a i with
  | nil => exact absurd h (Nat.not_lt_zero _)
  | cons b t ih =>
    cases i with
    | zero => rw [storeBytes, storeBytes_get_out _ _ _ _ (by omega), Nat.add_zero, Store.get_set_same]; rfl
    | succ n =>
      rw [storeBytes, show a + (n + 1) = a + 1 + n by omega, ih _ _ (by simpa using h)]; rfl

theorem Dev.bytes_length (d : Dev) (a n : Nat) : (d.bytes a n).length = n := by
  induction n generalizing a with
  | zero => rfl
  | succ n ih => simp [Dev.bytes, ih]

theorem Dev.bytes_get (d : Dev) (a n i : Nat) (h : i < (d.bytes a n).length) : (d.bytes a n)[i] = d.byte (a + i) := by
  induction n generalizing a i with
  | zero => simp [Dev.bytes] at h
  | succ n ih =>
    cases i with
    | zero => rfl
    | succ j => simp only [Dev.bytes, List.getElem_cons_succ]; rw [ih]; congr 1; omega

/-- Two devices that agree on a range of bytes read the same there. -/
theorem Dev.bytes_congr {d e : Dev} {a n : Nat} (h : ∀ i < n, e.byte (a + i) = d.byte (a + i)) : e.bytes a n = d.bytes a n := by
  induction n generalizing a with
  | zero => rfl
  | succ n ih =>
    simp only [Dev.bytes]
    have h1 : ∀ i < n, e.byte (a + 1 + i) = d.byte (a + 1 + i) := fun i hi => by
      rw [show a + 1 + i = a + (i + 1) by omega]; exact h (i + 1) (by omega)
    rw [show e.byte a = d.byte a from h 0 (Nat.succ_pos n), ih h1]

theorem leBytes_length (n v : Nat) : (leBytes n v).length = n := by
  induction n generalizing v with
  | zero => rfl
  | succ n ih => simp [leBytes, ih]

/-- The bytes of a number spell it, as far as they go. -/
theorem leNat_leBytes (n v : Nat) : leNat (leBytes n v) = v % 256 ^ n := by
  induction n generalizing v with
  | zero => simp [leBytes, leNat, Nat.mod_one]
  | succ n ih =>
    simp only [leBytes, leNat, ih, BitVec.toNat_ofNat]
    rw [show (2 : Nat) ^ 8 = 256 from rfl, show 256 ^ (n + 1) = 256 * 256 ^ n from Nat.pow_succ']
    exact Nat.mod_mul.symm

/-! ### Accesses -/

/-- A range that was stored whole reads back as it was stored. -/
theorem Dev.bytes_of_mem {d : Dev} {m : Store Byte} {a : Nat} {l : List Byte} (h : d.mem = storeBytes m a l) : d.bytes a l.length = l := by
  refine List.ext_getElem (Dev.bytes_length _ _ _) (fun i h1 h2 => ?_)
  rw [Dev.bytes_get, Dev.byte, h, storeBytes_get_in]

/-- A number that was stored reads back, as far as its bytes go. -/
theorem Dev.loadN_of_mem {d : Dev} {m : Store Byte} {a n v : Nat} (h : d.mem = storeBytes m a (leBytes n v)) : d.loadN a n = v % 256 ^ n := by
  have h1 := Dev.bytes_of_mem h
  rw [leBytes_length] at h1
  rw [Dev.loadN, h1, leNat_leBytes]

@[simp] theorem Dev.pokeN_loadN (d : Dev) (a n v : Nat) : (d.pokeN a n v).loadN a n = v % 256 ^ n := Dev.loadN_of_mem rfl

theorem Dev.pokeN_byte (d : Dev) (a n v x : Nat) (h : x < a ∨ a + n ≤ x) : (d.pokeN a n v).byte x = d.byte x :=
  storeBytes_get_out _ _ _ _ (by rwa [leBytes_length])

theorem Dev.storeN_byte (d : Dev) (a n v x : Nat) (h : x < a ∨ a + n ≤ x) : (d.storeN a n v).byte x = d.byte x := by
  unfold Dev.storeN
  split
  · exact Dev.pokeN_byte d a n v x h
  · split
    · rfl
    · exact Dev.pokeN_byte d a n v x h

/-- What is stored where no word holds an error, or in a whole word, reads back. -/
theorem Dev.storeN_loadN (d : Dev) (a n v : Nat) (h : n = 8 ∨ d.isBad a = false) : (d.storeN a n v).loadN a n = v % 256 ^ n := by
  unfold Dev.storeN
  split
  · exact Dev.loadN_of_mem (m := d.mem) rfl
  · rename_i hn
    rw [if_neg (by simp [h.resolve_left hn])]
    exact Dev.pokeN_loadN d a n v

/-! ### What every memory operation keeps -/

theorem Dev.pokeN_wf (d : Dev) (a n v : Nat) (h : Memory.wf d.mem = true) : Memory.wf (d.pokeN a n v).mem = true := storeBytes_wf _ _ _ h

theorem Dev.storeN_wf (d : Dev) (a n v : Nat) (h : Memory.wf d.mem = true) : Memory.wf (d.storeN a n v).mem = true := by
  unfold Dev.storeN
  split
  · exact Dev.pokeN_wf d a n v h
  · split
    · exact h
    · exact Dev.pokeN_wf d a n v h

theorem Dev.putBytes_wf (d : Dev) (a : Nat) (l : List Byte) (h : Memory.wf d.mem = true) : Memory.wf (d.putBytes a l).mem = true :=
  storeBytes_wf _ _ _ h

/-! ### Safety -/

/-- A device is as safe as one with the same legs and memories. -/
theorem Dev.safe_of_eq {d e : Dev} {l l' : List Instr} (hl : e.legs = d.legs) (hm : e.mem = d.mem) (hn : e.nvs = d.nvs)
    (h : State.Safe ⟨d, l⟩) : State.Safe ⟨e, l'⟩ := by
  refine ⟨fun k => ?_, ?_⟩
  · have := h.interlock k
    simpa [Dev.leg, hl] using this
  · have := h.memory
    simpa [Dev.memoryWf, hm, hn] using this

theorem Leg.interlocked_spec (l : Leg) : (l.interlocked.drvH && l.interlocked.drvL) = false := by
  unfold Leg.interlocked
  split
  · rfl
  · rename_i h; simpa using h

/-- Every write of a leg passes the interlock. -/
theorem Dev.setLeg_interlock (d : Dev) (k : Nat) (l : Leg) (h : d.interlock) : (d.setLeg k l).interlock := by
  intro j
  simp only [Dev.setLeg, Dev.leg, Store.get_set]
  split
  · split
    · rfl
    · exact Leg.interlocked_spec l
  · exact h j

theorem Dev.setLeg_safe {d : Dev} {l l' : List Instr} (k : Nat) (x : Leg) (h : State.Safe ⟨d, l⟩) : State.Safe ⟨d.setLeg k x, l'⟩ :=
  ⟨Dev.setLeg_interlock d k x h.interlock, h.memory⟩

theorem Dev.setReg_safe {d : Dev} {l l' : List Instr} (a : Nat) (w : Word) (h : State.Safe ⟨d, l⟩) : State.Safe ⟨d.setReg a w, l'⟩ :=
  Dev.safe_of_eq (d := d) rfl rfl rfl h

theorem Dev.setFld_safe {d : Dev} {l l' : List Instr} (b : Nat) (f : Fld) (v : Nat) (h : State.Safe ⟨d, l⟩) : State.Safe ⟨d.setFld b f v, l'⟩ :=
  Dev.safe_of_eq (d := d) rfl rfl rfl h

theorem Dev.raise_safe {d : Dev} {l l' : List Instr} {src : Nat} (scope arg : Nat) (hs : src < 0x100) (h : State.Safe ⟨d, l⟩) :
    State.Safe ⟨d.raise src scope arg, l'⟩ :=
  Dev.safe_of_eq (Dev.raise_legs _ _ _ _ hs) (Dev.raise_mem _ _ _ _ hs) (Dev.raise_nvs _ _ _ _ hs) h

theorem Dev.storeN_safe {d : Dev} {l l' : List Instr} (a n v : Nat) (h : State.Safe ⟨d, l⟩) : State.Safe ⟨d.storeN a n v, l'⟩ := by
  have hl : (d.storeN a n v).legs = d.legs := by
    unfold Dev.storeN; split
    · rfl
    · split <;> rfl
  have hn : (d.storeN a n v).nvs = d.nvs := by
    unfold Dev.storeN; split
    · rfl
    · split <;> rfl
  refine ⟨fun k => ?_, Dev.storeN_wf d a n v h.memory.1, ?_⟩
  · have := h.interlock k
    simpa [Dev.leg, hl] using this
  · rw [hn]; exact h.memory.2

theorem Dev.putBytes_safe {d : Dev} {l l' : List Instr} (a : Nat) (x : List Byte) (h : State.Safe ⟨d, l⟩) : State.Safe ⟨d.putBytes a x, l'⟩ :=
  ⟨h.interlock, Dev.putBytes_wf d a x h.memory.1, h.memory.2⟩

end Sys2Proof.Machine
end

