-- ==== Sys2Proof/Tests/Slice0.lean ====
section
/-! SUPPORT. Own tests: operands that are refused, words of the spec's encodings, worked examples of the spec, and states that
meet the hypotheses of the statements. -/

namespace Sys2Proof.Tests

open Sys2Proof Sys2Proof.Machine

set_option maxRecDepth 20000

/-- A master that may write protected registers, and one that may not. -/
def priv : Master := ⟨2, true⟩
def plainMaster : Master := ⟨0, false⟩
/-- The device after reset with some registers set. -/
def regsSet (l : List (Nat × Word)) : Dev := { Dev.initial with regs := l }
/-- What the next state of an answer holds. -/
def nextHolds (o : Host.Outcome State Fault Refusal) (p : State → Prop) [∀ s, Decidable (p s)] : Bool :=
  match o with
  | .next s => decide (p s)
  | _ => false
/-- A state without waiting commands. -/
def at_ (d : Dev) : State := ⟨d, []⟩
/-- A lane that runs, with some general registers set. -/
def runLane (g : List (Nat × Word)) : Lane := { Lane.initial with mode := .run, g := g }
/-- A device on which lane 0 is `l`. -/
def withLane (l : Lane) : Dev := { Dev.initial with lanes := [(0, l)] }

/-! ### Well-formed operands (R124, R132, R133, R136, R469, R472) -/

/-- One refused term for each check of lane operands. -/
theorem test_lane_operands_refused :
    [Instr.clarke 0 .a0 3 0 0, .park 0 .a0 2 1 0, .ipark 0 .a1 3 2 0, .svpwm 0 .a0 30 0, .svpwm 0 .a0 4 1, .ld 0 1 2 0 5, .st 0 1 0 2 7,
      .ldp 0 1 2 0, .stp 0 1 0 3, .commit 0 18 5, .put 0 ⟨0, 0, 0, true, 8⟩ true, .get 0 ⟨0, 0, 7, false, 25⟩, .get 0 ⟨0, 0, 1, true, 0⟩, .br 0 0,
      .brnz 0 1 false 0, .brc 0 1 false true 0, .loop 0 0 3, .waitPhaseReserved 0 1, .unassignedOpcode 0 .m].all (fun i => !wellFormed i) = true := by decide

/-- The same operations with admitted operands. -/
theorem test_lane_operands_admitted :
    [Instr.clarke 0 .a0 2 1 3, .park 0 .a0 2 4 1, .ipark 0 .a1 30 2 5, .svpwm 0 .a0 29 4, .ld 0 1 2 0 4, .st 0 1 0 2 0, .ldp 0 30 2 1, .stp 0 1 0 2,
      .commit 0 16 5, .put 0 ⟨0, 0, 0, true, 7⟩ true, .get 0 ⟨255, 31, 7, false, 24⟩, .br 0 1, .brnz 0 1 false 1, .brc 0 1 false true 4095, .loop 0 1 0,
      .waitPhaseEvent 0 3 9].all wellFormed = true := by decide

/-- One refused and one admitted term for each check of the other operands. -/
theorem test_other_operands :
    [Instr.prove priv 0 0 [], .writeLife priv 0 0 [], .tagPoll 0 (some ⟨[], [], []⟩), .registerWrite priv 2 0,
      .canFrameReceive 0 ⟨0, false, false, false, false, 0, 0, 0, List.replicate 9 0⟩ true,
      .canFrameReceive 0 ⟨1, false, false, false, false, 0, 0, 0, List.replicate 9 0⟩ true,
      .canFrameReceive 0 ⟨2, false, false, false, false, 0, 0, 0, []⟩ true, .linHeader 0 0 20000 (.data []),
      .exchFrameReceive 0 0 [] 0 true true, .marker 0 52 0 0 5000 0 true, .loaderLoad ⟨0, [], [], [], []⟩].all (fun i => !wellFormed i) = true ∧
    [Instr.prove priv 0 0 (List.replicate 32 0), .writeLife priv 0 0 (List.replicate 256 0), .tagPoll 0 none, .registerWrite priv 8 0,
      .canFrameReceive 0 ⟨0, false, false, false, false, 0, 0, 0, List.replicate 8 0⟩ true,
      .canFrameReceive 0 ⟨1, false, false, false, false, 0, 0, 0, List.replicate 12 0⟩ true,
      .canFrameReceive 0 ⟨2, false, false, false, false, 0, 0, 0, [0]⟩ true, .linHeader 0 0 20000 (.data (List.replicate 9 0)),
      .exchFrameReceive 0 0 [1] 0 true true, .marker 0 51 0 0 5000 0 true,
      .loaderLoad ⟨0, List.replicate 16 0, [], [], []⟩].all wellFormed = true := by decide

/-! ### Words of the lane's encoding -/

/-- The bundle of the example of R120. -/
theorem test_bundle_of_R120 :
    decodeSlot 5 .a0 0x64242800 = .mac 5 .a0 1 4 5 ∧ decodeSlot 5 .a1 0x54E66000 = .lim 5 .a1 7 6 12 ∧
    decodeSlot 5 .m 0x21230003 = .gtab 5 9 3 3 ∧ decodeSlot 5 .c 0x2E050000 = .commit 5 16 5 := by decide

/-- Words written out from the field tables of R119, R125, R129 and R131: opcode, d, s1, s2 and immediate. -/
theorem test_words_by_fields :
    decodeSlot 0 .a0 0b000010_00001_00010_00000_11111111111 = .addi 0 .a0 1 2 0x7FF ∧
    decodeSlot 0 .a0 0b000111_00001_00010_00011_00000100000 = .shl 0 .a0 1 2 (.reg 3) ∧
    decodeSlot 0 .a0 0b001000_00001_00010_00000_00000011111 = .shra 0 .a0 1 2 (.imm 31) ∧
    decodeSlot 0 .a1 0b011011_00001_00011_00000_00000001000 = .extr 0 .a1 1 3 8 ∧
    decodeSlot 0 .a1 0b101000_00111_00110_00101_00000000001 = .vadd 0 .a1 7 6 5 true ∧
    decodeSlot 0 .m 0b000001_00001_00010_10000_00000000100 = .ld 0 1 2 4 4 ∧
    decodeSlot 0 .m 0b000011_01000_00010_00011_00000000100 = .st 0 2 4 3 2 ∧
    decodeSlot 0 .c 0b000100_00000000011_100000000000101 = .loop 0 7 5 ∧
    decodeSlot 0 .c 0b001000_10000_00011_0000000001100100 = .waitPhaseEvent 0 3 100 ∧
    decodeSlot 0 .c 0b001001_00100_00010101_00011_001_0_1_000 = .put 0 ⟨0x15, 3, 1, false, 4⟩ true ∧
    decodeSlot 0 .m 0b000111_00000_00000_00000_00000000000 = .unassignedOpcode 0 .m := by decide

/-! ### Worked examples of the spec -/

/-- The three extractions of R90: 0.5 + 2^−16, 0.5 + 3 · 2^−16 and 1.0. -/
theorem test_extractions_of_R90 :
    [extract 0x20004000 0, extract 0x2000C000 0, extract 0x40000000 0] = [(0x4000, false), (0x4002, false), (0x7FFF, true)] := by decide

/-- The steps of the vector example of R96: BNORM shifts left by 3, and the sum aligns the second operand to exponent 0. -/
theorem test_vectors_of_R96 :
    (vecNorm 0xF4000800 3).m = 0xA0004000 ∧ (vecNorm 0xF4000800 3).e = 0 ∧
    (vecAdd 0xA0004000 0 0x00006000 (-2) false).m = 0xA0005800 ∧ (vecAdd 0xA0004000 0 0x00006000 (-2) false).e = 0 := by decide

/-- The gain example of R111: GTAB3 with in_shift 2, out_exp 3, E[20] = 0x3000, E[21] = 0x3400, error 0x0A30. -/
theorem test_gain_of_R111 :
    let base := blkBase 0 + 0x80300
    let d := (((withLane (runLane [(3, 0x0A30)])).storeN base 4 0x302).storeN (base + 44) 2 0x3000).storeN (base + 46) 2 0x3400
    nextHolds (exec (.gtab 0 9 3 3) (at_ d)) (fun t => (t.dev.lane 0).writes.map (fun w => (w.due, w.dst, w.val)) = [(4, .g 9, .word 0x00018C00)]) := by decide

/-- The boundaries of the sub-tick example of R60: 400, 6,000, 6,600 and 7,200 lane cycles at factor 2 of the reference tick. -/
theorem test_boundaries_of_R60 :
    let d := { regsSet [] with inforce := [(rgnReg 3 + 0x68, 0x10)] }
    d.subLenOf 14 0 = 8000 ∧ d.boundaryAt 14 F.RGN_PHASE0_compute = 400 ∧ d.boundaryAt 14 F.RGN_PHASE0_exchange = 6000 ∧
    d.boundaryAt 14 F.RGN_PHASE1_commit = 6600 ∧ d.boundaryAt 14 F.RGN_PHASE1_commit_point = 7200 := by decide

/-- The holdover bound of R54's example: 15,020 ns after 30 s. -/
theorem test_holdover_of_R54 : holdErr (30 * 800000000) = 15020 := by decide

/-- The responses of R350's example to the challenge 0x1234. -/
theorem test_responses_of_R350 : wdExpect0 0x1234 = 0xADFA ∧ wdExpect1 0x1234 = 0x6334 := by decide

/-- The scaled compare values of the window guard's example (R244): s16 = 58,637. -/
theorem test_guard_of_R244 :
    65536 * 108800 / 121600 = 58637 ∧ scaleCmpA 128000 6400 58637 = 19201 ∧ scaleCmpA 128000 102400 58637 = 105095 ∧
    scaleCmpA 128000 249600 58637 = 236799 := by decide

/-- The speed of R273's example: M = 4 over 1,953 lane cycles of a 2,048-line encoder. -/
theorem test_speed_of_R273 :
    let d := { (Dev.initial.setFld (fbBase 0 0) F.FB_QEP_lines 2048) with
      fbs := [(0, { FbChan.initial with edges := [1953, 1465, 976, 488, 0] })] }
    chooseM [1953, 1465, 976, 488, 0] = 4 ∧ d.measuredSpeed 0 0 = 859048 := by decide

/-- The addresses of LEG5 in the example of the snapshot (R494): 0x204D_0500, with its edge counts at 0x3C and 0x40. -/
theorem test_address_of_leg5 : legReg 5 = 0x204D0500 ∧ legReg 99 = blkReg 12 - 0xC0000 + 0xD0300 := by decide

/-- The cause example of R38: an uncorrectable word in the data memory of BLK1 makes BLK_CAUSE read 0x8102, with the time of the fault. -/
theorem test_cause_of_R38 :
    let d := { regsSet [] with net := 0x0123456789A00000 }
    let e := d.laneMemFault 1 18 (blkBase 1 + 0x40000)
    (e.reg (blkReg 1 + 0x40)).toNat = 0x8102 ∧ (e.reg (blkReg 1 + 0x44)).toNat = 0x456789A0 ∧ (e.reg (blkReg 1 + 0x48)).toNat = 0x123 ∧
    e.fld (blkReg 1) F.BLK_CAUSE_CNT_count = 1 ∧ (e.lane 1).mode = .halted ∧ (e.lane 0).mode = .halted := by decide

/-! ### States that meet the hypotheses of the statements: lanes -/

/-- The hypothesis of the lane statements, and of the landing of a product: a running lane with nothing in flight. -/
theorem witness_running_lane :
    (at_ (withLane (runLane [(1, 5), (2, 7)]))).running 0 ∧ ((withLane (runLane [(1, 5), (2, 7)])).lane 0).writes = [] ∧
    exec (.mac 0 .a0 1 1 2) (at_ (withLane (runLane [(1, 5), (2, 7)]))) =
      .next ((at_ (withLane (runLane [(1, 5), (2, 7)]))).sent 0 0 2 (.acc 1) (.addProduct 35) 0) := by
  refine ⟨rfl, rfl, rfl⟩

/-- LaneScalarOps and LaneAccumulatorOps: a limited sum, and a product landed after 2 cycles. -/
theorem witness_LaneScalarOps :
    let s := at_ (withLane (runLane [(1, 0x7FFF), (2, 1)]))
    nextHolds (exec (.qadd 0 .a0 3 1 2) s) (fun t => (t.dev.lane 0).writes.map (fun w => (w.val, w.flags)) = [(.word 0x7FFF, 1)]) ∧
    nextHolds (exec (.mac 0 .a0 1 1 2) s) (fun t => ((t.dev.settleLane 0 2).lane 0).ac 1 = 0x7FFF ∧ ((t.dev.settleLane 0 1).lane 0).ac 1 = 0) := by
  decide

/-- LaneVectorOps: equal exponents with sums in range, exponents within range, a vector of zeros. -/
theorem witness_LaneVectorOps :
    let l := runLane []
    l.vexp 0 = l.vexp 1 ∧ (∀ i < 8, signed 16 ((l.vmant 0).toNat / 2 ^ (16 * i)) ≠ -0x8000) ∧ -128 ≤ (l.vexp 0).toInt + (l.vexp 1).toInt ∧
    l.vmant 0 = 0 ∧ q15 (l.gr 1) ≠ -0x8000 ∧ -128 ≤ (l.vexp 0).toInt + (127#8).toInt ∧ (l.vexp 0).toInt + (127#8).toInt ≤ 127 := by decide

/-- LaneLoads: the first and last admitted data addresses of each width; LaneStores: the last place of each width, and refused ones. -/
theorem witness_LaneLoads_LaneStores :
    let d := withLane (runLane [(1, 0x3FFFC), (2, 0x3FFE0), (3, 0x40000), (4, 2)])
    let l := d.lane 0
    d.mayLoad 0 (l.address 0 0 1) 1 = true ∧ d.mayLoad 0 (l.address 1 0 4) 4 = true ∧ d.mayLoad 0 (l.address 2 0 32) 32 = true ∧
    d.badIn 0 (l.address 1 0 4) 4 = none ∧ sizeBytes 4 = some 4 ∧ sizeBytes 5 = none ∧
    (l.address 1 0 4 % 4 = 0 ∧ l.address 1 0 4 < 0x40000) ∧ (l.address 2 0 32 % 32 = 0 ∧ l.address 2 0 32 < 0x40000) ∧
    (l.address 2 0 8 % 8 = 0 ∧ l.address 2 0 8 < 0x40000) ∧ d.isBad (blkBase 0 + 0x40000 + l.address 1 0 4) = false ∧
    mayStore (l.address 3 0 4) 4 = false ∧ d.mayLoad 0 (l.address 4 0 4) 4 = false ∧
    nextHolds (exec (.st 0 1 0 2 4) (at_ d)) (fun t => t.dev.loadN (blkBase 0 + 0x7FFFC) 4 = 0x3FFE0) := by decide

/-- LaneTables: no word is bad. -/
theorem witness_LaneTables : (at_ (withLane (runLane [(3, 0x0A30)]))).running 0 ∧ ∀ a, (withLane (runLane [(3, 0x0A30)])).isBad a = false :=
  ⟨rfl, fun _ => rfl⟩

/-- LaneControl: a return address held, a loop whose last bundle is this one with and without repeats left, a redirection. -/
theorem witness_LaneControl :
    let l := { runLane [] with pc := 9, link := some 4, loops := [⟨7, 9, 1⟩] }
    (at_ (withLane l)).running 0 ∧ l.link = some 4 ∧ l.redirect = none ∧ (⟨7, 9, 1⟩ : LoopEntry).last = l.pc ∧
    (l.advance 3).pc = 7 ∧ ({ l with loops := [⟨7, 9, 0⟩] }.advance 3).pc = 10 ∧ ({ l with loops := [⟨7, 8, 0⟩] }.advance 3).pc = 10 ∧
    ({ l with redirect := some 4095 }.advance 3).pc = 4095 := by
  refine ⟨rfl, ?_⟩; decide

/-- LaneWaits: a condition bit that is 1 and one that is 0, a deadline to come and one that has come, and a held event wait. -/
theorem witness_LaneWaits :
    let d := { withLane (runLane []) with regs := [(blkReg 0 + 0x30, 2)], now := 4 }
    let w := { withLane { runLane [] with mode := .wait, held := some (.event 0 4) } with now := 4 }
    (d.reg (blkReg 0 + 0x30)).getLsbD 1 = true ∧ (d.reg (blkReg 0 + 0x30)).getLsbD 0 = false ∧ (d.now < (d.lane 0).computeAt + 4 * 2) ∧
    ((d.lane 0).computeAt + 4 * 1 ≤ d.now) ∧ d.now - (d.lane 0).computeAt + 1 < 2 ^ 18 ∧
    ((w.lane 0).mode = .wait ∧ (w.lane 0).held = some (.event 0 4) ∧ 4 ≤ w.now ∧ (w.reg (blkReg 0 + 0x30)).getLsbD 0 = false) := by decide

/-- LaneExchange: every phase, a channel of the lane that is valid and a refused one, a completed GET before and at its cycle, with and
without an uncorrectable word, and an EXCH before and at its last cycle, not served or served in time. -/
theorem witness_LaneExchange :
    let x : ExchOp := ⟨0, 0, 0, false, 1⟩
    let ch : Phase → Dev := fun ph => { withLane { runLane [] with phase := ph } with regs := [(rgnReg 0 + 0x400, 0x80010010)], now := 5 }
    let gets : Nat → Option Nat → Dev := fun t done =>
      { withLane { runLane [] with mode := .wait, held := some (.get x 3 (some 3) [] done) } with now := t }
    let hurt : Dev := { (gets 5 (some 5)) with bad := [(exchAddr 0 x / 8, true)] }
    let puts : Dev := { withLane { runLane [] with mode := .wait, held := some (.put x true [7] 0 (some 0) [1] none) } with now := 255 }
    ((runLane []).phase = .closed ∧ ((ch .compute).lane 0).phase = .compute) ∧
    (∀ p ∈ [Phase.exchange, .commit, .closed], (ch p).exchCase 0 x true = 0 ∧ (ch p).exchCase 0 x false = 0) ∧
    ((withLane (runLane [])).exchCase 0 x true ≠ 0 ∧ (withLane (runLane [])).exchCase 0 x false ≠ 0) ∧
    ((gets 4 (some 5)).now < 5 ∧ 5 ≤ (gets 5 (some 5)).now ∧ 5 ≤ (gets 5 (some 5)).exchDeadline 0 3 ∧ (gets 5 (some 5)).isBad (exchAddr 0 x) = false ∧
      hurt.isBad (exchAddr 0 x) = true) ∧
    ((gets 4 none).now < (gets 4 none).exchDeadline 0 3 ∧ puts.exchDeadline 0 0 ≤ puts.now ∧
      (gets 600 (some 599)).exchDeadline 0 3 < 599) := by decide

/-! ### Legs and units -/

/-- A device whose LEG0 to LEG3 belong to U0, with further registers. -/
def ownedBy0 (l : List (Nat × Word)) : Dev := regsSet ((rgnReg 0 + 0x100, 0x80808080) :: l)
/-- A device with one leg record. -/
def withLeg (d : Dev) (k : Nat) (l : Leg) : Dev := { d with legs := [(k, l)] }
/-- A device with one unit record. -/
def withUnit (d : Dev) (u : Nat) (x : UnitRec) : Dev := { d with units := [(u, x)] }
/-- A unit in a state. -/
def unitIn (st : UnitSt) : UnitRec := { UnitRec.initial with st := st }
/-- A leg in a state. -/
def legIn (st : LegSt) : Leg := { Leg.initial with st := st }

/-- LaneCommit: before and in the commit phase; a leg without owner, of another lane set, of a unit that does not run, and of a running unit
of this lane; a command that asks for both channels; and a commit of another lane in the same cycle. -/
theorem witness_LaneCommit :
    let l := { runLane [(3, 0x5000000)] with phase := .commit }
    let x := { runLane [(3, 0xA)] with phase := .commit }
    let d : Dev := { withUnit (ownedBy0 []) 0 (unitIn .run) with lanes := [(0, l), (1, l)], now := 5 }
    let two : Dev := { d with legs := [(0, { legIn .run with commitAt := 6, commitBy := 1 })] }
    ¬ ((runLane []).phase = .commit ∨ False) ∧ (d.lane 0).mode = .run ∧ (d.lane 0).phase = .commit ∧ d.owner 0 = some 0 ∧ d.owner 4 = none ∧
    0 ∈ d.laneSet 0 ∧ 1 ∉ d.laneSet 0 ∧ (d.unit 0).active = true ∧ (ownedBy0 []).owner 0 = some 0 ∧ ((ownedBy0 []).unit 0).active = false ∧
    isCross ((d.lane 0).quad 0) = false ∧ isCross (x.quad 0) = true ∧ (d.leg 0).tripAt ≠ some d.now ∧
    (d.leg 0).commitAt ≠ d.now + 1 ∧ (two.leg 0).commitAt = two.now + 1 ∧ (two.leg 0).commitBy ≠ 0 := by decide

/-- LegFaultEvents: thresholds that have settled, with outputs of the comparators active and inactive; an FLT level active for its time,
not yet, and inactive; a waiting turn-on whose handshake is late, and one that is not checked. -/
theorem witness_LegFaultEvents :
    let d : Dev := { withLeg (regsSet [(legReg 0 + 0x44, 0x3), (legReg 0 + 0x20, 0x2)]) 0
      { legIn .run with want := some .high, fbL := false, offAtL := 0, fltAt := some 0 } with now := 0x7FFF }
    let early : Dev := { d with now := 0 }
    let flt := Dev.initial.setFld (legReg 0) F.LEG_HS_flt_filt 8
    let side : Side := .high
    (d.dacSettling 0 32 = false ∧ d.dacSettling 0 0 = false) ∧
    compares (d.flag (legReg 0) F.LEG_CMP_h_pol) (some 4000000) (3000 * d.fld (legReg 0) F.LEG_HDAC_code) = true ∧
    compares (d.flag (legReg 0) F.LEG_CMP_h_pol) (d.pin 0 64) (3000 * d.fld (legReg 0) F.LEG_HDAC_code) = false ∧
    compares (d.flag (legReg 0) F.LEG_CMP_t_pol) (d.pin 0 64) (3000 * d.tripCode 0 d.now) = false ∧ (d.leg 0).hSeen = false ∧
    ((d.leg 0).fltAt = some 0 ∧ (d.leg 0).fltSeen = false ∧ d.fld (legReg 0) F.LEG_HS_flt_filt ≤ d.now) ∧
    (flt.now < ((flt.leg 0).fltAt).getD flt.now + flt.fld (legReg 0) F.LEG_HS_flt_filt) ∧
    isDirect 0 = false ∧ isDirect 112 = true ∧ (d.leg 0).st ≠ .off ∧ (d.leg 0).want = some side ∧ d.checksOff 0 side.other = true ∧
    d.showsOff 0 (d.leg 0) side.other = false ∧ (d.leg 0).offAt side.other + 32 * d.fld (legReg 0) F.LEG_HS_timeout ≤ d.stepNow ∧
    early.stepNow < (early.leg 0).offAt side.other + 32 * early.fld (legReg 0) F.LEG_HS_timeout ∧
    (d.unpowered 0 = false ∧ ((d.leg 0).drvH && (d.leg 0).drvL) = false) := by decide

/-- LegFaultEvents: an enabled trip comparator with clear latching, not blanked, whose output is active (R209, R211). -/
theorem witness_LegFaultEvents_comparator :
    let d := withLeg ((Dev.initial.setFld (legReg 0) F.LEG_CMP_t_en 1).setFld (legReg 0) F.LEG_CMP_t_latch 0) 0 (legIn .run)
    compares (d.flag (legReg 0) F.LEG_CMP_t_pol) (some 4000000) (3000 * d.tripCode 0 d.now) = true ∧ d.tripClears 0 = true ∧
    d.flag (legReg 0) F.LEG_CMP_t_en = true ∧ d.isBlanked 0 = false ∧ (d.leg 0).tSeen = false ∧ (d.leg 0).st ≠ .off ∧
    (d.leg 0).hsl = false ∧ (d.dacSettling 0 32 = false ∧ d.dacSettling 0 0 = false) := by decide

/-- LegTurnOn: a turn-on that may take place, too early by one step, at its first step, and suppressed as too short. -/
theorem witness_LegTurnOn :
    let d : Dev := { withLeg Dev.initial 0 { legIn .run with want := some .low, cur := BitVec.ofNat 128 (300000 + 2 ^ 98) } with now := 160 }
    let l := d.leg 0
    let short := { withLeg Dev.initial 0 { legIn .run with want := some .low } with now := 160 }
    d.deadTime 0 .low = 5120 ∧ d.mayTurnOn 0 5120 l .low = true ∧ d.mayTurnOn 0 5119 l .low = false ∧ d.tooShort 0 5120 l .low = false ∧
    d.unpowered 0 = false ∧ l.want = some .low ∧ l.drvH = false ∧ l.drvL = false ∧ short.mayTurnOn 0 5120 (short.leg 0) .low = true ∧
    short.tooShort 0 5120 (short.leg 0) .low = true := by decide

/-- LegTurnOff: a cycle limit, the end of blanking and one to come, a zero-current detection, the end of the soft path and one to come, a
settled leg and one that has not shown off in time, and a direct leg's bootstrap. -/
theorem witness_LegTurnOff :
    let en := (Dev.initial.setFld (legReg 0) F.LEG_CMP_t_en 1).setFld (legReg 0) F.LEG_CMP_t_latch 1
    let d : Dev := { withLeg (en.setFld (legReg 0) F.LEG_TDAC_code 100) 0 { legIn .run with drvH := true } with now := 100 }
    let b := { withLeg Dev.initial 0 { legIn .run with blanking := true, blankEnd := 5 } with now := 5 }
    let z := { withLeg (Dev.initial.setFld (rgnReg 0) F.RGN_ZCD_en 1) 0 { legIn .run with drvL := true, cur := BitVec.ofNat 128 (3 * 2 ^ 98) } with
      now := 100, raws := [(0, true)] }
    let soft := { withLeg Dev.initial 0 (legIn .softOff) with now := 8 }
    let stuck := { withLeg (regsSet [(legReg 0 + 0x44, 0x3)]) 0 { legIn .settle with fbH := false } with now := 0x7FFF }
    let direct := Dev.initial.setFld (legReg 112) F.LEG_DIRECT_boot_ok 1
    (d.dacSettling 0 32 = false ∧ d.dacSettling 0 0 = false ∧
      compares (d.flag (legReg 0) F.LEG_CMP_h_pol) (some 400000) (3000 * d.fld (legReg 0) F.LEG_HDAC_code) = false ∧
      compares (d.flag (legReg 0) F.LEG_CMP_t_pol) (some 400000) (3000 * d.tripCode 0 d.now) = true ∧
      d.tripClears 0 = false ∧ d.isBlanked 0 = false ∧ d.flag (legReg 0) F.LEG_CMP_t_en = true ∧ (d.leg 0).drv (d.controlSide 0) = true ∧
      (d.leg 0).cycleHeld = false) ∧
    ((b.leg 0).blanking = true ∧ (b.leg 0).blankEnd ≤ b.now ∧ { b with now := 4 }.now < (b.leg 0).blankEnd ∧ b.pin 0 64 = none ∧
      compares (b.flag (legReg 0) F.LEG_CMP_h_pol) none (3000 * b.fld (legReg 0) F.LEG_HDAC_code) = false) ∧
    ((z.leg 0).st = .run ∧ cmdLs (z.leg 0).cur = 3 ∧ z.flag (rgnReg 0) F.RGN_ZCD_en = true ∧ (z.leg 0).drvL = true ∧ (z.leg 0).drvH = false ∧
      (z.leg 0).onAtL + 160 * z.fld (rgnReg 0) F.RGN_ZCD_blank ≤ z.stepNow ∧ (z.seeWindow 0 0 none).raw 0 0 = true ∧
      z.fld (rgnReg 0) F.RGN_ZCD_win = 0 ∧ (Dev.initial.seeWindow 0 0 none).zcdDue 0 = false) ∧
    ((soft.leg 0).st = .softOff ∧ (soft.leg 0).softAt + soft.softTime 0 ≤ soft.now ∧
      { soft with now := 0 }.now < ({ soft with legs := [(0, { legIn .softOff with softAt := 1 })] }.leg 0).softAt) ∧
    (((withLeg Dev.initial 0 (legIn .settle)).settled 0 = true) ∧ (stuck.leg 0).st = .settle ∧ stuck.settled 0 = false ∧
      stuck.checksOff 0 .high = true ∧ stuck.showsOff 0 (stuck.leg 0) .high = false ∧
      (stuck.leg 0).settleAt + stuck.fld (legReg 0) F.LEG_HS_timeout ≤ stuck.now) ∧
    (isDirect 112 = true ∧ direct.flag (legReg 112) F.LEG_DIRECT_boot_ok = true ∧ Dev.initial.flag (legReg 112) F.LEG_DIRECT_boot_ok = false) := by decide

/-- Carrier: a valley that is due and the step before it, a peak, a running leg, and a sealed command of an armed leg. -/
theorem witness_Carrier :
    let d := { Dev.initial with now := 16000 }
    let x : NextCmd := ⟨7, true, 0⟩
    let a := withLeg d 0 { legIn .armed with next := some x }
    d.legPeriod 0 = 512000 ∧ d.valleyDue 0 d.stepNow = some 512000 ∧ d.valleyDue 0 (d.stepNow - 1) = none ∧
    d.counterRuns 0 = true ∧ (d.leg 0).peakDone = false ∧ (d.leg 0).evFrom ≤ d.now ∧ (d.leg 0).zeroAt + (d.legPeriod 0 / 2 : Nat) ≤ (256000 : Nat) ∧
    (a.leg 0).next = some x ∧ x.isSealed = true ∧ (a.leg 0).st = .armed ∧ (a.leg 0).modeHold = none := by decide

/-- LegWrites: an unchanged period, masters of both kinds, a leg in OFF and one that is not. -/
theorem witness_LegWrites :
    let d := Dev.initial
    masterPriv priv = true ∧ masterPriv plainMaster = false ∧ (d.leg 0).st = .off ∧ ((withLeg d 0 (legIn .run)).leg 0).st ≠ .off ∧
    d.legPeriod 0 = (d.plainWrite priv (legReg 0 + 4) 5).legPeriod 0 := by decide

/-- UnitRequests: a unit of another region, the obstacle of a device that is not ready, units in every state that the clauses name. -/
theorem witness_UnitRequests :
    let d := ownedBy0 []
    let f := withLeg d 0 (legIn .fault)
    d.unitHere 1 0 = false ∧ d.unitHere 0 0 = true ∧ (d.unit 0).st = .disabled ∧ d.enableRefusal 0 0 = some Ev.ENABLE_REFUSED_LOCKED ∧
    d.hslActs 0 = false ∧ d.flag 0 F.HSL_OV3STAT_active = false ∧ (unitIn .enabling).active = true ∧ (unitIn .run).active = true ∧
    (unitIn .disabled).active = false ∧ (unitIn .hold).exiting = false ∧ f.owner 0 = some 0 ∧ (f.leg 0).st = .fault ∧
    f.fld (legReg 0) F.LEG_FAULT_cause = 0 := by decide

/-- UnitRequests: a DISABLED unit without an obstacle, on a device that is ready and tested. -/
theorem witness_UnitRequests_enable :
    let d := (((ownedBy0 []).setFld 0 F.HSL_TEST_pass 1).setFld 0 F.DEV_STAT_ready 1).setFld (unitBase 0) F.UNIT_CFG_class 3
    d.flag 0 F.HSL_STAT_lockout = false ∧ d.causesClear 0 = true ∧ d.unitHere 0 0 = true ∧ d.hslActs 0 = false := by decide

/-- UnitTimers: an open window before and at its end, an enabling timeout, a quiet time, and a step of an ASC exit. -/
theorem witness_UnitTimers :
    let w := { withUnit Dev.initial 0 { unitIn .run with window := some 5 } with now := 5 }
    let en := withUnit Dev.initial 0 { unitIn .enabling with enTicks := 0xFFFF }
    let q := { withUnit Dev.initial 0 (unitIn .settle) with now := 2 ^ 40 }
    let x := withUnit (withLeg Dev.initial 3 (legIn .ascLow)) 0 { unitIn .hold with exiting := true, exitLegs := [3] }
    ((w.unit 0).window = some 5 ∧ 5 ≤ w.now ∧ { w with now := 4 }.now < 5) ∧
    ((en.unit 0).st = .enabling ∧ en.fld (unitBase 0) F.UNIT_CFG_en_to ≤ (en.unit 0).enTicks) ∧
    ((q.unit 0).st = .settle ∧ (q.unit 0).settleAt + q.fld (unitBase 0) F.UNIT_CFG_quiet * 800 ≤ q.now) ∧
    ((x.unit 0).exiting = true ∧ (x.unit 0).exitLegs = [3] ∧ (x.unit 0).exitAt ≤ x.now ∧ (x.leg 3).st = .ascLow) := by decide

/-- UnitProtected: words with and without the unlock bit, a DISABLED, a running and a locked unit, and slots that name nobody. -/
theorem witness_UnitProtected :
    let d := ownedBy0 []
    let l := withUnit d 0 (unitIn .locked)
    (0x10 : Word).getLsbD 3 = false ∧ (0x8 : Word).getLsbD 3 = true ∧ (d.unit 0).st = .disabled ∧ (l.unit 0).st = .locked ∧
    d.flag 0 F.HSL_STAT_lockout = false ∧ (∀ k < 4, d.owner k = some 0 ∧ (l.leg k).atRest = true) ∧
    (∀ i < 4, d.flag (4 * i) F.HSL_SOFTSLOT_valid = false) ∧ d.reg 0x40020500 = 0 ∧ d.unitHere 0 0 = true ∧ (∀ j < 8, d.sfBad j = false) := by decide

/-- FaultReactions: the outermost cause bits, a unit that runs and one that does not, and a block without a latched cause. -/
theorem witness_FaultReactions :
    (0 < 8 ∧ 7 < 8) ∧ (unitIn .run).active = true ∧ (unitIn .locked).active = false ∧ bitOf (Dev.initial.reg (blkReg 15 + 0x40)).toNat 15 = false ∧
    1 ∉ (ownedBy0 []).blockUnits 0 ∧ 0 ∈ (ownedBy0 []).blockUnits 0 ∧
    ((withUnit Dev.initial 0 (unitIn .run)).unitFault 0 7).unit 0 ≠ unitIn .run := by decide

/-! ### Trellis and phases -/

/-- A device with some fields set, each by the base of its register set. -/
def fields (d : Dev) (l : List (Nat × Fld × Nat)) : Dev := l.foldl (fun d x => d.setFld x.1 x.2.1 x.2.2) d

/-- FrameTick: a tick that is due in the last edge step of the cycle, one that is due in the next cycle, and a pending apply under which a
lane fits and one under which it does not. -/
theorem witness_FrameTick :
    let d := fields { Dev.initial with trl := { Trellis.initial with nextStep := 31 } } [(0, F.TRL_STATUS_apply_pending, 1)]
    let full := fields d [(blkReg 0, F.LANE_WCET_a, 0xFFFF)]
    (d.trl.nextStep ≤ d.stepNow + 31 ∧ d.flag 0 F.TRL_STATUS_apply_pending = true ∧ Dev.initial.flag 0 F.TRL_STATUS_apply_pending = false) ∧
    (∀ b < 16, ((d.setFld 0 F.TRL_STATUS_apply_pending 0).takeTiming).laneFits b = true) ∧
    ((full.setFld 0 F.TRL_STATUS_apply_pending 0).takeTiming).laneFits 0 = false ∧
    { Dev.initial with trl := { Trellis.initial with nextStep := 32 } }.stepNow + 31 < 32 := by decide

/-- SubTickPhases: the first sub-tick of an emitted tick, and each boundary in the first cycle in which it is due, with lanes that wait for it. -/
theorem witness_SubTickPhases :
    let lanes : Store Lane := [(0, { Lane.initial with mode := .done, phase := .intake }), (1, { Lane.initial with phase := .compute, mode := .wait, held := some (.phase .exchange) }),
      (2, { Lane.initial with phase := .exchange, mode := .wait, held := some (.phase .commit) }),
      (3, { Lane.initial with phase := .exchange, mode := .run })]
    let d : Dev := { fields { Dev.initial with trl := { Trellis.initial with nextStep := 512000 } } [(blkReg 0, F.LANE_WCET_a, 100)] with
      now := 15000, lanes := lanes, refSlots := [(6, true)] }
    d.nextSub 0 = some (0, 0) ∧ Dev.initial.nextSub 0 = none ∧ (d.lane 0).phase = .intake ∧ d.boundaryAt 0 F.RGN_PHASE0_compute = 800 ∧
    d.isRef 0 = false ∧ (d.lane 0).mode = .done ∧ d.laneWcet 0 ≠ 0 ∧ (d.lane 1).phase = .compute ∧ d.boundaryAt 1 F.RGN_PHASE0_exchange = 12000 ∧
    (d.lane 1).held = some (.phase .exchange) ∧ (d.lane 2).phase = .exchange ∧ d.boundaryAt 2 F.RGN_PHASE1_commit = 13200 ∧ d.isRef 2 = false ∧
    (d.lane 2).held = some (.phase .commit) ∧ (d.lane 3).phase = .exchange ∧ d.isRef 3 = true ∧
    (d.lane 3).mode = .run ∧ (d.lane 3).held = none ∧ (d.lane 4).phase ≠ .intake := by decide

/-- CommitPoint: lanes that have completed, that have overrun once and twice, and that are halted, in a block without units; a command of the lane. -/
theorem witness_CommitPoint :
    let l := { Lane.initial with mode := .done, phase := .commit }
    let x : NextCmd := ⟨7, false, 1⟩
    let lanes := [(0, l), (1, { l with mode := .run, completed := false }), (2, { l with mode := .run, completed := false, overrunLast := true }),
      (3, { l with mode := .halted })]
    let d := { withLeg Dev.initial 8 { legIn .run with next := some x } with now := 14400, lanes := lanes }
    (∀ b < 4, (d.lane b).phase = .commit ∧ d.boundaryAt b F.RGN_PHASE1_commit_point = 14400 ∧ d.blockUnits b = []) ∧ d.bad = [] ∧
    ((d.lane 0).completed = true ∧ (d.lane 1).completed = false ∧ (d.lane 1).overrunLast = false ∧ (d.lane 2).overrunLast = true ∧
      (d.lane 3).mode = .halted) ∧ (d.leg 8).next = some x ∧ (8 / 32 = 1 / 4 ∧ x.lane = 1 ∧ x.isSealed = false) := by decide

/-- GptpMessages: a chosen port in each state that the clauses name, offsets within and beyond the limits, a Sync that waits for its
origin, a device that wins against what is announced and one that does not, and a Sync that is overdue and one that is not. -/
theorem witness_GptpMessages :
    let rank : ClockRank := ⟨100, 6, 0, 128, 1, 0⟩
    let d : Dev := { fields Dev.initial [(0, F.TRL_PORT_enable, 1)] with net := 0x10000000000, trl := { Trellis.initial with rank := [(0, some ⟨rank, 0, 800000000⟩)], synced := 3, syncIvl := 10, arrival := [(0, some 5)] } }
    let wins := fields d [(0, F.TRL_CTRL_gm_enable, 1), (0, F.TRL_STATUS_state, trlAcquire)]
    let gm : Dev := { wins with trl := { wins.trl with rank := [] } }
    (d.takesFrom 0 = true ∧ d.trlState = trlFree ∧ d.takesFrom 1 = false) ∧
    (∀ x ∈ [trlLocked, trlHoldover, trlAcquire], (fields d [(0, F.TRL_STATUS_state, x)]).trlState = x ∧ (fields d [(0, F.TRL_STATUS_state, x)]).takesFrom 0 = true) ∧
    3 ≤ d.trl.synced ∧ d.syncOffset 0 d.syncStamp 0x10000000000 = 0 ∧ 1000 < d.syncOffset 0 d.syncStamp 0 / 65536 ∧
    d.syncOffset 0 d.syncStamp 0x20000000000 / 65536 < -1000 ∧ d.anyActive = false ∧
    Store.get (fun _ => none) d.trl.arrival 0 = some 5 ∧ Store.get (fun _ => none) d.trl.arrival 1 = none ∧
    (fields d [(0, F.TRL_STATUS_state, trlAcquire)]).winsBmca = false ∧ gm.winsBmca = true ∧ gm.trlState = trlAcquire ∧
    { d with now := 30 }.trl.lastSync + 3 * d.trl.syncIvl ≤ 30 ∧ 29 < d.trl.lastSync + 3 * d.trl.syncIvl := by decide

/-- TrellisRegisters: the bits of the written words, a held high word in FREE and a device that may not step, and phases in and out of order. -/
theorem witness_TrellisRegisters :
    let d := { Dev.initial with trl := { Trellis.initial with heldHi := some 5 } }
    let up := fields Dev.initial [(portReg 22, F.AXL_STAT_state, 2)]
    bitOf (0x12 : Word).toNat 4 = true ∧ bitOf (0x12 : Word).toNat 1 = true ∧ (up.plainWrite priv 0x40000000 2).axlTime 0 = true ∧
    (d.trl.heldHi = some 5 ∧ d.trlState = trlFree ∧ d.anyActive = false) ∧ (withUnit d 3 (unitIn .run)).anyActive = true ∧
    phasesOk 50 750 825 900 = true ∧ phasesOk 50 750 900 825 = false ∧ (withUnit (ownedBy0 []) 0 (unitIn .run)).subtickRefused 0 0 1 = true ∧
    (withUnit (ownedBy0 []) 0 (unitIn .run)).subtickRefused 0 1 1 = false := by decide

/-! ### Functional safety -/

/-- The HSL with some of its own state. -/
def withHsl (d : Dev) (h : Hsl) : Dev := { d with hsl := h }

/-- HslSources: a window that is an OV3 and a UV source, its raw output active and inactive, an active and a withdrawn OV3 action, action
codes, a hold time before and at its end, and sources that are and are not counted as active. -/
theorem witness_HslSources :
    let d : Dev := fields Dev.initial [(winBase 0 15, F.WIN_CFG_hsl, 1), (winBase 0 15, F.WIN_CFG_en, 1), (0, F.HSL_OV3SRC_mask, 0x8000), (0, F.HSL_UVSRC_mask, 0x8000)]
    let act : Dev := { d with raws := [(15, true)] }
    let on : Dev := fields d [(0, F.HSL_OV3STAT_active, 1)]
    (d.flag (winBase 0 15) F.WIN_CFG_en = true ∧ d.dacSettling 0 79 = false) ∧
    ((act.seeWindow 0 15 none).ov3Raw = true ∧ (act.seeWindow 0 15 none).uvRaw 0 15 = true ∧ (d.seeWindow 0 15 none).ov3Raw = false ∧
      (d.seeWindow 0 15 none).uvRaw 0 15 = false ∧ act.uvOn = [] ∧ 15 ∈ ({ d with uvOn := [15] } : Dev).uvOn ∧ 15 ∉ ({ act with uvOn := [3] } : Dev).uvOn) ∧
    d.flag 0 F.HSL_OV3STAT_active = false ∧ on.flag 0 F.HSL_OV3STAT_active = true ∧ on.ov3Raw = false ∧
    ((fields d [(0, F.HSL_OV3ACT_act, 2)]).actCode F.HSL_OV3ACT_act 0 = 2 ∧ (fields d [(0, F.HSL_OV3ACT_act, 0)]).actCode F.HSL_OV3ACT_act 0 = 0) ∧
    ((unitIn .run).active = true ∧ (unitIn .disabled).window = none) ∧
    ({ on with now := 2 ^ 40 }.ov3At + on.fld 0 F.HSL_OV3CFG_release * 800 ≤ 2 ^ 40 ∧ 0 < on.ov3At + on.fld 0 F.HSL_OV3CFG_release * 800) ∧
    (Store.get (fun _ => 0) d.ov3SelAt 0 + d.fld 0 F.HSL_OV3CFG_hold * 800000 ≤ 2 ^ 40 ∧
      0 < Store.get (fun _ => 0) d.ov3SelAt 0 + d.fld 0 F.HSL_OV3CFG_hold * 800000) ∧
    (fields d [(0, F.HSL_UVCFG_trip, 1)]).flag 0 F.HSL_UVCFG_trip = true ∧ (fields d [(0, F.HSL_UVCFG_trip, 0)]).flag 0 F.HSL_UVCFG_trip = false ∧
    (fields d [(unitBase 0, F.UNIT_CFG_class, 1)]).fld (unitBase 0) F.UNIT_CFG_class = 1 ∧
    (masterPriv priv = true ∧ masterPriv plainMaster = false) := by decide

/-- SafeOutputs: a request that may energise and one that may not, a delay that has run out and one that has not, feedback that agrees
and one that has differed for longer than its time. -/
theorem witness_SafeOutputs :
    let d : Dev := fields Dev.initial [(0, F.HSL_TEST_pass, 1), (0, F.HSL_SAFEOUT_fb_en, 1), (0, F.HSL_SAFEOUT_fb_pol, 1), (0, F.HSL_SAFEOUT_delay, 1), (0, F.HSL_SAFEOUTSTAT_fb, 0)]
    let t := withHsl d { Hsl.initial with soAt := [(0, some 0)] }
    let late : Dev := { withHsl d { Hsl.initial with soFbAt := [(0, some (0, false))] } with now := 2 ^ 40 }
    let ok := fields d [(0, F.HSL_SAFEOUT_fb_pol, 0)]
    (d.flag 0 F.HSL_STAT_lockout = false ∧ d.flag 0 F.HSL_TEST_pass = true ∧ bitOf (0x01000001 : Word).toNat 24 = true ∧
      d.fld 0 F.HSL_SFSTAT_demand &&& bitsOf (0x01000001 : Word).toNat 0 8 = 0) ∧ bitOf (1 : Word).toNat 24 = false ∧
    (Store.get (fun _ => none) t.hsl.soAt 0 = some 0 ∧ 0 + t.fld 0 F.HSL_SAFEOUT_delay * 800000 ≤ 2 ^ 40 ∧
      ¬ 0 + t.fld 0 F.HSL_SAFEOUT_delay * 800000 ≤ t.now ∧ Store.get (fun _ => none) d.hsl.soAt 0 = none) ∧
    (late.safeFbDiffers 0 = true ∧ late.safeFbAt 0 = some (0, false) ∧ 0 + late.fld 0 F.HSL_SAFEOUT_fb_time * 800000 < late.now) ∧
    ok.safeFbDiffers 0 = false ∧ (ok.watchSafeFb 0).safeFbLate 0 = false := by decide

/-- SafetyDemands: slots of each type that the clauses name, demanded and not, a discrepancy of the pins at its time. -/
theorem witness_SafetyDemands :
    let d := fields Dev.initial [(sfBase 0, F.HSL_SF_CFG_type, 1), (sfBase 0, F.HSL_SF_CFG_pins, 1), (sfBase 0, F.HSL_SF_UNITS_units, 1)]
    let ss1 := fields d [(sfBase 0, F.HSL_SF_CFG_type, 2), (0, F.HSL_SFSTAT_demand, 1)]
    let disch := fields ss1 [(sfBase 0, F.HSL_SF_CFG_type, 4)]
    let diff : Dev := { withHsl d { Hsl.initial with stoDiff := some (0, false) } with now := 2 ^ 40 }
    let pin := (d.hsl.stoA.see 0 d.ns false)
    (d.flag 0 F.HSL_STAT_lockout = false ∧ d.flag (sfBase 0) F.HSL_SF_CFG_pins = true ∧ bitOf (d.fld 0 F.HSL_SFSTAT_demand) 0 = false ∧
      bitOf (d.fld 0 F.HSL_SFSTAT_acting) 0 = false ∧ d.fld (sfBase 0) F.HSL_SF_CFG_type = 1 ∧ bitOf (d.fld (sfBase 0) F.HSL_SF_UNITS_units) 0 = true) ∧
    (bitOf (ss1.fld 0 F.HSL_SFSTAT_demand) 0 = true ∧ bitOf (ss1.fld 0 F.HSL_SFDONE_done) 0 = false ∧ ss1.fld (sfBase 0) F.HSL_SF_CFG_type = 2 ∧
      Store.get (fun _ => 0) ss1.hsl.sfAt 0 + bitsOf (ss1.fld (sfBase 0) F.HSL_SF_P1_p1) 0 16 * 800000 ≤ 0) ∧
    (disch.fld (sfBase 0) F.HSL_SF_CFG_type = 4 ∧ disch.uvOn = [] ∧ bitOf (disch.fld 0 F.HSL_SFFAULT_fault) 0 = false ∧ disch.fld 0 F.HSL_UPD_state = 0) ∧
    (diff.hsl.stoDiff = some (0, false) ∧ diff.stoApart = true ∧ d.stoApart = false ∧ d.hsl.stoDiff = none) ∧
    ((pin.served (2 ^ 30) (d.fld 0 F.HSL_STO_filt * 800)).out ≠ d.hsl.stoA.out ∧
      ((d.hsl.stoA.see 0 d.ns true).served 0 (d.fld 0 F.HSL_STO_filt * 800)).out = d.hsl.stoA.out) := by decide

/-- SafetyPair: a first and a later watchdog period with and without right responses, during an update too, a core that waits in time, too
late and elsewhere, a pair in reset, an open and a closed debug port, and accesses of the pair. -/
theorem witness_SafetyPair :
    let up := withHsl Dev.initial { Hsl.initial with pairUp := true, released := true }
    let later := withHsl Dev.initial { Hsl.initial with pairUp := true, wdAt := some 0, resp0 := some true, resp1 := some true }
    let w : PairWait := ⟨false, 0, .chkpt 7, 0, false⟩
    let wait : Dev := { up with pairWait := some w }
    let closed := fields Dev.initial [(0, F.CEL_STAT_field, 1), (0, F.CEL_STAT_state, 1)]
    (up.hsl.wdAt = none ∧ up.hsl.pairUp = true ∧ up.isSplit = false ∧ up.pairWait = none) ∧
    (later.hsl.wdAt = some 0 ∧ later.hsl.resp0 = some true ∧ later.hsl.resp1 = some true ∧ 0 + later.fld 0 F.HSL_WD_period * 800 ≤ 2 ^ 30 ∧
      0 < 0 + later.fld 0 F.HSL_WD_period * 800 ∧ (⟨3, true⟩ : Master).id = 3 ∧ up.hsl.resp0 = none ∧ up.hsl.resp1 = none) ∧
    (up.wdAnswered = false ∧ up.fld 0 F.HSL_UPD_state = 0 ∧ (fields up [(0, F.HSL_UPD_state, 1)]).wdAnswered = false ∧
      (fields up [(0, F.HSL_UPD_state, 1)]).fld 0 F.HSL_UPD_state ≠ 0) ∧
    (wait.pairWait = some w ∧ w.sc1 ≠ true ∧ wait.now ≤ w.since + pairLimit ∧ wait.flag 0 F.HSL_TEST_inj = false ∧ w.point = .chkpt 7 ∧
      w.point ≠ .chkpt 8 ∧ w.since + pairLimit < pairLimit + 1) ∧
    ({ up with pairReset := some 0, now := 800000 }.pairReset = some 0 ∧ { up with pairReset := some 0, now := 800000 }.pairResetDue = true ∧
      up.pairResetDue = false) ∧ Dev.initial.debugPort = true ∧ closed.debugPort = false ∧
    ownAccess false (.read 0x12000000 4) = false ∧ ownAccess true (.write 0x12000000 4 0) = false ∧ Dev.initial.hsl.pairUp = false := by decide

/-- MonitorsAndLockout: intervals and counts at both ends of their windows, supplies inside and outside and above and below their hold levels,
a lock-out that may be armed and one that is, and the end of an armed sequence, ready and not. -/
theorem witness_MonitorsAndLockout :
    let lock := fields Dev.initial [(0, F.HSL_STAT_lockout, 1)]
    let armed := withHsl (fields lock [(0, F.HSL_STAT_reset_armed, 1), (0, F.HSL_STAT_safe_ack, 0)]) { Hsl.initial with ackLow := some 0 }
    let bad := fields armed [(0, F.HSL_SFFAULT_fault, 1)]
    (2 * 7999 < Dev.initial.hsl.tickP ∧ 3 * Dev.initial.hsl.tickP < 2 * 24001 ∧ Dev.initial.hsl.tickP ≤ 2 * 8000 ∧
      2 * 24000 ≤ 3 * Dev.initial.hsl.tickP) ∧
    (2431 < 2432 ∧ 2688 < 2689 ∧ 2432 ≤ 2432 ∧ 2688 ≤ 2688) ∧ lock.flag 0 F.HSL_STAT_lockout = true ∧ (1 : Word) ≠ 0x5AFE5AFE ∧
    (∀ r ∈ [Rail.core, .ana, .io, .adc, .lnk, .drv], railOutside r 0 = true) ∧ railOutside .io 3300 = false ∧
    (∀ h ∈ [HoldRail.ana, .io, .lnk, .drv], 0 ≤ holdLevel h ∧ holdLevel h < 100000) ∧
    Dev.initial.flag 0 F.HSL_STAT_safe_ack = true ∧ armed.flag 0 F.HSL_STAT_safe_ack = false ∧ armed.flag 0 F.HSL_STAT_reset_armed = true ∧
    armed.hsl.ackLow = some 0 ∧ max 0 armed.hsl.armedAt + 80000000 ≤ 80000000 ∧ armed.hsl.armedAt + 4000000000 ≤ 4000000000 ∧
    armed.resetReady = true ∧ bad.resetReady = false ∧
    Dev.initial.flag 0 F.HSL_STAT_reset_armed = false ∧ (∀ k ∈ armed.unitLegs 0, (armed.leg k).atRest = true) := by decide

/-- TestAndUpdate: a running test with each outcome, a test that is not asked for, an update in each of its states and its time limit. -/
theorem witness_TestAndUpdate :
    let run := withHsl Dev.initial { Hsl.initial with testAt := some 0 }
    let bad := withHsl (withLeg (ownedBy0 [(legReg 0 + 0x44, 3)]) 0 { Leg.initial with fbH := false }) { Hsl.initial with testAt := some 0 }
    let upd := withHsl (fields Dev.initial [(0, F.HSL_UPD_state, 1)]) { Hsl.initial with updOk := true }
    (run.hsl.testAt ≠ none ∧ run.flag 0 F.HSL_TEST_done = false ∧ run.testFailure none = none ∧ run.notOff = none) ∧
    run.testFailure (some (5, true)) = some (5, 2) ∧ bad.testFailure none = some (0, 3) ∧
    bitOf (0x10 : Word).toNat 4 = true ∧ Dev.initial.hsl.testAt = none ∧
    Dev.initial.fld 0 F.HSL_UPD_state = 0 ∧ Dev.initial.flag 0 F.HSL_STAT_lockout = false ∧ (upd.fld 0 F.HSL_UPD_state = 1 ∧ upd.hsl.updOk = true) ∧
    (fields Dev.initial [(0, F.HSL_UPD_state, 2)]).fld 0 F.HSL_UPD_state = 2 ∧ Dev.initial.hsl.updAt + Dev.initial.fld 0 F.HSL_UPD_tmax * 80000000 ≤ 2 ^ 50 ∧
    0 < 1 + Dev.initial.hsl.updAt ∧ updClass 1 = true := by decide

/-- SafeChannel: a transmit connection that is due and one that is not, frames with and without a connection, first and second in a tick, a frame
that passes every check in RUN and in SYNC, one that fails with few and with two errors before, a watchdog at its time, a faulted
connection, and words that enable a safe and an unsafe port. -/
theorem witness_SafeChannel :
    let send : Dev := { fields Dev.initial [(conBase 0, F.SCH_CON_CFG_en, 1), (conBase 0, F.SCH_CON_CFG_dir, 1), (conBase 0, F.SCH_CON_STAT_state, conRun)] with
      schs := [(0, { SchConn.initial with ticks := 0xFFFF })] }
    let base := [(conBase 0, F.SCH_CON_CFG_en, 1), (conBase 0, F.SCH_CON_STAT_state, conRun), (conBase 0, F.SCH_CON_STAT_toggle, 0),
      (conBase 0, F.SCH_CON_CFG_len, 8), (conBase 0, F.SCH_CON_STAT_seq, 0)]
    let d := fields Dev.initial base
    let x : Dev := { d with schs := [(0, { SchConn.initial with landed := some ([1], 0, 0), landTick := d.tickName + 1 })] }
    let head : List Byte := [0, 0, 0, 0, 0, 1, 0, 8] ++ List.replicate 16 0
    let good := head ++ beBytes 4 (safetyCode 0 head)
    let sync : Dev := { fields d [(conBase 0, F.SCH_CON_STAT_state, conSync)] with schs := [(0, { SchConn.initial with synced := true })] }
    let bad := fields d [(conBase 0, F.SCH_CON_STAT_state, conFaulted), (0, F.TRL_HOLD_ERR_ns, 0)]
    (send.conSends 0 = true ∧ send.conLive 0 = true ∧ send.fld (conBase 0) F.SCH_CON_CFG_div ≤ (send.sch 0).ticks ∧ d.conSends 0 = false) ∧
    (isCan 0 = false ∧ isCan 6 = true ∧ Dev.initial.canMode 6 = 0 ∧ Dev.initial.conFor 0 [] = none ∧ d.conLive 0 = true ∧
      d.conFor 0 [0, 0, 0, 0] = some 0 ∧ (d.sch 0).landTick ≠ d.tickName ∧ (d.sch 0).landed = none) ∧
    ((x.sch 0).landed = some ([1], 0, 0) ∧ (x.sch 0).landTick ≠ x.tickName ∧ x.conState 0 = conRun ∧ x.schCode 0 [1] 0 ≠ 0 ∧
      x.fld (conBase 0) F.SCH_CON_STAT_errs < 2 ∧ 2 ≤ (fields x [(conBase 0, F.SCH_CON_STAT_errs, 2)]).fld (conBase 0) F.SCH_CON_STAT_errs) ∧
    (d.schCode 0 good 0 = 0 ∧ sync.schCode 0 good 0 = 0 ∧ sync.conState 0 = conSync ∧ (sync.sch 0).synced = true ∧
      frameNat good 4 2 = (sync.fld (conBase 0) F.SCH_CON_STAT_seq + 1) % 65536) ∧
    (32 * ((x.sch 0).since + x.fld (conBase 0) F.SCH_CON_WD_wd * 800) ≤ 2 ^ 40 ∧ Dev.initial.conLive 1 = false) ∧
    (bad.conState 0 = conFaulted ∧ bad.overCeiling 0 = false ∧ bitOf (1 : Word).toNat 0 = true) ∧
    (safePort 0 = true ∧ safePort 14 = false ∧ Dev.initial.isFd 0 = false ∧ ∀ k < 8, Dev.initial.sfBad k = false ∧ Dev.initial.slotOver k = false) := by decide

/-- SafetyFramesAndSlots: configurations that are good, a pair that is up and one that is not. -/
theorem witness_SafetyFramesAndSlots :
    (∀ j < 8, Dev.initial.sfBad j = false ∧ Dev.initial.slotOver j = false) ∧ Dev.initial.hsl.pairUp = false ∧
    (withHsl Dev.initial { Hsl.initial with pairUp := true }).hsl.pairUp = true ∧
    (fields Dev.initial [(sfBase 0, F.HSL_SF_CFG_type, 1)]).fld (sfBase 0) F.HSL_SF_CFG_type ≠ 0 := by decide

/-! ### Analogue front end, shed sequencers, feedback and capture -/

/-- A device with sequence `q` of converter 0 of region 0 in a state. -/
def withSeq (d : Dev) (q : Nat) (x : AdcSeq) : Dev := { d with seqs := [(q, x)] }
/-- A device with feedback channel 0 of region 0 in a state. -/
def withFb (d : Dev) (x : FbChan) : Dev := { d with fbs := [(0, x)] }

/-- Converters: a sequence with a trigger that is idle and one that runs, a waiting sequence whose start has come, the idle window and its lack. -/
theorem witness_Converters :
    let d := fields Dev.initial [(seqBase 0 0 0, F.ADC_SEQ_CFG_trig, 1)]
    let idle := withSeq d 0 { AdcSeq.initial with trig := true }
    let run := withSeq d 0 { AdcSeq.initial with trig := true, phase := .running 5 0 }
    let wait := withSeq d 0 { AdcSeq.initial with phase := .waiting 7 }
    ((idle.seq 0 0 0).trig = true ∧ idle.seqTrig 0 0 0 ≠ 0 ∧ (idle.seq 0 0 0).phase = .idle) ∧
    ((run.seq 0 0 0).trig = true ∧ (run.seq 0 0 0).phase = .running 5 0 ∧ { run with now := 85 }.now = 5 + 80 * (0 + 1)) ∧
    (bitOf (0x80000000 : Word).toNat 31 = true ∧ (fields Dev.initial [(seqBase 0 0 0, F.ADC_SEQ_CFG_trig, 6)]).seqTrig 0 0 0 = 6 ∧
      Dev.initial.overridden 0 0 0 = false ∧ d.seqTrig 0 0 0 ≠ 6) ∧
    ({ wait with now := 7 }.mayStart 0 0 0 = true ∧ { wait with now := 6 }.mayStart 0 0 0 = false) ∧ (d.resolverOf 0 0 = none) ∧
    (d.convIdle 0 0 = true ∧ (d.conv 0 0).freeAt + 80 ≤ 80 ∧ run.convIdle 0 0 = false ∧ (run.conv 0 0).idleAt + 800000 ≤ 800000 ∧
      (d.conv 0 0).failGnd = false ∧ ({ d with convs := [(0, { AdcConv.initial with failGnd := true })] }.conv 0 0).failGnd = true) ∧
    (24 < adcCode 5000000 ∧ ¬ 24 < adcCode 0) ∧ ({ d with pins := [(3, some 7)] } : Dev).pin 0 3 = some 7 ∧
    (fields Dev.initial [(fbBase 0 0, F.FB_CFG_en, 1), (fbBase 0 0, F.FB_CFG_src, 2)]).resolverOf 0 0 = some (0, true) := by decide

/-- SigmaDeltaAndDacs: an enabled input with its ratio whose clock runs and one without, an output that is due and one that is not, the bit of
a stuck and of a lively pin, an overcurrent and none, a misaligned and an aligned configuration, a divider in use, and the readbacks
of DAC 0 and 79 at their codes and one off it. -/
theorem witness_SigmaDeltaAndDacs :
    let b := sdBase 0 0
    let d : Dev := { fields Dev.initial [(b, F.SD_CFG_en, 1), (b, F.SD_CFG_osr, 64), (b, F.SD_CFG_osr1, 16), (b, F.SD_CFG_oc_en, 1), (b, F.SD_OC_thr, 0x4000),
      (b, F.SD_OCMASK_legs, 1), (winBase 0 15, F.WIN_DAC_code, 0), (rgnReg 0, F.SD_CLK_run0, 1), (rgnReg 0, F.SD_CLK_div0, 40)] with now := 40 }
    let st : SdInput → Dev := fun x => { d with sds := [(0, x)] }
    let ones := st { SdInput.initial with bits := List.replicate 63 true, run := 63 }
    let mixed := st { SdInput.initial with bits := [false, true, false, true, false, true, false, true, false, true, false, true, false, true, false, true] }
    let w := d.plainWrite priv (b + 0x1240) 0x3801
    let c := d.plainWrite priv (rgnReg 0 + 0x1200) 0x2850
    let ran := withLeg d 0 (legIn .run)
    let late : Dev := { d with now := 2 ^ 20 }
    let turn : Nat → Dev := fun n => { d with now := 100, convs := [(3, { AdcConv.initial with turn := n })] }
    (d.sdRuns 0 0 = true ∧ d.sdDivOf 0 0 = 40 ∧ 0 < d.fld b F.SD_CFG_osr ∧ 0 < d.fld b F.SD_CFG_osr1) ∧ Dev.initial.sdRuns 0 0 = false ∧
    (late.sdInstant 0 0 + 8 ≤ late.now ∧ ¬ d.sdInstant 0 0 + 8 ≤ d.now) ∧
    (d.sdEdges 0 0 d.now = (d.sd 0 0).taken + 1 ∧ Dev.initial.sdEdges 0 0 0 ≤ (Dev.initial.sd 0 0).taken) ∧
    ((ones.sd 0 0).bits.head? = some true ∧ 63 ≤ (ones.sd 0 0).run ∧ (ones.sd 0 0).bits.head? ≠ some false ∧ (ones.sd 0 0).tripped = none) ∧
    (16 ≤ (((ones.sd 0 0).push true).bits.take 16).countP (fun b => b) ∧ d.flag b F.SD_CFG_oc_en = true ∧ d.fld b F.SD_OC_thr * 16 ≤ (2 * (16 : Int) - 16).natAbs * 32768) ∧
    ((((mixed.sd 0 0).push true).bits.take 16).countP (fun b => b) = 8 ∧ ¬ d.fld b F.SD_OC_thr * 16 ≤ (2 * (8 : Int) - 16).natAbs * 32768) ∧
    (bitOf (ran.fld b F.SD_OCMASK_legs) 0 = true ∧ (ran.leg 0).st ≠ .off ∧ (ran.leg 0).hsl = false) ∧ bitOf (w.reg (b + 0x1240)).toNat 2 = false ∧
    (bitOf 0x3805 2 = true ∧ d.aligns 0 63 3 = false) ∧
    (∃ i < 16, d.flag (sdBase 0 i) F.SD_CFG_en = true ∧ d.fld (sdBase 0 i) F.SD_CFG_clk = 0) ∧ d.sdDiv 0 0 ≠ c.sdDiv 0 0 ∧
    ((turn 2).backgroundDue 0 3 = true ∧ 2 ≤ ((turn 2).conv 0 3).turn ∧ ((turn 81).conv 0 3).turn - 2 = 79 ∧ ((turn 0).conv 0 3).turn < 2 ∧
      d.backgroundDue 0 3 = false) ∧
    (turn 81).dacFresh 0 79 = false ∧ adcCode 0 ≤ 16 * d.dacCode 0 79 0 + 32 ∧ 16 * d.dacCode 0 79 0 ≤ adcCode 0 + 32 ∧
    ¬ adcCode 5000000 ≤ 16 * d.dacCode 0 79 0 + 32 ∧
    Store.get (fun _ => 0) d.passAt 0 + d.fld (rgnReg 0) F.RGN_RB_CTRL_timeout * 800000 ≤ 2 ^ 40 ∧
    d.now < Store.get (fun _ => 0) d.passAt 0 + d.fld (rgnReg 0) F.RGN_RB_CTRL_timeout * 800000 := by decide

/-- ShedSequencers: each mark, a reference leg, an enabled window to which a shedding sequencer listens, a window that is off. -/
theorem witness_ShedSequencers :
    let a := shdBase 0 0
    let f := fields Dev.initial [(a, F.SHD_LEGS_legs, 3), (a, F.SHD_ACT_legs, 3), (a, F.SHD_CFG_en, 1), (a, F.SHD_CFG_win_en, 1), (a, F.SHD_CFG_win, 2),
      (winBase 0 2, F.WIN_CFG_en, 1), (a, F.SHD_STAT_state, shdShedding)]
    let d := withUnit (withLeg f 0 (legIn .run)) 0 (unitIn .run)
    let marked := fun (m : ShedMark) => { d with sheds := [(0, { ShedSeq.initial with mark := some m })] }
    (∀ m ∈ [ShedMark.start, .complete, .dwellEnd, .holdEnd], ((marked m).shed 0 0).mark = some m) ∧ (d.shed 0 0).mark = none ∧
    d.referenceLeg 0 0 ≠ none ∧ d.activeLegs 0 0 = [0, 1] ∧
    (d.flag (winBase 0 2) F.WIN_CFG_en = true ∧ d.flag a F.SHD_CFG_en = true ∧ d.flag a F.SHD_CFG_win_en = true ∧ d.fld a F.SHD_CFG_win = 2 ∧
      (d.unit (d.fld a F.SHD_CFG_unit)).active = true ∧ d.shdState 0 0 = shdShedding) ∧ d.flag (winBase 0 3) F.WIN_CFG_en = false ∧
    ({ d with raws := [(2, true)], rawAt := [(2, some 0)], now := 2 ^ 20 } : Dev).filterDone 0 2 = true ∧ d.filterDone 0 2 = false ∧
    ({ d with raws := [(2, true)] } : Dev).raw 0 2 = true ∧ d.raw 0 2 = false := by decide

/-- Rainflow: a channel that owes its first sample, one that goes on, and reversals at and below the hysteresis. -/
theorem witness_Rainflow :
    let d := fields Dev.initial [(rfBase 0 0, F.RF_CH_en, 1), (rgnReg 0, F.RF_CFG_hyst, 10)]
    let st := fun (x : RfChan) => { d with rfs := [(0, x)] }
    let owes := st { RfChan.initial with dueFrom := some 0 }
    let at_ := fun (y : Int) => st { RfChan.initial with dueFrom := some 0, last := some y }
    ((owes.rf 0 0).dueFrom ≠ none ∧ owes.flag (rfBase 0 0) F.RF_CH_en = true ∧ owes.isBad (blkBase 0 + 0x40000) = false ∧ (owes.rf 0 0).last = none) ∧
    (((at_ (-5)).rf 0 0).last = some (-5) ∧ (-5 : Int) ≤ signed 16 ((at_ (-5)).loadN (blkBase 0 + 0x40000) 2)) ∧
    (¬ (15 : Int) ≤ 0 ∧ 10 * ((0 : Int) - 15).natAbs < 16 * d.fld (rgnReg 0) F.RF_CFG_hyst) ∧
    (¬ (16 : Int) ≤ 0 ∧ 16 * d.fld (rgnReg 0) F.RF_CFG_hyst ≤ 10 * ((0 : Int) - 16).natAbs) ∧ (d.rf 0 0).dueFrom = none ∧
    (owes.portBusy (owes.rfPort 0 0) = false ∧ (owes.usePort (owes.rfPort 0 0)).portBusy (owes.rfPort 0 0) = true) ∧ d.flag (rfBase 0 1) F.RF_CH_en = false ∧ Dev.initial.rfAnyOn 0 = false ∧ d.rfAnyOn 0 = true := by decide

/-- FeedbackEdges: one and two changed lines and none, a fourth illegal step, index modes before and after the first index, Hall steps up,
down and across, an invalid state, samples of each sensor, a speed of zero, writes. -/
theorem witness_FeedbackEdges :
    let b := fbBase 0 0
    let on := [(b, F.FB_CFG_en, 1), (b, F.FB_CFG_filt, 0)]
    let high : FbPin := { FbPin.initial with level := true, out := true }
    let qep := fields Dev.initial (on ++ [(b, F.FB_QEP_lines, 256), (b, F.FB_QEP_idx_mode, 1)])
    let pass : FbPin → Bool → FbPin := fun p l => (p.see qep.now qep.ns l).served qep.now (qep.fld b F.FB_CFG_filt)
    let x := FbChan.initial
    let m3 := withFb (fields qep [(b, F.FB_QEP_idx_mode, 3)]) { x with indexed := true, count := 1030 }
    let hall : Nat → Dev := fun k => withFb (fields Dev.initial (on ++ [(b, F.FB_CFG_src, 1), (b, F.FB_HALL_map, 1)])) { x with sector := some k }
    let trig : Nat → FbChan → Dev := fun src x => withFb (fields Dev.initial (on ++ [(b, F.FB_CFG_src, src)])) { x with trig := true }
    let cfg := qep.plainWrite priv (b + 0x1C00) 1
    (qep.fbIs 0 0 0 = true ∧ (pass x.pinA true).out = true ∧ (pass x.pinB false).out = false ∧ (pass x.pinZ x.pinZ.level).out = false ∧
      (pass x.pinA x.pinA.level).out = x.pinA.out) ∧
    (3 ≤ ((({ x with illegalAt := [0, 0, 0] } : FbChan).illegalAt).filter (fun t => decide (qep.now < t + 800000))).length) ∧
    (qep.flag b F.FB_QEP_idx_gate = false ∧ qep.fld b F.FB_QEP_idx_mode = 1 ∧ (qep.fb 0 0).indexed = false ∧ (pass x.pinZ true).out = true) ∧
    (m3.fld b F.FB_QEP_idx_mode = 3 ∧ (m3.fb 0 0).indexed = true ∧
      (m3.fld b F.FB_IDX_tol : Int) < ((m3.fb 0 0).count - nearestMultiple (m3.fb 0 0).count (m3.qepCounts 0 0)).natAbs) ∧
    (fields qep [(b, F.FB_QEP_idx_mode, 0)]).fld b F.FB_QEP_idx_mode = 0 ∧
    ((hall 0).fbIs 0 0 1 = true ∧ (hall 0).hallSector 0 0 1 = 1 ∧ ((hall 0).fb 0 0).sector = some 0 ∧ ((hall 0).fb 0 0).hall = 0 ∧ 1 = (0 + 1) % 6) ∧
    (((hall 2).fb 0 0).sector = some 2 ∧ 1 ≠ (2 + 1) % 6 ∧ 2 = (1 + 1) % 6) ∧ (1 ≠ (4 + 1) % 6 ∧ 4 ≠ (1 + 1) % 6) ∧
    (∀ k : Fin 4, ((trig k x).fb 0 0).trig = true ∧ (trig k x).fbIs 0 0 k = true) ∧
    (((trig 1 { x with pinA := high }).fb 0 0).hall = 1 ∧ ((trig 1 x).fb 0 0).hall = 0 ∧
      ((trig 1 { x with pinA := high, pinB := high, pinZ := high }).fb 0 0).hall = 7) ∧
    (((trig 3 x).fb 0 0).frame = none ∧ ((trig 3 { x with frame := some (0, 0) }).fb 0 0).frame ≠ none) ∧ (qep.fb 0 0).trig = false ∧
    ((withFb Dev.initial { x with trig := true }).fb 0 0).trig = true ∧
    (qep.zeroDue 0 0 = false ∧ ({ qep with now := 2 ^ 30 } : Dev).zeroDue 0 0 = true ∧ (qep.fb 0 0).hold = false) ∧
    (cfg.flag b F.FB_CFG_en = true ∧ bitsOf ((cfg.plainWrite priv (b + 0x1C00) 3).reg (b + 0x1C00)).toNat 1 2 ≠ bitsOf (cfg.reg (b + 0x1C00)).toNat 1 2) ∧
    (cfg.fld b F.FB_CFG_src ≠ 3 ∧ ∀ j < 8, cfg.sfBad j = true → Dev.initial.sfBad j = true) ∧ bitsOf (0x5 : Word).toNat 0 2 = bitsOf (0x5 : Word).toNat 2 2 := by decide

/-- ResolverSsiProbes: a resolver at a peak with idle and busy converters, an exact pair and one that is skipped, a frame at its end with good
and bad bits and one that runs, and a probe whose level changes, holds and passes, with and without an edge selected. -/
theorem witness_ResolverSsiProbes :
    let b := fbBase 0 0
    let r : Dev := { fields Dev.initial [(b, F.FB_CFG_en, 1), (b, F.FB_CFG_src, 2), (b, F.RES_EXC_run, 1), (b, F.RES_EXC_half, 80), (b, F.RES_CFG_adc_c, 1)] with now := 40 }
    let busy := withSeq r 1 { AdcSeq.initial with phase := .waiting 3 }
    let pair := withFb r { FbChan.initial with posS := some 6, negS := some (-6), posC := some 8, negC := some (-8) }
    let ssi : Dev := { withFb (fields Dev.initial [(b, F.FB_CFG_en, 1), (b, F.FB_CFG_src, 3), (b, F.FB_SSI_bits, 10), (b, F.FB_SSI_st, 9), (b, F.FB_SSI_mt, 0),
      (b, F.FB_SSI_err_bit, 0)]) { FbChan.initial with frame := some (4, 4) } with now := 2 ^ 20 }
    let prb : Dev := { fields Dev.initial [(rgnReg 0, F.PRB_CFG_en, 1), (rgnReg 0, F.PRB_STAT_new, 1)] with
      now := 2 ^ 20, prbs := [(0, ⟨{ FbPin.initial with level := true }, 5⟩)] }
    (r.excPeak 0 0 = some true ∧ (r.fb 0 0).peakAt ≠ r.now + 1 ∧ r.fld b F.RES_CFG_adc_s ≠ r.fld b F.RES_CFG_adc_c ∧
      Dev.initial.excPeak 0 0 ≠ some true) ∧
    ((r.seq 0 0 1).phase = .idle ∧ (r.seq 0 1 1).phase = .idle ∧ (busy.seq 0 0 1).phase ≠ .idle) ∧ Dev.initial.pairDue 0 0 = false ∧
    ((withFb r { FbChan.initial with skip := true, skips := 2 }).pairDue 0 0 = true) ∧
    (pair.pairDue 0 0 = true ∧ (pair.fb 0 0).skip = false ∧ (pair.fb 0 0).posS = some 6 ∧ (6 : Int) - -6 = 2 * 6 ∧ (8 : Int) - -8 = 2 * 8 ∧
      (6 : Int) * 6 + 8 * 8 = (10 : Nat) * 10) ∧
    ((ssi.fb 0 0).frame = some (4, 4) ∧ ssi.frameEnd 0 0 4 ≤ ssi.now ∧ ssi.fbIs 0 0 3 = true ∧ ({ ssi with now := 5 } : Dev).now < ssi.frameEnd 0 0 4 ∧
      ([true] ++ List.replicate 11 false).length = ssi.fld b F.FB_SSI_bits + 2 ∧ ssi.flag b F.FB_SSI_err_bit = false ∧ ssi.fld b F.FB_SSI_jump = 0 ∧
      (List.replicate 12 false).headD true = false) ∧
    ((prb.prb 0 0).pin.level = true ∧ (prb.prb 0 0).pin.passes prb.now (prb.fld (rgnReg 0) F.PRB_CFG_filt) = true ∧
      (Dev.initial.prb 0 0).pin.passes 0 0 = false ∧
      prb.flag (rgnReg 0) F.PRB_CFG_en = true ∧ prb.fld (rgnReg 0) F.PRB_CFG_edge ≠ 2 ∧ prb.flag (rgnReg 0) F.PRB_STAT_new = true ∧
      Dev.initial.flag (rgnReg 0) F.PRB_CFG_en = false) := by decide

/-- CaptureUnits: an arm that fits and one that does not, triggers, a running unit, and a record that is due, in the ring and last. -/
theorem witness_CaptureUnits :
    let d := fields Dev.initial [(rgnReg 0, F.CAP_CFG_n, 1), (rgnReg 0, F.CAP_LEN_pre, 1), (rgnReg 0, F.CAP_LEN_post, 1)]
    let st := fun (x : CapUnit) => { d with caps := [(0, x)], now := 5 }
    let i : CapInstant := ⟨5, 4, 0x1234⟩
    let armed := st { CapUnit.initial with st := .armed, noted := some 3, waiting := [i] }
    let last := st { CapUnit.initial with st := .triggered, trigRec := some 0, left := 1, waiting := [i] }
    let full := st { CapUnit.initial with st := .triggered, trigRec := some 1, before := 1, next := 0, left := 2, waiting := [i] }
    let w := d.plainWrite priv (rgnReg 0 + 0x2900) 0x10001
    ((full.cap 0).trigRec = some 1 ∧ (1 + full.capQ 0 - (full.cap 0).next) % full.capQ 0 = 1 ∧ full.fld (rgnReg 0) F.CAP_LEN_pre = 1 ∧
      (full.cap 0).before = 1 ∧ (full.cap 0).guards (full.capQ 0) 1 = true ∧ (last.cap 0).guards (last.capQ 0) 1 = false) ∧
    ((d.cap 0).st = .idle ∧ bitOf (0x10001 : Word).toNat 0 = true ∧ bitOf (0x10001 : Word).toNat 1 = false ∧ 1 + 1 ≤ w.capQ 0 ∧ d.fld (rgnReg 0) F.CAP_LEN_post ≠ 0 ∧
      w.dmaReads (w.capBase 0) (4 * (w.capN 0 + 2) * w.capQ 0) = false) ∧ (fields Dev.initial [(rgnReg 0, F.CAP_LEN_post, 0)]).fld (rgnReg 0) F.CAP_LEN_post = 0 ∧
    ((armed.cap 0).st = .armed ∧ bitOf (0x10002 : Word).toNat 0 = false ∧ bitOf (0x10002 : Word).toNat 1 = true ∧ bitsOf (0x10002 : Word).toNat 16 4 = armed.capN 0) ∧
    ((armed.cap 0).noted = some 3 ∧ (d.cap 0).noted = none ∧ ¬ ((armed.cap 0).st = .idle ∨ (armed.cap 0).st = .done)) ∧
    ((armed.cap 0).waiting = [i] ∧ i.due ≤ armed.now ∧ armed.bad = [] ∧ (armed.cap 0).trigRec = none) ∧
    ((last.cap 0).trigRec = some 0 ∧ (last.cap 0).left = 1 ∧ (last.cap 0).st = .triggered) ∧ (d.cap 0).waiting = [] := by decide

/-! ### Cellar, module tags, NVS, fabric and DMA -/

/-- A device with an aligned mailbox range of `n` bytes at the start of the chip RAM. -/
def mailbox (n : Nat) : Dev := fields (regsSet [(0x40030008, 0x12000000)]) [(0, F.CEL_LEN_len, n)]
/-- A device whose chip RAM starts with some words, 4 bytes each. -/
def withRam (d : Dev) (l : List Nat) : Dev :=
  (List.range l.length).foldl (fun d i => { d with mem := storeBytes d.mem (0x12000000 + 4 * i) (leBytes 4 (l.getD i 0)) }) d

/-- CellarMailbox: a master that is turned away and a busy Cellar, one that is not, ALARM, a misplaced range, an op without a meaning. -/
theorem witness_CellarMailbox :
    let d := mailbox 64
    let other : BitVec 8 := 0
    Dev.initial.celTurned ⟨4, false⟩ = true ∧ (fields d [(0, F.CEL_STAT_busy, 1)]).celTurned priv = true ∧ d.celTurned priv = false ∧
    (fields d [(0, F.CEL_STAT_state, 5)]).fld 0 F.CEL_STAT_state = 5 ∧ d.fld 0 F.CEL_STAT_state ≠ 5 ∧
    (regsSet [(0x40030008, 0x12000020)]).celRange 64 = false ∧ d.celRange d.celLen = true ∧ other.toNat = 0 ∧ 15 < (16 : BitVec 8).toNat := by decide

/-- CellarCommands: a ready mailbox with a range of each length that the clauses name, a locked range, a wrapping key, purposes. -/
theorem witness_CellarCommands :
    let ready := fun (d : Dev) => d.celTurned priv = false ∧ d.fld 0 F.CEL_STAT_state ≠ 5 ∧ d.celRange d.celLen = true
    let keyed := fun (n : Nat) => { mailbox n with vault := { Vault.initial with wrapKey := some [1] }, cellar := { Cellar.initial with lock := some (0, 8) } }
    (∀ n ∈ [32, 44, 60, 256, 4124], ready (mailbox n) ∧ (mailbox n).celLen = n) ∧ (mailbox 256).vintLost = false ∧
    ((keyed 44).cellar.lock ≠ none ∧ (keyed 44).vault.wrapKey ≠ none ∧ (keyed 44).celLen = 16 + 28 ∧ (keyed 60).celLen = 32 + 28) ∧
    ready (keyed 44) ∧ ready (keyed 60) ∧ (0x100 : BitVec 16).toNat % 256 = 0 ∧ (1 : BitVec 16).toNat % 256 ≠ 0 ∧
    (List.replicate 12 (0 : Byte)).length = 12 ∧ (∀ u < 32, Dev.initial.unit u = UnitRec.initial) := by decide

/-- DebugPort: a ready mailbox, an opening without a challenge, an erasure in progress, its repeat, and none. -/
theorem witness_DebugPort :
    let erasing := fields (mailbox 128) [(0, F.CEL_STAT_state, 3)]
    let again := { erasing with cellar := { Cellar.initial with again := true } }
    ((mailbox 128).celTurned priv = false ∧ (mailbox 128).fld 0 F.CEL_STAT_state ≠ 5 ∧ (mailbox 128).celRange 128 = true ∧ 32 ≤ (mailbox 128).celLen) ∧
    (mailbox 128).cellar.nonce = none ∧ (erasing.fld 0 F.CEL_STAT_state = 3 ∧ erasing.cellar.again = false) ∧
    (again.fld 0 F.CEL_STAT_state = 3 ∧ again.cellar.again = true) ∧ (mailbox 128).fld 0 F.CEL_STAT_state ≠ 3 := by decide

/-- A tag with the serial 1 that has never been written, and a life record that follows it. -/
def someTag : ModuleTag := ⟨List.replicate 256 1, List.replicate 256 0, []⟩
def nextLife : List Byte := (List.replicate 256 0).set 8 1 |>.mapIdx (fun i x => if 0x30 ≤ i ∧ i < 0x40 then 1 else x)
/-- A device with binding 0, at address 0 of bus 0, for unit 0. -/
def bound (l : List (Nat × Fld × Nat)) : Dev := fields (mailbox 64) ((tagBase 0, F.TAG_MAP_valid, 1) :: l)

/-- TagBindings: masters and words that may and may not change a map, a tag that answers, one that does not, one that has been swapped. -/
theorem witness_TagBindings :
    let d := bound []
    let here := { d with tags := [(0, some someTag)] }
    let swapped := withUnit { here with binds := [(0, { Binding.initial with serial := [7] })] } 0 (unitIn .run)
    (masterPriv plainMaster = false ∧ masterPriv priv = true) ∧
    (bitOf (0x80000000 : Word).toNat 31 = true ∧ ((withUnit d 0 (unitIn .run)).unit (bitsOf (0x80000000 : Word).toNat 8 5)).st ≠ .disabled) ∧
    (mapsClash (0x80000000 : Word).toNat (d.reg 0x40030400).toNat = true ∧ mapsClash (0x80010110 : Word).toNat (d.reg 0x40030400).toNat = false) ∧
    (d.unit 0).st = .disabled ∧
    (d.celTurned priv = false ∧ d.fld 0 F.CEL_STAT_state ≠ 5 ∧ d.celRange d.celLen = true ∧ d.tagBound 0 = true ∧ d.tagBound 1 = false ∧
      d.tagAt (d.tagKey 0) = none ∧ here.tagAt (here.tagKey 0) = some someTag) ∧
    (swapped.tagSwapped 0 someTag = true ∧ (swapped.unit (swapped.tagUnit 0)).st ≠ .disabled) ∧ here.tagSwapped 0 someTag = false ∧
    (2 ≤ ({ d with binds := [(0, { Binding.initial with missed := 2 })] }.bind 0).missed ∧ (fields d [(tagBase 0, F.TAG_STAT_state, 3)]).tagState 0 ≠ 1) := by decide

/-- ModuleLife: a store that may replace what is kept, a binding and none, a unit in RUN and not, a derated binding, life without allocation. -/
theorem witness_ModuleLife :
    let d := bound []
    (16 ≤ d.celLen ∧ d.tagBound 0 = true ∧ (d.lifeCopy (d.lifeName 0)).consumed ≤ cutNat (d.request 0 16) 0 4 * 2 ^ 32 ∧ d.celTurned priv = false) ∧
    (d.vault.identity = none ∧ { d with vault := { Vault.initial with identity := some [1] } }.vault.identity ≠ none) ∧ d.tagBound 5 = false ∧
    (((withUnit d 0 (unitIn .run)).unit (d.tagUnit 0)).st = .run ∧ (d.unit (d.tagUnit 0)).st ≠ .run) ∧ (bound [(tagBase 0, F.TAG_MAP_resp, 1)]).derated 0 = true ∧
    d.derated 0 = false ∧ d.rfOf 0 = none ∧ d.factorDue 0 = true ∧ d.factorDue 5 = false ∧ tagTakes someTag nextLife = true := by decide

/-- ModuleTagBuses: a bus that is idle, busy with the same and with another master's command, and full; a tag that answers each operation; the time limit. -/
theorem witness_ModuleTagBuses :
    let on := fields { Dev.initial with tags := [(0, some someTag)] } [(mtbReg 0, F.PORT_CTRL_en, 1)]
    let x : MtbTxn := ⟨false, 5, 0, nextLife, 0⟩
    let run : Dev := { on with mtbs := [(0, { MtbBus.initial with run := some x })] }
    let full : Dev := { on with mtbs := [(0, ⟨some x, some x, some x, 0⟩)] }
    let guard : Dev := { on with mtbs := [(0, { MtbBus.initial with freeAt := 5 })] }
    ((on.mtb 0) = MtbBus.initial ∧ (on.mtb 0).freeAt ≤ on.now ∧ guard.now < (guard.mtb 0).freeAt ∧ on.flag (mtbReg 0) F.PORT_CTRL_en = true ∧ Dev.initial.flag (mtbReg 1) F.PORT_CTRL_en = false) ∧
    ((run.mtb 0).run = some x ∧ x.cellar = ((plainMaster.id : Nat) == 5) ∧ x.cellar ≠ (((⟨5, true⟩ : Master).id : Nat) == 5)) ∧
    ((full.mtb 0).fw ≠ none ∧ (full.mtb 0).own ≠ none) ∧ run.tagAt (16 * 0 + x.addr) = some someTag ∧
    (someTag.id.length = 256 ∧ someTag.life.length = 256 ∧ tagTakes someTag nextLife = true ∧ tagTakes someTag [] = false) ∧
    on.flag (mtbReg 0) F.PORT_CTRL_loop = false ∧ (fields on [(mtbReg 0, F.PORT_CTRL_loop, 1)]).flag (mtbReg 0) F.PORT_CTRL_loop = true ∧
    mtbTake (mtbHeader 1 0) [] = .inl 1 ∧ x.since + 80 * (100 * (6 + x.payload.length) + 20000 + 100) ≤ 2 ^ 30 := by decide

/-- A device with a queued NVS descriptor at the start of the chip RAM, submitted by AC0, and one byte to compare. -/
def nvsWith (op off src len : Nat) : Dev := { withRam Dev.initial [op, off, src, len, 0x01020304] with nvsq := [(0, 0x12000000)] }

/-- NvsCommands: submissions that are refused and queued, a descriptor of each operation and fault, sectors that are sound and lost. -/
theorem witness_NvsCommands :
    let d := nvsWith 1 0x800000 0x12000100 8
    let sound := fun (j : NvsJob) => j.off % 8 = 0 ∧ j.len % 8 = 0 ∧ 8 ≤ j.len ∧ j.len ≤ 1048576
    let source := fun (d : Dev) (j : NvsJob) => j.op = 2 ∨ (j.src % 8 = 0 ∧ 0x12000000 ≤ j.src ∧ j.src + j.len ≤ 0x121C0000 ∧ ∀ i < j.len, d.isBad (j.src + i) = false)
    ((0x12000004 : Word).toNat % 32 ≠ 0 ∧ 8 ≤ { Dev.initial with nvsq := List.replicate 8 (0, 0) }.nvsq.length) ∧
    (¬ (8 ≤ Dev.initial.nvsq.length ∨ (0x12000020 : Word).toNat % 32 ≠ 0 ∨ ¬ (0x12000000 ≤ (0x12000020 : Word).toNat ∧ (0x12000020 : Word).toNat + 32 ≤ 0x121C0000))) ∧
    (d.nvsq = [(0, 0x12000000)] ∧ d.isBad 0x12000014 = false) ∧ Dev.initial.nvsq = [] ∧
    ((d.nvsJob 0x12000000).op = 1 ∧ sound (d.nvsJob 0x12000000) ∧ source d (d.nvsJob 0x12000000)) ∧
    (∀ op ∈ [2, 3], ((nvsWith op 0x800000 0x12000100 8).nvsJob 0x12000000).op = op) ∧ ¬ sound ((nvsWith 1 4 0x12000100 8).nvsJob 0x12000000) ∧
    (0x800000 ≤ (d.nvsJob 0x12000000).off ∧ (d.nvsJob 0x12000000).off + 8 ≤ 0x4000000 ∧ (nvsWith 1 0x80000 0x12000100 8 |>.nvsJob 0x12000000).off + 8 ≤ 0x100000) ∧
    (d.sectorBad (0x800000 / 1024) = false ∧ { d with nvsBad := [(0, true)] }.sectorBad 0 = true) ∧
    (plainMaster.id.val < 10 ∧ 0x100000 ≤ (0x800000 : BitVec 26).toNat / 4 * 4) ∧ ¬ ((⟨10, false⟩ : Master).id.val < 10) ∧
    (d.now < d.patrolAt + d.nvsFld F.NVS_SCRUB_interval * cyclesPerMs ∧ d.patrolAt + d.nvsFld F.NVS_SCRUB_interval * cyclesPerMs ≤ 2 ^ 40 ∧
      d.patrol < 65536) := by decide

/-- FabricAndLoader: a request that wins as the only one that may be granted, and none; a request that has starved; a scrub pass that is due
and one that is not; offsets inside and outside what a program write reaches, a region in use and one in IDLE, an image that is refused. -/
theorem witness_FabricAndLoader :
    let image : LaneSetImage := ⟨1, List.replicate 16 0, [], [], []⟩
    let armed := fields Dev.initial [(rgnReg 0, F.RGN_RACK_STAT_state, 1)]
    let q : FabReq := ⟨plainMaster, .access (.read 0x12000000 4), noNoise, 0, false, .going, 0, false⟩
    let port : List FabReq := Dev.initial.fab.waiting ++ [q]
    let waits : Dev := { Dev.initial with fab := { Fabric.initial with waiting := [q] }, now := 3277 }
    (∀ k < 28, (∃ x ∈ port, x.m.id.val = k) ↔ k = 0) ∧ (Dev.initial.tagsOf 0 < 16 ∧ Dev.initial.tagSum false + (Dev.initial.tagSum true - 16) < 240) ∧
    (Dev.initial.fab.holder = 0 ∧ Dev.initial.fab.grants < Dev.initial.fabWeight 0) ∧ Dev.initial.fab.waiting = [] ∧
    (q ∈ waits.fab.waiting ∧ q.m.id = 0 ∧ q.told = false ∧ q.since + 3277 ≤ waits.now) ∧
    (Dev.initial.now < Dev.initial.scrubAt + Dev.initial.fld 0 F.MEM_SCRUB_period * cyclesPerMs ∧
      Dev.initial.scrubAt + Dev.initial.fld 0 F.MEM_SCRUB_period * cyclesPerMs ≤ 2 ^ 40 ∧ ∀ y ∈ Dev.initial.bad, y.2 = false) ∧
    ((0x10000 : BitVec 20).toNat < 0x20000 ∧ (0x20000 : BitVec 20).toNat ≥ 0x20000 ∧ Dev.initial.activeSlot 0 = 0 ∧ (0x10000 : BitVec 20).toNat / 0x10000 = 1 ∧
      Dev.initial.activeBank 0 ≠ 1 ∧ Dev.initial.rackState 0 = 0 ∧ armed.rackState 0 ≠ 0 ∧ armed.armedHere 0 = false ∧
      armed.fld (rgnReg 0) F.RGN_RACK_CTRL_what ≠ 2 ∧ ({ armed with racks := [(0, { Rack.initial with armAt := 1 })] } : Dev).armedHere 0 = true) ∧
    (Dev.initial.inLock 0x12000000 = false ∧ { Dev.initial with cellar := { Cellar.initial with lock := some (0x12000000, 4) } }.inLock 0x12000000 = true) ∧
    Dev.initial.caskRefused image = true ∧ bitOf image.mask.toNat 0 = true ∧
    (memKind 0x12000000 = some .chipRam ∧ memKind (blkBase 3 + 0x40000) = some (.data 3)) := by decide

/-- FabricAndLoader, the checks of a load that passes and of one that fails: an image of region 0 without programs. -/
theorem witness_LoadPasses :
    let image : LaneSetImage := ⟨1, List.replicate 16 0, [], [], []⟩
    ({ Dev.initial with cellar := { Cellar.initial with meas := [(5, some ⟨3, 1, 0, []⟩)] } }).loadFailure image = none := rfl

/-- FabricAndLoader, the Cask of a load: measured for the slot and the regions of the image. -/
theorem witness_CaskMeasured :
    ({ Dev.initial with cellar := { Cellar.initial with meas := [(5, some ⟨3, 1, 0, []⟩)] } }).caskRefused
      ⟨1, List.replicate 16 0, [], [], []⟩ = false := rfl

/-- FabricAndLoader, the timing service: no program is loaded, so every loaded program passes. -/
theorem witness_TimingPasses : Dev.initial.timingFailure = none := rfl

/-- Where no word holds an error, every byte can be read. -/
theorem witness_NothingBad (d : Dev) (h : d.bad = []) (a : Nat) : d.isBad a = false := by
  simp [Dev.isBad, h, Store.get]

/-- DmaEngines: pushes that are queued and refused, a halted channel, queued descriptors that can be read and cannot, a descriptor in execution that
has ended, failed and goes on, and a beat of each kind. -/
theorem witness_DmaEngines :
    let x : DmaDesc := ⟨0x12000000, 0x12000100, 0x12000200, 16, 0, 0, 0⟩
    let ch : Nat → Nat → Dev := fun moved err => { Dev.initial with dma := [(0, ⟨[], some x, 16, moved, err, 1⟩)] }
    let q : Dev := { Dev.initial with dma := [(0, { DmaChan.initial with queue := [0x12000000] })] }
    let full : Dev := { Dev.initial with dma := [(0, ⟨List.replicate 63 0x12000000, some x, 16, 16, 0, 1⟩)] }
    let beat : FabWork → FabReq := fun w => ⟨⟨6, true⟩, w, noNoise, 0, false, .waiting, 0, false⟩
    ((0x12000004 : Word).toNat % 32 ≠ 0 ∧ (0x12000020 : Word).toNat % 32 = 0 ∧ (q.chan 0 0).queue.length < 64) ∧
    ((fields q [(dmaBase 0 0, F.DMA_STAT_state, 2)]).dmaState 0 0 = 2 ∧ q.dmaState 0 0 < 2 ∧ q.cellar.lock = none) ∧
    ((q.chan 0 0).cur = none ∧ (q.chan 0 0).queue.head? = some 0x12000000 ∧ q.bad = []) ∧
    (((ch 16 0).chan 0 0).cur = some x ∧ ((ch 16 0).chan 0 0).moved = x.len ∧ (ch 16 0).dmaRuns 0 0 = false ∧ ((ch 16 0).chan 0 0).err = 0) ∧
    (((ch 8 0).chan 0 0).moved ≠ x.len ∧ ((ch 8 2).chan 0 0).err = 2) ∧ (full.chan 0 0).queue.length + 1 = 64 ∧
    (bitOf x.ctrl.toNat 1 = false ∧ bitOf (2 : Word).toNat 1 = true) ∧
    ((ch 8 0).dmaLive 0 0 1 = true ∧ (beat (.dmaWrite 0 1 8 [(0x12000208, 5)])).m.id.val = 6 ∧ 0x12000208 % 8 = 0 ∧ (ch 8 0).inLock 0x12000208 = false ∧
      (beat (.dmaRead 0 1 8 [0x12000108] [])).noise = noNoise) := by decide

/-- DmaEngines: a descriptor at 0x12000000 that moves 16 bytes from 0x12000100 to 0x12000200 lies, reads and writes where it may. -/
theorem witness_DmaPlaces :
    0x12000000 % 32 = 0 ∧ 0x12000000 ≤ 0x12000000 ∧ 0x12000000 + 32 ≤ 0x121C0000 ∧ 16 % 8 = 0 ∧ 0x12000200 % 8 = 0 ∧ 0x12000100 % 8 = 0 ∧
    0x12000200 + 16 ≤ 0x121C0000 ∧ 0x12000100 + 16 ≤ 0x121C0000 ∧ 0x12000000 + 32 ≤ 0x12000200 ∧ 0x12000100 + 16 ≤ 0x12000200 := by decide

/-- DmaEngines: a descriptor address in a word that holds an error. -/
theorem witness_DmaUnreadable : ({ Dev.initial with bad := [(0x2400000, true)] }).isBad 0x12000000 = true := by decide

/-! ### Indirect pairs, racking, start-up, registers and ports -/

/-- IndirectAndEvents: a pair that another master has locked, in this cycle and before, and one of one's own, addresses of each space, a lock at its time, a snapshot that has been
taken, routed and counted raises, a staged one, a full log. -/
theorem witness_IndirectAndEvents :
    let locked := regsSet [(0x40060008, 0x105)]
    let own := regsSet [(0x40060008, 0x100)]
    let at_ := fun (a : Word) => regsSet [(0x40060000, a), (rgnReg 0 + 0x3000, a)]
    let x : Staged := ⟨0, 0xC1, 0, 7, 9⟩
    let routed := fun (w : Word) (src : Nat) => bitOf w.toNat 31 = true ∧ bitsOf w.toNat 0 8 = src ∧ 0 &&& bitsOf w.toNat 16 8 = bitsOf w.toNat 8 8 &&& bitsOf w.toNat 16 8
    let got : Dev := { locked with indGot := [(indNum .chip, 1)] }
    let usedBy : Dev := { own with indUse := [(indNum .chip, 32 + 5)] }
    let full := fields Dev.initial [(0, F.EVR_LOG_WR_idx, 255)]
    (bitOf (locked.reg (indBase .chip + 8)).toNat 8 = true ∧ bitsOf (locked.reg (indBase .chip + 8)).toNat 0 5 ≠ plainMaster.id.val ∧
      bitsOf (own.reg (indBase .chip + 8)).toNat 0 5 = plainMaster.id.val ∧ bitOf (Dev.initial.reg (indBase .chip + 8)).toNat 8 = false) ∧
    (Store.get (fun _ => 0) got.indGot (indNum .chip) = got.now + 1 ∧ Store.get (fun _ => 0) locked.indGot (indNum .chip) ≠ locked.now + 1 ∧
      Store.get (fun _ => 0) usedBy.indUse (indNum .chip) / 32 = usedBy.now + 1 ∧ Store.get (fun _ => 0) usedBy.indUse (indNum .chip) % 32 ≠ plainMaster.id.val ∧
      Store.get (fun _ => 0) own.indUse (indNum .chip) / 32 ≠ own.now + 1) ∧
    (((at_ 0x10000000).reg (indBase .chip)).toNat = 0x10000000 + 0 ∧ ((at_ 0x10803FFC).reg (indBase (.region 0))).toNat = 0x10800000 + 0x3FFC) ∧
    (((at_ 0x2000).reg (indBase .chip)).toNat = 0x2000 ∧ ((at_ 0x3000).reg (indBase .chip)).toNat = 0x3000 ∧ ((at_ 0xFFC).reg (indBase (.region 0))).toNat = 0xFFC ∧
      0xFFC / 0x800 ≠ Dev.initial.fld (rgnReg 0) F.RGN_RACK_STAT_trim) ∧
    (bitOf (0x100 : Word).toNat 8 = true ∧ bitOf (0 : Word).toNat 8 = false) ∧
    (Store.get (fun _ => 0) own.indAt (indNum .chip) + 800000 ≤ 800000 ∧ 799999 < Store.get (fun _ => 0) own.indAt (indNum .chip) + 800000) ∧
    (Store.get (fun _ => 0) Dev.initial.snapAt (indNum .chip) ≠ 0 + 1 ∧ Store.get (fun _ => 0) { Dev.initial with snapAt := [(4, 1)] }.snapAt (indNum .chip) = 0 + 1) ∧
    ((2 : Word).toNat % 65536 = 2 ^ 1 ∧ routed 0x800000C1 0xC1 ∧ routed 0x80FF00C1 0xC1) ∧
    (bitOf ((regsSet [(0x40011428, 2)]).reg 0x40011428).toNat 1 = true ∧ Dev.initial.stage.length < 32 ∧ 32 ≤ { Dev.initial with stage := List.replicate 32 x }.stage.length ∧
      bitOf ((regsSet [(0x40011428, 0)]).reg 0x40011428).toNat 1 = false) ∧ Dev.initial.stage = [] ∧ { Dev.initial with stage := [x] }.stage = [x] ∧
    ((full.fld 0 F.EVR_LOG_WR_idx + 1) % 256 = fget (Store.get resetWord full.regs0 F.EVR_LOG_RD_idx.off) F.EVR_LOG_RD_idx) ∧
    ((Dev.initial.fld 0 F.EVR_LOG_WR_idx + 1) % 256 ≠ fget (Store.get resetWord Dev.initial.regs0 F.EVR_LOG_RD_idx.off) F.EVR_LOG_RD_idx) := by decide

/-- RegionRacking: arms in and out of order, images that are lost, regions in each state with each kind of rack, at and beside its tick, a trigger and none, an arm of
this cycle, lanes that may and may not be restarted. -/
theorem witness_RegionRacking :
    let in_ := fun (st what : Nat) (x : Rack) => { fields (regsSet [(rgnReg 0 + 0x3104, 0)]) [(rgnReg 0, F.RGN_RACK_STAT_state, st), (rgnReg 0, F.RGN_RACK_CTRL_what, what),
      (rgnReg 0, F.RGN_RACK_STAT_left, 0)] with racks := [(0, x)] }
    let arm := fun (k : Word) => ((regsSet [(rgnReg 0 + 0x3104, k)]).reg (rgnReg 0 + 0x3104)).toNat + 2 ^ 32 - Dev.initial.fld 0 F.TRL_TICK_CNT_k
    let noted : Rack := { Rack.initial with trig := some 0x51, due := true, racked := true }
    let armed : Rack := { Rack.initial with armAt := 1 }
    let lossy := fun (w : Word) => regsSet [(blkReg 0 + 0x70, w)]
    let turned : Dev := { Dev.initial with trl := { Trellis.initial with appliedStep := some Trellis.initial.tickStep } }
    (∀ st < 3, (in_ st 0 Rack.initial).rackState 0 = st) ∧ (1 : Word).toNat % 4 = 1 ∧
    (arm 1 % 2 ^ 32 < 2 ∧ ¬ (arm 5 % 2 ^ 32 < 2 ∨ 2 ^ 31 < arm 5 % 2 ^ 32) ∧ bitsOf (0x10009 : Word).toNat 2 2 = 2 ∧ bitsOf (1 : Word).toNat 2 2 ≠ 2 ∧ bitOf (1 : Word).toNat 4 = false ∧
      bitOf (0x11 : Word).toNat 4 = true ∧ bitsOf (0x11 : Word).toNat 2 2 = 0) ∧
    (bitOf ((lossy 0x20000).reg (blkReg 0 + 0x70)).toNat (17 - (lossy 0x20000).activeSlot 0) = true ∧
      bitOf ((lossy 0x100000).reg (blkReg 0 + 0x70)).toNat (20 - (lossy 0x100000).activeBank 0) = true ∧
      ∀ i < 4, bitOf (Dev.initial.reg (blkReg i + 0x70)).toNat 17 = false ∧ bitOf (Dev.initial.reg (blkReg i + 0x70)).toNat 20 = false) ∧
    Dev.initial.fld (rgnReg 0) F.RGN_RACK_MAP_n = 0 ∧
    (∀ what < 4, (in_ 1 what Rack.initial).fld (rgnReg 0) F.RGN_RACK_CTRL_what = what ∧
      (in_ 1 what Rack.initial).fld 0 F.TRL_TICK_CNT_k = ((in_ 1 what Rack.initial).reg (rgnReg 0 + 0x3104)).toNat) ∧
    (Dev.initial.trl.appliedStep ≠ some Dev.initial.trl.tickStep ∧ turned.trl.appliedStep = some turned.trl.tickStep) ∧
    ((fields Dev.initial [(blkReg 0, F.LANE_WCET_b, 0xFFFF)]).wcetFits 0 = false ∧ Dev.initial.wcetFits 0 = true) ∧
    ((in_ 2 0 Rack.initial).fld (rgnReg 0) F.RGN_RACK_STAT_left = 0 ∧ ((in_ 2 0 Rack.initial).rack 0).trig = none ∧ ((in_ 2 0 Rack.initial).rack 0).faultAt ≠ 0 + 1) ∧
    (((in_ 2 0 noted).rack 0).trig = some 0x51 ∧ ((in_ 2 0 noted).rack 0).due = true ∧ (in_ 2 0 noted).rackState 0 = 2) ∧
    ((in_ 1 0 armed).armedHere 0 = true ∧ (in_ 1 0 Rack.initial).armedHere 0 = false) ∧
    ((Dev.initial.lane 0).mode = .halted ∧ Dev.initial.reg (blkReg 0 + 0x40) = 0 ∧ Dev.initial.reg (rgnReg 0 + 0x40) = 0 ∧ Dev.initial.reg (blkReg 0 + 0x70) = 0) ∧
    ((regsSet [(blkReg 0 + 0x40, 8)]).reg (blkReg 0 + 0x40) ≠ 0 ∧ (regsSet [(rgnReg 0 + 0x40, 4)]).reg (rgnReg 0 + 0x40) ≠ 0) ∧
    Dev.initial.activeSlot 0 = 0 := by decide

/-- StartUpAndChipRacking: an alarm and none, images that do not verify (that one does rests on the signature check, which nothing evaluates), low times of the reset pin at the
bounds, a device before and after its ready, a calibration that is due, trims in and out of force, chip racks in each state. -/
theorem witness_StartUpAndChipRacking :
    let in_ := fun (st : Nat) (slot trial : Bool) => let d := fields { Dev.initial with now := 2 ^ 60 } [(0, F.CHIP_RACK_state, st), (0, F.CHIP_RACK_prob, 1)]
      { d with vault := { d.vault with bootSlot := slot, trial := trial } }
    let trial := in_ 2 true true
    ((∀ k < 4, Dev.initial.storedCaskOk k = false) ∧ (none : Option (Fin 6)) = none ∧ (some 3 : Option (Fin 6)) = some 3 ∧ Dev.initial.vault.trial = false) ∧
    (199 < 200 ∧ 1000 ≤ 1000 ∧ 200 ≤ 999 ∧ 999 < 1000) ∧
    (Dev.initial.flag 0 F.DEV_STAT_ready = false ∧ bitOf (0x10 : Word).toNat 4 = true ∧ (fields Dev.initial [(0, F.DEV_STAT_ready, 1)]).flag 0 F.DEV_STAT_ready = true) ∧
    (Dev.initial.trl.calibratedAt + 8000000 ≤ 8000000 ∧ 7999999 < Dev.initial.trl.calibratedAt + 8000000) ∧
    Dev.initial.flag (blkReg 0) F.BLK_CAUSE_first_valid = false ∧ Dev.initial.flag (rgnReg 0) F.RGN_CAUSE_first_valid = false ∧
    ((0 : BitVec 12).toNat / 0x800 = Dev.initial.fld (rgnReg 0) F.RGN_RACK_STAT_trim ∧ (0x800 : BitVec 12).toNat / 0x800 ≠ Dev.initial.fld (rgnReg 0) F.RGN_RACK_STAT_trim) ∧
    (plainMaster.id = 0 ∧ Dev.initial.fld 0 F.CHIP_RACK_state ≠ 1 ∧ (3 : Word).toNat % 2 = 1 ∧ bitsOf (3 : Word).toNat 2 2 = 0) ∧
    (bitsOf (1 : Word).toNat 1 1 = Dev.initial.fld 0 F.CHIP_RACK_active) ∧
    (bitsOf (3 : Word).toNat 1 1 ≠ Dev.initial.fld 0 F.CHIP_RACK_active ∧ (∀ q < 4, Dev.initial.rackState q = 0) ∧ Dev.initial.fld 0 F.HSL_UPD_state = 0 ∧
      Store.get (fun _ => false) { Dev.initial with slotOk := [(1, true)] }.slotOk 1 = true) ∧
    ((in_ 1 true true).fld 0 F.CHIP_RACK_state = 1 ∧ (in_ 1 true true).vault.trial = true ∧ (in_ 1 true true).storedCaskOk 1 = false ∧ (in_ 1 true false).vault.trial = false) ∧
    (trial.fld 0 F.CHIP_RACK_state = 2 ∧ trial.chipAt + trial.fld 0 F.CHIP_RACK_prob * 800000000 ≤ trial.now ∧ ¬ ((⟨7, false⟩ : Master).id = 0 ∨ (⟨7, false⟩ : Master).id = 1)) ∧
    ({ trial with now := 0 }.now < trial.chipAt + trial.fld 0 F.CHIP_RACK_prob * 800000000) := by decide

/-- RegisterAccess: an address of the RAM, one that lies nowhere and one that is not, an unassigned offset, masters. -/
theorem witness_RegisterAccess :
    (0x12000000 ≤ (0x12000004 : Word).toNat ∧ (0x12000004 : Word).toNat < 0x121C0000 ∧ (0x12000004 : Word).toNat % 4 = 0) ∧ Dev.initial.cellar.lock = none ∧
    (memKind (0x18000000 : Word).toNat = none ∧ (regSpace (0x18000000 : Word).toNat).isSome = false) ∧
    (memKind (0x40000000 : Word).toNat = none ∧ (regSpace (0x40000000 : Word).toNat).isSome = true) ∧ (rowAt (blkReg 0 + 0x3FF0)).isNone = true ∧
    (masterPriv priv = true ∧ masterPriv plainMaster = false) := by decide

/-- A device with the rings of a port at the start of the chip RAM, both of two entries, the port enabled and up. -/
def ringed (p : Nat) (l : List Nat) : Dev :=
  { fields (withRam Dev.initial l) [(portReg p, F.PORT_CTRL_en, 1), (portReg p, F.PORT_STAT_up, 1), (portReg p, F.RING_TXBASE_addr, 0x900000),
      (portReg p, F.RING_RXBASE_addr, 0x900000), (portReg p, F.RING_TXLEN_len, 2), (portReg p, F.RING_RXLEN_len, 2)]
    with ports := [(p, ⟨true, true, false, false, none⟩)] }

/-- Ports, Ethernet: a live port with an owned entry and a buffer apart from it, frames that are accepted and filtered, too long, and with a wrong FCS, a waiting safe frame. -/
theorem witness_EthPorts :
    let d := ringed 0 [0x12000100, 64, 5]
    let all := List.replicate 6 (0xFF : Byte)
    let f := all ++ List.replicate 8 (0 : Byte)
    (d.portLive 0 = true ∧ Dev.initial.portLive 0 = false ∧ d.portOn 0 = true ∧ d.flag (portReg 0) F.PORT_CTRL_loop = false) ∧
    (d.accepts 0 all = true ∧ d.accepts 0 (1 :: all.drop 1) = false ∧ f.length ≤ 1518 ∧ frameType f ≠ 0x88F7 ∧ frameType f ≠ 0x88E5 ∧
      frameType f ≠ (fields d [(portReg 0, F.ETH_SCH_etype, 5)]).fld (portReg 0) F.ETH_SCH_etype) ∧
    (frameType (all ++ List.replicate 6 0 ++ [0x88, 0xF7]) = 0x88F7 ∧ 1522 < (List.replicate 1523 (0 : Byte)).length ∧ f.drop (f.length - 4) ≠ ethFcs (f.take (f.length - 4)) ∧
      (ethFcs f).length = 4) ∧
    (d.bad = [] ∧ d.cellar.lock = none ∧ d.entryAt 0 false (d.ringIndex 0 false) = 0x12000000 ∧ 0 < d.ringLen 0 false ∧ bitOf (d.loadN (0x12000000 + 8) 4) 0 = true ∧
      bitOf (d.loadN (0x12000000 + 8) 4) 2 = true ∧ d.loadN 0x12000000 4 = 0x12000100 ∧ d.loadN (0x12000000 + 4) 4 % 65536 = 64) ∧
    (Store.get (fun _ => none) d.cellar.txSa 0 = none ∧ d.waitingSafe 0 = [] ∧ { d with linkq := [(0, [[1]])] }.waitingSafe 0 = [[1]]) ∧
    ((d.port 0).rx = true ∧ (d.port 0).tx = true ∧ (Dev.initial.port 0).rx = false ∧ (Dev.initial.port 0).tx = false) := by decide

/-- Ports, CAN and LIN: live ports with owned entries in a known format and one beyond the mode, a bus-off port, a responder's table, a response in time and late. -/
theorem witness_CanLinPorts :
    let d := ringed 6 [0x01, 0x20, 0, 0, 4, 0x12000100]
    let fd := ringed 6 [0x03, 0x20, 0, 0, 4, 0x12000100]
    let g : CanFrame := ⟨0, false, false, false, false, 0x20, 0, 0, List.replicate 4 0⟩
    let off := fields d [(portReg 6, F.CAN_ERR_state, 2), (portReg 6, F.CAN_CFG_auto_rec, 1)]
    let lin := ringed 14 [0x01, 0x220]
    let responder := fields (withRam lin [0x41]) [(portReg 14, F.LIN_CFG_role, 1), (portReg 14, F.LIN_RTAB_addr, 0x1200000)]
    let asked := { fields lin [(portReg 14, F.LIN_CFG_rate, 19200)] with ports := [(14, ⟨true, true, false, false, some (0, 2)⟩)] }
    (d.canLive 6 = true ∧ g.format.val ≤ d.canMode 6 ∧ d.canSafe 6 g = false ∧ d.canPasses 6 g.id.toNat = true) ∧
    (bitOf (d.loadN 0x12000000 4) 0 = true ∧ bitsOf (d.loadN 0x12000000 4) 1 2 ≤ d.canMode 6 ∧ fd.canMode 6 < bitsOf (fd.loadN 0x12000000 4) 1 2 ∧
      d.loadN (0x12000000 + 0x14) 4 = 0x12000100 ∧ d.loadN (0x12000000 + 0x10) 4 = 4) ∧
    ({ d with linkq := [(6, [[1]])] }.waitingSafe 6 = [[1]] ∧ off.canOff 6 = true ∧ off.portOn 6 = true ∧ off.flag (portReg 6) F.CAN_CFG_auto_rec = true ∧ d.canOff 6 = false) ∧
    (lin.portOn 14 = true ∧ lin.flag (portReg 14) F.LIN_CFG_role = false ∧ (lin.port 14).tx = true ∧ bitOf (lin.loadN 0x12000000 4) 1 = false) ∧
    (responder.flag (portReg 14) F.LIN_CFG_role = true ∧ 16 * responder.fld (portReg 14) F.LIN_RTAB_addr + 16 * (0 : BitVec 6).toNat = 0x12000000 ∧
      bitOf (responder.byte 0x12000000).toNat 0 = true) ∧
    (86 * asked.fld (portReg 14) F.LIN_CFG_rate ≤ 100 * 19200 ∧ 100 * 19200 ≤ 114 * asked.fld (portReg 14) F.LIN_CFG_rate ∧
      ¬ 100 * 25000 ≤ 114 * asked.fld (portReg 14) F.LIN_CFG_rate ∧ linPid 0x3C = 0x3C ∧ linPid 0x3D = 0x7D ∧ linPid (0x3D % 64) ≠ 0x3D) ∧
    (bitOf ((ringed 14 [0x03, 0x220]).loadN 0x12000000 4) 1 = true ∧ (lin.port 14).linAt = none ∧ { responder with ports := asked.ports }.flag (portReg 14) F.LIN_CFG_role = true) ∧
    ((asked.port 14).linAt = some (0, 2) ∧ asked.linLate 14 0 2 = false ∧ { asked with now := 8750000 }.linLate 14 0 2 = true) := by decide

/-- AxleLinks: a link that is up, as follower and as leader, delays that are measured, fragments to be sent, at a frame boundary, sent and repeated, slots that take, that are
late, and that are copies, changes of a slot, a training, a follower whose leader has fallen silent. -/
theorem witness_AxleLinks :
    let d := fields Dev.initial [(portReg 22, F.AXL_STAT_state, 2), (axlReg 0, F.PORT_CTRL_en, 1), (slotReg 0 0, F.AXL_SLOT_CFG_en, 1), (slotReg 0 0, F.AXL_SLOT_CFG_words, 1)]
    let follower := fields d [(0, F.TRL_CTRL_src, 1)]
    let link := fun (x : AxlLink) => ({ d with axls := [(0, x)], now := 1600 } : Dev)
    let sending := link { AxlLink.initial with frags := [[1], [2]], tries := 3 }
    let one := link { AxlLink.initial with frags := [[1]] }
    let waits := link { AxlLink.initial with frags := [[1]], fragDue := true }
    let asked : Dev := { follower with axls := [(0, { AxlLink.initial with pingAt := some 7, owds := [3] })], now := 48000 }
    let twin := { fields d [(slotReg 1 0, F.AXL_SLOT_CFG_en, 1)] with slotK := [(16, some 5)] }
    let rest := fun (e : Dev) (v : Word) => withBits (withBits (v.toNat % 2 ^ 22) 12 6 (max 1 (min 32 (bitsOf v.toNat 12 6)))) 0 1 1 =
      withBits ((e.reg (axlReg 0 + 0x200)).toNat % 2 ^ 22) 0 1 1
    (d.axlUp 0 = true ∧ Dev.initial.axlUp 0 = false ∧ d.flag 0 F.TRL_CTRL_src = false ∧ follower.flag 0 F.TRL_CTRL_src = true ∧ follower.axlUp 0 = true ∧ d.tickCycles = 16000 ∧
      d.portOn 22 = true ∧ Dev.initial.portOn 22 = false) ∧
    ((asked.axl 0).pingAt = some 7 ∧ (d.axl 0).pingAt = none ∧ (asked.axl 0).markAt + 3 * asked.tickCycles ≤ asked.now ∧ follower.now < (follower.axl 0).markAt + 3 * follower.tickCycles) ∧
    (d.flag (axlReg 0) F.PORT_CTRL_loop = false ∧ (sending.axl 0).frags = [[1], [2]] ∧ (sending.axl 0).fragDue = false ∧ (sending.axl 0).sentAt + 1600 ≤ sending.now ∧
      3 ≤ (sending.axl 0).tries ∧ (one.axl 0).frags = [[1]] ∧ (one.axl 0).tries < 3 ∧ (one.axl 0).sentAt + 1600 ≤ one.now ∧ (d.axl 0).frags = []) ∧
    ((waits.axl 0).fragDue = true ∧ (waits.axl 0).tries = 0 ∧ (waits.axl 0).freeAt ≤ 5 * waits.now ∧ (waits.axl 0).exq = [] ∧ (waits.axl 0).safeq = []) ∧
    (d.slotTakes 0 0 = true ∧ d.slotTakes 0 1 = false ∧ d.fld (slotReg 0 0) F.AXL_SLOT_CFG_words = [(0 : BitVec 64)].length ∧ d.fld (slotReg 0 0) F.AXL_SLOT_ADDR_addr = 0) ∧
    ({ d with now := 2 ^ 40 }.slotLate 0 0 = true ∧ d.slotLate 0 5 = false ∧ twin.slotTwin 0 0 = true ∧ Store.get (fun _ => none) twin.slotK (16 * (1 - 0) + 0) = some 5 ∧
      d.slotTwin 0 0 = false ∧ d.bad = []) ∧
    (rest d 0x1000 ∧ ¬ rest d 0x2000 ∧ bitOf (0x1000 : Word).toNat 0 = false ∧ d.flag (slotReg 0 0) F.AXL_SLOT_CFG_en = true ∧ d.flag (slotReg 0 2) F.AXL_SLOT_CFG_en = false ∧
      bitOf (3 : Word).toNat 1 = true ∧ bitOf (1 : Word).toNat 1 = false) ∧
    (d.subFactor 0 = 1 ∧ { d with inforce := [(rgnReg 0 + 0x68, 1)] }.subFactor 0 ≠ 1 ∧ bitsOf (d.exchDesc 0 0) 0 2 = 0 ∧ (d.plainWrite plainMaster (axlReg 0 + 0x210) 3).budgetLost 0 = false) ∧
    ((fields d [(axlReg 0, F.AXL_STAT_state, 1)]).fld (axlReg 0) F.AXL_STAT_state = 1 ∧ (d.port 22).rx = false ∧ (d.port 22).tx = false ∧ d.conFor 22 [] = none) := by decide

/-! ### Reference programs, slots and safety -/

/-- A unit of class `cls` whose lead lane runs its program in state `st`, with words of its parameter record. -/
def programAt (cls : Nat) (p : Program) (params : List (Nat × Nat)) : Dev :=
  let d : Dev := { withUnit (ownedBy0 []) 0 (unitIn .run) with lanes := [(0, runLane [])], refSlots := [(0, true)], progs := [(0, p)] }
  params.foldl (fun d x => d.storeN (d.paramBase 0 + x.1) 4 x.2) (d.setFld (unitBase 0) F.UNIT_CFG_class cls)

/-- ProgramEvents: a unit of each class whose lead lane runs its program, in the states and with the times for which the guards hold. -/
theorem witness_ProgramEvents :
    let d := fun (cls : Nat) (p : Program) => programAt cls p []
    let st := fun (n : Nat) => { Program.initial with st := n, age := 40000000 }
    let drive := fun (n : Nat) (x : Drive) => { Program.initial with st := n, drive := x }
    (∀ cls ∈ [1, 2, 3, 4, 6], (d cls (st 0)).progLane 0 = some 0 ∧ (d cls (st 0)).unitClass 0 = cls) ∧ Dev.initial.progLane 0 = none ∧
    (isTraction 1 = true ∧ isTraction 6 = true ∧ isTraction 2 = false) ∧ (∀ n < 7, ((d 1 (st n)).prog 0).st = n) ∧
    ((d 1 (st 1)).paramBits 0 0x74 0 16 * 800000 ≤ (st 1).age ∧ (d 1 (st 4)).param 0 0x60 * 800000 ≤ (st 4).age) ∧
    ((d 1 (st 5)).param 0 0x6C * 800000000 ≤ (d 1 (st 5)).param 0 0x68 * (st 5).age ∧ (d 1 (st 5)).paramBits 0 0x70 16 16 * 800000 ≤ (st 5).drive.errLow) ∧
    ((programAt 1 (st 5) [(0x70, 0x10000)]).paramBits 0 0x70 16 16 * 800000 ≤ (st 5).drive.errLow → False) ∧
    (50 * 800000 ≤ (st 6).age ∧ (st 6).mode 1 = 0 ∧ 4000000 ≤ (drive 2 { Drive.initial with errHigh := 4000000 }).drive.errHigh) ∧
    ((0 : Int).natAbs * 100 * (programAt 1 (st 6) [(0x10, 1)]).param 0 0xC < (programAt 1 (st 6) [(0x10, 1)]).param 0 0x10 * 2 ^ 31) ∧
    ((d 2 (st 1)).param 0 0x24 ≤ (st 1).atMax ∧ (st 2).atMax < (programAt 2 (st 2) [(0x24, 4)]).param 0 0x24) ∧
    (((d 3 (st 1)).paramBits 0 0xC 0 16 : Int) * 32768 ≤ (st 1).linkV ∧ (st 2).linkV + (programAt 3 (st 2) [(0xC, 5)]).param 0 0x10 * 32768 < ((programAt 3 (st 2) [(0xC, 5)]).paramBits 0 0xC 0 16 : Int) * 32768) ∧
    (bitOf { st 1 with healthy := 1, hot := true }.healthy 0 = true ∧ 0 < ((d 3 (st 1)).unitLegs 0).length ∧ ((d 3 (st 1)).unit 0).active = true) ∧
    (10 < 20 ∧ 20 < 30 ∧ ¬ (20 < 10)) ∧
    ((d 1 (st 0)).leadOf 0 isTraction = some 0 ∧ (d 3 (st 0)).leadOf 0 (fun c => c == 3) = some 0 ∧ (d 3 (st 0)).rackState 0 = 0 ∧ (d 3 (st 0)).bad = [] ∧ (d 3 (st 0)).cellar.lock = none) := by decide

/-- ProgramEvents, detection and hold: a machine at rest, one that turns forward and backward below its uncontrolled-generator speed, one above it, and one that is slow enough to leave the hold. -/
theorem witness_ProgramEvents_detection :
    let fast := fun (w : Nat) => [(0x18, 1), (0x1C, 1), (0x20, 1), (0x24, 1), (0x74, 65536 * w), (0x7C, 1)]
    let turned := fun (n : Int) => ({ Drive.initial with volts := (root3Fixed * piFixed : Nat), turned := n, looks := 1 } : Drive)
    let d := fun (w : Nat) (x : Drive) => programAt 1 { Program.initial with st := 1, age := 1, drive := x } (fast w)
    let rated : Nat := 2 ^ 32
    let reaches := fun (w pct : Int) => pct * (rated : Int) ≤ w.natAbs * 6000000
    let ucg := fun (e : Dev) => e.ucgAt 0 9 (e.prog 0).drive.volts
    let seen := fun (x : Drive) => tend 8 (x.turned * 800000000) 1
    2 ^ 32 * ((d 0 (turned 0)).param 0 0x20 * (d 0 (turned 0)).param 0 0x1C) = rated ∧
    (∀ n ∈ [(1 : Int), -1], (d 0 (turned n)).flyStill 0 (turned n) = false ∧ flyHigh (turned n) = false ∧ reaches (seen (turned n)) 0 ∧
      ¬ reaches (seen (turned n)) (ucg (d 0 (turned n)))) ∧
    (0 ≤ seen (turned 1) ∧ seen (turned (-1)) < 0) ∧ ((d 1 (turned 1)).flyStill 0 (turned 1) = true ∧ ¬ reaches 0 1) ∧
    (flyHigh Drive.initial = true) ∧
    ((0 : Int) * 6000000 * 32768 < q15 (BitVec.ofNat 32 ((d 0 (turned 0)).param 0 0x7C)) * ucg (d 0 (turned 0)) * rated) := by decide

/-- SlotWordsRoundTrip: operations with a word, and the word of an unassigned opcode. -/
theorem witness_SlotWordsRoundTrip :
    laneSlot (.addi 3 .a0 1 2 0x7FF) = some (3, .a0) ∧ (encodeSlot (.addi 3 .a0 1 2 0x7FF)).isSome = true ∧
    laneSlot (.unassignedOpcode 3 .m) = some (3, .m) ∧ laneSlot (decodeSlot 3 .m 0xFC000000) = some (3, .m) := by decide

/-- SafetyKept: the state after reset is safe, and so it is with a leg that drives one channel. -/
theorem witness_SafetyKept : State.Safe State.reset ∧ State.Safe (at_ (withLeg Dev.initial 0 { legIn .run with drvH := true })) := by
  refine ⟨⟨fun k => rfl, ⟨rfl, rfl⟩⟩, ⟨fun k => ?_, ⟨rfl, rfl⟩⟩⟩
  cases k with
  | zero => rfl
  | succ n => rfl

end Sys2Proof.Tests
end

section
/-! Proofs of the statements on the state after reset, on writes in the address map and on start-up, with the laws of the register map that
they need. -/

namespace Sys2Proof.Machine

/-! ### Answers of commands -/

/-- What holds of the answer of a command that leaves `d` holds of `d`. -/
@[simp] theorem State.answers_next {s : State} {d : Dev} {p : Dev → Prop} : s.answers (.next ⟨d, s.pending⟩) p ↔ p d := by
  constructor
  · rintro ⟨e, he, hp⟩
    obtain ⟨rfl, -⟩ := State.mk.inj (Host.Outcome.next.inj he)
    exact hp
  · exact fun h => ⟨d, rfl, h⟩

/-- What follows from what holds of an answer holds of it. -/
theorem State.answers.imp {s : State} {o : Host.Outcome State Fault Refusal} {p q : Dev → Prop} (h : s.answers o p) (hpq : ∀ e, p e → q e) :
    s.answers o q := by
  obtain ⟨e, he, hp⟩ := h
  exact ⟨e, he, hpq e hp⟩

/-! ### Register spaces and rows -/

theorem regSpace_leg {k x : Nat} (hk : k < 128) (hx : x < 0x100) : regSpace (legReg k + x) = some (legRows, x) := by
  generalize ha : legReg k + x = a
  unfold legReg blkBase rgnBase at ha
  have hb : k / 8 < 16 := by omega
  have hj : k % 8 < 8 := Nat.mod_lt _ (by norm_num)
  generalize k / 8 = b, k % 8 = j at ha hb hj
  unfold regSpace
  rw [if_pos (by omega)]
  dsimp only
  rw [if_pos (by omega), if_neg (by omega), if_pos (by omega),
    show ((a - 0x20000000) % 0x1000000 % 0x100000 - 0xD0000) % 0x100 = x by omega]

theorem regSpace_blk {b x : Nat} (hb : b < 16) (hx : x < 0x8000) : regSpace (blkReg b + x) = some (blkRows, x) := by
  generalize ha : blkReg b + x = a
  unfold blkReg blkBase rgnBase at ha
  unfold regSpace
  rw [if_pos (by omega)]
  dsimp only
  rw [if_pos (by omega), if_pos (by omega), show (a - 0x20000000) % 0x1000000 % 0x100000 - 0xC0000 = x by omega]

theorem regSpace_rgn {r x : Nat} (hr : r < 4) (hx : x < 0x4000) : regSpace (rgnReg r + x) = some (rgnRows, x) := by
  generalize ha : rgnReg r + x = a
  unfold rgnReg rgnBase at ha
  unfold regSpace
  rw [if_pos (by omega)]
  dsimp only
  rw [if_neg (by omega), if_pos (by omega), show (a - 0x20000000) % 0x1000000 - 0x800000 = x by omega]

theorem regSpace_chip {a : Nat} (h : 0x40000000 ≤ a) (h' : a < 0x40070000) : regSpace a = some (chipRows, a) := by
  simp only [regSpace]
  rw [if_neg (by omega), if_pos (by omega)]

/-- How far the registers of a row reach: over its outer repetition. -/
def Row.span (r : Row) : Nat :=
  match r.strides with
  | [] => 1
  | (s, n) :: _ => s * n

theorem Row.range_of_holds {r : Row} {x : Nat} (h : r.holds x = true) : r.off ≤ x ∧ x < r.off + r.span := by
  unfold Row.holds at h
  split at h
  case isFalse => cases h
  case isTrue hle =>
    refine ⟨hle, ?_⟩
    unfold Row.span
    match hs : r.strides with
    | [] =>
      rw [hs] at h
      simp only [onStride, beq_iff_eq] at h
      simp only []
      omega
    | (s, n) :: t =>
      rw [hs] at h
      simp only [onStride] at h
      split at h
      · simp only []; omega
      · cases h

/-- The first row that reaches into a range of offsets is the one found for each of its registers there. -/
theorem findRow_of_first {l : List Row} {r : Row} {lo hi x : Nat}
    (hfirst : l.find? (fun q => decide (lo < q.off + q.span) && decide (q.off < hi)) = some r) (hlo : lo ≤ x) (hhi : x < hi)
    (hr : r.holds x = true) : findRow l x = some r := by
  induction l with
  | nil => cases hfirst
  | cons q t ih =>
    simp only [List.find?] at hfirst
    split at hfirst
    case h_1 =>
      obtain rfl := Option.some.inj hfirst
      rw [findRow, if_pos hr]
    case h_2 hq =>
      have hout : ¬ q.holds x = true := fun h => by
        have hrange := Row.range_of_holds h
        simp at hq
        omega
      rw [findRow, if_neg hout, ih hfirst]

theorem rowAt_leg {k x : Nat} (hk : k < 128) (hx : x < 0x100) : rowAt (legReg k + x) = findRow legRows x := by
  rw [rowAt, regSpace_leg hk hx]

theorem rowAt_rgn {r x : Nat} (hr : r < 4) (hx : x < 0x4000) : rowAt (rgnReg r + x) = findRow rgnRows x := by
  rw [rowAt, regSpace_rgn hr hx]

theorem rowAt_chip {a : Nat} (h : 0x40000000 ≤ a) (h' : a < 0x40070000) : rowAt a = findRow chipRows a := by
  rw [rowAt, regSpace_chip h h']

theorem resetWord_of_row {a : Nat} {r : Row} (h : rowAt a = some r) : resetWord a = BitVec.ofNat 32 (resetOf r.fields) := by
  rw [resetWord, h]

/-- The event router writes no chip register above its own. -/
theorem chip_not_routerReg {a : Nat} (h : 0x40012000 ≤ a) (h' : a < 0x40070000) : ¬ RouterReg a := by
  rintro (hr | ⟨n, hn⟩)
  · omega
  · unfold blkReg blkBase rgnBase at hn
    omega

/-! ### The state after reset -/

theorem Dev.reg_initial (a : Nat) : Dev.initial.reg a = resetWord a := rfl

theorem rgnPhases_reset {r : Nat} (hr : r < 4) :
    (Dev.initial.reg (rgnReg r + 0x60)).toNat = 0x02EE0032 ∧ (Dev.initial.reg (rgnReg r + 0x64)).toNat = 0x03840339 ∧
      (Dev.initial.reg (rgnReg r + 0x68)).toNat = 0 := by
  refine ⟨?_, ?_, ?_⟩ <;> rw [Dev.reg_initial, resetWord, rowAt_rgn hr (by norm_num)] <;> rfl

theorem legCfg_reset {k : Nat} (hk : k < 128) : (Dev.initial.reg (legReg k)).toNat = 0x310 := by
  have hrow : rowAt (legReg k) = findRow legRows 0 := rowAt_leg (x := 0) hk (by norm_num)
  rw [Dev.reg_initial, resetWord, hrow]; rfl

theorem legDirect_bootOk_reset {k : Nat} (hk : k < 128) : Dev.initial.fld (legReg k) F.LEG_DIRECT_boot_ok = 0 := by
  rw [Dev.fld, Dev.reg_initial, resetWord, rowAt_leg hk (by norm_num)]; rfl

theorem hslSafe_t1_reset {u : Nat} (hu : u < 32) : Dev.initial.fld (4 * u) F.HSL_SAFE_t1 = 800 := by
  have hrow : rowAt (4 * u + 0x40020400) = some ⟨"HSL_SAFE", 0x40020400, [(0x4, 32)], [⟨0, 2, .rwg, 0, none⟩, ⟨2, 1, .rwg, 0, none⟩,
      ⟨3, 1, .wos, 0, none⟩, ⟨4, 12, .rwg, 800, some (160, 4000)⟩, ⟨16, 1, .rwg, 1, none⟩, ⟨17, 3, .rwg, 3, none⟩,
      ⟨24, 8, .rwg, 0, none⟩]⟩ := by
    rw [rowAt_chip (by omega) (by omega)]
    refine findRow_of_first (lo := 0x40020400) (hi := 0x40020480) rfl (by omega) (by omega) ?_
    simp [Row.holds, onStride]; omega
  rw [Dev.fld, Dev.reg_initial, resetWord_of_row hrow]; rfl

theorem reset_safe : State.Safe State.reset := ⟨fun _ => rfl, rfl, rfl⟩

theorem trlPeriod_reset : Dev.initial.fld 0 F.TRL_PERIOD_cycles = 16000 := by
  rw [Dev.fld, Dev.reg_initial]; rfl

theorem trlStatus_port_reset : Dev.initial.fld 0 F.TRL_STATUS_port = 7 := by
  rw [Dev.fld, Dev.reg_initial]; rfl

theorem devStat_ready_reset : Dev.initial.fld 0 F.DEV_STAT_ready = 0 := by
  rw [Dev.fld, Dev.reg_initial]; rfl

/-- Settles O57: nothing is listed in the initial stores, and the named words are the reset values of their rows. -/
theorem resetState : Obligations.ResetState := by
  unfold Obligations.ResetState
  intro d
  have hd : d = Dev.initial := rfl
  clear_value d
  subst hd
  refine ⟨rfl, reset_safe, rfl, rfl, rfl, fun _ => ⟨rfl, rfl, rfl, rfl⟩, fun _ => rfl, fun _ => ⟨rfl, rfl, rfl, rfl⟩, Dev.reg_initial,
    trlPeriod_reset, trlStatus_port_reset, devStat_ready_reset, fun r => ?_, fun k => ?_, fun u => hslSafe_t1_reset u.isLt⟩
  · exact rgnPhases_reset r.isLt
  · exact ⟨legCfg_reset k.isLt, legDirect_bootOk_reset k.isLt⟩

/-! ### Memories and registers in the address map -/

theorem memKind_rgn {r x : Nat} (hr : r < 4) (hx : x < 0x4000) : memKind (rgnReg r + x) = none := by
  generalize ha : rgnReg r + x = a
  unfold rgnReg rgnBase at ha
  unfold memKind
  rw [if_neg (by omega), if_neg (by omega), if_neg (by omega), if_neg (by omega), if_neg (by omega), if_neg (by omega),
    if_pos (by omega)]
  dsimp only
  rw [if_neg (by omega), if_neg (by omega), if_neg (by omega)]

theorem memKind_blk {b x : Nat} (hb : b < 16) (hx : x < 0x8000) : memKind (blkReg b + x) = none := by
  generalize ha : blkReg b + x = a
  unfold blkReg blkBase rgnBase at ha
  unfold memKind
  rw [if_neg (by omega), if_neg (by omega), if_neg (by omega), if_neg (by omega), if_neg (by omega), if_neg (by omega),
    if_pos (by omega)]
  dsimp only
  rw [if_neg (by omega), if_neg (by omega), if_pos (by omega), if_neg (by omega), if_neg (by omega), if_neg (by omega),
    if_neg (by omega)]

theorem memKind_chip {a : Nat} (h : 0x40000000 ≤ a) : memKind a = none := by
  unfold memKind
  rw [if_neg (by omega), if_neg (by omega), if_neg (by omega), if_neg (by omega), if_neg (by omega), if_neg (by omega),
    if_neg (by omega)]

theorem memKind_chipRam {a : Nat} (h : 0x12000000 ≤ a) (h' : a < 0x121C0000) : memKind a = some .chipRam := by
  unfold memKind
  rw [if_neg (by omega), if_neg (by omega), if_neg (by omega), if_neg (by omega), if_pos (by omega)]

theorem Dev.writeReg_chip {a : Nat} (h : 0x40011000 ≤ a ∧ a < 0x40011400 ∨ a = 0x40030600 ∨ a = 0x40040108) (d : Dev) (m : Master)
    (v : Word) : d.writeReg m a v = d.plainWrite m a v := by
  unfold Dev.writeReg Dev.writeChip
  rw [if_neg (by omega), if_neg (by omega)]
  repeat rw [if_neg (by omega)]

theorem Dev.writeBlk_plain {x : Nat} (hx : 0x100 ≤ x) (d : Dev) (m : Master) (b : Nat) (v : Word) :
    d.writeBlk m b x v = d.plainWrite m (blkReg b + x) v := by
  unfold Dev.writeBlk
  split
  iterate 6 next => omega
  rfl

theorem Dev.writeReg_blk {b x : Nat} (hb : b < 16) (hx : 0x100 ≤ x) (hx' : x < 0x8000) (d : Dev) (m : Master) (v : Word) :
    d.writeReg m (blkReg b + x) v = d.plainWrite m (blkReg b + x) v := by
  rw [← Dev.writeBlk_plain hx]
  generalize ha : blkReg b + x = a
  unfold blkReg blkBase rgnBase at ha
  unfold Dev.writeReg
  rw [if_pos (by omega)]
  dsimp only
  rw [if_neg (by omega), if_neg (by omega), show (a - 0x20000000) % 0x1000000 % 0x100000 - 0xC0000 = x by omega,
    show 4 * ((a - 0x20000000) / 0x1000000) + ((a - 0x20000000) % 0x1000000 - 0x400000) / 0x100000 = b by omega]

theorem Dev.writeReg_rfStat {r n : Nat} (hr : r < 4) (hn : n < 16) (d : Dev) (m : Master) (v : Word) :
    d.writeReg m (rgnReg r + 0x1E04 + 8 * n) v = d.plainWrite m (rgnReg r + 0x1E04 + 8 * n) v := by
  generalize ha : rgnReg r + 0x1E04 + 8 * n = a
  have ha' := ha
  unfold rgnReg rgnBase at ha
  unfold Dev.writeReg
  rw [if_pos (by omega)]
  dsimp only
  rw [if_pos (by omega), show (a - 0x20000000) / 0x1000000 = r by omega,
    show (a - 0x20000000) % 0x1000000 - 0x800000 = 0x1E04 + 8 * n by omega]
  unfold Dev.writeRgn
  rw [if_neg (by omega), if_neg (by omega), if_neg (by omega), if_neg (by omega), if_neg (by omega), if_neg (by omega),
    if_neg (by omega), if_neg (by omega), if_neg (by omega), if_pos (by omega), if_neg (by omega)]
  rw [show ((Fin.ofNat 4 r : Fin 4) : Nat) = r from Nat.mod_eq_of_lt hr, ← ha', Nat.add_assoc]

/-! ### A write of a register that goes by its access codes alone -/

/-- The device as an access of a master begins: it has no answer yet. -/
def Dev.asked (d : Dev) : Dev := { d with resp := 0, respErr := false }

/-- A write of `n` bytes: a memory, an aligned register, or a bus error (R494, R495). -/
theorem Dev.busWrite_eq (d : Dev) (m : Master) (a n v : Nat) : d.busWrite m a n v =
    if (memKind a).isSome then (d.asked.memWrite m.id a n v).2
    else if isRegAccess a n then d.asked.writeReg m a (BitVec.ofNat 32 v) else d.asked.busError m.id a := rfl

theorem exec_registerWrite (m : Master) (a v : Word) (s : State) :
    exec (.registerWrite m a v) s = .next ⟨s.dev.busWrite m a.toNat 4 v.toNat, s.pending⟩ := rfl

/-- The register at `a` has row `r`, and a write of it does nothing beyond what its access codes say. -/
structure PlainReg (a : Nat) (r : Row) : Prop where
  row : rowAt a = some r
  mem : memKind a = none
  aligned : a % 4 = 0
  lt : a < 2 ^ 32
  write : ∀ (d : Dev) (m : Master) (v : Word), d.writeReg m a v = d.plainWrite m a v

theorem isRegAccess_of_space {a : Nat} {x : List Row × Nat} (h : regSpace a = some x) (h4 : a % 4 = 0) : isRegAccess a 4 = true := by
  simp [isRegAccess, h, h4]

theorem regSpace_of_row {a : Nat} {r : Row} (h : rowAt a = some r) : ∃ x, regSpace a = some x := by
  unfold rowAt at h
  split at h
  · cases h
  · exact ⟨_, ‹_›⟩

/-- A write of a master to an aligned register address. -/
theorem exec_registerWrite_reg {a : Nat} {x : List Row × Nat} (hlt : a < 2 ^ 32) (hmem : memKind a = none) (hspace : regSpace a = some x)
    (h4 : a % 4 = 0) (m : Master) (v : Word) (s : State) :
    exec (.registerWrite m (BitVec.ofNat 32 a) v) s = .next ⟨s.dev.asked.writeReg m a v, s.pending⟩ := by
  have hmod : (BitVec.ofNat 32 a).toNat = a := by rw [BitVec.toNat_ofNat, Nat.mod_eq_of_lt hlt]
  rw [exec_registerWrite, hmod, Dev.busWrite_eq, hmem, if_neg (by simp), if_pos (isRegAccess_of_space hspace h4), BitVec.ofNat_toNat,
    BitVec.setWidth_eq]

theorem PlainReg.exec_write {a : Nat} {r : Row} (h : PlainReg a r) (m : Master) (v : Word) (s : State) :
    exec (.registerWrite m (BitVec.ofNat 32 a) v) s = .next ⟨s.dev.asked.plainWrite m a v, s.pending⟩ := by
  obtain ⟨x, hx⟩ := regSpace_of_row h.row
  rw [exec_registerWrite_reg h.lt h.mem hx h.aligned, h.write]

theorem Dev.plainWrite_of_row {d : Dev} {m : Master} {a : Nat} {v : Word} {r : Row} (hrow : rowAt a = some r) :
    d.plainWrite m a v =
      let d1 := d.setReg a (BitVec.ofNat 32 (d.wordAfter m (d.reg a).toNat (d.unset a r v.toNat) r.fields))
      if d.violates m r v.toNat then d1.guardViolation m a else d1 := by
  rw [Dev.plainWrite, hrow]

/-- A write of a register without guarded or named fields violates nothing (R9). -/
theorem Dev.violates_open {r : Row} (h : r.fields.all (fun f => !f.acc.isGuarded && !f.acc.isNamed) = true) (d : Dev) (m : Master)
    (v : Nat) : d.violates m r v = false := by
  have hmay : ∀ f ∈ r.fields, d.mayWrite m f.acc = true ∧ f.acc.isGuarded = false := by
    intro f hf
    have hopen := List.all_eq_true.mp h f hf
    cases hacc : f.acc <;> simp_all [Acc.isGuarded, Acc.isNamed, Dev.mayWrite]
  have hfree : r.guarded = false := by
    simpa [Row.guarded] using fun f hf => (hmay f hf).2
  simp only [Dev.violates, hfree, Bool.false_and, Bool.or_false, List.any_eq_false]
  intro f hf
  simp [(hmay f hf).1]

/-- What a write that violates nothing leaves of the device: its register's new word, and everything else as it was. -/
theorem PlainReg.answers_write {a : Nat} {r : Row} (h : PlainReg a r) {m : Master} {v : Word} {s : State}
    (hv : s.dev.asked.violates m r v.toNat = false) {w : Nat} (hw : s.dev.asked.wordAfter m (s.dev.reg a).toNat (s.dev.asked.unset a r v.toNat) r.fields = w) :
    s.answers (exec (.registerWrite m (BitVec.ofNat 32 a) v) s) (fun e =>
      (e.units = s.dev.units ∧ e.legs = s.dev.legs ∧ e.lanes = s.dev.lanes ∧ e.respErr = false) ∧ e.mem = s.dev.mem ∧
        (∀ k, k ≠ a → e.reg k = s.dev.reg k) ∧ e.reg a = BitVec.ofNat 32 w) := by
  have hreg : s.dev.asked.reg a = s.dev.reg a := rfl
  rw [h.exec_write, State.answers_next, Dev.plainWrite_of_row h.row, hreg, hw]
  simp only [hv, Bool.false_eq_true, if_false]
  exact ⟨⟨rfl, rfl, rfl, rfl⟩, rfl, fun k hk => Dev.reg_setReg_ne _ _ hk, Dev.reg_setReg_same _ _ _⟩

/-- A register without W1C bits takes the written word as it is. -/
theorem Dev.unset_of_no_w1c {r : Row} (h : r.w1cBits = 0) (d : Dev) (a : Nat) (v : Word) : d.unset a r v.toNat = v.toNat := by
  have hmask := Nat.and_two_pow_sub_one_eq_mod v.toNat 32
  rw [Dev.unset, h, Nat.and_zero, Nat.zero_xor]
  exact hmask.trans (Nat.mod_eq_of_lt v.isLt)

theorem withBits_self (v lo w : Nat) : withBits v lo w (bitsOf v lo w) = v := by
  have hle := bitsOf_mul_le v lo w
  rw [withBits, Nat.mod_eq_of_lt (bitsOf_lt v lo w)]
  omega

theorem bitOf_eq_testBit (v i : Nat) : bitOf v i = v.testBit i := by
  rw [bitOf, Nat.testBit_eq_decide_div_mod_eq]
  rfl

/-! ### The registers that stand for their access codes -/

/-- The rows of the register map that the statement on accesses names. -/
abbrev rowMemScrub : Row := ⟨"MEM_SCRUB", 0x40040108, [], [⟨0, 16, .rw, 1000, some (10, 65535)⟩]⟩
abbrev rowLifeHours : Row := ⟨"LIFE_HOURS", 0x40030600, [], [⟨0, 24, .rwg, 60000, none⟩]⟩
abbrev rowEvrCnt : Row := ⟨"EVR_CNT", 0x40011000, [(0x4, 256)], [⟨0, 16, .ro, 0, none⟩]⟩
abbrev rowRfStat : Row := ⟨"RF_STAT", 0x1E04, [(0x8, 16)], [⟨0, 16, .ro, 0, none⟩, ⟨16, 7, .ro, 0, none⟩, ⟨24, 1, .w1c, 0, none⟩]⟩

theorem plainReg_memScrub : PlainReg 0x40040108 rowMemScrub where
  row := by rw [rowAt_chip (by norm_num) (by norm_num)]; rfl
  mem := memKind_chip (by norm_num)
  aligned := by norm_num
  lt := by norm_num
  write := Dev.writeReg_chip (Or.inr (Or.inr rfl))

theorem plainReg_lifeHours : PlainReg 0x40030600 rowLifeHours where
  row := by rw [rowAt_chip (by norm_num) (by norm_num)]; rfl
  mem := memKind_chip (by norm_num)
  aligned := by norm_num
  lt := by norm_num
  write := Dev.writeReg_chip (Or.inr (Or.inl rfl))

theorem plainReg_evrCnt {o : Nat} (ho : o < 256) : PlainReg (0x40011000 + 4 * o) rowEvrCnt where
  row := by
    rw [rowAt_chip (by omega) (by omega)]
    refine findRow_of_first (lo := 0x40011000) (hi := 0x40011400) rfl (by omega) (by omega) ?_
    simp [Row.holds, onStride]
    omega
  mem := memKind_chip (by omega)
  aligned := by omega
  lt := by omega
  write := Dev.writeReg_chip (Or.inl (by omega))

/-- RF_CH and RF_STAT alternate, so their rows reach over one another. -/
theorem findRow_rfStat (n : Fin 16) : findRow rgnRows (0x1E04 + 8 * n) = some rowRfStat := by
  fin_cases n <;> rfl

theorem plainReg_rfStat {r : Nat} (hr : r < 4) (n : Fin 16) : PlainReg (rgnReg r + 0x1E04 + 8 * n) rowRfStat where
  row := by rw [Nat.add_assoc, rowAt_rgn hr (by omega), findRow_rfStat]
  mem := by rw [Nat.add_assoc]; exact memKind_rgn hr (by omega)
  aligned := by unfold rgnReg rgnBase; omega
  lt := by unfold rgnReg rgnBase; omega
  write := Dev.writeReg_rfStat hr n.isLt

/-! ### Writes by access code -/

section
variable (m : Master) (v : Word) (s : State)

/-- RW: the value within its range (R8). -/
theorem registerWrite_memScrub : s.answers (exec (.registerWrite m (BitVec.ofNat 32 0x40040108) v) s) (fun e =>
    (e.units = s.dev.units ∧ e.legs = s.dev.legs ∧ e.lanes = s.dev.lanes ∧ e.respErr = false) ∧ e.mem = s.dev.mem ∧
      e.fld 0 F.MEM_SCRUB_period = max 10 (bitsOf v.toNat 0 16) ∧ ∀ k, k ≠ 0x40040108 → e.reg k = s.dev.reg k) := by
  have hword : bitsOf v.toNat 0 16 < 2 ^ 16 := bitsOf_lt _ _ _
  have hafter : s.dev.asked.wordAfter m (s.dev.reg 0x40040108).toNat v.toNat rowMemScrub.fields =
      withBits (s.dev.reg 0x40040108).toNat 0 16 (max 10 (min 65535 (bitsOf v.toNat 0 16))) := rfl
  refine (plainReg_memScrub.answers_write (Dev.violates_open rfl _ _ _) (by rw [Dev.unset_of_no_w1c rfl, hafter])).imp ?_
  rintro e ⟨hframe, hmem, hother, hreg⟩
  refine ⟨hframe, hmem, ?_, hother⟩
  rw [Dev.fld, Nat.zero_add, hreg]
  refine (fget_fput_same (s.dev.reg 0x40040108) F.MEM_SCRUB_period _ (by norm_num)).trans ?_
  rw [Nat.mod_eq_of_lt (by simp only []; omega)]
  omega

/-- RO: the word stays. -/
theorem registerWrite_evrCnt {o : Nat} (ho : o < 256) :
    s.answers (exec (.registerWrite m (BitVec.ofNat 32 (0x40011000 + 4 * o)) v) s) (fun e =>
      (e.units = s.dev.units ∧ e.legs = s.dev.legs ∧ e.lanes = s.dev.lanes ∧ e.respErr = false) ∧ e.mem = s.dev.mem ∧
        ∀ k, e.reg k = s.dev.reg k) := by
  have hafter : ∀ w, s.dev.asked.wordAfter m (s.dev.reg (0x40011000 + 4 * o)).toNat w rowEvrCnt.fields =
      (s.dev.reg (0x40011000 + 4 * o)).toNat := fun _ => withBits_self _ 0 16
  refine ((plainReg_evrCnt ho).answers_write (Dev.violates_open rfl _ _ _) (hafter _)).imp ?_
  rintro e ⟨hframe, hmem, hother, hreg⟩
  refine ⟨hframe, hmem, fun k => ?_⟩
  by_cases hk : k = 0x40011000 + 4 * o
  · rw [hk, hreg, BitVec.ofNat_toNat, BitVec.setWidth_eq]
  · exact hother k hk

/-- RWG: the value, from a privileged master. -/
theorem registerWrite_lifeHours (hm : masterPriv m = true) :
    s.answers (exec (.registerWrite m (BitVec.ofNat 32 0x40030600) v) s) (fun e =>
      (e.units = s.dev.units ∧ e.legs = s.dev.legs ∧ e.lanes = s.dev.lanes ∧ e.respErr = false) ∧ e.mem = s.dev.mem ∧
        e.fld 0 F.LIFE_HOURS_hours = bitsOf v.toNat 0 24 ∧ ∀ k, k ≠ 0x40030600 → e.reg k = s.dev.reg k) := by
  have hviolates : s.dev.asked.violates m rowLifeHours v.toNat = false := by
    simp [Dev.violates, Dev.mayWrite, FieldRow.clamps, hm]
  have hafter : s.dev.asked.wordAfter m (s.dev.reg 0x40030600).toNat v.toNat rowLifeHours.fields =
      withBits (s.dev.reg 0x40030600).toNat 0 24 (bitsOf v.toNat 0 24) := by
    simp [Dev.wordAfter, Dev.mayWrite, FieldRow.after, hm]
  refine (plainReg_lifeHours.answers_write hviolates (by rw [Dev.unset_of_no_w1c rfl, hafter])).imp ?_
  rintro e ⟨hframe, hmem, hother, hreg⟩
  refine ⟨hframe, hmem, ?_, hother⟩
  rw [Dev.fld, Nat.zero_add, hreg]
  exact (fget_fput_same (s.dev.reg 0x40030600) F.LIFE_HOURS_hours _ (by norm_num)).trans (Nat.mod_eq_of_lt (bitsOf_lt _ _ _))

/-- RWG: from any other master nothing but the report (R9). -/
theorem registerWrite_lifeHours_violation (hm : masterPriv m = false) :
    s.answers (exec (.registerWrite m (BitVec.ofNat 32 0x40030600) v) s) (fun e =>
      e.reg 0x40030600 = s.dev.reg 0x40030600 ∧ e.mem = s.dev.mem ∧ e.units = s.dev.units ∧
        ∃ y : Dev, (∀ k, y.reg k = s.dev.reg k) ∧ e = y.raise Ev.GUARD_VIOLATION (scopeMaster m.id) 0x40030600) := by
  have hviolates : s.dev.asked.violates m rowLifeHours v.toNat = true := by
    simp [Dev.violates, Dev.mayWrite, Row.allGuarded, Acc.isGuarded, hm]
  have hafter : ∀ w, s.dev.asked.wordAfter m (s.dev.reg 0x40030600).toNat w rowLifeHours.fields =
      (s.dev.reg 0x40030600).toNat := by
    intro w; simp [Dev.wordAfter, Dev.mayWrite, hm]
  have hkept : s.dev.asked.reg 0x40030600 = s.dev.reg 0x40030600 := rfl
  have hrouter : ¬ RouterReg 0x40030600 := chip_not_routerReg (by norm_num) (by norm_num)
  rw [plainReg_lifeHours.exec_write, State.answers_next, Dev.plainWrite_of_row plainReg_lifeHours.row, hkept, hafter]
  simp only [hviolates, if_true, BitVec.ofNat_toNat, BitVec.setWidth_eq, Dev.guardViolation]
  have hsame : ∀ k, (s.dev.asked.setReg 0x40030600 (s.dev.reg 0x40030600)).reg k = s.dev.reg k := by
    intro k
    rw [Dev.reg_setReg]
    split
    · rename_i hk; rw [hk]
    · rfl
  refine ⟨?_, Dev.raise_mem _ _ _ _ (by norm_num), Dev.raise_units _ _ _ _ (by norm_num), _, hsame, rfl⟩
  rw [Dev.raise_reg _ _ _ _ _ (by norm_num) hrouter, hsame]

/-- W1C beside RO: the bit is cleared by a 1 unless hardware sets it in the same cycle (R498), the counts stay. -/
theorem registerWrite_rfStat {r : Nat} (hr : r < 4) (n : Fin 16) :
    let a := rgnReg r + 0x1E04 + 8 * n
    s.answers (exec (.registerWrite m (BitVec.ofNat 32 a) v) s) (fun e =>
      (e.units = s.dev.units ∧ e.legs = s.dev.legs ∧ e.lanes = s.dev.lanes ∧ e.respErr = false) ∧ e.mem = s.dev.mem ∧
        (∀ k, k ≠ a → e.reg k = s.dev.reg k) ∧
        bitOf (e.reg a).toNat 24 = (bitOf (s.dev.reg a).toNat 24 && (!bitOf v.toNat 24 || bitOf (s.dev.setHere a) 24)) ∧
        bitsOf (e.reg a).toNat 0 16 = bitsOf (s.dev.reg a).toNat 0 16) := by
  intro a
  let old := (s.dev.reg a).toNat
  let w := s.dev.asked.unset a rowRfStat v.toNat
  have hw : w.testBit 24 = (v.toNat.testBit 24 && !(s.dev.setHere a).testBit 24) := by
    have hbits : rowRfStat.w1cBits = 2 ^ 24 := rfl
    have hset : s.dev.asked.setHere a = s.dev.setHere a := rfl
    simp only [w, Dev.unset, hbits, hset, Nat.testBit_and, Nat.testBit_xor, Nat.testBit_two_pow_self]
    simp [show (0xFFFFFFFF : Nat).testBit 24 = true by decide]
  have hafter : s.dev.asked.wordAfter m old w rowRfStat.fields =
      withBits (withBits (withBits old 24 1 (bitsOf old 24 1 &&& (bitsOf w 24 1 ^^^ 1))) 16 7 (bitsOf old 16 7)) 0 16 (bitsOf old 0 16) :=
    rfl
  refine ((plainReg_rfStat hr n).answers_write (Dev.violates_open rfl _ _ _) hafter).imp ?_
  rintro e ⟨hframe, hmem, hother, hreg⟩
  refine ⟨hframe, hmem, hother, ?_, ?_⟩
  · rw [hreg, BitVec.toNat_ofNat]
    simp only [bitOf_eq_testBit, Nat.testBit_mod_two_pow, testBit_withBits, testBit_bitsOf, Nat.testBit_and, Nat.testBit_xor, hw]
    simp [old]
  · have hlow : ∀ x, bitsOf (x % 2 ^ 32) 0 16 = bitsOf x 0 16 := fun x => by simp [bitsOf]
    rw [hreg, BitVec.toNat_ofNat, hlow, bitsOf_withBits_same, Nat.mod_eq_of_lt (bitsOf_lt _ _ _)]

end

/-! ### The count of a raise -/

theorem Dev.orReg_reg_ne (d : Dev) {a b : Nat} (v : Nat) (h : b ≠ a) : (d.orReg a v).reg b = d.reg b := Dev.reg_setReg_ne d _ h

/-- Core routes set pending bits only (R509). -/
theorem routeCores_reg {a : Nat} (ha : 0x40010C28 ≤ a) (src scope : Nat) (paired : Bool) (l : List (Nat × Word)) (d : Dev) :
    (routeCores src scope paired l d).reg a = d.reg a := by
  induction l with
  | nil => rfl
  | cons x t ih =>
    obtain ⟨k, w⟩ := x
    simp only [routeCores]
    split
    · split
      · rw [Dev.orReg_reg_ne _ _ (by omega), ih]
      · exact ih
    · exact ih

theorem Dev.setCond_reg (d : Dev) (b mask a : Nat) : (d.setCond b mask).reg a = (d.orReg (blkReg b + 0x30) mask).reg a := by
  unfold Dev.setCond
  exact Dev.setLane_reg _ _ _ _

/-- Lane routes set condition bits only (R511). -/
theorem routeLanes_reg {a : Nat} (ha : ∀ n, a ≠ blkReg n + 0x30) (src scope : Nat) (l : List (Nat × Word)) (d : Dev) :
    (routeLanes src scope l d).reg a = d.reg a := by
  induction l with
  | nil => rfl
  | cons x t ih =>
    obtain ⟨k, w⟩ := x
    simp only [routeLanes]
    split
    · rw [Dev.setCond_reg, Dev.orReg_reg_ne _ _ (ha _), ih]
    · exact ih

theorem Dev.logRaise_reg {a : Nat} (ha : a ≠ 0x40011408) (d : Dev) (src scope arg : Nat) : (d.logRaise src scope arg).reg a = d.reg a := by
  unfold Dev.logRaise
  split
  · split
    · rfl
    · exact Dev.reg_setFld_ne _ _ _ _ _ (by simpa using ha)
  · rfl

theorem Dev.captureEvent_reg (d : Dev) (src a : Nat) : (d.captureEvent src).reg a = d.reg a := by
  simp only [Dev.captureEvent, List.foldl, Dev.noteCapture_keeps (fun d => d.reg a) (fun _ _ _ => rfl)]

theorem Dev.rackTrigger_reg (d : Dev) (src scope a : Nat) : (d.rackTrigger src scope).reg a = d.reg a := by
  unfold Dev.rackTrigger
  dsimp only
  split <;> rfl

theorem satInc_lt (w v : Nat) : satInc w v < 2 ^ w := by
  have hpos : 0 < 2 ^ w := Nat.two_pow_pos w
  unfold satInc
  split <;> omega

/-- A raise counts its source (R508). -/
theorem Dev.raise_count (d : Dev) {src : Nat} (hs : src < 0x100) (scope arg : Nat) :
    (d.raise src scope arg).fld (4 * src) F.EVR_CNT_count = satInc 16 (d.fld (4 * src) F.EVR_CNT_count) := by
  have hoff : F.EVR_CNT_count.off = 0x40011000 := rfl
  have hlane : ∀ n, 4 * src + F.EVR_CNT_count.off ≠ blkReg n + 0x30 := by
    intro n
    unfold blkReg blkBase rgnBase
    omega
  have hreg : (d.raise src scope arg).reg (4 * src + F.EVR_CNT_count.off) =
      (d.bump (4 * src) F.EVR_CNT_count).reg (4 * src + F.EVR_CNT_count.off) := by
    rw [Dev.raise]
    dsimp only
    rw [Dev.rackTrigger_reg, Dev.captureEvent_reg, Dev.logRaise_reg (by omega), routeLanes_reg hlane, routeCores_reg (by omega)]
  rw [Dev.fld, hreg]
  exact (Dev.fld_setFld_same d (4 * src) F.EVR_CNT_count _ (by norm_num)).trans (Nat.mod_eq_of_lt (satInc_lt 16 _))

/-! ### Accesses that are no register write -/

/-- The answer to an access that lies nowhere: an error response, which is counted (R495). -/
theorem Dev.busError_spec (d : Dev) (m a : Nat) :
    (d.busError m a).resp = 0 ∧ (d.busError m a).respErr = true ∧ (d.busError m a).mem = d.mem ∧ (d.busError m a).units = d.units ∧
      (d.busError m a).legs = d.legs ∧
      (d.busError m a).fld (4 * Ev.BUS_ERROR) F.EVR_CNT_count = satInc 16 (d.fld (4 * Ev.BUS_ERROR) F.EVR_CNT_count) := by
  have hs : Ev.BUS_ERROR < 0x100 := by norm_num
  have hcount := Dev.raise_count d hs m a
  have hmem := Dev.raise_mem d _ m a hs
  have hunits := Dev.raise_units d _ m a hs
  have hlegs := Dev.raise_legs d _ m a hs
  unfold Dev.busError
  generalize d.raise Ev.BUS_ERROR m a = e at *
  exact ⟨rfl, rfl, hmem, hunits, hlegs, hcount⟩

theorem isRegAccess_iff {a n : Nat} : isRegAccess a n = true ↔ (regSpace a).isSome = true ∧ n = 4 ∧ a % 4 = 0 := by
  simp [isRegAccess, and_assoc]

theorem exec_registerWrite_nowhere {a : Word} (hmem : memKind a.toNat = none)
    (hreg : ¬ ((regSpace a.toNat).isSome = true ∧ 4 = 4 ∧ a.toNat % 4 = 0)) (m : Master) (v : Word) (s : State) :
    exec (.registerWrite m a v) s = .next ⟨s.dev.asked.busError m.id a.toNat, s.pending⟩ := by
  rw [exec_registerWrite, Dev.busWrite_eq, hmem, if_neg (by simp), if_neg (by rwa [isRegAccess_iff])]

theorem exec_busError (m : Master) (a : Word) (size : Nat) (wr : Bool) (s : State) :
    exec (.busError m a size wr) s =
      .next ⟨if (memKind a.toNat).isSome || isRegAccess a.toNat size then s.dev else s.dev.busError m.id a.toNat, s.pending⟩ := rfl

/-- A store that the inner code admits changes the bytes of memory alone. -/
theorem Dev.storeN_eq_pokeN {d : Dev} {a n : Nat} (hn : n ≠ 8) (hbad : d.isBad a = false) (v : Nat) : d.storeN a n v = d.pokeN a n v := by
  rw [Dev.storeN, if_neg hn, hbad]
  rfl

theorem Dev.memWrite_chipRam {d : Dev} {m a : Nat} (hmem : memKind a = some .chipRam) (hlock : m = 5 ∨ d.inLock a = false) (n v : Nat) :
    d.memWrite m a n v = (true, d.storeN a n v) := by
  have hopen : (m != 5 && d.inLock a) = false := by
    rcases hlock with h | h <;> simp [h]
  rw [Dev.memWrite, hmem]
  simp [hopen, Dev.admits]

/-- A write of chip shared SRAM outside a lock and an uncorrectable word. -/
theorem registerWrite_chipRam {a : Word} (hlo : 0x12000000 ≤ a.toNat) (hhi : a.toNat < 0x121C0000) {m : Master} {s : State}
    (hlock : m.id = 5 ∨ s.dev.inLock a.toNat = false) (hbad : s.dev.isBad a.toNat = false) (v : Word) :
    s.answers (exec (.registerWrite m a v) s) (fun e => e.loadN a.toNat 4 = v.toNat ∧
      (e.units = s.dev.units ∧ e.legs = s.dev.legs ∧ e.lanes = s.dev.lanes ∧ e.respErr = false) ∧ e.regs = s.dev.regs ∧
        ∀ y, (y < a.toNat ∨ a.toNat + 4 ≤ y) → e.byte y = s.dev.byte y) := by
  have hmem := memKind_chipRam hlo hhi
  have hlock' : m.id.val = 5 ∨ s.dev.asked.inLock a.toNat = false := hlock.imp (congrArg Fin.val) id
  have hexec : exec (.registerWrite m a v) s = .next ⟨s.dev.asked.pokeN a.toNat 4 v.toNat, s.pending⟩ := by
    rw [exec_registerWrite, Dev.busWrite_eq, if_pos (by rw [hmem]; rfl), Dev.memWrite_chipRam hmem hlock',
      Dev.storeN_eq_pokeN (d := s.dev.asked) (by norm_num) hbad]
  rw [hexec, State.answers_next]
  refine ⟨?_, ⟨rfl, rfl, rfl, rfl⟩, rfl, fun y hy => Dev.pokeN_byte s.dev.asked a.toNat 4 v.toNat y hy⟩
  rw [Dev.pokeN_loadN]
  exact Nat.mod_eq_of_lt v.isLt

/-- A write of an unassigned offset of a block's registers is ignored (R495). -/
theorem registerWrite_blk_unassigned {b o : Nat} (hb : b < 16) (hlo : 0x100 ≤ o) (hhi : o < 0x4000) (h4 : o % 4 = 0)
    (hrow : rowAt (blkReg b + o) = none) (m : Master) (v : Word) (s : State) :
    s.answers (exec (.registerWrite m (BitVec.ofNat 32 (blkReg b + o)) v) s) (fun e =>
      (e.units = s.dev.units ∧ e.legs = s.dev.legs ∧ e.lanes = s.dev.lanes ∧ e.respErr = false) ∧ e.mem = s.dev.mem ∧
        e.regs = s.dev.regs) := by
  have hlt : blkReg b + o < 2 ^ 32 := by unfold blkReg blkBase rgnBase; omega
  have haligned : (blkReg b + o) % 4 = 0 := by unfold blkReg blkBase rgnBase; omega
  rw [exec_registerWrite_reg hlt (memKind_blk hb (by omega)) (regSpace_blk hb (by omega)) haligned,
    Dev.writeReg_blk hb hlo (by omega), Dev.plainWrite, hrow, State.answers_next]
  exact ⟨⟨rfl, rfl, rfl, rfl⟩, rfl, rfl⟩

/-- Settles O53, clause by clause: memory, the two ways to a bus error, then one register for each access code. -/
theorem registerAccess : Obligations.RegisterAccess := by
  unfold Obligations.RegisterAccess
  intro m a v size wr r n b o s
  refine ⟨fun ⟨hlo, hhi, _⟩ hlock hbad => registerWrite_chipRam hlo hhi hlock hbad v, fun ⟨hmem, hreg⟩ => ?_, fun ⟨hmem, hreg⟩ => ?_,
    fun hsome => ?_, registerWrite_memScrub m v s, registerWrite_rfStat m v s r.isLt n, registerWrite_evrCnt m v s,
    registerWrite_lifeHours m v s, registerWrite_lifeHours_violation m v s,
    fun hhi h4 hlo hrow => registerWrite_blk_unassigned b.isLt hlo hhi h4 hrow m v s⟩
  · rw [exec_registerWrite_nowhere hmem hreg, State.answers_next]
    exact Dev.busError_spec s.dev.asked m.id a.toNat
  · have hnowhere : ((memKind a.toNat).isSome || isRegAccess a.toNat size) = false := by
      rw [hmem, Option.isSome_none, Bool.false_or, Bool.eq_false_iff, ne_eq, isRegAccess_iff]
      exact hreg
    rw [exec_busError, hnowhere, State.answers_next]
    exact Dev.busError_spec s.dev m.id a.toNat
  · have hthere : ((memKind a.toNat).isSome || isRegAccess a.toNat size) = true := by
      rw [Bool.or_eq_true, isRegAccess_iff, Option.isSome_iff_ne_none]
      exact or_iff_not_imp_left.mpr fun hmem => by_contra fun hreg => hsome ⟨not_not.mp hmem, hreg⟩
    rw [exec_busError, hthere]
    rfl

/-! ### A confirm over a measurement of no image type -/

/-- A device in the PROBATION of a chip rack whose measurement of slot A names image type 0xC034, where R394 has types 1 to 5: the
stored Vintage of that type would be the word of CHIP_RACK. -/
def misTyped : State :=
  ⟨{ Dev.initial.setFld 0 F.CHIP_RACK_state 2 with
      cellar := { Cellar.initial with meas := [(0, some ⟨0xC034, 0, 0xFFFFFFFF, []⟩)] } }, []⟩

/-- A confirm of AC0 or AC1. -/
theorem exec_chipRackConfirm {m : Master} (hm : isAc m = true) (s : State) :
    exec (.chipRackConfirm m) s = .next ⟨s.dev.chipConfirm, s.pending⟩ :=
  congrArg (fun d => Host.Outcome.next (State.mk d s.pending)) (if_pos hm : (if isAc m then s.dev.chipConfirm else s.dev) = s.dev.chipConfirm)

/-- What a confirm does in PROBATION: the trial mark and the state go, the Vintage of the active slot is committed, CHIP_RACK_COMMIT
is raised (R533). -/
theorem Dev.chipConfirm_probation {d : Dev} (h : d.fld 0 F.CHIP_RACK_state = 2) :
    d.chipConfirm = (((d.setBoot d.vault.bootSlot false).setFld 0 F.CHIP_RACK_state 0).commitCask (d.fld 0 F.CHIP_RACK_active)).raise
      Ev.CHIP_RACK_COMMIT scopeChip (d.fld 0 F.CHIP_RACK_active) := if_pos h

/-- A commit raises the stored Vintage of the type that was measured. -/
theorem Dev.commitCask_measured {d : Dev} {dest : Nat} {x : Meas} (h : Store.get (fun _ => none) d.cellar.meas dest = some x) :
    d.commitCask dest = d.raiseVintage x.typ x.vintage := by
  rw [Dev.commitCask, h]

/-- The largest Vintage fills the word that holds it. -/
theorem Dev.raiseVintage_max_reg (d : Dev) (t : Nat) :
    (d.raiseVintage t 0xFFFFFFFF).reg (4 * (t - 1) + F.CEL_VINT_v.off) = 0xFFFFFFFF := by
  have hold : d.fld (4 * (t - 1)) F.CEL_VINT_v ≤ 0xFFFFFFFF := Nat.le_of_lt_succ (bitsOf_lt _ 0 32)
  have hword := bitsOf_withBits_same (d.reg (4 * (t - 1) + F.CEL_VINT_v.off)).toNat 0 32 0xFFFFFFFF
  rw [Dev.raiseVintage, max_eq_left hold, Dev.setFld, Dev.reg_setReg_same, fput]
  apply BitVec.eq_of_toNat_eq
  rw [BitVec.toNat_ofNat]
  simpa [bitsOf] using hword

theorem misTyped_fld (b : Nat) (f : Fld) : misTyped.dev.fld b f = (Dev.initial.setFld 0 F.CHIP_RACK_state 2).fld b f := by
  simp only [Dev.fld, Dev.reg, misTyped]

theorem misTyped_state : misTyped.dev.fld 0 F.CHIP_RACK_state = 2 := by
  rw [misTyped_fld, Dev.fld_setFld_same _ _ _ _ (by norm_num)]; norm_num

theorem misTyped_active : misTyped.dev.fld 0 F.CHIP_RACK_active = 0 := by
  rw [misTyped_fld, Dev.fld_setFld_field Dev.initial 0 0 F.CHIP_RACK_state F.CHIP_RACK_active 2 (by norm_num) rfl (by norm_num)]
  rfl

/-- After the confirm CHIP_RACK holds the Vintage, and its state is not IDLE. -/
theorem misTyped_confirmed : misTyped.dev.chipConfirm.fld 0 F.CHIP_RACK_state = 3 := by
  have hrack : ¬ RouterReg (0 + F.CHIP_RACK_state.off) := chip_not_routerReg (by norm_num) (by norm_num)
  rw [Dev.chipConfirm_probation misTyped_state, misTyped_active, Dev.fld, Dev.raise_reg _ _ _ _ _ (by norm_num) hrack,
    Dev.commitCask_measured (x := ⟨0xC034, 0, 0xFFFFFFFF, []⟩) rfl]
  exact congrArg (fget · F.CHIP_RACK_state) (Dev.raiseVintage_max_reg _ 0xC034)

/-- The clause of the obligation on a confirm: in PROBATION it ends in IDLE. -/
theorem confirm_ends_idle (h : Obligations.StartUpAndChipRacking) (m : Master) (s : State) (hm : m.id = 0 ∨ m.id = 1)
    (hs : s.dev.fld 0 F.CHIP_RACK_state = 2) :
    s.answers (exec (.chipRackConfirm m) s) (fun e => e.fld 0 F.CHIP_RACK_state = 0) := by
  obtain ⟨-, -, -, -, -, -, -, -, -, -, -, -, -, -, -, -, -, -, -, -, -, -, -, -, -, -, -, hconfirm, -⟩ :=
    h m none 0 0 0 0 false .chip 0 s
  obtain ⟨e, he, hidle, -⟩ := hconfirm hm hs
  exact ⟨e, he, hidle⟩

/-- Refutes O52 by its clause on CHIP_RACK_CONFIRM. The statement ranges over every state, and in `misTyped`, which no run reaches (a
verified Cask is of type 1 to 5), the commit of the active slot writes its Vintage into CHIP_RACK, whose state then reads 3, not 0. -/
theorem not_startUpAndChipRacking : ¬ Obligations.StartUpAndChipRacking := by
  intro h
  have hidle := confirm_ends_idle h ⟨0, false⟩ misTyped (Or.inl rfl) misTyped_state
  rw [exec_chipRackConfirm rfl, State.answers_next, misTyped_confirmed] at hidle
  exact absurd hidle (by decide)

end Sys2Proof.Machine
end

section
/-! Proofs of the statements on the architecture of lanes, legs, rainflow channels and the fabric, with the laws they need. -/

namespace Sys2Proof.Machine

/-! ### Running a command of a lane -/

theorem Dev.onRun_of_run {d : Dev} {b : Nat} (h : (d.lane b).mode = .run) (f : Lane → Dev) : d.onRun b f = f (d.lane b) := if_pos h

/-! ### What faults leave, field by field -/

section
variable {d e : Dev}

theorem FaultKeeps.mem (h : FaultKeeps d e) : e.mem = d.mem := (congrArg Dev.mem h.rest :)
theorem FaultKeeps.now (h : FaultKeeps d e) : e.now = d.now := (congrArg Dev.now h.rest :)
theorem FaultKeeps.chReady (h : FaultKeeps d e) : e.chReady = d.chReady := (congrArg Dev.chReady h.rest :)
theorem FaultKeeps.lane_mode (h : FaultKeeps d e) (b : Nat) : (e.lane b).mode = (d.lane b).mode := (congrArg Lane.mode (h.lane b) :)
theorem FaultKeeps.lane_writes (h : FaultKeeps d e) (b : Nat) : (e.lane b).writes = (d.lane b).writes := (congrArg Lane.writes (h.lane b) :)

end

theorem blkReg_not_routerReg {b x : Nat} (hx : x < 0x8000) (hne : x ≠ 0x30) : ¬ RouterReg (blkReg b + x) := by
  rintro (hr | ⟨n, hn⟩)
  · unfold blkReg blkBase rgnBase at hr
    omega
  · unfold blkReg blkBase rgnBase at hn
    omega

/-- A block fault halts the lane of its block and leaves its writes in flight, the memories and the channels. -/
theorem Dev.blockFault_halts (d : Dev) (b bit : Nat) :
    ((d.blockFault b bit).lane b).mode = .halted ∧ ((d.blockFault b bit).lane b).writes = (d.lane b).writes ∧
      (d.blockFault b bit).mem = d.mem ∧ (d.blockFault b bit).chReady = d.chReady := by
  have hcount : FaultReg (blkReg b + F.BLK_CAUSE_CNT_count.off) := faultReg_blk b (by norm_num) (by norm_num)
  have hbase := (((FaultKeeps.refl d).latchCause (blkCause_plain b) bit).bump hcount).raise (src := Ev.BLOCK_FAULT) (scopeBlk b) bit
    (by norm_num)
  have hfault := Dev.blockFault_keeps d b bit
  generalize ((d.latchCause (blkCause b) bit).bump (blkReg b) F.BLK_CAUSE_CNT_count).raise Ev.BLOCK_FAULT (scopeBlk b) bit = g at *
  have hhalt : (g.haltLane b).lane b = { g.lane b with mode := .halted, held := none, issued := false, redirect := none } :=
    Dev.lane_setLane_same _ _ _
  refine ⟨?_, ?_, hfault.mem.trans hbase.mem, hfault.chReady.trans hbase.chReady⟩
  · rw [hfault.lane_mode, hhalt]
  · rw [hfault.lane_writes, hhalt]
    exact hbase.lane_writes b

/-! ### An exchange as it issues -/

theorem Phase.not_early {p : Phase} (h : p = .exchange ∨ p = .commit ∨ p = .closed) : ¬ (p = .intake ∨ p = .compute) := by
  rcases h with rfl | rfl | rfl <;> decide

section
variable {ln : BlockId} {x : ExchOp} {sealing : Bool} {s : State}

theorem exec_put (h : s.running ln) : exec (.put ln x sealing) s =
    .next ⟨if (s.dev.lane ln).phase = .intake ∨ (s.dev.lane ln).phase = .compute then
        s.dev.hold ln (.putEarly x sealing ((s.dev.lane ln).putData x))
      else s.dev.doPut ln x sealing ((s.dev.lane ln).putData x), s.pending⟩ :=
  congrArg (fun d => Host.Outcome.next (State.mk d s.pending)) (Dev.onRun_of_run h _)

theorem exec_get (h : s.running ln) : exec (.get ln x) s =
    .next ⟨if (s.dev.lane ln).phase = .intake ∨ (s.dev.lane ln).phase = .compute then s.dev.hold ln (.getEarly x)
      else s.dev.doGet ln x, s.pending⟩ :=
  congrArg (fun d => Host.Outcome.next (State.mk d s.pending)) (Dev.onRun_of_run h _)

end

section
variable (d : Dev) (b : Nat) (x : ExchOp) (sealing : Bool) (data : List Word)

/-- What a PUT does once it counts as issued. -/
theorem Dev.doPut_eq : d.doPut b x sealing data =
    if d.exchCase b x true ≠ 0 then d.exchRefused b x (d.exchCase b x true)
    else if (d.lane b).phase = .exchange then d.hold b (.put x sealing data d.now (some d.now) (exchBanks b x) none)
    else d.exchEnd b := rfl

/-- What a GET does once it counts as issued. -/
theorem Dev.doGet_eq : d.doGet b x =
    if d.exchCase b x false ≠ 0 then d.exchRefused b x (d.exchCase b x false)
    else if (d.lane b).phase = .exchange then d.hold b (.get x d.now (if d.channelReady b x = true then some d.now else none) (exchBanks b x) none)
    else d.exchEnd b := rfl

theorem or_toNat_ofNat (w : Word) {f : Nat} (hf : f < 2 ^ 32) : BitVec.ofNat 32 (w.toNat ||| f) = w ||| BitVec.ofNat 32 f := by
  apply BitVec.eq_of_toNat_eq
  rw [BitVec.toNat_ofNat, BitVec.toNat_or, BitVec.toNat_ofNat, Nat.mod_eq_of_lt hf, Nat.mod_eq_of_lt (Nat.or_lt_two_pow w.isLt hf)]

theorem Dev.orReg_reg_same (a : Nat) {f : Nat} (hf : f < 2 ^ 32) : (d.orReg a f).reg a = d.reg a ||| BitVec.ofNat 32 f := by
  have hreg : (d.orReg a f).reg a = (d.setReg a (BitVec.ofNat 32 ((d.reg a).toNat ||| f))).reg a := rfl
  rw [hreg, Dev.reg_setReg_same, or_toNat_ofNat _ hf]

/-- Flags that are set change LANE_STATUS, the note of set bits, and the note of them in the lane. -/
theorem Dev.setFlags_keeps {d : Dev} {α : Type} (P : Dev → α) (f : Nat) (hreg : ∀ (d : Dev) a w, P (d.setReg a w) = P d)
    (hnote : ∀ (d : Dev) a v, P (d.noteSet a v) = P d)
    (hlane : ∀ (d : Dev) v w, P (d.setLane b { d.lane b with flagAt := v, flagNow := w }) = P d) : P (d.setFlags b f) = P d := by
  have hset : P (d.orReg (blkReg b + 0x20) f) = P d := (hnote _ _ _).trans (hreg _ _ _)
  by_cases hf : f = 0
  · rw [Dev.setFlags, if_pos hf]
  · rw [Dev.setFlags, if_neg hf, Dev.noteFlags, if_neg hf, ← hset]
    exact hlane _ _ _

theorem Dev.setFlags_status {f : Nat} (hf : f ≠ 0) (hlt : f < 2 ^ 32) :
    (d.setFlags b f).reg (blkReg b + 0x20) = d.reg (blkReg b + 0x20) ||| BitVec.ofNat 32 f := by
  rw [Dev.setFlags, if_neg hf, Dev.noteFlags, if_neg hf, Dev.setLane_reg, Dev.orReg_reg_same _ _ hlt]

/-- The lane runs and nothing holds it. -/
def Dev.freed (d : Dev) (b : Nat) : Dev := d.setLane b { d.lane b with mode := .run, held := none }

theorem Dev.freed_lane : (d.freed b).lane b = { d.lane b with mode := .run, held := none } := Dev.lane_setLane_same _ _ _

theorem Dev.exchRefused_eq (case_ : Nat) : d.exchRefused b x case_ = ((d.freed b).setFlags b flagExchRef).raise Ev.EXCH_REFUSED (scopeBlk b)
    (pack [(x.ch.toNat, 8), (case_, 4), ((d.lane b).pc, 12)]) := rfl

/-- A refused exchange lets the lane run on with exch_ref set (R108). -/
theorem Dev.exchRefused_spec (case_ : Nat) :
    ((d.exchRefused b x case_).lane b).mode = .run ∧ ((d.exchRefused b x case_).lane b).held = none ∧
      (d.exchRefused b x case_).reg (blkReg b + 0x20) = d.reg (blkReg b + 0x20) ||| 32 ∧ (d.exchRefused b x case_).mem = d.mem ∧
      (d.exchRefused b x case_).chReady = d.chReady := by
  have hs : Ev.EXCH_REFUSED < 0x100 := by norm_num
  have hrouter := blkReg_not_routerReg (b := b) (x := 0x20) (by norm_num) (by norm_num)
  have hmem : (d.freed b).mem = d.mem := rfl
  have hready : (d.freed b).chReady = d.chReady := rfl
  have hreg : (d.freed b).reg (blkReg b + 0x20) = d.reg (blkReg b + 0x20) := rfl
  have hlane := Dev.freed_lane d b
  rw [Dev.exchRefused_eq]
  generalize d.freed b = g at *
  have hraise := (FaultKeeps.refl (g.setFlags b flagExchRef)).raise (scopeBlk b) (pack [(x.ch.toNat, 8), (case_, 4), ((d.lane b).pc, 12)]) hs
  refine ⟨?_, ?_, ?_, ?_, ?_⟩
  · rw [hraise.lane_mode, Dev.setFlags_keeps b (fun d => (d.lane b).mode) _ (fun _ _ _ => rfl) (fun _ _ _ => rfl)
      (fun _ _ _ => by rw [Dev.lane_setLane_same]), hlane]
  · rw [Dev.raise_lane_held _ _ _ _ _ hs, Dev.setFlags_keeps b (fun d => (d.lane b).held) _ (fun _ _ _ => rfl) (fun _ _ _ => rfl)
      (fun _ _ _ => by rw [Dev.lane_setLane_same]), hlane]
  · rw [Dev.raise_reg _ _ _ _ _ hs hrouter, Dev.setFlags_status _ _ (by norm_num) (by norm_num), hreg]; rfl
  · rw [hraise.mem, Dev.setFlags_keeps b Dev.mem _ (fun _ _ _ => rfl) (fun _ _ _ => rfl) (fun _ _ _ => rfl), hmem]
  · rw [hraise.chReady, Dev.setFlags_keeps b Dev.chReady _ (fun _ _ _ => rfl) (fun _ _ _ => rfl) (fun _ _ _ => rfl), hready]

/-- An exchange that is ended halts its lane by a block fault with cause bit 2 (R26). -/
theorem Dev.exchEnd_spec :
    d.exchEnd b = (d.raise Ev.EXCH_TIMEOUT (scopeBlk b) 0).blockFault b 2 ∧ ((d.exchEnd b).lane b).mode = .halted ∧
      ((d.exchEnd b).lane b).writes = (d.lane b).writes ∧ (d.exchEnd b).mem = d.mem ∧ (d.exchEnd b).chReady = d.chReady := by
  have hs : Ev.EXCH_TIMEOUT < 0x100 := by norm_num
  obtain ⟨hmode, hwrites, hmem, hready⟩ := Dev.blockFault_halts (d.raise Ev.EXCH_TIMEOUT (scopeBlk b) 0) b 2
  exact ⟨rfl, hmode, hwrites.trans (Dev.raise_lane_writes _ _ _ _ _ hs), hmem.trans (Dev.raise_mem _ _ _ _ hs),
    hready.trans (Dev.raise_chReady _ _ _ _ hs)⟩

end

/-! ### Stores of words -/

section
variable {α : Type} (P : Dev → α) (hmem : ∀ (d : Dev) m, P { d with mem := m } = P d) (hbad : ∀ (d : Dev) x, P { d with bad := x } = P d)
include hmem hbad

/-- A store changes the memories and the marks of bad words alone. -/
theorem Dev.storeN_keeps (d : Dev) (a n v : Nat) : P (d.storeN a n v) = P d := by
  unfold Dev.storeN
  split
  · exact (hbad (d.pokeN a n v) _).trans (hmem d _)
  · split
    · rfl
    · exact hmem d _

theorem Dev.storeWords_keeps (d : Dev) (a : Nat) (l : List Word) : P (d.storeWords a l) = P d := by
  fun_induction Dev.storeWords d a l with
  | case1 => rfl
  | case2 => exact Dev.storeN_keeps P hmem hbad _ _ _ _
  | case3 d a w v t ih => exact ih.trans (Dev.storeN_keeps P hmem hbad _ _ _ _)

end

theorem Dev.storeWords_byte (d : Dev) (a : Nat) (l : List Word) {y : Nat} (h : y < a ∨ a + 4 * l.length ≤ y) :
    (d.storeWords a l).byte y = d.byte y := by
  fun_induction Dev.storeWords d a l with
  | case1 => rfl
  | case2 d a w => exact Dev.storeN_byte _ _ _ _ _ (by simpa using h)
  | case3 d a w v t ih =>
    simp only [List.length_cons] at h
    exact (ih (by omega)).trans (Dev.storeN_byte _ _ _ _ _ (by omega))

theorem leBytes_add (m n v : Nat) : leBytes (m + n) v = leBytes m v ++ leBytes n (v / 256 ^ m) := by
  induction m generalizing v with
  | zero => simp [leBytes]
  | succ m ih => rw [Nat.add_right_comm, leBytes, ih, leBytes, Nat.div_div_eq_div_mul, Nat.pow_succ']; rfl

theorem leBytes_mod (n v : Nat) : leBytes n (v % 256 ^ n) = leBytes n v := by
  induction n generalizing v with
  | zero => rfl
  | succ n ih =>
    have hhigh : v % 256 ^ (n + 1) / 256 = v / 256 % 256 ^ n := by rw [Nat.pow_succ', Nat.mod_mul_right_div_self]
    have hlow : BitVec.ofNat 8 (v % 256 ^ (n + 1)) = BitVec.ofNat 8 v := by
      apply BitVec.eq_of_toNat_eq
      simp only [BitVec.toNat_ofNat]
      exact Nat.mod_mod_of_dvd _ (Dvd.intro_left _ (Nat.pow_succ ..).symm)
    rw [leBytes, hhigh, hlow, ih, leBytes]

theorem storeBytes_append (m : Store Byte) (a : Nat) (x y : List Byte) :
    storeBytes m a (x ++ y) = storeBytes (storeBytes m a x) (a + x.length) y := by
  induction x generalizing m a with
  | nil => rfl
  | cons b t ih => rw [List.cons_append, storeBytes, ih, storeBytes, List.length_cons]; congr 1; omega

/-- Words stored one by one, without regard to the codes. -/
def Dev.pokeWords (d : Dev) (a : Nat) : List Word → Dev
  | [] => d
  | w :: t => (d.pokeN a 4 w.toNat).pokeWords (a + 4) t

/-- A pair of words that is stored as one double word. -/
theorem Dev.storeN_pair {d : Dev} (h : d.bad = []) (a : Nat) (w v : Word) :
    d.storeN a 8 (w.toNat + 2 ^ 32 * v.toNat) = (d.pokeN a 4 w.toNat).pokeN (a + 4) 4 v.toNat := by
  have hbytes : leBytes 8 (w.toNat + 2 ^ 32 * v.toNat) = leBytes 4 w.toNat ++ leBytes 4 v.toNat := by
    rw [leBytes_add 4 4, ← leBytes_mod 4 (w.toNat + 2 ^ 32 * v.toNat)]
    congr 2 <;> have := w.isLt <;> omega
  have hbad : Store.set (fun _ => false) d.bad (a / 8) false = d.bad := by rw [h]; rfl
  rw [Dev.storeN, if_pos rfl, hbad, Dev.pokeN, hbytes, storeBytes_append, leBytes_length]
  rfl

/-- Where no word is bad, words are stored as if one by one. -/
theorem Dev.storeWords_eq_pokeWords {d : Dev} (h : d.bad = []) (a : Nat) (l : List Word) : d.storeWords a l = d.pokeWords a l := by
  fun_induction Dev.storeWords d a l with
  | case1 => rfl
  | case2 d a w => exact Dev.storeN_eq_pokeN (by norm_num) (by simp [Dev.isBad, h, Store.get]) _
  | case3 d a w v t ih =>
    have hpair := Dev.storeN_pair h a w v
    rw [ih (by rw [hpair]; exact h), hpair]
    rfl

theorem Dev.pokeWords_byte (d : Dev) (a : Nat) (l : List Word) {y : Nat} (h : y < a) : (d.pokeWords a l).byte y = d.byte y := by
  induction l generalizing d a with
  | nil => rfl
  | cons w t ih => exact (ih _ _ (by omega)).trans (Dev.pokeN_byte _ _ _ _ _ (Or.inl h))

/-- Stored words read back. -/
theorem Dev.pokeWords_loadN (d : Dev) (a : Nat) (l : List Word) {i : Nat} (h : i < l.length) :
    (d.pokeWords a l).loadN (a + 4 * i) 4 = (l.getD i 0).toNat := by
  induction l generalizing d a i with
  | nil => exact absurd h (Nat.not_lt_zero _)
  | cons w t ih =>
    cases i with
    | zero =>
      have hsame : ((d.pokeN a 4 w.toNat).pokeWords (a + 4) t).bytes a 4 = (d.pokeN a 4 w.toNat).bytes a 4 :=
        Dev.bytes_congr fun j hj => Dev.pokeWords_byte _ _ _ (by omega)
      have hword : (d.pokeN a 4 w.toNat).loadN a 4 = w.toNat := by
        rw [Dev.pokeN_loadN, Nat.mod_eq_of_lt (w.isLt.trans_le (by norm_num))]
      simpa [Dev.pokeWords, Dev.loadN, hsame] using hword
    | succ j =>
      rw [Dev.pokeWords, show a + 4 * (j + 1) = a + 4 + 4 * j by ring]
      simpa using ih _ _ (by simpa using h)

/-! ### The lane after a hold -/

theorem Lane.advance_writes (l : Lane) (t : Nat) : (l.advance t).writes = l.writes := by
  unfold Lane.advance
  split
  · rfl
  · split
    · split
      · split <;> rfl
      · rfl
    · rfl

theorem Dev.release_lane (d : Dev) (b t : Nat) :
    ((d.release b t).lane b).mode = .run ∧ ((d.release b t).lane b).held = none ∧ ((d.release b t).lane b).writes = (d.lane b).writes := by
  rw [Dev.release]
  dsimp only
  rw [Dev.lane_setLane_same]
  exact ⟨rfl, rfl, Lane.advance_writes _ _⟩

/-! ### PUT and GET complete -/

theorem Lane.putData_length (l : Lane) (x : ExchOp) : 4 * (l.putData x).length = exchBytes x := by
  unfold Lane.putData exchBytes
  split <;> simp

/-- A completed PUT has stored its words in the channel, which is ready where it seals, and lets the lane run on (R26, R107). -/
theorem Dev.putComplete_eq (d : Dev) (b : Nat) (x : ExchOp) (sealing : Bool) (data : List Word) : d.putComplete b x sealing data =
    { d.storeWords (exchAddr b x) data with
      chReady := if sealing then Store.set (fun _ => none) d.chReady (256 * (b / 4) + x.ch.toNat) (some d.now) else d.chReady }.release b
        d.now := by
  have hready : (d.storeWords (exchAddr b x) data).chReady = d.chReady :=
    Dev.storeWords_keeps Dev.chReady (fun _ _ => rfl) (fun _ _ => rfl) _ _ _
  rw [← hready]
  cases sealing <;> rfl

/-- What a completed PUT leaves (R26, R107). -/
theorem Dev.putComplete_spec (d : Dev) (b : Nat) (x : ExchOp) (sealing : Bool) (data : List Word) (hlen : 4 * data.length = exchBytes x) :
    let e := d.putComplete b x sealing data
    (sealing = true → Store.get (fun _ => none) e.chReady (256 * (b / 4) + x.ch.toNat) = some d.now) ∧
      (sealing = false → e.chReady = d.chReady) ∧ (e.lane b).mode = .run ∧ (e.lane b).held = none ∧ e.regs = d.regs ∧ e.legs = d.legs ∧
      (∀ a, a < exchAddr b x ∨ exchAddr b x + exchBytes x ≤ a → e.byte a = d.byte a) ∧
      (d.bad = [] → ∀ i < data.length, e.loadN (exchAddr b x + 4 * i) 4 = (data.getD i 0).toNat) := by
  intro e
  have he : e = _ := Dev.putComplete_eq d b x sealing data
  have hready : e.chReady = if sealing then Store.set (fun _ => none) d.chReady (256 * (b / 4) + x.ch.toNat) (some d.now) else d.chReady := by
    rw [he]; rfl
  clear_value e
  have hbyte : ∀ a, e.byte a = (d.storeWords (exchAddr b x) data).byte a := fun a => by rw [he]; rfl
  have hload : ∀ a n, e.loadN a n = (d.storeWords (exchAddr b x) data).loadN a n := fun a n => by
    rw [Dev.loadN, Dev.bytes_congr fun i _ => hbyte (a + i)]; rfl
  refine ⟨fun h => ?_, fun h => ?_, ?_, ?_, ?_, ?_, fun a ha => ?_, fun hbad i hi => ?_⟩
  · rw [hready, if_pos h]; exact Store.get_set_same _ _ _ _
  · rw [hready, if_neg (by simp [h])]
  · rw [he]; exact (Dev.release_lane _ _ _).1
  · rw [he]; exact (Dev.release_lane _ _ _).2.1
  · rw [he]; exact Dev.storeWords_keeps Dev.regs (fun _ _ => rfl) (fun _ _ => rfl) _ _ _
  · rw [he]; exact Dev.storeWords_keeps Dev.legs (fun _ _ => rfl) (fun _ _ => rfl) _ _ _
  · rw [hbyte, Dev.storeWords_byte _ _ _ (by rwa [hlen])]
  · rw [hload, Dev.storeWords_eq_pokeWords hbad, Dev.pokeWords_loadN _ _ _ hi]

theorem mem_insertWrite {w v : LaneWrite} {l : List LaneWrite} : v ∈ insertWrite w l ↔ v = w ∨ v ∈ l := by
  induction l with
  | nil => simp [insertWrite]
  | cons y t ih =>
    rw [insertWrite]
    split
    · simp
    · simp [ih, or_left_comm]

/-- The destinations of a GET are on their way one by one (R107). -/
theorem Dev.each_laneWriteOf {ι : List Nat} (d : Dev) (b since a : Nat) (dst : Nat → LaneDst) :
    let e := d.each ι (fun i d => d.laneWriteOf b since 3 2 (dst i) (.word (BitVec.ofNat 32 (d.loadN (a + 4 * i) 4))) 0)
    (∀ w ∈ (d.lane b).writes, w ∈ (e.lane b).writes) ∧
      ∀ i ∈ ι, ∃ w ∈ (e.lane b).writes, w.due = d.now + 2 ∧ w.issue = since ∧ w.dst = dst i ∧
        w.val = .word (BitVec.ofNat 32 (d.loadN (a + 4 * i) 4)) := by
  induction ι generalizing d with
  | nil => simp [Dev.each]
  | cons k t ih =>
    obtain ⟨hkeep, hsent⟩ := ih (d.laneWriteOf b since 3 2 (dst k) (.word (BitVec.ofNat 32 (d.loadN (a + 4 * k) 4))) 0)
    have hlane : ((d.laneWriteOf b since 3 2 (dst k) (.word (BitVec.ofNat 32 (d.loadN (a + 4 * k) 4))) 0).lane b).writes =
        insertWrite ⟨d.now + 2, since, 3, dst k, .word (BitVec.ofNat 32 (d.loadN (a + 4 * k) 4)), 0, none⟩ (d.lane b).writes := by
      rw [Dev.laneWriteOf, Dev.lane_setLane_same]
      rfl
    refine ⟨fun w hw => hkeep w (by rw [hlane]; exact mem_insertWrite.mpr (Or.inr hw)), fun i hi => ?_⟩
    rcases List.mem_cons.mp hi with rfl | hi
    · exact ⟨_, hkeep _ (by rw [hlane]; exact mem_insertWrite.mpr (Or.inl rfl)), rfl, rfl, rfl, rfl⟩
    · exact hsent i hi

/-- What a GET moves has no say in anything but the lane's writes. -/
theorem Dev.getWrites_keeps {α : Type} (P : Dev → α) (hlanes : ∀ (d : Dev) l, P { d with lanes := l } = P d) (d : Dev) (b : Nat)
    (x : ExchOp) (since : Nat) : P (d.getWrites b x since) = P d := by
  have heach : ∀ (ι : List Nat) (f : Nat → Dev → Dev) (d : Dev), (∀ i d, P (f i d) = P d) → P (d.each ι f) = P d := by
    intro ι f d hf
    induction ι generalizing d with
    | nil => rfl
    | cons k t ih => exact (ih (f k d)).trans (hf k d)
  unfold Dev.getWrites
  split
  · exact hlanes _ _
  · exact heach _ _ _ fun _ _ => hlanes _ _

/-- A GET sends what the channel holds to its destinations (R107). -/
theorem Dev.getWrites_spec (d : Dev) (b : Nat) (x : ExchOp) (since : Nat) :
    (x.vec = false → ∀ i ≤ x.n.toNat, ∃ w ∈ ((d.getWrites b x since).lane b).writes, w.due = d.now + 2 ∧ w.issue = since ∧
        w.dst = .g (regPlus x.d i) ∧ w.val = .word (BitVec.ofNat 32 (d.loadN (exchAddr b x + 4 * i) 4))) ∧
      (x.vec = true → ∃ w ∈ ((d.getWrites b x since).lane b).writes, w.due = d.now + 2 ∧ w.issue = since ∧
        w.dst = .vec (Fin.ofNat 8 x.d.val) ∧
        w.val = .vec (BitVec.ofNat 128 (d.loadN (exchAddr b x) 32)) (BitVec.ofNat 8 (d.loadN (exchAddr b x) 32 / 2 ^ 128))) := by
  refine ⟨fun hvec i hi => ?_, fun hvec => ?_⟩
  · rw [Dev.getWrites, if_neg (by simp [hvec])]
    exact (Dev.each_laneWriteOf d b since (exchAddr b x) (fun i => .g (regPlus x.d i))).2 i (List.mem_range.mpr (by omega))
  · rw [Dev.getWrites, if_pos hvec, Dev.laneWriteOf, Dev.lane_setLane_same]
    exact ⟨_, mem_insertWrite.mpr (Or.inl rfl), rfl, rfl, rfl, rfl⟩

theorem Dev.bump_errAddr_keeps {α : Type} (P : Dev → α) (hreg : ∀ (d : Dev) a w, P (d.setReg a w) = P d) (d : Dev) (b : Nat) (f : Fld)
    (a y : Nat) : P ((d.bump b f).errAddr a y) = P d := (hreg _ _ _).trans (hreg _ _ _)

/-- The first bad word among those a GET reads. -/
def Dev.exchBad (d : Dev) (b : Nat) (x : ExchOp) : Option Nat :=
  ((List.range ((exchBytes x + 7) / 8)).map (fun i => exchAddr b x + 8 * i)).find? (fun y => d.isBad y)

theorem Dev.exchBad_eq_none {d : Dev} {b : Nat} {x : ExchOp} :
    d.exchBad b x = none ↔ ∀ i < (exchBytes x + 7) / 8, d.isBad (exchAddr b x + 8 * i) = false := by
  simp [Dev.exchBad]

section
variable {ln : BlockId} {x : ExchOp} {sealing : Bool} {s : State} {since done : Nat} {arrived doneAt : Option Nat} {left : List Nat}
  {data : List Word}

theorem exec_getComplete_free (h : (s.dev.lane ln).held = none) : exec (.getComplete ln) s = .next s := by
  change execGetComplete ln s = _
  rw [execGetComplete, h]
  rfl

theorem exec_getComplete (h : (s.dev.lane ln).held = some (.get x since arrived left (some done))) : exec (.getComplete ln) s =
    .next ⟨if done ≤ s.dev.now ∧ done ≤ s.dev.exchDeadline ln since then
      match s.dev.exchBad ln x with
      | some y => ((s.dev.bump (rgnReg (ln.val / 4)) F.RGN_MEMERR_ue).errAddr (rgnReg (ln.val / 4) + 0x74) y).blockFault ln 1
      | none => (s.dev.getWrites ln x since).release ln s.dev.now
    else s.dev, s.pending⟩ := by
  change execGetComplete ln s = _
  rw [execGetComplete, h]
  rfl

theorem exec_exchTimeout : exec (.exchTimeout ln) s = .next ⟨if s.dev.exchLate ln then s.dev.exchEnd ln else s.dev, s.pending⟩ := rfl

/-- Whether an exchange that a lane holds is late (R26). -/
theorem Dev.exchLate_iff (h : (s.dev.lane ln).held = some (.get x since arrived left doneAt) ∨
      (s.dev.lane ln).held = some (.put x sealing data since arrived left doneAt)) :
    s.dev.exchLate ln = true ↔ s.dev.exchDeadline ln since ≤ s.dev.now ∧ ∀ t, doneAt = some t → s.dev.exchDeadline ln since < t := by
  rcases h with h | h <;> (rw [Dev.exchLate, h]; cases doneAt <;> simp)

theorem Dev.exchLate_free (h : (s.dev.lane ln).held = none) : s.dev.exchLate ln = false := by
  rw [Dev.exchLate, h]

end

/-- A GET whose access is done in time lets the lane run on, or is a block fault at a bad word (R26, R107, R436). -/
theorem getComplete_spec {ln : BlockId} {x : ExchOp} {s : State} {since done : Nat} {arrived : Option Nat} {left : List Nat}
    (h : (s.dev.lane ln).held = some (.get x since arrived left (some done))) (hnow : done ≤ s.dev.now)
    (hlast : done ≤ s.dev.exchDeadline ln since) :
    (s.dev.exchBad ln x = none → exec (.getComplete ln) s = .next ⟨(s.dev.getWrites ln x since).release ln s.dev.now, s.pending⟩) ∧
      (∀ y, s.dev.exchBad ln x = some y → exec (.getComplete ln) s = .next ⟨((s.dev.bump (rgnReg (ln.val / 4)) F.RGN_MEMERR_ue).errAddr
        (rgnReg (ln.val / 4) + 0x74) y).blockFault ln 1, s.pending⟩) := by
  refine ⟨fun hb => ?_, fun y hb => ?_⟩ <;> rw [exec_getComplete h, if_pos ⟨hnow, hlast⟩, hb]

/-- Settles O10: each clause is the equation of its command in its phase. -/
theorem laneExchange : Obligations.LaneExchange := by
  unfold Obligations.LaneExchange
  intro ln x sealing s d l early holds ended refused bank
  refine ⟨fun hrun hearly => ?_, fun hrun hphase hcase => ?_, fun hrun hphase hcase => ?_, fun hrun hphase => ?_, fun hrun hlate => ?_,
    Dev.putComplete_spec d ln x sealing (l.putData x) (Lane.putData_length l x), fun since arrived left done hheld => ?_,
    fun since arrived left done hheld => ?_, fun hheld => ?_⟩
  · exact ⟨by rw [exec_put hrun, if_pos hearly]; rfl, by rw [exec_get hrun, if_pos hearly]; rfl⟩
  · rw [exec_put hrun, if_neg (Phase.not_early (Or.inl hphase)), Dev.doPut_eq, if_neg (not_not.mpr hcase), if_pos hphase]; rfl
  · rw [exec_get hrun, if_neg (Phase.not_early (Or.inl hphase)), Dev.doGet_eq, if_neg (not_not.mpr hcase), if_pos hphase]; rfl
  · have hne : l.phase ≠ .exchange := by rcases hphase with h | h <;> rw [h] <;> decide
    have hnot : ¬ early := Phase.not_early (Or.inr hphase)
    refine ⟨fun hcase => ?_, fun hcase => ?_⟩
    · rw [exec_put hrun, if_neg hnot, Dev.doPut_eq, if_neg (not_not.mpr hcase), if_neg hne, State.answers_next]
      exact Dev.exchEnd_spec d ln
    · rw [exec_get hrun, if_neg hnot, Dev.doGet_eq, if_neg (not_not.mpr hcase), if_neg hne, State.answers_next]
      exact Dev.exchEnd_spec d ln
  · refine ⟨fun hcase => ?_, fun hcase => ?_⟩
    · rw [exec_put hrun, if_neg hlate, Dev.doPut_eq, if_pos hcase, State.answers_next]
      exact Dev.exchRefused_spec d ln x _
    · rw [exec_get hrun, if_neg hlate, Dev.doGet_eq, if_pos hcase, State.answers_next]
      exact Dev.exchRefused_spec d ln x _
  · refine ⟨fun hnot => ?_, fun hnow hlast => ⟨fun hgood => ?_, fun hbad => ?_⟩⟩
    · rw [exec_getComplete hheld, if_neg fun hdone : done ≤ d.now ∧ done ≤ d.exchDeadline ln since => by omega]
    · obtain ⟨hwords, hvec⟩ := Dev.getWrites_spec d ln x since
      obtain ⟨hmode, hfree, hwrites⟩ := Dev.release_lane (d.getWrites ln x since) ln d.now
      rw [(getComplete_spec hheld hnow hlast).1 (Dev.exchBad_eq_none.mpr hgood), State.answers_next, hwrites]
      exact ⟨hmode, hfree, Dev.getWrites_keeps Dev.mem (fun _ _ => rfl) _ _ _ _, Dev.getWrites_keeps Dev.regs (fun _ _ => rfl) _ _ _ _,
        hwords, hvec⟩
    · have hsome : d.exchBad ln x ≠ none := by
        obtain ⟨i, hi, hb⟩ := hbad
        exact fun h => Bool.false_ne_true ((Dev.exchBad_eq_none.mp h i hi).symm.trans hb)
      obtain ⟨y, hy⟩ := Option.ne_none_iff_exists'.mp hsome
      obtain ⟨hmode, hwrites, hmem, -⟩ := Dev.blockFault_halts
        ((d.bump (rgnReg (ln.val / 4)) F.RGN_MEMERR_ue).errAddr (rgnReg (ln.val / 4) + 0x74) y) ln 1
      rw [(getComplete_spec hheld hnow hlast).2 y hy, State.answers_next]
      exact ⟨hmode, hwrites.trans (Dev.bump_errAddr_keeps (fun d => (d.lane ln).writes) (fun _ _ _ => rfl) ..),
        hmem.trans (Dev.bump_errAddr_keeps Dev.mem (fun _ _ _ => rfl) ..)⟩
  · have hlate : d.exchLate ln = true ↔ d.exchDeadline ln since ≤ d.now ∧ ∀ t, done = some t → d.exchDeadline ln since < t := by
      rcases hheld with h | ⟨data, h⟩
      · exact Dev.exchLate_iff (sealing := sealing) (data := []) (Or.inl h)
      · exact Dev.exchLate_iff (Or.inr h)
    refine ⟨fun hnow => ?_, fun t ht hle => ?_, fun hnow hdone => ?_⟩
    · rw [exec_exchTimeout, if_neg (by rw [hlate]; omega)]
    · rw [exec_exchTimeout, if_neg (by rw [hlate]; exact fun hx => absurd (hx.2 t ht) (by omega))]
    · rw [exec_exchTimeout, if_pos (hlate.mpr ⟨hnow, hdone⟩), State.answers_next]
      exact Dev.exchEnd_spec d ln
  · exact ⟨exec_getComplete_free hheld, by rw [exec_exchTimeout, Dev.exchLate_free hheld]; rfl⟩

end Sys2Proof.Machine
end

section
/-! The rainflow channels (R422, R423). -/

namespace Sys2Proof.Machine

/-! ### What a plain register write leaves -/

/-- A plain write sets its register and may report a violated guard. -/
theorem Dev.plainWrite_keeps {α : Type} (P : Dev → α) (hreg : ∀ (d : Dev) a w, P (d.setReg a w) = P d)
    (hraise : ∀ (d : Dev) src scope arg, src < 0x100 → P (d.raise src scope arg) = P d) (d : Dev) (m : Master) (a : Nat) (v : Word) :
    P (d.plainWrite m a v) = P d := by
  unfold Dev.plainWrite
  split
  · rfl
  · split
    · exact (hraise _ _ _ _ (by norm_num)).trans (hreg _ _ _)
    · exact hreg _ _ _

/-! ### Counting -/

theorem fourPoint_length (i : Nat) (l : List Int) : (fourPoint i l).2.length + 2 * (fourPoint i l).1.length = l.length := by
  fun_induction fourPoint i l with
  | case1 l => rfl
  | case2 k s4 s3 s2 s1 t inner rest ih =>
    simp only [rest, List.length_cons] at ih ⊢
    omega
  | case3 => rfl
  | case4 => rfl

theorem Dev.rf_setFld (d : Dev) (b : Nat) (f : Fld) (v r n : Nat) : (d.setFld b f v).rf r n = d.rf r n := rfl

theorem Dev.rf_setRf (d : Dev) (r n : Nat) (x : RfChan) : (d.setRf r n x).rf r n = x := Store.get_set_same _ _ _ _

/-- An uncorrectable word of a region's RAM or exchange memory is counted, noted and reported, nothing else. -/
theorem Dev.uncorrectable_region {α : Type} (P : Dev → α) (hreg : ∀ (d : Dev) a w, P (d.setReg a w) = P d)
    (hraise : ∀ (d : Dev) src scope arg, src < 0x100 → P (d.raise src scope arg) = P d) (d : Dev) {a r : Nat}
    (h : memKind a = some (.regionRam r) ∨ memKind a = some (.exchange r)) : P (d.uncorrectable a) = P d := by
  have hcase : d.uncorrectable a = ((d.bump (rgnReg r) F.RGN_MEMERR_ue).errAddr (rgnReg r + 0x74) a).raise Ev.MEM_UNCORR scopeChip a := by
    unfold Dev.uncorrectable
    rcases h with h | h <;> rw [h]
  rw [hcase, hraise _ _ _ _ (by norm_num)]
  exact Dev.bump_errAddr_keeps P hreg _ _ _ _ _

/-- The parts of the device that counting a cycle leaves: legs, units and the channels themselves. -/
def Dev.rfFrame (d : Dev) : Store Leg × Store UnitRec × Store RfChan := (d.legs, d.units, d.rfs)

theorem Dev.rfFrame_setReg (d : Dev) (a : Nat) (w : Word) : (d.setReg a w).rfFrame = d.rfFrame := rfl

theorem Dev.rfFrame_raise (d : Dev) (src scope arg : Nat) (hs : src < 0x100) : (d.raise src scope arg).rfFrame = d.rfFrame := by
  simp only [Dev.rfFrame, Dev.raise_legs _ _ _ _ hs, Dev.raise_units _ _ _ _ hs, Dev.raise_rfs _ _ _ _ hs]

theorem Dev.rfFrame_takeFree (d : Dev) : d.takeFree.2.rfFrame = d.rfFrame := rfl

theorem Dev.rfFrame_bumpWrap (d : Dev) (b : Nat) (f : Fld) : (d.bumpWrap b f).rfFrame = d.rfFrame := rfl

theorem Dev.rfFrame_latchFld (d : Dev) (b : Nat) (f : Fld) : (d.latchFld b f).rfFrame = d.rfFrame := rfl

/-- The histogram word of a cycle is added to, or is bad and reported. -/
theorem Dev.rfFrame_rfCount (d : Dev) (r n : Nat) (a c : Int) (halves : Nat) : (d.rfCount r n a c halves).rfFrame = d.rfFrame := by
  have hstore : ∀ (e : Dev) a v, (e.storeN a 4 v).rfFrame = e.rfFrame :=
    fun e a v => Dev.storeN_keeps Dev.rfFrame (fun _ _ => rfl) (fun _ _ => rfl) e a 4 v
  have hbad : ∀ (e : Dev) {a r : Nat}, memKind a = some (.regionRam r) ∨ memKind a = some (.exchange r) →
      (e.uncorrectable a).rfFrame = e.rfFrame := Dev.uncorrectable_region _ Dev.rfFrame_setReg Dev.rfFrame_raise
  have hfree : ∀ (p : Prop) [Decidable p], (if p then d.takeFree.2 else d).rfFrame = d.rfFrame := by
    intro p _
    split
    · exact d.rfFrame_takeFree
    · rfl
  unfold Dev.rfCount
  extract_lets range x wide step low i j word e
  have he : e.rfFrame = d.rfFrame := hfree _
  split
  · rfl
  · split
    case h_1 _ hk =>
      split
      · exact (hbad e (.inl hk)).trans he
      · exact (hstore e _ _).trans he
    case h_2 _ hk =>
      split
      · exact (hbad e (.inr hk)).trans he
      · exact (hstore e _ _).trans he
    case h_3 => exact he

theorem Dev.rfFrame_count (d : Dev) (r n : Nat) (l : List (Int × Int)) :
    (l.foldl (fun d c => (d.rfCount r n c.1 c.2 2).bumpWrap (rfBase r n) F.RF_STAT_cycles) d).rfFrame = d.rfFrame := by
  induction l generalizing d with
  | nil => rfl
  | cons c l ih => exact (ih _).trans ((Dev.rfFrame_bumpWrap _ _ _).trans (d.rfFrame_rfCount r n c.1 c.2 2))

/-- A turning point goes through the four-point rule, a full stack first giving up its oldest point (R422). -/
theorem Dev.rfPush_spec (d : Dev) (r n : Nat) (p : Int) :
    (d.rfPush r n p).legs = d.legs ∧ (d.rfPush r n p).units = d.units ∧ (d.rfPush r n p).rf r n = { d.rf r n with
      stack := (fourPoint 32 (p :: if 64 ≤ (d.rf r n).stack.length then (d.rf r n).stack.dropLast else (d.rf r n).stack)).2 } := by
  unfold Dev.rfPush
  extract_lets x full counted d1 f d2 y
  have hstack : f = fourPoint 32 (p :: if 64 ≤ x.stack.length then x.stack.dropLast else x.stack) := by
    simp only [f, full, decide_eq_true_eq]
  have hd1 : d1.rfFrame = d.rfFrame := by
    simp only [d1]
    split
    · exact (Dev.rfFrame_latchFld _ _ _).trans (d.rfFrame_rfCount _ _ _ _ _)
    · rfl
  have hd2 : d2.rfFrame = d.rfFrame := (d1.rfFrame_count r n f.1).trans hd1
  rw [← hstack]
  clear_value d2 f
  obtain ⟨hlegs, hunits, hrfs⟩ : d2.legs = d.legs ∧ d2.units = d.units ∧ d2.rfs = d.rfs := by
    simpa only [Dev.rfFrame, Prod.mk.injEq] using hd2
  have hy : y = x := congrArg (fun m => Store.get (fun _ => RfChan.initial) m (16 * r + n)) hrfs
  refine ⟨(Dev.setReg_legs _ _ _).trans hlegs, (Dev.setReg_units _ _ _).trans hunits, ?_⟩
  rw [hy, Dev.rf_setFld]
  exact Dev.rf_setRf _ _ _ _

/-! ### The sample -/

section
variable {r : RegionId} {n : Fin 16} {s : State}

/-- The word in data memory that a channel reads (R422). -/
def Dev.rfAddr (d : Dev) (r n : Nat) : Nat := blkBase (4 * r + d.fld (rfBase r n) F.RF_CH_blk) + 0x40000 + d.fld (rfBase r n) F.RF_CH_addr / 2 * 2

theorem Dev.loadN_congr {d e : Dev} (h : e.mem = d.mem) (a w : Nat) : e.loadN a w = d.loadN a w :=
  congrArg leNat (Dev.bytes_congr fun i _ => congrArg (fun m => Store.get unwrittenByte m (a + i)) h)

/-- The device once the channel has taken the port and owes nothing more. -/
def Dev.rfServed (d : Dev) (r n : Nat) : Dev := (d.usePort (d.rfPort r n)).setRf r n { d.rf r n with dueFrom := none }

theorem Dev.rfAddr_eq (d : Dev) (r n : Nat) :
    d.rfAddr r n = blkBase (4 * r + d.fld (rfBase r n) F.RF_CH_blk) + 0x40000 + d.fld (rfBase r n) F.RF_CH_addr / 2 * 2 := rfl

theorem Dev.rfServed_rf (d : Dev) (r n : Nat) : (d.rfServed r n).rf r n = { d.rf r n with dueFrom := none } := Dev.rf_setRf _ _ _ _

theorem Dev.rfServed_loadN (d : Dev) (r n a w : Nat) : (d.rfServed r n).loadN a w = d.loadN a w := Dev.loadN_congr (e := d.rfServed r n) (d := d) rfl a w

theorem Dev.rfServed_isBad (d : Dev) (r n a : Nat) : (d.rfServed r n).isBad a = d.isBad a := rfl

/-- The channel's read, once it is owed and its port is free. -/
theorem exec_rainflowSample (hdue : (s.dev.rf r n).dueFrom ≠ none) (hport : s.dev.portBusy (s.dev.rfPort r n) = false) :
    exec (.rainflowSample r n) s = .next ⟨
      if s.dev.flag (rfBase r n) F.RF_CH_en = false then s.dev.rfServed r n
      else if (s.dev.rfServed r n).isBad (s.dev.rfAddr r n) then (s.dev.rfServed r n).uncorrectable (s.dev.rfAddr r n)
      else (s.dev.rfServed r n).rfSample r n (signed 16 ((s.dev.rfServed r n).loadN (s.dev.rfAddr r n) 2)), s.pending⟩ := by
  obtain ⟨t, ht⟩ := Option.ne_none_iff_exists'.mp hdue
  change execRainflowSample r n s = _
  rw [execRainflowSample, ht, hport]
  rfl

theorem exec_rainflowSample_idle (h : (s.dev.rf r n).dueFrom = none ∨ s.dev.portBusy (s.dev.rfPort r n) = true) :
    exec (.rainflowSample r n) s = .next s := by
  change execRainflowSample r n s = _
  unfold execRainflowSample
  extract_lets d
  rcases h with h | h
  · rw [h]
    rfl
  · cases hdue : (s.dev.rf r n).dueFrom with
    | none => rfl
    | some t => exact congrArg s.done (if_pos h)

theorem exec_rainflowSample_on (hdue : (s.dev.rf r n).dueFrom ≠ none) (hport : s.dev.portBusy (s.dev.rfPort r n) = false)
    (hon : s.dev.flag (rfBase r n) F.RF_CH_en = true) (hbad : s.dev.isBad (s.dev.rfAddr r n) = false) :
    exec (.rainflowSample r n) s =
      .next ⟨(s.dev.rfServed r n).rfSample r n (signed 16 (s.dev.loadN (s.dev.rfAddr r n) 2)), s.pending⟩ := by
  rw [exec_rainflowSample hdue hport, if_neg (by simp [hon]), Dev.rfServed_isBad, if_neg (by simp [hbad]), Dev.rfServed_loadN]

end

section
variable {d : Dev} {r n : Nat} {v y : Int}

theorem Dev.rfSample_first (h : (d.rf r n).last = none) : d.rfSample r n v = d.setRf r n { d.rf r n with last := some v } := by
  rw [Dev.rfSample, h]

/-- A signal that goes on in its direction is the new extreme. -/
theorem Dev.rfSample_along (h : (d.rf r n).last = some y) (hv : if (d.rf r n).up then y ≤ v else v ≤ y) :
    d.rfSample r n v = d.setRf r n { d.rf r n with last := some v } := by
  rw [Dev.rfSample, h]
  refine if_pos ?_
  cases hup : (d.rf r n).up <;> simpa [hup] using hv

/-- A signal that turns back: nothing below the hysteresis, else the extreme is a turning point. -/
theorem Dev.rfSample_back (h : (d.rf r n).last = some y) (hv : ¬ if (d.rf r n).up then y ≤ v else v ≤ y) :
    d.rfSample r n v = if 16 * d.fld (rgnReg r) F.RF_CFG_hyst ≤ 10 * (v - y).natAbs then
      (d.setRf r n { d.rf r n with last := some v, up := !(d.rf r n).up }).rfPush r n y else d := by
  rw [Dev.rfSample, h]
  refine if_neg ?_
  cases hup : (d.rf r n).up <;> simpa [hup] using hv

end

/-! ### The registers -/

section
variable {d : Dev} {m : Master} {r : RegionId} {n : Fin 16} {v : Word}

theorem Dev.rfAnyOn_of_on (h : d.flag (rfBase r n) F.RF_CH_en = true) : d.rfAnyOn r = true :=
  List.any_eq_true.mpr ⟨n, List.mem_range.mpr n.isLt, h⟩

theorem Dev.writeRf_ch_on (h : d.flag (rfBase r n) F.RF_CH_en = true) :
    d.writeRf m r (.ch n) v = d.raise Ev.RF_CFG_REFUSED (scopeRgn r) 0 := if_pos h

theorem Dev.writeRf_ch_off (h : ¬ d.flag (rfBase r n) F.RF_CH_en = true) : d.writeRf m r (.ch n) v =
    if (d.plainWrite m (rfBase r n + 0x1E00) v).flag (rfBase r n) F.RF_CH_en then
      ((d.plainWrite m (rfBase r n + 0x1E00) v).setRf r n RfChan.initial).setFld (rfBase r n) F.RF_STAT_depth 0
    else d.plainWrite m (rfBase r n + 0x1E00) v := if_neg h

theorem Dev.writeRf_on (h : d.rfAnyOn r = true) : d.writeRf m r .cfg v = d.raise Ev.RF_CFG_REFUSED (scopeRgn r) 0 ∧
    d.writeRf m r .base v = d.raise Ev.RF_CFG_REFUSED (scopeRgn r) 0 := ⟨if_pos h, if_pos h⟩

theorem Dev.writeRf_off (h : d.rfAnyOn r = false) : d.writeRf m r .cfg v = d.plainWrite m (rgnReg r + 0x1F00) v ∧
    d.writeRf m r .base v = d.plainWrite m (rgnReg r + 0x1F04) v := ⟨if_neg (by simp [h]), if_neg (by simp [h])⟩

theorem exec_rfCfgWrite (reg : RfReg) (s : State) : exec (.rfCfgWrite m r reg v) s = .next ⟨s.dev.writeRf m r reg v, s.pending⟩ := rfl

/-- A channel that is enabled starts afresh (R423). -/
theorem Dev.startRf_spec (d : Dev) (r n : Nat) :
    ((d.setRf r n RfChan.initial).setFld (rfBase r n) F.RF_STAT_depth 0).mem = d.mem ∧
      ((d.setRf r n RfChan.initial).setFld (rfBase r n) F.RF_STAT_depth 0).legs = d.legs ∧
      ((d.setRf r n RfChan.initial).setFld (rfBase r n) F.RF_STAT_depth 0).reg (rfBase r n + 0x1E00) = d.reg (rfBase r n + 0x1E00) ∧
      ((d.setRf r n RfChan.initial).setFld (rfBase r n) F.RF_STAT_depth 0).rf r n = RfChan.initial ∧
      ((d.setRf r n RfChan.initial).setFld (rfBase r n) F.RF_STAT_depth 0).fld (rfBase r n) F.RF_STAT_depth = 0 := by
  refine ⟨Dev.setReg_mem _ _ _, Dev.setReg_legs _ _ _, ?_, (Dev.rf_setFld _ _ _ _ _ _).trans (Dev.rf_setRf _ _ _ _), ?_⟩
  · exact Dev.reg_setReg_ne _ _ (by simp)
  · rw [Dev.fld_setFld_same _ _ _ _ (by norm_num), Nat.zero_mod]

end

/-- Settles O37: each sample is one branch of `Dev.rfSample` on the device that has served the channel, and a register write one branch of
`Dev.writeRf`. -/
theorem rainflow : Obligations.Rainflow := by
  unfold Obligations.Rainflow
  intro m r n v s
  dsimp only
  rw [← Dev.rfAddr_eq]
  have hserved := s.dev.rfServed_rf r n
  have hlast : ((s.dev.rfServed r n).rf r n).last = (s.dev.rf r n).last := (congrArg RfChan.last hserved :)
  have hup : ((s.dev.rfServed r n).rf r n).up = (s.dev.rf r n).up := (congrArg RfChan.up hserved :)
  have hyst : (s.dev.rfServed r n).fld (rgnReg r) F.RF_CFG_hyst = s.dev.fld (rgnReg r) F.RF_CFG_hyst := rfl
  have kept : ∀ x : RfChan, let e := (s.dev.rfServed r n).setRf r n x
      e.legs = s.dev.legs ∧ e.units = s.dev.units ∧ e.mem = s.dev.mem ∧ e.regs = s.dev.regs ∧ e.rf r n = x :=
    fun x => ⟨rfl, rfl, rfl, rfl, Dev.rf_setRf _ _ _ _⟩
  refine ⟨?_, ?_, ?_, ?_, ?_, exec_rainflowSample_idle, fun l i => fourPoint_length i l, ?_, ?_, ?_⟩
  · intro ⟨⟨hdue, hport⟩, hon, hbad⟩ hnone
    rw [exec_rainflowSample_on hdue hport hon hbad, State.answers_next, Dev.rfSample_first (hlast.trans hnone), hserved]
    obtain ⟨hlegs, hunits, hmem, hregs, hrf⟩ := kept { s.dev.rf r n with dueFrom := none, last := some (signed 16 (s.dev.loadN (s.dev.rfAddr r n) 2)) }
    rw [hrf]
    exact ⟨⟨⟨hlegs, hunits, rfl⟩, hmem, hregs, rfl⟩, rfl⟩
  · intro y ⟨⟨hdue, hport⟩, hon, hbad⟩ hy halong
    rw [exec_rainflowSample_on hdue hport hon hbad, State.answers_next, Dev.rfSample_along (hlast.trans hy) (by rw [hup]; exact halong), hserved]
    obtain ⟨hlegs, hunits, hmem, hregs, hrf⟩ := kept { s.dev.rf r n with dueFrom := none, last := some (signed 16 (s.dev.loadN (s.dev.rfAddr r n) 2)) }
    rw [hrf]
    exact ⟨⟨⟨hlegs, hunits, rfl⟩, hmem, hregs, rfl⟩, rfl, rfl⟩
  · intro y ⟨⟨hdue, hport⟩, hon, hbad⟩ hy hback hsmall
    rw [exec_rainflowSample_on hdue hport hon hbad, State.answers_next, Dev.rfSample_back (hlast.trans hy) (by rw [hup]; exact hback), hyst,
      if_neg (Nat.not_le.mpr hsmall), hserved]
    exact ⟨⟨⟨rfl, rfl, rfl⟩, rfl, rfl, rfl⟩, hy, rfl⟩
  · intro y ⟨⟨hdue, hport⟩, hon, hbad⟩ hy hback hlarge
    rw [exec_rainflowSample_on hdue hport hon hbad, State.answers_next, Dev.rfSample_back (hlast.trans hy) (by rw [hup]; exact hback), hyst,
      if_pos hlarge, hserved]
    obtain ⟨hlegs, hunits, -, -, hrf⟩ := kept { s.dev.rf r n with
      dueFrom := none, last := some (signed 16 (s.dev.loadN (s.dev.rfAddr r n) 2)), up := !(s.dev.rf r n).up }
    obtain ⟨hplegs, hpunits, hprf⟩ := Dev.rfPush_spec ((s.dev.rfServed r n).setRf r n { s.dev.rf r n with
      dueFrom := none, last := some (signed 16 (s.dev.loadN (s.dev.rfAddr r n) 2)), up := !(s.dev.rf r n).up }) r n y
    rw [hrf] at hprf
    rw [hprf]
    exact ⟨⟨hplegs.trans hlegs, hpunits.trans hunits, rfl⟩, rfl, rfl, rfl⟩
  · intro ⟨hdue, hport⟩ hoff
    rw [exec_rainflowSample hdue hport, if_pos (by simpa using hoff)]
    rfl
  · intro hon
    obtain ⟨hcfg, hbase⟩ := Dev.writeRf_on (m := m) (v := v) (Dev.rfAnyOn_of_on hon)
    simp only [exec_rfCfgWrite, Dev.writeRf_ch_on hon, hcfg, hbase, and_self]
  · intro hoff
    have hmem : ∀ a, (s.dev.plainWrite m a v).mem = s.dev.mem :=
      fun a => Dev.plainWrite_keeps Dev.mem (fun _ _ _ => rfl) (fun d src scope arg hs => d.raise_mem src scope arg hs) _ _ _ _
    have hlegs : ∀ a, (s.dev.plainWrite m a v).legs = s.dev.legs :=
      fun a => Dev.plainWrite_keeps Dev.legs (fun _ _ _ => rfl) (fun d src scope arg hs => d.raise_legs src scope arg hs) _ _ _ _
    rw [exec_rfCfgWrite, State.answers_next, Dev.writeRf_ch_off hoff]
    specialize hmem (rfBase r n + 0x1E00)
    specialize hlegs (rfBase r n + 0x1E00)
    generalize s.dev.plainWrite m (rfBase r n + 0x1E00) v = e at *
    split
    next hnow =>
      obtain ⟨hsmem, hslegs, hsreg, hsrf, hsdepth⟩ := e.startRf_spec r n
      rw [hsrf]
      exact ⟨hsmem.trans hmem, hslegs.trans hlegs, hsreg, fun _ => ⟨rfl, hsdepth, rfl⟩⟩
    next hnow => exact ⟨hmem, hlegs, rfl, fun h => absurd h hnow⟩
  · intro hoff
    obtain ⟨hcfg, hbase⟩ := Dev.writeRf_off (m := m) (v := v) hoff
    rw [exec_rfCfgWrite, exec_rfCfgWrite, hcfg, hbase]
    exact ⟨rfl, rfl⟩

end Sys2Proof.Machine
end

section
/-! What orders, causes and faults leave of the legs, and the commits of a lane (R100 to R102, R168, R171). -/

namespace Sys2Proof.Machine

/-! ### A leg as it is kept -/

section
variable (d : Dev) (k : Nat) (l : Leg)

/-- A leg is kept as it was put but for its channels, its soft-off and its waiting turn-on. -/
theorem keptLeg_field {α : Type} (P : Leg → α)
    (hP : ∀ (l : Leg) h o s w, P { l with drvH := h, drvL := o, soft := s, want := w } = P l) : P (d.keptLeg k l) = P l := by
  have hi : P l.interlocked = P l := by
    unfold Leg.interlocked
    split
    · exact hP l false false l.soft none
    · rfl
  unfold Dev.keptLeg
  split
  · exact (hP l.interlocked false false false l.interlocked.want).trans hi
  · exact hi

theorem keptLeg_next : (d.keptLeg k l).next = l.next := keptLeg_field d k l Leg.next fun _ _ _ _ _ => rfl

theorem keptLeg_cur : (d.keptLeg k l).cur = l.cur := keptLeg_field d k l Leg.cur fun _ _ _ _ _ => rfl

/-- A powered leg that drives not both channels is kept as it was put. -/
theorem keptLeg_powered (hp : d.unpowered k = false) (hl : (l.drvH && l.drvL) = false) : d.keptLeg k l = l := by
  simp [Dev.keptLeg, Leg.interlocked, hp, hl]

variable {l}

theorem keptLeg_drvH (h : l.drvH = false) : (d.keptLeg k l).drvH = false := by
  simp only [Dev.keptLeg, Leg.interlocked]; split <;> split <;> simp [h]

theorem keptLeg_drvL (h : l.drvL = false) : (d.keptLeg k l).drvL = false := by
  simp only [Dev.keptLeg, Leg.interlocked]; split <;> split <;> simp [h]

end

/-! ### Causes and faults -/

section
variable {α : Type} (P : Dev → α)

/-- A cause is latched in its register, with a time stamp. -/
theorem Dev.latchCause_keepsAt {c : CauseReg} (hat : ∀ (d : Dev) w, P (d.setReg c.at_ w) = P d)
    (hts : ∀ o, c.ts = some o → ∀ (d : Dev) w, P (d.setReg (c.at_ + o) w) = P d ∧ P (d.setReg (c.at_ + o + 4) w) = P d)
    (hnote : ∀ (d : Dev) a v, P (d.noteSet a v) = P d) (hcause : ∀ (d : Dev) x, P { d with causeAt := x } = P d) (d : Dev) (i : Nat) :
    P (d.latchCause c i) = P d := by
  have hstamp : ∀ o, c.ts = some o → ∀ e : Dev, P (e.stamp (c.at_ + o)) = P e :=
    fun o ho e => (hts o ho _ _).2.trans (hts o ho _ _).1
  unfold Dev.latchCause
  extract_lets v v1 e e1 e2
  have he1 : P e1 = P d := (hat _ _).trans (hnote _ _ _)
  split
  · refine (hcause e2 _).trans ?_
    cases ho : c.ts with
    | none => simpa only [e2, ho] using he1
    | some o => simpa only [e2, ho] using (hstamp o ho e1).trans he1
  · split
    · exact (hat _ _).trans (hnote _ _ _)
    · exact (hat _ _).trans (hnote _ _ _)

theorem Dev.latchCause_keeps (hreg : ∀ (d : Dev) a w, P (d.setReg a w) = P d) (hnote : ∀ (d : Dev) a v, P (d.noteSet a v) = P d)
    (hcause : ∀ (d : Dev) x, P { d with causeAt := x } = P d) (d : Dev) (c : CauseReg) (i : Nat) : P (d.latchCause c i) = P d :=
  Dev.latchCause_keepsAt P (fun d w => hreg d _ w) (fun _ _ d w => ⟨hreg d _ w, hreg d _ w⟩) hnote hcause d i

theorem Dev.latchLeg_keeps (hreg : ∀ (d : Dev) a w, P (d.setReg a w) = P d) (hnote : ∀ (d : Dev) a v, P (d.noteSet a v) = P d)
    (hcause : ∀ (d : Dev) x, P { d with causeAt := x } = P d) (d : Dev) (k cause : Nat) : P (d.latchLeg k cause) = P d := by
  have hlatch := Dev.latchCause_keeps P hreg hnote hcause d (legCause k) cause
  unfold Dev.latchLeg
  extract_lets l unlatched e
  split
  · exact (hreg _ _ _).trans ((hreg _ _ _).trans hlatch)
  · exact hlatch

theorem Dev.checkUnit_keeps (hunit : ∀ (d : Dev) u x, P (d.setUnit u x) = P d) (d : Dev) (u : Nat) : P (d.checkUnit u) = P d := by
  unfold Dev.checkUnit
  extract_lets x legs live
  have hguarded : ∀ (c : Prop) [Decidable c] (y : UnitRec), P (if c then d.setUnit u y else d) = P d := by
    intro c _ y
    split
    · exact hunit d u y
    · rfl
  split
  · exact hguarded _ _
  · split
    · rfl
    split
    · exact hunit d u _
    · exact hguarded _ _
  · exact hguarded _ _
  · exact hguarded _ _
  · exact hguarded _ _
  · rfl

theorem Dev.checkOwner_keeps (hunit : ∀ (d : Dev) u x, P (d.setUnit u x) = P d) (d : Dev) (k : Nat) : P (d.checkOwner k) = P d := by
  unfold Dev.checkOwner
  split
  · exact Dev.checkUnit_keeps P hunit _ _
  · rfl

end

section
variable (d : Dev) (k cause : Nat)

theorem Dev.latchLeg_legs : (d.latchLeg k cause).legs = d.legs :=
  Dev.latchLeg_keeps Dev.legs (fun _ _ _ => rfl) (fun _ _ _ => rfl) (fun _ _ => rfl) d k cause

/-- A leg as it enters FAULT: channels off, no command, its counter started if it was in OFF (R168). -/
def Dev.faultLeg : Leg :=
  { ((d.startCounter k (d.leg k)).allOff d.stepNow).enter .fault with soft := false, tripAt := some d.now }

theorem Dev.faultLeg_spec : (d.faultLeg k).st = .fault ∧ (d.faultLeg k).drvH = false ∧ (d.faultLeg k).drvL = false ∧
    (d.faultLeg k).next = none ∧ (d.faultLeg k).cur = 0 :=
  ⟨rfl, Leg.allOff_drvH _ _, Leg.allOff_drvL _ _, rfl, rfl⟩

/-- Of the legs, a fault changes the one that enters FAULT. -/
theorem Dev.enterFault_legs : (d.enterFault k cause).legs = (d.setLeg k (d.faultLeg k)).legs := by
  unfold Dev.enterFault
  extract_lets l entered d1 d2 d3
  have h2 : d2.legs = d1.legs := (Dev.raise_legs _ _ _ _ (by norm_num)).trans
    (Dev.setCond_keeps Dev.legs (fun _ _ _ _ => rfl) (fun _ _ _ => rfl) (fun _ _ _ _ _ => rfl) _ _ _)
  have h3 : d3.legs = d2.legs := Dev.noteCapture_keeps Dev.legs (fun _ _ _ => rfl) _ _ _
  have h1 : d1 = d.setLeg k (d.faultLeg k) := rfl
  clear_value d1 d2 d3
  rw [← h1]
  exact (Dev.checkOwner_keeps Dev.legs (fun _ _ _ => rfl) _ _).trans (h3.trans h2)

theorem Dev.leg_of_legs {d e : Dev} (h : e.legs = d.legs) (j : Nat) : e.leg j = d.leg j := congrArg (fun m => Store.get (fun _ => Leg.initial) m j) h

theorem Dev.enterFault_other {j : Nat} (h : j ≠ k) : (d.enterFault k cause).leg j = d.leg j :=
  (Dev.leg_of_legs (d.enterFault_legs k cause) j).trans (Dev.leg_setLeg_ne _ _ h)

theorem Dev.enterFault_same : (d.enterFault k cause).leg k = d.keptLeg k (d.faultLeg k) :=
  (Dev.leg_of_legs (d.enterFault_legs k cause) k).trans (Dev.leg_setLeg_same _ _ _)

end

/-! ### Counters and events -/

/-- A counter and an event change registers and what the router keeps. -/
theorem Dev.bump_raise_keeps {α : Type} (P : Dev → α) (hreg : ∀ (d : Dev) a w, P (d.setReg a w) = P d)
    (hraise : ∀ (d : Dev) src scope arg, src < 0x100 → P (d.raise src scope arg) = P d) (d : Dev) (a : Nat) (f : Fld) {src : Nat}
    (hs : src < 0x100) (scope arg : Nat) : P ((d.bump a f).raise src scope arg) = P d := (hraise _ _ _ _ hs).trans (hreg _ _ _)

section
variable (d : Dev) (a : Nat) (f : Fld) {src : Nat} (hs : src < 0x100) (scope arg : Nat)
include hs

theorem Dev.bump_raise_legs : ((d.bump a f).raise src scope arg).legs = d.legs :=
  Dev.bump_raise_keeps Dev.legs (fun _ _ _ => rfl) (fun d s c a h => d.raise_legs s c a h) d a f hs scope arg

theorem Dev.bump_raise_units : ((d.bump a f).raise src scope arg).units = d.units :=
  Dev.bump_raise_keeps Dev.units (fun _ _ _ => rfl) (fun d s c a h => d.raise_units s c a h) d a f hs scope arg

theorem Dev.bump_raise_mem : ((d.bump a f).raise src scope arg).mem = d.mem :=
  Dev.bump_raise_keeps Dev.mem (fun _ _ _ => rfl) (fun d s c a h => d.raise_mem s c a h) d a f hs scope arg

end

/-! ### Commits -/

/-- A leg with its present command's four control bits at 0 and both channels off (R171). -/
def Dev.crossLeg (d : Dev) (k : Nat) : Leg :=
  { (d.leg k).allOff d.stepNow with
    cur := BitVec.ofNat 128 (withBits (d.leg k).cur.toNat 96 4 0), next := none,
    crossAt := d.now :: (d.leg k).crossAt.filter (fun t => decide (d.now < t + cyclesPerMs)) }

theorem cleared_controls (c : QWord) : cmdHs (BitVec.ofNat 128 (withBits c.toNat 96 4 0)) = 0 ∧
    cmdLs (BitVec.ofNat 128 (withBits c.toNat 96 4 0)) = 0 := by
  have hc := c.isLt
  simp only [cmdHs, cmdLs, bitsOf, withBits, BitVec.toNat_ofNat]
  norm_num at hc ⊢
  constructor <;> omega

/-- What a leg shows once both channels are off and it holds no command that turns one on. -/
structure Leg.Quiet (l : Leg) : Prop where
  drvH : l.drvH = false
  drvL : l.drvL = false
  next : l.next = none
  hs : cmdHs l.cur = 0
  ls : cmdLs l.cur = 0

theorem keptLeg_quiet (d : Dev) (k : Nat) {l : Leg} (h : l.Quiet) : (d.keptLeg k l).Quiet := by
  refine ⟨keptLeg_drvH d k h.drvH, keptLeg_drvL d k h.drvL, ?_, ?_, ?_⟩
  · rw [keptLeg_next, h.next]
  · rw [keptLeg_cur, h.hs]
  · rw [keptLeg_cur, h.ls]

theorem Dev.crossLeg_quiet (d : Dev) (k : Nat) : (d.crossLeg k).Quiet := by
  obtain ⟨hhs, hls⟩ := cleared_controls (d.leg k).cur
  exact ⟨Leg.allOff_drvH _ _, Leg.allOff_drvL _ _, rfl, hhs, hls⟩

theorem Dev.faultLeg_quiet (d : Dev) (k : Nat) : (d.faultLeg k).Quiet := by
  obtain ⟨-, hH, hL, hnext, hcur⟩ := d.faultLeg_spec k
  exact ⟨hH, hL, hnext, by rw [hcur]; rfl, by rw [hcur]; rfl⟩

/-- A command for both channels turns both off and leaves the other legs, the third within 1 ms by a fault (R171, R173). -/
theorem Dev.crossCommand_spec (d : Dev) (k : Nat) : ((d.crossCommand k).leg k).Quiet ∧ (d.crossCommand k).mem = d.mem ∧
    ∀ j, j ≠ k → (d.crossCommand k).leg j = d.leg j := by
  unfold Dev.crossCommand
  extract_lets l recent off d1 d2 d3
  have hd1 : d1 = d.setLeg k (d.crossLeg k) := rfl
  clear_value d1
  subst hd1
  have hlegs : d2.legs = (d.setLeg k (d.crossLeg k)).legs := Dev.bump_raise_legs _ _ _ (by norm_num) _ _
  have hmem : d2.mem = d.mem := (Dev.bump_raise_mem _ _ _ (by norm_num) _ _).trans rfl
  clear_value d2
  split
  · have h3 : d3.legs = d2.legs := d2.latchLeg_legs k causeXcmd
    have hkeeps : FaultKeeps d2 (d3.enterFault k causeXcmd) := ((FaultKeeps.refl d2).latchLeg k causeXcmd).enterFault k causeXcmd
    refine ⟨?_, hkeeps.mem.trans hmem, fun j hj => ?_⟩
    · rw [Dev.enterFault_same]
      exact keptLeg_quiet _ _ (d3.faultLeg_quiet k)
    · rw [Dev.enterFault_other _ _ _ hj, Dev.leg_of_legs (h3.trans hlegs), Dev.leg_setLeg_ne _ _ hj]
  · refine ⟨?_, hmem, fun j hj => ?_⟩
    · rw [Dev.leg_of_legs hlegs, Dev.leg_setLeg_same]
      exact keptLeg_quiet _ _ (d.crossLeg_quiet k)
    · rw [Dev.leg_of_legs hlegs, Dev.leg_setLeg_ne _ _ hj]

section
variable (d : Dev) (b : BlockId) (k : Nat) {cmd : QWord}

theorem Dev.acceptCommit_cross (h : isCross cmd = true) : d.acceptCommit b k cmd =
    (d.setLeg k { d.leg k with commitAt := d.now + 1, commitBy := b }).crossCommand k := if_pos h

/-- A leg with a commit as its next command (R100). -/
def Dev.commitTo (cmd : QWord) : Dev := d.setLeg k { d.leg k with next := some ⟨cmd, false, b⟩, commitAt := d.now + 1, commitBy := b }

/-- A command that asks for one channel at most is the leg's next one, unsealed; over a sealed one it also raises LEG_OVERRUN. -/
theorem Dev.acceptCommit_slot (h : isCross cmd = false) :
    d.acceptCommit b k cmd = d.commitTo b k cmd ∨ (∃ x, (d.leg k).next = some x ∧ x.isSealed = true) ∧ d.acceptCommit b k cmd =
      ((d.commitTo b k cmd).bump (legReg k) F.LEG_CNT_B_ovr).raise Ev.LEG_OVERRUN (scopeBlk (k / 8)) 0 := by
  have hslot : d.acceptCommit b k cmd = if (match (d.leg k).next with | some x => x.isSealed | none => false) then
      ((d.commitTo b k cmd).bump (legReg k) F.LEG_CNT_B_ovr).raise Ev.LEG_OVERRUN (scopeBlk (k / 8)) 0 else d.commitTo b k cmd :=
    if_neg (by simp [h])
  rw [hslot]
  cases hnext : (d.leg k).next with
  | none => exact .inl rfl
  | some x =>
    cases hx : x.isSealed with
    | false => exact .inl (if_neg (by simp [hx]))
    | true => exact .inr ⟨⟨x, rfl, hx⟩, if_pos hx⟩

theorem Dev.commitTo_same : (d.commitTo b k cmd).leg k =
    d.keptLeg k { d.leg k with next := some ⟨cmd, false, b⟩, commitAt := d.now + 1, commitBy := b } := Dev.leg_setLeg_same _ _ _

theorem Dev.commitTo_other {j : Nat} (h : j ≠ k) : (d.commitTo b k cmd).leg j = d.leg j := Dev.leg_setLeg_ne _ _ h

theorem Dev.acceptCommit_frame (h : isCross cmd = false) : (d.acceptCommit b k cmd).legs = (d.commitTo b k cmd).legs ∧
    (d.acceptCommit b k cmd).mem = d.mem ∧ (d.acceptCommit b k cmd).units = d.units := by
  rcases d.acceptCommit_slot b k h with hslot | ⟨-, hslot⟩ <;> rw [hslot]
  · exact ⟨rfl, rfl, rfl⟩
  · exact ⟨Dev.bump_raise_legs _ _ _ (by norm_num) _ _, Dev.bump_raise_mem _ _ _ (by norm_num) _ _,
      Dev.bump_raise_units _ _ _ (by norm_num) _ _⟩

/-- A commit that is accepted changes its leg's next command alone. -/
theorem Dev.acceptCommit_spec (h : isCross cmd = false) :
    ((d.acceptCommit b k cmd).leg k).next = some ⟨cmd, false, b⟩ ∧ ((d.acceptCommit b k cmd).leg k).st = (d.leg k).st ∧
      ((d.acceptCommit b k cmd).leg k).cur = (d.leg k).cur ∧ ∀ j, j ≠ k → (d.acceptCommit b k cmd).leg j = d.leg j := by
  obtain ⟨hlegs, -, -⟩ := d.acceptCommit_frame b k h
  simp only [Dev.leg_of_legs hlegs, Dev.commitTo_same, keptLeg_next, keptLeg_st, keptLeg_cur]
  exact ⟨trivial, trivial, trivial, fun j hj => d.commitTo_other b k hj⟩

theorem Dev.acceptCommit_unsealed (h : isCross cmd = false) (hnext : ∀ x, (d.leg k).next = some x → x.isSealed = false) :
    d.acceptCommit b k cmd = d.commitTo b k cmd := by
  rcases d.acceptCommit_slot b k h with hslot | ⟨⟨x, hx, hsealed⟩, -⟩
  · exact hslot
  · exact absurd (hnext x hx) (by simp [hsealed])

end

section
variable {d : Dev} {b : BlockId} {k : Nat} {cmd : QWord} {u : Nat}

theorem Dev.commitLeg_unowned (h : d.owner k = none) : d.commitLeg b k cmd = d := by
  rw [Dev.commitLeg, h]

theorem Dev.commitLeg_outside (h : d.owner k = some u) (hb : b.val ∉ d.laneSet u) :
    d.commitLeg b k cmd = (d.bump (legReg k) F.LEG_CNT_B_nonowner).raise Ev.COMMIT_NOT_OWNER (scopeBlk b) (pack [(k, 7)]) := by
  rw [Dev.commitLeg, h]
  exact if_pos (by simp [hb])

/-- The commit of a lane of the owner's set (R18, R101, R102). -/
theorem Dev.commitLeg_owner (h : d.owner k = some u) (hb : b.val ∈ d.laneSet u) :
    d.commitLeg b k cmd = if (d.unit u).active = false ∨ (d.leg k).tripAt = some d.now then d
      else if (d.leg k).commitAt = d.now + 1 ∧ (d.leg k).commitBy ≠ b then
        (if b < (d.leg k).commitBy then (d.raise Ev.COMMIT_COLLISION (scopeBlk (k / 8))
            (pack [(min b.val (d.leg k).commitBy.val, 4), (max b.val (d.leg k).commitBy.val, 4)])).acceptCommit b k cmd
          else d.raise Ev.COMMIT_COLLISION (scopeBlk (k / 8))
            (pack [(min b.val (d.leg k).commitBy.val, 4), (max b.val (d.leg k).commitBy.val, 4)]))
      else d.acceptCommit b k cmd := by
  rw [Dev.commitLeg, h]
  refine (if_neg (by simp [hb])).trans ?_
  cases hact : (d.unit u).active with
  | false => exact (if_pos rfl).trans (if_pos (.inl rfl)).symm
  | true =>
    refine (if_neg (by simp)).trans ?_
    by_cases htrip : (d.leg k).tripAt = some d.now
    · exact (if_pos htrip).trans (if_pos (.inr htrip)).symm
    · exact (if_neg htrip).trans (if_neg (by simpa using htrip)).symm

/-- The first commit to a leg in a cycle is accepted or its cross-command answered. -/
theorem Dev.commitLeg_first (h : d.owner k = some u) (hb : b.val ∈ d.laneSet u) (hact : (d.unit u).active = true)
    (htrip : (d.leg k).tripAt ≠ some d.now) (hat : (d.leg k).commitAt ≠ d.now + 1) : d.commitLeg b k cmd = d.acceptCommit b k cmd := by
  rw [Dev.commitLeg_owner h hb, if_neg (by simp [hact, htrip]), if_neg (fun hc => hat hc.1)]

/-- Of two lanes' commits in a cycle that of the lower block stays (R102). -/
theorem Dev.commitLeg_second (h : d.owner k = some u) (hb : b.val ∈ d.laneSet u) (hact : (d.unit u).active = true)
    (htrip : (d.leg k).tripAt ≠ some d.now) (hat : (d.leg k).commitAt = d.now + 1) (hby : (d.leg k).commitBy ≠ b)
    (hcross : isCross cmd = false) :
    ((d.commitLeg b k cmd).leg k).next = (if b < (d.leg k).commitBy then some ⟨cmd, false, b⟩ else (d.leg k).next) ∧
      (d.commitLeg b k cmd).mem = d.mem ∧ (d.commitLeg b k cmd).units = d.units ∧
      ∀ j, j ≠ k → (d.commitLeg b k cmd).leg j = d.leg j := by
  rw [Dev.commitLeg_owner h hb, if_neg (by simp [hact, htrip]), if_pos ⟨hat, hby⟩]
  have hs : Ev.COMMIT_COLLISION < 0x100 := by norm_num
  generalize pack [(min b.val (d.leg k).commitBy.val, 4), (max b.val (d.leg k).commitBy.val, 4)] = arg
  have hleg := fun j => d.raise_leg Ev.COMMIT_COLLISION (scopeBlk (k / 8)) arg j hs
  have hmem := d.raise_mem Ev.COMMIT_COLLISION (scopeBlk (k / 8)) arg hs
  have hunits := d.raise_units Ev.COMMIT_COLLISION (scopeBlk (k / 8)) arg hs
  generalize d.raise Ev.COMMIT_COLLISION (scopeBlk (k / 8)) arg = e at *
  by_cases hlt : b < (d.leg k).commitBy
  · obtain ⟨-, hfmem, hfunits⟩ := e.acceptCommit_frame b k hcross
    obtain ⟨hnext, -, -, hother⟩ := e.acceptCommit_spec b k hcross
    rw [if_pos hlt, if_pos hlt]
    exact ⟨hnext, hfmem.trans hmem, hfunits.trans hunits, fun j hj => (hother j hj).trans (hleg j)⟩
  · rw [if_neg hlt, if_neg hlt]
    exact ⟨congrArg Leg.next (hleg k), hmem, hunits, fun j _ => hleg j⟩

end

section
variable {ln : BlockId} {gd : GReg} {leg : Fin 32} {s : State}

theorem exec_commit (h : s.running ln) : exec (.commit ln gd leg) s =
    .next ⟨if (s.dev.lane ln).phase = .commit ∨ (s.dev.lane ln).phase = .closed then
        s.dev.commitLeg ln (32 * (ln.val / 4) + leg.val) ((s.dev.lane ln).quad gd)
      else s.dev.hold ln (.commit leg ((s.dev.lane ln).quad gd)), s.pending⟩ :=
  congrArg (fun d => Host.Outcome.next (State.mk d s.pending)) (Dev.onRun_of_run h _)

theorem exec_commit_now (h : s.running ln) (hph : (s.dev.lane ln).phase = .commit ∨ (s.dev.lane ln).phase = .closed) :
    exec (.commit ln gd leg) s =
      .next ⟨s.dev.commitLeg ln (32 * (ln.val / 4) + leg.val) ((s.dev.lane ln).quad gd), s.pending⟩ := by
  rw [exec_commit h, if_pos hph]

theorem exec_commit_early (h : s.running ln) (hph : ¬ ((s.dev.lane ln).phase = .commit ∨ (s.dev.lane ln).phase = .closed)) :
    exec (.commit ln gd leg) s = .next ⟨s.dev.setLane ln
      { s.dev.lane ln with mode := .wait, held := some (.commit leg ((s.dev.lane ln).quad gd)) }, s.pending⟩ := by
  rw [exec_commit h, if_neg hph, Dev.hold]

end

/-- Settles O11: the branches of `Dev.commitLeg`, with a cross-command answered by `Dev.crossCommand_spec`. -/
theorem laneCommit : Obligations.LaneCommit := by
  unfold Obligations.LaneCommit
  intro ln gd leg s hrun
  dsimp only
  have hnow := exec_commit_now (gd := gd) (leg := leg) hrun
  have hhold := exec_commit_early (gd := gd) (leg := leg) hrun
  generalize (s.dev.lane ln).quad gd = cmd at *
  generalize 32 * (ln.val / 4) + leg.val = k at *
  refine ⟨?_, ?_, ?_, ?_, ?_, ?_⟩
  · exact hhold
  · intro hph hown
    rw [hnow hph, Dev.commitLeg_unowned hown]
  · intro u hph hown hout
    rw [hnow hph, State.answers_next, Dev.commitLeg_outside hown hout]
    exact ⟨Dev.bump_raise_legs _ _ _ (by norm_num) _ _, Dev.bump_raise_mem _ _ _ (by norm_num) _ _,
      Dev.bump_raise_units _ _ _ (by norm_num) _ _⟩
  · intro u hph hown hin hdrop
    rw [hnow hph, Dev.commitLeg_owner hown hin, if_pos hdrop]
  · intro u hph hown hin hact htrip
    refine ⟨fun hat hcross => ?_, fun hat hby hcross => ?_⟩
    · rw [hnow hph, State.answers_next, Dev.commitLeg_first hown hin hact htrip hat, Dev.acceptCommit_cross _ _ _ hcross]
      obtain ⟨hquiet, hmem, hother⟩ := (s.dev.setLeg k { s.dev.leg k with commitAt := s.dev.now + 1, commitBy := ln }).crossCommand_spec k
      exact ⟨hquiet.drvH, hquiet.drvL, hquiet.next, hquiet.hs, hquiet.ls, hmem, fun j hj => (hother j hj).trans (Dev.leg_setLeg_ne _ _ hj)⟩
    · rw [hnow hph, State.answers_next]
      exact Dev.commitLeg_second hown hin hact htrip hat hby hcross
  · intro u hph hown hin hact hcross htrip hat
    rw [hnow hph, State.answers_next, Dev.commitLeg_first hown hin hact htrip hat]
    obtain ⟨-, hmem, hunits⟩ := s.dev.acceptCommit_frame ln k hcross
    obtain ⟨hnext, hst, hcur, hother⟩ := s.dev.acceptCommit_spec ln k hcross
    exact ⟨hnext, hst, hcur, hother, hmem, hunits, s.dev.acceptCommit_unsealed ln k hcross⟩

end Sys2Proof.Machine
end

section
/-! The causes that send a leg to FAULT: comparators, the FLT input, interlocks and handshakes (R166 to R168, R177, R206 to R209). -/

namespace Sys2Proof.Machine

/-! ### What an observed voltage leaves -/

/-- A device without what the window comparators make of a voltage. -/
def Dev.unseen (d : Dev) : Dev := { d with raws := [], rawAt := [], ov3At := 0, free := 0 }

theorem Dev.threshold_unseen (d : Dev) (r n : Nat) : (d.threshold r n).2.unseen = d.unseen := by
  unfold Dev.threshold
  split <;> rfl

theorem Dev.winOut_unseen (d : Dev) (r n : Nat) : (d.winOut r n).2.unseen = d.unseen := by
  unfold Dev.winOut
  split
  · exact d.threshold_unseen _ _
  · rfl

theorem Dev.formRaw_unseen (d : Dev) (r n : Nat) : (d.formRaw r n).unseen = d.unseen := by
  unfold Dev.formRaw
  extract_lets x was out since d1
  have hd1 : d1.unseen = d.unseen := (d.winOut_unseen r n :)
  split
  · exact hd1
  · exact hd1

theorem Dev.each_keeps_of_mem {α : Type} (P : Dev → α) (f : Nat → Dev → Dev) (l : List Nat) (hf : ∀ k ∈ l, ∀ d, P (f k d) = P d) (d : Dev) :
    P (d.each l f) = P d := by
  unfold Dev.each
  induction l generalizing d with
  | nil => rfl
  | cons k l ih =>
    exact (ih (fun j hj => hf j (List.mem_cons_of_mem _ hj)) (f k d)).trans (hf k List.mem_cons_self d)

theorem Dev.each_keeps {α : Type} (P : Dev → α) (f : Nat → Dev → Dev) (hf : ∀ k d, P (f k d) = P d) (l : List Nat) (d : Dev) :
    P (d.each l f) = P d := Dev.each_keeps_of_mem P f l (fun k _ => hf k) d

/-- A device whose pin has shown a voltage. -/
def Dev.pinned (d : Dev) (i : Nat) : Option Nat → Dev
  | none => d
  | some v => { d with pins := Store.set (fun _ => none) d.pins i (some v) }

theorem Dev.seePin_unseen (d : Dev) (r i : Nat) (uv : Option Nat) : (d.seePin r i uv).unseen = (d.pinned (96 * r + i) uv).unseen := by
  cases uv with
  | none => rfl
  | some v => exact Dev.each_keeps Dev.unseen _ (fun n d => d.formRaw_unseen r n) _ _

/-- What the comparators of a leg work on once its voltage is seen. -/
structure Seen (d : Dev) (k : Nat) (uv : Option Nat) (e : Dev) : Prop where
  legs : e.legs = d.legs
  mem : e.mem = d.mem
  now : e.now = d.now
  regs : e.regs = d.regs
  units : e.units = d.units
  dacAt : e.dacAt = d.dacAt
  rails : e.lowRails = d.lowRails
  pin : e.pin (k / 32) (64 + k % 32) = if uv.isSome then uv else d.pin (k / 32) (64 + k % 32)

theorem Dev.seeIsns_seen (d : Dev) (k : Nat) (uv : Option Nat) : Seen d k uv (d.seeIsns k uv) := by
  have h : (d.seeIsns k uv).unseen = (d.pinned (96 * (k / 32) + (64 + k % 32)) uv).unseen := d.seePin_unseen _ _ uv
  have hpins : (d.seeIsns k uv).pins = (d.pinned (96 * (k / 32) + (64 + k % 32)) uv).pins := (congrArg Dev.pins h :)
  refine ⟨(congrArg Dev.legs h :).trans ?_, (congrArg Dev.mem h :).trans ?_, (congrArg Dev.now h :).trans ?_,
    (congrArg Dev.regs h :).trans ?_, (congrArg Dev.units h :).trans ?_, (congrArg Dev.dacAt h :).trans ?_,
    (congrArg Dev.lowRails h :).trans ?_, ?_⟩
  all_goals cases uv
  case refine_8.none => rfl
  case refine_8.some v =>
    rw [Dev.pin, hpins]
    exact Store.get_set_same (fun _ => (none : Option Nat)) d.pins (96 * (k / 32) + (64 + k % 32)) (some v)
  all_goals rfl

/-! ### The comparators on settled thresholds -/

theorem Dev.threshold_settled {d : Dev} {r n : Nat} (h : d.dacSettling r n = false) : d.threshold r n = (3000 * d.dacCode r n d.now, d) :=
  if_neg (by simp [h])

theorem Dev.dacCode_trip (d : Dev) (k t : Nat) : d.dacCode (k / 32) (k % 32) t = d.tripCode k t := by
  rw [Dev.dacCode, if_pos (Nat.mod_lt _ (by norm_num)), Nat.div_add_mod]

theorem Dev.dacCode_hard (d : Dev) (k t : Nat) : d.dacCode (k / 32) (32 + k % 32) t = d.fld (legReg k) F.LEG_HDAC_code := by
  have hlt : k % 32 < 32 := Nat.mod_lt _ (by norm_num)
  rw [Dev.dacCode, if_neg (by omega), if_pos (by omega), Nat.add_sub_cancel_left, Nat.div_add_mod]

/-- The comparator levels of a leg for the voltage last told of its input. -/
def Dev.hardLevel (d : Dev) (k : Nat) : Bool :=
  compares (d.flag (legReg k) F.LEG_CMP_h_pol) (d.pin (k / 32) (64 + k % 32)) (3000 * d.fld (legReg k) F.LEG_HDAC_code)
def Dev.tripLevel (d : Dev) (k : Nat) : Bool :=
  compares (d.flag (legReg k) F.LEG_CMP_t_pol) (d.pin (k / 32) (64 + k % 32)) (3000 * d.tripCode k d.now)

theorem Dev.hardOut_settled {d : Dev} {k : Nat} (h : d.dacSettling (k / 32) (32 + k % 32) = false) : d.hardOut k = (d.hardLevel k, d) := by
  rw [Dev.hardOut, Dev.threshold_settled h, Dev.dacCode_hard]
  rfl

theorem Dev.tripOut_settled {d : Dev} {k : Nat} (h : d.dacSettling (k / 32) (k % 32) = false) : d.tripOut k = (d.tripLevel k, d) := by
  rw [Dev.tripOut, Dev.threshold_settled h, Dev.dacCode_trip]
  rfl

theorem Dev.tripOut_unseen (d : Dev) (k : Nat) : (d.tripOut k).2.unseen = d.unseen := d.threshold_unseen _ _

theorem Dev.bump_legs (d : Dev) (b : Nat) (f : Fld) : (d.bump b f).legs = d.legs := rfl
theorem Dev.bump_mem (d : Dev) (b : Nat) (f : Fld) : (d.bump b f).mem = d.mem := rfl
theorem Dev.bump_now (d : Dev) (b : Nat) (f : Fld) : (d.bump b f).now = d.now := rfl
theorem Dev.bump_leg (d : Dev) (b : Nat) (f : Fld) (k : Nat) : (d.bump b f).leg k = d.leg k := rfl

/-! ### A leg that is down stays down -/

/-- Both channels of a leg are off and its state is `x`, on a device with the memory and time of `d`. -/
structure LegDown (d : Dev) (k : Nat) (x : LegSt) (e : Dev) : Prop where
  drvH : (e.leg k).drvH = false
  drvL : (e.leg k).drvL = false
  st : (e.leg k).st = x
  mem : e.mem = d.mem
  now : e.now = d.now

section
variable {d e f : Dev} {k : Nat} {x : LegSt}

theorem LegDown.of_same (h : LegDown d k x e) (hlegs : f.legs = e.legs) (hmem : f.mem = e.mem) (hnow : f.now = e.now) : LegDown d k x f := by
  have hleg := Dev.leg_of_legs hlegs k
  exact ⟨hleg ▸ h.drvH, hleg ▸ h.drvL, hleg ▸ h.st, hmem.trans h.mem, hnow.trans h.now⟩

theorem LegDown.setLeg (hmem : e.mem = d.mem) (hnow : e.now = d.now) {l : Leg} (hH : l.drvH = false) (hL : l.drvL = false) (hst : l.st = x) :
    LegDown d k x (e.setLeg k l) := by
  have hleg : (e.setLeg k l).leg k = e.keptLeg k l := Dev.leg_setLeg_same _ _ _
  refine ⟨?_, ?_, ?_, hmem, hnow⟩ <;> rw [hleg]
  · exact keptLeg_drvH _ _ hH
  · exact keptLeg_drvL _ _ hL
  · rw [keptLeg_st, hst]

theorem LegDown.setLeg_same (h : LegDown d k x e) {l : Leg} (hH : l.drvH = (e.leg k).drvH) (hL : l.drvL = (e.leg k).drvL)
    (hst : l.st = (e.leg k).st) : LegDown d k x (e.setLeg k l) :=
  LegDown.setLeg h.mem h.now (hH.trans h.drvH) (hL.trans h.drvL) (hst.trans h.st)

theorem Dev.hardLock_legs (d : Dev) (k : Nat) : (d.hardLock k).legs = d.legs := by
  unfold Dev.hardLock
  split
  · rfl
  · split <;> rfl

theorem LegDown.enterFault (d : Dev) (k cause : Nat) : LegDown d k .fault (d.enterFault k cause) := by
  obtain ⟨hst, hH, hL⟩ := d.enterFault_leg k cause
  have hkeeps := (FaultKeeps.refl d).enterFault k cause
  exact ⟨hH, hL, hst, hkeeps.mem, hkeeps.now⟩

/-- Where a trip leaves a leg: in OFF if it was there, else in FAULT (R177). -/
def LegSt.tripped (x : LegSt) : LegSt := if x = .off then .off else .fault

theorem LegSt.tripped_rest : x.tripped = .off ∨ x.tripped = .fault := by
  unfold LegSt.tripped
  split
  · exact .inl rfl
  · exact .inr rfl

theorem LegSt.tripped_of_rest (h : x = .off ∨ x = .fault) : x.tripped = x := by
  rcases h with rfl | rfl <;> rfl

/-- A trip turns both channels off. -/
theorem Dev.legTrip_down (d : Dev) (k cause : Nat) : LegDown d k (d.leg k).st.tripped (d.legTrip k cause) := by
  have hkeeps := (FaultKeeps.refl d).latchLeg k cause
  have hmem := hkeeps.mem
  have hnow := hkeeps.now
  have hst : ((d.latchLeg k cause).leg k).st = (d.leg k).st := congrArg Leg.st (Dev.leg_of_legs (d.latchLeg_legs k cause) k)
  unfold Dev.legTrip
  extract_lets d1 cleared d2
  have hd2 : (d2.leg k).st = (d.leg k).st ∧ d2.mem = d.mem ∧ d2.now = d.now := by
    simp only [d2]
    split
    · have hlock := (FaultKeeps.refl (d1.setLeg k { d1.leg k with compAt := none })).hardLock k
      refine ⟨?_, hlock.mem.trans hmem, hlock.now.trans hnow⟩
      rw [Dev.leg_of_legs (Dev.hardLock_legs _ _), Dev.leg_setLeg_same, keptLeg_st]
      exact hst
    · exact ⟨hst, hmem, hnow⟩
  clear_value d2
  obtain ⟨hst2, hmem2, hnow2⟩ := hd2
  rw [← hst2]
  split
  next h => exact LegDown.setLeg hmem2 hnow2 (Leg.allOff_drvH _ _) (Leg.allOff_drvL _ _) (by rw [h]; exact (Leg.allOff_st _ _).trans h)
  next h => exact LegDown.setLeg hmem2 hnow2 (Leg.allOff_drvH _ _) (Leg.allOff_drvL _ _) (by rw [h]; exact (Leg.allOff_st _ _).trans h)
  next hoff hfault =>
    obtain ⟨hH, hL, hstf, hmemf, hnowf⟩ := LegDown.enterFault d2 k cause
    exact ⟨hH, hL, hstf.trans (if_neg hoff).symm, hmemf.trans hmem2, hnowf.trans hnow2⟩

theorem Dev.legTrip_down_from {d e : Dev} (hmem : e.mem = d.mem) (hnow : e.now = d.now) (hst : (e.leg k).st = x) (cause : Nat) :
    LegDown d k x.tripped (e.legTrip k cause) := by
  obtain ⟨hH, hL, hstt, hmemt, hnowt⟩ := e.legTrip_down k cause
  exact ⟨hH, hL, by rw [hstt, hst], hmemt.trans hmem, hnowt.trans hnow⟩

theorem Dev.tripLeg_eq (h : ¬ ((d.leg k).hsl = true ∧ (d.leg k).tripAt = some d.now ∧ (d.leg k).st ≠ .fault)) : d.tripLeg k =
    if (d.leg k).st ≠ .fault ∧ (((d.bump (legReg k) F.LEG_TRIPS_trip).legTrip k causeTrip).leg k).st = .fault then
      ((d.bump (legReg k) F.LEG_TRIPS_trip).legTrip k causeTrip).setLeg k
        { ((d.bump (legReg k) F.LEG_TRIPS_trip).legTrip k causeTrip).leg k with compAt := some d.now }
    else (d.bump (legReg k) F.LEG_TRIPS_trip).legTrip k causeTrip := if_neg h

theorem Dev.legTrip_marked_down (hmem : e.mem = d.mem) (hnow : e.now = d.now) (hst : (e.leg k).st = x) :
    LegDown d k x.tripped (if x ≠ .fault ∧ ((e.legTrip k causeTrip).leg k).st = .fault then
      (e.legTrip k causeTrip).setLeg k { (e.legTrip k causeTrip).leg k with compAt := some d.now } else e.legTrip k causeTrip) := by
  have htrip := Dev.legTrip_down_from hmem hnow hst causeTrip
  generalize e.legTrip k causeTrip = g at *
  split
  · exact htrip.setLeg_same rfl rfl rfl
  · exact htrip

/-- A trip of the trip comparator that the HSL's own disable of this cycle does not hide. -/
theorem Dev.tripLeg_down (h : ¬ ((d.leg k).hsl = true ∧ (d.leg k).tripAt = some d.now ∧ (d.leg k).st ≠ .fault)) :
    LegDown d k (d.leg k).st.tripped (d.tripLeg k) := by
  rw [Dev.tripLeg_eq h]
  exact Dev.legTrip_marked_down (Dev.bump_mem _ _ _) (Dev.bump_now _ _ _) (congrArg Leg.st (Dev.bump_leg _ _ _ _))

theorem LegDown.tripLeg (h : LegDown d k x e) (hx : x = .off ∨ x = .fault) : LegDown d k x (e.tripLeg k) := by
  by_cases hhsl : (e.leg k).hsl = true ∧ (e.leg k).tripAt = some e.now ∧ (e.leg k).st ≠ .fault
  · have hkeeps := ((FaultKeeps.refl e).bump (b := legReg k) (f := F.LEG_TRIPS_trip) (faultReg_leg k (by norm_num))).latchLeg k causeTrip
    have hlatch : e.tripLeg k = (e.bump (legReg k) F.LEG_TRIPS_trip).latchLeg k causeTrip := if_pos hhsl
    rw [hlatch]
    exact h.of_same ((Dev.latchLeg_legs _ _ _).trans (Dev.bump_legs _ _ _)) hkeeps.mem hkeeps.now
  · obtain ⟨hH, hL, hst, hmem, hnow⟩ := Dev.tripLeg_down hhsl
    exact ⟨hH, hL, by rw [hst, h.st, LegSt.tripped_of_rest hx], hmem.trans h.mem, hnow.trans h.now⟩

theorem LegDown.tripOut (h : LegDown d k x e) : LegDown d k x (e.tripOut k).2 := by
  have hun := e.tripOut_unseen k
  exact h.of_same (congrArg Dev.legs hun :) (congrArg Dev.mem hun :) (congrArg Dev.now hun :)

theorem LegDown.tripActs (h : LegDown d k x e) (hx : x = .off ∨ x = .fault) : LegDown d k x (e.tripActs k) := by
  have ht := h.tripOut
  unfold Dev.tripActs
  extract_lets t l
  split
  · exact ht.setLeg_same rfl rfl rfl
  · split
    · have hseen : LegDown d k x (t.2.setLeg k { l with tSeen := true }) := ht.setLeg_same rfl rfl rfl
      exact hseen.tripLeg hx
    · exact ht

/-- A leg without a driven channel has no on-interval to end. -/
theorem LegDown.cycleLimit (h : LegDown d k x e) : e.cycleLimit k = e := by
  refine if_neg ?_
  cases e.controlSide k <;> simp [Leg.drv, h.drvH, h.drvL]

theorem LegDown.limitActs (h : LegDown d k x e) : LegDown d k x (e.limitActs k) := by
  have ht := h.tripOut
  unfold Dev.limitActs
  extract_lets t
  split
  · rw [ht.cycleLimit]
    exact ht
  · exact ht

end

/-! ### The levels of the comparators -/

section
variable {d e : Dev} {k : Nat} {uv : Option Nat}

theorem Dev.fld_of_regs (h : e.regs = d.regs) (b : Nat) (f : Fld) : e.fld b f = d.fld b f :=
  congrArg (fun m => fget (Store.get resetWord m (b + f.off)) f) h

theorem Dev.flag_of_regs (h : e.regs = d.regs) (b : Nat) (f : Fld) : e.flag b f = d.flag b f := congrArg (· != 0) (Dev.fld_of_regs h b f)

theorem Dev.legMode_of_regs (h : e.regs = d.regs) (k : Nat) : e.legMode k = d.legMode k := Dev.fld_of_regs h _ _

/-- The trip threshold follows a leg's registers, its present command and its ramp. -/
theorem Dev.tripCode_of_leg (hregs : e.regs = d.regs) (hcur : (e.leg k).cur = (d.leg k).cur)
    (hval : (e.leg k).rampVal = (d.leg k).rampVal) (hfrom : (e.leg k).rampFrom = (d.leg k).rampFrom) (t : Nat) :
    e.tripCode k t = d.tripCode k t := by
  simp only [Dev.tripCode, Dev.rampAt, Dev.legMode_of_regs hregs, Dev.fld_of_regs hregs, Dev.flag_of_regs hregs, hcur, hval, hfrom]

theorem Dev.dacSettling_of_dacAt (hdac : e.dacAt = d.dacAt) (hnow : e.now = d.now) (r n : Nat) : e.dacSettling r n = d.dacSettling r n := by
  simp only [Dev.dacSettling, hdac, hnow]

theorem Seen.hardLevel (h : Seen d k uv e) : e.hardLevel k = compares (d.flag (legReg k) F.LEG_CMP_h_pol)
    (if uv.isSome then uv else d.pin (k / 32) (64 + k % 32)) (3000 * d.fld (legReg k) F.LEG_HDAC_code) := by
  rw [Dev.hardLevel, h.pin, Dev.flag_of_regs h.regs, Dev.fld_of_regs h.regs]

theorem Seen.tripLevel (h : Seen d k uv e) : e.tripLevel k = compares (d.flag (legReg k) F.LEG_CMP_t_pol)
    (if uv.isSome then uv else d.pin (k / 32) (64 + k % 32)) (3000 * d.tripCode k d.now) := by
  have hleg := Dev.leg_of_legs h.legs k
  rw [Dev.tripLevel, h.pin, Dev.flag_of_regs h.regs, h.now,
    Dev.tripCode_of_leg h.regs (congrArg Leg.cur hleg) (congrArg Leg.rampVal hleg) (congrArg Leg.rampFrom hleg)]

theorem Seen.settled (h : Seen d k uv e) (r n : Nat) : e.dacSettling r n = d.dacSettling r n := Dev.dacSettling_of_dacAt h.dacAt h.now r n

end

/-! ### The comparators act -/

section
variable {d e : Dev} {k : Nat} {x : LegSt}

/-- The hard comparator's level is noted. -/
def Dev.noteHard (d : Dev) (k : Nat) : Dev := d.setLeg k { d.leg k with hSeen := d.hardLevel k }

theorem Dev.noteHard_leg (d : Dev) (k : Nat) : (d.noteHard k).leg k = d.keptLeg k { d.leg k with hSeen := d.hardLevel k } :=
  Dev.leg_setLeg_same _ _ _

theorem Dev.noteHard_st (d : Dev) (k : Nat) : ((d.noteHard k).leg k).st = (d.leg k).st := by
  rw [Dev.noteHard_leg, keptLeg_st]

theorem Dev.noteHard_field {α : Type} (P : Leg → α)
    (hP : ∀ (l : Leg) h o s w, P { l with drvH := h, drvL := o, soft := s, want := w } = P l) (d : Dev) (k : Nat) :
    P ((d.noteHard k).leg k) = P { d.leg k with hSeen := d.hardLevel k } :=
  (congrArg P (d.noteHard_leg k)).trans (keptLeg_field _ _ _ P hP)

theorem Dev.hardActs_settled (h : d.dacSettling (k / 32) (32 + k % 32) = false) : d.hardActs k =
    if d.hardLevel k && !(d.leg k).hSeen then ((d.noteHard k).bump (legReg k) F.LEG_TRIPS_hard).legTrip k causeHard else d.noteHard k := by
  rw [Dev.hardActs, Dev.hardOut_settled h]
  rfl

/-- A leg put with its command and its ramp shows the same trip level. -/
theorem Dev.tripLevel_setLeg {l : Leg} (hcur : l.cur = (d.leg k).cur) (hval : l.rampVal = (d.leg k).rampVal)
    (hfrom : l.rampFrom = (d.leg k).rampFrom) : (d.setLeg k l).tripLevel k = d.tripLevel k := by
  have hleg : (d.setLeg k l).leg k = d.keptLeg k l := Dev.leg_setLeg_same _ _ _
  have hpin : (d.setLeg k l).pin (k / 32) (64 + k % 32) = d.pin (k / 32) (64 + k % 32) := rfl
  have hnow : (d.setLeg k l).now = d.now := rfl
  have hregs : (d.setLeg k l).regs = d.regs := rfl
  have hcode := Dev.tripCode_of_leg hregs (k := k)
    (by rw [hleg, keptLeg_cur, hcur])
    (by rw [hleg, keptLeg_field d k l Leg.rampVal fun _ _ _ _ _ => rfl, hval])
    (by rw [hleg, keptLeg_field d k l Leg.rampFrom fun _ _ _ _ _ => rfl, hfrom])
  rw [Dev.tripLevel, hpin, Dev.flag_of_regs hregs, hnow, hcode]
  rfl

theorem Dev.noteHard_tripLevel (d : Dev) (k : Nat) : (d.noteHard k).tripLevel k = d.tripLevel k := Dev.tripLevel_setLeg rfl rfl rfl

/-- The hard comparator trips the leg (R177, R206). -/
theorem Dev.hardActs_down (hmem : e.mem = d.mem) (hnow : e.now = d.now) (hst : (e.leg k).st = x)
    (hset : e.dacSettling (k / 32) (32 + k % 32) = false) (hhard : e.hardLevel k = true) (hseen : (e.leg k).hSeen = false) :
    LegDown d k x.tripped (e.hardActs k) := by
  rw [Dev.hardActs_settled hset, if_pos (by simp [hhard, hseen])]
  have hstn := (e.noteHard_st k).trans hst
  have hmemn : (e.noteHard k).mem = d.mem := hmem
  have hnown : (e.noteHard k).now = d.now := hnow
  generalize e.noteHard k = f at *
  exact Dev.legTrip_down_from ((Dev.bump_mem _ _ _).trans hmemn) ((Dev.bump_now _ _ _).trans hnown)
    ((congrArg Leg.st (Dev.bump_leg f _ _ k)).trans hstn) causeHard

/-- The trip comparator with clear latching trips the leg (R208, R209). -/
theorem Dev.tripActs_down (hmem : e.mem = d.mem) (hnow : e.now = d.now) (hst : (e.leg k).st = x)
    (hset : e.dacSettling (k / 32) (k % 32) = false) (htrip : e.tripLevel k = true) (hclear : e.tripClears k = true)
    (hlive : e.tripLive k = true) (hseen : (e.leg k).tSeen = false) (hhsl : ¬ ((e.leg k).hsl = true ∧ (e.leg k).tripAt = some e.now)) :
    LegDown d k x.tripped (e.tripActs k) := by
  have hacts : e.tripActs k = (e.setLeg k { e.leg k with tSeen := true }).tripLeg k := by
    rw [Dev.tripActs, Dev.tripOut_settled hset]
    exact (if_neg (by simp [htrip])).trans (if_pos (by simp [hclear, hlive, hseen]))
  have hleg : (e.setLeg k { e.leg k with tSeen := true }).leg k = e.keptLeg k { e.leg k with tSeen := true } := Dev.leg_setLeg_same _ _ _
  have hhsl' : (e.keptLeg k { e.leg k with tSeen := true }).hsl = (e.leg k).hsl := keptLeg_field _ _ _ Leg.hsl fun _ _ _ _ _ => rfl
  have htripAt : (e.keptLeg k { e.leg k with tSeen := true }).tripAt = (e.leg k).tripAt := keptLeg_field _ _ _ Leg.tripAt fun _ _ _ _ _ => rfl
  have hdown := Dev.tripLeg_down (d := e.setLeg k { e.leg k with tSeen := true }) (k := k) (by
    rw [hleg, hhsl', htripAt]
    exact fun h => hhsl ⟨h.1, h.2.1⟩)
  rw [hleg, keptLeg_st] at hdown
  rw [hacts, ← hst]
  exact ⟨hdown.drvH, hdown.drvL, hdown.st, hdown.mem.trans hmem, hdown.now.trans hnow⟩

/-- A trip comparator that is enabled, clear latching and not blanked takes its leg down, unless the hard comparator has. -/
theorem Seen.compare_down {uv : Option Nat} (h : Seen d k uv e) (hset1 : e.dacSettling (k / 32) (32 + k % 32) = false)
    (hset2 : e.dacSettling (k / 32) (k % 32) = false) (htrip : e.tripLevel k = true) (hclear : d.tripClears k = true)
    (hen : d.flag (legReg k) F.LEG_CMP_t_en = true) (hblank : d.isBlanked k = false) (hseen : (d.leg k).tSeen = false)
    (hhsl : ¬ ((d.leg k).hsl = true ∧ (d.leg k).tripAt = some d.now)) : LegDown d k (d.leg k).st.tripped ((e.hardActs k).tripActs k) := by
  have hleg := Dev.leg_of_legs h.legs k
  have hst : (e.leg k).st = (d.leg k).st := congrArg Leg.st hleg
  by_cases hhard : e.hardLevel k = true ∧ (e.leg k).hSeen = false
  · exact (Dev.hardActs_down h.mem h.now hst hset1 hhard.1 hhard.2).tripActs LegSt.tripped_rest
  · have hcalm : ¬ (e.hardLevel k && !(e.leg k).hSeen) = true := by simpa using hhard
    have hfield : ∀ {α : Type} (P : Leg → α), (∀ (l : Leg) h o s w, P { l with drvH := h, drvL := o, soft := s, want := w } = P l) →
        P ((e.noteHard k).leg k) = P { d.leg k with hSeen := e.hardLevel k } := by
      intro α P hP
      rw [Dev.noteHard_field P hP, hleg]
    have hregs : (e.noteHard k).regs = d.regs := h.regs
    have hnow : (e.noteHard k).now = d.now := h.now
    rw [Dev.hardActs_settled hset1, if_neg hcalm]
    refine Dev.tripActs_down h.mem h.now ((e.noteHard_st k).trans hst) hset2 ((e.noteHard_tripLevel k).trans htrip) ?_ ?_ ?_ ?_
    · rw [Dev.tripClears, Dev.legMode_of_regs hregs, Dev.flag_of_regs hregs]
      exact hclear
    · rw [Dev.tripLive, Dev.flag_of_regs hregs, hen, Dev.isBlanked, hfield Leg.blanking fun _ _ _ _ _ => rfl,
        hfield Leg.blankEnd fun _ _ _ _ _ => rfl, hnow]
      exact congrArg (fun b => true && !b) hblank
    · exact (hfield Leg.tSeen fun _ _ _ _ _ => rfl).trans hseen
    · rw [hfield Leg.hsl fun _ _ _ _ _ => rfl, hfield Leg.tripAt fun _ _ _ _ _ => rfl, hnow]
      exact hhsl

end

/-! ### A leg that no comparator and no input moves -/

/-- Nothing has moved a leg: its state is kept, its channels too where it is powered, and nothing else but its inputs is changed. -/
structure LegRests (d : Dev) (k : Nat) (e : Dev) : Prop where
  mem : e.mem = d.mem
  units : e.units = d.units
  rails : e.lowRails = d.lowRails
  st : (e.leg k).st = (d.leg k).st
  drv : d.unpowered k = false ∧ ((d.leg k).drvH && (d.leg k).drvL) = false →
    (e.leg k).drvH = (d.leg k).drvH ∧ (e.leg k).drvL = (d.leg k).drvL
  other : ∀ j, j ≠ k → e.leg j = d.leg j

section
variable {d e : Dev} {k : Nat}

theorem Seen.rests {uv : Option Nat} (h : Seen d k uv e) : LegRests d k e := by
  have hleg := fun j => Dev.leg_of_legs h.legs j
  exact ⟨h.mem, h.units, h.rails, congrArg Leg.st (hleg k), fun _ => ⟨congrArg Leg.drvH (hleg k), congrArg Leg.drvL (hleg k)⟩,
    fun j _ => hleg j⟩

theorem LegRests.refl (d : Dev) (k : Nat) : LegRests d k d := ⟨rfl, rfl, rfl, rfl, fun _ => ⟨rfl, rfl⟩, fun _ _ => rfl⟩

theorem LegRests.setLeg (h : LegRests d k e) {l : Leg} (hst : l.st = (e.leg k).st) (hH : l.drvH = (e.leg k).drvH)
    (hL : l.drvL = (e.leg k).drvL) : LegRests d k (e.setLeg k l) := by
  have hleg : (e.setLeg k l).leg k = e.keptLeg k l := Dev.leg_setLeg_same _ _ _
  refine ⟨h.mem, h.units, h.rails, ?_, fun hk => ?_, fun j hj => (Dev.leg_setLeg_ne _ _ hj).trans (h.other j hj)⟩
  · rw [hleg, keptLeg_st, hst, h.st]
  · obtain ⟨hdH, hdL⟩ := h.drv hk
    have hp : e.unpowered k = false := by
      rw [← hk.1]
      simp only [Dev.unpowered, h.rails]
    rw [hleg, keptLeg_powered e k l hp (by rw [hH, hL, hdH, hdL, hk.2])]
    exact ⟨hH.trans hdH, hL.trans hdL⟩

/-- The trip comparator is seen inactive. -/
def Dev.noteTrip (d : Dev) (k : Nat) : Dev := d.setLeg k { d.leg k with tSeen := false }

theorem Dev.noteTrip_tripLevel (d : Dev) (k : Nat) : (d.noteTrip k).tripLevel k = d.tripLevel k := Dev.tripLevel_setLeg rfl rfl rfl

theorem Dev.tripActs_inactive (hset : d.dacSettling (k / 32) (k % 32) = false) (htrip : d.tripLevel k = false) : d.tripActs k = d.noteTrip k := by
  rw [Dev.tripActs, Dev.tripOut_settled hset, htrip]
  rfl

theorem Dev.limitActs_inactive (hset : d.dacSettling (k / 32) (k % 32) = false) (htrip : d.tripLevel k = false) : d.limitActs k = d := by
  rw [Dev.limitActs, Dev.tripOut_settled hset, htrip]
  rfl

/-- Comparators whose levels are inactive note that and leave the leg alone. -/
theorem LegRests.compareLeg (h : LegRests d k e) (hhard : e.hardLevel k = false) (htrip : e.tripLevel k = false)
    (hset : e.dacSettling (k / 32) (32 + k % 32) = false ∧ e.dacSettling (k / 32) (k % 32) = false) : LegRests d k (e.compareLeg k) := by
  have h1 : LegRests d k (e.noteHard k) := h.setLeg rfl rfl rfl
  have htrip1 : (e.noteHard k).tripLevel k = false := (e.noteHard_tripLevel k).trans htrip
  have h2 : LegRests d k ((e.noteHard k).noteTrip k) := h1.setLeg rfl rfl rfl
  have hset1 : (e.noteHard k).dacSettling (k / 32) (k % 32) = false := hset.2
  have hset2 : ((e.noteHard k).noteTrip k).dacSettling (k / 32) (k % 32) = false := hset.2
  rw [Dev.compareLeg, Dev.hardActs_settled hset.1, if_neg (by simp [hhard]), Dev.tripActs_inactive hset1 htrip1,
    Dev.limitActs_inactive hset2 ((Dev.noteTrip_tripLevel _ k).trans htrip1)]
  exact h2

/-! ### The FLT input -/

/-- A leg with a level at its FLT input. -/
def Dev.toldFlt (d : Dev) (k : Nat) (level : Bool) : Dev := d.setLeg k { d.leg k with flt := level }

theorem Dev.toldFlt_field {α : Type} (P : Leg → α)
    (hP : ∀ (l : Leg) h o s w, P { l with drvH := h, drvL := o, soft := s, want := w } = P l) (d : Dev) (k : Nat) (level : Bool) :
    P ((d.toldFlt k level).leg k) = P { d.leg k with flt := level } :=
  (congrArg P (Dev.leg_setLeg_same _ _ _)).trans (keptLeg_field _ _ _ P hP)

theorem Dev.toldFlt_fld (d : Dev) (k : Nat) (level : Bool) (b : Nat) (f : Fld) : (d.toldFlt k level).fld b f = d.fld b f := rfl
theorem Dev.toldFlt_now (d : Dev) (k : Nat) (level : Bool) : (d.toldFlt k level).now = d.now := rfl

theorem Dev.toldFlt_rests (d : Dev) (k : Nat) (level : Bool) : LegRests d k (d.toldFlt k level) := (LegRests.refl d k).setLeg rfl rfl rfl

theorem Dev.fltActive_told (d : Dev) (level : Bool) (hd : isDirect k = false) :
    (d.toldFlt k level).fltActive k = (level == d.flag (legReg k) F.LEG_HS_flt_pol) := by
  have hflt : ((d.toldFlt k level).leg k).flt = level := Dev.toldFlt_field Leg.flt (fun _ _ _ _ _ => rfl) d k level
  rw [Dev.fltActive, hd, hflt]
  rfl

/-- The FLT input of a leg whose level is active, when it has been so since `t` (R168, R177). -/
def Dev.fltSince (d : Dev) (k t : Nat) (done : Bool) : Dev := d.setLeg k { d.leg k with fltAt := some t, fltSeen := (d.leg k).fltSeen || done }

theorem Dev.fltSince_leg (d : Dev) (k t : Nat) (done : Bool) :
    (d.fltSince k t done).leg k = d.keptLeg k { d.leg k with fltAt := some t, fltSeen := (d.leg k).fltSeen || done } := Dev.leg_setLeg_same _ _ _

theorem Dev.fltSince_at (d : Dev) (k t : Nat) (done : Bool) : ((d.fltSince k t done).leg k).fltAt = some t := by
  rw [Dev.fltSince_leg, keptLeg_field _ _ _ Leg.fltAt fun _ _ _ _ _ => rfl]

theorem LegRests.fltSince (h : LegRests d k e) (t : Nat) (done : Bool) : LegRests d k (e.fltSince k t done) := h.setLeg rfl rfl rfl

/-- A leg whose FLT input is inactive. -/
def Dev.fltIdle (d : Dev) (k : Nat) : Dev := d.setLeg k { d.leg k with fltAt := none, fltSeen := false }

theorem Dev.fltIdle_spec (d : Dev) (k : Nat) : ((d.fltIdle k).leg k).fltAt = none ∧ ((d.fltIdle k).leg k).fltSeen = false := by
  have hleg : (d.fltIdle k).leg k = d.keptLeg k { d.leg k with fltAt := none, fltSeen := false } := Dev.leg_setLeg_same _ _ _
  rw [hleg, keptLeg_field _ _ _ Leg.fltAt fun _ _ _ _ _ => rfl, keptLeg_field _ _ _ Leg.fltSeen fun _ _ _ _ _ => rfl]
  exact ⟨rfl, rfl⟩

theorem Dev.fltCheck_active (h : d.fltActive k = true) (hseen : (d.leg k).fltSeen = false) {t : Nat} (ht : (d.leg k).fltAt.getD d.now = t) :
    d.fltCheck k = if t + d.fld (legReg k) F.LEG_HS_flt_filt ≤ d.now then (d.fltSince k t true).legTrip k causeFlt else d.fltSince k t false := by
  subst ht
  refine (if_pos h).trans ?_
  by_cases hdone : (d.leg k).fltAt.getD d.now + d.fld (legReg k) F.LEG_HS_flt_filt ≤ d.now
  · rw [if_pos hdone, decide_eq_true hdone]
    exact if_pos (by simp [hseen])
  · rw [if_neg hdone, decide_eq_false hdone]
    exact if_neg (by simp)

theorem Dev.fltCheck_inactive (h : d.fltActive k = false) : d.fltCheck k = d.fltIdle k :=
  if_neg (by simp [h])

/-! ### Faults from any state -/

/-- An interlock or a handshake that is not answered puts a leg into FAULT from any state (R166, R320). -/
theorem Dev.legFaultAny_down {d e : Dev} (hmem : e.mem = d.mem) (hnow : e.now = d.now) (cause : Nat) :
    LegDown d k .fault (e.legFaultAny k cause) := by
  have hkeeps := (FaultKeeps.refl e).latchLeg k cause
  have hmem1 := hkeeps.mem.trans hmem
  have hnow1 := hkeeps.now.trans hnow
  unfold Dev.legFaultAny
  extract_lets d1
  split
  next hst => exact LegDown.setLeg hmem1 hnow1 (Leg.allOff_drvH _ _) (Leg.allOff_drvL _ _) ((Leg.allOff_st _ _).trans hst)
  next =>
    obtain ⟨hH, hL, hst, hmemf, hnowf⟩ := LegDown.enterFault d1 k cause
    exact ⟨hH, hL, hst, hmemf.trans hmem1, hnowf.trans hnow1⟩

theorem Dev.handshakeFault_down (d : Dev) (k : Nat) : LegDown d k .fault (d.handshakeFault k) :=
  Dev.legFaultAny_down (Dev.bump_raise_mem _ _ _ (by norm_num) _ _) ((Dev.raise_now _ _ _ _ (by norm_num)).trans (Dev.bump_now _ _ _)) causeHsTo

end

/-! ### The commands -/

section
variable (k : LegId) (s : State)

theorem exec_compareLeg (uv : Option Nat) {c : Instr} (h : c ∈ [Instr.hardComparatorTrip k uv, .tripComparatorTrip k uv, .cycleLimit k uv]) :
    exec c s = .next ⟨(s.dev.seeIsns k uv).compareLeg k, s.pending⟩ := by
  simp only [List.mem_cons, List.not_mem_nil, or_false] at h
  rcases h with rfl | rfl | rfl <;> rfl

theorem exec_fltInput (level : Bool) : exec (.fltInput k level) s =
    .next ⟨if isDirect k then s.dev else (s.dev.toldFlt k level).fltCheck k, s.pending⟩ := rfl

theorem exec_hslInterlock (high : Bool) : exec (.hslInterlock k high) s =
    .next ⟨(s.dev.raise Ev.HSL_INTERLOCK (scopeBlk (k.val / 8)) 0).legFaultAny k causeIlk, s.pending⟩ := rfl

theorem exec_handshakeTimeout {side : Side} (h : (s.dev.leg k).want = some side) : exec (.handshakeTimeout k) s =
    .next ⟨if s.dev.checksOff k side.other && !s.dev.showsOff k (s.dev.leg k) side.other &&
        decide ((s.dev.leg k).offAt side.other + 32 * s.dev.fld (legReg k) F.LEG_HS_timeout ≤ s.dev.stepNow) then
      s.dev.handshakeFault k else s.dev, s.pending⟩ := by
  change execHandshakeTimeout k s = _
  rw [execHandshakeTimeout, h]
  rfl

end

/-- A leg whose down state is FAULT unless it was in OFF. -/
theorem LegDown.fault_of_ne {d e : Dev} {k : Nat} {x : LegSt} (h : LegDown d k x.tripped e) (hx : x ≠ .off) : (e.leg k).st = .fault :=
  h.st.trans (if_neg hx)

/-- Settles O12: a comparator that fires leaves its leg down (`LegDown`), which no later comparator of the cycle undoes; one that does
not leaves it at rest (`LegRests`). -/
theorem legFaultEvents : Obligations.LegFaultEvents := by
  unfold Obligations.LegFaultEvents
  intro k high level uv s
  dsimp only
  have hsees := s.dev.seeIsns_seen k uv
  have hleg := Dev.leg_of_legs hsees.legs k
  have hhard := hsees.hardLevel
  have htrip := hsees.tripLevel
  have hset := hsees.settled (k / 32)
  have hrest := hsees.rests
  have hexec := fun c => exec_compareLeg k s uv (c := c)
  refine ⟨?_, ?_, ?_, ?_, ?_, ?_, ?_, ?_, ?_⟩
  · intro ⟨hset1, hset2⟩ hfire hseen
    rw [hexec _ (by simp), State.answers_next]
    have hdown := ((Dev.hardActs_down hsees.mem hsees.now (congrArg Leg.st hleg) ((hset _).trans hset1) (hhard.trans hfire)
      ((congrArg Leg.hSeen hleg).trans hseen)).tripActs LegSt.tripped_rest).limitActs
    exact ⟨⟨hdown.drvH, hdown.drvL, hdown.mem, hdown.now⟩, hdown.fault_of_ne⟩
  · intro ⟨hset1, hset2⟩ hcalm htcalm c hc
    rw [hexec c hc, State.answers_next]
    have hr := hrest.compareLeg (hhard.trans hcalm) (htrip.trans htcalm) ⟨(hset _).trans hset1, (hset _).trans hset2⟩
    exact ⟨hr.mem, hr.units, hr.st, hr.drv, hr.other⟩
  · intro hd hlevel hseen
    have hact : (s.dev.toldFlt k level).fltActive k = true := by
      rw [Dev.fltActive_told _ _ hd, hlevel, beq_self_eq_true]
    have hseen' : ((s.dev.toldFlt k level).leg k).fltSeen = false :=
      (Dev.toldFlt_field Leg.fltSeen (fun _ _ _ _ _ => rfl) s.dev k level).trans hseen
    have hat : ((s.dev.toldFlt k level).leg k).fltAt.getD (s.dev.toldFlt k level).now = (s.dev.leg k).fltAt.getD s.dev.now :=
      congrArg (fun t => Option.getD t s.dev.now) (Dev.toldFlt_field Leg.fltAt (fun _ _ _ _ _ => rfl) s.dev k level)
    rw [exec_fltInput, if_neg (by simp [hd]), Dev.fltCheck_active hact hseen' hat,
      Dev.toldFlt_fld, Dev.toldFlt_now]
    refine ⟨fun hdone => ?_, fun hearly => ?_⟩
    · have hdown := Dev.legTrip_down_from (d := s.dev) (e := (s.dev.toldFlt k level).fltSince k ((s.dev.leg k).fltAt.getD s.dev.now) true)
        rfl rfl (((s.dev.toldFlt_rests k level).fltSince _ true).st) causeFlt
      rw [if_pos hdone, State.answers_next]
      exact ⟨⟨hdown.drvH, hdown.drvL, hdown.mem, hdown.now⟩, hdown.fault_of_ne⟩
    · have hr := (s.dev.toldFlt_rests k level).fltSince ((s.dev.leg k).fltAt.getD s.dev.now) false
      rw [if_neg (Nat.not_le.mpr hearly), State.answers_next]
      exact ⟨⟨hr.mem, hr.units, hr.st, hr.drv, hr.other⟩, Dev.fltSince_at _ _ _ _, rfl⟩
  · intro hd hlevel
    have hact : (s.dev.toldFlt k level).fltActive k = false := by
      rw [Dev.fltActive_told _ _ hd]
      exact beq_eq_false_iff_ne.mpr hlevel
    have hr : LegRests s.dev k ((s.dev.toldFlt k level).fltIdle k) := (s.dev.toldFlt_rests k level).setLeg rfl rfl rfl
    obtain ⟨hat, hseen⟩ := (s.dev.toldFlt k level).fltIdle_spec k
    rw [exec_fltInput, if_neg (by simp [hd]), Dev.fltCheck_inactive hact, State.answers_next]
    exact ⟨⟨hr.mem, hr.units, hr.st, hr.drv, hr.other⟩, hat, hseen, rfl⟩
  · intro hd
    rw [exec_fltInput, if_pos hd]
  · rw [exec_hslInterlock, State.answers_next]
    have hdown := Dev.legFaultAny_down (k := k) (Dev.raise_mem s.dev Ev.HSL_INTERLOCK (scopeBlk (k.val / 8)) 0 (by norm_num))
      (Dev.raise_now _ _ _ _ (by norm_num)) causeIlk
    exact ⟨⟨hdown.drvH, hdown.drvL, hdown.mem, hdown.now⟩, hdown.st⟩
  · intro side hwant hcheck hshow hlate
    have hdown := s.dev.handshakeFault_down k
    rw [exec_handshakeTimeout k s hwant, if_pos (by simp [hcheck, hshow, hlate]), State.answers_next]
    exact ⟨⟨hdown.drvH, hdown.drvL, hdown.mem, hdown.now⟩, hdown.st⟩
  · intro side hwant hnot
    rw [exec_handshakeTimeout k s hwant, if_neg]
    rcases hnot with hnot | hnot | hnot
    · simp [hnot]
    · simp [hnot]
    · simp [Nat.not_le.mpr hnot]
  · intro ⟨hset1, hset2⟩ hfire hclear hen hblank hseen hoff hhsl
    rw [hexec _ (by simp), State.answers_next]
    have hdown := ((Seen.compare_down hsees ((hset _).trans hset1) ((hset _).trans hset2) (htrip.trans hfire) hclear hen hblank hseen
      hhsl).limitActs)
    exact ⟨⟨hdown.drvH, hdown.drvL, hdown.mem, hdown.now⟩, hdown.fault_of_ne hoff⟩

end Sys2Proof.Machine
end

section
/-! Host writes of leg registers (R14 to R16, R165, R167, R174, R180, R186). -/

namespace Sys2Proof.Machine

/-! ### Register addresses -/

theorem legReg_not_routerReg (k x : Nat) (hx : x < 0x100) : ¬ RouterReg (legReg k + x) := by
  rintro (hr | ⟨n, hn⟩)
  · unfold legReg blkBase rgnBase at hr
    omega
  · unfold legReg blkReg blkBase rgnBase at hn
    omega

theorem rgnReg_not_routerReg (r x : Nat) (hx : x < 0x10000) : ¬ RouterReg (rgnReg r + x) := by
  rintro (hr | ⟨n, hn⟩)
  · unfold rgnReg rgnBase at hr
    omega
  · unfold rgnReg blkReg blkBase rgnBase at hn
    omega

/-! ### What a write may do to a leg -/

/-- Of the legs, only one has moved, and it stays in its state or is in FAULT. -/
structure LegOnly (d : Dev) (k : Nat) (e : Dev) : Prop where
  mem : e.mem = d.mem
  now : e.now = d.now
  other : ∀ j, j ≠ k → e.leg j = d.leg j
  st : (e.leg k).st = (d.leg k).st ∨ (e.leg k).st = .fault

section
variable {d e f : Dev} {k : Nat}

theorem LegOnly.refl (d : Dev) (k : Nat) : LegOnly d k d := ⟨rfl, rfl, fun _ _ => rfl, .inl rfl⟩

theorem LegOnly.of_same (h : LegOnly d k e) (hlegs : f.legs = e.legs) (hmem : f.mem = e.mem) (hnow : f.now = e.now) : LegOnly d k f := by
  have hleg := fun j => Dev.leg_of_legs hlegs j
  exact ⟨hmem.trans h.mem, hnow.trans h.now, fun j hj => (hleg j).trans (h.other j hj), by rw [hleg]; exact h.st⟩

theorem LegOnly.setLeg (h : LegOnly d k e) {l : Leg} (hst : l.st = (e.leg k).st) : LegOnly d k (e.setLeg k l) := by
  have hleg : (e.setLeg k l).leg k = e.keptLeg k l := Dev.leg_setLeg_same _ _ _
  refine ⟨h.mem, h.now, fun j hj => (Dev.leg_setLeg_ne _ _ hj).trans (h.other j hj), ?_⟩
  rw [hleg, keptLeg_st, hst]
  exact h.st

theorem LegOnly.plainWrite (h : LegOnly d k e) (m : Master) (a : Nat) (v : Word) : LegOnly d k (e.plainWrite m a v) :=
  h.of_same (Dev.plainWrite_keeps Dev.legs (fun _ _ _ => rfl) (fun d s c x hs => d.raise_legs s c x hs) _ _ _ _)
    (Dev.plainWrite_keeps Dev.mem (fun _ _ _ => rfl) (fun d s c x hs => d.raise_mem s c x hs) _ _ _ _)
    (Dev.plainWrite_keeps Dev.now (fun _ _ _ => rfl) (fun d s c x hs => d.raise_now s c x hs) _ _ _ _)

theorem LegOnly.dacStepped (h : LegOnly d k e) (r n old : Nat) : LegOnly d k (e.dacStepped r n old) := by
  unfold Dev.dacStepped
  split
  · exact h
  · exact h.of_same rfl rfl rfl

theorem LegOnly.checkOwner (h : LegOnly d k e) (j : Nat) : LegOnly d k (e.checkOwner j) :=
  h.of_same (Dev.checkOwner_keeps Dev.legs (fun _ _ _ => rfl) _ _) (Dev.checkOwner_keeps Dev.mem (fun _ _ _ => rfl) _ _)
    (Dev.checkOwner_keeps Dev.now (fun _ _ _ => rfl) _ _)

theorem LegOnly.bumpWrap (h : LegOnly d k e) (b : Nat) (f : Fld) : LegOnly d k (e.bumpWrap b f) := h.of_same rfl rfl rfl

/-! ### Turn-ons and requests -/

theorem Dev.startBlank_st (d : Dev) (k : Nat) (l : Leg) (s : Side) : (d.startBlank k l s).st = l.st := by
  simp only [Dev.startBlank]
  split <;> split <;> rfl

theorem Leg.turnOn_st (l : Leg) (s : Side) : (l.turnOn s).st = l.st := by
  cases s <;> simp only [Leg.turnOn] <;> split <;> rfl

theorem LegOnly.tryOn (h : LegOnly d k e) (t : Nat) : LegOnly d k (e.tryOn k t) := by
  unfold Dev.tryOn
  extract_lets l
  split
  · exact h
  next s _ =>
    split
    · split
      · exact h.setLeg rfl
      · extract_lets ramp x y d1
        have hd1 : LegOnly d k d1 := by
          refine (LegOnly.setLeg h ?_).dacStepped _ _ _
          exact (e.startBlank_st k (l.turnOn s) s).trans (l.turnOn_st s)
        split
        · exact hd1.bumpWrap _ _
        · exact hd1.bumpWrap _ _
    · exact h

theorem LegOnly.tryAfterWrite (h : LegOnly d k e) : LegOnly d k (e.tryAfterWrite k) := by
  unfold Dev.tryAfterWrite
  split
  · exact h
  · exact h.tryOn _

theorem LegOnly.applyRequest (h : LegOnly d k e) (t : Nat) : LegOnly d k (e.applyRequest k t) := by
  unfold Dev.applyRequest
  extract_lets l pcsw w held hi lo l1 l2 want
  have hl1 : l1.st = l.st := by
    simp only [l1]
    split
    · rfl
    · exact Leg.turnOff_st _ _ _
  have hl2 : l2.st = l.st := by
    simp only [l2]
    split
    · exact hl1
    · exact (Leg.turnOff_st _ _ _).trans hl1
  split
  · refine (LegOnly.setLeg h ?_).tryOn t
    exact hl2
  · exact h

theorem LegOnly.followRequest (h : LegOnly d k e) (t : Nat) : LegOnly d k (e.followRequest k t) := by
  unfold Dev.followRequest
  extract_lets l req asksLow
  split
  · refine (LegOnly.setLeg h ?_).applyRequest t
    rfl
  · exact h

/-! ### Changes of mode, period and offset -/

theorem LegOnly.modeChanged (h : LegOnly d k e) : LegOnly d k (e.modeChanged k) := h.setLeg (Leg.allOff_st _ _)

theorem LegOnly.periodChanged (h : LegOnly d k e) (was : Bool) : LegOnly d k (e.periodChanged k was) := by
  unfold Dev.periodChanged
  extract_lets l p l1 c d1
  have hl1 : l1.st = (e.leg k).st := by
    simp only [l1]
    split <;> rfl
  split
  · exact h.setLeg hl1
  · have hd1 : LegOnly d k d1 := by
      simp only [d1]
      split
      · exact h.setLeg hl1
      · split
        · exact h.setLeg hl1
        · exact h.setLeg hl1
    exact hd1.followRequest _

theorem LegOnly.phaseChanged (h : LegOnly d k e) (old : Nat) : LegOnly d k (e.phaseChanged k old) := by
  unfold Dev.phaseChanged
  extract_lets l p new c moved r x d1
  have hmoved : ∀ c r, LegOnly d k (moved c r) := fun _ _ => h.setLeg rfl
  have hd1 : LegOnly d k d1 := by
    simp only [d1]
    split
    · split
      · exact hmoved _ _
      · exact hmoved _ _
    · split
      · split
        · exact h.setLeg rfl
        · exact hmoved _ _
      · exact hmoved _ _
  exact hd1.followRequest _

/-! ### The FLT input -/

theorem Dev.legTrip_other (d : Dev) (k cause : Nat) {j : Nat} (hj : j ≠ k) : (d.legTrip k cause).leg j = d.leg j := by
  have hlatch : (d.latchLeg k cause).leg j = d.leg j := Dev.leg_of_legs (d.latchLeg_legs k cause) j
  unfold Dev.legTrip
  extract_lets d1 cleared d2
  have hd2 : d2.leg j = d.leg j := by
    simp only [d2]
    split
    · rw [Dev.leg_of_legs (Dev.hardLock_legs _ _), Dev.leg_setLeg_ne _ _ hj]
      exact hlatch
    · exact hlatch
  split
  · exact (Dev.leg_setLeg_ne _ _ hj).trans hd2
  · exact (Dev.leg_setLeg_ne _ _ hj).trans hd2
  · exact (Dev.enterFault_other _ _ _ hj).trans hd2

theorem LegOnly.legTrip (h : LegOnly d k e) (cause : Nat) : LegOnly d k (e.legTrip k cause) := by
  have hdown := e.legTrip_down k cause
  refine ⟨hdown.mem.trans h.mem, hdown.now.trans h.now, fun j hj => (e.legTrip_other k cause hj).trans (h.other j hj), ?_⟩
  rw [hdown.st, LegSt.tripped]
  split
  next hoff => exact h.st.imp (fun hst => hoff.symm.trans hst) (fun hst => absurd (hoff.symm.trans hst) (by decide))
  · exact .inr rfl

theorem LegOnly.fltCheck (h : LegOnly d k e) : LegOnly d k (e.fltCheck k) := by
  unfold Dev.fltCheck
  extract_lets l since done d1
  have hd1 : LegOnly d k d1 := h.setLeg rfl
  split
  · split
    · exact hd1.legTrip _
    · exact hd1
  · exact h.setLeg rfl

/-! ### The writes -/

theorem LegOnly.writeLegCfg (m : Master) (v : Word) : LegOnly d k (d.writeLegCfg m k v) := by
  unfold Dev.writeLegCfg
  extract_lets d1 d2 d3
  have hd1 : LegOnly d k d1 := ((LegOnly.refl d k).plainWrite m _ v).dacStepped _ _ _
  have hd2 : LegOnly d k d2 := by
    simp only [d2]
    split
    · exact hd1
    · exact hd1.modeChanged
  have hd3 : LegOnly d k d3 := by
    simp only [d3]
    split
    · exact hd2
    · exact hd2.periodChanged _
  split
  · exact hd3
  · exact hd3.followRequest _

theorem Dev.writeLeg_period (d : Dev) (m : Master) (k : Nat) (v : Word) : d.writeLeg m k .period v =
    if d.legPeriod k = (d.plainWrite m (legReg k + 4) v).legPeriod k then d.plainWrite m (legReg k + 4) v
    else (d.plainWrite m (legReg k + 4) v).periodChanged k (d.counterRuns k) := rfl

theorem Dev.writeLeg_phase (d : Dev) (m : Master) (k : Nat) (v : Word) : d.writeLeg m k .phase v =
    if d.fld (legReg k) F.LEG_PHASE_offset = (d.plainWrite m (legReg k + 8) v).fld (legReg k) F.LEG_PHASE_offset then
      d.plainWrite m (legReg k + 8) v
    else (d.plainWrite m (legReg k + 8) v).phaseChanged k (d.fld (legReg k) F.LEG_PHASE_offset) := rfl

/-- A write of a leg register moves no leg but its own, and that only to FAULT (R174, R180, R186). -/
theorem LegOnly.writeLeg (m : Master) (reg : LegCfgReg) (v : Word) : LegOnly d k (d.writeLeg m k reg v) := by
  have hplain := fun a => (LegOnly.refl d k).plainWrite m a v
  cases reg with
  | cfg => exact LegOnly.writeLegCfg m v
  | period =>
    rw [Dev.writeLeg_period]
    split
    · exact hplain _
    · exact (hplain _).periodChanged _
  | phase =>
    rw [Dev.writeLeg_phase]
    split
    · exact hplain _
    · exact (hplain _).phaseChanged _
  | dt => exact (hplain _).tryAfterWrite.checkOwner k
  | hs => exact (hplain _).fltCheck.tryAfterWrite.checkOwner k
  | minon => exact hplain _

end

/-! ### LEG_OWN -/

section
variable {d : Dev}

/-- The address of a leg's byte of LEG_OWN. -/
def ownReg (k : Nat) : Nat := rgnReg (k / 32) + 0x100 + k % 32 / 4 * 4

theorem Dev.ownByte_eq (d : Dev) (k : Nat) : d.ownByte k = bitsOf (d.reg (ownReg k)).toNat (8 * (k % 4)) 8 := rfl

/-- A byte of LEG_OWN that is written leaves the bytes of the other legs. -/
theorem Dev.ownByte_other {j k : Nat} (h : j ≠ k) (b : Nat) :
    (d.setReg (ownReg k) (BitVec.ofNat 32 (withBits (d.reg (ownReg k)).toNat (8 * (k % 4)) 8 b))).ownByte j = d.ownByte j := by
  rw [Dev.ownByte_eq, Dev.ownByte_eq]
  by_cases hreg : ownReg j = ownReg k
  · have hbyte : j % 4 ≠ k % 4 := by
      unfold ownReg rgnReg rgnBase at hreg
      omega
    have hlt := Nat.mod_lt k (show 0 < 4 by norm_num)
    rw [hreg, Dev.reg_setReg_same, BitVec.toNat_ofNat, Nat.mod_eq_of_lt (withBits_lt _ _ _ _ 32 (d.reg _).isLt (by omega)),
      bitsOf_withBits_ne _ _ _ _ _ _ (by omega)]
  · rw [Dev.reg_setReg_ne _ _ hreg]

/-- Nothing but bytes of LEG_OWN of legs in OFF has changed. -/
structure OwnOnly (d e : Dev) : Prop where
  mem : e.mem = d.mem
  legs : e.legs = d.legs
  units : e.units = d.units
  bytes : ∀ j, (d.leg j).st ≠ .off → e.ownByte j = d.ownByte j

theorem OwnOnly.writeOwn {e : Dev} (h : OwnOnly d e) (k b : Nat) : OwnOnly d (e.writeOwn k b).1 := by
  unfold Dev.writeOwn
  extract_lets b a
  split
  · exact h
  · split
    next hmay =>
      have hoff : (e.leg k).st = .off := by
        have hall : ((e.leg k).st == .off) = true := by
          simp only [Dev.mayOwn, Bool.and_eq_true] at hmay
          exact hmay.1.1.1
        exact eq_of_beq hall
      refine ⟨(Dev.setReg_mem _ _ _).trans h.mem, (Dev.setReg_legs _ _ _).trans h.legs, (Dev.setReg_units _ _ _).trans h.units, fun j hj => ?_⟩
      have hne : j ≠ k := fun hjk => hj (by rw [hjk, ← Dev.leg_of_legs h.legs, hoff])
      exact (Dev.ownByte_other hne b).trans (h.bytes j hj)
    · exact h

theorem OwnOnly.writeLegOwn (d : Dev) (r n : Nat) (v : Word) : OwnOnly d (d.writeLegOwn r n v) := by
  unfold Dev.writeLegOwn
  extract_lets out
  have hout : OwnOnly d out.1 :=
    (((OwnOnly.writeOwn ⟨rfl, rfl, rfl, fun _ _ => rfl⟩ _ _).writeOwn _ _).writeOwn _ _).writeOwn _ _
  have hs : Ev.OWN_REFUSED < 0x100 := by norm_num
  split
  · refine ⟨(Dev.raise_mem _ _ _ _ hs).trans hout.mem, (Dev.raise_legs _ _ _ _ hs).trans hout.legs,
      (Dev.raise_units _ _ _ _ hs).trans hout.units, fun j hj => ?_⟩
    have hreg : ¬ RouterReg (ownReg j) := by
      have hlt := Nat.mod_lt j (show 0 < 32 by norm_num)
      rw [ownReg, Nat.add_assoc]
      exact rgnReg_not_routerReg _ _ (by omega)
    rw [← hout.bytes j hj, Dev.ownByte_eq, Dev.ownByte_eq, Dev.raise_reg _ _ _ _ _ hs hreg]
  · exact hout

end

/-! ### The commands -/

theorem exec_legHostWrite (m : Master) (k : LegId) (reg : LegCfgReg) (v : Word) (s : State) :
    exec (.legHostWrite m k reg v) s = .next ⟨s.dev.writeLeg m k reg v, s.pending⟩ := rfl

theorem exec_legGuardWrite (m : Master) (k : LegId) (v : Word) (s : State) :
    exec (.legGuardWrite m k v) s = .next ⟨if masterPriv m then
      (if (s.dev.leg k).st = .off then s.dev.plainWrite m (legReg k + 0x44) v else s.dev.raise Ev.LEG_CFG_REFUSED (scopeBlk (k / 8)) 0)
      else s.dev.guardViolation m (legReg k + 0x44), s.pending⟩ := rfl

theorem exec_hslDtfloorWrite (m : Master) (u : UnitId) (v : Word) (s : State) :
    exec (.hslDtfloorWrite m u v) s = .next ⟨(s.dev.plainWrite m (0x40020100 + 4 * u) v).each
      ((s.dev.plainWrite m (0x40020100 + 4 * u) v).unitLegs u) (fun k d => (d.tryAfterWrite k).checkOwner k), s.pending⟩ := rfl

theorem exec_legOwnWrite (m : Master) (r : RegionId) (n : Fin 8) (v : Word) (s : State) :
    exec (.legOwnWrite m r n v) s = .next ⟨s.dev.writeLegOwn r n v, s.pending⟩ := rfl

/-- Settles O16: a write of a leg register is a chain of steps that each move its leg alone (`LegOnly`), and LEG_OWN takes bytes of legs in
OFF only (`OwnOnly`). -/
theorem legWrites : Obligations.LegWrites := by
  unfold Obligations.LegWrites
  intro m k u r n v s
  dsimp only
  refine ⟨rfl, rfl, rfl, ?_, ?_, ?_, ?_, ?_, ?_, ?_, ?_⟩
  · intro hsame
    rw [exec_legHostWrite, Dev.writeLeg_period, if_pos hsame]
  · intro hsame
    rw [exec_legHostWrite, Dev.writeLeg_phase, if_pos hsame]
  · intro reg
    rw [exec_legHostWrite, State.answers_next]
    obtain ⟨hmem, hnow, hother, hst⟩ := LegOnly.writeLeg (d := s.dev) (k := k) m reg v
    exact ⟨hmem, hnow, hother, hst⟩
  · intro hpriv hoff
    rw [exec_legGuardWrite, if_pos hpriv, if_pos hoff]
  · intro hpriv hon
    rw [exec_legGuardWrite, if_pos hpriv, if_neg hon, State.answers_next]
    exact ⟨rfl, Dev.raise_reg _ _ _ _ _ (by norm_num) (legReg_not_routerReg _ _ (by norm_num)), Dev.raise_legs _ _ _ _ (by norm_num)⟩
  · intro hpriv
    rw [exec_legGuardWrite, if_neg (by simp [hpriv]), State.answers_next]
    exact ⟨Dev.raise_reg _ _ _ _ _ (by norm_num) (legReg_not_routerReg _ _ (by norm_num)), Dev.raise_legs _ _ _ _ (by norm_num)⟩
  · rw [exec_hslDtfloorWrite, State.answers_next]
    refine ⟨rfl, ?_⟩
    have hstep : ∀ j (e : Dev), ((e.tryAfterWrite j).checkOwner j).mem = e.mem :=
      fun j e => ((LegOnly.refl e j).tryAfterWrite.checkOwner j).mem
    exact (Dev.each_keeps Dev.mem _ hstep _ _).trans ((LegOnly.refl s.dev k).plainWrite m _ v).mem
  · rw [exec_legOwnWrite, State.answers_next]
    obtain ⟨hmem, hlegs, hunits, hbytes⟩ := OwnOnly.writeLegOwn s.dev r n v
    exact ⟨hmem, hlegs, hunits, fun j => hbytes _⟩

end Sys2Proof.Machine
end

section
/-! The arbitration of the fabric and its tags (R28 to R33). -/

namespace Sys2Proof.Machine

/-! ### The first element that a list finds -/

theorem find?_eq_some_iff_takeWhile {p : Nat → Bool} (l : List Nat) (m : Nat) :
    l.find? p = some m ↔ m ∈ l ∧ p m = true ∧ ∀ k ∈ l.takeWhile (· != m), ¬ p k = true := by
  induction l with
  | nil => simp
  | cons x t ih =>
    by_cases hx : x = m
    · subst hx
      cases hp : p x with
      | true => simp [hp]
      | false =>
        have hne : t.find? p ≠ some x := fun h => by
          have hpx := List.find?_some h
          rw [hp] at hpx
          exact absurd hpx (by decide)
        simp [hp, hne]
    · cases hp : p x with
      | true => simp [hp, hx]
      | false => simp [hp, hx, Ne.symm hx, ih]

theorem find?_eq_some_iff_least {p : Nat → Bool} {f : Nat → Nat} {l : List Nat} (hl : l.Pairwise (fun a b => f a < f b)) (m : Nat) :
    l.find? p = some m ↔ m ∈ l ∧ p m = true ∧ ∀ k ∈ l, p k = true → f m ≤ f k := by
  induction l with
  | nil => simp
  | cons x t ih =>
    obtain ⟨hx, ht⟩ := List.pairwise_cons.mp hl
    cases hp : p x with
    | true =>
      rw [List.find?_cons_of_pos hp]
      constructor
      · rintro ⟨rfl⟩
        refine ⟨List.mem_cons_self, hp, fun k hk _ => ?_⟩
        rcases List.mem_cons.mp hk with rfl | hk
        · exact le_rfl
        · exact (hx k hk).le
      · rintro ⟨hm, -, hle⟩
        rcases List.mem_cons.mp hm with rfl | hm
        · rfl
        · exact absurd (hle x List.mem_cons_self hp) (Nat.not_le.mpr (hx m hm))
    | false =>
      rw [List.find?_cons_of_neg (by simp [hp]), ih ht]
      constructor
      · rintro ⟨hm, hpm, hle⟩
        refine ⟨List.mem_cons_of_mem _ hm, hpm, fun k hk hpk => ?_⟩
        rcases List.mem_cons.mp hk with rfl | hk
        · exact absurd hpk (by simp [hp])
        · exact hle k hk hpk
      · rintro ⟨hm, hpm, hle⟩
        have hmt : m ∈ t := (List.mem_cons.mp hm).resolve_left (fun h => by rw [h, hp] at hpm; exact absurd hpm (by decide))
        exact ⟨hmt, hpm, fun k hk hpk => hle k (List.mem_cons_of_mem _ hk) hpk⟩

/-! ### The ring -/

/-- How far a master lies after the holder of the grant. -/
def ringDist (holder k : Nat) : Nat := if holder < k then k - holder else k + 28

theorem safetyClass_iff (k : Nat) : safetyClass k = true ↔ k ∈ safetyOrder := by
  simp only [safetyClass, safetyOrder, decide_eq_true_eq, List.mem_cons, List.not_mem_nil, or_false]
  omega

theorem mem_sharedRing (holder k : Nat) : k ∈ sharedRing holder ↔ k < 28 ∧ safetyClass k = false := by
  simp only [sharedRing, List.mem_append, List.mem_filter, List.mem_range, Bool.not_eq_true', decide_eq_true_eq]
  constructor
  · rintro (⟨h, -⟩ | ⟨h, -⟩) <;> exact h
  · intro h
    rcases Nat.lt_or_ge holder k with hk | hk
    · exact .inl ⟨h, hk⟩
    · exact .inr ⟨h, hk⟩

theorem sharedRing_sorted (holder : Nat) : (sharedRing holder).Pairwise (fun a b => ringDist holder a < ringDist holder b) := by
  have hrange : ((List.range 28).filter (fun m => !safetyClass m)).Pairwise (· < ·) := List.Pairwise.filter _ List.pairwise_lt_range
  have hlt : ∀ k ∈ (List.range 28).filter (fun m => !safetyClass m), k < 28 := fun k hk => List.mem_range.mp (List.mem_of_mem_filter hk)
  unfold sharedRing
  refine List.pairwise_append.mpr ⟨?_, ?_, ?_⟩
  · refine (hrange.filter _).imp_of_mem ?_
    intro a b ha hb hab
    have ha' : holder < a := by simpa using (List.mem_filter.mp ha).2
    rw [ringDist, ringDist, if_pos ha', if_pos (by omega)]
    omega
  · refine (hrange.filter _).imp_of_mem ?_
    intro a b ha hb hab
    have hb' : b ≤ holder := by simpa using (List.mem_filter.mp hb).2
    rw [ringDist, ringDist, if_neg (by omega), if_neg (by omega)]
    omega
  · intro a ha b hb
    obtain ⟨ha, ha'⟩ := List.mem_filter.mp ha
    have hb' : b ≤ holder := by simpa using (List.mem_filter.mp hb).2
    have ha'' : holder < a := by simpa using ha'
    have := hlt a ha
    rw [ringDist, ringDist, if_pos ha'', if_neg (by omega)]
    omega

/-! ### The winner -/

section
variable {d : Dev} {m : Nat}

/-- A master of the safety class wins where none before it in their order asks (R28). -/
theorem Dev.fabWinner_safety (hm : safetyClass m = true) : d.fabWinner = some m ↔
    d.requests m = true ∧ ∀ k ∈ safetyOrder.takeWhile (· != m), ¬ d.requests k = true := by
  have hfind := find?_eq_some_iff_takeWhile (p := fun k => d.requests k) safetyOrder m
  unfold Dev.fabWinner
  cases hsafe : safetyOrder.find? (fun k => d.requests k) with
  | some x =>
    rw [hsafe] at hfind
    exact hfind.trans ⟨fun h => h.2, fun h => ⟨(safetyClass_iff m).mp hm, h⟩⟩
  | none =>
    have hno : ¬ d.requests m = true := List.find?_eq_none.mp hsafe m ((safetyClass_iff m).mp hm)
    refine iff_of_false ?_ (fun h => hno h.1)
    dsimp only
    split
    next hkeeps => exact fun h => by simp [Option.some.inj h, hm] at hkeeps
    next => exact fun h => hno (List.find?_some h)

/-- A shared master wins where none of the safety class asks, as the holder within its weight or else as the next in the ring (R29, R30). -/
theorem Dev.fabWinner_shared (hm : safetyClass m = false) (hlt : m < 28) : d.fabWinner = some m ↔
    d.requests m = true ∧ (∀ k ∈ safetyOrder, ¬ d.requests k = true) ∧
      if safetyClass d.fab.holder = false ∧ d.requests d.fab.holder = true ∧ d.fab.grants < d.fabWeight d.fab.holder then m = d.fab.holder
      else ∀ k < 28, safetyClass k = false → d.requests k = true → ringDist d.fab.holder m ≤ ringDist d.fab.holder k := by
  have hring := find?_eq_some_iff_least (p := fun k => d.requests k) (sharedRing_sorted d.fab.holder) m
  unfold Dev.fabWinner
  cases hsafe : safetyOrder.find? (fun k => d.requests k) with
  | some x =>
    have hx := List.mem_of_find?_eq_some hsafe
    have hask : d.requests x = true := List.find?_some (p := fun k => d.requests k) hsafe
    refine iff_of_false ?_ (fun h => h.2.1 x hx hask)
    intro h
    have hclass := (safetyClass_iff x).mpr hx
    rw [Option.some.inj h, hm] at hclass
    exact absurd hclass (by decide)
  | none =>
    have hno : ∀ k ∈ safetyOrder, ¬ d.requests k = true := List.find?_eq_none.mp hsafe
    dsimp only
    by_cases hkeeps : d.requests d.fab.holder = true ∧ d.fab.grants < d.fabWeight d.fab.holder ∧ safetyClass d.fab.holder = false
    · rw [if_pos hkeeps, if_pos ⟨hkeeps.2.2, hkeeps.1, hkeeps.2.1⟩]
      constructor
      · intro h
        obtain rfl := Option.some.inj h
        exact ⟨hkeeps.1, hno, rfl⟩
      · exact fun h => congrArg some h.2.2.symm
    · rw [if_neg hkeeps, if_neg (fun h => hkeeps ⟨h.2.1, h.2.2, h.1⟩), hring]
      constructor
      · exact fun ⟨_, hask, hle⟩ => ⟨hask, hno, fun k hk hclass hk' => hle k ((mem_sharedRing _ _).mpr ⟨hk, hclass⟩) hk'⟩
      · exact fun ⟨hask, _, hle⟩ => ⟨(mem_sharedRing _ _).mpr ⟨hlt, hm⟩, hask, fun k hk hk' =>
          hle k ((mem_sharedRing _ _).mp hk).1 ((mem_sharedRing _ _).mp hk).2 hk'⟩

end

/-! ### Requests at a port -/

/-- A device with other requests waiting. -/
def Dev.withPort (d : Dev) (w : List FabReq) : Dev := { d with fab := { d.fab with waiting := w } }

/-- A request waits for a master and could take a tag (R27, R32, R33). -/
theorem Dev.requests_withPort (d : Dev) (w : List FabReq) (k : Nat) : (d.withPort w).requests k = true ↔
    (∃ q ∈ w, q.m.id.val = k) ∧ d.tagsOf k < masterLimit k ∧
      (d.tagSum false + (d.tagSum true - 16) < 240 ∨ (2 ≤ k ∧ k ≤ 5 ∧ d.tagSum true < 16)) := by
  have htags : (d.withPort w).tagsOf k = d.tagsOf k := rfl
  have hsum : ∀ c, (d.withPort w).tagSum c = d.tagSum c := fun _ => rfl
  have hwait : (d.withPort w).fab.waiting = w := rfl
  simp only [Dev.requests, Dev.tagFree, htags, hsum, hwait, Bool.and_eq_true, List.any_eq_true, beq_iff_eq, decide_eq_true_eq]
  refine and_congr_right fun _ => and_congr_right fun _ => ?_
  by_cases hclass : 2 ≤ k ∧ k ≤ 5
  · have htrue : safetyClass k = true := decide_eq_true hclass
    rw [htrue]
    simp only [if_true, decide_eq_true_eq]
    omega
  · have hfalse : safetyClass k = false := decide_eq_false hclass
    rw [hfalse]
    simp only [Bool.false_eq_true, if_false, decide_eq_true_eq]
    omega

theorem changeFirst_length (p : FabReq → Bool) (f : FabReq → FabReq) (l : List FabReq) : (changeFirst p f l).length = l.length := by
  induction l with
  | nil => rfl
  | cons x t ih =>
    unfold changeFirst
    split
    · rfl
    · exact congrArg (· + 1) ih

/-- A change of the first that meets a condition keeps what the change keeps. -/
theorem changeFirst_map {α : Type} (p : FabReq → Bool) (f : FabReq → FabReq) (g : FabReq → α) (hg : ∀ x, g (f x) = g x) (l : List FabReq) :
    (changeFirst p f l).map g = l.map g := by
  induction l with
  | nil => rfl
  | cons x t ih =>
    unfold changeFirst
    split
    · rw [List.map_cons, List.map_cons, hg]
    · rw [List.map_cons, List.map_cons, ih]

theorem exists_master_iff (w : List FabReq) (k : Nat) : (∃ q ∈ w, q.m.id.val = k) ↔ k ∈ w.map (fun q => q.m.id.val) := by
  rw [List.mem_map]

/-! ### A request that is accepted -/

theorem Dev.showTags_keeps {α : Type} (P : Dev → α) (hreg : ∀ (d : Dev) a w, P (d.setReg a w) = P d) (d : Dev) : P d.showTags = P d :=
  (hreg _ _ _).trans (hreg _ _ _)

theorem Dev.showTags_fab (d : Dev) : d.showTags.fab = d.fab := Dev.showTags_keeps Dev.fab (fun _ _ _ => rfl) d

theorem Dev.showTags_inUse (d : Dev) : d.showTags.fld 0 F.FAB_TAGS_in_use = (d.tagSum true + d.tagSum false) % 512 := by
  have hother := Dev.fld_setFld_field (d.setFld 0 F.FAB_TAGS_in_use (d.tagSum true + d.tagSum false)) 0 0 F.FAB_TAGS_safety_in_use
    F.FAB_TAGS_in_use (d.tagSum true) (by norm_num) rfl (by norm_num)
  exact hother.trans (Dev.fld_setFld_same _ _ _ _ (by norm_num))

/-- The fabric once the oldest request of a master is accepted: a shared master's grants are counted (R29). -/
def Dev.acceptedFab (d : Dev) (m : Nat) (q : FabReq) : Fabric :=
  if safetyClass m then { d.fab with waiting := d.fab.waiting.erase q, running := d.fab.running ++ [q] }
  else if m = d.fab.holder ∧ d.fab.grants < d.fabWeight m then
    { d.fab with waiting := d.fab.waiting.erase q, running := d.fab.running ++ [q], grants := d.fab.grants + 1 }
  else { d.fab with waiting := d.fab.waiting.erase q, running := d.fab.running ++ [q], holder := m, grants := 1 }

theorem Dev.acceptedFab_spec (d : Dev) (m : Nat) (q : FabReq) : (d.acceptedFab m q).waiting = d.fab.waiting.erase q ∧
    (d.acceptedFab m q).running = d.fab.running ++ [q] ∧ (safetyClass m = true ∨ (d.acceptedFab m q).holder = m) := by
  unfold Dev.acceptedFab
  split
  next hclass => exact ⟨rfl, rfl, .inl hclass⟩
  next =>
    split
    next hholds => exact ⟨rfl, rfl, .inr hholds.1.symm⟩
    next => exact ⟨rfl, rfl, .inr rfl⟩

theorem Dev.fabAccept_some {d : Dev} {m : Nat} {q : FabReq} (h : d.fab.waiting.find? (fun x => x.m.id.val == m) = some q) :
    d.fabAccept m = Dev.showTags { d with fab := d.acceptedFab m q } := by
  rw [Dev.fabAccept, h]
  rfl

/-- What an accepted request changes: its master's tags, the requests at the port, the holder of the grant and FAB_TAGS. -/
theorem Dev.fabAccept_spec {d : Dev} {m : Nat} (h : ∃ q ∈ d.fab.waiting, q.m.id.val = m) :
    (d.fabAccept m).tagsOf m = d.tagsOf m + 1 ∧ (∀ i, i ≠ m → (d.fabAccept m).tagsOf i = d.tagsOf i) ∧
      (∃ q, d.fab.waiting.find? (fun x => x.m.id.val == m) = some q ∧ (d.fabAccept m).fab.running = d.fab.running ++ [q] ∧
        (d.fabAccept m).fab.waiting = d.fab.waiting.erase q) ∧
      (safetyClass m = true ∨ (d.fabAccept m).fab.holder = m) ∧
      (d.fabAccept m).fld 0 F.FAB_TAGS_in_use = ((d.fabAccept m).tagSum true + (d.fabAccept m).tagSum false) % 512 := by
  obtain ⟨q0, hq0, hm0⟩ := h
  obtain ⟨q, hq⟩ : ∃ q, d.fab.waiting.find? (fun x => x.m.id.val == m) = some q :=
    Option.isSome_iff_exists.mp (List.find?_isSome.mpr ⟨q0, hq0, beq_iff_eq.mpr hm0⟩)
  have hm : q.m.id.val = m := by simpa using List.find?_some hq
  have he := Dev.fabAccept_some hq
  have hfab : (d.fabAccept m).fab = d.acceptedFab m q := by rw [he, Dev.showTags_fab]
  obtain ⟨hwaiting, hrunning, hholder⟩ := d.acceptedFab_spec m q
  have htags : ∀ i, (d.fabAccept m).tagsOf i = d.tagsOf i + if q.m.id.val = i then 1 else 0 := by
    intro i
    rw [Dev.tagsOf, hfab, hrunning, List.filter_append, List.length_append, Dev.tagsOf]
    by_cases hi : q.m.id.val = i <;> simp [hi]
  refine ⟨?_, fun i hi => ?_, ⟨q, hq, ?_, ?_⟩, ?_, ?_⟩
  · rw [htags, if_pos hm]
  · rw [htags, if_neg (fun h => hi (h.symm.trans hm)), Nat.add_zero]
  · rw [hfab, hrunning]
  · rw [hfab, hwaiting]
  · rw [hfab]
    exact hholder
  · have hsum : ∀ c, (d.fabAccept m).tagSum c = Dev.tagSum { d with fab := d.acceptedFab m q } c := by
      intro c
      rw [Dev.tagSum, hfab]
      rfl
    rw [hsum, hsum, he, Dev.showTags_inUse]

theorem Dev.fabAccept_frame (d : Dev) (m : Nat) : (d.fabAccept m).mem = d.mem ∧ (d.fabAccept m).units = d.units ∧
    (d.fabAccept m).legs = d.legs ∧ (d.fabAccept m).nvs = d.nvs ∧ (d.fabAccept m).lanes = d.lanes := by
  cases h : d.fab.waiting.find? (fun x => x.m.id.val == m) with
  | none =>
    have he : d.fabAccept m = d := by rw [Dev.fabAccept, h]
    rw [he]
    exact ⟨rfl, rfl, rfl, rfl, rfl⟩
  | some q =>
    rw [Dev.fabAccept_some h]
    exact ⟨Dev.showTags_keeps Dev.mem (fun _ _ _ => rfl) _, Dev.showTags_keeps Dev.units (fun _ _ _ => rfl) _,
      Dev.showTags_keeps Dev.legs (fun _ _ _ => rfl) _, Dev.showTags_keeps Dev.nvs (fun _ _ _ => rfl) _,
      Dev.showTags_keeps Dev.lanes (fun _ _ _ => rfl) _⟩

/-! ### A request that starves -/

/-- The first request that meets a condition is told of, once. -/
theorem changeFirst_told {p : FabReq → Bool} (hp : ∀ x, p x = true → x.told = false) {l : List FabReq} (h : ∃ q ∈ l, p q = true) :
    ((changeFirst p (fun x => { x with told := true }) l).filter (fun q => q.told)).length = (l.filter (fun q => q.told)).length + 1 := by
  induction l with
  | nil => simp at h
  | cons x t ih =>
    unfold changeFirst
    cases hx : p x with
    | true =>
      rw [if_pos rfl, List.filter_cons_of_pos rfl, List.filter_cons_of_neg (by simp [hp x hx]), List.length_cons]
    | false =>
      have ht : ∃ q ∈ t, p q = true := by
        obtain ⟨q, hq, hpq⟩ := h
        refine ⟨q, (List.mem_cons.mp hq).resolve_left (fun hqx => ?_), hpq⟩
        rw [hqx, hx] at hpq
        exact absurd hpq (by decide)
      rw [if_neg (by simp)]
      cases htold : x.told with
      | true => rw [List.filter_cons_of_pos htold, List.filter_cons_of_pos htold, List.length_cons, List.length_cons, ih ht]
      | false => rw [List.filter_cons_of_neg (by simp [htold]), List.filter_cons_of_neg (by simp [htold]), ih ht]

/-- FAB_STARVE and the event of a request that has starved (R30, R33). -/
def Dev.tellStarve (d : Dev) (m : MasterId) : Dev :=
  ((d.setFld 0 F.FAB_STARVE_master m).bump 0 F.FAB_STARVE_count).raise Ev.FABRIC_STARVE (scopeMaster m) 0

theorem Dev.tellStarve_keeps {α : Type} (P : Dev → α) (hreg : ∀ (d : Dev) a w, P (d.setReg a w) = P d)
    (hraise : ∀ (d : Dev) src scope arg, src < 0x100 → P (d.raise src scope arg) = P d) (d : Dev) (m : MasterId) : P (d.tellStarve m) = P d :=
  (hraise _ _ _ _ (by norm_num)).trans ((hreg _ _ _).trans (hreg _ _ _))

/-- A register outside the router's reads after an event as before. -/
theorem Dev.raise_fld (d : Dev) {src : Nat} (hs : src < 0x100) (scope arg b : Nat) (f : Fld) (h : ¬ RouterReg (b + f.off)) :
    (d.raise src scope arg).fld b f = d.fld b f := congrArg (fun w => fget w f) (Dev.raise_reg d src scope arg (b + f.off) hs h)

theorem Dev.fld_bump_same (d : Dev) (b : Nat) (f : Fld) (h : f.lo + f.w ≤ 32) : (d.bump b f).fld b f = satInc f.w (d.fld b f) :=
  (Dev.fld_setFld_same d b f _ h).trans (Nat.mod_eq_of_lt (satInc_lt _ _))

theorem Dev.tellStarve_fields (d : Dev) (m : MasterId) : (d.tellStarve m).fld 0 F.FAB_STARVE_master = m.val ∧
    (d.tellStarve m).fld 0 F.FAB_STARVE_count = satInc 16 (d.fld 0 F.FAB_STARVE_count) := by
  have hrouter : ¬ RouterReg (0 + F.FAB_STARVE_master.off) := chip_not_routerReg (by norm_num) (by norm_num)
  have hrouter' : ¬ RouterReg (0 + F.FAB_STARVE_count.off) := hrouter
  have hs : Ev.FABRIC_STARVE < 0x100 := by norm_num
  have hmaster := Dev.fld_setFld_field (d.setFld 0 F.FAB_STARVE_master m.val) 0 0 F.FAB_STARVE_count F.FAB_STARVE_master
    (satInc F.FAB_STARVE_count.w ((d.setFld 0 F.FAB_STARVE_master m.val).fld 0 F.FAB_STARVE_count)) (by norm_num) rfl (by norm_num)
  have hcount := Dev.fld_setFld_field d 0 0 F.FAB_STARVE_master F.FAB_STARVE_count m.val (by norm_num) rfl (by norm_num)
  constructor
  · rw [Dev.tellStarve, Dev.raise_fld _ hs _ _ _ _ hrouter, Dev.bump, hmaster, Dev.fld_setFld_same _ _ _ _ (by norm_num)]
    exact Nat.mod_eq_of_lt (m.isLt.trans (by norm_num))
  · rw [Dev.tellStarve, Dev.raise_fld _ hs _ _ _ _ hrouter', Dev.fld_bump_same _ _ _ (by norm_num), hcount]

end Sys2Proof.Machine
end

section
/-! What faults leave of memory and of a block's own registers, and the passes of the scrubber (R35, R436, R437). -/

namespace Sys2Proof.Machine

/-! ### What faults of units change -/

/-- The registers of units and legs. -/
def SideReg (a : Nat) : Prop := (∃ u, u < 32 ∧ unitReg u ≤ a ∧ a < unitReg u + 0x40) ∨ ∃ k, legReg k ≤ a ∧ a < legReg k + 0x100

theorem sideReg_unit {u x : Nat} (hu : u < 32) (hx : x < 0x40) : SideReg (unitReg u + x) :=
  .inl ⟨u, hu, Nat.le_add_right _ _, Nat.add_lt_add_left hx _⟩

theorem sideReg_leg (k : Nat) {x : Nat} (hx : x < 0x100) : SideReg (legReg k + x) :=
  .inr ⟨k, Nat.le_add_right _ _, Nat.add_lt_add_left hx _⟩

theorem blkReg_not_sideReg {b x : Nat} (hx : x < 0x8000) : ¬ SideReg (blkReg b + x) := by
  rintro (⟨u, hu, h1, h2⟩ | ⟨k, h1, h2⟩)
  · unfold unitReg at h1 h2
    unfold blkReg blkBase rgnBase at h1 h2
    omega
  · unfold legReg blkReg blkBase rgnBase at h1 h2
    omega

/-- What no fault of a unit can change: it depends on no leg, unit or cause time and on no register of units and legs. -/
structure SideKept {α : Type} (P : Dev → α) : Prop where
  reg : ∀ (d : Dev) a w, SideReg a → P (d.setReg a w) = P d
  leg : ∀ (d : Dev) k l, P (d.setLeg k l) = P d
  unit : ∀ (d : Dev) u x, P (d.setUnit u x) = P d
  note : ∀ (d : Dev) a v, P (d.noteSet a v) = P d
  cause : ∀ (d : Dev) x, P { d with causeAt := x } = P d
  dac : ∀ (d : Dev) x, P { d with dacAt := x } = P d

section
variable {α : Type} {P : Dev → α} (h : SideKept P)
include h

theorem SideKept.latchUnit {u : Nat} (hu : u < 32) (d : Dev) (i : Nat) : P (d.latchCause (unitCause u) i) = P d := by
  refine Dev.latchCause_keepsAt P (fun d w => h.reg d _ w (sideReg_unit hu (by norm_num))) (fun o ho d w => ?_) h.note h.cause d i
  obtain rfl : o = 8 := by simpa [unitCause] using ho.symm
  exact ⟨h.reg d _ w (sideReg_unit hu (by norm_num : 0x14 < 0x40)), h.reg d _ w (sideReg_unit hu (by norm_num : 0x18 < 0x40))⟩

theorem SideKept.countFault {u : Nat} (hu : u < 32) (d : Dev) : P (d.countFault u) = P d := by
  have hreg : unitBase u + F.UNIT_CNT_faults.off = unitReg u + 0x1C := by
    unfold unitBase unitReg
    norm_num
    omega
  refine (h.unit _ _ _).trans (h.reg _ _ _ ?_)
  rw [hreg]
  exact sideReg_unit hu (by norm_num)

theorem SideKept.checkUnit (d : Dev) (u : Nat) : P (d.checkUnit u) = P d := Dev.checkUnit_keeps P h.unit d u

theorem SideKept.tryOn (d : Dev) (k t : Nat) : P (d.tryOn k t) = P d := by
  have hdac : ∀ (d : Dev) r n old, P (d.dacStepped r n old) = P d := by
    intro d r n old
    unfold Dev.dacStepped
    split
    · rfl
    · exact h.dac _ _
  unfold Dev.tryOn
  extract_lets l
  split
  · rfl
  next s _ =>
    split
    · split
      · exact h.leg _ _ _
      · extract_lets ramp x y d1
        have hd1 : P d1 = P d := (hdac _ _ _ _).trans (h.leg _ _ _)
        split
        · exact (h.reg d1 _ _ (sideReg_leg k (by norm_num))).trans hd1
        · exact (h.reg d1 _ _ (sideReg_leg k (by norm_num))).trans hd1
    · rfl

theorem SideKept.orderOff (d : Dev) (k : Nat) (hsl : Bool) : P (d.orderOff k hsl) = P d := by
  unfold Dev.orderOff
  extract_lets l
  split
  case h_1 => exact h.leg _ _ _
  case h_2 => exact h.leg _ _ _
  case h_6 => rfl
  all_goals
    split
    · exact h.leg _ _ _
    · rfl

theorem SideKept.orderSoft (d : Dev) (k : Nat) (hsl : Bool) : P (d.orderSoft k hsl) = P d := by
  unfold Dev.orderSoft
  extract_lets l lead entered go
  have hgo : P go = P d := h.leg _ _ _
  split
  case h_1 => exact hgo
  case h_2 => exact hgo
  case h_7 => rfl
  all_goals
    split
    · exact hgo
    · rfl

theorem SideKept.orderAsc (d : Dev) (k : Nat) (s : Side) (hsl : Bool) : P (d.orderAsc k s hsl) = P d := by
  unfold Dev.orderAsc
  extract_lets l st l1 go
  have hgo : P go = P d := (h.tryOn _ _ _).trans (h.leg _ _ _)
  split
  case h_1 => exact hgo
  case h_2 => exact hgo
  case h_3 => exact hgo
  case h_8 => rfl
  all_goals
    split
    · exact hgo
    · rfl

theorem SideKept.order (d : Dev) (k : Nat) (a : Action) (hsl : Bool) : P (d.order k a hsl) = P d := by
  cases a
  case none => rfl
  case off => exact h.orderOff d k hsl
  case soft => exact h.orderSoft d k hsl
  case ascLow => exact h.orderAsc d k .low hsl
  case ascHigh => exact h.orderAsc d k .high hsl

theorem SideKept.takeDecision (d : Dev) (u : Nat) (a : Action) : P (d.takeDecision u a) = P d :=
  (h.checkUnit _ _).trans ((Dev.each_keeps P _ (fun k d => h.order d k a false) _ _).trans (h.unit _ _ _))

theorem SideKept.shutUnit (d : Dev) (u : Nat) : P (d.shutUnit u) = P d :=
  (Dev.each_keeps P _ (fun _ _ => h.leg _ _ _) _ _).trans (h.unit _ _ _)

theorem SideKept.unitFault {u : Nat} (hu : u < 32) (d : Dev) (bit : Nat) : P (d.unitFault u bit) = P d := by
  have hlatch := h.latchUnit hu d bit
  unfold Dev.unitFault
  extract_lets d1 x
  split
  · exact (h.takeDecision _ _ _).trans ((h.shutUnit _ _).trans ((h.countFault hu _).trans hlatch))
  · split
    · exact hlatch
    · exact (h.countFault hu _).trans hlatch

theorem SideKept.unitLevelFault {u : Nat} (hu : u < 32) (d : Dev) (bit : Nat) : P (d.unitLevelFault u bit) = P d := by
  unfold Dev.unitLevelFault
  split
  · exact (h.takeDecision _ _ _).trans ((h.countFault hu _).trans (h.latchUnit hu _ _))
  · exact h.unitFault hu d bit

/-! ### Faults of the chip -/

theorem SideKept.powerOnLeg (d : Dev) (k : Nat) : P (d.powerOnLeg k) = P d := by
  unfold Dev.powerOnLeg
  extract_lets l
  split
  · rfl
  · exact h.leg _ _ _

theorem SideKept.markHsl (d : Dev) (k : Nat) (on : Bool) : P (d.markHsl k on) = P d := by
  unfold Dev.markHsl
  extract_lets l
  split
  · rfl
  · exact h.leg _ _ _

theorem SideKept.overruleTrip (d : Dev) (k : Nat) : P (d.overruleTrip k) = P d := by
  unfold Dev.overruleTrip
  extract_lets l
  split
  · exact h.leg _ _ _
  · rfl

theorem SideKept.hslApply (d : Dev) (u : Nat) (a : Action) : P (d.hslApply u a) = P d := by
  unfold Dev.hslApply
  extract_lets x d1 d2
  have hd1 : P d1 = P d := by
    simp only [d1]
    split
    · exact h.shutUnit d u
    · rfl
  refine (Dev.each_keeps P _ (fun k e => ?_) _ _).trans ((h.unit _ _ _).trans hd1)
  extract_lets f
  have hf : P f = P e := h.overruleTrip e k
  split
  · exact (h.markHsl _ _ _).trans hf
  · exact (h.markHsl _ _ _).trans ((h.order _ _ _ _).trans hf)

theorem SideKept.chipLockUnit {u : Nat} (hu : u < 32) (d : Dev) : P (d.chipLockUnit u) = P d := by
  unfold Dev.chipLockUnit
  extract_lets was d1 d2
  have hd1 : P d1 = P d := (h.countFault hu _).trans (h.latchUnit hu _ _)
  have hd2 : P d2 = P d := by
    simp only [d2]
    split
    · exact (Dev.each_keeps P _ (fun k e => h.powerOnLeg e k) _ _).trans hd1
    · exact (h.hslApply _ _ _).trans hd1
  exact (h.unit _ _ _).trans hd2

end

/-! ### Memory and its bad words -/

/-- The memories and the marks of their bad words. -/
def Dev.stored (d : Dev) : Store Byte × Store Bool := (d.mem, d.bad)

theorem Dev.stored_setReg (d : Dev) (a : Nat) (w : Word) : (d.setReg a w).stored = d.stored := rfl

theorem Dev.stored_bump (d : Dev) (b : Nat) (f : Fld) : (d.bump b f).stored = d.stored := rfl

theorem Dev.stored_haltLane (d : Dev) (b : Nat) : (d.haltLane b).stored = d.stored := rfl

theorem Dev.stored_raise (d : Dev) (src scope arg : Nat) (hs : src < 0x100) : (d.raise src scope arg).stored = d.stored :=
  congrArg₂ Prod.mk (d.raise_mem src scope arg hs) (d.raise_bad src scope arg hs)

theorem sideKept_stored : SideKept Dev.stored :=
  ⟨fun _ _ _ _ => rfl, fun _ _ _ => rfl, fun _ _ _ => rfl, fun _ _ _ => rfl, fun _ _ => rfl, fun _ _ => rfl⟩

theorem Dev.stored_latchCause (d : Dev) (c : CauseReg) (i : Nat) : (d.latchCause c i).stored = d.stored :=
  Dev.latchCause_keeps Dev.stored Dev.stored_setReg (fun _ _ _ => rfl) (fun _ _ => rfl) d c i

theorem Dev.stored_chipFault (d : Dev) (bit : Nat) : (d.chipFault bit).stored = d.stored := by
  have hlow : ∀ (e : Dev) n, (e.safeOutLow n).stored = e.stored := fun e n => (Dev.stored_setReg _ _ _).trans (Dev.stored_setReg _ _ _)
  unfold Dev.chipFault
  extract_lets d1 d2
  have hd1 : d1.stored = d.stored :=
    (Dev.stored_raise _ _ _ _ (by norm_num)).trans ((Dev.stored_setReg _ _ _).trans (Dev.stored_latchCause _ _ _))
  have hd2 : d2.stored = d.stored := (hlow _ _).trans ((hlow _ _).trans ((Dev.stored_setReg _ _ _).trans hd1))
  exact (Dev.each_keeps_of_mem Dev.stored _ _ (fun u hu e => sideKept_stored.chipLockUnit (List.mem_range.mp hu) e) d2).trans hd2

theorem Dev.stored_holdPair (d : Dev) : d.holdPair.stored = d.stored := rfl

theorem Dev.stored_pairLoss (d : Dev) : d.pairLoss.stored = d.stored := (Dev.stored_holdPair _).trans (d.stored_chipFault 1)

theorem Dev.stored_orReg (d : Dev) (a v : Nat) : (d.orReg a v).stored = d.stored := rfl

theorem Dev.stored_errAddr (d : Dev) (reg a : Nat) : (d.errAddr reg a).stored = d.stored := rfl

theorem Dev.stored_cellarAlarm (d : Dev) (bit : Nat) : (d.cellarAlarm bit).stored = d.stored :=
  (Dev.stored_chipFault _ _).trans ((Dev.stored_setReg _ _ _).trans (Dev.stored_orReg _ _ _))

theorem blockUnits_lt {d : Dev} {b u : Nat} (h : u ∈ d.blockUnits b) : u < 32 := List.mem_range.mp (List.mem_of_mem_filter h)

/-- The cause of a block fault, its count and its event, and its lane halted. -/
def Dev.blockHalted (d : Dev) (b bit : Nat) : Dev :=
  (((d.latchCause (blkCause b) bit).bump (blkReg b) F.BLK_CAUSE_CNT_count).raise Ev.BLOCK_FAULT (scopeBlk b) bit).haltLane b

/-- Of what the units' faults leave, a block fault changes its own cause registers and its lane. -/
theorem SideKept.blockFault {α : Type} {P : Dev → α} (h : SideKept P) (d : Dev) (b bit : Nat) : P (d.blockFault b bit) = P (d.blockHalted b bit) :=
  Dev.each_keeps_of_mem P _ _ (fun _ hu e => h.unitLevelFault (blockUnits_lt hu) e 5) _

theorem Dev.stored_blockFault (d : Dev) (b bit : Nat) : (d.blockFault b bit).stored = d.stored := by
  exact (sideKept_stored.blockFault d b bit).trans ((Dev.stored_haltLane _ _).trans ((Dev.stored_raise _ _ _ _ (by norm_num)).trans
    ((Dev.stored_bump _ _ _).trans (d.stored_latchCause _ _))))

theorem Dev.stored_laneMemFault (d : Dev) (b bit a : Nat) : (d.laneMemFault b bit a).stored = d.stored :=
  (Dev.stored_blockFault _ _ _).trans ((Dev.stored_errAddr _ _ _).trans (Dev.stored_orReg _ _ _))

/-- What an uncorrectable word sets off changes no memory and no mark of a bad word. -/
theorem Dev.stored_uncorrectable (d : Dev) (a : Nat) : (d.uncorrectable a).stored = d.stored := by
  have hraise : ∀ (e : Dev) scope arg, (e.raise Ev.MEM_UNCORR scope arg).stored = e.stored := fun e s c => e.stored_raise _ _ _ (by norm_num)
  have herr : ∀ (e : Dev) r, ((e.errAddr r a).raise Ev.MEM_UNCORR scopeChip a).stored = e.stored :=
    fun e r => (hraise _ _ _).trans (e.stored_errAddr r a)
  unfold Dev.uncorrectable
  extract_lets inactive
  have hinactive : ∀ b bit, (inactive b bit).stored = d.stored := fun b bit => (herr _ _).trans (d.stored_orReg _ _)
  split
  · exact d.stored_laneMemFault _ _ _
  · split
    · exact d.stored_laneMemFault _ _ _
    · exact hinactive _ _
  · split
    · exact d.stored_laneMemFault _ _ _
    · exact hinactive _ _
  · exact (herr _ _).trans (d.stored_setReg _ _)
  · exact (herr _ _).trans (d.stored_setReg _ _)
  · exact herr _ _
  · exact herr _ _
  · split
    · exact herr _ _
    · exact (Dev.stored_pairLoss _).trans (d.stored_errAddr _ _)
  · exact (Dev.stored_cellarAlarm _ _).trans (d.stored_errAddr _ _)
  · rfl

/-! ### The registers of a block fault -/

theorem sideKept_reg {a : Nat} (ha : ¬ SideReg a) : SideKept (fun d => d.reg a) :=
  ⟨fun _ _ _ h => Dev.reg_setReg_ne _ _ (fun e => ha (e ▸ h)), fun _ _ _ => rfl, fun _ _ _ => rfl, fun _ _ _ => rfl, fun _ _ => rfl,
    fun _ _ => rfl⟩

theorem bitOf_withBits_out {v lo w x i : Nat} (h : i < lo ∨ lo + w ≤ i) : bitOf (withBits v lo w x) i = bitOf v i := by
  rw [bitOf_eq_testBit, bitOf_eq_testBit, testBit_withBits, if_neg (by omega)]

theorem bitOf_or_pow (v i : Nat) : bitOf (v ||| 2 ^ i) i = true := by
  rw [bitOf_eq_testBit, Nat.testBit_or, Nat.testBit_two_pow_self, Bool.or_true]

/-- A bit below 32 that a word is given stands in it. -/
theorem bitOf_ofNat {v i : Nat} (hi : i < 32) : bitOf (BitVec.ofNat 32 v).toNat i = bitOf v i := by
  rw [bitOf_eq_testBit, bitOf_eq_testBit, BitVec.toNat_ofNat, Nat.testBit_mod_two_pow]
  simp [hi]

/-- The bit of a latched cause is set. -/
theorem Dev.latchCause_bit (d : Dev) (c : CauseReg) {i : Nat} (hi : i < 32) (hlo : i < c.lo) (hvalid : i < c.valid)
    (hts : ∀ o, c.ts = some o → 0 < o) : bitOf ((d.latchCause c i).reg c.at_).toNat i = true := by
  have hset : ∀ (e : Dev) v, bitOf v i = true → bitOf ((e.setReg c.at_ (BitVec.ofNat 32 v)).reg c.at_).toNat i = true := by
    intro e v hv
    rw [Dev.reg_setReg_same, bitOf_ofNat hi, hv]
  have hstamp : ∀ (e : Dev) o, 0 < o → (e.stamp (c.at_ + o)).reg c.at_ = e.reg c.at_ := by
    intro e o ho
    rw [Dev.stamp, Dev.reg_setReg_ne _ _ (by omega), Dev.reg_setReg_ne _ _ (by omega)]
  have hor := bitOf_or_pow (d.reg c.at_).toNat i
  have hin : bitOf (withBits ((d.reg c.at_).toNat ||| 2 ^ i) c.lo c.w i) i = true := by
    rw [bitOf_withBits_out (.inl hlo), hor]
  have hfirst : bitOf (withBits (withBits ((d.reg c.at_).toNat ||| 2 ^ i) c.lo c.w i) c.valid 1 1) i = true := by
    rw [bitOf_withBits_out (.inl hvalid), hin]
  unfold Dev.latchCause
  extract_lets v v1 e e1 e2
  split
  · have he2 : e2.reg c.at_ = e1.reg c.at_ := by
      cases ho : c.ts with
      | none => simp only [e2, ho]
      | some o => simpa only [e2, ho] using hstamp e1 o (hts o ho)
    exact (congrArg (fun w : Word => bitOf w.toNat i) he2).trans (hset _ _ hfirst)
  · split
    · exact hset _ _ hin
    · exact hset _ _ hor

theorem Dev.latchCause_blk_bit (d : Dev) (b : Nat) {i : Nat} (hi : i < 8) :
    bitOf ((d.latchCause (blkCause b) i).reg (blkReg b + 0x40)).toNat i = true := by
  refine Dev.latchCause_bit d (blkCause b) (by omega) hi (hi.trans (by norm_num [blkCause])) (fun o ho => ?_)
  obtain rfl : o = 4 := by simpa [blkCause] using ho.symm
  norm_num

theorem Dev.haltLane_reg (d : Dev) (b a : Nat) : (d.haltLane b).reg a = d.reg a := rfl

/-- A register of a block outside its cause and condition registers reads after a block fault as before. -/
theorem Dev.blockFault_reg (d : Dev) (b bit : Nat) {x : Nat} (hx : x < 0x8000) (hcond : x ≠ 0x30) (hcnt : x ≠ 0x4C) :
    (d.blockFault b bit).reg (blkReg b + x) = (d.latchCause (blkCause b) bit).reg (blkReg b + x) := by
  have hcount : F.BLK_CAUSE_CNT_count.off = 0x4C := rfl
  have hhalted : (d.blockFault b bit).reg (blkReg b + x) = (d.blockHalted b bit).reg (blkReg b + x) :=
    (sideKept_reg (blkReg_not_sideReg hx)).blockFault d b bit
  rw [hhalted, Dev.blockHalted, Dev.haltLane_reg, Dev.raise_reg _ _ _ _ _ (by norm_num) (blkReg_not_routerReg hx hcond), Dev.bump,
    Dev.reg_setFld_ne _ _ _ _ _ (by rw [hcount]; omega)]

theorem Dev.latchCause_blk_reg (d : Dev) (b i : Nat) {x : Nat} (hx : x < 0x40 ∨ 0x4C ≤ x) :
    (d.latchCause (blkCause b) i).reg (blkReg b + x) = d.reg (blkReg b + x) := by
  have hat : (blkCause b).at_ = blkReg b + 0x40 := rfl
  refine Dev.latchCause_keepsAt (fun d => d.reg (blkReg b + x)) (fun d w => ?_) (fun o ho d w => ?_) (fun _ _ _ => rfl) (fun _ _ => rfl) d i
  · exact Dev.reg_setReg_ne _ _ (by rw [hat]; omega)
  · obtain rfl : o = 4 := by simpa [blkCause] using ho.symm
    exact ⟨Dev.reg_setReg_ne _ _ (by rw [hat]; omega), Dev.reg_setReg_ne _ _ (by rw [hat]; omega)⟩

/-- An uncorrectable word of a block's data memory is a block fault, with its flag and address (R436). -/
theorem Dev.laneMemFault_regs (d : Dev) (b a : Nat) :
    bitOf ((d.laneMemFault b 18 a).reg (blkReg b + 0x40)).toNat 1 = true ∧
      bitOf ((d.laneMemFault b 18 a).reg (blkReg b + 0x70)).toNat 18 = true ∧
      (d.laneMemFault b 18 a).reg (blkReg b + 0x74) = BitVec.ofNat 32 a := by
  unfold Dev.laneMemFault
  refine ⟨?_, ?_, ?_⟩
  · rw [Dev.blockFault_reg _ _ _ (by norm_num) (by norm_num) (by norm_num)]
    exact Dev.latchCause_blk_bit _ _ (by norm_num)
  · rw [Dev.blockFault_reg _ _ _ (by norm_num) (by norm_num) (by norm_num), Dev.latchCause_blk_reg _ _ _ (by norm_num), Dev.errAddr,
      Dev.reg_setReg_ne _ _ (by omega), Dev.orReg_reg_same _ _ (by norm_num), ← or_toNat_ofNat _ (by norm_num), bitOf_ofNat (by norm_num)]
    exact bitOf_or_pow _ 18
  · rw [Dev.blockFault_reg _ _ _ (by norm_num) (by norm_num) (by norm_num), Dev.latchCause_blk_reg _ _ _ (by norm_num), Dev.errAddr,
      Dev.reg_setReg_same]

/-! ### What the scrubber meets -/

section
variable (d : Dev) {a : Nat}

theorem Dev.uncorrectable_data {b : Nat} (h : memKind a = some (.data b)) : d.uncorrectable a = d.laneMemFault b 18 a := by
  rw [Dev.uncorrectable, h]

theorem Dev.uncorrectable_chipRam (h : memKind a = some .chipRam) :
    d.uncorrectable a = (d.errAddr 0x40040104 a).raise Ev.MEM_UNCORR scopeChip a := by
  rw [Dev.uncorrectable, h]

theorem Dev.isBad_of_bad {d e : Dev} (h : e.bad = d.bad) (a : Nat) : e.isBad a = d.isBad a :=
  congrArg (fun m => Store.get (fun _ => false) m (a / 8)) h

/-- An uncorrectable word that is met: reported, with no memory changed (R436). -/
theorem Dev.uncorrectable_met (x : Word) (b : BlockId) (hbad : d.isBad x.toNat = true) :
    (d.uncorrectable x.toNat).isBad x.toNat = true ∧ (d.uncorrectable x.toNat).mem = d.mem ∧
      (memKind x.toNat = some (.data b) → bitOf ((d.uncorrectable x.toNat).reg (blkReg b + 0x40)).toNat 1 = true ∧
        bitOf ((d.uncorrectable x.toNat).reg (blkReg b + 0x70)).toNat 18 = true ∧ (d.uncorrectable x.toNat).reg (blkReg b + 0x74) = x) ∧
      (memKind x.toNat = some .chipRam → (d.uncorrectable x.toNat).reg 0x40040104 = x ∧ (d.uncorrectable x.toNat).units = d.units) := by
  have hx : BitVec.ofNat 32 x.toNat = x := by rw [BitVec.ofNat_toNat, BitVec.setWidth_eq]
  obtain ⟨hmem, hbads⟩ := Prod.mk.inj (d.stored_uncorrectable x.toNat)
  refine ⟨(Dev.isBad_of_bad hbads _).trans hbad, hmem, fun hk => ?_, fun hk => ?_⟩
  · rw [d.uncorrectable_data hk]
    obtain ⟨hcause, hflag, haddr⟩ := d.laneMemFault_regs b x.toNat
    exact ⟨hcause, hflag, haddr.trans hx⟩
  · rw [d.uncorrectable_chipRam hk]
    constructor
    · rw [Dev.raise_reg _ _ _ _ _ (by norm_num) (chip_not_routerReg (by norm_num) (by norm_num)), Dev.errAddr, Dev.reg_setReg_same, hx]
    · exact (Dev.raise_units _ _ _ _ (by norm_num)).trans (Dev.setReg_units _ _ _)

/-- A corrected error is counted and reported within its rate, nothing else (R436). -/
theorem Dev.corrected_keeps {α : Type} (P : Dev → α) (hreg : ∀ (d : Dev) a w, P (d.setReg a w) = P d)
    (hraise : ∀ (d : Dev) src scope arg, src < 0x100 → P (d.raise src scope arg) = P d)
    (hat : ∀ (d : Dev) x, P { d with correctedAt := x } = P d) (a : Nat) : P (d.corrected a) = P d := by
  unfold Dev.corrected
  split
  · rfl
  next base f _ =>
    extract_lets d1 key last
    have hd1 : P d1 = P d := hreg _ _ _
    split
    · exact (hraise _ _ _ _ (by norm_num)).trans ((hat d1 _).trans hd1)
    · exact hd1

theorem Dev.corrected_fld {base : Nat} {f : Fld} (h : correctedCount a = some (base, f)) (hr : ¬ RouterReg (base + f.off)) :
    (d.corrected a).fld base f = (d.bump base f).fld base f := by
  rw [Dev.corrected, h]
  dsimp only
  split
  · exact Dev.raise_fld _ (by norm_num) _ _ _ _ hr
  · rfl

theorem Dev.corrected_count {b : Nat} (h : memKind a = some (.data b)) :
    (d.corrected a).fld (blkReg b) F.BLK_MEMERR_ce = satInc 16 (d.fld (blkReg b) F.BLK_MEMERR_ce) := by
  have hcount : correctedCount a = some (blkReg b, F.BLK_MEMERR_ce) := by rw [correctedCount, h]
  exact (d.corrected_fld hcount (blkReg_not_routerReg (by norm_num) (by norm_num))).trans (Dev.fld_bump_same d _ _ (by norm_num))

end

/-! ### A pass of the scrubber -/

/-- The device as a pass begins. -/
def Dev.scrubFrom (d : Dev) (late : Bool) : Dev := { (if late then d.raise Ev.SCRUB_LATE scopeChip 0 else d) with scrubAt := d.now }

theorem Dev.scrubBegin_eq (d : Dev) (late : Bool) :
    d.scrubBegin late = (d.bad.filter (fun x => x.2)).foldl (fun d x => d.uncorrectable (8 * x.1)) (d.scrubFrom late) := by
  have hs : Ev.SCRUB_LATE < 0x100 := by norm_num
  cases late with
  | false => rfl
  | true =>
    unfold Dev.scrubBegin Dev.scrubFrom
    simp only [if_true, Dev.raise_bad _ _ _ _ hs, Dev.raise_now _ _ _ _ hs]

theorem Dev.scrubFrom_keeps {α : Type} (P : Dev → α) (hraise : ∀ (d : Dev) src scope arg, src < 0x100 → P (d.raise src scope arg) = P d)
    (hat : ∀ (d : Dev) t, P { d with scrubAt := t } = P d) (d : Dev) (late : Bool) : P (d.scrubFrom late) = P d := by
  refine (hat _ _).trans ?_
  split
  · exact hraise _ _ _ _ (by norm_num)
  · rfl

section
variable {s : State} {late : Bool}

theorem scrubDue_iff (d : Dev) : d.scrubDue = true ↔ d.scrubAt + d.fld 0 F.MEM_SCRUB_period * cyclesPerMs ≤ d.now := decide_eq_true_iff

theorem exec_scrubPass_due (h : s.dev.scrubAt + s.dev.fld 0 F.MEM_SCRUB_period * cyclesPerMs ≤ s.dev.now) (found : List (Word × Bool)) :
    exec (.scrubPass late found) s = .next ⟨found.foldl Dev.scrubWord (s.dev.scrubBegin late), s.pending⟩ :=
  congrArg (fun d => Host.Outcome.next (State.mk (found.foldl Dev.scrubWord d) s.pending)) (if_pos ((scrubDue_iff _).mpr h))

theorem exec_scrubPass_early (h : ¬ s.dev.scrubAt + s.dev.fld 0 F.MEM_SCRUB_period * cyclesPerMs ≤ s.dev.now) (found : List (Word × Bool)) :
    exec (.scrubPass late found) s = .next ⟨found.foldl Dev.scrubWord s.dev, s.pending⟩ :=
  congrArg (fun d => Host.Outcome.next (State.mk (found.foldl Dev.scrubWord d) s.pending)) (if_neg (fun hd => h ((scrubDue_iff _).mp hd)))

end

end Sys2Proof.Machine
end

section
/-! Writes of program memory, and the loader (R76, R82, R140, R150 to R154). -/

namespace Sys2Proof.Machine

/-! ### The memories of a block -/

theorem memKind_block {b y : Nat} (hb : b < 16) (hy : y < 0x100000) : memKind (blkBase b + y) =
    if y < 0x20000 then some (.program b (y / 0x10000))
    else if 0x40000 ≤ y ∧ y < 0x80000 then some (.data b)
    else if 0x80000 ≤ y ∧ y < 0x90000 then some (.table b ((y - 0x80000) / 0x8000))
    else if 0xC8000 ≤ y ∧ y < 0xC8400 then some (.intake b) else none := by
  have hr : (blkBase b + y - 0x20000000) / 0x1000000 = b / 4 := by
    unfold blkBase rgnBase
    omega
  have hx : (blkBase b + y - 0x20000000) % 0x1000000 = 0x400000 + b % 4 * 0x100000 + y := by
    unfold blkBase rgnBase
    omega
  have hblk : 4 * (b / 4) + (0x400000 + b % 4 * 0x100000 + y - 0x400000) / 0x100000 = b := by omega
  have hoff : (0x400000 + b % 4 * 0x100000 + y) % 0x100000 = y := by omega
  have hlo : 0x20000000 ≤ blkBase b + y ∧ blkBase b + y < 0x24000000 := by
    unfold blkBase rgnBase
    omega
  unfold memKind
  rw [if_neg (by omega), if_neg (by omega), if_neg (by omega), if_neg (by omega), if_neg (by omega), if_neg (by omega), if_pos hlo]
  dsimp only
  rw [hr, hx, if_neg (by omega), if_neg (by omega), if_pos (by omega), hblk, hoff]

/-- Whether an offset of a block's program and table memory lies in the slot or bank in force (R82, R140). -/
def Dev.imageActive (d : Dev) (b off : Nat) : Bool :=
  if off < 0x20000 then d.activeSlot (b / 4) == off / 0x10000 else d.activeBank (b / 4) == (off - 0x80000) / 0x8000

section
variable {d : Dev} {m a n v : Nat} {k : MemKind}

/-- A memory of a block turns away masters from 10 on, and a locked range every master but the Cellar. -/
theorem Dev.memWrite_guards (hk : memKind a = some k) (hnvs : (k == .nvs) = false) (hadm : d.admits k m = decide (m < 10)) :
    (10 ≤ m → d.memWrite m a n v = (false, d.accessRefused m a)) ∧
      (m < 10 → m ≠ 5 ∧ d.inLock a = true → d.memWrite m a n v = (true, d.raise Ev.CEL_LOCK_VIOLATION scopeChip 0)) := by
  rw [Dev.memWrite, hk]
  dsimp only
  rw [hnvs, hadm, if_neg (by decide)]
  refine ⟨fun hten => if_pos (by simpa using hten), fun hlt ⟨hfive, hlock⟩ => ?_⟩
  exact (if_neg (by simpa using hlt)).trans (if_pos (by simp [hfive, hlock]))

theorem Dev.memWrite_program {b t : Nat} (hk : memKind a = some (.program b t)) (hm : m < 10) (hlock : ¬ (m ≠ 5 ∧ d.inLock a = true)) :
    d.memWrite m a n v = (true, d.imageWrite b (d.activeSlot (b / 4) == t) a n v) := by
  rw [Dev.memWrite, hk]
  exact (if_neg Bool.false_ne_true).trans ((if_neg (by simpa [Dev.admits] using hm)).trans (if_neg (by simpa using hlock)))

theorem Dev.memWrite_table {b t : Nat} (hk : memKind a = some (.table b t)) (hm : m < 10) (hlock : ¬ (m ≠ 5 ∧ d.inLock a = true)) :
    d.memWrite m a n v = (true, d.imageWrite b (d.activeBank (b / 4) == t) a n v) := by
  rw [Dev.memWrite, hk]
  exact (if_neg Bool.false_ne_true).trans ((if_neg (by simpa [Dev.admits] using hm)).trans (if_neg (by simpa using hlock)))

/-- A write of program or table memory by block and offset: turned away, stopped by a lock, or put into the image (R140). -/
theorem Dev.memWrite_image {b off : Nat} (hb : b < 16) (h : off < 0x20000 ∨ (0x80000 ≤ off ∧ off < 0x90000)) :
    ((d.memWrite m (blkBase b + off / 4 * 4) n v).2 = if 10 ≤ m then d.accessRefused m (blkBase b + off / 4 * 4)
      else if m ≠ 5 ∧ d.inLock (blkBase b + off / 4 * 4) = true then d.raise Ev.CEL_LOCK_VIOLATION scopeChip 0
      else d.imageWrite b (d.imageActive b off) (blkBase b + off / 4 * 4) n v) ∧
      ((∃ t, memKind (blkBase b + off / 4 * 4) = some (.program b t)) ∨ ∃ t, memKind (blkBase b + off / 4 * 4) = some (.table b t)) := by
  have hkind := memKind_block hb (y := off / 4 * 4) (by omega)
  generalize blkBase b + off / 4 * 4 = a at *
  by_cases hprog : off < 0x20000
  · have hslot : off / 4 * 4 / 0x10000 = off / 0x10000 := by omega
    rw [if_pos (by omega), hslot] at hkind
    obtain ⟨hrefused, hlocked⟩ := Dev.memWrite_guards (d := d) (m := m) (n := n) (v := v) hkind rfl rfl
    refine ⟨?_, .inl ⟨_, hkind⟩⟩
    by_cases hten : 10 ≤ m
    · rw [hrefused hten, if_pos hten]
    · rw [if_neg hten]
      by_cases hlock : m ≠ 5 ∧ d.inLock a = true
      · rw [hlocked (by omega) hlock, if_pos hlock]
      · rw [Dev.memWrite_program hkind (by omega) hlock, if_neg hlock, Dev.imageActive, if_pos hprog]
  · have hbank : (off / 4 * 4 - 0x80000) / 0x8000 = (off - 0x80000) / 0x8000 := by omega
    rw [if_neg (by omega), if_neg (by omega), if_pos (by omega), hbank] at hkind
    obtain ⟨hrefused, hlocked⟩ := Dev.memWrite_guards (d := d) (m := m) (n := n) (v := v) hkind rfl rfl
    refine ⟨?_, .inr ⟨_, hkind⟩⟩
    by_cases hten : 10 ≤ m
    · rw [hrefused hten, if_pos hten]
    · rw [if_neg hten]
      by_cases hlock : m ≠ 5 ∧ d.inLock a = true
      · rw [hlocked (by omega) hlock, if_pos hlock]
      · rw [Dev.memWrite_table hkind (by omega) hlock, if_neg hlock, Dev.imageActive, if_neg hprog]

end

section
variable {m : Master} {b : BlockId} {off : BitVec 20} {v : Word} {s : State}

theorem exec_programMemoryWrite (h : off.toNat < 0x20000 ∨ (0x80000 ≤ off.toNat ∧ off.toNat < 0x90000)) :
    exec (.programMemoryWrite m b off v) s = .next ⟨
      if 10 ≤ m.id.val then s.dev.accessRefused m.id (blkBase b + off.toNat / 4 * 4)
      else if m.id.val ≠ 5 ∧ s.dev.inLock (blkBase b + off.toNat / 4 * 4) = true then s.dev.raise Ev.CEL_LOCK_VIOLATION scopeChip 0
      else s.dev.imageWrite b (s.dev.imageActive b off.toNat) (blkBase b + off.toNat / 4 * 4) 4 v.toNat, s.pending⟩ := by
  obtain ⟨hwrite, hkind⟩ := Dev.memWrite_image (d := s.dev) (m := m.id) (n := 4) (v := v.toNat) b.isLt h
  obtain ⟨a, ha⟩ : ∃ a, a = blkBase b + off.toNat / 4 * 4 := ⟨_, rfl⟩
  change execProgramMemoryWrite m b off v s = _
  rw [execProgramMemoryWrite, ← hwrite]
  rw [← ha] at hkind ⊢
  generalize s.dev.memWrite m.id a 4 v.toNat = out
  rcases hkind with ⟨t, hk⟩ | ⟨t, hk⟩ <;> rw [hk] <;> rfl

theorem exec_programMemoryWrite_other (h : ¬ (off.toNat < 0x20000 ∨ (0x80000 ≤ off.toNat ∧ off.toNat < 0x90000))) :
    exec (.programMemoryWrite m b off v) s = .next s := by
  have hlt := off.isLt
  have hkind := memKind_block b.isLt (y := off.toNat / 4 * 4) (by omega)
  rw [if_neg (by omega)] at hkind
  change execProgramMemoryWrite m b off v s = _
  rw [execProgramMemoryWrite, hkind, if_neg (show ¬ (0x80000 ≤ off.toNat / 4 * 4 ∧ off.toNat / 4 * 4 < 0x90000) by omega)]
  by_cases hdata : 0x40000 ≤ off.toNat / 4 * 4 ∧ off.toNat / 4 * 4 < 0x80000
  · rw [if_pos hdata]
    rfl
  · rw [if_neg hdata]
    by_cases hintake : 0xC8000 ≤ off.toNat / 4 * 4 ∧ off.toNat / 4 * 4 < 0xC8400
    · rw [if_pos hintake]
      rfl
    · rw [if_neg hintake]
      rfl

end

/-! ### An image that a write drops -/

section
variable (d : Dev) (r : Nat)

/-- The load mark of a region dropped. -/
def Dev.unmarked : Dev := d.setFld (rgnReg r) F.RGN_RACK_CTRL_loaded 0

theorem Dev.unload_eq : d.unload r = if d.armedHere r && d.fld (rgnReg r) F.RGN_RACK_CTRL_what != 2 then
    ((d.unmarked r).setFld (rgnReg r) F.RGN_RACK_STAT_state 0).raise Ev.RACK_REFUSED (scopeRgn r) 3 else d.unmarked r := rfl

theorem Dev.unload_keeps {α : Type} (P : Dev → α) (hreg : ∀ (d : Dev) a w, P (d.setReg a w) = P d)
    (hraise : ∀ (d : Dev) src scope arg, src < 0x100 → P (d.raise src scope arg) = P d) : P (d.unload r) = P d := by
  rw [Dev.unload_eq]
  split
  · exact (hraise _ _ _ _ (by norm_num)).trans ((hreg _ _ _).trans (hreg _ _ _))
  · exact hreg _ _ _

/-- An unload drops the load mark, and an arm of this cycle with it (R524, R528). -/
theorem Dev.unload_fields : (d.unload r).fld (rgnReg r) F.RGN_RACK_CTRL_loaded = 0 ∧
    (d.armedHere r = true → d.fld (rgnReg r) F.RGN_RACK_CTRL_what ≠ 2 → (d.unload r).rackState r = 0) ∧
    (d.armedHere r = false → d.unload r = d.unmarked r) ∧ (d.unmarked r).rackState r = d.rackState r := by
  have hmark : (d.unmarked r).fld (rgnReg r) F.RGN_RACK_CTRL_loaded = 0 :=
    (Dev.fld_setFld_same d (rgnReg r) F.RGN_RACK_CTRL_loaded 0 (by norm_num)).trans (Nat.zero_mod _)
  have hstate : (d.unmarked r).rackState r = d.rackState r :=
    Dev.fld_setFld_ne d (rgnReg r) (rgnReg r) F.RGN_RACK_CTRL_loaded F.RGN_RACK_STAT_state 0 (by norm_num)
  rw [Dev.unload_eq]
  generalize d.unmarked r = e at *
  have hs : Ev.RACK_REFUSED < 0x100 := by norm_num
  refine ⟨?_, fun harm hwhat => ?_, fun harm => if_neg (by simp [harm]), hstate⟩
  · split
    · rw [Dev.raise_fld _ hs _ _ _ _ (rgnReg_not_routerReg _ _ (by norm_num)), Dev.fld_setFld_ne _ _ _ _ _ _ (by norm_num)]
      exact hmark
    · exact hmark
  · rw [if_pos (by simp [harm, hwhat]), Dev.rackState, Dev.raise_fld _ hs _ _ _ _ (rgnReg_not_routerReg _ _ (by norm_num)),
      Dev.fld_setFld_same _ _ _ _ (by norm_num), Nat.zero_mod]

theorem Dev.unmarked_lanes : (d.unmarked r).lanes = d.lanes := Dev.setReg_lanes _ _ _

end

theorem Dev.fld_storeN (d : Dev) (a n v b : Nat) (f : Fld) : (d.storeN a n v).fld b f = d.fld b f :=
  Dev.storeN_keeps (fun d => d.fld b f) (fun _ _ => rfl) (fun _ _ => rfl) d a n v

/-- A word put into an image that is not in use (R82, R140). -/
theorem Dev.imageWrite_spec (d : Dev) {b : Nat} {active : Bool} (a v : Nat) (hin : active = false)
    (huse : d.rackState (b / 4) = 0 ∨ d.armedHere (b / 4) = true) (hbad : d.isBad a = false) (hv : v < 2 ^ 32) :
    (d.imageWrite b active a 4 v).loadN a 4 = v ∧ (∀ y, (y < a ∨ a + 4 ≤ y) → (d.imageWrite b active a 4 v).byte y = d.byte y) ∧
      (d.imageWrite b active a 4 v).fld (rgnReg (b / 4)) F.RGN_RACK_CTRL_loaded = 0 ∧
      ((d.imageWrite b active a 4 v).units = d.units ∧ (d.imageWrite b active a 4 v).legs = d.legs ∧ (d.imageWrite b active a 4 v).nvs = d.nvs) ∧
      (d.rackState (b / 4) = 1 → d.fld (rgnReg (b / 4)) F.RGN_RACK_CTRL_what ≠ 2 → (d.imageWrite b active a 4 v).rackState (b / 4) = 0) ∧
      (d.rackState (b / 4) = 0 → (d.imageWrite b active a 4 v).rackState (b / 4) = 0 ∧ (d.imageWrite b active a 4 v).lanes = d.lanes) := by
  have hwrite : d.imageWrite b active a 4 v = (d.unload (b / 4)).storeN a 4 v := by
    rw [Dev.imageWrite, hin]
    refine if_neg ?_
    rcases huse with huse | huse
    · rw [Dev.rackState] at huse
      simp [huse]
    · simp [huse]
  have hstored : (d.unload (b / 4)).stored = d.stored := Dev.unload_keeps d _ Dev.stored Dev.stored_setReg Dev.stored_raise
  obtain ⟨hmem, hbads⟩ := Prod.mk.inj hstored
  have hunits := Dev.unload_keeps d (b / 4) Dev.units (fun _ _ _ => rfl) (fun d s c x h => d.raise_units s c x h)
  have hlegs := Dev.unload_keeps d (b / 4) Dev.legs (fun _ _ _ => rfl) (fun d s c x h => d.raise_legs s c x h)
  have hnvs := Dev.unload_keeps d (b / 4) Dev.nvs (fun _ _ _ => rfl) (fun d s c x h => d.raise_nvs s c x h)
  obtain ⟨hloaded, harmed, hquiet, hstate⟩ := d.unload_fields (b / 4)
  have hlanes := d.unmarked_lanes (b / 4)
  rw [hwrite]
  generalize d.unmarked (b / 4) = g at *
  generalize d.unload (b / 4) = e at *
  have hstore : ∀ {α : Type} (P : Dev → α), (∀ d x, P { d with mem := x } = P d) → (∀ d x, P { d with bad := x } = P d) →
      P (e.storeN a 4 v) = P e := fun P hm hb => Dev.storeN_keeps P hm hb e a 4 v
  have harmedHere : d.rackState (b / 4) = 0 → d.armedHere (b / 4) = false := by
    intro h0
    rw [Dev.rackState] at h0
    simp [Dev.armedHere, h0]
  refine ⟨?_, fun y hy => ?_, ?_, ⟨?_, ?_, ?_⟩, fun h1 hwhat => ?_, fun h0 => ⟨?_, ?_⟩⟩
  · rw [Dev.storeN_loadN _ _ _ _ (.inr ((Dev.isBad_of_bad hbads a).trans hbad))]
    exact Nat.mod_eq_of_lt (by omega)
  · rw [Dev.storeN_byte _ _ _ _ _ hy, Dev.byte, hmem, Dev.byte]
  · rw [Dev.fld_storeN, hloaded]
  · exact (hstore Dev.units (fun _ _ => rfl) (fun _ _ => rfl)).trans hunits
  · exact (hstore Dev.legs (fun _ _ => rfl) (fun _ _ => rfl)).trans hlegs
  · exact (hstore Dev.nvs (fun _ _ => rfl) (fun _ _ => rfl)).trans hnvs
  · rw [Dev.rackState, Dev.fld_storeN]
    exact harmed (huse.resolve_left (by omega)) hwhat
  · rw [Dev.rackState, Dev.fld_storeN, hquiet (harmedHere h0)]
    exact hstate.trans h0
  · rw [hstore Dev.lanes (fun _ _ => rfl) (fun _ _ => rfl), hquiet (harmedHere h0), hlanes]

theorem Dev.imageWrite_inUse (d : Dev) {b : Nat} {active : Bool} (a n v : Nat)
    (h : active = true ∨ (d.rackState (b / 4) ≠ 0 ∧ d.armedHere (b / 4) = false)) :
    d.imageWrite b active a n v = d.raise Ev.LANE_MEM_REFUSED (scopeBlk b) a := by
  refine if_pos ?_
  rcases h with h | ⟨hstate, harm⟩
  · simp [h]
  · rw [Dev.rackState] at hstate
    simp [hstate, harm]

end Sys2Proof.Machine
end

section
/-! The loader and the timing service (R76, R140, R150 to R154). -/

namespace Sys2Proof.Machine

/-! ### Loads that fail -/

section
variable (d : Dev)

theorem Dev.startupFail_keeps {α : Type} (P : Dev → α) (hraise : ∀ (d : Dev) src scope arg, src < 0x100 → P (d.raise src scope arg) = P d)
    (step : Nat) (r : Option Nat) : P (d.startupFail step r) = P d := by
  unfold Dev.startupFail
  split
  · rfl
  · exact hraise _ _ _ _ (by norm_num)

theorem Dev.foldl_keeps {α β : Type} (P : Dev → α) (f : Dev → β → Dev) (hf : ∀ d x, P (f d x) = P d) (l : List β) (d : Dev) :
    P (l.foldl f d) = P d := by
  induction l generalizing d with
  | nil => rfl
  | cons x t ih => exact (ih (f d x)).trans (hf d x)

/-- A load that fails: raised for its regions during start-up. -/
def Dev.loadFailed (x : LaneSetImage) : Dev := (imageRegions x).foldl (fun d k => d.startupFail 4 (some k)) d

theorem Dev.loadFailed_keeps {α : Type} (P : Dev → α) (hraise : ∀ (d : Dev) src scope arg, src < 0x100 → P (d.raise src scope arg) = P d)
    (x : LaneSetImage) : P (d.loadFailed x) = P d :=
  Dev.foldl_keeps P _ (fun d _ => d.startupFail_keeps P hraise 4 _) _ d

theorem Dev.loadFailed_ready (h : d.flag 0 F.DEV_STAT_ready = true) (x : LaneSetImage) : d.loadFailed x = d := by
  unfold Dev.loadFailed
  induction imageRegions x with
  | nil => rfl
  | cons k t ih =>
    have hfail : d.startupFail 4 (some k) = d := if_pos h
    rw [List.foldl_cons, hfail, ih]

end

/-- What a load that fails leaves. -/
theorem Dev.loadFailed_frame (d : Dev) (x : LaneSetImage) : (d.loadFailed x).mem = d.mem ∧ (d.loadFailed x).units = d.units ∧
    (d.loadFailed x).legs = d.legs ∧ (d.loadFailed x).nvs = d.nvs :=
  ⟨d.loadFailed_keeps Dev.mem (fun d s c a h => d.raise_mem s c a h) x, d.loadFailed_keeps Dev.units (fun d s c a h => d.raise_units s c a h) x,
    d.loadFailed_keeps Dev.legs (fun d s c a h => d.raise_legs s c a h) x, d.loadFailed_keeps Dev.nvs (fun d s c a h => d.raise_nvs s c a h) x⟩

section
variable {image : LaneSetImage} {s : State}

theorem exec_loaderLoad_fails {f : LoadResult} (h : s.dev.loadFailure image = some f) :
    exec (.loaderLoad image) s = .next ⟨{ s.dev.loadFailed image with loadRes := f }, s.pending⟩ := by
  change execLoaderLoad image s = _
  rw [execLoaderLoad, h]
  rfl

theorem Dev.loadFailure_refused {d : Dev} (h : d.caskRefused image = true) : d.loadFailure image = some ⟨1, 0, 0, 0, 0, 0⟩ := if_pos h

theorem mem_imageRegions {r : Nat} : r ∈ imageRegions image ↔ r < 4 ∧ bitOf image.mask.toNat r = true := by
  have hfour : r ∈ [0, 1, 2, 3] ↔ r < 4 := by
    simp only [List.mem_cons, List.not_mem_nil, or_false]
    omega
  rw [imageRegions, List.mem_filter, hfour]

theorem Dev.loadFailure_busy {d : Dev} {r : Nat} (h : d.caskRefused image = false) (hr : r < 4) (hmask : bitOf image.mask.toNat r = true)
    (hstate : d.rackState r ≠ 0) : d.loadFailure image = some ⟨16, 0, 0, 0, 0, 0⟩ := by
  refine (if_neg (by simp [h])).trans (if_pos ?_)
  exact List.any_eq_true.mpr ⟨r, mem_imageRegions.mpr ⟨hr, hmask⟩, bne_iff_ne.mpr hstate⟩

end

/-! ### What a load leaves -/

/-- What a load cannot change but by registers and lanes. -/
structure LoadKept {α : Type} (P : Dev → α) : Prop where
  mem : ∀ (d : Dev) x, P { d with mem := x } = P d
  bad : ∀ (d : Dev) x, P { d with bad := x } = P d
  slots : ∀ (d : Dev) x y z, P { d with refSlots := x, slotFac := y, slotClaim := z } = P d
  waits : ∀ (d : Dev) x, P { d with slotWaits := x } = P d
  progs : ∀ (d : Dev) x, P { d with progs := x } = P d

section
variable {α : Type} {P : Dev → α} (h : LoadKept P)
include h

theorem LoadKept.storeN (d : Dev) (a n v : Nat) : P (d.storeN a n v) = P d := Dev.storeN_keeps P h.mem h.bad d a n v

theorem LoadKept.storeWords (d : Dev) (a : Nat) (l : List Word) : P (d.storeWords a l) = P d := Dev.storeWords_keeps P h.mem h.bad d a l

theorem LoadKept.storeList (d : Dev) (a : Nat) (l : List Byte) : P (d.storeList a l) = P d := by
  fun_induction Dev.storeList d a l with
  | case1 d a b0 b1 b2 b3 b4 b5 b6 b7 t ih => exact ih.trans (h.storeN _ _ _ _)
  | case2 => rfl
  | case3 d a b0 t _ ih => exact ih.trans (h.storeN _ _ _ _)

theorem LoadKept.renewProgs (d : Dev) (b : Nat) (failed : Bool) : P (d.renewProgs b failed) = P d := by
  refine Dev.each_keeps P _ (fun u e => ?_) _ d
  split
  · rfl
  · exact h.progs _ _

theorem LoadKept.noteWaits (d : Dev) (r : Nat) (produced : Nat → List Nat) (l : List WalkProg) : P (d.noteWaits r produced l) = P d := by
  unfold Dev.noteWaits
  split
  · rfl
  · exact Dev.foldl_keeps P _ (fun _ _ => h.waits _ _) _ d

end

/-- The entry and worst case of a block's program in the slot not in force (R152). -/
def Dev.imageEntry (d : Dev) (x : LaneSetImage) (b : Nat) : Dev :=
  if d.otherSlot (b / 4) = 0 then (d.setFld (blkReg b) F.LANE_ENTRY_a (if claimOf x b = 0 then 0 else entryOf x b)).setFld (blkReg b) F.LANE_WCET_a
      ((claimOf x b + 3) / 4)
  else (d.setFld (blkReg b) F.LANE_ENTRY_b (if claimOf x b = 0 then 0 else entryOf x b)).setFld (blkReg b) F.LANE_WCET_b ((claimOf x b + 3) / 4)

/-- Of what a load leaves, a block's image changes its entry and worst case, and the lane of a block with a program. -/
theorem LoadKept.writeImage {α : Type} {P : Dev → α} (h : LoadKept P) (d : Dev) (x : LaneSetImage) (b : Nat) :
    ((imageProgram x b).isSome = false → P (d.writeImage x b) = P (d.imageEntry x b)) ∧
      ((imageProgram x b).isSome = true → ∃ e, P e = P (d.imageEntry x b) ∧ P (d.writeImage x b) = P (e.zeroLane b)) := by
  unfold Dev.writeImage
  extract_lets r slot claim entry wcet d1 d2
  have hd1 : d1 = d.imageEntry x b := rfl
  have hd2 : P d2 = P d1 := h.slots d1 _ _ _
  clear_value d1 d2
  subst hd1
  cases imageProgram x b with
  | none => exact ⟨fun _ => hd2, fun hn => absurd hn Bool.false_ne_true⟩
  | some p =>
    refine ⟨fun hn => absurd hn.symm Bool.false_ne_true, fun _ => ?_⟩
    exact ⟨_, (h.storeWords _ _ _).trans ((h.storeWords _ _ _).trans hd2), h.renewProgs _ _ _⟩

theorem imageEntry_keeps {α : Type} (P : Dev → α) {b : Nat} (hreg : ∀ (d : Dev) y w, y = 0x28 ∨ y = 0x2C → P (d.setReg (blkReg b + y) w) = P d)
    (d : Dev) (x : LaneSetImage) : P (d.imageEntry x b) = P d := by
  unfold Dev.imageEntry
  split
  · exact (hreg _ _ _ (.inr rfl)).trans (hreg _ _ _ (.inl rfl))
  · exact (hreg _ _ _ (.inr rfl)).trans (hreg _ _ _ (.inl rfl))

/-- What depends on no lane and register of a block is kept as its image is written. -/
theorem LoadKept.writeImage_other {α : Type} {P : Dev → α} (h : LoadKept P) {b : Nat}
    (hreg : ∀ (d : Dev) y w, y = 0x28 ∨ y = 0x2C → P (d.setReg (blkReg b + y) w) = P d) (hlane : ∀ (d : Dev) l, P (d.setLane b l) = P d)
    (d : Dev) (x : LaneSetImage) : P (d.writeImage x b) = P d := by
  obtain ⟨hnone, hsome⟩ := h.writeImage d x b
  have hentry := imageEntry_keeps P hreg d x
  cases hp : (imageProgram x b).isSome with
  | false => exact (hnone hp).trans hentry
  | true =>
    obtain ⟨e, he, hw⟩ := hsome hp
    exact hw.trans ((hlane e _).trans (he.trans hentry))

/-- The blocks of a region. -/
def regionBlocks (r : Nat) : List Nat := [4 * r, 4 * r + 1, 4 * r + 2, 4 * r + 3]

theorem mem_regionBlocks {r b : Nat} : b ∈ regionBlocks r ↔ b / 4 = r := by
  simp only [regionBlocks, List.mem_cons, List.not_mem_nil, or_false]
  omega

/-- The descriptor set and the state map of a region, and its load mark (R140, R524, R527). -/
def Dev.finishRegion (d : Dev) (x : LaneSetImage) (r : Nat) : Dev :=
  let d2 := (x.exch.filter (fun e => e.1.val == r)).foldl (fun d e =>
    d.setReg (rgnReg r + (if d.otherSlot r = 0 then 0x400 else 0x800) + 4 * e.2.1.val) e.2.2) d
  (d2.setFld (rgnReg r) F.RGN_RACK_MAP_n (x.map.length / 16)).storeList (d2.mapBase r) x.map

theorem Dev.writeRegionImage_eq (d : Dev) (x : LaneSetImage) (r : Nat) : d.writeRegionImage x r =
    ((d.each (regionBlocks r) (fun b d => d.writeImage x b)).finishRegion x r).setFld (rgnReg r) F.RGN_RACK_CTRL_loaded 1 := rfl

theorem LoadKept.finishRegion {α : Type} {P : Dev → α} (h : LoadKept P) {r : Nat}
    (hreg : ∀ (d : Dev) y w, (0x400 ≤ y ∧ y < 0xC00) ∨ y = 0x3114 → P (d.setReg (rgnReg r + y) w) = P d) (d : Dev) (x : LaneSetImage) :
    P (d.finishRegion x r) = P d := by
  refine (h.storeList _ _ _).trans ((hreg _ _ _ (.inr rfl)).trans (Dev.foldl_keeps P _ (fun e y => ?_) _ d))
  have hch := y.2.1.isLt
  rw [Nat.add_assoc]
  split
  · exact hreg _ _ _ (.inl (by omega))
  · exact hreg _ _ _ (.inl (by omega))

/-- What depends on no lane, block register and region register of a region is kept as its image is written. -/
theorem LoadKept.writeRegion_other {α : Type} {P : Dev → α} (h : LoadKept P) {r : Nat}
    (hblk : ∀ b, b / 4 = r → ∀ (d : Dev) y w, y = 0x28 ∨ y = 0x2C → P (d.setReg (blkReg b + y) w) = P d)
    (hlane : ∀ b, b / 4 = r → ∀ (d : Dev) l, P (d.setLane b l) = P d)
    (hrgn : ∀ (d : Dev) y w, (0x400 ≤ y ∧ y < 0xC00) ∨ y = 0x3114 ∨ y = 0x3100 → P (d.setReg (rgnReg r + y) w) = P d)
    (d : Dev) (x : LaneSetImage) : P (d.writeRegionImage x r) = P d := by
  rw [Dev.writeRegionImage_eq]
  refine (hrgn _ _ _ (.inr (.inr rfl))).trans ((h.finishRegion (fun d y w hy => hrgn d y w (hy.imp id Or.inl)) _ _).trans ?_)
  refine Dev.each_keeps_of_mem P _ _ (fun b hb e => ?_) d
  have hbr := mem_regionBlocks.mp hb
  exact h.writeImage_other (hblk b hbr) (hlane b hbr) e x

/-- A step among others that keep what is looked at. -/
theorem Dev.each_at {α : Type} (P : Dev → α) (f : Nat → Dev → Dev) {k : Nat} (l : List Nat) (hl : l.Nodup) (hk : k ∈ l)
    (hf : ∀ j ∈ l, j ≠ k → ∀ d, P (f j d) = P d) (d : Dev) : ∃ e, P e = P d ∧ P (d.each l f) = P (f k e) := by
  unfold Dev.each
  induction l generalizing d with
  | nil => exact absurd hk (List.not_mem_nil)
  | cons j t ih =>
    obtain ⟨hj, ht⟩ := List.nodup_cons.mp hl
    rw [List.foldl_cons]
    by_cases hjk : j = k
    · subst hjk
      refine ⟨d, rfl, ?_⟩
      exact Dev.each_keeps_of_mem P f t (fun i hi => hf i (List.mem_cons_of_mem _ hi) (fun hij => hj (hij ▸ hi))) (f j d)
    · have hkt : k ∈ t := (List.mem_cons.mp hk).resolve_left (fun h => hjk h.symm)
      obtain ⟨e, he, hw⟩ := ih ht hkt (fun i hi => hf i (List.mem_cons_of_mem _ hi)) (f j d)
      exact ⟨e, he.trans (hf j List.mem_cons_self hjk d), hw⟩

/-! ### A load seen from one block -/

/-- What a load shows of a block and its region: the lane, its entries and worst cases, and the region's racking. -/
structure LoadView where
  lane : Lane
  entry : Word
  wcet : Word
  ctrl : Word
  stat : Word

def Dev.loadView (d : Dev) (b : Nat) : LoadView :=
  ⟨d.lane b, d.reg (blkReg b + 0x28), d.reg (blkReg b + 0x2C), d.reg (rgnReg (b / 4) + 0x3100), d.reg (rgnReg (b / 4) + 0x3108)⟩

theorem loadKept_view (b : Nat) : LoadKept (fun d => d.loadView b) :=
  ⟨fun _ _ => rfl, fun _ _ => rfl, fun _ _ _ _ => rfl, fun _ _ => rfl, fun _ _ => rfl⟩

theorem Dev.loadView_setReg (d : Dev) {a b : Nat} (w : Word) (h1 : blkReg b + 0x28 ≠ a) (h2 : blkReg b + 0x2C ≠ a)
    (h3 : rgnReg (b / 4) + 0x3100 ≠ a) (h4 : rgnReg (b / 4) + 0x3108 ≠ a) : (d.setReg a w).loadView b = d.loadView b := by
  have hlane : (d.setReg a w).lane b = d.lane b := rfl
  rw [Dev.loadView, hlane, Dev.reg_setReg_ne _ _ h1, Dev.reg_setReg_ne _ _ h2, Dev.reg_setReg_ne _ _ h3, Dev.reg_setReg_ne _ _ h4]
  rfl

theorem Dev.loadView_setLane (d : Dev) {a b : Nat} (l : Lane) (h : b ≠ a) : (d.setLane a l).loadView b = d.loadView b := by
  have hlane : (d.setLane a l).lane b = d.lane b := by rw [Dev.lane_setLane, if_neg h]
  rw [Dev.loadView, hlane]
  rfl

theorem Dev.loadView_blk (d : Dev) {a b y : Nat} (w : Word) (hab : a ≠ b) (hy : y = 0x28 ∨ y = 0x2C) :
    (d.setReg (blkReg a + y) w).loadView b = d.loadView b := by
  apply d.loadView_setReg w
  · unfold blkReg blkBase rgnBase
    omega
  · unfold blkReg blkBase rgnBase
    omega
  · unfold rgnReg blkReg blkBase rgnBase
    omega
  · unfold rgnReg blkReg blkBase rgnBase
    omega

theorem Dev.loadView_rgn (d : Dev) {r b y : Nat} (w : Word) (hy : (0x400 ≤ y ∧ y < 0xC00) ∨ y = 0x3114 ∨ (y = 0x3100 ∧ r ≠ b / 4)) :
    (d.setReg (rgnReg r + y) w).loadView b = d.loadView b := by
  apply d.loadView_setReg w
  · unfold rgnReg blkReg blkBase rgnBase
    omega
  · unfold rgnReg blkReg blkBase rgnBase
    omega
  · unfold rgnReg rgnBase
    omega
  · unfold rgnReg rgnBase
    omega

/-- What a view says of the registers. -/
theorem Dev.view_fields {d e : Dev} {b : Nat} (h : e.loadView b = d.loadView b) : e.lane b = d.lane b ∧
    e.reg (blkReg b + 0x28) = d.reg (blkReg b + 0x28) ∧ e.reg (blkReg b + 0x2C) = d.reg (blkReg b + 0x2C) ∧
    e.reg (rgnReg (b / 4) + 0x3100) = d.reg (rgnReg (b / 4) + 0x3100) ∧ e.reg (rgnReg (b / 4) + 0x3108) = d.reg (rgnReg (b / 4) + 0x3108) :=
  ⟨congrArg LoadView.lane h, congrArg LoadView.entry h, congrArg LoadView.wcet h, congrArg LoadView.ctrl h, congrArg LoadView.stat h⟩

theorem Dev.setFld_lane (d : Dev) (b : Nat) (f : Fld) (v n : Nat) : (d.setFld b f v).lane n = d.lane n := rfl

theorem Dev.fld_of_reg {d e : Dev} {b : Nat} {f : Fld} (h : e.reg (b + f.off) = d.reg (b + f.off)) : e.fld b f = d.fld b f :=
  congrArg (fun w => fget w f) h

/-- The entry and worst case of a block's program stand in the slot that is not in force. -/
def EntryLoaded (d e : Dev) (x : LaneSetImage) (b : Nat) : Prop :=
  (claimOf x b ≠ 0 → d.activeSlot (b / 4) = 1 → e.fld (blkReg b) F.LANE_ENTRY_a = entryOf x b ∧
    e.fld (blkReg b) F.LANE_WCET_a = (claimOf x b + 3) / 4 % 65536) ∧
  (claimOf x b ≠ 0 → d.activeSlot (b / 4) = 0 → e.fld (blkReg b) F.LANE_ENTRY_b = entryOf x b ∧
    e.fld (blkReg b) F.LANE_WCET_b = (claimOf x b + 3) / 4 % 65536)

theorem EntryLoaded.imageEntry (d : Dev) (x : LaneSetImage) (b : Nat) : EntryLoaded d (d.imageEntry x b) x b := by
  have hentry : entryOf x b % 2 ^ 12 = entryOf x b := Nat.mod_eq_of_lt (bitsOf_lt _ _ _)
  constructor
  · intro hclaim hact
    have hslot : d.otherSlot (b / 4) = 0 := by rw [Dev.otherSlot, hact]
    rw [Dev.imageEntry, if_pos hslot, if_neg hclaim]
    constructor
    · rw [Dev.fld_setFld_ne _ _ _ _ _ _ (by norm_num), Dev.fld_setFld_same _ _ _ _ (by norm_num)]
      exact hentry
    · exact Dev.fld_setFld_same _ _ _ _ (by norm_num)
  · intro hclaim hact
    have hslot : ¬ d.otherSlot (b / 4) = 0 := by
      rw [Dev.otherSlot, hact]
      decide
    rw [Dev.imageEntry, if_neg hslot, if_neg hclaim]
    constructor
    · rw [Dev.fld_setFld_ne _ _ _ _ _ _ (by norm_num), Dev.fld_setFld_same _ _ _ _ (by norm_num)]
      exact hentry
    · exact Dev.fld_setFld_same _ _ _ _ (by norm_num)

theorem EntryLoaded.of_regs {d d' e f : Dev} {x : LaneSetImage} {b : Nat} (h : EntryLoaded d e x b)
    (hslot : d'.activeSlot (b / 4) = d.activeSlot (b / 4)) (hentry : f.reg (blkReg b + 0x28) = e.reg (blkReg b + 0x28))
    (hwcet : f.reg (blkReg b + 0x2C) = e.reg (blkReg b + 0x2C)) : EntryLoaded d' f x b := by
  obtain ⟨ha, hb⟩ := h
  constructor
  · rw [hslot, Dev.fld_of_reg (f := F.LANE_ENTRY_a) hentry, Dev.fld_of_reg (f := F.LANE_WCET_a) hwcet]
    exact ha
  · rw [hslot, Dev.fld_of_reg (f := F.LANE_ENTRY_b) hentry, Dev.fld_of_reg (f := F.LANE_WCET_b) hwcet]
    exact hb

/-- A lane as a load leaves it: its registers at 0 where it has a program (R76). -/
def Dev.loadedLane (d : Dev) (x : LaneSetImage) (b : Nat) : Lane :=
  if (imageProgram x b).isSome then { d.lane b with g := [], acc := [], vm := [], ve := [] } else d.lane b

/-- What a load has done once a region is written. -/
structure BlockLoaded (d e : Dev) (x : LaneSetImage) (b : Nat) : Prop where
  lane : e.lane b = d.loadedLane x b
  entry : EntryLoaded d e x b
  slot : e.activeSlot (b / 4) = d.activeSlot (b / 4)

theorem BlockLoaded.of_view {d d' e f : Dev} {x : LaneSetImage} {b : Nat} (h : BlockLoaded d e x b) (hd : d.loadView b = d'.loadView b)
    (he : f.loadView b = e.loadView b) : BlockLoaded d' f x b := by
  obtain ⟨hdlane, -, -, -, hdstat⟩ := Dev.view_fields hd
  obtain ⟨helane, heentry, hewcet, -, hestat⟩ := Dev.view_fields he
  have hslot : d.activeSlot (b / 4) = d'.activeSlot (b / 4) := Dev.fld_of_reg (f := F.RGN_RACK_STAT_slot) hdstat
  refine ⟨?_, h.entry.of_regs hslot.symm heentry hewcet, ?_⟩
  · rw [helane, h.lane, Dev.loadedLane, Dev.loadedLane, hdlane]
  · exact (Dev.fld_of_reg (f := F.RGN_RACK_STAT_slot) hestat).trans (h.slot.trans hslot)

theorem Dev.zeroLane_view (d : Dev) (b : Nat) :
    (d.zeroLane b).loadView b = { d.loadView b with lane := { d.lane b with g := [], acc := [], vm := [], ve := [] } } := by
  have hlane : (d.zeroLane b).lane b = { d.lane b with g := [], acc := [], vm := [], ve := [] } := Dev.lane_setLane_same _ _ _
  rw [Dev.loadView, hlane]
  rfl

theorem Dev.imageEntry_view (d : Dev) (x : LaneSetImage) (b : Nat) : (d.imageEntry x b).lane b = d.lane b ∧
    (d.imageEntry x b).activeSlot (b / 4) = d.activeSlot (b / 4) := by
  have hslot : ∀ (e : Dev) y w, y = 0x28 ∨ y = 0x2C → (e.setReg (blkReg b + y) w).activeSlot (b / 4) = e.activeSlot (b / 4) := by
    intro e y w hy
    have hne : rgnReg (b / 4) + F.RGN_RACK_STAT_slot.off ≠ blkReg b + y := by
      have hoff : F.RGN_RACK_STAT_slot.off = 0x3108 := rfl
      rw [hoff]
      unfold rgnReg blkReg blkBase rgnBase
      omega
    rw [Dev.activeSlot, Dev.fld_setReg_ne _ _ _ _ _ hne, Dev.activeSlot]
  exact ⟨imageEntry_keeps (fun d => d.lane b) (fun e y w _ => e.setReg_lane (blkReg b + y) w b) d x,
    imageEntry_keeps (fun d => d.activeSlot (b / 4)) hslot d x⟩

theorem BlockLoaded.writeImage (d : Dev) (x : LaneSetImage) (b : Nat) : BlockLoaded d (d.writeImage x b) x b := by
  obtain ⟨hnone, hsome⟩ := (loadKept_view b).writeImage d x b
  obtain ⟨hlane, hslot⟩ := d.imageEntry_view x b
  have hentry := EntryLoaded.imageEntry d x b
  cases hp : (imageProgram x b).isSome with
  | false =>
    obtain ⟨hwlane, hwentry, hwwcet, -, hwstat⟩ := Dev.view_fields (hnone hp)
    refine ⟨?_, hentry.of_regs rfl hwentry hwwcet, (Dev.fld_of_reg (f := F.RGN_RACK_STAT_slot) hwstat).trans hslot⟩
    rw [hwlane, hlane, Dev.loadedLane, hp]
    rfl
  | true =>
    obtain ⟨e, he, hw⟩ := hsome hp
    obtain ⟨helane, heentry, hewcet, -, hestat⟩ := Dev.view_fields he
    have hz := hw.trans (e.zeroLane_view b)
    have hwlane : (d.writeImage x b).lane b = { e.lane b with g := [], acc := [], vm := [], ve := [] } := congrArg LoadView.lane hz
    have hwentry : (d.writeImage x b).reg (blkReg b + 0x28) = e.reg (blkReg b + 0x28) := congrArg LoadView.entry hz
    have hwwcet : (d.writeImage x b).reg (blkReg b + 0x2C) = e.reg (blkReg b + 0x2C) := congrArg LoadView.wcet hz
    have hwstat : (d.writeImage x b).reg (rgnReg (b / 4) + 0x3108) = e.reg (rgnReg (b / 4) + 0x3108) := congrArg LoadView.stat hz
    refine ⟨?_, hentry.of_regs rfl (hwentry.trans heentry) (hwwcet.trans hewcet),
      (Dev.fld_of_reg (f := F.RGN_RACK_STAT_slot) (hwstat.trans hestat)).trans hslot⟩
    rw [hwlane, helane, hlane, Dev.loadedLane, hp]
    rfl

theorem regionBlocks_nodup (r : Nat) : (regionBlocks r).Nodup := by
  simp [regionBlocks]

/-- A region's image is written: its block is loaded, and the region marked (R140). -/
theorem BlockLoaded.writeRegionImage (d : Dev) (x : LaneSetImage) (b : Nat) :
    BlockLoaded d (d.writeRegionImage x (b / 4)) x b ∧ (d.writeRegionImage x (b / 4)).fld (rgnReg (b / 4)) F.RGN_RACK_CTRL_loaded = 1 := by
  obtain ⟨e, he, hblocks⟩ := Dev.each_at (fun d => d.loadView b) (fun b d => d.writeImage x b) (k := b) (regionBlocks (b / 4))
    (regionBlocks_nodup _) (mem_regionBlocks.mpr rfl)
    (fun j _ hjb d => (loadKept_view b).writeImage_other (fun d y w hy => d.loadView_blk w hjb hy)
      (fun d l => d.loadView_setLane l hjb.symm) d x) d
  have hfinish := (loadKept_view b).finishRegion (r := b / 4) (fun d y w hy => d.loadView_rgn w (hy.imp id Or.inl))
    (d.each (regionBlocks (b / 4)) (fun b d => d.writeImage x b)) x
  have hloaded := (BlockLoaded.writeImage e x b).of_view he (hfinish.trans hblocks)
  rw [Dev.writeRegionImage_eq]
  generalize (d.each (regionBlocks (b / 4)) (fun b d => d.writeImage x b)).finishRegion x (b / 4) = f at *
  have hctrl : F.RGN_RACK_CTRL_loaded.off = 0x3100 := rfl
  have hreg : ∀ a, a ≠ rgnReg (b / 4) + 0x3100 → (f.setFld (rgnReg (b / 4)) F.RGN_RACK_CTRL_loaded 1).reg a = f.reg a := by
    intro a ha
    exact Dev.reg_setFld_ne f _ _ _ _ (by rw [hctrl]; exact ha)
  refine ⟨⟨?_, ?_, ?_⟩, Dev.fld_setFld_same f _ _ 1 (by norm_num)⟩
  · exact (Dev.setFld_lane f _ _ _ b).trans hloaded.lane
  · refine hloaded.entry.of_regs rfl (hreg _ ?_) (hreg _ ?_)
    · unfold rgnReg blkReg blkBase rgnBase
      omega
    · unfold rgnReg blkReg blkBase rgnBase
      omega
  · exact (Dev.fld_of_reg (f := F.RGN_RACK_STAT_slot) (hreg _ (by norm_num))).trans hloaded.slot

/-! ### The load -/

/-- The device that a load which passes leaves, but for its result. -/
def Dev.loaded (d : Dev) (x : LaneSetImage) : Dev :=
  d.each (imageRegions x) (fun r d => (d.noteWaits r (d.producedIn x) (imageWalks x r)).writeRegionImage x r)

theorem exec_loaderLoad_passes {image : LaneSetImage} {s : State} (h : s.dev.loadFailure image = none) :
    exec (.loaderLoad image) s = .next ⟨{ s.dev.loaded image with loadRes := ⟨0, 0, 0, 0, 0, 0⟩ }, s.pending⟩ := by
  change execLoaderLoad image s = _
  rw [execLoaderLoad, h]
  rfl

theorem imageRegions_nodup (x : LaneSetImage) : (imageRegions x).Nodup := List.Nodup.filter _ (by decide)

theorem LoadKept.loaded {α : Type} {P : Dev → α} (h : LoadKept P) (hreg : ∀ (d : Dev) a w, P (d.setReg a w) = P d)
    (hlane : ∀ (d : Dev) b l, P (d.setLane b l) = P d) (d : Dev) (x : LaneSetImage) : P (d.loaded x) = P d := by
  refine Dev.each_keeps P _ (fun r e => ?_) _ d
  exact (h.writeRegion_other (fun _ _ d _ w _ => hreg d _ w) (fun b _ d l => hlane d b l) (fun d _ w _ => hreg d _ w) _ x).trans
    (h.noteWaits _ _ _ _)

/-- A load leaves units, legs and NVS. -/
theorem Dev.loaded_frame (d : Dev) (x : LaneSetImage) :
    (d.loaded x).units = d.units ∧ (d.loaded x).legs = d.legs ∧ (d.loaded x).nvs = d.nvs :=
  ⟨LoadKept.loaded (P := Dev.units) ⟨fun _ _ => rfl, fun _ _ => rfl, fun _ _ _ _ => rfl, fun _ _ => rfl, fun _ _ => rfl⟩ (fun _ _ _ => rfl)
      (fun _ _ _ => rfl) d x,
    LoadKept.loaded (P := Dev.legs) ⟨fun _ _ => rfl, fun _ _ => rfl, fun _ _ _ _ => rfl, fun _ _ => rfl, fun _ _ => rfl⟩ (fun _ _ _ => rfl)
      (fun _ _ _ => rfl) d x,
    LoadKept.loaded (P := Dev.nvs) ⟨fun _ _ => rfl, fun _ _ => rfl, fun _ _ _ _ => rfl, fun _ _ => rfl, fun _ _ => rfl⟩ (fun _ _ _ => rfl)
      (fun _ _ _ => rfl) d x⟩

/-- A region that is written leaves what is seen from a block of another. -/
theorem loadView_otherRegion {r b : Nat} (hr : r ≠ b / 4) (d : Dev) (x : LaneSetImage) (produced : Nat → List Nat) (l : List WalkProg) :
    ((d.noteWaits r produced l).writeRegionImage x r).loadView b = d.loadView b := by
  refine ((loadKept_view b).writeRegion_other (fun a ha d y w hy => ?_) (fun a ha d l => ?_) (fun d y w hy => ?_) _ x).trans
    ((loadKept_view b).noteWaits _ _ _ _)
  · exact d.loadView_blk w (fun hab => hr (by rw [← ha, hab])) hy
  · exact d.loadView_setLane l (fun hab => hr (by rw [← ha, hab]))
  · exact d.loadView_rgn w (hy.imp id (fun h => h.imp id (fun h => ⟨h, hr⟩)))

theorem Dev.loaded_outside (d : Dev) {x : LaneSetImage} {b : Nat} (h : b / 4 ∉ imageRegions x) : (d.loaded x).loadView b = d.loadView b :=
  Dev.each_keeps_of_mem (fun d => d.loadView b) _ _ (fun _ hr e => loadView_otherRegion (fun hrb => h (hrb ▸ hr)) e x _ _) d

/-- Each block of the image's regions is loaded, and the region marked (R140, R152). -/
theorem BlockLoaded.loaded (d : Dev) {x : LaneSetImage} {b : Nat} (h : b / 4 ∈ imageRegions x) :
    BlockLoaded d (d.loaded x) x b ∧ (d.loaded x).fld (rgnReg (b / 4)) F.RGN_RACK_CTRL_loaded = 1 := by
  obtain ⟨e, he, hw⟩ := Dev.each_at (fun d => d.loadView b)
    (fun r d => (d.noteWaits r (d.producedIn x) (imageWalks x r)).writeRegionImage x r) (k := b / 4) (imageRegions x) (imageRegions_nodup x) h
    (fun r _ hr d => loadView_otherRegion hr d x _ _) d
  have hnote := (loadKept_view b).noteWaits e (b / 4) (e.producedIn x) (imageWalks x (b / 4))
  obtain ⟨hblock, hmark⟩ := BlockLoaded.writeRegionImage (e.noteWaits (b / 4) (e.producedIn x) (imageWalks x (b / 4))) x b
  obtain ⟨-, -, -, hctrl, -⟩ := Dev.view_fields (d := ((e.noteWaits (b / 4) (e.producedIn x) (imageWalks x (b / 4))).writeRegionImage x (b / 4)))
    (e := d.loaded x) hw
  exact ⟨hblock.of_view (hnote.trans he) hw, (Dev.fld_of_reg (f := F.RGN_RACK_CTRL_loaded) hctrl).trans hmark⟩

/-! ### The timing service -/

section
variable {s : State}

theorem exec_timingApply_fails {f : LoadResult} (h : s.dev.timingFailure = some f) :
    exec .timingApplyService s = .next ⟨{ s.dev with loadRes := f }, s.pending⟩ := by
  change execTimingApplyService s = _
  rw [execTimingApplyService, h]
  rfl

theorem exec_timingApply_passes (h : s.dev.timingFailure = none) : exec .timingApplyService s =
    .next ⟨{ s.dev.setFld 0 F.TRL_STATUS_apply_pending 1 with loadRes := ⟨0, 0, 0, 0, 0, 0⟩ }, s.pending⟩ := by
  change execTimingApplyService s = _
  rw [execTimingApplyService, h]
  rfl

end

end Sys2Proof.Machine
end

section
/-! The fabric, the scrubber and the loader together (R28 to R33, R140, R150 to R154, R436, R437). -/

namespace Sys2Proof.Machine

/-! ### The grant -/

/-- The requests at the port of the fabric as FABRIC_TAG_GRANT finds them. -/
def Dev.grantPort (d : Dev) (m : Master) (acc : Option PairAccess) (noise : BeatNoise) : List FabReq :=
  match acc with
  | some y => d.fab.waiting ++ [⟨m, .access y, noise, d.now, false, .going, 0, false⟩]
  | none => if noise = noNoise then d.fab.waiting
    else changeFirst (fun x => x.m.id.val == m.id.val) (fun x => { x with noise := noise }) d.fab.waiting

/-- The arbitration has chosen: the oldest request of the master is accepted if it wins. -/
def Dev.granted (d : Dev) (m : Nat) : Dev := if d.fabWinner = some m then d.fabAccept m else d

theorem exec_fabricTagGrant (m : Master) (acc : Option PairAccess) (noise : BeatNoise) (s : State) : exec (.fabricTagGrant m acc noise) s =
    .next ⟨(s.dev.withPort (s.dev.grantPort m acc noise)).granted m.id.val, s.pending⟩ := by
  cases acc with
  | some y => rfl
  | none =>
    have hport : (if noise = noNoise then s.dev else s.dev.fabDisturb m.id.val noise) = s.dev.withPort (s.dev.grantPort m none noise) := by
      unfold Dev.grantPort
      dsimp only
      split <;> rfl
    exact congrArg (fun e : Dev => Host.Outcome.next (State.mk (e.granted m.id.val) s.pending)) hport

/-- Who wins the arbitration, by which masters ask for a tag (R28 to R30). -/
theorem Dev.fabWinner_iff (d : Dev) {m : Nat} (hm : m < 28) {asks : Nat → Prop} (hasks : ∀ k, d.requests k = true ↔ asks k)
    [Decidable ((d.fab.holder < 2 ∨ 6 ≤ d.fab.holder) ∧ asks d.fab.holder ∧ d.fab.grants < d.fabWeight d.fab.holder)] :
    d.fabWinner = some m ↔ asks m ∧
    if m < 2 ∨ 6 ≤ m then (∀ k ∈ [4, 2, 3, 5], ¬ asks k) ∧
      (if (d.fab.holder < 2 ∨ 6 ≤ d.fab.holder) ∧ asks d.fab.holder ∧ d.fab.grants < d.fabWeight d.fab.holder then m = d.fab.holder
        else ∀ k < 28, (k < 2 ∨ 6 ≤ k) → asks k →
          (if d.fab.holder < m then m - d.fab.holder else m + 28) ≤ if d.fab.holder < k then k - d.fab.holder else k + 28)
    else ∀ k ∈ [4, 2, 3, 5].takeWhile (· != m), ¬ asks k := by
  have hshared : ∀ k, safetyClass k = false ↔ (k < 2 ∨ 6 ≤ k) := by
    intro k
    simp only [safetyClass, decide_eq_false_iff_not]
    omega
  by_cases hclass : m < 2 ∨ 6 ≤ m
  · rw [if_pos hclass, Dev.fabWinner_shared ((hshared m).mpr hclass) hm]
    by_cases hkeeps : (d.fab.holder < 2 ∨ 6 ≤ d.fab.holder) ∧ asks d.fab.holder ∧ d.fab.grants < d.fabWeight d.fab.holder
    · rw [if_pos hkeeps, if_pos ⟨(hshared _).mpr hkeeps.1, (hasks _).mpr hkeeps.2.1, hkeeps.2.2⟩]
      simp only [hasks, safetyOrder]
    · rw [if_neg hkeeps, if_neg (fun h => hkeeps ⟨(hshared _).mp h.1, (hasks _).mp h.2.1, h.2.2⟩)]
      simp only [hasks, safetyOrder, hshared, ringDist]
  · have hsafe : safetyClass m = true := by
      rw [← Bool.not_eq_false, hshared]
      exact hclass
    rw [if_neg hclass, Dev.fabWinner_safety hsafe]
    simp only [hasks, safetyOrder]

section
variable {d : Dev} {m : Master} {acc : Option PairAccess} {noise : BeatNoise}

theorem Dev.grantPort_quiet : d.grantPort m none noNoise = d.fab.waiting := by
  unfold Dev.grantPort
  exact if_pos rfl

/-- A disturbance changes no request's master and drops none. -/
theorem Dev.grantPort_none : (d.grantPort m none noise).map (fun q => q.m.id.val) = d.fab.waiting.map (fun q => q.m.id.val) ∧
    (d.grantPort m none noise).length = d.fab.waiting.length := by
  unfold Dev.grantPort
  dsimp only
  split
  · exact ⟨rfl, rfl⟩
  · refine ⟨changeFirst_map _ _ _ ?_ _, changeFirst_length _ _ _⟩
    exact fun _ => rfl

theorem Dev.withPort_waiting (d : Dev) : d.withPort d.fab.waiting = d := rfl

/-- The requests at the port with that of this cycle, before a disturbance. -/
def Dev.askPort (d : Dev) (m : Master) (noise : BeatNoise) (acc : Option PairAccess) : List FabReq :=
  match acc with
  | some y => d.fab.waiting ++ [⟨m, .access y, noise, d.now, false, .going, 0, false⟩]
  | none => d.fab.waiting

theorem Dev.grantPort_masters : (d.grantPort m acc noise).map (fun q => q.m.id.val) = (d.askPort m noise acc).map (fun q => q.m.id.val) ∧
    (d.grantPort m acc noise).length = (d.askPort m noise acc).length := by
  cases acc with
  | some y => exact ⟨rfl, rfl⟩
  | none => exact Dev.grantPort_none

theorem Dev.grantPort_eq (h : acc.isSome = true ∨ noise = noNoise) : d.grantPort m acc noise = d.askPort m noise acc := by
  cases acc with
  | some y => rfl
  | none =>
    rcases h with h | rfl
    · exact absurd h Bool.false_ne_true
    · exact Dev.grantPort_quiet

/-- Which masters ask: one that has a request and could take a tag. -/
theorem Dev.grant_asks (k : Nat) : (d.withPort (d.grantPort m acc noise)).requests k = true ↔
    (∃ q ∈ d.askPort m noise acc, q.m.id.val = k) ∧ d.tagsOf k < masterLimit k ∧
      (d.tagSum false + (d.tagSum true - 16) < 240 ∨ (2 ≤ k ∧ k ≤ 5 ∧ d.tagSum true < 16)) := by
  rw [Dev.requests_withPort, exists_master_iff, exists_master_iff, Dev.grantPort_masters.1]

end

/-! ### The report of a starving request -/

section
variable {id : MasterId} {s : State}

/-- A request of a master that has waited its time and has not been told of. -/
def Dev.starvingOf (d : Dev) (id : MasterId) (x : FabReq) : Bool := x.m.id == id && d.starving x

theorem Dev.starvingOf_iff (d : Dev) (q : FabReq) :
    d.starvingOf id q = true ↔ q.m.id = id ∧ q.told = false ∧ q.since + 3277 ≤ d.now := by
  simp only [Dev.starvingOf, Dev.starving, Bool.and_eq_true, beq_iff_eq, Bool.not_eq_true', decide_eq_true_eq]

/-- The device with its first starving request of a master told of. -/
def Dev.toldPort (d : Dev) (id : MasterId) : Dev :=
  d.withPort (changeFirst (d.starvingOf id) (fun x => { x with told := true }) d.fab.waiting)

theorem exec_fabricStarve : exec (.fabricStarve id) s =
    .next ⟨if s.dev.fab.waiting.any (s.dev.starvingOf id) then (s.dev.toldPort id).tellStarve id else s.dev, s.pending⟩ := rfl

end

/-! ### The outcomes, command by command -/

section
variable {m : Master} {acc : Option PairAccess} {noise : BeatNoise} (d : Dev)

/-- The device in which the next arbitration is made. -/
def Dev.arbitrated (m : Master) (acc : Option PairAccess) (noise : BeatNoise) : Dev := d.withPort (d.grantPort m acc noise)

/-- A master that wins has its oldest request accepted (R28 to R33). -/
theorem Dev.granted_winner (hwin : (d.arbitrated m acc noise).fabWinner = some m.id.val) (hask : ∃ q ∈ d.askPort m noise acc, q.m.id.val = m.id.val) :
    let e := (d.arbitrated m acc noise).granted m.id.val
    e.tagsOf m.id = d.tagsOf m.id + 1 ∧ (∀ i, i ≠ m.id.val → e.tagsOf i = d.tagsOf i) ∧
      (acc.isSome = true ∨ noise = noNoise → ∃ q, (d.askPort m noise acc).find? (fun y => y.m.id.val == m.id.val) = some q ∧
        e.fab.running = d.fab.running ++ [q] ∧ e.fab.waiting = (d.askPort m noise acc).erase q) ∧
      (m.id.val = 2 ∨ m.id.val = 3 ∨ m.id.val = 4 ∨ m.id.val = 5 ∨ e.fab.holder = m.id.val) ∧ e.mem = d.mem ∧
      (e.units = d.units ∧ e.legs = d.legs ∧ e.nvs = d.nvs) ∧ e.lanes = d.lanes ∧
      e.fld 0 F.FAB_TAGS_in_use = (e.tagSum true + e.tagSum false) % 512 := by
  have hwait : (d.arbitrated m acc noise).fab.waiting = d.grantPort m acc noise := rfl
  have hmaster : ∃ q ∈ (d.arbitrated m acc noise).fab.waiting, q.m.id.val = m.id.val := by
    rw [hwait, exists_master_iff, Dev.grantPort_masters.1, ← exists_master_iff]
    exact hask
  obtain ⟨htag, hother, hfound, hholder, hshown⟩ := Dev.fabAccept_spec hmaster
  obtain ⟨hmem, hunits, hlegs, hnvs, hlanes⟩ := (d.arbitrated m acc noise).fabAccept_frame m.id.val
  have he : (d.arbitrated m acc noise).granted m.id.val = (d.arbitrated m acc noise).fabAccept m.id.val := if_pos hwin
  rw [he]
  refine ⟨htag, hother, fun hclear => ?_, ?_, hmem, ⟨hunits, hlegs, hnvs⟩, hlanes, hshown⟩
  · rw [← Dev.grantPort_eq hclear]
    exact hfound
  · rcases hholder with hsafe | hholder
    · have hrange : 2 ≤ m.id.val ∧ m.id.val ≤ 5 := of_decide_eq_true hsafe
      omega
    · exact .inr (.inr (.inr (.inr hholder)))

/-- A master that does not win leaves its request at the port. -/
theorem Dev.granted_loser (hlose : (d.arbitrated m acc noise).fabWinner ≠ some m.id.val) :
    (d.arbitrated m acc noise).granted m.id.val = d.withPort (d.grantPort m acc noise) := if_neg hlose

/-- The first starving request is told of, once (R33). -/
theorem Dev.toldPort_spec {id : MasterId} (h : ∃ q ∈ d.fab.waiting, d.starvingOf id q = true) :
    ((d.toldPort id).fab.waiting.filter (fun q => q.told)).length = (d.fab.waiting.filter (fun q => q.told)).length + 1 ∧
      (d.toldPort id).fab.waiting.map (fun q => (q.m, q.work, q.since)) = d.fab.waiting.map (fun q => (q.m, q.work, q.since)) := by
  constructor
  · exact changeFirst_told (fun q hq => ((d.starvingOf_iff q).mp hq).2.1) h
  · refine changeFirst_map _ _ _ ?_ _
    exact fun _ => rfl

theorem Dev.withPort_fld (w : List FabReq) (b : Nat) (f : Fld) : (d.withPort w).fld b f = d.fld b f := rfl

/-- A request that has starved is reported, with its master and the count of such (R30, R33). -/
theorem Dev.starve_spec {id : MasterId} (h : ∃ q ∈ d.fab.waiting, d.starvingOf id q = true) :
    let e := (d.toldPort id).tellStarve id
    e.fld 0 F.FAB_STARVE_master = id.val ∧ e.fld 0 F.FAB_STARVE_count = satInc 16 (d.fld 0 F.FAB_STARVE_count) ∧
      e.fab.running = d.fab.running ∧
      (e.fab.waiting.filter (fun q => q.told)).length = (d.fab.waiting.filter (fun q => q.told)).length + 1 ∧
      e.fab.waiting.map (fun q => (q.m, q.work, q.since)) = d.fab.waiting.map (fun q => (q.m, q.work, q.since)) ∧ e.mem = d.mem ∧
      e.units = d.units ∧ e.legs = d.legs ∧ e.nvs = d.nvs := by
  obtain ⟨hmaster, hcount⟩ := (d.toldPort id).tellStarve_fields id
  obtain ⟨htold, hsame⟩ := d.toldPort_spec h
  have hfab := Dev.tellStarve_keeps Dev.fab (fun _ _ _ => rfl) (fun d s c a h => d.raise_fab s c a h) (d.toldPort id) id
  have hmem := Dev.tellStarve_keeps Dev.mem (fun _ _ _ => rfl) (fun d s c a h => d.raise_mem s c a h) (d.toldPort id) id
  have hunits := Dev.tellStarve_keeps Dev.units (fun _ _ _ => rfl) (fun d s c a h => d.raise_units s c a h) (d.toldPort id) id
  have hlegs := Dev.tellStarve_keeps Dev.legs (fun _ _ _ => rfl) (fun d s c a h => d.raise_legs s c a h) (d.toldPort id) id
  have hnvs := Dev.tellStarve_keeps Dev.nvs (fun _ _ _ => rfl) (fun d s c a h => d.raise_nvs s c a h) (d.toldPort id) id
  have hfld : (d.toldPort id).fld 0 F.FAB_STARVE_count = d.fld 0 F.FAB_STARVE_count := Dev.withPort_fld d _ _ _
  dsimp only
  rw [hfab, hmem, hunits, hlegs, hnvs, hcount, hfld]
  exact ⟨hmaster, rfl, rfl, htold, hsame, rfl, rfl, rfl, rfl⟩

/-- A word that the pass under way finds uncorrectable. -/
def Dev.foundBad (a : Nat) : Dev := { d with bad := Store.set (fun _ => false) d.bad (a / 8) true }

theorem Dev.foundBad_isBad (a : Nat) : (d.foundBad a).isBad a = true := Store.get_set_same (fun _ => false) d.bad (a / 8) true

/-- A pass that begins meets the one word known as bad again (R437). -/
theorem Dev.scrubBegin_single {x : Word} (late : Bool) (hx : x.toNat % 8 = 0) (hbad : d.bad = [(x.toNat / 8, true)]) :
    d.scrubBegin late = (d.scrubFrom late).uncorrectable x.toNat ∧ (d.scrubFrom late).isBad x.toNat = true := by
  have haddr : 8 * (x.toNat / 8) = x.toNat := by omega
  have hfrom := Dev.scrubFrom_keeps Dev.bad (fun d s c a h => d.raise_bad s c a h) (fun _ _ => rfl) d late
  constructor
  · rw [Dev.scrubBegin_eq, hbad]
    exact congrArg (d.scrubFrom late).uncorrectable haddr
  · rw [Dev.isBad_of_bad hfrom, Dev.isBad, hbad]
    exact if_pos rfl

theorem Dev.scrubBegin_clean (late : Bool) (h : ∀ y ∈ d.bad, y.2 = false) : d.scrubBegin late = d.scrubFrom late := by
  have hnone : d.bad.filter (fun x => x.2) = [] := List.filter_eq_nil_iff.mpr (fun y hy => by simp [h y hy])
  rw [Dev.scrubBegin_eq, hnone]
  rfl

theorem Dev.imageActive_iff {b off : Nat} (h : off < 0x20000 ∨ (0x80000 ≤ off ∧ off < 0x90000)) : d.imageActive b off = true ↔
    (off < 0x20000 ∧ d.activeSlot (b / 4) = off / 0x10000) ∨ (0x80000 ≤ off ∧ d.activeBank (b / 4) = (off - 0x80000) / 0x8000) := by
  unfold Dev.imageActive
  by_cases hprog : off < 0x20000
  · rw [if_pos hprog, beq_iff_eq]
    exact ⟨fun hs => .inl ⟨hprog, hs⟩, fun hs => hs.elim And.right (fun ht => by omega)⟩
  · rw [if_neg hprog, beq_iff_eq]
    exact ⟨fun hs => .inr ⟨by omega, hs⟩, fun hs => hs.elim (fun hp => absurd hp.1 hprog) And.right⟩

/-- A load that passes, seen from one block (R76, R140, R152). -/
theorem Dev.loaded_spec (image : LaneSetImage) (b : BlockId) :
    let e : Dev := { d.loaded image with loadRes := ⟨0, 0, 0, 0, 0, 0⟩ }
    let written := bitOf image.mask.toNat (b.val / 4) = true ∧ (imageProgram image b).isSome = true
    e.loadRes.code = 0 ∧ (e.units = d.units ∧ e.legs = d.legs ∧ e.nvs = d.nvs) ∧
      (written → (∀ n, Store.get (fun _ => 0) (e.lane b).g n = 0) ∧ (e.lane b).mode = (d.lane b).mode ∧ (e.lane b).pc = (d.lane b).pc) ∧
      (¬ written → e.lane b = d.lane b) ∧
      (bitOf image.mask.toNat (b.val / 4) = true → e.fld (rgnReg (b.val / 4)) F.RGN_RACK_CTRL_loaded = 1 ∧
        e.activeSlot (b.val / 4) = d.activeSlot (b.val / 4) ∧ EntryLoaded d e image b) := by
  have hr : b.val / 4 < 4 := Nat.div_lt_of_lt_mul b.isLt
  have hframe := d.loaded_frame image
  have hin : bitOf image.mask.toNat (b.val / 4) = true → b.val / 4 ∈ imageRegions image := fun h => mem_imageRegions.mpr ⟨hr, h⟩
  have hlane : ∀ e : Dev, ({ e with loadRes := ⟨0, 0, 0, 0, 0, 0⟩ } : Dev).lane b = e.lane b := fun _ => rfl
  have hloaded := fun h => BlockLoaded.loaded d (x := image) (hin h)
  have hout : ¬ bitOf image.mask.toNat (b.val / 4) = true → (d.loaded image).lane b = d.lane b := fun h =>
    (Dev.view_fields (d.loaded_outside (x := image) (b := b) (fun hm => h (mem_imageRegions.mp hm).2))).1
  generalize d.loaded image = e at *
  refine ⟨rfl, hframe, fun ⟨hmask, hprog⟩ => ?_, fun hnot => ?_, fun hmask => ?_⟩
  · rw [hlane, (hloaded hmask).1.lane, Dev.loadedLane, if_pos hprog]
    exact ⟨fun _ => rfl, rfl, rfl⟩
  · rw [hlane]
    by_cases hmask : bitOf image.mask.toNat (b.val / 4) = true
    · rw [(hloaded hmask).1.lane, Dev.loadedLane, if_neg (fun hprog => hnot ⟨hmask, hprog⟩)]
    · exact hout hmask
  · obtain ⟨⟨-, hentry, hslot⟩, hmark⟩ := hloaded hmask
    exact ⟨hmark, hslot, hentry⟩

theorem Dev.applyPending_spec : (d.setFld 0 F.TRL_STATUS_apply_pending 1).flag 0 F.TRL_STATUS_apply_pending = true := by
  have hone := Dev.fld_setFld_same d 0 F.TRL_STATUS_apply_pending 1 (by norm_num)
  rw [Dev.flag, hone]
  rfl

end

/-- Settles O48: the arbitration by `Dev.fabWinner_iff`, the scrubber by `Dev.uncorrectable_met`, program memory by
`Dev.imageWrite_spec` and the loader by `BlockLoaded.loaded`. -/
theorem fabricAndLoader : Obligations.FabricAndLoader := by
  unfold Obligations.FabricAndLoader
  intro m id acc noise late b off v x image s
  extract_lets d port limit safety pool asks shared far keeps wins starved due a r slot bank image_ inUse locked frame written
  have hasks : ∀ k, (d.arbitrated m acc noise).requests k = true ↔ asks k := Dev.grant_asks
  have hwins : (d.arbitrated m acc noise).fabWinner = some m.id.val ↔ wins := Dev.fabWinner_iff (d.arbitrated m acc noise) m.id.isLt hasks
  have hgrant : exec (.fabricTagGrant m acc noise) s = .next ⟨(d.arbitrated m acc noise).granted m.id.val, s.pending⟩ :=
    exec_fabricTagGrant m acc noise s
  have hstarved : ∀ q, d.starvingOf id q = true ↔ starved q := d.starvingOf_iff
  have hactive : image_ → (inUse ↔ d.imageActive b off.toNat = true ∨ (d.rackState r ≠ 0 ∧ d.armedHere r = false)) := fun himage => by
    rw [d.imageActive_iff himage, or_assoc]
  have hlocks : locked ↔ m.id.val ≠ 5 ∧ d.inLock a = true := and_congr_left' (not_congr Fin.ext_iff)
  have hr : r < 4 := Nat.div_lt_of_lt_mul b.isLt
  refine ⟨?_, ?_, ?_, ?_, ?_, ?_, ?_, ?_, ?_, ?_, ?_, ?_, ?_, exec_programMemoryWrite_other, ?_, ?_, ?_, ?_, fun f => exec_timingApply_fails, ?_⟩
  · intro hw
    rw [hgrant, State.answers_next]
    exact d.granted_winner (hwins.mpr hw) hw.1.1
  · intro hw
    rw [hgrant, State.answers_next, d.granted_loser (fun h => hw (hwins.mp h))]
    refine ⟨rfl, Dev.grantPort_masters.2, ?_, rfl, ⟨rfl, rfl, rfl⟩, rfl, rfl⟩
    rintro y rfl
    rfl
  · rintro hw rfl rfl
    rw [hgrant, d.granted_loser (fun h => hw (hwins.mp h)), Dev.grantPort_quiet, Dev.withPort_waiting]
  · rintro ⟨q, hq, hold⟩
    have hany : ∃ q ∈ d.fab.waiting, d.starvingOf id q = true := ⟨q, hq, (hstarved q).mpr hold⟩
    rw [exec_fabricStarve, if_pos (List.any_eq_true.mpr hany), State.answers_next]
    obtain ⟨hmaster, hcount, hrun, htold, hsame, hmem, hframe⟩ := s.dev.starve_spec hany
    exact ⟨hmaster, hcount, hrun, htold, hsame, hmem, hframe⟩
  · intro hnone
    rw [exec_fabricStarve, if_neg]
    intro hany
    obtain ⟨q, hq, hold⟩ := List.any_eq_true.mp hany
    exact hnone ⟨q, hq, (hstarved q).mp hold⟩
  · intro hdue
    rw [exec_scrubPass_early hdue]
    rfl
  · intro hdue hclean
    rw [exec_scrubPass_due hdue, Dev.scrubBegin_clean _ _ hclean]
    rfl
  · rintro found (⟨hdue, rfl⟩ | ⟨hdue, hx, hbad, rfl⟩)
    · rw [exec_scrubPass_early hdue, State.answers_next]
      exact (d.foundBad x.toNat).uncorrectable_met x b (d.foundBad_isBad _)
    · obtain ⟨hbegin, hmet⟩ := d.scrubBegin_single late hx hbad
      have hmem := Dev.scrubFrom_keeps Dev.mem (fun d s c a h => d.raise_mem s c a h) (fun _ _ => rfl) d late
      have hunits := Dev.scrubFrom_keeps Dev.units (fun d s c a h => d.raise_units s c a h) (fun _ _ => rfl) d late
      rw [exec_scrubPass_due hdue, hbegin, State.answers_next, ← hmem, ← hunits]
      exact (d.scrubFrom late).uncorrectable_met x b hmet
  · intro hdue
    rw [exec_scrubPass_early hdue, State.answers_next]
    exact ⟨Dev.corrected_keeps d Dev.bad (fun _ _ _ => rfl) (fun d s c a h => d.raise_bad s c a h) (fun _ _ => rfl) x.toNat,
      Dev.corrected_keeps d Dev.mem (fun _ _ _ => rfl) (fun d s c a h => d.raise_mem s c a h) (fun _ _ => rfl) x.toNat,
      Dev.corrected_keeps d Dev.units (fun _ _ _ => rfl) (fun d s c a h => d.raise_units s c a h) (fun _ _ => rfl) x.toNat,
      d.corrected_count⟩
  · intro himage hten
    rw [exec_programMemoryWrite himage, if_pos hten]
  · intro himage hten hlock
    rw [exec_programMemoryWrite himage, if_neg (Nat.not_le.mpr hten), if_pos (hlocks.mp hlock)]
  · intro himage hten hlock hin
    rw [exec_programMemoryWrite himage, if_neg (Nat.not_le.mpr hten), if_neg (fun h => hlock (hlocks.mpr h)),
      Dev.imageWrite_inUse _ _ _ _ ((hactive himage).mp hin)]
  · intro himage hten hlock hin hbad
    have hfree := not_or.mp (fun h => hin ((hactive himage).mpr h))
    have hstate : d.rackState r = 0 ∨ d.armedHere r = true := by
      by_contra hno
      exact hfree.2 ⟨fun h => hno (.inl h), Bool.eq_false_iff.mpr (fun h => hno (.inr h))⟩
    rw [exec_programMemoryWrite himage, if_neg (Nat.not_le.mpr hten), if_neg (fun h => hlock (hlocks.mpr h)), State.answers_next]
    exact d.imageWrite_spec a v.toNat (Bool.eq_false_iff.mpr hfree.1) hstate hbad v.isLt
  · intro f hf
    rw [exec_loaderLoad_fails hf, State.answers_next]
    obtain ⟨hmem, hunits, hlegs, hnvs⟩ := d.loadFailed_frame image
    exact ⟨⟨rfl, hmem, hunits, hlegs, hnvs⟩, fun hready => by rw [Dev.loadFailed_ready _ hready]⟩
  · intro hrefused
    rw [exec_loaderLoad_fails (Dev.loadFailure_refused hrefused), State.answers_next]
    obtain ⟨hmem, hunits, hlegs, hnvs⟩ := d.loadFailed_frame image
    exact ⟨rfl, hmem, hunits, hlegs, hnvs⟩
  · intro hcask hmask hstate
    rw [exec_loaderLoad_fails (Dev.loadFailure_busy hcask hr hmask hstate), State.answers_next]
    obtain ⟨hmem, hunits, hlegs, hnvs⟩ := d.loadFailed_frame image
    exact ⟨rfl, hmem, hunits, hlegs, hnvs⟩
  · intro hpass
    rw [exec_loaderLoad_passes hpass, State.answers_next]
    exact d.loaded_spec image b
  · intro hpass
    rw [exec_timingApply_passes hpass, State.answers_next]
    exact ⟨rfl, d.applyPending_spec, rfl, ⟨rfl, rfl, rfl⟩, rfl⟩

end Sys2Proof.Machine
end

section
/-! The waits of a lane and its signals (R62, R63, R116, R117, R136 to R138, R327). -/

namespace Sys2Proof.Machine

/-! ### Folds over numbers -/

/-- Operations that leave a device as it is leave it so one after another. -/
theorem Dev.each_fixed {d : Dev} {l : List Nat} {f : Nat → Dev → Dev} (h : ∀ k ∈ l, f k d = d) : d.each l f = d := by
  induction l with
  | nil => rfl
  | cons k t ih =>
    rw [Dev.each, List.foldl_cons, h k List.mem_cons_self]
    exact ih fun j hj => h j (List.mem_cons_of_mem k hj)

/-- What every operation of a fold keeps holds after it. -/
theorem Dev.each_invariant {I : Dev → Prop} {l : List Nat} {f : Nat → Dev → Dev} (hf : ∀ k ∈ l, ∀ e, I e → I (f k e)) {d : Dev} (h : I d) :
    I (d.each l f) := by
  unfold Dev.each
  induction l generalizing d with
  | nil => exact h
  | cons k t ih => exact ih (fun j hj => hf j (List.mem_cons_of_mem k hj)) (hf k List.mem_cons_self d h)

/-- What one operation of a fold establishes under an invariant, and the others keep, holds after it. -/
theorem Dev.each_establishes {I Q : Dev → Prop} {l : List Nat} {f : Nat → Dev → Dev} {k : Nat} (hk : k ∈ l)
    (hI : ∀ j ∈ l, ∀ e, I e → I (f j e)) (hQ : ∀ j ∈ l, ∀ e, Q e → Q (f j e)) (hset : ∀ e, I e → Q (f k e)) {d : Dev} (h : I d) :
    Q (d.each l f) := by
  induction l generalizing d with
  | nil => cases hk
  | cons j t ih =>
    have hkeep : Q (f j d) → Q ((f j d).each t f) := Dev.each_invariant fun i hi => hQ i (List.mem_cons_of_mem j hi)
    rcases List.mem_cons.mp hk with rfl | hk
    · exact hkeep (hset d h)
    · exact ih hk (fun i hi => hI i (List.mem_cons_of_mem j hi)) (fun i hi => hQ i (List.mem_cons_of_mem j hi)) (hI j List.mem_cons_self d h)

/-! ### Orders to legs change no unit -/

theorem Dev.tryOn_units (d : Dev) (k t : Nat) : (d.tryOn k t).units = d.units := by
  have hdac : ∀ (d : Dev) r n old, (d.dacStepped r n old).units = d.units := by
    intro d r n old
    unfold Dev.dacStepped
    split <;> rfl
  unfold Dev.tryOn
  extract_lets l
  split
  · rfl
  next s _ =>
    split
    · split
      · exact Dev.setLeg_units _ _ _
      · extract_lets ramp x y d1
        have hd1 : d1.units = d.units := (hdac _ _ _ _).trans (Dev.setLeg_units _ _ _)
        cases s
        case high => exact (Dev.setReg_units _ _ _).trans hd1
        case low => exact (Dev.setReg_units _ _ _).trans hd1
    · rfl

theorem Dev.orderOff_units (d : Dev) (k : Nat) (hsl : Bool) : (d.orderOff k hsl).units = d.units := by
  simp only [Dev.orderOff]
  repeat' split
  all_goals rfl

theorem Dev.orderSoft_units (d : Dev) (k : Nat) (hsl : Bool) : (d.orderSoft k hsl).units = d.units := by
  unfold Dev.orderSoft
  extract_lets l lead entered go
  have hgo : go.units = d.units := Dev.setLeg_units _ _ _
  generalize go = g at *
  repeat' split
  all_goals simp only [hgo]

theorem Dev.orderAsc_units (d : Dev) (k : Nat) (s : Side) (hsl : Bool) : (d.orderAsc k s hsl).units = d.units := by
  unfold Dev.orderAsc
  extract_lets l st l1 go
  have hgo : go.units = d.units := (Dev.tryOn_units _ _ _).trans (Dev.setLeg_units _ _ _)
  generalize go = g at *
  repeat' split
  all_goals simp only [hgo]

theorem Dev.order_units (d : Dev) (k : Nat) (a : Action) (hsl : Bool) : (d.order k a hsl).units = d.units := by
  cases a with
  | none => rfl
  | off => exact d.orderOff_units k hsl
  | soft => exact d.orderSoft_units k hsl
  | ascLow => exact d.orderAsc_units k .low hsl
  | ascHigh => exact d.orderAsc_units k .high hsl

theorem Dev.unit_of_units {d e : Dev} (h : e.units = d.units) (u : Nat) : e.unit u = d.unit u :=
  congrArg (fun m => Store.get (fun _ => UnitRec.initial) m u) h

theorem Dev.orderUnit_units (d : Dev) (u : Nat) (a : Action) (hsl : Bool) : (d.orderUnit u a hsl).units = d.units :=
  Dev.each_keeps Dev.units _ (fun k e => e.order_units k a hsl) _ _

theorem Dev.clearNext_units (d : Dev) (u : Nat) : (d.clearNext u).units = d.units :=
  Dev.each_keeps Dev.units _ (fun _ _ => Dev.setLeg_units _ _ _) _ _

/-! ### A fault leaves its unit inactive -/

theorem Dev.active_setUnit {d : Dev} {u v : Nat} {x : UnitRec} (hx : x.active = true → (d.unit v).active = true)
    (h : ((d.setUnit v x).unit u).active = true) : (d.unit u).active = true := by
  rw [Dev.unit_setUnit] at h
  split at h
  next heq => subst heq; exact hx h
  · exact h

/-- The transitions that follow from the legs make no unit active. -/
theorem Dev.checkUnit_active {d : Dev} {u v : Nat} (h : ((d.checkUnit v).unit u).active = true) : (d.unit u).active = true := by
  have hquiet : ((d.startQuiet v).unit u).active = true → (d.unit u).active = true := Dev.active_setUnit fun h => nomatch h
  unfold Dev.checkUnit at h
  extract_lets x legs live at h
  split at h
  case h_1 hst =>
    split at h
    · exact Dev.active_setUnit (fun _ => by rw [UnitRec.active, hst]; rfl) h
    · exact h
  case h_2 =>
    split at h
    · exact h
    · split at h
      · refine Dev.active_setUnit (fun hx => ?_) h
        revert hx
        dsimp only [UnitRec.active]
        split <;> exact fun hx => nomatch hx
      · split at h
        · exact hquiet h
        · exact h
  case h_3 =>
    split at h
    · exact hquiet h
    · exact h
  case h_4 =>
    split at h
    · refine Dev.active_setUnit ?_ h
      exact fun hx => hx
    · exact h
  case h_5 =>
    split at h
    · exact hquiet h
    · exact h
  case h_6 => exact h

theorem Dev.takeDecision_active {d : Dev} {u v : Nat} {a : Action} (h : ((d.takeDecision v a).unit u).active = true) :
    (d.unit u).active = true := by
  have hdecided := Dev.checkUnit_active h
  rw [Dev.unit_of_units (Dev.orderUnit_units _ _ _ _)] at hdecided
  refine Dev.active_setUnit ?_ hdecided
  exact fun hx => hx

theorem Dev.countFault_active {d : Dev} {u v : Nat} (h : ((d.countFault v).unit u).active = true) : (d.unit u).active = true := by
  unfold Dev.countFault at h
  extract_lets d1 x recent n at h
  have hcount : d1.unit u = d.unit u := Dev.setReg_unit _ _ _ _
  rw [← hcount]
  refine Dev.active_setUnit ?_ h
  exact fun hx => hx

theorem Dev.latchCause_unit (d : Dev) (c : CauseReg) (i u : Nat) : (d.latchCause c i).unit u = d.unit u :=
  Dev.unit_of_units (Dev.latchCause_keeps Dev.units (fun _ _ _ => rfl) (fun _ _ _ => rfl) (fun _ _ => rfl) d c i) u

theorem Dev.shutUnit_unit (d : Dev) (v u : Nat) : (d.shutUnit v).unit u = if u = v then { d.unit v with st := .shutting } else d.unit u :=
  (Dev.unit_of_units (Dev.clearNext_units _ _) u).trans (Dev.unit_setUnit _ _ _ _)

/-- A fault of a unit makes no unit active. -/
theorem Dev.unitFault_active {d : Dev} {u v bit : Nat} (h : ((d.unitFault v bit).unit u).active = true) : (d.unit u).active = true := by
  have hlatch := d.latchCause_unit (unitCause v) bit u
  unfold Dev.unitFault at h
  extract_lets d1 x at h
  rw [← hlatch]
  split at h
  · have hshut := Dev.takeDecision_active h
    rw [Dev.shutUnit_unit] at hshut
    split at hshut
    · cases hshut
    · exact Dev.countFault_active hshut
  · split at h
    · exact h
    · exact Dev.countFault_active h

/-- A unit that has a fault is inactive. -/
theorem Dev.unitFault_inactive (d : Dev) (u bit : Nat) : ((d.unitFault u bit).unit u).active = false := by
  refine Bool.eq_false_iff.mpr fun h => ?_
  unfold Dev.unitFault at h
  extract_lets d1 x at h
  split at h
  · have hshut := Dev.takeDecision_active h
    rw [Dev.shutUnit_unit, if_pos rfl] at hshut
    cases hshut
  next hx =>
    split at h
    · exact hx h
    · exact hx (Dev.countFault_active h)

/-! ### A signal -/

theorem ufin_not_sideReg {u : Nat} (hu : u < 32) : ¬ SideReg (4 * u + F.HSL_UFIN_sig_en.off) := by
  have hoff : F.HSL_UFIN_sig_en.off = 0x40020480 := rfl
  rintro (⟨v, hv, h1, h2⟩ | ⟨k, h1, h2⟩)
  · unfold unitReg at h1 h2
    omega
  · unfold legReg blkBase rgnBase at h1 h2
    omega

/-- Faults and events write no LEG_OWN. -/
theorem ownReg_not_faultReg (k : Nat) : ¬ FaultReg (ownReg k) := by
  have hoff : k % 32 / 4 * 4 < 32 := by omega
  unfold ownReg
  generalize k % 32 / 4 * 4 = x at *
  rintro (h | ⟨u, hu, h1, h2⟩ | ⟨j, h1, h2⟩ | ⟨b, h1, h2⟩ | ⟨h1, h2⟩)
  · exact rgnReg_not_routerReg (k / 32) (0x100 + x) (by omega) (by rwa [← Nat.add_assoc])
  · unfold rgnReg rgnBase at h1 h2
    unfold unitReg at h1 h2
    omega
  · unfold rgnReg rgnBase at h1 h2
    unfold legReg blkBase rgnBase at h1 h2
    omega
  · unfold rgnReg rgnBase at h1 h2
    unfold blkReg blkBase rgnBase at h1 h2
    omega
  · unfold rgnReg rgnBase at h1 h2
    omega

/-- Owners are read from LEG_OWN, which faults leave. -/
theorem FaultKeeps.owner {d e : Dev} (h : FaultKeeps d e) (k : Nat) : e.owner k = d.owner k := by
  rw [Dev.owner, Dev.owner, Dev.ownByte_eq, Dev.ownByte_eq, h.reg _ (ownReg_not_faultReg k)]

theorem FaultKeeps.leadLane {d e : Dev} (h : FaultKeeps d e) (u : Nat) : e.leadLane u = d.leadLane u := by
  simp only [Dev.leadLane, Dev.laneSet, h.owner]

theorem FaultKeeps.blockUnits {d e : Dev} (h : FaultKeeps d e) (b : Nat) : e.blockUnits b = d.blockUnits b := by
  simp only [Dev.blockUnits, h.owner]

/-- LANE_SIG3 at unit `u`: a fault where the lane leads it and it listens (R327). -/
def Dev.sigFault (b u : Nat) (d : Dev) : Dev :=
  if d.leadLane u == some b && d.flag (4 * u) F.HSL_UFIN_sig_en then d.unitFault u 2 else d

/-- What decides whether LANE_SIG3 is a fault of unit `u` stands as in `d`. -/
def Dev.listensAs (d : Dev) (u : Nat) (e : Dev) : Prop :=
  e.leadLane u = d.leadLane u ∧ e.flag (4 * u) F.HSL_UFIN_sig_en = d.flag (4 * u) F.HSL_UFIN_sig_en

theorem Dev.listensAs_sigFault {d e : Dev} {b u v : Nat} (hu : u < 32) (hv : v < 32) (h : d.listensAs u e) : d.listensAs u (e.sigFault b v) := by
  unfold Dev.sigFault
  split
  · have hreg := (sideKept_reg (ufin_not_sideReg hu)).unitFault hv e 2
    refine ⟨(((FaultKeeps.refl e).unitFault hv 2).leadLane u).trans h.1, (congrArg (· != 0) (Dev.fld_of_reg hreg)).trans h.2⟩
  · exact h

theorem laneSig_lt {n : Nat} (hn : n < 4) : Ev.LANE_SIG0 + n < 0x100 := by
  show 38 + n < 256
  omega

/-- An event leaves whether a unit listens. -/
theorem Dev.raise_ufin (d : Dev) {src : Nat} (hs : src < 0x100) (scope arg : Nat) {u : Nat} (hu : u < 32) :
    (d.raise src scope arg).flag (4 * u) F.HSL_UFIN_sig_en = d.flag (4 * u) F.HSL_UFIN_sig_en := by
  have hoff : F.HSL_UFIN_sig_en.off = 0x40020480 := rfl
  rw [Dev.flag, Dev.flag, Dev.raise_fld _ hs _ _ _ _ (chip_not_routerReg (by omega) (by omega))]

theorem Dev.sigRaise_ne (d : Dev) (b : Nat) {n : Nat} (hn : n ≠ 3) : d.sigRaise b n = d.raise (Ev.LANE_SIG0 + n) (scopeBlk b) 0 := if_neg hn

theorem Dev.sigRaise_three (d : Dev) (b : Nat) : d.sigRaise b 3 = (d.raise (Ev.LANE_SIG0 + 3) (scopeBlk b) 0).each
    ((d.raise (Ev.LANE_SIG0 + 3) (scopeBlk b) 0).blockUnits b) (Dev.sigFault b) := rfl

/-- A signal raises its event; whatever it is a fault of, no memory changes. -/
theorem Dev.sigRaise_mem (d : Dev) (b : Nat) {n : Nat} (hn : n < 4) : (d.sigRaise b n).mem = d.mem := by
  have hs := laneSig_lt hn
  by_cases h3 : n = 3
  · subst h3
    rw [Dev.sigRaise_three, ← d.raise_mem _ (scopeBlk b) 0 hs]
    refine FaultKeeps.mem (FaultKeeps.each _ _ (fun u hu e he => ?_) (FaultKeeps.refl _))
    unfold Dev.sigFault
    split
    · exact he.unitFault (blockUnits_lt hu) 2
    · exact he
  · rw [d.sigRaise_ne b h3, d.raise_mem _ _ _ hs]

/-- Where no unit listens, a signal is its event alone. -/
theorem Dev.sigRaise_unheard (d : Dev) (b : Nat) {n : Nat} (hn : n < 4)
    (h : n ≠ 3 ∨ ∀ u < 32, d.flag (4 * u) F.HSL_UFIN_sig_en = false) : d.sigRaise b n = d.raise (Ev.LANE_SIG0 + n) (scopeBlk b) 0 := by
  have hs := laneSig_lt hn
  by_cases h3 : n = 3
  · subst h3
    have hdeaf := h.resolve_left (fun hne => hne rfl)
    rw [Dev.sigRaise_three]
    refine Dev.each_fixed fun u hu => ?_
    have hlt := blockUnits_lt hu
    rw [Dev.sigFault, d.raise_ufin hs _ _ hlt, hdeaf u hlt, Bool.and_false, if_neg Bool.false_ne_true]
  · exact d.sigRaise_ne b h3

/-- LANE_SIG3 is a fault of every unit that the lane leads and that listens (R117, R327). -/
theorem Dev.sigRaise_heard (d : Dev) {b u : Nat} (hu : u ∈ d.blockUnits b) (hlead : d.leadLane u = some b)
    (hlisten : d.flag (4 * u) F.HSL_UFIN_sig_en = true) : ((d.sigRaise b 3).unit u).active = false := by
  have hs := laneSig_lt (n := 3) (by norm_num)
  have hlt := blockUnits_lt hu
  have hraise := (FaultKeeps.refl d).raise (src := Ev.LANE_SIG0 + 3) (scopeBlk b) 0 hs
  have hmem : u ∈ (d.raise (Ev.LANE_SIG0 + 3) (scopeBlk b) 0).blockUnits b := by rw [hraise.blockUnits]; exact hu
  rw [Dev.sigRaise_three]
  refine Dev.each_establishes (I := d.listensAs u) (Q := fun e => (e.unit u).active = false) hmem
    (fun v hv e he => Dev.listensAs_sigFault hlt (blockUnits_lt hv) he) (fun v hv e he => ?_) (fun e he => ?_)
    ⟨hraise.leadLane u, d.raise_ufin hs _ _ hlt⟩
  · unfold Dev.sigFault
    split
    · exact Bool.eq_false_iff.mpr fun h => Bool.eq_false_iff.mp he (Dev.unitFault_active h)
    · exact he
  · rw [Dev.sigFault, if_pos (by simp [he.1, he.2, hlead, hlisten])]
    exact e.unitFault_inactive u 2

/-! ### The end of a sub-tick and of an event wait -/

/-- A lane that completes its sub-tick is DONE, and BLK_OVR_MAX holds the largest number of cycles used (R67, R137). -/
theorem Dev.laneComplete_spec (d : Dev) (b : Nat) :
    (d.laneComplete b).lane b = { (d.lane b).toDone with completed := true } ∧
      (d.now - (d.lane b).computeAt + 1 < 2 ^ 18 → (d.laneComplete b).fld (blkReg b) F.BLK_OVR_MAX_cycles =
        max (d.now - (d.lane b).computeAt + 1) (d.fld (blkReg b) F.BLK_OVR_MAX_cycles)) ∧
      (d.laneComplete b).mem = d.mem ∧ (d.laneComplete b).legs = d.legs ∧ (d.laneComplete b).units = d.units := by
  unfold Dev.laneComplete
  extract_lets l used d1 d2
  have hmax : used < 2 ^ 18 → d1.fld (blkReg b) F.BLK_OVR_MAX_cycles = max used (d.fld (blkReg b) F.BLK_OVR_MAX_cycles) := by
    intro hused
    simp only [d1]
    split
    next hlt => rw [Dev.fld_setFld_same _ _ _ _ (by norm_num), Nat.mod_eq_of_lt hused, max_eq_left hlt.le]
    next hge => rw [max_eq_right (Nat.le_of_not_lt hge)]
  have hkeep : ∀ {α : Type} (P : Dev → α), (∀ (d : Dev) a w, P (d.setReg a w) = P d) → P d2 = P d := by
    intro α P hreg
    have hd1 : P d1 = P d := by
      simp only [d1]
      split
      · exact hreg _ _ _
      · rfl
    simp only [d2]
    split
    · exact (hreg _ _ _).trans hd1
    · exact hd1
  refine ⟨Dev.lane_setLane_same _ _ _, fun hused => ?_, hkeep Dev.mem fun _ _ _ => rfl, hkeep Dev.legs fun _ _ _ => rfl,
    hkeep Dev.units fun _ _ _ => rfl⟩
  have hother : d2.fld (blkReg b) F.BLK_OVR_MAX_cycles = d1.fld (blkReg b) F.BLK_OVR_MAX_cycles := by
    simp only [d2]
    split
    · exact Dev.fld_setFld_ne _ _ _ _ _ _ (by norm_num)
    · rfl
  exact hother.trans (hmax hused)

/-- A wait that ends late sets evt_late, and moves no lane, memory, leg or unit (R116). -/
theorem Dev.eventLate_spec (d : Dev) (b : Nat) :
    (d.eventLate b).reg (blkReg b + 0x20) = d.reg (blkReg b + 0x20) ||| 8 ∧ (∀ c, ((d.eventLate b).lane c).mode = (d.lane c).mode) ∧
      (d.eventLate b).mem = d.mem ∧ (d.eventLate b).legs = d.legs ∧ (d.eventLate b).units = d.units := by
  have hs : Ev.LANE_EVT_LATE < 0x100 := by norm_num
  have hkeep : ∀ {α : Type} (P : Dev → α), _ → _ → _ → P (d.setFlags b flagEvtLate) = P d := fun P => Dev.setFlags_keeps b P flagEvtLate
  unfold Dev.eventLate
  refine ⟨?_, fun c => ?_, ?_, ?_, ?_⟩
  · rw [Dev.raise_reg _ _ _ _ _ hs (blkReg_not_routerReg (by norm_num) (by norm_num)), Dev.setFlags_status _ _ (by norm_num) (by norm_num)]
    rfl
  · rw [((FaultKeeps.refl _).raise _ _ hs).lane_mode]
    refine hkeep (fun e => (e.lane c).mode) (fun _ _ _ => rfl) (fun _ _ _ => rfl) (fun e v w => ?_)
    simp only [Dev.lane_setLane]
    split
    next heq => rw [heq]
    · rfl
  · rw [Dev.raise_mem _ _ _ _ hs, hkeep Dev.mem (fun _ _ _ => rfl) (fun _ _ _ => rfl) (fun _ _ _ => rfl)]
  · rw [Dev.raise_legs _ _ _ _ hs, hkeep Dev.legs (fun _ _ _ => rfl) (fun _ _ _ => rfl) (fun _ _ _ => rfl)]
  · rw [Dev.raise_units _ _ _ _ hs, hkeep Dev.units (fun _ _ _ => rfl) (fun _ _ _ => rfl) (fun _ _ _ => rfl)]

theorem Dev.condSet_eq (d : Dev) (b : Nat) (bit : BitVec 5) : d.condSet b bit = (d.reg (blkReg b + 0x30)).getLsbD bit.toNat :=
  bitOf_eq_testBit _ _

/-! ### The commands -/

section
variable {ln : BlockId} {s : State}

theorem exec_waitPhaseIntake (h : s.running ln) : exec (.waitPhaseIntake ln) s = .next ⟨s.dev.laneComplete ln, s.pending⟩ :=
  congrArg (fun d => Host.Outcome.next (State.mk d s.pending)) (Dev.onRun_of_run h _)

theorem exec_waitPhaseExchange (h : s.running ln) : exec (.waitPhaseExchange ln) s =
    .next ⟨if (s.dev.lane ln).phase = .intake ∨ (s.dev.lane ln).phase = .compute then s.dev.hold ln (.phase .exchange) else s.dev, s.pending⟩ :=
  congrArg (fun d => Host.Outcome.next (State.mk d s.pending)) (Dev.onRun_of_run h _)

theorem exec_waitPhaseCommit (h : s.running ln) : exec (.waitPhaseCommit ln) s =
    .next ⟨if (s.dev.lane ln).phase = .commit ∨ (s.dev.lane ln).phase = .closed then s.dev else s.dev.hold ln (.phase .commit), s.pending⟩ :=
  congrArg (fun d => Host.Outcome.next (State.mk d s.pending)) (Dev.onRun_of_run h _)

theorem exec_waitPhaseEvent (h : s.running ln) (bit : BitVec 5) (dl : BitVec 16) : exec (.waitPhaseEvent ln bit dl) s =
    .next ⟨if s.dev.condSet ln bit then s.dev else if (s.dev.lane ln).computeAt + 4 * dl.toNat ≤ s.dev.now then s.dev.eventLate ln
      else s.dev.hold ln (.event bit ((s.dev.lane ln).computeAt + 4 * dl.toNat)), s.pending⟩ :=
  congrArg (fun d => Host.Outcome.next (State.mk d s.pending)) (Dev.onRun_of_run h _)

theorem exec_sig (h : s.running ln) (n : Fin 4) : exec (.sig ln n) s = .next ⟨s.dev.sigRaise ln n, s.pending⟩ :=
  congrArg (fun d => Host.Outcome.next (State.mk d s.pending)) (Dev.onRun_of_run h _)

/-- The deadline of an event wait. -/
theorem exec_eventWaitDeadline {bit : BitVec 5} {t : Nat} (hmode : (s.dev.lane ln).mode = .wait) (hheld : (s.dev.lane ln).held = some (.event bit t)) :
    exec (.eventWaitDeadline ln) s = .next ⟨if t ≤ s.dev.now then
      (if s.dev.condSet ln bit then s.dev else s.dev.eventLate ln).release ln s.dev.now else s.dev, s.pending⟩ := by
  simp only [exec, execEventWaitDeadline, hmode, hheld, State.done]

theorem exec_eventWaitDeadline_free (hheld : (s.dev.lane ln).held = none) : exec (.eventWaitDeadline ln) s = .next s := by
  simp only [exec, execEventWaitDeadline, hheld]
  split
  next h => cases h
  · rfl

end

theorem Dev.release_mode_ne (d : Dev) {b c : Nat} (t : Nat) (h : c ≠ b) : ((d.release b t).lane c).mode = (d.lane c).mode := by
  rw [Dev.release]
  dsimp only
  rw [Dev.lane_setLane, if_neg h]

/-- A lane whose wait ends is all that changes. -/
theorem Dev.release_frame (d : Dev) (b t : Nat) : (d.release b t).regs = d.regs ∧ (d.release b t).mem = d.mem ∧
    (d.release b t).legs = d.legs ∧ (d.release b t).units = d.units := ⟨rfl, rfl, rfl, rfl⟩

theorem Dev.release_reg (d : Dev) (b t a : Nat) : (d.release b t).reg a = d.reg a := rfl

/-- Settles O9: each wait is its branch of the command, and SIG 3 a fault of each unit that listens, whatever the faults of the others. -/
theorem laneWaits : Obligations.LaneWaits := by
  unfold Obligations.LaneWaits
  intro ln bit dl n h s d l used held due
  have hset : d.condSet ln bit = (d.reg (blkReg ln + 0x30)).getLsbD bit.toNat := d.condSet_eq ln bit
  obtain ⟨hlate, hmode, hmem, hlegs, hunits⟩ := d.eventLate_spec ln
  refine ⟨fun hrun => ⟨?_, rfl, ?_, ?_, fun hone => ?_, fun hzero => ⟨fun hearly => ?_, fun hpast => ?_⟩, ?_⟩, ?_, ?_, ?_⟩
  · rw [exec_waitPhaseIntake hrun, State.answers_next]
    exact d.laneComplete_spec ln
  · rw [exec_waitPhaseExchange hrun]
    split <;> rfl
  · rw [exec_waitPhaseCommit hrun]
    split <;> rfl
  · rw [exec_waitPhaseEvent hrun, if_pos (hset.trans hone)]
  · rw [exec_waitPhaseEvent hrun, if_neg (by simp [d, hset, hzero]), if_neg (Nat.not_le.mpr hearly)]
    rfl
  · rw [exec_waitPhaseEvent hrun, if_neg (by simp [d, hset, hzero]), if_pos hpast, State.answers_next]
    exact ⟨(hmode ln).trans hrun, hlate⟩
  · rw [exec_sig hrun, State.answers_next]
    refine ⟨d.sigRaise_mem ln n.isLt, fun hquiet => ?_, ?_⟩
    · have hraise : d.sigRaise ln n = _ := d.sigRaise_unheard ln n.isLt (hquiet.imp (fun hne h3 => hne (Fin.ext h3)) fun hdeaf u _ => hdeaf u)
      exact ⟨hraise, by rw [hraise, Dev.raise_legs _ _ _ _ (laneSig_lt n.isLt)]⟩
    · rintro rfl u hu hlead hlisten
      exact d.sigRaise_heard hu hlead hlisten
  · intro hwait hheld hpast hzero
    obtain ⟨hrun, hfree, -⟩ := (d.eventLate ln).release_lane ln d.now
    rw [exec_eventWaitDeadline hwait hheld, if_pos hpast, if_neg (by simp [d, hset, hzero]), State.answers_next]
    obtain ⟨-, hmem', hlegs', hunits'⟩ := (d.eventLate ln).release_frame ln d.now
    exact ⟨hrun, hfree, (Dev.release_reg _ _ _ _).trans hlate, fun b hb => (Dev.release_mode_ne _ _ hb).trans (hmode b), hmem'.trans hmem,
      hlegs'.trans hlegs, hunits'.trans hunits⟩
  · intro hwait hheld
    refine ⟨fun hpast hone => ?_, fun hearly => ?_⟩
    · obtain ⟨hrun, hfree, -⟩ := d.release_lane ln d.now
      rw [exec_eventWaitDeadline hwait hheld, if_pos hpast, if_pos (hset.trans hone), State.answers_next]
      exact ⟨hrun, hfree, rfl, rfl⟩
    · rw [exec_eventWaitDeadline hwait hheld, if_neg (Nat.not_le.mpr hearly)]
  · exact exec_eventWaitDeadline_free

end Sys2Proof.Machine
end

section
/-! What changes of the Trellis state and steps of its counter leave, and the writes and reads of its registers (R45, R48, R50, R51, R54). -/

namespace Sys2Proof.Machine

/-! ### What stays -/

/-- What no change of the Trellis touches: memory, legs, units, the timing in force and the lane cycle. -/
def Dev.still (d : Dev) : List Host.Cell × Store Leg × Store UnitRec × Store Word × Nat := (d.mem, d.legs, d.units, d.inforce, d.now)

theorem Dev.still_eq {d e : Dev} (h : e.still = d.still) : e.mem = d.mem ∧ e.legs = d.legs ∧ e.units = d.units ∧ e.inforce = d.inforce ∧ e.now = d.now := by
  simpa [Dev.still] using h

theorem Dev.still_setReg (d : Dev) (a : Nat) (w : Word) : (d.setReg a w).still = d.still := rfl

theorem Dev.still_raise (d : Dev) (src scope arg : Nat) (hs : src < 0x100) : (d.raise src scope arg).still = d.still := by
  simp only [Dev.still, d.raise_mem _ _ _ hs, d.raise_legs _ _ _ hs, d.raise_units _ _ _ hs, d.raise_inforce _ _ _ hs, d.raise_now _ _ _ hs]

theorem trl_not_routerReg {a : Nat} (h : 0x40000000 ≤ a) (h' : a < 0x40010000) : ¬ RouterReg a := by
  rintro (hr | ⟨n, hn⟩)
  · omega
  · unfold blkReg blkBase rgnBase at hn
    omega

/-- The registers that an entry into a Trellis state writes, of these those of R54, and those that are computed anew with the tick grid. -/
def enterFlds : List Fld := [F.TRL_STATUS_state, F.TRL_STATUS_port, F.TRL_HOLD_ERR_ns, F.TRL_HOLD_TIME_ms]
def holdFlds : List Fld := [F.TRL_HOLD_ERR_ns, F.TRL_HOLD_TIME_ms]
def gridFlds : List Fld := [F.TRL_TICK_CNT_k, F.TRL_PHASE_ERR_steps, F.TRL_STATUS_rephasing]

/-- What writes of some fields, events, and changes of the trim, the correction, the counted Syncs and the leader leave. -/
structure TrlKept {α : Type} (l : List Fld) (P : Dev → α) : Prop where
  fld : ∀ f ∈ l, ∀ (d : Dev) v, P (d.setFld 0 f v) = P d
  trl : ∀ (d : Dev) trim slew synced holdAt lead,
    P { d with trl := { d.trl with trim := trim, slew := slew, synced := synced, holdAt := holdAt, lead := lead } } = P d
  raise : ∀ (d : Dev) src scope arg, src < 0x100 → P (d.raise src scope arg) = P d

/-- A field that lies apart from the others, and whose register is the Trellis'. -/
def Fld.apart (l : List Fld) (g : Fld) : Bool :=
  decide (0x40000000 ≤ g.off ∧ g.off < 0x40010000) &&
    l.all (fun f => decide (f.lo + f.w ≤ 32 ∧ (g.off ≠ f.off ∨ g.lo + g.w ≤ f.lo ∨ f.lo + f.w ≤ g.lo)))

theorem Dev.fld_setFld_apart {l : List Fld} {g : Fld} (h : Fld.apart l g = true) {f : Fld} (hf : f ∈ l) (d : Dev) (v : Nat) :
    (d.setFld 0 f v).fld 0 g = d.fld 0 g := by
  obtain ⟨hw, hoff | hlo⟩ := of_decide_eq_true (List.all_eq_true.mp (Bool.and_eq_true_iff.mp h).2 f hf)
  · exact Dev.fld_setFld_ne _ _ _ _ _ _ (by omega)
  · by_cases hoff : g.off = f.off
    · exact Dev.fld_setFld_field _ _ _ _ _ _ hw (by rw [hoff]) hlo
    · exact Dev.fld_setFld_ne _ _ _ _ _ _ (by omega)

theorem trlKept_fld {l : List Fld} {g : Fld} (h : Fld.apart l g = true) : TrlKept l (fun d => d.fld 0 g) where
  fld _ hf d v := Dev.fld_setFld_apart h hf d v
  trl _ _ _ _ _ _ := rfl
  raise d src scope arg hs := by
    have hoff := of_decide_eq_true (Bool.and_eq_true_iff.mp h).1
    exact d.raise_fld hs _ _ _ _ (trl_not_routerReg (by omega) (by omega))

theorem trlKept_still (l : List Fld) : TrlKept l Dev.still := ⟨fun _ _ _ _ => rfl, fun _ _ _ _ _ _ => rfl, Dev.still_raise⟩

theorem trlKept_net (l : List Fld) : TrlKept l Dev.net :=
  ⟨fun _ _ _ _ => rfl, fun _ _ _ _ _ _ => rfl, fun d src scope arg hs => d.raise_net src scope arg hs⟩

/-- What of the Trellis is not its trim, its correction, its counted Syncs or its leader. -/
theorem trlKept_trl (l : List Fld) {α : Type} {g : Trellis → α}
    (hg : ∀ x trim slew synced holdAt lead, g { x with trim := trim, slew := slew, synced := synced, holdAt := holdAt, lead := lead } = g x) :
    TrlKept l (fun d => g d.trl) :=
  ⟨fun _ _ _ _ => rfl, fun _ _ _ _ _ _ => hg _ _ _ _ _ _, fun d src scope arg hs => congrArg g (d.raise_trl src scope arg hs)⟩

theorem Dev.holdRegs_keeps {α : Type} (P : Dev → α) (hfld : ∀ f ∈ holdFlds, ∀ (d : Dev) v, P (d.setFld 0 f v) = P d) (d : Dev) :
    P d.holdRegs = P d := by
  have herr := hfld F.TRL_HOLD_ERR_ns (by decide)
  have htime := hfld F.TRL_HOLD_TIME_ms (by decide)
  unfold Dev.holdRegs
  extract_lets t
  split
  · exact (htime _ _).trans (herr _ _)
  · split
    · exact herr _ _
    · split <;> exact herr _ _

/-- The grid writes its three fields alone. -/
theorem Dev.regrid_keeps {α : Type} (P : Dev → α) (hfld : ∀ f ∈ gridFlds, ∀ (d : Dev) v, P (d.setFld 0 f v) = P d) (d : Dev) :
    P d.regrid = P d := by
  unfold Dev.regrid
  extract_lets s k e
  exact (hfld F.TRL_STATUS_rephasing (by decide) _ _).trans ((hfld F.TRL_PHASE_ERR_steps (by decide) _ _).trans
    (hfld F.TRL_TICK_CNT_k (by decide) _ _))

section
variable {α : Type} {l : List Fld} {P : Dev → α} (h : TrlKept l P)
include h

theorem TrlKept.holdRegs (hl : holdFlds ⊆ l) (d : Dev) : P d.holdRegs = P d := Dev.holdRegs_keeps P (fun f hf => h.fld f (hl hf)) d

theorem TrlKept.regrid (hl : gridFlds ⊆ l) (d : Dev) : P d.regrid = P d := Dev.regrid_keeps P (fun f hf => h.fld f (hl hf)) d

end

/-! ### Entering a state -/

/-- The device with the state of the Trellis replaced; what is left in HOLDOVER is told as it ends (R54). -/
def Dev.showTrlState (d : Dev) (st : Nat) : Dev := (if d.trlState = trlHoldover then d.holdRegs else d).setFld 0 F.TRL_STATUS_state st

/-- The port of a state: none is received outside ACQUIRE and LOCKED (R48). -/
def Dev.showTrlPort (d : Dev) (st : Nat) : Dev := if st = trlAcquire ∨ st = trlLocked then d else d.setFld 0 F.TRL_STATUS_port 7

/-- The marks of an entry at lane cycle `now`: no Sync counted, no leader, and in HOLDOVER its time and trim (R48, R53, R54). -/
def Dev.trlMark (d : Dev) (st now : Nat) : Dev :=
  { d with trl := { d.trl with synced := 0, holdAt := if st = trlHoldover then now else d.trl.holdAt, lead := none } }
def Dev.trlArrive (d : Dev) (st now : Nat) : Dev := if st = trlHoldover then (d.trlMark st now).holdTrim else d.trlMark st now

/-- The event of an entry (R73). -/
def Dev.trlTell (d : Dev) (st : Nat) : Dev :=
  if st = trlLocked ∨ st = trlAxle then d.raise Ev.TIME_LOCKED scopeChip 0
  else if st = trlHoldover then d.raise Ev.TIME_HOLDOVER scopeChip 0
  else d

theorem Dev.trlEnter_same {d : Dev} {st : Nat} (h : d.trlState = st) : d.trlEnter st = d := if_pos h

theorem Dev.trlEnter_other {d : Dev} {st : Nat} (h : d.trlState ≠ st) :
    d.trlEnter st = ((((d.showTrlState st).showTrlPort st).trlArrive st d.now).holdRegs).trlTell st := by
  rw [Dev.trlEnter, if_neg h]
  rfl

section
variable {α : Type} {l : List Fld} {P : Dev → α} (h : TrlKept l P)
include h

theorem TrlKept.trlArrive (d : Dev) (st now : Nat) : P (d.trlArrive st now) = P d := by
  have hmark : P (d.trlMark st now) = P d := h.trl _ _ _ _ _ _
  unfold Dev.trlArrive
  split
  · exact (h.trl _ _ _ _ _ _).trans hmark
  · exact hmark

theorem TrlKept.trlTell (d : Dev) (st : Nat) : P (d.trlTell st) = P d := by
  unfold Dev.trlTell
  split
  · exact h.raise _ _ _ _ (by norm_num)
  · split
    · exact h.raise _ _ _ _ (by norm_num)
    · rfl

/-- What follows the registers of an entry's state and port. -/
theorem TrlKept.afterPort (hl : holdFlds ⊆ l) (d : Dev) (st now : Nat) :
    P (((d.trlArrive st now).holdRegs).trlTell st) = P d :=
  (h.trlTell _ _).trans ((h.holdRegs hl _).trans (h.trlArrive _ _ _))

theorem TrlKept.trlEnter (hl : enterFlds ⊆ l) (d : Dev) (st : Nat) : P (d.trlEnter st) = P d := by
  have hhold : holdFlds ⊆ l := List.Subset.trans (by decide) hl
  have hstate : P (d.showTrlState st) = P d := by
    unfold Dev.showTrlState
    split
    · exact (h.fld _ (hl (by decide)) _ _).trans (h.holdRegs hhold _)
    · exact h.fld _ (hl (by decide)) _ _
  have hport : P ((d.showTrlState st).showTrlPort st) = P (d.showTrlState st) := by
    unfold Dev.showTrlPort
    split
    · rfl
    · exact h.fld _ (hl (by decide)) _ _
  by_cases hst : d.trlState = st
  · rw [Dev.trlEnter_same hst]
  · rw [Dev.trlEnter_other hst, h.afterPort hhold, hport, hstate]

end

theorem trlKept_state : TrlKept [F.TRL_STATUS_port, F.TRL_HOLD_ERR_ns, F.TRL_HOLD_TIME_ms, F.TRL_TICK_CNT_k, F.TRL_PHASE_ERR_steps,
    F.TRL_STATUS_rephasing, F.TRL_OFFSET_ns] Dev.trlState := trlKept_fld (by decide)

theorem trlKept_port : TrlKept [F.TRL_STATUS_state, F.TRL_HOLD_ERR_ns, F.TRL_HOLD_TIME_ms, F.TRL_TICK_CNT_k, F.TRL_PHASE_ERR_steps,
    F.TRL_STATUS_rephasing, F.TRL_OFFSET_ns] (fun d => d.fld 0 F.TRL_STATUS_port) := trlKept_fld (by decide)

theorem Dev.showTrlState_state (d : Dev) {st : Nat} (hst : st < 8) : (d.showTrlState st).trlState = st := by
  unfold Dev.showTrlState
  exact (Dev.fld_setFld_same _ _ _ _ (by decide)).trans (Nat.mod_eq_of_lt hst)

theorem Dev.showTrlPort_state (d : Dev) (st : Nat) : (d.showTrlPort st).trlState = d.trlState := by
  unfold Dev.showTrlPort
  split
  · rfl
  · exact trlKept_state.fld _ (by decide) _ _

/-- The Trellis is in the state it enters. -/
theorem Dev.trlEnter_state (d : Dev) {st : Nat} (hst : st < 8) : (d.trlEnter st).trlState = st := by
  by_cases hsame : d.trlState = st
  · rw [Dev.trlEnter_same hsame, hsame]
  · rw [Dev.trlEnter_other hsame, trlKept_state.afterPort (by decide), Dev.showTrlPort_state, Dev.showTrlState_state d hst]

/-- An entry into ACQUIRE or LOCKED keeps the port. -/
theorem Dev.trlEnter_port (d : Dev) {st : Nat} (hst : st = trlAcquire ∨ st = trlLocked) :
    (d.trlEnter st).fld 0 F.TRL_STATUS_port = d.fld 0 F.TRL_STATUS_port := by
  have hset : (d.showTrlState st).fld 0 F.TRL_STATUS_port = d.fld 0 F.TRL_STATUS_port := by
    unfold Dev.showTrlState
    split
    · exact (trlKept_port.fld _ (by decide) _ _).trans (trlKept_port.holdRegs (by decide) _)
    · exact trlKept_port.fld _ (by decide) _ _
  by_cases hsame : d.trlState = st
  · rw [Dev.trlEnter_same hsame]
  · rw [Dev.trlEnter_other hsame, trlKept_port.afterPort (by decide), Dev.showTrlPort, if_pos hst, hset]

/-- No port is received in any other state. -/
theorem Dev.trlEnter_noPort {d : Dev} {st : Nat} (hst : ¬ (st = trlAcquire ∨ st = trlLocked)) (hother : d.trlState ≠ st) :
    (d.trlEnter st).fld 0 F.TRL_STATUS_port = 7 := by
  rw [Dev.trlEnter_other hother, trlKept_port.afterPort (by decide), Dev.showTrlPort, if_neg hst]
  exact Dev.fld_setFld_same _ _ _ _ (by decide)

/-- An entry into FREE or GM tells no event, and shows the error bound of the state (R54). -/
theorem Dev.trlEnter_holdErr {d : Dev} {st : Nat} (hst : st = trlFree ∨ st = trlGm) (hother : d.trlState ≠ st) :
    (d.trlEnter st).fld 0 F.TRL_HOLD_ERR_ns = if st = trlGm then 0 else 0xFFFFFFFF := by
  have hstate : (((d.showTrlState st).showTrlPort st).trlArrive st d.now).trlState = st :=
    (trlKept_state.trlArrive _ _ _).trans ((Dev.showTrlPort_state _ _).trans (Dev.showTrlState_state d (by rcases hst with rfl | rfl <;> decide)))
  rw [Dev.trlEnter_other hother]
  generalize ((d.showTrlState st).showTrlPort st).trlArrive st d.now = x at *
  rcases hst with rfl | rfl
  · rw [Dev.trlTell, if_neg (by decide), if_neg (by decide), Dev.holdRegs, hstate]
    exact Dev.fld_setFld_same _ _ _ _ (by decide)
  · rw [Dev.trlTell, if_neg (by decide), if_neg (by decide), Dev.holdRegs, hstate]
    exact Dev.fld_setFld_same _ _ _ _ (by decide)

/-- HOLDOVER is marked with the lane cycle of its entry (R54). -/
theorem Dev.trlEnter_holdAt {d : Dev} (hother : d.trlState ≠ trlHoldover) : (d.trlEnter trlHoldover).trl.holdAt = d.now := by
  have htell : ∀ e : Dev, (e.trlTell trlHoldover).trl = e.trl := by
    intro e
    rw [Dev.trlTell, if_neg (by decide), if_pos rfl, Dev.raise_trl _ _ _ _ (by norm_num)]
  rw [Dev.trlEnter_other hother, htell, Dev.holdRegs_keeps Dev.trl (fun _ _ _ _ => rfl)]
  rfl

/-! ### Steps of the counter -/

/-- The counter is set as one step, with nothing left to slew (R50). -/
theorem Dev.stepTime_net (d : Dev) (net : PtpTime) : (d.stepTime net).net = net :=
  (Dev.raise_net _ _ _ _ (by norm_num)).trans ((trlKept_net gridFlds).regrid (List.Subset.refl _) _)

theorem Dev.regrid_trl (d : Dev) : d.regrid.trl = d.trl := Dev.regrid_keeps Dev.trl (fun _ _ _ _ => rfl) d

theorem Dev.stepTime_slew (d : Dev) (net : PtpTime) : (d.stepTime net).trl = { d.trl with slew := 0 } :=
  (Dev.raise_trl _ _ _ _ (by norm_num)).trans (Dev.regrid_trl _)

/-- What a step of the counter leaves. -/
theorem TrlKept.stepTime {α : Type} {l : List Fld} {P : Dev → α} (h : TrlKept l P) (hnet : ∀ (d : Dev) n, P { d with net := n } = P d)
    (hl : gridFlds ⊆ l) (d : Dev) (net : PtpTime) : P (d.stepTime net) = P d :=
  (h.raise _ _ _ _ (by norm_num)).trans ((h.regrid hl _).trans ((h.trl { d with net := net } _ _ _ _ _).trans (hnet d net)))

/-! ### Writes of registers whose fields every master may write -/

/-- A one-bit field as a truth value. -/
theorem bitsOf_one (v i : Nat) : (bitsOf v i 1 != 0) = bitOf v i := by
  unfold bitsOf bitOf
  have hbit := Nat.mod_lt (v / 2 ^ i) (show 0 < 2 by norm_num)
  generalize v / 2 ^ i % 2 = x at *
  interval_cases x <;> rfl

/-- The rows of TRL_CTRL and TRL_PORT (R73). -/
abbrev rowTrlCtrl : Row := ⟨"TRL_CTRL", 0x40000000, [], [⟨0, 1, .rw, 0, none⟩, ⟨1, 1, .rw, 0, none⟩, ⟨4, 1, .wo, 0, none⟩]⟩
abbrev rowTrlPort : Row := ⟨"TRL_PORT", 0x40000038, [], [⟨0, 6, .rw, 63, none⟩]⟩

theorem rowAt_trlCtrl : rowAt 0x40000000 = some rowTrlCtrl := by rw [rowAt_chip (by norm_num) (by norm_num)]; rfl

theorem rowAt_trlPort : rowAt 0x40000038 = some rowTrlPort := by rw [rowAt_chip (by norm_num) (by norm_num)]; rfl

/-- A write of an open register without W1C bits sets its word. -/
theorem Dev.plainWrite_open {a : Nat} {r : Row} (hrow : rowAt a = some r)
    (hopen : r.fields.all (fun f => !f.acc.isGuarded && !f.acc.isNamed) = true) (hw1c : r.w1cBits = 0) (d : Dev) (m : Master) (v : Word) :
    d.plainWrite m a v = d.setReg a (BitVec.ofNat 32 (d.wordAfter m (d.reg a).toNat v.toNat r.fields)) := by
  rw [Dev.plainWrite_of_row hrow, Dev.unset_of_no_w1c hw1c]
  dsimp only
  rw [Dev.violates_open hopen, if_neg Bool.false_ne_true]

/-- TRL_CTRL takes src and gm_enable (R73). -/
theorem Dev.plainWrite_trlCtrl (d : Dev) (m : Master) (v : Word) :
    (d.plainWrite m 0x40000000 v).flag 0 F.TRL_CTRL_src = bitOf v.toNat 1 ∧
      (d.plainWrite m 0x40000000 v).flag 0 F.TRL_CTRL_gm_enable = bitOf v.toNat 0 := by
  have hword : d.wordAfter m (d.reg 0x40000000).toNat v.toNat rowTrlCtrl.fields =
      withBits (withBits (d.reg 0x40000000).toNat 1 1 (bitsOf v.toNat 1 1)) 0 1 (bitsOf v.toNat 0 1) :=
    congrArg (fun x => withBits (withBits x 1 1 (bitsOf v.toNat 1 1)) 0 1 (bitsOf v.toNat 0 1)) (withBits_self _ 4 1)
  have hinner := withBits_lt (d.reg 0x40000000).toNat 1 1 (bitsOf v.toNat 1 1) 32 (d.reg _).isLt (by norm_num)
  have hreg : (d.plainWrite m 0x40000000 v).reg 0x40000000 = BitVec.ofNat 32 (withBits (withBits (d.reg 0x40000000).toNat 1 1
      (bitsOf v.toNat 1 1)) 0 1 (bitsOf v.toNat 0 1)) := by
    rw [Dev.plainWrite_open rowAt_trlCtrl rfl rfl, hword, Dev.reg_setReg_same]
  have hnat : ((d.plainWrite m 0x40000000 v).reg 0x40000000).toNat =
      withBits (withBits (d.reg 0x40000000).toNat 1 1 (bitsOf v.toNat 1 1)) 0 1 (bitsOf v.toNat 0 1) := by
    rw [hreg, BitVec.toNat_ofNat, Nat.mod_eq_of_lt (withBits_lt _ _ _ _ 32 hinner (by norm_num))]
  constructor
  · rw [Dev.flag, Dev.fld, Nat.zero_add, fget, hnat, bitsOf_withBits_ne _ _ _ _ _ _ (by norm_num), bitsOf_withBits_same,
      Nat.mod_eq_of_lt (bitsOf_lt _ _ _), bitsOf_one]
  · rw [Dev.flag, Dev.fld, Nat.zero_add, fget, hnat, bitsOf_withBits_same, Nat.mod_eq_of_lt (bitsOf_lt _ _ _), bitsOf_one]

/-- TRL_PORT takes the enabled ports (R73). -/
theorem Dev.plainWrite_trlPort (d : Dev) (m : Master) (v : Word) :
    (d.plainWrite m 0x40000038 v).fld 0 F.TRL_PORT_enable = bitsOf v.toNat 0 6 := by
  have hword : d.wordAfter m (d.reg 0x40000038).toNat v.toNat rowTrlPort.fields =
      withBits (d.reg 0x40000038).toNat 0 6 (bitsOf v.toNat 0 6) := rfl
  rw [Dev.fld, Nat.zero_add, Dev.plainWrite_open rowAt_trlPort rfl rfl, hword, Dev.reg_setReg_same]
  exact (fget_fput_same (d.reg 0x40000038) F.TRL_PORT_enable _ (by norm_num)).trans (Nat.mod_eq_of_lt (bitsOf_lt _ _ _))

theorem Dev.plainWrite_still (d : Dev) (m : Master) (a : Nat) (v : Word) :
    (d.plainWrite m a v).still = d.still ∧ (d.plainWrite m a v).net = d.net ∧ (d.plainWrite m a v).trl = d.trl :=
  ⟨Dev.plainWrite_keeps Dev.still (fun _ _ _ => rfl) Dev.still_raise _ _ _ _,
    Dev.plainWrite_keeps Dev.net (fun _ _ _ => rfl) (fun d s c x hs => d.raise_net s c x hs) _ _ _ _,
    Dev.plainWrite_keeps Dev.trl (fun _ _ _ => rfl) (fun d s c x hs => d.raise_trl s c x hs) _ _ _ _⟩

/-! ### TRL_CTRL and TRL_PORT -/

theorem TrlKept.resource {α : Type} {l : List Fld} {P : Dev → α} (h : TrlKept l P) (hl : enterFlds ⊆ l) (d : Dev) : P d.resource = P d := by
  have henter := fun st => h.trlEnter hl d st
  unfold Dev.resource
  extract_lets up
  repeat' split
  all_goals simp only [henter]

theorem Dev.resource_axle {d : Dev} (hsrc : d.flag 0 F.TRL_CTRL_src = true) (hup : d.axlTime 0 = true ∨ d.axlTime 1 = true) :
    d.resource.trlState = trlAxle := by
  rw [Dev.resource, if_pos hsrc, if_pos (by simpa using hup)]
  exact d.trlEnter_state (by decide)

/-- What a write of TRL_CTRL leaves of what the Trellis' state does not touch. -/
theorem TrlKept.writeTrlCtrl {α : Type} {l : List Fld} {P : Dev → α} (h : TrlKept l P) (hl : enterFlds ⊆ l)
    (hpending : ∀ (d : Dev) v, P (d.setFld 0 F.TRL_STATUS_apply_pending v) = P d) (d : Dev) (m : Master) (v : Word) :
    P (d.writeTrlCtrl m v) = P (d.plainWrite m 0x40000000 v) := by
  unfold Dev.writeTrlCtrl
  extract_lets d1
  have hd1 : P d1 = P (d.plainWrite m 0x40000000 v) := h.resource hl _
  split
  · exact (hpending _ _).trans hd1
  · exact hd1

end Sys2Proof.Machine
end

section
/-! The registers of the Trellis and of the phases (R45, R48, R51, R59, R61, R68). -/

namespace Sys2Proof.Machine

/-! ### The time registers -/

/-- A read of TRL_TIME_LO copies the high word and the fraction (R45). -/
theorem Dev.copyTime_spec (d : Dev) : d.copyTime.fld 0 F.TRL_TIME_HI_ns = d.ns.toNat / 2 ^ 32 ∧
    d.copyTime.fld 0 F.TRL_TIME_FRAC_frac = d.net.toNat % 65536 ∧ d.copyTime.still = d.still ∧ d.copyTime.net = d.net := by
  have hns := d.ns.isLt
  refine ⟨?_, ?_, rfl, rfl⟩
  · rw [Dev.copyTime, Dev.fld_setFld_ne _ _ _ _ _ _ (by decide), Dev.fld_setFld_same _ _ _ _ (by decide)]
    exact Nat.mod_eq_of_lt (by simp only []; omega)
  · rw [Dev.copyTime, Dev.fld_setFld_same _ _ _ _ (by decide)]
    exact Nat.mod_eq_of_lt (Nat.mod_lt _ (by norm_num))

/-- A step of the counter touches nothing outside the Trellis. -/
theorem Dev.stepTime_still (d : Dev) (net : PtpTime) : (d.stepTime net).still = d.still :=
  (trlKept_still gridFlds).stepTime (fun _ _ => rfl) (List.Subset.refl _) d net

/-- A write of TRL_TIME_LO that may step the counter sets it to the held high word and the written low word (R51). -/
theorem Dev.writeTimeLo_steps {d : Dev} {h : Word} (hheld : d.trl.heldHi = some h) (hstate : d.trlState = trlFree ∨ d.trlState = trlGm)
    (hquiet : d.anyActive = false) (v : Word) : (d.writeTimeLo v).net.toNat = (h.toNat * 2 ^ 32 + v.toNat) * 65536 ∧
      (d.writeTimeLo v).trl = { d.trl with heldHi := none, slew := 0 } ∧ (d.writeTimeLo v).still = d.still := by
  have hlt : (h.toNat * 2 ^ 32 + v.toNat) * 65536 < 2 ^ 80 := by
    have hh := h.isLt
    have hv := v.isLt
    omega
  rw [Dev.writeTimeLo, if_pos ⟨hstate, hquiet⟩, hheld]
  refine ⟨?_, Dev.stepTime_slew _ _, Dev.stepTime_still _ _⟩
  rw [Dev.stepTime_net, BitVec.toNat_ofNat, Nat.mod_eq_of_lt hlt]

/-- A refused write uses the held high word up (R51). -/
theorem Dev.writeTimeLo_refused {d : Dev} (h : ¬ ((d.trlState = trlFree ∨ d.trlState = trlGm) ∧ d.anyActive = false)) (v : Word) :
    (d.writeTimeLo v).trl = { d.trl with heldHi := none } ∧ (d.writeTimeLo v).still = d.still ∧ (d.writeTimeLo v).net = d.net := by
  have hs : Ev.TICK_CFG_REFUSED < 0x100 := by norm_num
  rw [Dev.writeTimeLo, if_neg h]
  exact ⟨Dev.raise_trl _ _ _ _ hs, Dev.still_raise _ _ _ _ hs, Dev.raise_net _ _ _ _ hs⟩

/-! ### RGN_SUBTICK -/

/-- One block's factor in a word that is written to RGN_SUBTICK (R59). -/
def Dev.subtickStep (d : Dev) (r : Nat) (v : Word) (acc i : Nat) : Nat :=
  if d.subtickRefused r i v then acc else withBits acc (2 * i) 2 (bitsOf v.toNat (2 * i) 2)

/-- The word that RGN_SUBTICK holds after a write (R59). -/
def Dev.subtickWord (d : Dev) (r : Nat) (v : Word) (l : List Nat) (acc : Nat) : Nat := l.foldl (d.subtickStep r v) acc

theorem Dev.subtickWord_lt (d : Dev) (r : Nat) (v : Word) {l : List Nat} (hl : ∀ i ∈ l, i < 4) {acc : Nat} (h : acc < 2 ^ 32) :
    d.subtickWord r v l acc < 2 ^ 32 := by
  induction l generalizing acc with
  | nil => exact h
  | cons j t ih =>
    have hj := hl j List.mem_cons_self
    refine ih (fun i hi => hl i (List.mem_cons_of_mem j hi)) ?_
    unfold Dev.subtickStep
    split
    · exact h
    · exact withBits_lt _ _ _ _ 32 h (by omega)

/-- Each block's factor is judged by itself. -/
theorem Dev.subtickWord_bits (d : Dev) (r : Nat) (v : Word) {l : List Nat} (hl : l.Nodup) (acc i : Nat) :
    bitsOf (d.subtickWord r v l acc) (2 * i) 2 =
      if i ∈ l ∧ d.subtickRefused r i v = false then bitsOf v.toNat (2 * i) 2 else bitsOf acc (2 * i) 2 := by
  induction l generalizing acc with
  | nil => simp [Dev.subtickWord]
  | cons j t ih =>
    obtain ⟨hj, ht⟩ := List.nodup_cons.mp hl
    have hstep : bitsOf (d.subtickStep r v acc j) (2 * i) 2 =
        if i = j ∧ d.subtickRefused r i v = false then bitsOf v.toNat (2 * i) 2 else bitsOf acc (2 * i) 2 := by
      unfold Dev.subtickStep
      by_cases hij : i = j
      · subst hij
        by_cases href : d.subtickRefused r i v = true
        · simp [href]
        · rw [if_neg href, if_pos ⟨rfl, Bool.eq_false_iff.mpr href⟩, bitsOf_withBits_same, Nat.mod_eq_of_lt (bitsOf_lt _ _ _)]
      · rw [if_neg (fun h : i = j ∧ _ => hij h.1)]
        split
        · rfl
        · exact bitsOf_withBits_ne _ _ _ _ _ _ (by omega)
    have hword : d.subtickWord r v (j :: t) acc = d.subtickWord r v t (d.subtickStep r v acc j) := rfl
    rw [hword, ih ht, hstep]
    by_cases hij : i = j
    · subst hij
      simp [hj]
    · simp [hij]

/-- A write of RGN_SUBTICK sets the word judged block by block, and raises TICK_CFG_REFUSED where it refuses one. -/
theorem Dev.writeSubtick_spec (d : Dev) (r : Nat) (v : Word) :
    (d.writeSubtick r v).reg (rgnReg r + 0x68) = BitVec.ofNat 32 (d.subtickWord r v [0, 1, 2, 3] (d.reg (rgnReg r + 0x68)).toNat) ∧
      (d.writeSubtick r v).still = d.still ∧ (d.writeSubtick r v).net = d.net := by
  have hs : Ev.TICK_CFG_REFUSED < 0x100 := by norm_num
  unfold Dev.writeSubtick
  extract_lets old w d1
  have hreg : d1.reg (rgnReg r + 0x68) = BitVec.ofNat 32 w := Dev.reg_setReg_same _ _ _
  have hstill : d1.still = d.still := Dev.still_setReg _ _ _
  have hnet : d1.net = d.net := Dev.setReg_net _ _ _
  split
  · exact ⟨(Dev.raise_reg _ _ _ _ _ hs (rgnReg_not_routerReg r 0x68 (by norm_num))).trans hreg, (Dev.still_raise _ _ _ _ hs).trans hstill,
      (Dev.raise_net _ _ _ _ hs).trans hnet⟩
  · exact ⟨hreg, hstill, hnet⟩

/-! ### The commands -/

section
variable (m : Master) (v : Word) (s : State)

theorem exec_trlCtrlWrite : exec (.trlCtrlWrite m false v) s = .next ⟨s.dev.writeTrlCtrl m v, s.pending⟩ := rfl
theorem exec_trlPortWrite : exec (.trlCtrlWrite m true v) s = .next ⟨(s.dev.plainWrite m 0x40000038 v).resource, s.pending⟩ := rfl
theorem exec_trlCtrlApply : exec (.trlCtrlApply m v) s = .next ⟨s.dev.writeTrlCtrl m v, s.pending⟩ := rfl
theorem exec_trlTimeLoRead : exec (.trlTimeLoRead m) s = .next ⟨s.dev.copyTime.answer (s.dev.ns.setWidth 32), s.pending⟩ := rfl
theorem exec_trlTimeHiWrite : exec (.trlTimeHiWrite m v) s = .next ⟨s.dev.writeTimeHi v, s.pending⟩ := rfl
theorem exec_trlTimeLoWrite : exec (.trlTimeLoWrite m v) s = .next ⟨s.dev.writeTimeLo v, s.pending⟩ := rfl
theorem exec_rgnSubtickWrite (r : RegionId) : exec (.rgnSubtickWrite m r v) s = .next ⟨s.dev.writeSubtick r v, s.pending⟩ := rfl
theorem exec_rgnPhaseWrite (r : RegionId) (second : Bool) :
    exec (.rgnPhaseWrite m r second v) s = .next ⟨s.dev.writePhase m r second v, s.pending⟩ := rfl

end

/-- A device whose still part is that of another keeps memory, legs, units and the timing in force. -/
theorem Dev.still_rest {d e : Dev} (h : e.still = d.still) : e.mem = d.mem ∧ e.legs = d.legs ∧ e.units = d.units ∧ e.inforce = d.inforce := by
  obtain ⟨hmem, hlegs, hunits, hinforce, -⟩ := Dev.still_eq h
  exact ⟨hmem, hlegs, hunits, hinforce⟩

/-- A write of TRL_CTRL leaves what is in force, memory, legs and the counter. -/
theorem Dev.writeTrlCtrl_still (d : Dev) (m : Master) (v : Word) : (d.writeTrlCtrl m v).still = d.still ∧ (d.writeTrlCtrl m v).net = d.net := by
  obtain ⟨hstill, hnet, -⟩ := d.plainWrite_still m 0x40000000 v
  exact ⟨((trlKept_still enterFlds).writeTrlCtrl (List.Subset.refl _) (fun _ _ => rfl) d m v).trans hstill,
    ((trlKept_net enterFlds).writeTrlCtrl (List.Subset.refl _) (fun _ _ => rfl) d m v).trans hnet⟩

/-- Of TRL_CTRL, a write that does not apply leaves a pending apply as it was. -/
theorem Dev.writeTrlCtrl_spec (d : Dev) (m : Master) (v : Word) :
    (d.writeTrlCtrl m v).flag 0 F.TRL_CTRL_src = bitOf v.toNat 1 ∧ (d.writeTrlCtrl m v).flag 0 F.TRL_CTRL_gm_enable = bitOf v.toNat 0 ∧
      (bitOf v.toNat 1 = true → (d.plainWrite m 0x40000000 v).axlTime 0 = true ∨ (d.plainWrite m 0x40000000 v).axlTime 1 = true →
        (d.writeTrlCtrl m v).trlState = trlAxle) ∧
      (bitOf v.toNat 4 = false → (d.writeTrlCtrl m v).flag 0 F.TRL_STATUS_apply_pending = d.flag 0 F.TRL_STATUS_apply_pending) ∧
      (bitOf v.toNat 4 = true → (d.writeTrlCtrl m v).flag 0 F.TRL_STATUS_apply_pending = true) := by
  obtain ⟨hsrc, hgm⟩ := d.plainWrite_trlCtrl m v
  have hfld : ∀ g : Fld, Fld.apart (F.TRL_STATUS_apply_pending :: enterFlds) g = true →
      (d.writeTrlCtrl m v).flag 0 g = (d.plainWrite m 0x40000000 v).flag 0 g := fun g hg => by
    have hkept := trlKept_fld hg
    rw [Dev.flag, hkept.writeTrlCtrl (List.subset_cons_self _ _) (hkept.fld _ List.mem_cons_self), Dev.flag]
  have hstate : ∀ (e : Dev) x, (e.setFld 0 F.TRL_STATUS_apply_pending x).trlState = e.trlState :=
    Dev.fld_setFld_apart (l := [F.TRL_STATUS_apply_pending]) (by decide) (by decide)
  refine ⟨(hfld _ (by decide)).trans hsrc, (hfld _ (by decide)).trans hgm, fun h1 hup => ?_, fun h4 => ?_, fun h4 => ?_⟩
  · have haxle := Dev.resource_axle (hsrc.trans h1) hup
    unfold Dev.writeTrlCtrl
    extract_lets d1
    split
    · exact (hstate _ _).trans haxle
    · exact haxle
  · have hpending : TrlKept enterFlds (fun d => d.fld 0 F.TRL_STATUS_apply_pending) := trlKept_fld (by decide)
    rw [Dev.writeTrlCtrl, h4, if_neg Bool.false_ne_true, Dev.flag, hpending.resource (List.Subset.refl _), Dev.flag,
      Dev.plainWrite_open rowAt_trlCtrl rfl rfl, Dev.fld_setReg_ne _ _ _ _ _ (by decide)]
  · rw [Dev.writeTrlCtrl, h4, if_pos rfl, Dev.flag, Dev.fld_setFld_same _ _ _ _ (by decide)]
    rfl

/-- A write of the phases is done as it is or refused as a whole (R61). -/
theorem Dev.writePhase_still (d : Dev) (m : Master) (r : Nat) (second : Bool) (v : Word) :
    (d.writePhase m r second v).still = d.still ∧ (d.writePhase m r second v).net = d.net := by
  have hs : Ev.TICK_CFG_REFUSED < 0x100 := by norm_num
  unfold Dev.writePhase
  extract_lets w0 w1
  split
  · obtain ⟨hstill, hnet, -⟩ := d.plainWrite_still m (rgnReg r + if second then 0x64 else 0x60) v
    exact ⟨hstill, hnet⟩
  · exact ⟨Dev.still_raise _ _ _ _ hs, Dev.raise_net _ _ _ _ hs⟩

/-- Settles O25: each write and read by what its registers, the state of the Trellis and the counter show after it. -/
theorem trellisRegisters : Obligations.TrellisRegisters := by
  unfold Obligations.TrellisRegisters
  intro m r second v s d rest kept w
  have hkept : ∀ e : Dev, e.still = d.still ∧ e.net = d.net → kept e := fun e he => ⟨Dev.still_rest he.1, he.2⟩
  have hctrl := d.writeTrlCtrl_still m v
  obtain ⟨hsrc, hgm, haxle, hsame, hpending⟩ := d.writeTrlCtrl_spec m v
  refine ⟨?_, ?_, ?_, ?_, ?_, ?_, ?_, ?_, ?_⟩
  · rw [exec_trlCtrlWrite, State.answers_next]
    exact ⟨hkept _ hctrl, hsrc, hgm, haxle, hsame⟩
  · obtain ⟨hstill, hnet, -⟩ := d.plainWrite_still m 0x40000038 v
    rw [exec_trlPortWrite, State.answers_next]
    refine ⟨hkept _ ⟨((trlKept_still enterFlds).resource (List.Subset.refl _) _).trans hstill,
      ((trlKept_net enterFlds).resource (List.Subset.refl _) _).trans hnet⟩, ?_⟩
    exact ((trlKept_fld (l := enterFlds) (by decide)).resource (List.Subset.refl _) _).trans (d.plainWrite_trlPort m v)
  · intro h4
    obtain ⟨-, -, htrl⟩ := d.plainWrite_still m 0x40000000 v
    have hnext : TrlKept enterFlds (fun d => d.trl.nextStep) := trlKept_trl _ fun _ _ _ _ _ _ => rfl
    rw [exec_trlCtrlApply, State.answers_next]
    exact ⟨hpending h4, (hnext.writeTrlCtrl (List.Subset.refl _) (fun _ _ => rfl) d m v).trans (congrArg Trellis.nextStep htrl), hkept _ hctrl⟩
  · obtain ⟨hhi, hfrac, hstill, hnet⟩ := d.copyTime_spec
    rw [exec_trlTimeLoRead, State.answers_next]
    exact ⟨rfl, rfl, hhi, hfrac, hkept _ ⟨hstill, hnet⟩⟩
  · rw [exec_trlTimeHiWrite, State.answers_next]
    exact ⟨rfl, rfl, hkept _ ⟨rfl, rfl⟩⟩
  · intro h hheld hstate hquiet
    obtain ⟨hnet, htrl, hstill⟩ := Dev.writeTimeLo_steps hheld hstate hquiet v
    rw [exec_trlTimeLoWrite, State.answers_next]
    exact ⟨hnet, congrArg Trellis.heldHi htrl, congrArg Trellis.slew htrl, Dev.still_rest hstill⟩
  · intro hbusy
    have hno : ¬ ((d.trlState = trlFree ∨ d.trlState = trlGm) ∧ d.anyActive = false) := by
      rintro ⟨hstate, hquiet⟩
      rcases hbusy with ⟨hfree, hgm⟩ | hact
      · exact hstate.elim hfree hgm
      · rw [hquiet] at hact
        cases hact
    obtain ⟨htrl, hstill, hnet⟩ := Dev.writeTimeLo_refused hno v
    rw [exec_trlTimeLoWrite, State.answers_next]
    exact ⟨congrArg Trellis.heldHi htrl, (congrArg Trellis.slew htrl :), hkept _ ⟨hstill, hnet⟩⟩
  · obtain ⟨hreg, hstill, hnet⟩ := d.writeSubtick_spec r v
    rw [exec_rgnSubtickWrite, State.answers_next]
    refine ⟨hkept _ ⟨hstill, hnet⟩, fun i hi => ?_⟩
    have hlt := d.subtickWord_lt r v (l := [0, 1, 2, 3]) (by decide) (d.reg (rgnReg r + 0x68)).isLt
    have hmem : i ∈ [0, 1, 2, 3] := by
      interval_cases i <;> decide
    rw [hreg, BitVec.toNat_ofNat, Nat.mod_eq_of_lt hlt, d.subtickWord_bits r v (by decide)]
    by_cases href : d.subtickRefused r i v = true
    · rw [if_pos href, if_neg (by simp [href])]
    · rw [if_neg href, if_pos ⟨hmem, Bool.eq_false_iff.mpr href⟩]
  · intro a lo hi
    have hs : Ev.TICK_CFG_REFUSED < 0x100 := by norm_num
    rw [exec_rgnPhaseWrite, State.answers_next]
    refine ⟨hkept _ (d.writePhase_still m r second v), fun hok => if_pos hok, fun hbad => ?_⟩
    have hraise : d.writePhase m r second v = d.raise Ev.TICK_CFG_REFUSED scopeChip 0 := if_neg (by rw [hbad]; exact Bool.false_ne_true)
    refine ⟨?_, hraise⟩
    rw [hraise]
    exact d.raise_reg _ _ _ _ hs (rgnReg_not_routerReg _ _ (by split <;> norm_num))

end Sys2Proof.Machine
end

section
/-! gPTP messages and the loss of Sync (R46 to R50, R52). -/

namespace Sys2Proof.Machine

/-! ### A Sync whose origin is known -/

/-- The fields that the Trellis writes beside TRL_OFFSET. -/
def stateFlds : List Fld := enterFlds ++ gridFlds

/-- What a Sync corrects once its offset `u` is in TRL_OFFSET and the servo has run: one step in ACQUIRE where it may be, else a slew (R50). -/
def Dev.syncCorrected (d : Dev) (u : Int) : Dev :=
  if d.trlState = trlAcquire ∧ (u / 65536 < -1000 ∨ 1000 < u / 65536) ∧ d.anyActive = false then
    d.stepTime (BitVec.ofInt 80 ((d.net.toNat : Int) - u))
  else { d with trl := { d.trl with slew := -u } }

/-- The offset shown, and the trim that the servo sets. -/
def Dev.offsetShown (d : Dev) (u : Int) : Dev := (d.setFld 0 F.TRL_OFFSET_ns (lowBits 32 (u / 65536))).servoTrim

theorem Dev.applySync_eq (d : Dev) (u : Int) : d.applySync u = ((d.offsetShown u).syncCorrected u).countSync (u / 65536) := rfl

/-- What the servo and the changes of the Trellis leave. -/
structure SyncKept {α : Type} (l : List Fld) (P : Dev → α) : Prop extends TrlKept l P where
  free : ∀ (d : Dev) n, P { d with free := n } = P d

theorem syncKept_still (l : List Fld) : SyncKept l Dev.still := ⟨trlKept_still l, fun _ _ => rfl⟩
theorem syncKept_net (l : List Fld) : SyncKept l Dev.net := ⟨trlKept_net l, fun _ _ => rfl⟩
theorem syncKept_fld {l : List Fld} {g : Fld} (h : Fld.apart l g = true) : SyncKept l (fun d => d.fld 0 g) := ⟨trlKept_fld h, fun _ _ => rfl⟩
theorem syncKept_arrival (l : List Fld) : SyncKept l (fun d => d.trl.arrival) := ⟨trlKept_trl l fun _ _ _ _ _ _ => rfl, fun _ _ => rfl⟩

section
variable {α : Type} {l : List Fld} {P : Dev → α}

theorem SyncKept.servoTrim (h : SyncKept l P) (d : Dev) : P d.servoTrim = P d := (h.trl _ _ _ _ _ _).trans (h.free _ _)

theorem SyncKept.offsetShown (h : SyncKept l P) (d : Dev) (u : Int) :
    P (d.offsetShown u) = P (d.setFld 0 F.TRL_OFFSET_ns (lowBits 32 (u / 65536))) := h.servoTrim _

theorem TrlKept.syncCorrected (h : TrlKept l P) (hnet : ∀ (d : Dev) n, P { d with net := n } = P d) (hl : gridFlds ⊆ l) (d : Dev) (u : Int) :
    P (d.syncCorrected u) = P d := by
  unfold Dev.syncCorrected
  split
  · exact h.stepTime hnet hl _ _
  · exact h.trl _ _ _ _ _ _

theorem TrlKept.countSync (h : TrlKept l P) (hl : enterFlds ⊆ l) (d : Dev) (offset : Int) : P (d.countSync offset) = P d := by
  unfold Dev.countSync
  extract_lets n
  split
  · exact (h.trlEnter hl _ _).trans (h.trl _ _ _ _ _ _)
  · exact h.trl _ _ _ _ _ _

/-- What a Sync with a known offset leaves beside TRL_OFFSET. -/
theorem SyncKept.applySync (h : SyncKept l P) (hnet : ∀ (d : Dev) n, P { d with net := n } = P d) (hl : stateFlds ⊆ l) (d : Dev) (u : Int) :
    P (d.applySync u) = P (d.setFld 0 F.TRL_OFFSET_ns (lowBits 32 (u / 65536))) := by
  have henter : enterFlds ⊆ l := List.Subset.trans (List.subset_append_left _ _) hl
  have hgrid : gridFlds ⊆ l := List.Subset.trans (List.subset_append_right _ _) hl
  rw [Dev.applySync_eq, h.countSync henter, h.syncCorrected hnet hgrid, h.offsetShown]

end

theorem Dev.applySync_still (d : Dev) (u : Int) : (d.applySync u).still = d.still :=
  (syncKept_still stateFlds).applySync (fun _ _ => rfl) (List.Subset.refl _) d u

theorem Dev.applySync_arrival (d : Dev) (u : Int) : (d.applySync u).trl.arrival = d.trl.arrival :=
  (syncKept_arrival stateFlds).applySync (fun _ _ => rfl) (List.Subset.refl _) d u

/-- TRL_OFFSET shows the offset (R50). -/
theorem Dev.applySync_offset (d : Dev) (u : Int) : (d.applySync u).fld 0 F.TRL_OFFSET_ns = lowBits 32 (u / 65536) := by
  have hlt : lowBits 32 (u / 65536) < 2 ^ 32 := by
    unfold lowBits
    omega
  have hkept : SyncKept stateFlds (fun d => d.fld 0 F.TRL_OFFSET_ns) := syncKept_fld (by decide)
  rw [hkept.applySync (fun _ _ => rfl) (List.Subset.refl _), Dev.fld_setFld_same _ _ _ _ (by decide)]
  exact Nat.mod_eq_of_lt hlt

/-! ### Counted Syncs -/

/-- The device with `n` Syncs counted. -/
def Dev.counted (d : Dev) (n : Nat) : Dev := { d with trl := { d.trl with synced := n } }

theorem Dev.countSync_eq (d : Dev) (offset : Int) : d.countSync offset =
    let n := if -50 ≤ offset ∧ offset ≤ 50 then d.trl.synced + 1 else 0
    if 4 ≤ n ∧ d.trlState = trlAcquire then (d.counted n).trlEnter trlLocked else d.counted n := rfl

/-- Short of four Syncs within 50 ns the Trellis only counts (R48). -/
theorem Dev.countSync_stays {d : Dev} {offset : Int} (h : ¬ (3 ≤ d.trl.synced ∧ (-50 ≤ offset ∧ offset ≤ 50) ∧ d.trlState = trlAcquire)) :
    d.countSync offset = d.counted (if -50 ≤ offset ∧ offset ≤ 50 then d.trl.synced + 1 else 0) := by
  rw [Dev.countSync_eq]
  refine if_neg ?_
  rintro ⟨hfour, hstate⟩
  by_cases hnear : -50 ≤ offset ∧ offset ≤ 50
  · rw [if_pos hnear] at hfour
    exact h ⟨by omega, hnear, hstate⟩
  · rw [if_neg hnear] at hfour
    omega

/-- Four of them lock it (R48). -/
theorem Dev.countSync_locks {d : Dev} {offset : Int} (hcount : 3 ≤ d.trl.synced) (hnear : -50 ≤ offset ∧ offset ≤ 50) (hstate : d.trlState = trlAcquire) :
    d.countSync offset = (d.counted (d.trl.synced + 1)).trlEnter trlLocked := by
  rw [Dev.countSync_eq, if_pos hnear]
  exact if_pos ⟨by omega, hstate⟩

/-! ### What a Sync with a known offset does, by the state -/

/-- A correction that is slewed. -/
theorem Dev.syncCorrected_slews {d : Dev} {u : Int}
    (h : ¬ (d.trlState = trlAcquire ∧ (u / 65536 < -1000 ∨ 1000 < u / 65536) ∧ d.anyActive = false)) :
    (d.syncCorrected u).net = d.net ∧ (d.syncCorrected u).trl = { d.trl with slew := -u } ∧ (d.syncCorrected u).trlState = d.trlState := by
  rw [Dev.syncCorrected, if_neg h]
  exact ⟨rfl, rfl, rfl⟩

/-- A correction that is made by one step. -/
theorem Dev.syncCorrected_steps {d : Dev} {u : Int}
    (h : d.trlState = trlAcquire ∧ (u / 65536 < -1000 ∨ 1000 < u / 65536) ∧ d.anyActive = false) :
    (d.syncCorrected u).net = BitVec.ofInt 80 ((d.net.toNat : Int) - u) ∧ (d.syncCorrected u).trl = { d.trl with slew := 0 } := by
  rw [Dev.syncCorrected, if_pos h]
  exact ⟨Dev.stepTime_net _ _, Dev.stepTime_slew _ _⟩

theorem Dev.syncCorrected_state (d : Dev) (u : Int) : (d.syncCorrected u).trlState = d.trlState :=
  trlKept_state.syncCorrected (fun _ _ => rfl) (by decide) d u

theorem Dev.servoTrim_synced (d : Dev) : d.servoTrim.trl.synced = d.trl.synced := rfl

theorem Dev.syncCorrected_synced (d : Dev) (u : Int) : (d.syncCorrected u).trl.synced = d.trl.synced := by
  unfold Dev.syncCorrected
  split
  · exact (congrArg Trellis.synced (Dev.stepTime_slew _ _) :)
  · rfl

/-- The offset and the servo leave the state, the counter, the units, the counted Syncs and the port. -/
theorem Dev.offsetShown_spec (d : Dev) (u : Int) : (d.offsetShown u).trlState = d.trlState ∧ (d.offsetShown u).net = d.net ∧
    (d.offsetShown u).anyActive = d.anyActive ∧ (d.offsetShown u).trl.synced = d.trl.synced ∧
    (d.offsetShown u).fld 0 F.TRL_STATUS_port = d.fld 0 F.TRL_STATUS_port := by
  have hstate : SyncKept [F.TRL_OFFSET_ns] (fun d => d.fld 0 F.TRL_STATUS_state) := syncKept_fld (by decide)
  have hport : SyncKept [F.TRL_OFFSET_ns] (fun d => d.fld 0 F.TRL_STATUS_port) := syncKept_fld (by decide)
  have hunits : (d.offsetShown u).units = d.units := (Dev.still_eq ((syncKept_still []).offsetShown d u)).2.2.1
  refine ⟨(hstate.offsetShown d u).trans (hstate.fld _ List.mem_cons_self _ _), (syncKept_net []).offsetShown d u, ?_,
    Dev.servoTrim_synced _, (hport.offsetShown d u).trans (hport.fld _ List.mem_cons_self _ _)⟩
  simp only [Dev.anyActive, Dev.unit_of_units hunits]

section
variable {d : Dev} {u : Int}

/-- What the state stays at until four Syncs are counted. -/
theorem Dev.applySync_stays (h : ¬ (3 ≤ d.trl.synced ∧ (-50 ≤ u / 65536 ∧ u / 65536 ≤ 50) ∧ d.trlState = trlAcquire)) :
    (d.applySync u).net = ((d.offsetShown u).syncCorrected u).net ∧ (d.applySync u).trl.slew = ((d.offsetShown u).syncCorrected u).trl.slew ∧
      (d.applySync u).trlState = d.trlState ∧ (d.applySync u).fld 0 F.TRL_STATUS_port = d.fld 0 F.TRL_STATUS_port := by
  obtain ⟨hstate, -, -, hsynced, hport⟩ := d.offsetShown_spec u
  have hstate' := (Dev.syncCorrected_state (d.offsetShown u) u).trans hstate
  have hport' := (trlKept_port.syncCorrected (fun _ _ => rfl) (by decide) (d.offsetShown u) u).trans hport
  have hsynced' := (Dev.syncCorrected_synced (d.offsetShown u) u).trans hsynced
  rw [Dev.applySync_eq]
  generalize (d.offsetShown u).syncCorrected u = x at *
  rw [← hstate', ← hsynced'] at h
  rw [Dev.countSync_stays h]
  exact ⟨rfl, rfl, hstate', hport'⟩

/-- A correction that no step makes is slewed (R50). -/
theorem Dev.applySync_slews (hstay : ¬ (3 ≤ d.trl.synced ∧ (-50 ≤ u / 65536 ∧ u / 65536 ≤ 50) ∧ d.trlState = trlAcquire))
    (h : ¬ (d.trlState = trlAcquire ∧ (u / 65536 < -1000 ∨ 1000 < u / 65536) ∧ d.anyActive = false)) :
    (d.applySync u).net = d.net ∧ (d.applySync u).trl.slew = -u := by
  obtain ⟨hstate, hnet, hactive, -⟩ := d.offsetShown_spec u
  obtain ⟨hnet', hslew', -⟩ := Dev.applySync_stays hstay
  rw [← hstate, ← hactive] at h
  obtain ⟨hcnet, hctrl, -⟩ := Dev.syncCorrected_slews h
  exact ⟨hnet'.trans (hcnet.trans hnet), hslew'.trans (congrArg Trellis.slew hctrl)⟩

/-- In ACQUIRE an offset beyond 1 µs is removed by one step while no unit is active (R48). -/
theorem Dev.applySync_steps (h : d.trlState = trlAcquire ∧ (u / 65536 < -1000 ∨ 1000 < u / 65536) ∧ d.anyActive = false) :
    (d.applySync u).net = BitVec.ofInt 80 ((d.net.toNat : Int) - u) ∧ (d.applySync u).trl.slew = 0 := by
  have hfar := h.2.1
  obtain ⟨hstate, hnet, hactive, -⟩ := d.offsetShown_spec u
  obtain ⟨hnet', hslew', -⟩ := d.applySync_stays (u := u) (fun hnear => by omega)
  rw [← hstate, ← hactive] at h
  obtain ⟨hcnet, hctrl⟩ := Dev.syncCorrected_steps h
  exact ⟨hnet'.trans (hcnet.trans (by rw [hnet])), hslew'.trans (congrArg Trellis.slew hctrl)⟩

/-- The fourth Sync within 50 ns locks, on its port, by a slew (R48). -/
theorem Dev.applySync_locks (hcount : 3 ≤ d.trl.synced) (hnear : -50 ≤ u / 65536 ∧ u / 65536 ≤ 50) (hacquire : d.trlState = trlAcquire) :
    (d.applySync u).trlState = trlLocked ∧ (d.applySync u).net = d.net ∧
      (d.applySync u).fld 0 F.TRL_STATUS_port = d.fld 0 F.TRL_STATUS_port := by
  obtain ⟨hstate, hnet, -, hsynced, hport⟩ := d.offsetShown_spec u
  obtain ⟨hnet', hctrl, hstate'⟩ := Dev.syncCorrected_slews (d := d.offsetShown u) (u := u) (fun hfar => by omega)
  have hport' := (trlKept_port.syncCorrected (fun _ _ => rfl) (by decide) (d.offsetShown u) u).trans hport
  have hsynced' := (congrArg Trellis.synced hctrl).trans hsynced
  rw [Dev.applySync_eq]
  generalize (d.offsetShown u).syncCorrected u = x at *
  rw [Dev.countSync_locks (by rw [hsynced']; exact hcount) hnear ((hstate'.trans hstate).trans hacquire)]
  exact ⟨Dev.trlEnter_state _ (by decide), ((trlKept_net enterFlds).trlEnter (List.Subset.refl _) _ _).trans (hnet'.trans hnet),
    (Dev.trlEnter_port _ (.inr rfl)).trans hport'⟩

end

/-! ### The best master clock algorithm -/

theorem Dev.winsBmca_of {d e : Dev} (hgm : e.fld 0 F.TRL_CTRL_gm_enable = d.fld 0 F.TRL_CTRL_gm_enable)
    (hsrc : e.fld 0 F.TRL_CTRL_src = d.fld 0 F.TRL_CTRL_src) (hport : e.fld 0 F.TRL_PORT_enable = d.fld 0 F.TRL_PORT_enable)
    (hrank : e.trl.rank = d.trl.rank) (hown : e.trl.own = d.trl.own) (hnow : e.now = d.now) : e.winsBmca = d.winsBmca := by
  have hrankOf : e.rankOf = d.rankOf := by
    funext q
    rw [Dev.rankOf, Dev.ptpOn, hport, hrank, hnow, Dev.rankOf, Dev.ptpOn]
  rw [Dev.winsBmca, Dev.flag, Dev.flag, hgm, hsrc, hport, hrankOf, Dev.ownRank, hown]
  rfl

/-- An entry into a state does not change whether the device wins. -/
theorem Dev.winsBmca_trlEnter (d : Dev) (st : Nat) : (d.trlEnter st).winsBmca = d.winsBmca := by
  have hsub := List.Subset.refl enterFlds
  exact Dev.winsBmca_of ((trlKept_fld (by decide)).trlEnter hsub d st) ((trlKept_fld (by decide)).trlEnter hsub d st)
    ((trlKept_fld (by decide)).trlEnter hsub d st) ((trlKept_trl enterFlds fun _ _ _ _ _ _ => rfl).trlEnter hsub d st)
    ((trlKept_trl enterFlds fun _ _ _ _ _ _ => rfl).trlEnter hsub d st) (Dev.still_eq ((trlKept_still enterFlds).trlEnter hsub d st)).2.2.2.2

/-- A device that wins is grandmaster, unless it follows a link; one that does not changes nothing (R47, R48). -/
theorem Dev.becomeGm_spec (d : Dev) : (d.trlState ≠ trlAxle → d.becomeGm.winsBmca = true → d.becomeGm.trlState = trlGm) ∧
    (d.becomeGm.winsBmca = false → d.becomeGm.regs = d.regs) := by
  unfold Dev.becomeGm
  split
  · next hwins =>
    rw [Dev.winsBmca_trlEnter, hwins.1]
    exact ⟨fun _ _ => d.trlEnter_state (by decide), fun hno => by cases hno⟩
  · next hno => exact ⟨fun haxle hwins => absurd ⟨hwins, haxle⟩ hno, fun _ => rfl⟩

theorem TrlKept.becomeGm {α : Type} {l : List Fld} {P : Dev → α} (h : TrlKept l P) (hl : enterFlds ⊆ l) (d : Dev) : P d.becomeGm = P d := by
  unfold Dev.becomeGm
  split
  · exact h.trlEnter hl _ _
  · rfl

/-! ### A Sync as it arrives -/

/-- A Sync keeps LOCKED and leads to ACQUIRE from every other state. -/
def Dev.sought (d : Dev) : Dev := if d.trlState = trlLocked then d else d.trlEnter trlAcquire

/-- The Sync is noted: the Trellis receives port `p`, and the arrival waits for its origin or not (R46 to R48). -/
def Dev.arrivalNoted (d : Dev) (p ivl : Nat) (waits : Bool) : Dev :=
  { d with trl := { d.trl with
    lastSync := d.now, syncIvl := ivl
    arrival := Store.set (fun _ => none) d.trl.arrival p (if waits then some d.syncStamp else none) } }
def Dev.syncNoted (d : Dev) (p ivl : Nat) (waits : Bool) : Dev := (d.sought.setFld 0 F.TRL_STATUS_port p).arrivalNoted p ivl waits

section
variable (d : Dev) (p ivl : Nat) (waits : Bool)

theorem TrlKept.sought {α : Type} {l : List Fld} {P : Dev → α} (h : TrlKept l P) (hl : enterFlds ⊆ l) : P d.sought = P d := by
  unfold Dev.sought
  split
  · rfl
  · exact h.trlEnter hl _ _

/-- What the note of a Sync leaves. -/
theorem TrlKept.syncNoted {α : Type} {l : List Fld} {P : Dev → α} (h : TrlKept l P) (hl : enterFlds ⊆ l)
    (hnoted : ∀ (d : Dev), P (d.arrivalNoted p ivl waits) = P d) : P (d.syncNoted p ivl waits) = P d :=
  (hnoted _).trans ((h.fld _ (hl (by decide)) _ _).trans (h.sought d hl))

theorem Dev.sought_state : d.sought.trlState = if d.trlState = trlLocked then trlLocked else trlAcquire := by
  unfold Dev.sought
  split
  · next hlocked => exact hlocked
  · exact d.trlEnter_state (by decide)

theorem Dev.syncNoted_state : (d.syncNoted p ivl waits).trlState = if d.trlState = trlLocked then trlLocked else trlAcquire :=
  (trlKept_state.fld F.TRL_STATUS_port (by decide) d.sought p).trans d.sought_state

theorem Dev.syncNoted_port {p : Nat} (hp : p < 6) : (d.syncNoted p ivl waits).fld 0 F.TRL_STATUS_port = p :=
  (Dev.fld_setFld_same d.sought 0 F.TRL_STATUS_port p (by decide)).trans (Nat.mod_eq_of_lt (hp.trans (by decide)))

theorem Dev.syncNoted_still : (d.syncNoted p ivl waits).still = d.still :=
  (trlKept_still enterFlds).syncNoted d p ivl waits (List.Subset.refl _) fun _ => rfl

theorem Dev.syncNoted_net : (d.syncNoted p ivl waits).net = d.net :=
  (trlKept_net enterFlds).syncNoted d p ivl waits (List.Subset.refl _) fun _ => rfl

theorem Dev.syncNoted_active : (d.syncNoted p ivl waits).anyActive = d.anyActive := by
  simp only [Dev.anyActive, Dev.unit_of_units (Dev.still_eq (d.syncNoted_still p ivl waits)).2.2.1]

/-- What the note of a Sync holds. -/
theorem Dev.syncNoted_trl : (d.syncNoted p ivl waits).trl.lastSync = d.now ∧ (d.syncNoted p ivl waits).trl.syncIvl = ivl ∧
    Store.get (fun _ => none) (d.syncNoted p ivl waits).trl.arrival p = if waits then some d.syncStamp else none := by
  have hnow : d.sought.now = d.now := (Dev.still_eq ((trlKept_still enterFlds).sought d (List.Subset.refl _))).2.2.2.2
  have hnet : d.sought.net = d.net := (trlKept_net enterFlds).sought d (List.Subset.refl _)
  have hstamp : d.sought.syncStamp = d.syncStamp := by rw [Dev.syncStamp, hnet, Dev.syncStamp]
  refine ⟨hnow, rfl, ?_⟩
  rw [← hstamp]
  exact Store.get_set_same _ _ _ _

/-- A Trellis that enters a state has counted no Sync in it (R48). -/
theorem Dev.trlEnter_synced {d : Dev} (hother : d.trlState ≠ trlAcquire) : (d.trlEnter trlAcquire).trl.synced = 0 := by
  have htell : ∀ e : Dev, e.trlTell trlAcquire = e := by
    intro e
    rw [Dev.trlTell, if_neg (by decide), if_neg (by decide)]
  rw [Dev.trlEnter_other hother, htell, Dev.holdRegs_keeps Dev.trl (fun _ _ _ _ => rfl)]
  rfl

theorem Dev.syncNoted_synced : (d.syncNoted p ivl waits).trl.synced = d.sought.trl.synced := rfl

theorem Dev.syncNoted_starts {d : Dev} (hlocked : d.trlState ≠ trlLocked) (hacquire : d.trlState ≠ trlAcquire) :
    (d.syncNoted p ivl waits).trl.synced = 0 := by
  rw [Dev.syncNoted_synced, Dev.sought, if_neg hlocked, Dev.trlEnter_synced hacquire]

theorem Dev.syncNoted_goesOn {d : Dev} (hacquire : d.trlState = trlAcquire) : (d.syncNoted p ivl waits).trl.synced = d.trl.synced := by
  rw [Dev.syncNoted_synced, Dev.sought, if_neg (by rw [hacquire]; decide), Dev.trlEnter_same hacquire]

end

/-- The asymmetry of a port is a register of the port (R73). -/
theorem Dev.fld_asym (d : Dev) (p : Nat) : d.fld (4 * p) F.TRL_ASYM_asym = d.fld 0 ⟨4 * p + F.TRL_ASYM_asym.off, F.TRL_ASYM_asym.lo, F.TRL_ASYM_asym.w⟩ := by
  simp only [Dev.fld, fget, Nat.zero_add]

theorem Dev.syncOffset_of {d e : Dev} {p : Nat} (hdelay : e.trl.delay = d.trl.delay)
    (hasym : e.fld (4 * p) F.TRL_ASYM_asym = d.fld (4 * p) F.TRL_ASYM_asym) (a t : PtpTime) : e.syncOffset p a t = d.syncOffset p a t := by
  rw [Dev.syncOffset, Dev.syncOffset, hdelay, hasym]

/-- The note of a Sync does not change its offset. -/
theorem Dev.syncNoted_offset (d : Dev) {p : Nat} (hp : p < 6) (ivl : Nat) (waits : Bool) (t : PtpTime) :
    (d.syncNoted p ivl waits).syncOffset p (d.syncNoted p ivl waits).syncStamp t = d.syncOffset p d.syncStamp t := by
  have hapart : Fld.apart enterFlds ⟨4 * p + F.TRL_ASYM_asym.off, F.TRL_ASYM_asym.lo, F.TRL_ASYM_asym.w⟩ = true := by
    interval_cases p <;> decide
  have hasym := (trlKept_fld hapart).syncNoted d p ivl waits (List.Subset.refl _) fun _ => rfl
  have hdelay := (trlKept_trl enterFlds (g := Trellis.delay) fun _ _ _ _ _ _ => rfl).syncNoted d p ivl waits (List.Subset.refl _) fun _ => rfl
  rw [← Dev.fld_asym, ← Dev.fld_asym] at hasym
  rw [Dev.syncOffset_of hdelay hasym, Dev.syncStamp, Dev.syncNoted_net, Dev.syncStamp]

/-! ### The messages as instructions -/

section
variable {s : State} {p : EthPort} {t : PtpTime} {ivl : Nat}

/-- The Sync with its origin is noted, and its offset applied. -/
def Dev.synced (d : Dev) (p ivl : Nat) (u : Int) : Dev := (d.syncNoted p ivl false).applySync u

theorem exec_sync (h : s.dev.takesFrom p = true) : exec (.sync p (some t) ivl) s =
    .next ⟨s.dev.synced p ivl (s.dev.syncOffset p s.dev.syncStamp t), s.pending⟩ := by
  rw [← s.dev.syncNoted_offset p.isLt ivl false t]
  exact (congrArg s.done (if_pos h) :)

theorem exec_sync_waits (h : s.dev.takesFrom p = true) : exec (.sync p none ivl) s = .next ⟨s.dev.syncNoted p ivl true, s.pending⟩ :=
  (congrArg s.done (if_pos h) :)

theorem exec_sync_other (h : ¬ s.dev.takesFrom p = true) (o : Option PtpTime) : exec (.sync p o ivl) s = .next s :=
  (congrArg s.done (if_neg h) :)

/-- The device without a Sync that waits on port `p`. -/
def Dev.arrivalCleared (d : Dev) (p : Nat) : Dev := { d with trl := { d.trl with arrival := Store.set (fun _ => none) d.trl.arrival p none } }

theorem exec_followUp_none (h : Store.get (fun _ => none) s.dev.trl.arrival p = none) : exec (.followUp p t) s = .next s := by
  show execFollowUp p t s = _
  unfold execFollowUp
  simp only [h]
  rfl

theorem exec_followUp {a : PtpTime} (h : Store.get (fun _ => none) s.dev.trl.arrival p = some a) : exec (.followUp p t) s =
    .next ⟨if s.dev.takesFrom p.val = true ∧ (s.dev.trlState = trlAcquire ∨ s.dev.trlState = trlLocked) then
      (s.dev.arrivalCleared p).applySync ((s.dev.arrivalCleared p).syncOffset p a t) else s.dev.arrivalCleared p, s.pending⟩ := by
  show execFollowUp p t s = _
  unfold execFollowUp
  simp only [h]
  rfl

end

/-- What an Announce leaves in the Trellis, before the best master clock algorithm (R46). -/
def Dev.announced (d : Dev) (p : Nat) (rank : Option ClockRank) (ivl : Nat) (own : Option OwnClock) : Dev :=
  { d with trl := { d.trl with
    rank := match rank with
      | some x => Store.set (fun _ => none) d.trl.rank p (some ⟨x, d.now, ivl⟩)
      | none => d.trl.rank
    own := own.getD d.trl.own } }

theorem exec_announce (p : EthPort) (rank : Option ClockRank) (ivl : Nat) (own : Option OwnClock) (s : State) :
    exec (.announce p rank ivl own) s = .next ⟨(s.dev.announced p rank ivl own).becomeGm, s.pending⟩ := rfl

section
variable {s : State} (hdue : s.dev.trl.lastSync + 3 * s.dev.trl.syncIvl ≤ s.dev.now)

theorem exec_syncTimeout_early (h : s.dev.now < s.dev.trl.lastSync + 3 * s.dev.trl.syncIvl) : exec .syncTimeout s = .next s :=
  (congrArg s.done (if_pos h) :)

include hdue

theorem exec_syncTimeout_locked (h : s.dev.trlState = trlLocked) : exec .syncTimeout s = .next ⟨s.dev.trlEnter trlHoldover, s.pending⟩ :=
  (congrArg s.done ((if_neg (Nat.not_lt.mpr hdue)).trans (if_pos h)) :)

theorem exec_syncTimeout_acquire (h : s.dev.trlState = trlAcquire) :
    exec .syncTimeout s = .next ⟨if s.dev.winsBmca then s.dev.trlEnter trlGm else s.dev.trlEnter trlFree, s.pending⟩ :=
  by
  have hlocked : s.dev.trlState ≠ trlLocked := by
    rw [h]
    decide
  exact (congrArg s.done ((if_neg (Nat.not_lt.mpr hdue)).trans ((if_neg hlocked).trans (if_pos h))) :)

theorem exec_syncTimeout_other (hl : s.dev.trlState ≠ trlLocked) (ha : s.dev.trlState ≠ trlAcquire) : exec .syncTimeout s = .next s :=
  (congrArg s.done ((if_neg (Nat.not_lt.mpr hdue)).trans ((if_neg hl).trans (if_neg ha))) :)

end

/-! ### What a Sync with its origin does, by the state -/

section
variable {d : Dev} {p ivl : Nat} {u : Int}

theorem Dev.synced_still : (d.synced p ivl u).still = d.still := (Dev.applySync_still _ _).trans (d.syncNoted_still p ivl false)

theorem Dev.synced_offset : (d.synced p ivl u).fld 0 F.TRL_OFFSET_ns = lowBits 32 (u / 65536) := Dev.applySync_offset _ _

/-- In LOCKED a Sync is a slew, and the Trellis stays locked (R48, R50). -/
theorem Dev.synced_locked (hp : p < 6) (h : d.trlState = trlLocked) : (d.synced p ivl u).net = d.net ∧ (d.synced p ivl u).trl.slew = -u ∧
    (d.synced p ivl u).trlState = trlLocked ∧ (d.synced p ivl u).fld 0 F.TRL_STATUS_port = p := by
  have hstate : (d.syncNoted p ivl false).trlState = trlLocked := (d.syncNoted_state p ivl false).trans (if_pos h)
  have hno : (d.syncNoted p ivl false).trlState ≠ trlAcquire := by
    rw [hstate]
    decide
  have hstay : ¬ (3 ≤ (d.syncNoted p ivl false).trl.synced ∧ (-50 ≤ u / 65536 ∧ u / 65536 ≤ 50) ∧ (d.syncNoted p ivl false).trlState = trlAcquire) :=
    fun hlock => hno hlock.2.2
  obtain ⟨hnet, hslew⟩ := Dev.applySync_slews hstay fun hstep => hno hstep.1
  obtain ⟨-, -, hstate', hport⟩ := Dev.applySync_stays hstay
  exact ⟨hnet.trans (d.syncNoted_net p ivl false), hslew, hstate'.trans hstate, hport.trans (d.syncNoted_port ivl false hp)⟩

/-- The first Sync leads to ACQUIRE (R48). -/
theorem Dev.synced_first (hp : p < 6) (hlocked : d.trlState ≠ trlLocked) (hacquire : d.trlState ≠ trlAcquire) :
    (d.synced p ivl u).trlState = trlAcquire ∧ (d.synced p ivl u).fld 0 F.TRL_STATUS_port = p ∧
    ((u / 65536 < -1000 ∨ 1000 < u / 65536) → d.anyActive = false →
      (d.synced p ivl u).net = BitVec.ofInt 80 ((d.net.toNat : Int) - u) ∧ (d.synced p ivl u).trl.slew = 0) ∧
    (-1000 ≤ u / 65536 → u / 65536 ≤ 1000 → (d.synced p ivl u).net = d.net ∧ (d.synced p ivl u).trl.slew = -u) := by
  have hstate : (d.syncNoted p ivl false).trlState = trlAcquire := (d.syncNoted_state p ivl false).trans (if_neg hlocked)
  have hzero := Dev.syncNoted_starts p ivl false hlocked hacquire
  have hstay : ¬ (3 ≤ (d.syncNoted p ivl false).trl.synced ∧ (-50 ≤ u / 65536 ∧ u / 65536 ≤ 50) ∧ (d.syncNoted p ivl false).trlState = trlAcquire) := by
    rw [hzero]
    omega
  obtain ⟨-, -, hstate', hport⟩ := Dev.applySync_stays hstay
  refine ⟨hstate'.trans hstate, hport.trans (d.syncNoted_port ivl false hp), fun hfar hquiet => ?_, fun hlo hhi => ?_⟩
  · have hstep := Dev.applySync_steps ⟨hstate, hfar, (d.syncNoted_active p ivl false).trans hquiet⟩
    rw [d.syncNoted_net] at hstep
    exact hstep
  · obtain ⟨hnet, hslew⟩ := Dev.applySync_slews hstay fun hstep => by omega
    exact ⟨hnet.trans (d.syncNoted_net p ivl false), hslew⟩

/-- The fourth near Sync locks (R48). -/
theorem Dev.synced_fourth (hp : p < 6) (hacquire : d.trlState = trlAcquire) (hcount : 3 ≤ d.trl.synced) (hnear : -50 ≤ u / 65536 ∧ u / 65536 ≤ 50) :
    (d.synced p ivl u).trlState = trlLocked ∧ (d.synced p ivl u).net = d.net ∧ (d.synced p ivl u).fld 0 F.TRL_STATUS_port = p := by
  have hstate : (d.syncNoted p ivl false).trlState = trlAcquire := (d.syncNoted_state p ivl false).trans (if_neg (by rw [hacquire]; decide))
  obtain ⟨hlocked, hnet, hport⟩ := Dev.applySync_locks ((Dev.syncNoted_goesOn p ivl false hacquire).symm ▸ hcount) hnear hstate
  exact ⟨hlocked, hnet.trans (d.syncNoted_net p ivl false), hport.trans (d.syncNoted_port ivl false hp)⟩

end

/-- Settles O24: a Sync with its origin by the state it finds, the other messages by what they hold, and the loss of Sync. -/
theorem gptpMessages : Obligations.GptpMessages := by
  unfold Obligations.GptpMessages
  intro p t ivl trip hold rank own s d takes rest u slews noted arrived sync
  have hrest : ∀ e : Dev, e.still = d.still → rest e := fun e he => by
    obtain ⟨hmem, hlegs, hunits, -, hnow⟩ := Dev.still_eq he
    exact ⟨hmem, hlegs, hunits, hnow⟩
  have henter : ∀ st, rest (d.trlEnter st) ∧ (d.trlEnter st).net = d.net := fun st =>
    ⟨hrest _ ((trlKept_still enterFlds).trlEnter (List.Subset.refl _) d st), (trlKept_net enterFlds).trlEnter (List.Subset.refl _) d st⟩
  have hsynced : rest (d.synced p ivl u) := hrest _ Dev.synced_still
  have hoffset : (d.synced p ivl u).fld 0 F.TRL_OFFSET_ns = lowBits 32 (u / 65536) := Dev.synced_offset
  refine ⟨?_, ?_, ?_, ?_, ?_, ?_, ?_, rfl, ?_, ?_, exec_syncTimeout_early⟩
  · intro htakes hlocked
    obtain ⟨hnet, hslew, hstate, hport⟩ := Dev.synced_locked (ivl := ivl) (u := u) p.isLt hlocked
    exact ⟨_, exec_sync htakes, ⟨hsynced, hport, hoffset⟩, ⟨hsynced, hnet, hslew, hoffset⟩, hstate⟩
  · intro htakes hstates
    obtain ⟨hstate, hport, hstep, hnear⟩ := Dev.synced_first (d := d) (ivl := ivl) (u := u) p.isLt
      (by rcases hstates with h | h | h <;> rw [h] <;> decide) (by rcases hstates with h | h | h <;> rw [h] <;> decide)
    refine ⟨_, exec_sync htakes, ⟨hsynced, hport, hoffset⟩, hstate, hstep, fun hlo hhi => ?_⟩
    obtain ⟨hnet, hslew⟩ := hnear hlo hhi
    exact ⟨hsynced, hnet, hslew, hoffset⟩
  · intro htakes hacquire hcount hlo hhi
    obtain ⟨hstate, hnet, hport⟩ := Dev.synced_fourth (ivl := ivl) (u := u) p.isLt hacquire hcount ⟨hlo, hhi⟩
    exact ⟨_, exec_sync htakes, ⟨hsynced, hport, hoffset⟩, hstate, hnet⟩
  · intro htakes
    obtain ⟨hlast, hivl, harrival⟩ := d.syncNoted_trl p ivl true
    exact ⟨_, exec_sync_waits htakes, hrest _ (d.syncNoted_still p ivl true), d.syncNoted_net p ivl true,
      d.syncNoted_port ivl true p.isLt, d.syncNoted_state p ivl true, hlast, hivl, harrival⟩
  · exact fun hno => ⟨exec_sync_other hno _, exec_sync_other hno _⟩
  · exact exec_followUp_none
  · intro a ha
    have hcleared : Store.get (fun _ => none) (d.arrivalCleared p).trl.arrival p = none :=
      Store.get_set_same _ d.trl.arrival p.val none
    refine ⟨_, exec_followUp ha, ?_⟩
    by_cases hcond : s.dev.takesFrom p.val = true ∧ (s.dev.trlState = trlAcquire ∨ s.dev.trlState = trlLocked)
    · rw [if_pos hcond]
      obtain ⟨htakes, hstates⟩ := hcond
      have hrest' := hrest _ ((d.arrivalCleared p).applySync_still ((d.arrivalCleared p).syncOffset p a t))
      refine ⟨hrest', ?_, fun _ hlocked => ?_, fun hno => ?_⟩
      · rw [Dev.applySync_arrival, hcleared]
      · have hnot : (d.arrivalCleared p).trlState ≠ trlAcquire := fun h => by cases hlocked.symm.trans h
        obtain ⟨hnet, hslew⟩ := Dev.applySync_slews (u := (d.arrivalCleared p).syncOffset p a t) (fun h => hnot h.2.2) fun h => hnot h.1
        exact ⟨hrest', hnet, hslew, Dev.applySync_offset _ _⟩
      · rcases hno with hno | ⟨hacquire, hlocked⟩
        · exact absurd htakes hno
        · exact absurd hstates (by rintro (h | h); exacts [hacquire h, hlocked h])
    · rw [if_neg hcond]
      exact ⟨hrest _ rfl, hcleared, fun htakes hlocked => absurd ⟨htakes, .inr hlocked⟩ hcond, fun _ => ⟨rfl, rfl, rfl⟩⟩
  · obtain ⟨hgm, hregs⟩ := (d.announced p rank ivl own).becomeGm_spec
    have hrank : ((d.announced p rank ivl own).becomeGm).trl.rank = (d.announced p rank ivl own).trl.rank :=
      (trlKept_trl enterFlds fun _ _ _ _ _ _ => rfl).becomeGm (List.Subset.refl _) _
    have hown : ((d.announced p rank ivl own).becomeGm).trl.own = (d.announced p rank ivl own).trl.own :=
      (trlKept_trl enterFlds fun _ _ _ _ _ _ => rfl).becomeGm (List.Subset.refl _) _
    refine ⟨_, exec_announce p rank ivl own s, hrest _ ((trlKept_still enterFlds).becomeGm (List.Subset.refl _) _),
      (trlKept_net enterFlds).becomeGm (List.Subset.refl _) _, ?_, ?_, ?_, hgm, hregs⟩
    · rintro x rfl
      rw [hrank]
      exact Store.get_set_same _ d.trl.rank p.val (some ⟨x, d.now, ivl⟩)
    · rintro x rfl
      exact hown
    · rintro rfl rfl
      exact ⟨hrank, hown⟩
  · intro hdue
    refine ⟨fun hlocked => ?_, fun hacquire hloses => ?_, fun hacquire hwins => ?_, exec_syncTimeout_other hdue⟩
    · have hother : d.trlState ≠ trlHoldover := by
        rw [hlocked]
        decide
      exact ⟨_, exec_syncTimeout_locked hdue hlocked, d.trlEnter_state (by decide), Dev.trlEnter_holdAt hother,
        Dev.trlEnter_noPort (by decide) hother, henter _⟩
    · have hother : d.trlState ≠ trlFree := by
        rw [hacquire]
        decide
      refine ⟨_, exec_syncTimeout_acquire hdue hacquire, ?_⟩
      rw [if_neg (by rw [hloses]; decide)]
      exact ⟨d.trlEnter_state (by decide), Dev.trlEnter_noPort (by decide) hother, Dev.trlEnter_holdErr (.inl rfl) hother, henter _⟩
    · have hother : d.trlState ≠ trlGm := by
        rw [hacquire]
        decide
      refine ⟨_, exec_syncTimeout_acquire hdue hacquire, ?_⟩
      rw [if_pos hwins]
      exact ⟨d.trlEnter_state (by decide), Dev.trlEnter_holdErr (.inr rfl) hother, henter _⟩

end Sys2Proof.Machine
end

section
/-! The frame tick (R55, R56, R68). -/

namespace Sys2Proof.Machine

/-! ### What the work of a tick leaves -/

/-- What the tick's work beside the grid leaves: memory, legs, the counter, the timing in force, the Trellis, its pending apply and its
allowed correction. -/
def Dev.timed (d : Dev) : List Host.Cell × Store Leg × PtpTime × Store Word × Trellis × Nat × Nat :=
  (d.mem, d.legs, d.net, d.inforce, d.trl, d.fld 0 F.TRL_STATUS_apply_pending, d.fld 0 F.TRL_SLEW_step)

theorem Dev.timed_eq {d e : Dev} (h : e.timed = d.timed) : e.mem = d.mem ∧ e.legs = d.legs ∧ e.net = d.net ∧ e.inforce = d.inforce ∧
    e.trl = d.trl ∧ e.fld 0 F.TRL_STATUS_apply_pending = d.fld 0 F.TRL_STATUS_apply_pending ∧
    e.fld 0 F.TRL_SLEW_step = d.fld 0 F.TRL_SLEW_step := by
  simpa [Dev.timed] using h

/-- A write of a field that lies apart from the two. -/
theorem Dev.timed_setFld_apart {l : List Fld} (hpending : Fld.apart l F.TRL_STATUS_apply_pending = true)
    (hslew : Fld.apart l F.TRL_SLEW_step = true) (f : Fld) (hf : f ∈ l) (d : Dev) (v : Nat) : (d.setFld 0 f v).timed = d.timed := by
  rw [Dev.timed, Dev.fld_setFld_apart hpending hf, Dev.fld_setFld_apart hslew hf]
  rfl

/-- A write of a field in another register. -/
theorem Dev.timed_setFld_ne (d : Dev) {b : Nat} {f : Fld} (hstatus : 0x40000004 ≠ b + f.off) (hslew : 0x4000002C ≠ b + f.off) (v : Nat) :
    (d.setFld b f v).timed = d.timed := by
  rw [Dev.timed, Dev.fld_setFld_ne _ _ _ _ _ _ (by simpa using hstatus), Dev.fld_setFld_ne _ _ _ _ _ _ (by simpa using hslew)]
  rfl

/-- Such as one above the Trellis'. -/
theorem Dev.timed_setFld_above (d : Dev) {b : Nat} {f : Fld} (h : 0x40050000 ≤ b + f.off) (v : Nat) : (d.setFld b f v).timed = d.timed :=
  d.timed_setFld_ne (by omega) (by omega) v

theorem Dev.timed_raise (d : Dev) {src : Nat} (scope arg : Nat) (hs : src < 0x100) : (d.raise src scope arg).timed = d.timed := by
  have hpending := (trlKept_fld (l := []) (g := F.TRL_STATUS_apply_pending) (by decide)).raise d src scope arg hs
  have hslew := (trlKept_fld (l := []) (g := F.TRL_SLEW_step) (by decide)).raise d src scope arg hs
  rw [Dev.timed, hpending, hslew, d.raise_mem _ _ _ hs, d.raise_legs _ _ _ hs, d.raise_net _ _ _ hs, d.raise_inforce _ _ _ hs,
    d.raise_trl _ _ _ hs, Dev.timed]

theorem Dev.timed_holdRegs (d : Dev) : d.holdRegs.timed = d.timed :=
  Dev.holdRegs_keeps Dev.timed (Dev.timed_setFld_apart (by decide) (by decide)) d

theorem Dev.timed_regrid (d : Dev) : d.regrid.timed = d.timed :=
  Dev.regrid_keeps Dev.timed (Dev.timed_setFld_apart (by decide) (by decide)) d

theorem Dev.timed_timingApplied (d : Dev) : d.timingApplied.timed = d.timed := by
  unfold Dev.timingApplied Dev.checkAlign
  refine (Dev.each_keeps _ _ (fun i d => ?_) _ _).trans (Dev.each_keeps _ _ (fun i d => ?_) _ _)
  · split
    · exact Dev.timed_raise _ _ _ (by norm_num)
    · rfl
  · extract_lets r n
    split
    · exact Dev.timed_raise _ _ _ (by norm_num)
    · rfl

theorem Dev.timed_conFault (d : Dev) (n cause : Nat) : (d.conFault n cause).timed = d.timed := by
  unfold Dev.conFault Dev.bump
  refine (Dev.timed_raise _ _ _ (by norm_num)).trans ?_
  rw [Dev.timed_setFld_above _ (Nat.le_add_left_of_le (by decide)), Dev.timed_setFld_above _ (by decide),
    Dev.timed_setFld_above _ (Nat.le_add_left_of_le (by decide)), Dev.timed_setFld_above _ (Nat.le_add_left_of_le (by decide))]

theorem Dev.timed_conCeiling (d : Dev) (n : Nat) : (d.conCeiling n).timed = d.timed := by
  unfold Dev.conCeiling
  split
  · exact d.timed_conFault n 3
  · rfl

theorem Dev.timed_setRack (d : Dev) (r : Nat) (x : Rack) : (d.setRack r x).timed = d.timed := rfl

theorem Dev.timed_rackTick (d : Dev) {r : Nat} (hr : r < 4) : (d.rackTick r).timed = d.timed := by
  have hreg : rgnReg r + 0x3108 < 0x40000000 := by
    unfold rgnReg rgnBase
    omega
  unfold Dev.rackTick
  split
  · exact (Dev.timed_setRack _ _ _).trans <| Dev.timed_setFld_ne d (f := F.RGN_RACK_STAT_left) (hreg.trans (by norm_num)).ne' (hreg.trans (by norm_num)).ne' _
  · rfl

theorem Dev.timed_orderedSet (d : Dev) (i n : Nat) (x : LineItem) : (d.orderedSet i n x).timed = d.timed := by
  unfold Dev.orderedSet Dev.lineTakes Dev.putWire
  split <;> rfl

theorem Dev.timed_axlTick (d : Dev) (i : Nat) : (d.axlTick i).timed = d.timed := by
  unfold Dev.axlTick
  split
  · split
    · extract_lets x d1 d2
      have hd2 : d2.timed = d.timed := by
        unfold d2
        split
        · rfl
        · have hreg : 0x40050000 ≤ axlReg i := by
            unfold axlReg portReg
            omega
          exact Dev.timed_setFld_above d1 (Nat.le_add_right_of_le hreg) _
      exact (Dev.timed_orderedSet _ _ _ _).trans hd2
    · exact Dev.timed_orderedSet _ _ _ _
  · rfl

theorem Dev.timed_tickWork (d : Dev) : d.tickWork.timed = d.timed := by
  unfold Dev.tickWork
  extract_lets d1 d2 d3
  have hd1 : d1.timed = d.timed := d.timed_holdRegs
  have hd2 : d2.timed = d1.timed := Dev.each_keeps _ _ (fun u d => by split <;> rfl) _ _
  have hd3 : d3.timed = d2.timed := Dev.each_keeps _ _ (fun n d => by
    split
    · exact Dev.timed_conCeiling _ _
    · rfl) _ _
  have hrack : (d3.each [0, 1, 2, 3] (fun r d => d.rackTick r)).timed = d3.timed :=
    Dev.each_keeps_of_mem _ _ _ (fun r hr d => d.timed_rackTick (by fin_cases hr <;> decide)) _
  exact (Dev.each_keeps _ _ (fun i d => d.timed_axlTick i) _ _).trans (hrack.trans (hd3.trans (hd2.trans hd1)))

/-! ### The tick that is emitted -/

/-- The tick at edge step `n` is the last one, and the one at which an apply took effect where `applied`. -/
def Dev.tickAt (d : Dev) (n : Nat) (applied : Bool) : Dev :=
  { d with trl := { d.trl with tickStep := n, appliedStep := if applied then some n else d.trl.appliedStep } }

/-- What the tick at `n` is re-phased by: towards the grid, by at most one correction (R56). -/
def Dev.tickShare (d : Dev) (n : Nat) : Int := clampInt (-(d.tickCorrection : Int)) d.tickCorrection (d.gridOffset n (d.gridIndex n))

/-- The tick that follows the one at `n`. -/
def Dev.nextTick (d : Dev) (n : Nat) : Dev :=
  { d with trl := { d.trl with
    nextStep := ((n + 32 * d.tickCycles : Nat) + d.tickShare n).toNat, tickLen := d.tickCycles, stretch := d.tickShare n } }

/-- The grid at a tick. -/
def Dev.tickGrid (d : Dev) (n : Nat) (applied : Bool) : Dev := (if applied then (d.tickAt n applied).timingApplied else d.tickAt n applied).regrid

theorem Dev.tickGrid_timed (d : Dev) (n : Nat) (applied : Bool) : (d.tickGrid n applied).timed = (d.tickAt n applied).timed := by
  unfold Dev.tickGrid
  rw [Dev.timed_regrid]
  split
  · exact Dev.timed_timingApplied _
  · rfl

/-- A correction is at most the allowed one. -/
theorem Dev.nextTick_near (d : Dev) (n : Nat) :
    n + 32 * d.tickCycles ≤ (d.nextTick n).trl.nextStep + d.tickCorrection ∧ (d.nextTick n).trl.nextStep ≤ n + 32 * d.tickCycles + d.tickCorrection := by
  have hnext : (d.nextTick n).trl.nextStep = ((n + 32 * d.tickCycles : Nat) + d.tickShare n).toNat := rfl
  have hshare : -(d.tickCorrection : Int) ≤ d.tickShare n ∧ d.tickShare n ≤ d.tickCorrection := by
    unfold Dev.tickShare
    rw [clampInt_eq _ _ _ (by omega)]
    omega
  rw [hnext]
  generalize d.tickShare n = x at *
  generalize d.tickCorrection = c at *
  omega

/-- The largest correction and the period are those of the timing in force. -/
theorem Dev.tickCycles_of {d e : Dev} (hinforce : e.inforce = d.inforce) : e.tickCycles = d.tickCycles := by
  rw [Dev.tickCycles, Dev.inForce, hinforce, Dev.tickCycles, Dev.inForce]

theorem Dev.tickCorrection_of {d e : Dev} (hinforce : e.inforce = d.inforce) (hslew : e.fld 0 F.TRL_SLEW_step = d.fld 0 F.TRL_SLEW_step) :
    e.tickCorrection = d.tickCorrection := by
  rw [Dev.tickCorrection, hslew, Dev.tickCycles_of hinforce, Dev.tickCorrection]

/-- The device after the tick at `n`. -/
def Dev.ticked (d : Dev) (n : Nat) (applied : Bool) : Dev := ((d.tickGrid n applied).nextTick n).tickWork

/-- What a tick at `n` leaves, and where the next one comes (R55, R56). -/
theorem Dev.ticked_spec (d : Dev) (n : Nat) (applied : Bool) :
    let e := d.ticked n applied
    (e.trl.tickStep = n ∧ e.trl.appliedStep = if applied then some n else d.trl.appliedStep) ∧
    (e.mem = d.mem ∧ e.legs = d.legs ∧ e.net = d.net ∧ e.inforce = d.inforce ∧
      e.flag 0 F.TRL_STATUS_apply_pending = d.flag 0 F.TRL_STATUS_apply_pending) ∧
    n + 32 * d.tickCycles ≤ e.trl.nextStep + d.tickCorrection ∧ e.trl.nextStep ≤ n + 32 * d.tickCycles + d.tickCorrection := by
  intro e
  obtain ⟨hmem, hlegs, hnet, hinforce, htrl, hpending, hslew⟩ := Dev.timed_eq (d.tickGrid_timed n applied)
  obtain ⟨hmem', hlegs', hnet', hinforce', htrl', hpending', -⟩ := Dev.timed_eq ((d.tickGrid n applied).nextTick n).timed_tickWork
  obtain ⟨hlo, hhi⟩ := (d.tickGrid n applied).nextTick_near n
  rw [Dev.tickCycles_of (hinforce : _ = d.inforce), Dev.tickCorrection_of (hinforce : _ = d.inforce) hslew] at hlo hhi
  have htrlE : e.trl = ((d.tickGrid n applied).nextTick n).trl := htrl'
  rw [htrlE]
  refine ⟨⟨(congrArg Trellis.tickStep htrl :), (congrArg Trellis.appliedStep htrl :)⟩, ⟨hmem'.trans hmem, hlegs'.trans hlegs,
    hnet'.trans hnet, hinforce'.trans hinforce, ?_⟩, hlo, hhi⟩
  exact congrArg (· != 0) (hpending'.trans hpending)

/-! ### A pending apply -/

/-- The timing in force after an apply: that of the registers (R68). -/
theorem Store.get_foldl_set {α : Type} [DecidableEq α] (z f : Nat → α) (l : List Nat) (m : Store α) {a : Nat} (ha : a ∈ l) :
    Store.get z (l.foldl (fun m a => Store.set z m a (f a)) m) a = f a := by
  induction l generalizing m with
  | nil => cases ha
  | cons k t ih =>
    by_cases hat : a ∈ t
    · exact ih _ hat
    · obtain rfl : a = k := (List.mem_cons.mp ha).resolve_right hat
      have hkeep : ∀ m : Store α, Store.get z (t.foldl (fun m a => Store.set z m a (f a)) m) a = Store.get z m a := by
        clear ih ha
        induction t with
        | nil => exact fun _ => rfl
        | cons j t ih =>
          intro m
          obtain ⟨hne, hnot⟩ := not_or.mp (List.mem_cons.not.mp hat)
          exact (ih hnot _).trans (Store.get_set_ne _ _ _ hne)
      rw [List.foldl_cons, hkeep, Store.get_set_same]

theorem Dev.takeTiming_inforce (d : Dev) {a : Nat} (ha : a ∈ timingRegs) : Store.get resetWord d.takeTiming.inforce a = d.reg a :=
  Store.get_foldl_set _ _ _ _ ha

/-- The device without a pending apply. -/
def Dev.applyDone (d : Dev) : Dev := d.setFld 0 F.TRL_STATUS_apply_pending 0

theorem Dev.applyDone_pending (d : Dev) : d.applyDone.flag 0 F.TRL_STATUS_apply_pending = false := by
  rw [Dev.flag, Dev.applyDone, Dev.fld_setFld_same _ _ _ _ (by decide)]
  rfl

theorem Dev.applyDone_slew (d : Dev) : d.applyDone.fld 0 F.TRL_SLEW_step = d.fld 0 F.TRL_SLEW_step :=
  Dev.fld_setFld_ne _ _ _ _ _ _ (by decide)

theorem Dev.applyDone_timing (d : Dev) {a : Nat} (ha : a ∈ timingRegs) : d.applyDone.reg a = d.reg a :=
  Dev.reg_setReg_ne _ _ (by
    rintro rfl
    revert ha
    decide)

section
variable {d : Dev}

theorem Dev.applyTiming_none (h : d.flag 0 F.TRL_STATUS_apply_pending = false) : d.applyTiming = (d, false) :=
  if_neg (by rw [h]; exact Bool.false_ne_true)

theorem Dev.applyTiming_takes (h : d.flag 0 F.TRL_STATUS_apply_pending = true) (hfits : ∀ b < 16, d.applyDone.takeTiming.laneFits b = true) :
    d.applyTiming = (d.applyDone.takeTiming, true) := by
  have hall : (List.range 16).all (fun b => d.applyDone.takeTiming.laneFits b) = true :=
    List.all_eq_true.mpr fun b hb => hfits b (List.mem_range.mp hb)
  exact (if_pos h).trans (if_pos hall)

theorem Dev.applyTiming_refused (h : d.flag 0 F.TRL_STATUS_apply_pending = true) (hno : ∃ b < 16, d.applyDone.takeTiming.laneFits b = false) :
    d.applyTiming = (d.applyDone.raise Ev.TICK_CFG_REFUSED scopeChip 0, false) := by
  have hall : ¬ (List.range 16).all (fun b => d.applyDone.takeTiming.laneFits b) = true := by
    obtain ⟨b, hb, hfalse⟩ := hno
    intro hall
    exact Bool.false_ne_true (hfalse.symm.trans (List.all_eq_true.mp hall b (List.mem_range.mpr hb)))
  exact (if_pos h).trans (if_neg hall)

end

theorem exec_frameTick {s : State} (h : s.dev.trl.nextStep ≤ s.dev.stepNow + 31) :
    exec .frameTick s = .next ⟨s.dev.applyTiming.1.ticked s.dev.trl.nextStep s.dev.applyTiming.2, s.pending⟩ :=
  (congrArg s.done (if_pos h) :)

/-- Settles O21: the tick that is due after no apply, one that takes effect and one that is refused. -/
theorem frameTick : Obligations.FrameTick := by
  unfold Obligations.FrameTick
  intro s d due new kept near
  refine ⟨fun hdue hnone => ?_, fun hdue hpend hfits => ?_, fun hdue hpend hno => ?_, fun hearly => ?_⟩
  · obtain ⟨⟨htick, -⟩, ⟨hmem, hlegs, hnet, hinforce, -⟩, hnear⟩ := d.ticked_spec d.trl.nextStep false
    refine ⟨_, exec_frameTick hdue, ?_⟩
    rw [Dev.applyTiming_none hnone]
    exact ⟨⟨htick, hmem, hlegs, hnet⟩, hinforce, hnear⟩
  · obtain ⟨⟨htick, happlied⟩, ⟨hmem, hlegs, hnet, hinforce, hpending⟩, hnear⟩ := new.ticked_spec d.trl.nextStep true
    refine ⟨_, exec_frameTick hdue, ?_⟩
    rw [Dev.applyTiming_takes hpend hfits]
    refine ⟨⟨htick, hmem, hlegs, hnet⟩, hnear, happlied, hpending.trans d.applyDone_pending, fun a ha => ?_⟩
    exact ((congrArg (fun m => Store.get resetWord m a) hinforce).trans (d.applyDone.takeTiming_inforce ha)).trans (d.applyDone_timing ha)
  · have hsrc : Ev.TICK_CFG_REFUSED < 0x100 := by norm_num
    have hraise := d.applyDone.timed_raise scopeChip 0 hsrc
    refine ⟨_, exec_frameTick hdue, ?_⟩
    rw [Dev.applyTiming_refused hpend hno]
    generalize d.applyDone.raise Ev.TICK_CFG_REFUSED scopeChip 0 = y at hraise ⊢
    obtain ⟨hmem', hlegs', hnet', hinforce', -, hpending', hslew'⟩ := Dev.timed_eq hraise
    obtain ⟨⟨htick, -⟩, ⟨hmem, hlegs, hnet, hinforce, hpending⟩, hnear⟩ := y.ticked_spec d.trl.nextStep false
    rw [Dev.tickCycles_of (d := d) hinforce', Dev.tickCorrection_of (d := d) hinforce' (hslew'.trans d.applyDone_slew)] at hnear
    have hdone : y.flag 0 F.TRL_STATUS_apply_pending = false := (congrArg (· != 0) hpending').trans d.applyDone_pending
    exact ⟨⟨htick, hmem.trans hmem', hlegs.trans hlegs', hnet.trans hnet'⟩, hnear, hinforce.trans hinforce', hpending.trans hdone⟩
  · exact (congrArg s.done (if_neg (Nat.not_le.mpr hearly)) :)

end Sys2Proof.Machine
end

section
/-! What commits, faults, the window guard, the shed sequencers, triggers and axle links leave of a lane's phase and of the device at the
boundaries of a sub-tick (R60, R63, R241, R291). -/

namespace Sys2Proof.Machine

/-- What no leg is and no order, event or fault touches. -/
structure OrderKept {α : Type} (P : Dev → α) : Prop where
  leg : ∀ (d : Dev) k l, P (d.setLeg k l) = P d
  fault : ∀ d e, FaultKeeps d e → P e = P d

/-- What no register is either, and none of the records that guards and shed sequencers keep. -/
structure BoundaryKept {α : Type} (P : Dev → α) : Prop extends OrderKept P where
  reg : ∀ (d : Dev) a w, P (d.setReg a w) = P d
  shed : ∀ (d : Dev) x, P { d with sheds := x } = P d
  cond : ∀ (d : Dev) x, P { d with condNext := x } = P d

/-! ### Commits -/

section
variable {α : Type} {P : Dev → α} (h : OrderKept P)
include h

theorem OrderKept.raise (d : Dev) (src scope arg : Nat) (hs : src < 0x100) : P (d.raise src scope arg) = P d :=
  h.fault _ _ ((FaultKeeps.refl d).raise scope arg hs)

theorem OrderKept.bumpLeg (d : Dev) (k : Nat) {f : Fld} (hf : f.off < 0x100) : P (d.bump (legReg k) f) = P d :=
  h.fault _ _ ((FaultKeeps.refl d).bump (faultReg_leg k hf))

theorem OrderKept.crossCommand (d : Dev) (k : Nat) : P (d.crossCommand k) = P d := by
  unfold Dev.crossCommand
  extract_lets l recent off d1 d2 d3
  have hd2 : P d2 = P d := (h.raise _ _ _ _ (by norm_num)).trans ((h.bumpLeg _ _ (by norm_num)).trans (h.leg _ _ _))
  split
  · exact (h.fault _ _ (((FaultKeeps.refl d2).latchLeg k causeXcmd).enterFault k causeXcmd)).trans hd2
  · exact hd2

theorem OrderKept.acceptCommit (d : Dev) (b : BlockId) (k : Nat) (cmd : QWord) : P (d.acceptCommit b k cmd) = P d := by
  unfold Dev.acceptCommit
  extract_lets l past d1
  split
  · exact (h.crossCommand _ _).trans (h.leg _ _ _)
  · have hd1 : P d1 = P d := h.leg _ _ _
    split
    · exact (h.raise _ _ _ _ (by norm_num)).trans ((h.bumpLeg _ _ (by norm_num)).trans hd1)
    · exact hd1

theorem OrderKept.commitLeg (d : Dev) (b : BlockId) (k : Nat) (cmd : QWord) : P (d.commitLeg b k cmd) = P d := by
  unfold Dev.commitLeg
  split
  · rfl
  next u howner =>
    split
    · exact (h.raise _ _ _ _ (by norm_num)).trans (h.bumpLeg _ _ (by norm_num))
    · split
      · rfl
      · extract_lets l d1
        have hd1 : P d1 = P d := h.raise _ _ _ _ (by norm_num)
        split
        · rfl
        · split
          · split
            · exact (h.acceptCommit _ _ _ _).trans hd1
            · exact hd1
          · exact h.acceptCommit _ _ _ _

end

section
variable {α : Type} {P : Dev → α} (h : BoundaryKept P)
include h

theorem BoundaryKept.fld (d : Dev) (b : Nat) (f : Fld) (v : Nat) : P (d.setFld b f v) = P d := h.reg d _ _

/-! ### The window guard and the shed sequencers -/

theorem BoundaryKept.placeSealed (d : Dev) (k : Nat) (c : QWord) : P (d.placeSealed k c) = P d := by
  unfold Dev.placeSealed
  extract_lets l
  split
  · exact h.leg _ _ _
  · rfl

theorem BoundaryKept.rewrite (d : Dev) (k : Nat) (f : QWord → QWord) : P (d.rewrite k f) = P d := by
  unfold Dev.rewrite
  extract_lets l
  split
  · rfl
  · exact h.placeSealed _ _ _

theorem BoundaryKept.guardUnit (d : Dev) (r u : Nat) : P (d.guardUnit r u) = P d := by
  unfold Dev.guardUnit
  split
  · extract_lets legs a g bad s win d1 d2 d3
    split
    · exact (h.fld _ _ _ _).trans ((h.fld _ _ _ _).trans (h.fld _ _ _ _))
    · have hd1 : P d1 = P d := (h.fld _ _ _ _).trans ((h.fld _ _ _ _).trans ((h.fld _ _ _ _).trans (h.fld _ _ _ _)))
      have hd2 : P d2 = P d1 := Dev.each_keeps P _ (fun _ _ => h.placeSealed _ _ _) _ _
      have hd3 : P d3 = P d2 := (h.raise _ _ _ _ (by norm_num)).trans (h.reg _ _ _)
      split
      · exact (Dev.each_keeps P _ (fun _ _ => h.cond _ _) _ _).trans (hd3.trans (hd2.trans hd1))
      · exact hd1
  · rfl

theorem BoundaryKept.setShed (d : Dev) (r q : Nat) (x : ShedSeq) : P (d.setShed r q x) = P d := h.shed _ _

theorem BoundaryKept.spread (d : Dev) (r q : Nat) : P (d.spread r q) = P d := Dev.foldl_keeps P _ (fun _ _ => h.rewrite _ _ _) _ _

theorem BoundaryKept.holdShed (d : Dev) (r q : Nat) : P (d.holdShed r q) = P d := Dev.each_keeps P _ (fun _ _ => h.rewrite _ _ _) _ _

theorem BoundaryKept.shdEnter (d : Dev) (r q st : Nat) : P (d.shdEnter r q st) = P d := by
  unfold Dev.shdEnter
  extract_lets d1
  have hd1 : P d1 = P d := h.fld _ _ _ _
  split
  · exact hd1
  · exact (h.fld _ _ _ _).trans ((h.fld _ _ _ _).trans hd1)

theorem BoundaryKept.shedStep (d : Dev) (r q j ref : Nat) : P (d.shedStep r q j ref) = P d := by
  unfold Dev.shedStep
  extract_lets legs n ramp d1 d2
  have hd1 : P d1 = P d := h.fld _ _ _ _
  have hd2 : P d2 = P d1 := Dev.foldl_keeps P _ (fun e x => by
    extract_lets p old
    split
    · exact h.rewrite _ _ _
    · exact h.rewrite _ _ _) _ _
  split
  · exact (h.setShed _ _ _ _).trans (hd2.trans hd1)
  · exact hd2.trans hd1

theorem BoundaryKept.shedAbort (d : Dev) (r q : Nat) : P (d.shedAbort r q) = P d := by
  unfold Dev.shedAbort
  extract_lets legs cur d1 d2
  have hd1 : P d1 = P d := Dev.foldl_keeps P _ (fun e x => by
    extract_lets phi
    split
    · exact h.placeSealed _ _ _
    · exact h.placeSealed _ _ _) _ _
  have hd2 : P d2 = P d1 := (h.reg _ _ _).trans (h.shdEnter _ _ _ _)
  exact (h.raise _ _ _ _ (by norm_num)).trans ((h.setShed _ _ _ _).trans (hd2.trans hd1))

theorem BoundaryKept.shedRestore (d : Dev) (r q : Nat) (back : List Nat) (cmd : QWord) : P (d.shedRestore r q back cmd) = P d := by
  unfold Dev.shedRestore
  extract_lets legs d1 d2
  have hactive : P (d.setActive r q legs) = P d := (h.fld _ _ _ _).trans (h.fld _ _ _ _)
  have hd1 : P d1 = P d := (Dev.each_keeps P _ (fun _ _ => h.placeSealed _ _ _) _ _).trans hactive
  have hd2 : P d2 = P d := (h.spread _ _ _).trans hd1
  split
  · exact hd2
  · exact (h.setShed _ _ _ _).trans ((h.shdEnter _ _ _ _).trans hd2)

theorem BoundaryKept.loadStep (d : Dev) (r q : Nat) : P (d.loadStep r q) = P d := by
  unfold Dev.loadStep
  split
  · rfl
  next k hk =>
    extract_lets held x d1
    have hd1 : P d1 = P d := h.setShed _ _ _ _
    split
    · exact (h.shedAbort _ _ _).trans hd1
    · split
      · exact (h.raise _ _ _ _ (by norm_num)).trans ((h.shedRestore _ _ _ _ _).trans hd1)
      · exact hd1

theorem BoundaryKept.shedCounts (d : Dev) (r q ref : Nat) : P (d.shedCounts r q ref) = P d := by
  unfold Dev.shedCounts
  extract_lets x n dwell
  split
  · exact h.setShed _ _ _ _
  · exact h.setShed _ _ _ _
  · split
    · exact h.setShed _ _ _ _
    · rfl

theorem BoundaryKept.shedCommit (d : Dev) (r q : Nat) : P (d.shedCommit r q) = P d := by
  unfold Dev.shedCommit
  split
  next ref lead href hlead =>
    extract_lets a x rise acted low d1 count d2
    have hd1 : P d1 = P d := h.setShed _ _ _ _
    have hcount : ∀ e, P (count e) = P e := fun e => by
      unfold count
      split
      · exact h.shedCounts _ _ _ _
      · rfl
    have hd2 : P d2 = P d1 := by
      unfold d2
      split
      · exact h.spread _ _ _
      · split
        · exact (hcount _).trans ((h.loadStep _ _ _).trans (h.spread _ _ _))
        · split
          · exact h.shedStep _ _ _ _ _
          · split
            · exact (hcount _).trans (h.shedRestore _ _ _ _ _)
            · exact (h.shedCounts _ _ _ _).trans (h.spread _ _ _)
    exact (h.holdShed _ _ _).trans (hd2.trans hd1)
  next => exact h.setShed _ _ _ _

/-- What a unit does once its lanes are closed. -/
theorem BoundaryKept.closeUnit (d : Dev) (r u : Nat) : P (d.closeUnit r u) = P d := by
  unfold Dev.closeUnit
  split
  · refine (Dev.each_keeps P _ (fun q e => ?_) _ _).trans (h.guardUnit _ _ _)
    split
    · exact h.shedCommit _ _ _
    · rfl
  · rfl

end

theorem boundaryKept_mem : BoundaryKept Dev.mem :=
  ⟨⟨fun _ _ _ => rfl, fun _ _ hf => hf.mem⟩, fun _ _ _ => rfl, fun _ _ => rfl, fun _ _ => rfl⟩

/-! ### The place of a lane in its sub-tick -/

/-- The phase of a lane, the lane cycle at which its compute phase began, and the time. -/
def Dev.place (b : Nat) (d : Dev) : Phase × Nat × Nat := ((d.lane b).phase, (d.lane b).computeAt, d.now)

theorem Dev.place_phase {b : Nat} {d e : Dev} (h : e.place b = d.place b) : (e.lane b).phase = (d.lane b).phase := congrArg Prod.fst h

theorem Dev.place_computeAt {b : Nat} {d e : Dev} (h : e.place b = d.place b) : (e.lane b).computeAt = (d.lane b).computeAt :=
  congrArg (fun x : Phase × Nat × Nat => x.2.1) h

theorem Dev.place_now {b : Nat} {d e : Dev} (h : e.place b = d.place b) : e.now = d.now := congrArg (fun x : Phase × Nat × Nat => x.2.2) h

theorem FaultKeeps.place {d e : Dev} (h : FaultKeeps d e) (b : Nat) : e.place b = d.place b := by
  have hphase : (e.lane b).phase = (d.lane b).phase := (congrArg Lane.phase (h.lane b) :)
  have hcompute : (e.lane b).computeAt = (d.lane b).computeAt := (congrArg Lane.computeAt (h.lane b) :)
  rw [Dev.place, hphase, hcompute, h.now, Dev.place]

theorem boundaryKept_place (b : Nat) : BoundaryKept (Dev.place b) :=
  ⟨⟨fun _ _ _ => rfl, fun _ _ hf => hf.place b⟩, fun _ _ _ => rfl, fun _ _ => rfl, fun _ _ => rfl⟩

/-- A lane that keeps its phase and its compute boundary. -/
theorem Dev.place_setLane (b : Nat) (d : Dev) {c : Nat} {l : Lane} (hphase : l.phase = (d.lane c).phase) (hcompute : l.computeAt = (d.lane c).computeAt) :
    (d.setLane c l).place b = d.place b := by
  unfold Dev.place
  rw [Dev.lane_setLane]
  split
  next heq =>
    subst heq
    rw [hphase, hcompute]
    rfl
  next => rfl

section
variable (b : Nat) (d : Dev)

theorem Dev.place_haltLane (c : Nat) : (d.haltLane c).place b = d.place b := Dev.place_setLane b d rfl rfl

theorem Dev.place_noteSet (a v : Nat) : (d.noteSet a v).place b = d.place b := rfl

theorem Dev.place_orReg (a v : Nat) : (d.orReg a v).place b = d.place b := (Dev.place_noteSet b _ a v).trans ((boundaryKept_place b).reg d _ _)

theorem Dev.place_blockFault (c bit : Nat) : (d.blockFault c bit).place b = d.place b := by
  have hcount : FaultReg (blkReg c + F.BLK_CAUSE_CNT_count.off) := faultReg_blk c (by norm_num) (by norm_num)
  have hbase := (((FaultKeeps.refl d).latchCause (blkCause_plain c) bit).bump hcount).raise (src := Ev.BLOCK_FAULT) (scopeBlk c) bit
    (by norm_num)
  exact ((Dev.blockFault_keeps d c bit).place b).trans ((Dev.place_haltLane b _ c).trans (hbase.place b))

theorem Dev.place_chipFault (bit : Nat) : (d.chipFault bit).place b = d.place b := by
  have hside : SideKept (Dev.place b) :=
    ⟨fun _ _ _ _ => rfl, fun _ _ _ => rfl, fun _ _ _ => rfl, fun _ _ _ => rfl, fun _ _ => rfl, fun _ _ => rfl⟩
  have hkept := boundaryKept_place b
  have hlow : ∀ (e : Dev) n, (e.safeOutLow n).place b = e.place b := fun _ _ => (hkept.fld _ _ _ _).trans (hkept.fld _ _ _ _)
  unfold Dev.chipFault
  extract_lets d1 d2
  have hcause := (FaultKeeps.refl d).latchCause chipCause_plain bit
  have hd1 : d1.place b = d.place b := (hkept.raise _ _ _ _ (by norm_num)).trans ((hkept.fld _ _ _ _).trans (hcause.place b))
  have hd2 : d2.place b = d.place b := (hlow _ _).trans ((hlow _ _).trans ((hkept.fld _ _ _ _).trans hd1))
  exact (Dev.each_keeps_of_mem (Dev.place b) _ _ (fun u hu e => hside.chipLockUnit (List.mem_range.mp hu) e) d2).trans hd2

theorem Dev.place_laneMemFault (c bit a : Nat) : (d.laneMemFault c bit a).place b = d.place b :=
  (Dev.place_blockFault b _ c 1).trans (((boundaryKept_place b).reg _ _ _).trans (d.place_orReg b _ _))

theorem Dev.place_holdPair : d.holdPair.place b = d.place b := rfl

/-- What an uncorrectable word sets off changes the phase of no lane. -/
theorem Dev.place_uncorrectable (a : Nat) : (d.uncorrectable a).place b = d.place b := by
  have hkept := boundaryKept_place b
  have herr : ∀ (e : Dev) r scope, ((e.errAddr r a).raise Ev.MEM_UNCORR scope a).place b = e.place b :=
    fun e r s => (hkept.raise _ _ _ _ (by norm_num)).trans (hkept.reg _ _ _)
  unfold Dev.uncorrectable
  extract_lets inactive
  have hinactive : ∀ c bit, (inactive c bit).place b = d.place b := fun c bit => (herr _ _ _).trans (d.place_orReg b _ _)
  split
  · exact d.place_laneMemFault b _ _ _
  · split
    · exact d.place_laneMemFault b _ _ _
    · exact hinactive _ _
  · split
    · exact d.place_laneMemFault b _ _ _
    · exact hinactive _ _
  · exact (herr _ _ _).trans (hkept.fld _ _ _ _)
  · exact (herr _ _ _).trans (hkept.fld _ _ _ _)
  · exact herr _ _ _
  · exact herr _ _ _
  · split
    · exact herr _ _ _
    · exact (Dev.place_holdPair b _).trans ((Dev.place_chipFault b _ 1).trans (hkept.reg _ _ _))
  · exact (Dev.place_chipFault b _ 2).trans ((hkept.fld _ _ _ _).trans ((Dev.place_orReg b _ _ _).trans (hkept.reg _ _ _)))
  · rfl

/-! ### The triggers of a boundary, and what axle links send at a commit point -/

theorem Dev.place_sendSlot (i n : Nat) : (d.sendSlot i n).place b = d.place b := by
  unfold Dev.sendSlot
  extract_lets r ch words a fresh x
  split
  · exact d.place_uncorrectable b _
  · rfl

theorem Dev.place_axlCommit (c : Nat) : (d.axlCommit c).place b = d.place b :=
  Dev.each_keeps _ _ (fun i e => by
    split
    · refine Dev.each_keeps _ _ (fun n e => ?_) _ _
      split
      · exact e.place_sendSlot b _ _
      · rfl
    · rfl) _ _

end

/-- The triggers of a boundary are marks of sequences. -/
theorem Dev.noteTriggers_keeps {α : Type} (P : Dev → α) (hseq : ∀ (d : Dev) x, P { d with seqs := x } = P d) (d : Dev) (r : Nat) (p : Nat → Bool) :
    P (d.noteTriggers r p) = P d :=
  Dev.each_keeps P _ (fun i e => by
    split
    · exact hseq _ _
    · rfl) _ _

theorem Dev.boundaryTriggers_keeps {α : Type} (P : Dev → α) (hseq : ∀ (d : Dev) x, P { d with seqs := x } = P d) (d : Dev) (b bnd : Nat) :
    P (d.boundaryTriggers b bnd) = P d := by
  unfold Dev.boundaryTriggers Dev.blockTriggers
  exact Dev.noteTriggers_keeps P hseq _ _ _

/-- What a block owes to its rainflow channels is in their records. -/
theorem Dev.rfDue_keeps {α : Type} (P : Dev → α) (hrf : ∀ (d : Dev) r n x, P (d.setRf r n x) = P d) (d : Dev) (b : Nat) : P (d.rfDue b) = P d := by
  unfold Dev.rfDue
  refine Dev.each_keeps P _ (fun n e => ?_) _ _
  split
  · exact hrf _ _ _ _
  · rfl

end Sys2Proof.Machine
end

section
/-! The commit point (R60, R63, R65, R66). -/

namespace Sys2Proof.Machine

/-! ### Commands sealed or withdrawn -/

/-- What becomes of the command in the next slot of leg `k` as lane `b` closes (R63, R65). -/
def sealedNext (b : BlockId) (sealing : Bool) (k : Nat) : Option NextCmd → Option NextCmd
  | some x => if k / 32 = b.val / 4 ∧ k < 128 ∧ x.lane = b ∧ x.isSealed = false then (if sealing then some { x with isSealed := true } else none) else some x
  | none => none

/-- The legs of the region of a block. -/
def regionLegs (b : BlockId) : List Nat := (List.range 32).map (fun j => 32 * (b.val / 4) + j)

theorem mem_regionLegs {b : BlockId} {k : Nat} : k ∈ regionLegs b ↔ k / 32 = b.val / 4 ∧ k < 128 := by
  have hb := b.isLt
  simp only [regionLegs, List.mem_map, List.mem_range]
  constructor
  · rintro ⟨j, hj, rfl⟩
    omega
  · rintro ⟨hregion, -⟩
    exact ⟨k % 32, by omega, by omega⟩

theorem regionLegs_nodup (b : BlockId) : (regionLegs b).Nodup := List.Nodup.map (fun _ _ h => by omega) List.nodup_range

/-- One leg as a lane closes. -/
def Dev.sealLeg (b : BlockId) (sealing : Bool) (k : Nat) (d : Dev) : Dev :=
  match (d.leg k).next with
  | some x =>
    if x.lane = b ∧ x.isSealed = false then
      d.setLeg k { d.leg k with next := if sealing then some { x with isSealed := true } else none }
    else d
  | none => d

theorem Dev.sealLane_eq (d : Dev) (b : BlockId) (sealing : Bool) : d.sealLane b sealing = d.each (regionLegs b) (Dev.sealLeg b sealing) := rfl

theorem Dev.sealLeg_same {b : BlockId} {k : Nat} (hk : k ∈ regionLegs b) (sealing : Bool) (d : Dev) :
    ((d.sealLeg b sealing k).leg k).next = sealedNext b sealing k (d.leg k).next := by
  obtain ⟨hregion, hlt⟩ := mem_regionLegs.mp hk
  unfold Dev.sealLeg
  split
  next x hx =>
    rw [hx]
    split
    next hmine =>
      rw [Dev.leg_setLeg_same, keptLeg_next]
      exact (if_pos ⟨hregion, hlt, hmine⟩).symm
    next hno => exact hx.trans (if_neg fun hmine => hno hmine.2.2).symm
  next hnone =>
    rw [hnone]
    rfl

/-- What no leg is is left as commands are sealed or withdrawn. -/
theorem Dev.sealLane_keeps {α : Type} (P : Dev → α) (hleg : ∀ (d : Dev) k l, P (d.setLeg k l) = P d) (d : Dev) (b : BlockId) (sealing : Bool) :
    P (d.sealLane b sealing) = P d := by
  refine Dev.each_keeps P _ (fun k e => ?_) _ _
  split
  · split
    · exact hleg _ _ _
    · rfl
  · rfl

theorem Dev.sealLeg_other {b : BlockId} {j k : Nat} (h : k ≠ j) (sealing : Bool) (d : Dev) : (d.sealLeg b sealing j).leg k = d.leg k := by
  unfold Dev.sealLeg
  split
  · split
    · exact Dev.leg_setLeg_ne _ _ h
    · rfl
  · rfl

/-- Every leg as a lane closes: the lane's own unsealed commands are sealed or withdrawn (R63, R65). -/
theorem Dev.sealLane_next (d : Dev) (b : BlockId) (sealing : Bool) (k : Nat) :
    ((d.sealLane b sealing).leg k).next = sealedNext b sealing k (d.leg k).next := by
  rw [Dev.sealLane_eq]
  by_cases hk : k ∈ regionLegs b
  · obtain ⟨e, he, hat⟩ := Dev.each_at (fun d => (d.leg k).next) (Dev.sealLeg b sealing) _ (regionLegs_nodup b) hk
      (fun j _ hj e => by rw [Dev.sealLeg_other hj.symm]) d
    rw [hat, Dev.sealLeg_same hk, he]
  · have hkept : ((d.each (regionLegs b) (Dev.sealLeg b sealing)).leg k) = d.leg k :=
      Dev.each_keeps_of_mem (fun d => d.leg k) _ _ (fun j hj e =>
        Dev.sealLeg_other (k := k) (j := j) (fun heq => hk (by rw [heq]; exact hj)) _ _) d
    rw [hkept]
    cases hnext : (d.leg k).next with
    | none => rfl
    | some x => exact (if_neg fun hmine => hk (mem_regionLegs.mpr ⟨hmine.1, hmine.2.1⟩)).symm

/-! ### What follows the closing of a lane -/

/-- What the triggers, the rainflow channels and the axle links leave at a commit point. -/
structure CommitKept {α : Type} (P : Dev → α) : Prop where
  seqs : ∀ (d : Dev) x, P { d with seqs := x } = P d
  rf : ∀ (d : Dev) r n x, P (d.setRf r n x) = P d
  axl : ∀ (d : Dev) i x, P (d.setAxl i x) = P d
  port : ∀ (d : Dev) a w, 0x40100000 ≤ a → P (d.setReg a w) = P d

/-- One link at the commit point of block `c`. -/
def Dev.linkSends (c i : Nat) (d : Dev) : Dev :=
  if d.axlUp i then
    d.each (List.range 16) (fun n d => if d.slotSends i n && d.slotBlock i n == c && !d.slotNew i n then d.sendSlot i n else d)
  else d

theorem Dev.axlCommit_eq (d : Dev) (c : Nat) : d.axlCommit c = d.each [0, 1] (Dev.linkSends c) := rfl

section
variable {α : Type} {P : Dev → α} (h : CommitKept P)
include h

/-- Without bad words every slot is sent (R488). -/
theorem CommitKept.sendSlot {d : Dev} (hbad : d.bad = []) (i n : Nat) : (d.sendSlot i n).bad = [] ∧ P (d.sendSlot i n) = P d := by
  have hgood : ∀ y, d.isBad y = false := fun y => by rw [Dev.isBad, hbad]; rfl
  have hreg : 0x40100000 ≤ axlReg i + F.PORT_CNT2_tx.off := by
    unfold axlReg portReg
    omega
  unfold Dev.sendSlot
  extract_lets r ch words a fresh x
  split
  next y hy => exact absurd (List.find?_some hy) (by rw [hgood]; exact Bool.false_ne_true)
  next => exact ⟨hbad, (h.port _ _ _ hreg).trans (h.axl _ _ _)⟩

theorem CommitKept.linkSends {d e : Dev} (he : e.bad = [] ∧ P e = P d) (c i : Nat) :
    (e.linkSends c i).bad = [] ∧ P (e.linkSends c i) = P d := by
  unfold Dev.linkSends
  split
  · refine Dev.each_invariant (I := fun e => e.bad = [] ∧ P e = P d) (fun n _ e he => ?_) he
    split
    · obtain ⟨hbad, hkept⟩ := h.sendSlot he.1 i n
      exact ⟨hbad, hkept.trans he.2⟩
    · exact he
  · exact he

theorem CommitKept.axlCommit {d : Dev} (hbad : d.bad = []) (c : Nat) : P (d.axlCommit c) = P d := by
  rw [Dev.axlCommit_eq]
  exact (Dev.each_invariant (I := fun e => e.bad = [] ∧ P e = P d) (fun i _ _ he => h.linkSends he c i) ⟨hbad, rfl⟩).2

end

/-- What follows the closing of lane `b`: triggers, the window guard and shed sequencers, rainflow channels and axle links (R190, R241, R291,
R422, R488). -/
def Dev.afterClose (d : Dev) (b : BlockId) : Dev :=
  let d2 := d.boundaryTriggers b 3
  ((d2.each (d2.blockUnits b) (fun u d => d.closeUnit (b.val / 4) u)).rfDue b).axlCommit b

/-- No unit of the block is closed by this commit point: each has another lane that is not. -/
def Dev.unitsOpen (d : Dev) (b : BlockId) : Prop := ∀ u ∈ d.blockUnits b, ∃ c ∈ d.laneSet u, (d.lane c).phase ≠ .closed

theorem Dev.closeUnit_open {d : Dev} {r u : Nat} (h : ∃ c ∈ d.laneSet u, (d.lane c).phase ≠ .closed) : d.closeUnit r u = d := by
  obtain ⟨c, hc, hphase⟩ := h
  exact if_neg fun hall => hphase (by simpa using List.all_eq_true.mp hall c hc)

theorem Dev.afterClose_place (d : Dev) (b : BlockId) : (d.afterClose b).place b = d.place b := by
  unfold Dev.afterClose
  extract_lets d2
  have hd2 : d2.place b = d.place b := Dev.boundaryTriggers_keeps _ (fun _ _ => rfl) _ _ _
  have hclose : (d2.each (d2.blockUnits b) (fun u d => d.closeUnit (b.val / 4) u)).place b = d2.place b :=
    Dev.each_keeps _ _ (fun _ _ => (boundaryKept_place b).closeUnit _ _ _) _ _
  exact (Dev.place_axlCommit b _ _).trans ((Dev.rfDue_keeps _ (fun _ _ _ _ => rfl) _ _).trans (hclose.trans hd2))

/-- Where no unit is closed and no word is bad, only the marks of those that come later are left. -/
theorem CommitKept.afterClose {α : Type} {P : Dev → α} (h : CommitKept P) {d : Dev} {b : BlockId} (hopen : d.unitsOpen b) (hbad : d.bad = []) :
    P (d.afterClose b) = P d := by
  unfold Dev.afterClose
  extract_lets d2
  have hd2 : ∀ {β : Type} (Q : Dev → β), (∀ (d : Dev) x, Q { d with seqs := x } = Q d) → Q d2 = Q d :=
    fun Q hseq => Dev.boundaryTriggers_keeps Q hseq _ _ _
  have hopen2 : d2.unitsOpen b := by
    intro u hu
    obtain ⟨c, hc, hphase⟩ := hopen u ((hd2 (fun d => d.blockUnits b) fun _ _ => rfl) ▸ hu)
    refine ⟨c, (hd2 (fun d => d.laneSet u) fun _ _ => rfl).symm ▸ hc, ?_⟩
    rw [hd2 (fun d => (d.lane c).phase) fun _ _ => rfl]
    exact hphase
  have hfixed : d2.each (d2.blockUnits b) (fun u d => d.closeUnit (b.val / 4) u) = d2 :=
    Dev.each_fixed fun u hu => Dev.closeUnit_open (hopen2 u hu)
  rw [hfixed]
  have hbad2 : (d2.rfDue b).bad = [] := (Dev.rfDue_keeps Dev.bad (fun _ _ _ _ => rfl) _ _).trans ((hd2 Dev.bad fun _ _ => rfl).trans hbad)
  exact (h.axlCommit hbad2 _).trans ((Dev.rfDue_keeps P h.rf _ _).trans (hd2 P h.seqs))

theorem commitKept_reg {a : Nat} (ha : a < 0x40100000) : CommitKept (fun d => d.reg a) :=
  ⟨fun _ _ => rfl, fun _ _ _ _ => rfl, fun _ _ _ => rfl, fun _ _ _ h => Dev.reg_setReg_ne _ _ (by omega)⟩

/-! ### The lane at its commit point -/

/-- What a lane that closes leaves. -/
structure CloseKept {α : Type} (b : BlockId) (P : Dev → α) : Prop where
  leg : ∀ (d : Dev) k l, P (d.setLeg k l) = P d
  lane : ∀ (d : Dev) l, P (d.setLane b l) = P d
  ovr : ∀ (d : Dev) w, P (d.setReg (blkReg b + 0x50) w) = P d
  raise : ∀ (d : Dev) src scope arg, src < 0x100 → P (d.raise src scope arg) = P d
  fault : ∀ (d : Dev), P (d.blockFault b 0) = P d

/-- An overrun is counted and told (R66). -/
def Dev.overrunCounted (d : Dev) (b : BlockId) : Dev :=
  ((d.bump (blkReg b) F.BLK_OVR_count).setFld (blkReg b) F.BLK_OVR_last 1).raise Ev.LANE_OVERRUN (scopeBlk b) b.val

/-- A first overrun: the commands are withdrawn and the lane returns to its entry (R65). -/
def Dev.overrunOnce (d : Dev) (b : BlockId) : Dev :=
  ((d.sealLane b false).setLane b { (d.lane b).toDone with overrunLast := true }).overrunCounted b

/-- A lane that has completed: its commands are sealed and the overrun mark is cleared (R63, R66). -/
def Dev.closeDone (d : Dev) (b : BlockId) : Dev :=
  ((d.sealLane b true).setFld (blkReg b) F.BLK_OVR_last 0).setLane b { d.lane b with overrunLast := false }

section
variable {d : Dev} {b : BlockId}

theorem Dev.closeLane_halted (h : (d.lane b).mode = .halted) : d.closeLane b = d.sealLane b false := if_pos h

theorem Dev.closeLane_done (h : (d.lane b).mode ≠ .halted) (hdone : (d.lane b).completed = true) : d.closeLane b = d.closeDone b :=
  (if_neg h).trans (if_pos hdone)

theorem Dev.closeLane_overrun (h : (d.lane b).mode ≠ .halted) (hdone : (d.lane b).completed = false) :
    d.closeLane b = if (d.lane b).overrunLast then (d.overrunOnce b).blockFault b 0 else d.overrunOnce b :=
  (if_neg h).trans (if_neg (by rw [hdone]; exact Bool.false_ne_true))

variable {α : Type} {P : Dev → α} (h : CloseKept b P)
include h

theorem CloseKept.overrunCounted (e : Dev) : P (e.overrunCounted b) = P e :=
  (h.raise _ _ _ _ (by norm_num)).trans ((h.ovr _ _).trans (h.ovr _ _))

theorem CloseKept.overrunOnce : P (d.overrunOnce b) = P d :=
  (h.overrunCounted _).trans ((h.lane _ _).trans (Dev.sealLane_keeps P h.leg _ _ _))

theorem CloseKept.closeLane : P (d.closeLane b) = P d := by
  by_cases hmode : (d.lane b).mode = .halted
  · rw [Dev.closeLane_halted hmode]
    exact Dev.sealLane_keeps P h.leg _ _ _
  · cases hdone : (d.lane b).completed with
    | true =>
      rw [Dev.closeLane_done hmode hdone]
      exact (h.lane _ _).trans ((h.ovr _ _).trans (Dev.sealLane_keeps P h.leg _ _ _))
    | false =>
      rw [Dev.closeLane_overrun hmode hdone]
      split
      · exact (h.fault _).trans h.overrunOnce
      · exact h.overrunOnce

end

/-! ### What a lane that closes leaves -/

theorem BoundaryKept.closeKept {α : Type} {P : Dev → α} (h : BoundaryKept P) {b : BlockId} (hlane : ∀ (d : Dev) l, P (d.setLane b l) = P d)
    (hfault : ∀ (d : Dev) n, P (d.blockFault b n) = P d) : CloseKept b P :=
  ⟨h.leg, hlane, fun d w => h.reg d _ w, h.raise, fun d => hfault d 0⟩

theorem closeKept_stored (b : BlockId) : CloseKept b Dev.stored := by
  have hkept : BoundaryKept Dev.stored :=
    ⟨⟨fun _ _ _ => rfl, fun _ _ hf => congrArg₂ Prod.mk hf.mem (congrArg Dev.bad hf.rest :)⟩, fun _ _ _ => rfl, fun _ _ => rfl, fun _ _ => rfl⟩
  exact hkept.closeKept (fun _ _ => rfl) fun d n => d.stored_blockFault b n

theorem closeKept_now (b : BlockId) : CloseKept b Dev.now := by
  have hkept : BoundaryKept Dev.now :=
    ⟨⟨fun _ _ _ => rfl, fun _ _ hf => hf.now⟩, fun _ _ _ => rfl, fun _ _ => rfl, fun _ _ => rfl⟩
  exact hkept.closeKept (fun _ _ => rfl) fun d n => Dev.place_now (d.place_blockFault b b n)

theorem closeKept_place {b : BlockId} {c : Nat} (hc : c ≠ b.val) : CloseKept b (Dev.place c) :=
  (boundaryKept_place c).closeKept (fun d l => by simp only [Dev.place, Dev.lane_setLane, if_neg hc, Dev.setLane_now]) fun d n => d.place_blockFault c b n

theorem Dev.blockFault_owner (d : Dev) (b bit k : Nat) : (d.blockFault b bit).owner k = d.owner k := by
  have hcount : FaultReg (blkReg b + F.BLK_CAUSE_CNT_count.off) := faultReg_blk b (by norm_num) (by norm_num)
  have hbase := (((FaultKeeps.refl d).latchCause (blkCause_plain b) bit).bump hcount).raise (src := Ev.BLOCK_FAULT) (scopeBlk b) bit
    (by norm_num)
  have hhalt : ∀ e : Dev, (e.haltLane b).owner k = e.owner k := fun _ => rfl
  exact ((Dev.blockFault_keeps d b bit).owner k).trans ((hhalt _).trans (hbase.owner k))

theorem closeKept_owner (b : BlockId) (k : Nat) : CloseKept b (fun d => d.owner k) := by
  have hne : ownReg k ≠ blkReg b + 0x50 := by
    have hb := b.isLt
    unfold ownReg blkReg blkBase rgnReg rgnBase
    omega
  have hleg : ∀ (d : Dev) j l, (d.setLeg j l).owner k = d.owner k := fun _ _ _ => rfl
  have hlane : ∀ (d : Dev) c l, (d.setLane c l).owner k = d.owner k := fun _ _ _ => rfl
  refine ⟨hleg, fun d l => hlane d _ l, fun d w => ?_, fun d src scope arg hs => ((FaultKeeps.refl d).raise scope arg hs).owner k,
    fun d => d.blockFault_owner b 0 k⟩
  rw [Dev.owner, Dev.owner, Dev.ownByte_eq, Dev.ownByte_eq, Dev.reg_setReg_ne _ _ hne]

/-- The lane closed. -/
def Dev.shut (d : Dev) (b : BlockId) : Dev := (d.closeLane b).setLane b { (d.closeLane b).lane b with phase := .closed }

section
variable {d : Dev} {b : BlockId}

theorem Dev.shut_lane : (d.shut b).lane b = { (d.closeLane b).lane b with phase := .closed } := Dev.lane_setLane_same _ _ _

theorem Dev.shut_stored : (d.shut b).stored = d.stored := (closeKept_stored b).closeLane

/-- A unit that has another open lane still has it. -/
theorem Dev.shut_unitsOpen (hopen : ∀ u ∈ d.blockUnits b, ∃ c ∈ d.laneSet u, c ≠ b.val ∧ (d.lane c).phase ≠ .closed) : (d.shut b).unitsOpen b := by
  have howner : ∀ k, (d.shut b).owner k = d.owner k := fun k => (closeKept_owner b k).closeLane
  intro u hu
  rw [show (d.shut b).blockUnits b = d.blockUnits b by simp only [Dev.blockUnits, howner]] at hu
  obtain ⟨c, hc, hne, hphase⟩ := hopen u hu
  have hkept : ((d.shut b).lane c).phase = (d.lane c).phase :=
    Dev.place_phase (((closeKept_place hne).lane (d.closeLane b) _).trans (closeKept_place hne).closeLane)
  refine ⟨c, ?_, by rw [hkept]; exact hphase⟩
  rw [show (d.shut b).laneSet u = d.laneSet u by simp only [Dev.laneSet, howner]]
  exact hc

/-- The device after its commit point, where no unit is closed and no word is bad. -/
theorem CommitKept.committed {α : Type} {P : Dev → α} (h : CommitKept P)
    (hopen : ∀ u ∈ d.blockUnits b, ∃ c ∈ d.laneSet u, c ≠ b.val ∧ (d.lane c).phase ≠ .closed) (hbad : d.bad = []) :
    P ((d.shut b).afterClose b) = P (d.shut b) :=
  h.afterClose (Dev.shut_unitsOpen hopen) ((congrArg Prod.snd Dev.shut_stored).trans hbad)

/-! ### The lane and its block, by how the lane closes -/

theorem Dev.overrunCounted_lane (d : Dev) (b : BlockId) : ((d.overrunCounted b).lane b).mode = (d.lane b).mode ∧
    ((d.overrunCounted b).lane b).overrunLast = (d.lane b).overrunLast := by
  have hreg : ((d.bump (blkReg b) F.BLK_OVR_count).setFld (blkReg b) F.BLK_OVR_last 1).lane b = d.lane b :=
    (Dev.setReg_lane _ _ _ _).trans (Dev.setReg_lane _ _ _ _)
  rw [Dev.overrunCounted, Dev.raise_lane_overrunLast _ _ _ _ _ (by norm_num), ((FaultKeeps.refl _).raise _ _ (by norm_num)).lane_mode b, hreg]
  exact ⟨rfl, rfl⟩

theorem Dev.overrunCounted_leg (d : Dev) (b : BlockId) (k : Nat) : (d.overrunCounted b).leg k = d.leg k :=
  (Dev.raise_leg _ _ _ _ _ (by norm_num)).trans ((Dev.setReg_leg _ _ _ _).trans (Dev.setReg_leg _ _ _ _))

theorem Dev.overrunCounted_count (d : Dev) (b : BlockId) :
    (d.overrunCounted b).fld (blkReg b) F.BLK_OVR_count = satInc F.BLK_OVR_count.w (d.fld (blkReg b) F.BLK_OVR_count) := by
  have hlast := Dev.fld_setFld_field (d.bump (blkReg b) F.BLK_OVR_count) (blkReg b) (blkReg b) F.BLK_OVR_last F.BLK_OVR_count 1 (by norm_num) rfl
    (.inl (by norm_num))
  rw [Dev.overrunCounted, Dev.raise_fld _ (by norm_num) _ _ _ _ (blkReg_not_routerReg (by norm_num) (by norm_num)), hlast,
    Dev.fld_bump_same _ _ _ (by norm_num)]

theorem Dev.overrunOnce_lane : ((d.overrunOnce b).lane b).mode = .done ∧ ((d.overrunOnce b).lane b).overrunLast = true := by
  obtain ⟨hmode, hlast⟩ := ((d.sealLane b false).setLane b { (d.lane b).toDone with overrunLast := true }).overrunCounted_lane b
  rw [Dev.lane_setLane_same] at hmode hlast
  exact ⟨hmode, hlast⟩

theorem Dev.overrunOnce_next (k : Nat) : ((d.overrunOnce b).leg k).next = sealedNext b false k (d.leg k).next := by
  rw [Dev.overrunOnce, Dev.overrunCounted_leg, Dev.setLane_leg, Dev.sealLane_next]

theorem Dev.overrunOnce_count : (d.overrunOnce b).fld (blkReg b) F.BLK_OVR_count = satInc F.BLK_OVR_count.w (d.fld (blkReg b) F.BLK_OVR_count) := by
  have hlane : ∀ (e : Dev) c l a, (e.setLane c l).fld a F.BLK_OVR_count = e.fld a F.BLK_OVR_count := fun _ _ _ _ => rfl
  have hleg : ∀ (e : Dev) k l, (e.setLeg k l).fld (blkReg b) F.BLK_OVR_count = e.fld (blkReg b) F.BLK_OVR_count := fun e k l => by
    rw [Dev.fld, Dev.fld, Dev.reg, Dev.reg, Dev.setLeg_regs]
  rw [Dev.overrunOnce, Dev.overrunCounted_count, hlane, Dev.sealLane_keeps (fun d => d.fld (blkReg b) F.BLK_OVR_count) hleg]

theorem Dev.closeDone_next (k : Nat) : ((d.closeDone b).leg k).next = sealedNext b true k (d.leg k).next := by
  rw [Dev.closeDone, Dev.setLane_leg, Dev.setFld, Dev.setReg_leg, Dev.sealLane_next]

theorem Dev.closeDone_last : (d.closeDone b).fld (blkReg b) F.BLK_OVR_last = 0 := by
  have hlane : ∀ (e : Dev) c l a, (e.setLane c l).fld a F.BLK_OVR_last = e.fld a F.BLK_OVR_last := fun _ _ _ _ => rfl
  rw [Dev.closeDone, hlane, Dev.fld_setFld_same _ _ _ _ (by norm_num), Nat.zero_mod]

theorem sealedNext_mine {b : BlockId} {k : Nat} {x : NextCmd} (h : k / 32 = b.val / 4 ∧ k < 128 ∧ x.lane = b ∧ x.isSealed = false) (sealing : Bool) :
    sealedNext b sealing k (some x) = if sealing then some { x with isSealed := true } else none := if_pos h

theorem sealedNext_other {b : BlockId} {k : Nat} {x : NextCmd} (h : ¬ (k / 32 = b.val / 4 ∧ k < 128 ∧ x.lane = b ∧ x.isSealed = false))
    (sealing : Bool) : sealedNext b sealing k (some x) = some x := if_neg h

end

section
variable {b : BlockId} {s : State}

theorem exec_commitPoint (hphase : (s.dev.lane b).phase = .commit) (hdue : s.dev.boundaryAt b F.RGN_PHASE1_commit_point ≤ s.dev.now) :
    exec (.commitPoint b) s = .next ⟨(s.dev.shut b).afterClose b, s.pending⟩ :=
  congrArg s.done (if_pos (And.intro hphase hdue))

theorem exec_commitPoint_other (h : (s.dev.lane b).phase ≠ .commit ∨ s.dev.now < s.dev.boundaryAt b F.RGN_PHASE1_commit_point) :
    exec (.commitPoint b) s = .next s := by
  have hnot : ¬ ((s.dev.lane b).phase = .commit ∧ s.dev.boundaryAt b F.RGN_PHASE1_commit_point ≤ s.dev.now) :=
    fun hdue => h.elim (fun hne => hne hdue.1) fun hlt => Nat.not_le.mpr hlt hdue.2
  exact congrArg s.done (if_neg hnot)

end

/-- Settles O23: the lane closes in each of its four ways, and what follows touches neither lane, commands nor memory. -/
theorem commitPoint : Obligations.CommitPoint := by
  unfold Obligations.CommitPoint
  intro b s d l open_ mine others
  refine ⟨exec_commitPoint_other, fun hphase hdue => ?_, fun hphase hdue hopen hbad => ?_⟩
  · have hplace := (d.shut b).afterClose_place b
    have hclosed : ((d.shut b).lane b).phase = .closed := congrArg Lane.phase Dev.shut_lane
    exact ⟨_, exec_commitPoint hphase hdue, (Dev.place_phase hplace).trans hclosed, (Dev.place_now hplace).trans (closeKept_now b).closeLane⟩
  have hexec := exec_commitPoint hphase hdue
  have hlane : ((d.shut b).afterClose b).lane b = { (d.closeLane b).lane b with phase := .closed } :=
    (CommitKept.committed (P := fun d => d.lane b) ⟨fun _ _ => rfl, fun _ _ _ _ => rfl, fun _ _ _ => rfl, fun _ _ _ _ => rfl⟩ hopen hbad).trans Dev.shut_lane
  have hmem : ((d.shut b).afterClose b).mem = d.mem :=
    (CommitKept.committed ⟨fun _ _ => rfl, fun _ _ _ _ => rfl, fun _ _ _ => rfl, fun _ _ _ _ => rfl⟩ hopen hbad).trans
      (congrArg Prod.fst Dev.shut_stored)
  have hnext : ∀ k, (((d.shut b).afterClose b).leg k).next = ((d.closeLane b).leg k).next := fun k =>
    CommitKept.committed (P := fun d => (d.leg k).next) ⟨fun _ _ => rfl, fun _ _ _ _ => rfl, fun _ _ _ => rfl, fun _ _ _ _ => rfl⟩ hopen hbad
  have hreg : ∀ x < 0x8000, ((d.shut b).afterClose b).reg (blkReg b + x) = (d.closeLane b).reg (blkReg b + x) := fun x hx => by
    have hlow : blkReg b + x < 0x40100000 := by
      have hb := b.isLt
      unfold blkReg blkBase rgnBase
      omega
    exact (commitKept_reg hlow).committed hopen hbad
  change exec (.commitPoint b) s = .next ⟨(d.shut b).afterClose b, s.pending⟩ at hexec
  generalize (d.shut b).afterClose b = e at hexec hlane hmem hnext hreg
  have hclosed : (e.lane b).phase = .closed := congrArg Lane.phase hlane
  have hmode : (e.lane b).mode = ((d.closeLane b).lane b).mode := (congrArg Lane.mode hlane :)
  have hlast : (e.lane b).overrunLast = ((d.closeLane b).lane b).overrunLast := (congrArg Lane.overrunLast hlane :)
  have hfld : ∀ f : Fld, f.off < 0x8000 → e.fld (blkReg b) f = (d.closeLane b).fld (blkReg b) f := fun f hf => by
    rw [Dev.fld, hreg _ hf, Dev.fld]
  have hseal : ∀ sealing, (∀ k, ((d.closeLane b).leg k).next = sealedNext b sealing k (d.leg k).next) →
      others e ∧ ∀ k x, (d.leg k).next = some x → mine k x → (e.leg k).next = if sealing then some { x with isSealed := true } else none := by
    intro sealing hseal
    refine ⟨fun k x hx hno => ?_, fun k x hx hx' => ?_⟩
    · rw [hnext, hseal, hx]
      exact sealedNext_other hno _
    · rw [hnext, hseal, hx]
      exact sealedNext_mine hx' _
  refine ⟨fun hrun hdone => ?_, fun hrun hdone honce => ?_, fun hrun hdone htwice => ?_, fun hhalted => ?_⟩
  · have hown : (d.closeDone b).lane b = { d.lane b with overrunLast := false } := Dev.lane_setLane_same _ _ _
    rw [Dev.closeLane_done hrun hdone] at hmode hlast hfld hseal
    obtain ⟨hothers, hmine⟩ := hseal true Dev.closeDone_next
    exact ⟨e, hexec, hclosed, hlast.trans (congrArg Lane.overrunLast hown), hmode.trans (congrArg Lane.mode hown :), hmem, hothers,
      (hfld _ (by norm_num)).trans Dev.closeDone_last, hmine⟩
  · rw [(Dev.closeLane_overrun hrun hdone).trans (if_neg (by rw [honce]; exact Bool.false_ne_true))] at hmode hlast hfld hseal
    obtain ⟨hmode', hlast'⟩ := Dev.overrunOnce_lane (d := d) (b := b)
    obtain ⟨hothers, hmine⟩ := hseal false Dev.overrunOnce_next
    exact ⟨e, hexec, hclosed, hlast.trans hlast', hmode.trans hmode', hmem, hothers, (hfld _ (by norm_num)).trans Dev.overrunOnce_count, hmine⟩
  · rw [(Dev.closeLane_overrun hrun hdone).trans (if_pos htwice)] at hmode hreg
    obtain ⟨hhalt, -⟩ := (d.overrunOnce b).blockFault_halts b 0
    refine ⟨e, hexec, hclosed, hmode.trans hhalt, ?_⟩
    rw [hreg _ (by norm_num), Dev.blockFault_reg _ _ _ (by norm_num) (by norm_num) (by norm_num)]
    exact Dev.latchCause_blk_bit _ _ (by norm_num)
  · have hown : (d.sealLane b false).lane b = d.lane b := Dev.sealLane_keeps (fun d => d.lane b) (fun _ _ _ => rfl) _ _ _
    rw [Dev.closeLane_halted hhalted] at hmode hseal
    obtain ⟨hothers, hmine⟩ := hseal false (d.sealLane_next b false)
    exact ⟨e, hexec, hclosed, (hmode.trans (congrArg Lane.mode hown)).trans hhalted, hmem, hothers, hmine⟩

end Sys2Proof.Machine
end

section
/-! The reference programs at the boundaries leave every lane in its phase (R224, R248, R421). -/

namespace Sys2Proof.Machine

section
variable (b : Nat) (d : Dev)

/-! ### What programs change of a device -/

theorem Dev.place_setProg (u : Nat) (p : Program) : (d.setProg u p).place b = d.place b := rfl

theorem Dev.place_onDrive (u : Nat) (f : Drive → Drive) : (d.onDrive u f).place b = d.place b := Dev.place_setProg b d u _

theorem Dev.place_storeN (a n v : Nat) : (d.storeN a n v).place b = d.place b :=
  Dev.storeN_keeps (Dev.place b) (fun _ _ => rfl) (fun _ _ => rfl) d a n v

theorem Dev.place_pokeStatus (a : Nat) (ws : List Nat) : (d.pokeStatus a ws).place b = d.place b :=
  Dev.foldl_keeps (Dev.place b) _ (fun e _ => e.place_storeN b _ _ _) _ _

theorem Dev.place_sigRaise (c : Nat) {n : Nat} (hn : n < 4) : (d.sigRaise c n).place b = d.place b := by
  have hs := laneSig_lt hn
  unfold Dev.sigRaise
  extract_lets d1
  have hd1 : d1.place b = d.place b := (boundaryKept_place b).raise _ _ _ _ hs
  split
  · refine (Dev.each_keeps_of_mem (Dev.place b) _ _ (fun u hu e => ?_) _).trans hd1
    split
    · exact ((FaultKeeps.refl e).unitFault (blockUnits_lt hu) 2).place b
    · rfl
  · exact hd1

theorem Dev.place_progEnter (c u st : Nat) : (d.progEnter c u st).place b = d.place b := by
  unfold Dev.progEnter
  extract_lets p d1
  have hd1 : d1.place b = d.place b := Dev.place_setProg b d u _
  split
  · rfl
  · split
    · exact (d1.place_sigRaise b c (by norm_num)).trans hd1
    · exact hd1

/-- A change of the program's record and then of its state. -/
theorem Dev.place_setProg_enter (u : Nat) (p : Program) (c st : Nat) : ((d.setProg u p).progEnter c u st).place b = d.place b :=
  (Dev.place_progEnter b _ c u st).trans (d.place_setProg b u p)

theorem Dev.place_startFail (c u : Nat) : (d.startFail c u).place b = d.place b :=
  (Dev.place_sigRaise b _ c (by norm_num)).trans (d.place_progEnter b c u 10)

theorem Dev.place_toClosed (c u : Nat) (fly : Bool) : (d.toClosed c u fly).place b = d.place b := d.place_setProg_enter b u _ c 6

theorem Dev.place_toFlyDetect (c u : Nat) : (d.toFlyDetect c u).place b = d.place b :=
  (Dev.place_progEnter b _ c u 1).trans (d.place_onDrive b u _)

theorem Dev.place_toAlign (c u : Nat) : (d.toAlign c u).place b = d.place b := (Dev.place_progEnter b _ c u 4).trans (d.place_onDrive b u _)

/-! ### The compute boundary -/

theorem Dev.place_progCheck (c u : Nat) : (d.progCheck c u).place b = d.place b := by
  unfold Dev.progCheck
  extract_lets p d1
  have hd1 : d1.place b = d.place b := d.place_setProg b u _
  split
  · rfl
  · split
    · exact (Dev.place_sigRaise b _ c (by norm_num)).trans ((d1.place_progEnter b c u 9).trans hd1)
    · split
      · exact (d1.place_progEnter b c u 0).trans hd1
      · split
        · exact (d1.place_setProg_enter b u _ c 0).trans hd1
        · split
          · exact (d1.place_setProg_enter b u _ c 0).trans hd1
          · exact hd1

theorem Dev.place_progAccept (c u : Nat) : (d.progAccept c u).place b = d.place b := by
  unfold Dev.progAccept
  extract_lets p n words seq src x q d1
  have hd1 : d1.place b = d.place b := d.place_setProg b u _
  split
  · split
    · split
      · exact (d1.place_progEnter b c u 0).trans hd1
      · split
        · exact (d1.place_setProg b u _).trans hd1
        · exact hd1
    · exact hd1
  · rfl

theorem Dev.place_tractionSense (c u : Nat) : (d.tractionSense c u).place b = d.place b := d.place_setProg b u _

theorem Dev.place_tractionStep (c u : Nat) : (d.tractionStep c u).place b = d.place b := by
  unfold Dev.tractionStep
  extract_lets p fb w run started
  have hstarted : started.place b = d.place b := d.place_setProg b u _
  split
  · split
    · split
      · split
        · exact (started.place_startFail b c u).trans hstarted
        · split
          · exact (started.place_toClosed b c u false).trans hstarted
          · rfl
      · split
        · exact (started.place_toFlyDetect b c u).trans hstarted
        · rfl
    · rfl
  · split
    · exact d.place_startFail b c u
    · split
      · exact d.place_toAlign b c u
      · rfl
  · split
    · exact d.place_startFail b c u
    · rfl
  · exact (Dev.place_toFlyDetect b _ c u).trans (d.place_setProg b u _)
  · rfl

theorem Dev.place_converterStep (c u : Nat) : (d.converterStep c u).place b = d.place b := by
  unfold Dev.converterStep
  extract_lets p d1 q
  have hd1 : d1.place b = d.place b := (Dev.place_setProg b _ u _).trans (d.place_setProg b u _)
  split
  · exact d.place_setProg_enter b u _ c 0
  · split
    · split
      · exact d.place_setProg_enter b u _ c 1
      · rfl
    · split
      · exact (d1.place_progEnter b c u 2).trans hd1
      · split
        · exact (d1.place_progEnter b c u 2).trans hd1
        · exact hd1

theorem Dev.place_chopperStep (c u : Nat) : (d.chopperStep c u).place b = d.place b := by
  unfold Dev.chopperStep
  extract_lets d1 p
  have hd1 : d1.place b = d.place b := d.place_setProg b u _
  split
  · exact (d1.place_progEnter b c u 0).trans hd1
  · split
    · exact hd1
    · split
      · exact (d1.place_progEnter b c u 1).trans hd1
      · exact hd1

theorem Dev.place_chargerStep (c u : Nat) : (d.chargerStep c u).place b = d.place b := by
  unfold Dev.chargerStep
  extract_lets p
  split
  · exact d.place_progEnter b c u 0
  · split
    · split
      · exact d.place_setProg_enter b u _ c 1
      · rfl
    · split
      · exact d.place_progEnter b c u 2
      · rfl

theorem Dev.place_unitCompute (c u : Nat) : (d.unitCompute c u).place b = d.place b := by
  unfold Dev.unitCompute
  split
  · exact d.place_uncorrectable b _
  · extract_lets p e d0 k d1 d2
    have he : e.place b = d.place b := d.place_setProg b u _
    have hd0 : d0.place b = d.place b := he
    have hd1 : d1.place b = d.place b := by
      unfold d1
      split
      · exact (d0.place_tractionSense b c u).trans hd0
      · exact hd0
    have hd2 : d2.place b = d.place b := (Dev.place_progAccept b _ c u).trans ((d1.place_progCheck b c u).trans hd1)
    split
    · exact hd2
    · split
      · exact (d2.place_tractionStep b c u).trans hd2
      · split
        · exact (d2.place_converterStep b c u).trans hd2
        · split
          · exact (d2.place_chopperStep b c u).trans hd2
          · split
            · exact (d2.place_chargerStep b c u).trans hd2
            · exact hd2

/-- The programs of a lane at its compute boundary. -/
theorem Dev.place_refCompute (c : Nat) : (d.refCompute c).place b = d.place b := by
  unfold Dev.refCompute
  refine Dev.each_keeps (Dev.place b) _ (fun u e => ?_) _ _
  split
  · rfl
  · exact e.place_unitCompute b c u

/-! ### The commit boundary -/

theorem Dev.place_tractionControl (c u : Nat) : (d.tractionControl c u).place b = d.place b := by
  unfold Dev.tractionControl
  extract_lets d1
  split
  · exact (Dev.place_onDrive b _ u _).trans (d.place_onDrive b u _)
  · rfl

theorem Dev.place_progStatus (c u : Nat) : (d.progStatus c u).place b = d.place b := by
  unfold Dev.progStatus
  extract_lets k
  split
  · exact d.place_pokeStatus b _ _
  · split
    · exact d.place_pokeStatus b _ _
    · split
      · exact d.place_pokeStatus b _ _
      · split
        · exact d.place_pokeStatus b _ _
        · rfl

theorem Dev.place_progThermal (c u : Nat) : (d.progThermal c u).place b = d.place b := by
  unfold Dev.progThermal
  exact Dev.each_keeps (Dev.place b) _ (fun m e => (Dev.place_storeN b _ _ _ _).trans (e.place_setProg b u _)) _ _

end

end Sys2Proof.Machine
end

section
/-! The phases of a sub-tick (R58, R60, R62, R86, R195). -/

namespace Sys2Proof.Machine

/-! ### The start of a sub-tick -/

/-- One word of an intake buffer as its fresh bit is cleared (R195). -/
def Dev.clearWord (b w : Nat) (d : Dev) : Dev :=
  if (Store.get (fun _ => (0, 0)) d.intakeOld (intakeBase b + 4 * w)).1 = d.now + 1 then d
  else d.pokeN (intakeBase b + 4 * w) 4 (withBits (d.loadN (intakeBase b + 4 * w) 4) 16 1 0)

/-- The words of an intake buffer with a fresh bit. -/
def freshWords : List Nat := List.range 96 ++ [132, 164]

theorem freshWords_nodup : freshWords.Nodup := by
  refine List.nodup_append.mpr ⟨List.nodup_range, by decide, fun v hv w hw => ?_⟩
  have hlow := List.mem_range.mp hv
  have hhigh : 132 ≤ w := by
    revert w
    decide
  omega

theorem Dev.clearFresh_eq (d : Dev) (b : Nat) : d.clearFresh b = d.each freshWords (Dev.clearWord b) := rfl

theorem Dev.clearWord_byte {b w x : Nat} (h : x < intakeBase b + 4 * w ∨ intakeBase b + 4 * w + 4 ≤ x) (d : Dev) :
    (d.clearWord b w).byte x = d.byte x := by
  unfold Dev.clearWord
  split
  · rfl
  · exact Dev.pokeN_byte _ _ _ _ _ h

/-- Only the words of the buffer change. -/
theorem Dev.clearFresh_byte {b x : Nat} (h : x < intakeBase b ∨ intakeBase b + 0x294 ≤ x) (d : Dev) : (d.clearFresh b).byte x = d.byte x := by
  rw [Dev.clearFresh_eq]
  refine Dev.each_keeps_of_mem (fun d => d.byte x) _ _ (fun w hw e => Dev.clearWord_byte ?_ e) d
  have hlt : w ≤ 164 := by
    revert w
    decide
  omega

/-- What no memory is is left as fresh bits are cleared. -/
theorem Dev.clearFresh_keeps {α : Type} (P : Dev → α) (hmem : ∀ (d : Dev) m, P { d with mem := m } = P d) (d : Dev) (b : Nat) :
    P (d.clearFresh b) = P d := by
  rw [Dev.clearFresh_eq]
  refine Dev.each_keeps P _ (fun w e => ?_) _ _
  unfold Dev.clearWord
  split
  · rfl
  · exact hmem _ _

theorem Dev.clearWord_fresh {b w : Nat} {d : Dev} (h : (Store.get (fun _ => (0, 0)) d.intakeOld (intakeBase b + 4 * w)).1 ≠ d.now + 1) :
    bitOf ((d.clearWord b w).loadN (intakeBase b + 4 * w) 4) 16 = false := by
  have hbits : 256 ^ 4 = 2 ^ 32 := by norm_num
  rw [Dev.clearWord, if_neg h, Dev.pokeN_loadN, hbits, bitOf_eq_testBit, Nat.testBit_mod_two_pow, testBit_withBits, if_pos (by norm_num)]
  rfl

theorem Dev.loadN_of_bytes {d e : Dev} {a n : Nat} (h : ∀ i < n, e.byte (a + i) = d.byte (a + i)) : e.loadN a n = d.loadN a n :=
  congrArg leNat (Dev.bytes_congr h)

/-- A word that was not written in this lane cycle has lost its fresh bit (R195). -/
theorem Dev.clearFresh_fresh {b w : Nat} (hw : w < 96) {d : Dev} (h : (Store.get (fun _ => (0, 0)) d.intakeOld (intakeBase b + 4 * w)).1 ≠ d.now + 1) :
    bitOf ((d.clearFresh b).loadN (intakeBase b + 4 * w) 4) 16 = false := by
  rw [Dev.clearFresh_eq]
  have hmem : w ∈ freshWords := List.mem_append_left _ (List.mem_range.mpr hw)
  obtain ⟨e, he, hat⟩ := Dev.each_at (fun d => (d.loadN (intakeBase b + 4 * w) 4, d.intakeOld, d.now)) (Dev.clearWord b) freshWords freshWords_nodup hmem
    (fun v _ hv e => by
      have hold : (e.clearWord b v).intakeOld = e.intakeOld ∧ (e.clearWord b v).now = e.now := by
        unfold Dev.clearWord
        split <;> exact ⟨rfl, rfl⟩
      have hload : (e.clearWord b v).loadN (intakeBase b + 4 * w) 4 = e.loadN (intakeBase b + 4 * w) 4 :=
        Dev.loadN_of_bytes fun i hi => Dev.clearWord_byte (by omega) e
      rw [hload, hold.1, hold.2]) d
  have hold : e.intakeOld = d.intakeOld := congrArg (fun x => x.2.1) he
  have hnow : e.now = d.now := congrArg (fun x => x.2.2) he
  have hload : (d.each freshWords (Dev.clearWord b)).loadN (intakeBase b + 4 * w) 4 = (e.clearWord b w).loadN (intakeBase b + 4 * w) 4 :=
    (congrArg Prod.fst hat :)
  rw [hload]
  exact Dev.clearWord_fresh (by rw [hold, hnow]; exact h)

/-- The lane of a block as sub-tick `j` starts at edge step `start` (R58). -/
def Dev.subLane (d : Dev) (b j start : Nat) : Lane :=
  { d.lane b with
    phase := .intake, subTick := j, tickOf := some d.trl.tickStep, subStart := start / 32, subStep := start,
    subFrom := j * d.trl.tickLen / d.subFactor b }

/-- The condition registers of a block as a sub-tick starts (R115). -/
def Dev.condStarted (d : Dev) (b : Nat) : Dev :=
  let l := d.lane b
  let same := l.freshAt == d.now
  (d.setReg (blkReg b + 0x34) (BitVec.ofNat 32 ((d.reg (blkReg b + 0x30)).toNat &&&
    ((if same then l.freshNew.toNat else 0) ^^^ 0xFFFFFFFF)))).setReg (blkReg b + 0x30) (if same then l.fresh else 0)

/-- The lane and the condition registers of a block as a sub-tick starts. -/
def Dev.subOpened (d : Dev) (b j start : Nat) : Dev := (d.condStarted b).setLane b (d.subLane b j start)

theorem Dev.subOpened_keeps {α : Type} (P : Dev → α) (hreg : ∀ (d : Dev) a w, P (d.setReg a w) = P d) (hlane : ∀ (d : Dev) c l, P (d.setLane c l) = P d)
    (d : Dev) (b j start : Nat) : P (d.subOpened b j start) = P d := (hlane _ _ _).trans ((hreg _ _ _).trans (hreg _ _ _))

/-- The triggers of a sub-tick start (R190, R258, R452). -/
def Dev.startTriggers (d : Dev) (b : Nat) : Dev :=
  let d4 := d.blockTriggers b (fun a => d.fld a F.ADC_SEQ_CFG_trig == 5)
  let d5 := d4.noteSamples (b / 4) (fun a => d4.fld a F.FB_CFG_trig == 0 && d4.fld a F.FB_CFG_blk == b % 4)
  d5.noteInstant (b / 4) (fun a => d5.fld a F.CAP_SMP_smp == 0 && d5.fld a F.CAP_SMP_blk == b % 4)

/-- The device as a sub-tick starts. -/
def Dev.subStarted (d : Dev) (b j start : Nat) : Dev :=
  (((((d.subOpened b j start).clearFresh b).takeRoutes b).restartLocked b start).startTriggers b)

section
variable {b : BlockId} {s : State} {j start : Nat}

theorem exec_subTickStart (hnext : s.dev.nextSub b = some (j, start)) (hdue : start ≤ s.dev.stepNow + 31) :
    exec (.subTickStart b) s = .next ⟨s.dev.subStarted b j start, s.pending⟩ := by
  show execSubTickStart b s = _
  unfold execSubTickStart
  simp only [hnext, if_pos hdue]
  rfl

theorem exec_subTickStart_none (hnext : s.dev.nextSub b = none) : exec (.subTickStart b) s = .next s := by
  show execSubTickStart b s = _
  unfold execSubTickStart
  simp only [hnext]
  rfl

theorem exec_subTickStart_early (hnext : s.dev.nextSub b = some (j, start)) (hearly : s.dev.stepNow + 31 < start) :
    exec (.subTickStart b) s = .next s := by
  show execSubTickStart b s = _
  unfold execSubTickStart
  simp only [hnext, if_neg (Nat.not_le.mpr hearly)]
  rfl

end

/-- What the triggers of a start leave. -/
theorem Dev.startTriggers_keeps {α : Type} (P : Dev → α) (hseq : ∀ (d : Dev) x, P { d with seqs := x } = P d)
    (hfb : ∀ (d : Dev) x, P { d with fbs := x } = P d) (hcap : ∀ (d : Dev) x, P { d with caps := x } = P d) (d : Dev) (b : Nat) :
    P (d.startTriggers b) = P d := by
  have hsamples : ∀ (e : Dev) r p, P (e.noteSamples r p) = P e := fun e r p => by
    unfold Dev.noteSamples
    refine Dev.each_keeps P _ (fun f e => ?_) _ _
    split
    · exact hfb _ _
    · rfl
  have hinstant : ∀ (e : Dev) r p, P (e.noteInstant r p) = P e := fun e r p => by
    unfold Dev.noteInstant
    extract_lets x i
    split
    · split
      · exact hcap _ _
      · exact hcap _ _
    · rfl
  unfold Dev.startTriggers Dev.blockTriggers
  exact (hinstant _ _ _).trans ((hsamples _ _ _).trans (Dev.noteTriggers_keeps P hseq _ _ _))

/-- What the routes, the locked counters and the triggers leave, whose start follows the clearing of the fresh bits. -/
theorem Dev.subStarted_keeps {α : Type} (P : Dev → α) (hroute : ∀ (d : Dev) x, P { d with laneRoutes := x } = P d)
    (hleg : ∀ (d : Dev) k l, P (d.setLeg k l) = P d) (hseq : ∀ (d : Dev) x, P { d with seqs := x } = P d)
    (hfb : ∀ (d : Dev) x, P { d with fbs := x } = P d) (hcap : ∀ (d : Dev) x, P { d with caps := x } = P d) (d : Dev) (b j start : Nat) :
    P (d.subStarted b j start) = P ((d.subOpened b j start).clearFresh b) := by
  have hroutes : ∀ e : Dev, P (e.takeRoutes b) = P e := fun e => Dev.each_keeps P _ (fun _ _ => hroute _ _) _ _
  have hlocked : ∀ e : Dev, P (e.restartLocked b start) = P e := fun e => by
    unfold Dev.restartLocked
    refine Dev.each_keeps P _ (fun k e => ?_) _ _
    split
    · extract_lets t
      split
      · rfl
      · exact hleg _ _ _
    · rfl
  unfold Dev.subStarted
  exact (Dev.startTriggers_keeps P hseq hfb hcap _ _).trans ((hlocked _).trans (hroutes _))

theorem Dev.subStarted_lane (d : Dev) (b j start : Nat) : (d.subStarted b j start).lane b = d.subLane b j start :=
  (Dev.subStarted_keeps (fun d => d.lane b) (fun _ _ => rfl) (fun _ _ _ => rfl) (fun _ _ => rfl) (fun _ _ => rfl) (fun _ _ => rfl) d b j start).trans
    ((Dev.clearFresh_keeps (fun d => d.lane b) (fun _ _ => rfl) _ _).trans (Dev.lane_setLane_same _ _ _))

theorem Dev.subStarted_mem (d : Dev) (b j start : Nat) :
    (d.subStarted b j start).mem = ((d.subOpened b j start).clearFresh b).mem :=
  Dev.subStarted_keeps Dev.mem (fun _ _ => rfl) (fun _ _ _ => rfl) (fun _ _ => rfl) (fun _ _ => rfl) (fun _ _ => rfl) d b j start

/-- The bytes outside the intake buffer stay as a sub-tick starts. -/
theorem Dev.subStarted_byte (d : Dev) (b j start : Nat) {x : Nat} (h : x < intakeBase b ∨ intakeBase b + 0x294 ≤ x) :
    (d.subStarted b j start).byte x = d.byte x := by
  have hbyte : (d.subStarted b j start).byte x = ((d.subOpened b j start).clearFresh b).byte x :=
    congrArg (fun m => Store.get unwrittenByte m x) (d.subStarted_mem b j start)
  rw [hbyte, Dev.clearFresh_byte h]
  exact Dev.subOpened_keeps (fun d => d.byte x) (fun _ _ _ => rfl) (fun _ _ _ => rfl) d b j start

theorem Dev.subStarted_fresh (d : Dev) (b j start : Nat) {w : Nat} (hw : w < 96)
    (h : (Store.get (fun _ => (0, 0)) d.intakeOld (intakeBase b + 4 * w)).1 ≠ d.now + 1) :
    bitOf ((d.subStarted b j start).loadN (intakeBase b + 4 * w) 4) 16 = false := by
  have hold : (d.subOpened b j start).intakeOld = d.intakeOld := Dev.subOpened_keeps Dev.intakeOld (fun _ _ _ => rfl) (fun _ _ _ => rfl) d b j start
  have hnow : (d.subOpened b j start).now = d.now := Dev.subOpened_keeps Dev.now (fun _ _ _ => rfl) (fun _ _ _ => rfl) d b j start
  rw [Dev.loadN_congr (d.subStarted_mem b j start)]
  exact Dev.clearFresh_fresh hw (by rw [hold, hnow]; exact h)

/-! ### The compute boundary -/

/-- The lane of a block in its compute phase (R60). -/
def Dev.laneComputing (d : Dev) (b : Nat) : Lane :=
  { d.lane b with
    phase := .compute, computeAt := d.boundaryAt b F.RGN_PHASE0_compute
    computeNs := BitVec.ofNat 64 (d.timeAtStep (32 * d.boundaryAt b F.RGN_PHASE0_compute) / 65536 % 2 ^ 64).toNat }

/-- The lane as it starts at its entry (R86). -/
def Dev.laneStarted (d : Dev) (b : Nat) : Lane :=
  { d.laneComputing b with mode := .run, pc := d.laneEntry b, issued := false, nextAt := d.now, completed := false }

/-- Whether the lane of a block starts at its compute boundary (R86). -/
def Dev.laneStarts (d : Dev) (b : Nat) : Bool := (d.lane b).mode == .done && d.laneWcet b != 0

def Dev.computing (d : Dev) (b : Nat) : Dev := d.setLane b (if d.laneStarts b then d.laneStarted b else d.laneComputing b)

def Dev.computed (d : Dev) (b : Nat) : Dev := if d.laneStarts b then (d.computing b).refCompute b else d.computing b

section
variable {b : BlockId} {s : State}

theorem exec_computeBoundary (hphase : (s.dev.lane b).phase = .intake) (hdue : s.dev.boundaryAt b F.RGN_PHASE0_compute ≤ s.dev.now) :
    exec (.computeBoundary b) s = .next ⟨(s.dev.computed b).boundaryTriggers b 0, s.pending⟩ :=
  congrArg s.done (if_pos (And.intro hphase hdue))

theorem exec_computeBoundary_other (h : (s.dev.lane b).phase ≠ .intake ∨ s.dev.now < s.dev.boundaryAt b F.RGN_PHASE0_compute) :
    exec (.computeBoundary b) s = .next s := by
  have hnot : ¬ ((s.dev.lane b).phase = .intake ∧ s.dev.boundaryAt b F.RGN_PHASE0_compute ≤ s.dev.now) :=
    fun hdue => h.elim (fun hne => hne hdue.1) fun hlt => Nat.not_le.mpr hlt hdue.2
  exact congrArg s.done (if_neg hnot)

end

section
variable (d : Dev) (b : Nat)

theorem Dev.computing_lane : (d.computing b).lane b = if d.laneStarts b then d.laneStarted b else d.laneComputing b := Dev.lane_setLane_same _ _ _

/-- The compute phase has begun, whatever the programs do (R60). -/
theorem Dev.computed_phase : ((d.computed b).lane b).phase = .compute ∧ ((d.computed b).lane b).computeAt = d.boundaryAt b F.RGN_PHASE0_compute := by
  have hkept : (d.computed b).place b = (d.computing b).place b := by
    unfold Dev.computed
    split
    · exact (d.computing b).place_refCompute b b
    · rfl
  have hbegun : ((d.computing b).lane b).phase = .compute ∧ ((d.computing b).lane b).computeAt = d.boundaryAt b F.RGN_PHASE0_compute := by
    rw [Dev.computing_lane]
    split <;> exact ⟨rfl, rfl⟩
  exact ⟨(Dev.place_phase hkept).trans hbegun.1, (Dev.place_computeAt hkept).trans hbegun.2⟩

theorem Dev.refCompute_noRef {d : Dev} {b : Nat} (h : d.isRef b = false) : d.refCompute b = d := by
  have hunits : d.refUnits b = [] := if_neg (by rw [h]; exact Bool.false_ne_true)
  rw [Dev.refCompute, hunits]
  rfl

/-- A lane without reference programs only begins its phase. -/
theorem Dev.computed_noRef {d : Dev} {b : Nat} (h : d.isRef b = false) : d.computed b = d.computing b := by
  have hsame : (d.computing b).isRef b = d.isRef b := rfl
  rw [Dev.computed, Dev.refCompute_noRef (hsame.trans h), ite_self]

end

/-! ### The exchange boundary -/

section
variable (b : Nat) (d : Dev)

theorem Lane.advance_place (l : Lane) (t : Nat) : (l.advance t).phase = l.phase ∧ (l.advance t).computeAt = l.computeAt := by
  unfold Lane.advance
  split
  · exact ⟨rfl, rfl⟩
  · split
    · split
      · split <;> exact ⟨rfl, rfl⟩
      · exact ⟨rfl, rfl⟩
    · exact ⟨rfl, rfl⟩

theorem Dev.place_release (c t : Nat) : (d.release c t).place b = d.place b := by
  obtain ⟨hphase, hcompute⟩ := Lane.advance_place { d.lane c with mode := .run, held := none } t
  exact Dev.place_setLane b d hphase hcompute

theorem Dev.place_hold (c : Nat) (x : Held) : (d.hold c x).place b = d.place b := Dev.place_setLane b d rfl rfl

theorem Dev.place_setFlags (c f : Nat) : (d.setFlags c f).place b = d.place b := by
  have hnote : ∀ e : Dev, (e.noteFlags c f).place b = e.place b := fun e => by
    unfold Dev.noteFlags
    extract_lets l old
    split
    · rfl
    · exact Dev.place_setLane b e rfl rfl
  unfold Dev.setFlags
  split
  · rfl
  · exact (hnote _).trans (d.place_orReg b _ _)

theorem Dev.place_exchRefused (c : Nat) (x : ExchOp) (n : Nat) : (d.exchRefused c x n).place b = d.place b := by
  have hfree : (d.setLane c { d.lane c with mode := .run, held := none }).place b = d.place b := Dev.place_setLane b d rfl rfl
  have hflag := Dev.place_setFlags b (d.setLane c { d.lane c with mode := .run, held := none }) c flagExchRef
  exact ((boundaryKept_place b).raise _ Ev.EXCH_REFUSED _ _ (by norm_num)).trans (hflag.trans hfree)

theorem Dev.place_exchEnd (c : Nat) : (d.exchEnd c).place b = d.place b :=
  (Dev.place_blockFault b _ c 2).trans ((boundaryKept_place b).raise _ _ _ _ (by norm_num))

theorem Dev.place_doPut (c : Nat) (x : ExchOp) (sealing : Bool) (data : List Word) : (d.doPut c x sealing data).place b = d.place b := by
  unfold Dev.doPut
  extract_lets n
  split
  · exact d.place_exchRefused b c x n
  · split
    · exact d.place_hold b c _
    · exact d.place_exchEnd b c

theorem Dev.place_doGet (c : Nat) (x : ExchOp) : (d.doGet c x).place b = d.place b := by
  unfold Dev.doGet
  extract_lets n
  split
  · exact d.place_exchRefused b c x n
  · split
    · exact d.place_hold b c _
    · exact d.place_exchEnd b c

theorem Dev.place_releaseExchange (c : Nat) : (d.releaseExchange c).place b = d.place b := by
  unfold Dev.releaseExchange
  split
  · exact d.place_release b c _
  · exact d.place_doPut b c _ _ _
  · exact d.place_doGet b c _
  · rfl

theorem Dev.place_releaseCommit (c : BlockId) : (d.releaseCommit c).place b = d.place b := by
  unfold Dev.releaseCommit
  split
  · exact d.place_release b c _
  · exact (Dev.place_release b _ c _).trans ((boundaryKept_place b).commitLeg d c _ _)
  · rfl

end

section
variable {d : Dev}

theorem Dev.releaseExchange_free {b : Nat} (h : (d.lane b).held = none) : d.releaseExchange b = d := by
  unfold Dev.releaseExchange
  rw [h]

theorem Dev.releaseExchange_waits {b : Nat} (h : (d.lane b).held = some (.phase .exchange)) : d.releaseExchange b = d.release b d.now := by
  unfold Dev.releaseExchange
  rw [h]

theorem Dev.releaseCommit_free {b : BlockId} (h : (d.lane b).held = none) : d.releaseCommit b = d := by
  unfold Dev.releaseCommit
  rw [h]

theorem Dev.releaseCommit_waits {b : BlockId} (h : (d.lane b).held = some (.phase .commit)) : d.releaseCommit b = d.release b d.now := by
  unfold Dev.releaseCommit
  rw [h]

/-- Faults and events write no RACK_STAT. -/
theorem rackStat_not_faultReg (r : Nat) : ¬ FaultReg (rgnReg r + F.RGN_RACK_STAT_slot.off) := by
  have hoff : F.RGN_RACK_STAT_slot.off = 0x3108 := rfl
  rw [hoff]
  rintro (h | ⟨u, hu, h1, h2⟩ | ⟨k, h1, h2⟩ | ⟨c, h1, h2⟩ | ⟨h1, h2⟩)
  · exact rgnReg_not_routerReg r 0x3108 (by norm_num) h
  · unfold rgnReg rgnBase at h1 h2
    unfold unitReg at h1 h2
    omega
  · unfold rgnReg rgnBase at h1 h2
    unfold legReg blkBase rgnBase at h1 h2
    omega
  · unfold rgnReg rgnBase at h1 h2
    unfold blkReg blkBase rgnBase at h1 h2
    omega
  · unfold rgnReg rgnBase at h1 h2
    omega

/-- A held COMMIT writes no memory. -/
theorem Dev.releaseCommit_mem (d : Dev) (b : BlockId) : (d.releaseCommit b).mem = d.mem := by
  unfold Dev.releaseCommit
  split
  · exact (d.release_frame b _).2.1
  · exact (Dev.release_frame _ b _).2.1.trans (boundaryKept_mem.commitLeg d b _ _)
  · rfl

/-- A held COMMIT changes no slot. -/
theorem Dev.releaseCommit_isRef (d : Dev) (b : BlockId) : (d.releaseCommit b).isRef b = d.isRef b := by
  have hrelease : ∀ (e : Dev) t, (e.release b t).isRef b = e.isRef b := fun _ _ => rfl
  have hkept : OrderKept (fun d => d.isRef b) := by
    refine ⟨fun _ _ _ => rfl, fun d e hf => ?_⟩
    have hslots : e.refSlots = d.refSlots := (congrArg Dev.refSlots hf.rest :)
    have hslot : e.activeSlot (b / 4) = d.activeSlot (b / 4) := by
      rw [Dev.activeSlot, Dev.fld, hf.reg _ (rackStat_not_faultReg _), Dev.activeSlot, Dev.fld]
    rw [Dev.isRef, hslots, hslot, Dev.isRef]
  unfold Dev.releaseCommit
  split
  · exact hrelease _ _
  · exact (hrelease _ _).trans (hkept.commitLeg d b _ _)
  · rfl

end

/-- The device with the lane of a block in another phase. -/
def Dev.inPhase (d : Dev) (b : Nat) (p : Phase) : Dev := d.setLane b { d.lane b with phase := p }

theorem Dev.inPhase_lane (d : Dev) (b : Nat) (p : Phase) : (d.inPhase b p).lane b = { d.lane b with phase := p } := Dev.lane_setLane_same _ _ _

section
variable {b : BlockId} {s : State}

theorem exec_exchangeBoundary (hphase : (s.dev.lane b).phase = .compute) (hdue : s.dev.boundaryAt b F.RGN_PHASE0_exchange ≤ s.dev.now) :
    exec (.phaseBoundary b false) s =
      .next ⟨(((s.dev.inPhase b .exchange).clearReady b).releaseExchange b).boundaryTriggers b 1, s.pending⟩ :=
  congrArg s.done (if_pos (And.intro hphase hdue))

theorem exec_exchangeBoundary_other (h : (s.dev.lane b).phase ≠ .compute ∨ s.dev.now < s.dev.boundaryAt b F.RGN_PHASE0_exchange) :
    exec (.phaseBoundary b false) s = .next s := by
  have hnot : ¬ ((s.dev.lane b).phase = .compute ∧ s.dev.boundaryAt b F.RGN_PHASE0_exchange ≤ s.dev.now) :=
    fun hdue => h.elim (fun hne => hne hdue.1) fun hlt => Nat.not_le.mpr hlt hdue.2
  exact congrArg s.done (if_neg hnot)

theorem exec_commitBoundary (hphase : (s.dev.lane b).phase = .exchange) (hdue : s.dev.boundaryAt b F.RGN_PHASE1_commit ≤ s.dev.now) :
    exec (.phaseBoundary b true) s = .next ⟨(((s.dev.inPhase b .commit).releaseCommit b).refCommit b).boundaryTriggers b 2, s.pending⟩ :=
  congrArg s.done (if_pos (And.intro hphase hdue))

theorem exec_commitBoundary_other (h : (s.dev.lane b).phase ≠ .exchange ∨ s.dev.now < s.dev.boundaryAt b F.RGN_PHASE1_commit) :
    exec (.phaseBoundary b true) s = .next s := by
  have hnot : ¬ ((s.dev.lane b).phase = .exchange ∧ s.dev.boundaryAt b F.RGN_PHASE1_commit ≤ s.dev.now) :=
    fun hdue => h.elim (fun hne => hne hdue.1) fun hlt => Nat.not_le.mpr hlt hdue.2
  exact congrArg s.done (if_neg hnot)

end

/-! ### The commit boundary of a lane with reference programs -/

/-- The loops and records of one unit at the commit boundary of its lead lane (R224, R228, R421). -/
theorem Dev.place_unitCommit (b : Nat) (d : Dev) (c u : Nat) :
    (((if isTraction (d.unitClass u) then d.tractionControl c u else d).progStatus c u).progThermal c u).place b = d.place b := by
  refine (Dev.place_progThermal b _ c u).trans ((Dev.place_progStatus b _ c u).trans ?_)
  split
  · exact d.place_tractionControl b c u
  · rfl

/-- It completes its sub-tick, in the phase it is in (R63). -/
theorem Dev.refCommit_completes {d : Dev} {b : Nat} (href : d.isRef b = true) (hrun : (d.lane b).mode = .run) :
    ((d.refCommit b).lane b).phase = (d.lane b).phase ∧ ((d.refCommit b).lane b).mode = .done ∧ ((d.refCommit b).lane b).completed = true := by
  have hcond : (d.isRef b && (d.lane b).mode == .run) = true := by rw [href, hrun]; rfl
  unfold Dev.refCommit
  rw [if_pos hcond]
  extract_lets d1 d2
  have hd1 : d1.place b = d.place b := Dev.each_keeps (Dev.place b) _ (fun u e => e.place_unitCommit b b u) _ _
  have hd2 : d2.place b = d1.place b := by
    refine Dev.each_keeps (Dev.place b) _ (fun k e => ?_) _ _
    split
    · rfl
    · split
      · exact (boundaryKept_place b).commitLeg e _ _ _
      · rfl
  obtain ⟨hlane, -⟩ := d2.laneComplete_spec b
  rw [hlane]
  exact ⟨Dev.place_phase (hd2.trans hd1), rfl, rfl⟩

theorem Dev.refCommit_noRef {d : Dev} {b : Nat} (h : d.isRef b = false) : d.refCommit b = d :=
  if_neg (by rw [h]; exact Bool.false_ne_true)

/-! ### What the boundaries show of a lane without reference programs -/

section
variable {d : Dev} {b : BlockId}

/-- The exchange phase has begun, whatever is released (R60). -/
theorem Dev.exchanged_phase : ((((d.inPhase b .exchange).clearReady b).releaseExchange b).lane b).phase = .exchange := by
  have hbegun : ((d.inPhase b .exchange).clearReady b).place b = (d.inPhase b .exchange).place b := rfl
  exact (Dev.place_phase ((Dev.place_releaseExchange b _ b).trans hbegun)).trans (congrArg Lane.phase (d.inPhase_lane b .exchange))

theorem Dev.committing_phase : (((d.inPhase b .commit).releaseCommit b).lane b).phase = .commit :=
  (Dev.place_phase (Dev.place_releaseCommit b _ b)).trans (congrArg Lane.phase (d.inPhase_lane b .commit))

theorem Dev.exchanging_lane : (((d.inPhase b .exchange).clearReady b).lane b) = { d.lane b with phase := .exchange } := d.inPhase_lane b .exchange

/-- A lane that waits for nothing goes on as it was (R60). -/
theorem Dev.exchanged_free (h : (d.lane b).held = none) :
    ((d.inPhase b .exchange).clearReady b).releaseExchange b = (d.inPhase b .exchange).clearReady b :=
  Dev.releaseExchange_free ((congrArg Lane.held Dev.exchanging_lane :).trans h)

/-- A lane that waits for the exchange phase runs again (R62). -/
theorem Dev.exchanged_waits (h : (d.lane b).held = some (.phase .exchange)) :
    ((d.inPhase b .exchange).clearReady b).releaseExchange b =
      ((d.inPhase b .exchange).clearReady b).release b ((d.inPhase b .exchange).clearReady b).now :=
  Dev.releaseExchange_waits ((congrArg Lane.held Dev.exchanging_lane :).trans h)

end

/-- Settles O22: each boundary in its time and before it, by what the lane waits for and by whether it runs reference programs. -/
theorem subTickPhases : Obligations.SubTickPhases := by
  unfold Obligations.SubTickPhases
  intro b s d l
  have hlane : ∀ (e : Dev) n, (e.boundaryTriggers b n).lane b = e.lane b := fun e n =>
    Dev.boundaryTriggers_keeps (fun d => d.lane b) (fun _ _ => rfl) e b n
  have hlegs : ∀ (e : Dev) n, (e.boundaryTriggers b n).legs = e.legs := fun e n => Dev.boundaryTriggers_keeps Dev.legs (fun _ _ => rfl) e b n
  have hmem : ∀ (e : Dev) n, (e.boundaryTriggers b n).mem = e.mem := fun e n => Dev.boundaryTriggers_keeps Dev.mem (fun _ _ => rfl) e b n
  have hregs : ∀ (e : Dev) n, (e.boundaryTriggers b n).regs = e.regs := fun e n => Dev.boundaryTriggers_keeps Dev.regs (fun _ _ => rfl) e b n
  refine ⟨fun j start hnext hdue => ?_, exec_subTickStart_none, fun j start => exec_subTickStart_early, fun hphase hdue href => ?_,
    fun hphase hdue => ?_, exec_computeBoundary_other, exec_exchangeBoundary_other, exec_commitBoundary_other,
    fun hphase hdue href hrun hfree => ?_, fun hphase hdue => ?_, fun hphase hdue href => ?_⟩
  · have hstart := d.subStarted_lane b j start
    exact ⟨_, exec_subTickStart hnext hdue, (congrArg Lane.phase hstart :), (congrArg Lane.subTick hstart :), (congrArg Lane.tickOf hstart :),
      (congrArg Lane.subStart hstart :), (congrArg Lane.mode hstart :), fun w hw hold => d.subStarted_fresh b j start hw hold,
      fun a ha => d.subStarted_byte b j start ha⟩
  · refine ⟨_, exec_computeBoundary hphase hdue, ?_⟩
    beta_reduce
    rw [hlane, hmem, hlegs, Dev.computed_noRef href, Dev.computing_lane]
    refine ⟨by split <;> rfl, rfl, rfl, fun hdone hwcet => ?_, fun hbusy => ?_⟩
    · have hstarts : d.laneStarts b = true := by
        rw [Dev.laneStarts, hdone]
        exact bne_iff_ne.mpr hwcet
      rw [if_pos hstarts]
      exact ⟨rfl, rfl, rfl, rfl⟩
    · have hstays : ¬ d.laneStarts b = true := fun hstarts => hbusy (beq_iff_eq.mp (Bool.and_eq_true_iff.mp hstarts).1)
      rw [if_neg hstays]
      exact ⟨rfl, rfl⟩
  · refine ⟨_, exec_computeBoundary hphase hdue, ?_⟩
    beta_reduce
    rw [hlane]
    exact d.computed_phase b
  · have hlane' : (d.inPhase b .commit).lane b = { d.lane b with phase := .commit } := d.inPhase_lane b .commit
    have hsame : (d.inPhase b .commit).releaseCommit b = d.inPhase b .commit := Dev.releaseCommit_free ((congrArg Lane.held hlane' :).trans hfree)
    obtain ⟨hcommit, hdone, hcompleted⟩ := Dev.refCommit_completes (d := d.inPhase b .commit) (b := b) href ((congrArg Lane.mode hlane' :).trans hrun)
    refine ⟨_, exec_commitBoundary hphase hdue, ?_⟩
    beta_reduce
    rw [hlane, hsame]
    exact ⟨hcommit.trans (congrArg Lane.phase hlane' :), hdone, hcompleted⟩
  · refine ⟨_, exec_exchangeBoundary hphase hdue, ?_⟩
    beta_reduce
    rw [hlane, hmem, hlegs, hregs]
    refine ⟨Dev.exchanged_phase, fun hfree => ?_, fun hwaits => ?_⟩
    · rw [Dev.exchanged_free hfree, Dev.exchanging_lane]
      exact ⟨rfl, rfl, rfl, rfl⟩
    · rw [Dev.exchanged_waits hwaits]
      obtain ⟨hrun, hfree, -⟩ := ((d.inPhase b .exchange).clearReady b).release_lane b ((d.inPhase b .exchange).clearReady b).now
      exact ⟨hrun, hfree, rfl, rfl, rfl⟩
  · have href' : ((d.inPhase b .commit).releaseCommit b).isRef b = false := (Dev.releaseCommit_isRef _ _).trans href
    have hlane' : (d.inPhase b .commit).lane b = { d.lane b with phase := .commit } := d.inPhase_lane b .commit
    refine ⟨_, exec_commitBoundary hphase hdue, ?_⟩
    beta_reduce
    rw [hlane, hmem, hlegs, hregs, Dev.refCommit_noRef href']
    refine ⟨Dev.committing_phase, Dev.releaseCommit_mem _ _, fun hfree => ?_, fun hwaits => ?_⟩
    · rw [Dev.releaseCommit_free ((congrArg Lane.held hlane' :).trans hfree), hlane']
      exact ⟨rfl, rfl, rfl⟩
    · rw [Dev.releaseCommit_waits ((congrArg Lane.held hlane' :).trans hwaits)]
      obtain ⟨hrun, hfree, -⟩ := (d.inPhase b .commit).release_lane b (d.inPhase b .commit).now
      exact ⟨hrun, hfree, rfl, rfl⟩

end Sys2Proof.Machine
end

section
/-! Proofs of the statements on the operations of the A slots (R87 to R96, R125, R128), with what each of their shared forms sends. -/

namespace Sys2Proof.Machine

/-! ### What an operation of a lane in RUN sends on its way -/

section
variable {ln : BlockId} {s : State}

/-- A lane in RUN does what its operation says. -/
theorem State.done_onRun (h : s.running ln) (f : Lane → Dev) : s.done (s.dev.onRun ln f) = .next ⟨f (s.dev.lane ln), s.pending⟩ :=
  congrArg (fun d => Host.Outcome.next (State.mk d s.pending)) (Dev.onRun_of_run h f)

/-- An operation that sends one write. -/
theorem State.done_sent (h : s.running ln) (slot lat : Nat) (dst : LaneDst) (v : Lane → LaneVal) (f : Lane → Nat) :
    s.done (s.dev.onRun ln (fun l => s.dev.laneWrite ln slot lat dst (v l) (f l))) =
      .next (s.sent ln slot lat dst (v (s.dev.lane ln)) (f (s.dev.lane ln))) := State.done_onRun h _

theorem State.alu_sent (h : s.running ln) (sl : ASlot) (lat : Nat) (gd : GReg) (f : Lane → Word × Nat) :
    s.alu ln sl lat gd f = .next (s.sent ln (aslotNum sl) lat (.g gd) (.word (f (s.dev.lane ln)).1) (f (s.dev.lane ln)).2) :=
  State.done_sent h _ _ _ (fun l => .word (f l).1) (fun l => (f l).2)

theorem State.aluAcc_sent (h : s.running ln) (sl : ASlot) (lat : Nat) (acc : AReg) (f : Lane → LaneVal) :
    s.aluAcc ln sl lat acc f = .next (s.sent ln (aslotNum sl) lat (.acc acc) (f (s.dev.lane ln)) 0) :=
  State.done_sent h _ _ _ f (fun _ => 0)

theorem State.aluVec_sent (h : s.running ln) (sl : ASlot) (lat : Nat) (md : VReg) (f : Lane → VecResult) :
    s.aluVec ln sl lat md f = .next (s.sent ln (aslotNum sl) lat (.vec md) (.vec (f (s.dev.lane ln)).m (f (s.dev.lane ln)).e)
      (f (s.dev.lane ln)).flags) :=
  State.done_sent h _ _ _ (fun l => .vec (f l).m (f l).e) (fun l => (f l).flags)

/-- A Q15 operation sends the exact value brought to the nearest limit, and sat where it lies outside (R88). -/
theorem State.aluQ_sent (h : s.running ln) (sl : ASlot) (lat : Nat) (gd : GReg) (f : Lane → Int × Bool) {x : Int}
    (hx : f (s.dev.lane ln) = satQ15 x) :
    s.aluQ ln sl lat gd f = .next (s.sent ln (aslotNum sl) lat (.g gd) (.word (BitVec.ofInt 32 (max (-0x8000) (min 0x7FFF x))))
      (if x < -0x8000 ∨ 0x7FFF < x then 1 else 0)) := by
  refine (State.alu_sent h sl lat gd _).trans ?_
  rw [hx, satQ15_eq]
  simp only [flagIf, flagSat, decide_eq_true_eq]
  rfl

end

/-! ### Words -/

theorem add_eq_ofNat (a b : Word) : a + b = BitVec.ofNat 32 (a.toNat + b.toNat) := by
  apply BitVec.eq_of_toNat_eq; simp

theorem add_signExtend_eq_ofInt (a : Word) (imm : BitVec 11) : a + imm.signExtend 32 = BitVec.ofInt 32 (a.toInt + imm.toInt) := by
  rw [BitVec.ofInt_add, BitVec.ofInt_toInt]; rfl

theorem sub_eq_ofInt (a b : Word) : a - b = BitVec.ofInt 32 ((a.toNat : Int) - b.toNat) := by
  apply BitVec.eq_of_toInt_eq
  rw [BitVec.toInt_sub, BitVec.toInt_ofInt, BitVec.toInt_eq_toNat_bmod, BitVec.toInt_eq_toNat_bmod]
  simp

theorem shiftLeft_eq_ofNat (a : Word) (n : Nat) : a <<< n = BitVec.ofNat 32 (a.toNat * 2 ^ n) := by
  apply BitVec.eq_of_toNat_eq
  rw [BitVec.toNat_shiftLeft, BitVec.toNat_ofNat, Nat.shiftLeft_eq]

theorem sshiftRight_eq_ofInt (a : Word) (n : Nat) : a.sshiftRight n = BitVec.ofInt 32 (a.toInt / 2 ^ n) := by
  rw [BitVec.sshiftRight, Int.shiftRight_eq_div_pow]; norm_cast

theorem append_low_eq_ofNat (k : BitVec 16) (w : Word) : k ++ w.setWidth 16 = BitVec.ofNat 32 (k.toNat * 65536 + w.toNat % 65536) := by
  apply BitVec.eq_of_toNat_eq
  have hk := k.isLt
  rw [BitVec.toNat_append, ← Nat.shiftLeft_add_eq_or_of_lt (BitVec.isLt _), Nat.shiftLeft_eq, BitVec.toNat_setWidth, BitVec.toNat_ofNat]
  omega

/-! ### Clamping to a step -/

/-- LIM and RAMP clamp to the magnitude of an operand, 0x7FFF for that of −0x8000 (R88, R128). -/
theorem clampInt_absQ15 (w : Word) (x : Int) :
    clampInt (-(absQ15 (q15 w)).1) (absQ15 (q15 w)).1 x = max (-min 0x7FFF |q15 w|) (min (min 0x7FFF |q15 w|) x) := by
  have h0 := abs_nonneg (q15 w)
  rw [absQ15_eq _ (q15_range w), clampInt_eq _ _ _ (by dsimp only; omega)]

theorem flagIf_absQ15 (w : Word) : flagIf (absQ15 (q15 w)).2 flagSat = if q15 w = -0x8000 then 1 else 0 := by
  rw [absQ15_eq _ (q15_range w)]
  simp [flagIf, flagSat]

/-- A value is changed by clamping to ±m where its magnitude is above m. -/
theorem clamp_ne_iff {m : Int} (hm : 0 ≤ m) (x : Int) : (x != max (-m) (min m x)) = decide (m < |x|) := by
  rw [Bool.eq_iff_iff, bne_iff_ne, decide_eq_true_eq]
  rcases abs_cases x with h | h <;> omega

theorem setWidth_eq_ofNat (k : BitVec 16) : k.setWidth 32 = BitVec.ofNat 32 k.toNat := by
  apply BitVec.eq_of_toNat_eq; simp

theorem absQ15_eq_satQ15 (x : Int) : absQ15 x = satQ15 |x| := by
  rw [absQ15]
  congr 1
  rcases abs_cases x with h | h
  · rw [if_neg (by omega), h.1]
  · rw [if_pos (by omega), h.1]

/-! ### Scalar and accumulator operations -/

/-- Settles O1: each operation is one of the shared forms above, with the word or the exact value it forms. -/
theorem laneScalarOps : Obligations.LaneScalarOps := by
  unfold Obligations.LaneScalarOps
  constructor
  · intro ln sl gd gs1 gs2 s h l a b gives
    have sends : ∀ f : Lane → Word × Nat, (f l).2 = 0 → s.alu ln sl 1 gd f = gives (f l).1 := fun f hf => by
      rw [State.alu_sent h, hf]
    refine ⟨?_, fun imm => ?_, ?_, sends _ rfl, sends _ rfl, sends _ rfl, fun n => ⟨?_, ?_⟩, ?_, ?_, fun k => ⟨?_, ?_⟩, sends _ rfl⟩
    · exact (sends _ rfl).trans (congrArg gives (add_eq_ofNat a b))
    · exact (sends _ rfl).trans (congrArg gives (add_signExtend_eq_ofInt a imm))
    · exact (sends _ rfl).trans (congrArg gives (sub_eq_ofInt a b))
    · exact (sends _ rfl).trans (congrArg gives (shiftLeft_eq_ofNat a _))
    · exact (sends _ rfl).trans (congrArg gives (sshiftRight_eq_ofInt a _))
    · exact (sends _ rfl).trans (congrArg gives (shiftLeft_eq_ofNat a _))
    · exact (sends _ rfl).trans (congrArg gives (sshiftRight_eq_ofInt a _))
    · exact (sends _ rfl).trans (congrArg gives (setWidth_eq_ofNat k))
    · exact (sends _ rfl).trans (congrArg gives (append_low_eq_ofNat k _))
  · intro ln sl gd gs1 gs2 s h l a b r gives limit step
    have limits : ∀ (lat : Nat) (f : Lane → Int × Bool) (x : Int), f l = satQ15 x → s.aluQ ln sl lat gd f = limit lat x := fun lat f x hx => by
      rw [State.aluQ_sent h sl lat gd f hx]
      simp only [limit, gives, decide_eq_true_eq]
    have hstep : 0 ≤ step := le_min (by norm_num) (abs_nonneg b)
    refine ⟨limits _ _ _ rfl, limits _ _ _ rfl, limits _ _ _ rfl, limits _ _ _ (absQ15_eq_satQ15 a),
      ⟨_, limits _ _ _ rfl, roundShift_spec (a * b) 15 (by norm_num)⟩, ?_, ?_⟩
    · refine (State.done_onRun h _).trans ?_
      dsimp only
      rw [clampInt_absQ15, flagIf_absQ15, clamp_ne_iff hstep]
      rfl
    · refine (State.alu_sent h sl 1 gd _).trans ?_
      dsimp only
      rw [clampInt_absQ15, flagIf_absQ15]
      simp only [gives, decide_eq_true_eq]
      rfl

/-! ### A product on its way (R89, R121, R122) -/

/-- Writes that are not yet due leave a lane as it is. -/
theorem Dev.settleLane_early {d : Dev} {b t : Nat} (h : ∀ w ∈ (d.lane b).writes, t < w.due) : d.settleLane b t = d := by
  have hdue : (d.lane b).writes.filter (fun w => decide (w.due ≤ t)) = [] :=
    List.filter_eq_nil_iff.mpr (fun w hw => by simpa using h w hw)
  rw [Dev.settleLane]
  simp only [hdue, List.isEmpty_nil, if_true]

/-- A noted flag leaves the registers and what the lane holds. -/
theorem Dev.noteFlags_reg (d : Dev) (b f a : Nat) : (d.noteFlags b f).reg a = d.reg a := by
  unfold Dev.noteFlags
  split <;> rfl

theorem Dev.noteFlags_acc (d : Dev) (b f : Nat) (acc : AReg) : ((d.noteFlags b f).lane b).ac acc = (d.lane b).ac acc := by
  unfold Dev.noteFlags
  dsimp only
  split
  · rfl
  · rw [Dev.lane_setLane_same]
    rfl

/-- A lane with the write put in its register. -/
def Lane.landed (l : Lane) (w : LaneWrite) : Lane := ({ l with writes := [] } : Lane).assign w.dst (w.finish l).1

/-- A write that lands alone is put in its register, and its flags into LANE_STATUS. -/
theorem Dev.settleLane_single {d : Dev} {b t : Nat} {w : LaneWrite} (h : (d.lane b).writes = [w]) (hlim : w.lim = none) (hdue : w.due ≤ t) :
    d.settleLane b t = ((d.setLane b ((d.lane b).landed w)).setReg (blkReg b + 0x20)
        (BitVec.ofNat 32 ((d.reg (blkReg b + 0x20)).toNat ||| w.flags.toNat ||| (w.finish (d.lane b)).2))).noteFlags b
      (0 ||| w.flags.toNat ||| (w.finish (d.lane b)).2) := by
  unfold Dev.settleLane
  simp only [h, List.filter_cons, hdue, decide_true, if_true, List.filter_nil, List.isEmpty_cons, Bool.false_eq_true, if_false,
    settleWrites, hlim, Bool.not_true, List.foldl_cons, List.foldl_nil, Lane.landed]

theorem LaneWrite.finish_product (due issue slot : Nat) (acc : AReg) (p : Int) (f : Word) (lim : Option Bool) (l : Lane) :
    LaneWrite.finish ⟨due, issue, slot, .acc acc, .addProduct p, f, lim⟩ l =
      (.acc (BitVec.ofInt 40 (satAcc (accInt (l.ac acc) + p)).1), flagIf (satAcc (accInt (l.ac acc) + p)).2 flagOvf) := rfl

theorem Lane.assign_acc (l : Lane) (acc : AReg) (a : Acc40) : (l.assign (.acc acc) (.acc a)).ac acc = a :=
  Store.get_set_same _ _ _ _

/-- A product that lands alone leaves the accumulator at the limited sum, and ovf set where the sum lies outside. -/
theorem Dev.settleLane_product {d : Dev} {b t due issue slot : Nat} {acc : AReg} {p : Int}
    (h : (d.lane b).writes = [⟨due, issue, slot, .acc acc, .addProduct p, 0, none⟩]) (hdue : due ≤ t) :
    ((d.settleLane b t).lane b).ac acc = BitVec.ofInt 40 (satAcc (accInt ((d.lane b).ac acc) + p)).1 ∧
      (d.settleLane b t).reg (blkReg b + 0x20) =
        BitVec.ofNat 32 ((d.reg (blkReg b + 0x20)).toNat ||| flagIf (satAcc (accInt ((d.lane b).ac acc) + p)).2 flagOvf) := by
  rw [Dev.settleLane_single h rfl hdue, Dev.noteFlags_acc, Dev.noteFlags_reg, Dev.setReg_lane, Dev.lane_setLane_same,
    Dev.reg_setReg_same, LaneWrite.finish_product, Lane.landed, LaneWrite.finish_product]
  exact ⟨Lane.assign_acc _ _ _, by rw [show (0 : Word).toNat = 0 from rfl, Nat.or_zero]⟩

/-- Settles O2: MAC and MSU send the product itself, which `Dev.settleLane_product` adds and limits when it lands. -/
theorem laneAccumulatorOps : Obligations.LaneAccumulatorOps := by
  unfold Obligations.LaneAccumulatorOps
  constructor
  · intro ln sl gd gs1 gs2 acc s h l p gives
    have sends : ∀ (lat : Nat) (f : Lane → LaneVal), s.aluAcc ln sl lat acc f = gives lat (f l) := fun lat f => State.aluAcc_sent h sl lat acc f
    exact ⟨sends _ _, sends _ _, sends _ _, sends _ _,
      fun sh => ⟨_, State.aluQ_sent h sl 1 gd _ rfl, roundShift_spec _ 15 (by norm_num)⟩⟩
  · intro ln sl gs1 gs2 acc sub s t h hwrites hexec p x
    have hsent : t = s.sent ln (aslotNum sl) 2 (.acc acc) (.addProduct (if sub then -p else p)) 0 := by
      cases sub
      · exact Host.Outcome.next.inj (hexec.symm.trans (State.aluAcc_sent h sl 2 acc _))
      · exact Host.Outcome.next.inj (hexec.symm.trans (State.aluAcc_sent h sl 2 acc _))
    have hlane : t.dev.lane ln = { s.dev.lane ln with writes :=
        [⟨s.dev.now + 2, s.dev.now, aslotNum sl, .acc acc, .addProduct (if sub then -p else p), 0, none⟩] } := by
      rw [hsent]
      refine (Dev.lane_setLane_same _ _ _).trans ?_
      rw [hwrites]
      rfl
    obtain ⟨hacc, hstat⟩ := Dev.settleLane_product (t := s.dev.now + 2) (congrArg Lane.writes hlane) le_rfl
    have hsum : accInt ((t.dev.lane ln).ac acc) + (if sub then -p else p) = x := by rw [hlane]; rfl
    rw [hsum, satAcc_eq] at hacc hstat
    refine ⟨congrArg (fun d => d.lane ln) (Dev.settleLane_early (by simp [hlane])), by rw [hlane]; rfl, ?_, fun hx => ?_⟩
    · rw [hacc, BitVec.toInt_ofInt_eq_self (by norm_num) (by norm_num) (by norm_num)]
    · rw [decide_eq_true hx] at hstat
      rw [hstat, bitOf_ofNat (show 1 < 32 by norm_num)]
      exact bitOf_or_pow _ 1

end Sys2Proof.Machine
end

section
/-! Proof of the statement on the model-class operations (R91 to R96): the elements of a vector as numbers, and their exponents. -/

namespace Sys2Proof.Machine

/-! ### Elements of a vector -/

/-- Element `i` of a vector of mantissas (R75, R91). -/
def elemAt (m : QWord) (i : Nat) : Int := signed 16 (m.toNat / 2 ^ (16 * i))

theorem signed_mod (v : Nat) : signed 16 (v % 2 ^ 16) = signed 16 v := by
  unfold signed; rw [Nat.mod_mod]

theorem vecElems_eq (m : QWord) : vecElems m = (List.range 8).map (elemAt m) :=
  List.map_congr_left (fun _ _ => signed_mod _)

theorem elemAt_range (m : QWord) (i : Nat) : -0x8000 ≤ elemAt m i ∧ elemAt m i ≤ 0x7FFF := signed16_range _

theorem signed_lowBits {x : Int} (h : -0x8000 ≤ x ∧ x ≤ 0x7FFF) : signed 16 (lowBits 16 x) = x := by
  unfold signed lowBits; norm_num; split <;> omega

theorem lowBits_lt (x : Int) : lowBits 16 x < 65536 := by
  unfold lowBits; norm_num; omega

theorem lowBits_signed (v : Nat) : lowBits 16 (signed 16 v) = v % 65536 := by
  unfold signed lowBits; norm_num; split <;> omega

theorem vecPack_lt (l : List Int) : vecPack l < 2 ^ (16 * l.length) := by
  induction l with
  | nil => exact Nat.one_pos
  | cons x t ih =>
    have hx := lowBits_lt x
    rw [vecPack, List.length_cons, Nat.mul_succ, pow_add]
    omega

/-- The packed elements are found where they were put. -/
theorem vecPack_elem {l : List Int} {i : Nat} (hi : i < l.length) : vecPack l / 2 ^ (16 * i) % 2 ^ 16 = lowBits 16 l[i] := by
  induction l generalizing i with
  | nil => exact absurd hi (Nat.not_lt_zero _)
  | cons x t ih =>
    have hx := lowBits_lt x
    cases i with
    | zero => simp only [vecPack, List.getElem_cons_zero]; omega
    | succ j =>
      rw [vecPack, Nat.mul_succ, Nat.add_comm (16 * j), pow_add, ← Nat.div_div_eq_div_mul]
      have hdiv : (lowBits 16 x + 65536 * vecPack t) / 2 ^ 16 = vecPack t := by omega
      rw [hdiv]
      exact ih (by simpa using hi)

/-- A vector packed of eight elements in range has these elements. -/
theorem elemAt_vecPack {f : Nat → Int} (hf : ∀ i < 8, -0x8000 ≤ f i ∧ f i ≤ 0x7FFF) {i : Nat} (hi : i < 8) :
    elemAt (BitVec.ofNat 128 (vecPack ((List.range 8).map f))) i = f i := by
  have hlt := vecPack_lt ((List.range 8).map f)
  rw [List.length_map, List.length_range] at hlt
  rw [elemAt, BitVec.toNat_ofNat, Nat.mod_eq_of_lt hlt, ← signed_mod, vecPack_elem (by simpa using hi), List.getElem_map, List.getElem_range,
    signed_lowBits (hf i hi)]

/-- The elements of a number pack to its low bits. -/
theorem vecPack_signed (n k : Nat) : vecPack ((List.range k).map (fun i => signed 16 (n / 2 ^ (16 * i)))) = n % 2 ^ (16 * k) := by
  induction k generalizing n with
  | zero => simp [vecPack, Nat.mod_one]
  | succ k ih =>
    rw [List.range_succ_eq_map, List.map_cons, List.map_map, vecPack, lowBits_signed]
    have htail : ((fun i => signed 16 (n / 2 ^ (16 * i))) ∘ Nat.succ) = fun i => signed 16 (n / 2 ^ 16 / 2 ^ (16 * i)) := by
      funext i
      rw [Function.comp_apply, Nat.div_div_eq_div_mul, ← pow_add, Nat.mul_succ, Nat.add_comm]
    rw [htail, ih, Nat.mul_succ, Nat.add_comm (16 * k), pow_add, Nat.mod_mul]
    simp

/-- A vector is what its elements pack to. -/
theorem vecPack_vecElems (m : QWord) : BitVec.ofNat 128 (vecPack (vecElems m)) = m := by
  rw [vecElems_eq, show elemAt m = fun i => signed 16 (m.toNat / 2 ^ (16 * i)) from rfl, vecPack_signed]
  apply BitVec.eq_of_toNat_eq
  rw [BitVec.toNat_ofNat, Nat.mod_mod, Nat.mod_eq_of_lt m.isLt]

/-! ### Exponents and rounding -/

/-- Within the limits of R95 a result keeps its mantissas and its exponent. -/
theorem limitExp_inside {e : Int} (ms : List Int) (h : -128 ≤ e) (h' : e ≤ 127) :
    limitExp ms e = ⟨BitVec.ofNat 128 (vecPack ms), BitVec.ofInt 8 e, 0⟩ := by
  rw [limitExp, if_neg (by omega), if_neg (by omega)]

theorem byte_exp_range (e : Byte) : -128 ≤ e.toInt ∧ e.toInt ≤ 127 := by
  have h1 := BitVec.le_toInt e
  have h2 := BitVec.toInt_lt (x := e)
  norm_num at h1 h2
  omega

theorem toInt_ofInt_exp {e : Int} (h : -128 ≤ e) (h' : e ≤ 127) : (BitVec.ofInt 8 e).toInt = e :=
  BitVec.toInt_ofInt_eq_self (by norm_num) (by norm_num; omega) (by norm_num; omega)

/-- A value between two multiples rounds to a number between them. -/
theorem roundShift_between {x a b : Int} {n : Nat} (hn : 0 < n) (ha : a * 2 ^ n ≤ x) (hb : x ≤ b * 2 ^ n) :
    a ≤ roundShift x n ∧ roundShift x n ≤ b := by
  obtain ⟨hnear, -⟩ := roundShift_spec x n hn
  have hp : (0 : Int) < 2 ^ n := by positivity
  generalize roundShift x n = q at *
  obtain ⟨hlo, hhi⟩ := abs_le.mp (show |x - q * 2 ^ n| ≤ 2 ^ n - 1 by omega)
  constructor
  · by_contra hlt
    nlinarith [show q + 1 ≤ a by omega]
  · by_contra hlt
    nlinarith [show b + 1 ≤ q by omega]

/-- Products of which none is the square of −1 are rounded once to mantissas, where the exponent is within its limits (R94). -/
theorem vecScale_inside {ps : List Int} {e : Int} (hps : ∀ p ∈ ps, p ≠ 1073741824) (h : -128 ≤ e) (h' : e ≤ 127) :
    vecScale ps e = ⟨BitVec.ofNat 128 (vecPack (ps.map (fun p => roundShift p 15))), BitVec.ofInt 8 e, 0⟩ := by
  have hone : ps.any (fun p => p == 1073741824) = false := by
    rw [List.any_eq_false]
    exact fun p hp => by simpa using hps p hp
  rw [vecScale]
  simp only [hone, Bool.false_eq_true, if_false]
  rw [if_neg (by omega), limitExp_inside _ h h']

/-- A product of mantissas of which one is not −1 rounds to a mantissa. -/
theorem product_range {x y : Int} (hx : -0x8000 ≤ x ∧ x ≤ 0x7FFF) (hy : -0x8000 ≤ y ∧ y ≤ 0x7FFF) (hne : y ≠ -0x8000) :
    x * y ≠ 1073741824 ∧ -0x8000 ≤ roundShift (x * y) 15 ∧ roundShift (x * y) 15 ≤ 0x7FFF := by
  have habs : |x * y| ≤ 0x8000 * 0x7FFF := by
    rw [abs_mul]
    exact mul_le_mul (abs_le.mpr (by omega)) (abs_le.mpr (by omega)) (abs_nonneg y) (by norm_num)
  obtain ⟨hlo, hhi⟩ := abs_le.mp habs
  have hround := roundShift_between (x := x * y) (a := -0x7FFF) (b := 0x7FFF) (n := 15) (by norm_num) (by omega) (by omega)
  omega

/-! ### The operations -/

/-- Element by element, the sum or the difference of two vectors. -/
def elemSum (m1 m2 : QWord) (sub : Bool) (i : Nat) : Int := if sub then elemAt m1 i - elemAt m2 i else elemAt m1 i + elemAt m2 i

/-- Equal exponents leave every mantissa where it is, and sums in range need no shift (R93). -/
theorem vecAdd_inside {m1 m2 : QWord} {e1 e2 : Byte} {sub : Bool} (he : e1 = e2)
    (h : ∀ i < 8, -0x8000 ≤ elemSum m1 m2 sub i ∧ elemSum m1 m2 sub i ≤ 0x7FFF) :
    let r := vecAdd m1 e1 m2 e2 sub
    r.flags = 0 ∧ r.e = e1 ∧ ∀ i < 8, elemAt r.m i = elemSum m1 m2 sub i := by
  have hstay : ∀ x : Int, alignRight x 0 = x := fun _ => rfl
  have hsat : ((List.range 8).map (elemSum m1 m2 sub)).any (fun x => (satQ15 x).2) = false := by
    rw [List.any_eq_false]
    intro x hx
    obtain ⟨i, hi, rfl⟩ := List.mem_map.mp hx
    have hi := h i (List.mem_range.mp hi)
    rw [satQ15_eq, decide_eq_true_eq]
    omega
  obtain ⟨hlo, hhi⟩ := byte_exp_range e1
  have hadd : vecAdd m1 e1 m2 e2 sub = ⟨BitVec.ofNat 128 (vecPack ((List.range 8).map (elemSum m1 m2 sub))), e1, 0⟩ := by
    subst he
    rw [vecAdd]
    simp only [max_self, sub_self, Int.toNat_zero, hstay, List.map_id', vecElems_eq, List.zipWith_map, List.zipWith_self]
    rw [show (fun i => if sub = true then elemAt m1 i - elemAt m2 i else elemAt m1 i + elemAt m2 i) = elemSum m1 m2 sub from rfl,
      hsat, limitExp_inside _ hlo hhi, BitVec.ofInt_toInt]
    rfl
  rw [hadd]
  exact ⟨rfl, rfl, fun i hi => elemAt_vecPack h hi⟩

/-- Products of mantissas, each rounded once (R94). -/
theorem vecScale_elems {f : Nat → Int} {e : Int} (hf : ∀ i < 8, f i ≠ 1073741824 ∧ -0x8000 ≤ roundShift (f i) 15 ∧ roundShift (f i) 15 ≤ 0x7FFF)
    (h : -128 ≤ e) (h' : e ≤ 127) :
    let r := vecScale ((List.range 8).map f) e
    r.flags = 0 ∧ r.e.toInt = e ∧ ∀ i < 8, elemAt r.m i = roundShift (f i) 15 := by
  have hps : ∀ p ∈ (List.range 8).map f, p ≠ 1073741824 := fun p hp => by
    obtain ⟨i, hi, rfl⟩ := List.mem_map.mp hp
    exact (hf i (List.mem_range.mp hi)).1
  rw [vecScale_inside hps h h', List.map_map]
  exact ⟨rfl, toInt_ofInt_exp h h', fun i hi => elemAt_vecPack (f := (fun p => roundShift p 15) ∘ f) (fun j hj => (hf j hj).2) hi⟩

theorem vecMul_eq (m1 m2 : QWord) (e1 e2 : Byte) :
    vecMul m1 e1 m2 e2 = vecScale ((List.range 8).map (fun i => elemAt m1 i * elemAt m2 i)) (e1.toInt + e2.toInt) := by
  rw [vecMul, vecElems_eq, vecElems_eq, List.zipWith_map, List.zipWith_self]

theorem vecScalar_eq (m : QWord) (e : Byte) (q : Int) :
    vecScalar m e q = vecScale ((List.range 8).map (fun i => elemAt m i * q)) e.toInt := by
  rw [vecScalar, vecElems_eq, List.map_map]
  rfl

/-- A vector of zeros is given the least exponent (R92). -/
theorem vecNorm_zero {m : QWord} (h : m = 0) (e : Byte) :
    (vecNorm m e).m = 0 ∧ (vecNorm m e).e.toInt = -128 ∧ (vecNorm m e).flags = 0 := by
  have hzero : vecMax (vecElems 0) = 0 := by decide
  have hnorm : vecNorm 0 e = ⟨0, BitVec.ofInt 8 (-128), 0⟩ := by
    rw [vecNorm]
    simp only [hzero, if_true]
  rw [h, hnorm]
  exact ⟨rfl, rfl, rfl⟩

/-- A scaled vector keeps its mantissas where its exponent stays within the limits (R95). -/
theorem limitExp_vecElems (m : QWord) {e : Int} (h : -128 ≤ e) (h' : e ≤ 127) :
    let r := limitExp (vecElems m) e
    r.m = m ∧ r.e.toInt = e ∧ r.flags = 0 := by
  rw [limitExp_inside _ h h']
  exact ⟨vecPack_vecElems m, toInt_ofInt_exp h h', rfl⟩

/-- The exact value that VTOQ saturates: the element shifted by its exponent (R96). -/
def vecShifted (m : QWord) (e : Byte) (i : Nat) : Int :=
  if e.toInt < 0 then roundShift (elemAt m i) (-e.toInt).toNat else elemAt m i * 2 ^ e.toInt.toNat

theorem vecToQ_eq (m : QWord) (e : Byte) (i : Nat) : vecToQ m e i = satQ15 (vecShifted m e i) := by
  have hel : signed 16 (bitsOf m.toNat (16 * i) 16) = elemAt m i := signed_mod _
  rw [vecToQ, vecShifted, hel]
  split <;> rfl

/-- A Q15 value placed at one element (R96). -/
theorem elemAt_placed (w : Word) {i j : Nat} (hi : i < 8) (hj : j < 8) :
    elemAt (BitVec.ofNat 128 (w.toNat % 65536 * 2 ^ (16 * i))) j = if j = i then q15 w else 0 := by
  have hlt : w.toNat % 65536 * 2 ^ (16 * i) < 2 ^ 128 := by
    calc w.toNat % 65536 * 2 ^ (16 * i) < 2 ^ 16 * 2 ^ (16 * i) := by
          exact Nat.mul_lt_mul_of_pos_right (Nat.mod_lt _ (by norm_num)) (by positivity)
      _ = 2 ^ (16 + 16 * i) := (pow_add _ _ _).symm
      _ ≤ 2 ^ 128 := Nat.pow_le_pow_right (by norm_num) (by omega)
  rw [elemAt, BitVec.toNat_ofNat, Nat.mod_eq_of_lt hlt]
  rcases lt_trichotomy j i with h | rfl | h
  · obtain ⟨n, rfl⟩ := Nat.exists_eq_add_of_lt h
    have hdiv : w.toNat % 65536 * 2 ^ (16 * (j + n + 1)) / 2 ^ (16 * j) = w.toNat % 65536 * 2 ^ (16 * n) * 65536 := by
      rw [show 16 * (j + n + 1) = 16 * n + 16 + 16 * j by omega, pow_add, pow_add, ← mul_assoc, Nat.mul_div_cancel _ (by positivity), mul_assoc]
      norm_num [mul_assoc]
    rw [hdiv, ← signed_mod, if_neg (by omega)]
    simp [signed]
  · rw [Nat.mul_div_cancel _ (by positivity), if_pos rfl]
    exact signed_mod _
  · obtain ⟨n, rfl⟩ := Nat.exists_eq_add_of_lt h
    have hdiv : w.toNat % 65536 * 2 ^ (16 * i) / 2 ^ (16 * (i + n + 1)) = 0 := by
      apply Nat.div_eq_of_lt
      calc w.toNat % 65536 * 2 ^ (16 * i) < 2 ^ 16 * 2 ^ (16 * i) :=
            Nat.mul_lt_mul_of_pos_right (Nat.mod_lt _ (by norm_num)) (by positivity)
        _ = 2 ^ (16 + 16 * i) := (pow_add _ _ _).symm
        _ ≤ _ := Nat.pow_le_pow_right (by norm_num) (by omega)
    rw [hdiv, if_neg (by omega)]
    rfl

/-- Settles O4: each operation sends the vector its function forms, whose elements and exponent the lemmas above give. -/
theorem laneVectorOps : Obligations.LaneVectorOps := by
  unfold Obligations.LaneVectorOps
  intro ln sl gd gs md ms1 ms2 sub s h l m1 m2 e1 e2 el sum gives
  obtain ⟨hlo, hhi⟩ := byte_exp_range e1
  refine ⟨⟨_, State.aluVec_sent h sl 2 md _, fun he hsum => vecAdd_inside he hsum⟩,
    ⟨_, State.aluVec_sent h sl 2 md _, fun hne hlo hhi => ?_⟩,
    ⟨_, State.aluVec_sent h sl 2 md _, fun hne => ?_⟩,
    ⟨_, State.aluVec_sent h sl 3 md _, fun hzero => vecNorm_zero hzero _⟩,
    fun imm => ⟨_, State.aluVec_sent h sl 1 md _, fun hlo hhi => limitExp_vecElems m1 hlo hhi⟩,
    fun i => ⟨⟨vecShifted m1 e1 i.toNat, State.aluQ_sent h sl 1 gd _ (vecToQ_eq _ _ _), fun hpos => ?_, fun hneg => ?_⟩,
      _, State.aluVec_sent h sl 1 md _, rfl, rfl, fun j hj => elemAt_placed _ i.isLt hj⟩⟩
  · have hscale := vecScale_elems (f := fun i => elemAt m1 i * elemAt m2 i)
      (fun i hi => mul_comm (elemAt m2 i) (elemAt m1 i) ▸ product_range (elemAt_range m2 i) (elemAt_range m1 i) (hne i hi)) hlo hhi
    rwa [← vecMul_eq] at hscale
  · have hscale := vecScale_elems (f := fun i => elemAt m1 i * q15 (l.gr gs))
      (fun i _ => product_range (elemAt_range m1 i) (q15_range (l.gr gs)) hne) hlo hhi
    rw [← vecScalar_eq] at hscale
    obtain ⟨hflags, hexp, hel⟩ := hscale
    exact ⟨hflags, BitVec.eq_of_toInt_eq hexp, hel⟩
  · exact if_neg (by omega)
  · exact if_pos hneg

end Sys2Proof.Machine
end

section
/-! Proofs of the statements on loads, stores and tables (R79 to R81, R110 to R113, R129, R130): what an admitted access reads or writes,
and what a refused one leaves. -/

namespace Sys2Proof.Machine

/-- The answer of an operation that sends one write, and of one that sends two. -/
theorem State.next_sent (s : State) (ln : BlockId) (slot lat : Nat) (dst : LaneDst) (v : LaneVal) :
    (.next ⟨s.dev.laneWrite ln slot lat dst v 0, s.pending⟩ : Host.Outcome State Fault Refusal) = .next (s.sent ln slot lat dst v 0) := rfl

theorem State.next_sent_sent (s : State) (ln : BlockId) (slot lat : Nat) (dst dst' : LaneDst) (v v' : LaneVal) :
    (.next ⟨(s.dev.laneWrite ln slot lat dst v 0).laneWrite ln slot lat dst' v' 0, s.pending⟩ : Host.Outcome State Fault Refusal) =
      .next ((s.sent ln slot lat dst v 0).sent ln slot lat dst' v' 0) := rfl

/-! ### Loads -/

section
variable (d : Dev) (b a n : Nat)

/-- The port a lane access uses is all that it changes by itself (R22). -/
theorem Dev.useLanePort_eq : ∃ x, d.useLanePort b a = { d with portAt := x } := by
  unfold Dev.useLanePort
  split <;> exact ⟨_, rfl⟩

theorem Dev.laneBytes_portAt (x : Store Nat) : ({ d with portAt := x } : Dev).laneBytes b a n = d.laneBytes b a n := by
  induction n generalizing a with
  | zero => rfl
  | succ n ih => rw [Dev.laneBytes, Dev.laneBytes, ih]; rfl

variable (use : Dev → Nat → Dev)

/-- A load that is admitted and meets no bad word. -/
theorem Dev.laneLoad_goes (h : d.mayLoad b a n = true) (hbad : d.badIn b a n = none) :
    d.laneLoad b a n use = use (d.useLanePort b a) (d.laneBytes b a n) := by
  unfold Dev.laneLoad
  obtain ⟨x, hx⟩ := d.useLanePort_eq b a
  rw [hx]
  have h1 : ({ d with portAt := x } : Dev).mayLoad b a n = true := h
  have h2 : ({ d with portAt := x } : Dev).badIn b a n = none := hbad
  simp only [h1, h2, if_true, Dev.laneBytes_portAt]

/-- A load that meets a bad word (R432, R436). -/
theorem Dev.laneLoad_bad {y : Nat} (h : d.mayLoad b a n = true) (hbad : d.badIn b a n = some y) :
    d.laneLoad b a n use = (d.useLanePort b a).uncorrectable y := by
  unfold Dev.laneLoad
  obtain ⟨x, hx⟩ := d.useLanePort_eq b a
  rw [hx]
  have h1 : ({ d with portAt := x } : Dev).mayLoad b a n = true := h
  have h2 : ({ d with portAt := x } : Dev).badIn b a n = some y := hbad
  simp only [h1, h2, if_true]

/-- A load that the map refuses (R80). -/
theorem Dev.laneLoad_refused (h : d.mayLoad b a n = false) :
    d.laneLoad b a n use = use ((d.useLanePort b a).laneAddrRefused b a) 0 := by
  unfold Dev.laneLoad
  obtain ⟨x, hx⟩ := d.useLanePort_eq b a
  rw [hx]
  have h1 : ({ d with portAt := x } : Dev).mayLoad b a n = false := h
  simp only [h1, Bool.false_eq_true, if_false]

theorem Dev.useLanePort_lane : (d.useLanePort b a).lane b = d.lane b := by
  obtain ⟨x, hx⟩ := d.useLanePort_eq b a
  rw [hx]
  rfl

end

/-- In data memory a lane reads the bytes of its block (R79). -/
theorem Dev.laneBytes_data (d : Dev) (b a n : Nat) (h : a + n ≤ 0x40000) : d.laneBytes b a n = d.loadN (blkBase b + 0x40000 + a) n := by
  induction n generalizing a with
  | zero => rfl
  | succ n ih =>
    have harea : d.laneArea b a = .data (blkBase b + 0x40000 + a) := if_pos (by omega)
    rw [Dev.laneBytes, ih (a + 1) (by omega), harea]
    rfl

section
variable {ln : BlockId} {gd gs1 : GReg} {md : VReg} {imm : BitVec 11} {size : BitVec 3} {s : State}

theorem exec_ld (h : s.running ln) {n : Nat} (hsize : sizeBytes size = some n) :
    exec (.ld ln gd gs1 imm size) s = .next ⟨s.dev.laneLoad ln ((s.dev.lane ln).address gs1 imm n) n
      (fun d v => d.laneWrite ln 2 2 (.g gd) (.word (extendLoad size v)) 0), s.pending⟩ := by
  refine (State.done_onRun h _).trans ?_
  rw [hsize]

theorem exec_ldp (h : s.running ln) :
    exec (.ldp ln gd gs1 imm) s = .next ⟨s.dev.laneLoad ln ((s.dev.lane ln).address gs1 imm 8) 8 (fun d v =>
      (d.laneWrite ln 2 2 (.g (pairBase gd)) (.word (BitVec.ofNat 32 v)) 0).laneWrite ln 2 2
        (.g (regPlus (pairBase gd) 1)) (.word (BitVec.ofNat 32 (v / 2 ^ 32))) 0), s.pending⟩ := State.done_onRun h _

theorem exec_vld (h : s.running ln) :
    exec (.vld ln md gs1 imm) s = .next ⟨s.dev.laneLoad ln ((s.dev.lane ln).address gs1 imm 32) 32 (fun d v =>
      d.laneWrite ln 2 2 (.vec md) (.vec (BitVec.ofNat 128 v) (BitVec.ofNat 8 (v / 2 ^ 128))) 0), s.pending⟩ := State.done_onRun h _

/-- A refused load sends 0, whatever its size. -/
theorem extendLoad_zero (size : BitVec 3) : extendLoad size 0 = 0 := by
  revert size; decide

end

/-- Settles O5: by `Dev.laneLoad_goes`, `Dev.laneLoad_bad` and `Dev.laneLoad_refused`, with the port and the map of `Dev.laneLoad`. -/
theorem laneLoads : Obligations.LaneLoads := by
  unfold Obligations.LaneLoads
  intro ln gd gs1 md imm size s h d l goes v used refused
  have loads : ∀ n w, sizeBytes size = some n → goes n → extendLoad size (v n) = w →
      exec (.ld ln gd gs1 imm size) s = .next ((used n).sent ln 2 2 (.g gd) (.word w) 0) := by
    rintro n w hsize ⟨hmay, hbad⟩ rfl
    rw [exec_ld h hsize, Dev.laneLoad_goes _ _ _ _ _ hmay hbad]
    exact (used n).next_sent _ _ _ _ _
  have refuse : ∀ n, (d.useLanePort ln (l.address gs1 imm n)).laneAddrRefused ln (l.address gs1 imm n) = (refused n).dev := fun n => by
    rw [Dev.laneAddrRefused, Dev.useLanePort_lane]
  refine ⟨?_, ?_, ?_, ?_, ?_, ?_, ?_, ?_, ?_, ?_, ?_, fun n a => d.laneBytes_data ln a n⟩
  · rintro ⟨rfl, hgo⟩
    exact loads 1 _ rfl hgo rfl
  · rintro ⟨rfl, hgo⟩
    exact loads 1 _ rfl hgo rfl
  · rintro ⟨rfl, hgo⟩
    exact loads 2 _ rfl hgo rfl
  · rintro ⟨rfl, hgo⟩
    exact loads 2 _ rfl hgo rfl
  · rintro ⟨rfl, hgo⟩
    exact loads 4 _ rfl hgo rfl
  · rintro ⟨hmay, hbad⟩
    rw [exec_ldp h, Dev.laneLoad_goes _ _ _ _ _ hmay hbad]
    exact (used 8).next_sent_sent _ _ _ _ _ _ _
  · rintro ⟨hmay, hbad⟩
    rw [exec_vld h, Dev.laneLoad_goes _ _ _ _ _ hmay hbad]
    exact (used 32).next_sent _ _ _ _ _
  · intro n y hsize hmay hbad
    rw [exec_ld h hsize, Dev.laneLoad_bad _ _ _ _ _ hmay hbad]
  · intro n hsize hmay
    rw [exec_ld h hsize, Dev.laneLoad_refused _ _ _ _ _ hmay, refuse, extendLoad_zero]
    exact (refused n).next_sent _ _ _ _ _
  · intro hmay
    rw [exec_ldp h, Dev.laneLoad_refused _ _ _ _ _ hmay, refuse, Nat.zero_div]
    exact (refused 8).next_sent_sent _ _ _ _ _ _ _
  · intro hmay
    rw [exec_vld h, Dev.laneLoad_refused _ _ _ _ _ hmay, refuse, Nat.zero_div]
    exact (refused 32).next_sent _ _ _ _ _

end Sys2Proof.Machine
end

section
/-! Proofs of the statements on stores and tables (R80, R81, R110 to R113, R129, R130). -/

namespace Sys2Proof.Machine

/-! ### Tables -/

theorem Dev.readTable_good {d : Dev} (h : ∀ a, d.isBad a = false) (b : Nat) (words : List Nat) (use : Dev → Dev) :
    d.readTable b words use = use (d.usePort (3 * b + 2)) := by
  have hfind : words.find? (fun a => (d.usePort (3 * b + 2)).isBad a) = none :=
    List.find?_eq_none.mpr (fun a _ => by rw [Bool.not_eq_true]; exact h a)
  unfold Dev.readTable
  simp only [hfind]

theorem absQ15_toNat (w : Word) : (absQ15 (q15 w)).1.toNat = min 0x7FFF (q15 w).natAbs := by
  rw [absQ15_eq _ (q15_range w), Int.abs_eq_natAbs]
  dsimp only
  omega

/-- A field of a register that reaches its top. -/
theorem bitsOf_top (w : Word) : bitsOf w.toNat 22 10 = w.toNat / 2 ^ 22 := by
  have h := w.isLt
  unfold bitsOf
  omega

/-- Settles O7: no word read is bad, so that `Dev.gainOf` and `Dev.forwardOf` are sent on their way. -/
theorem laneTables : Obligations.LaneTables := by
  unfold Obligations.LaneTables
  intro ln gd gs1 t u s h hbad d l bank used
  have hbank : d.tableBase ln = bank := by
    unfold Dev.tableBase
    rw [Nat.mul_comm]
  constructor
  · intro base header a el
    have ha : min ((absQ15 (q15 (l.gr gs1))).1.toNat * 2 ^ bitsOf header 0 4) 32767 = a := by
      rw [absQ15_toNat, bitsOf, pow_zero, Nat.div_one]
      rfl
    refine (State.done_onRun h _).trans ?_
    dsimp only
    rw [Dev.readTable_good hbad]
    have hgain : (d.usePort (3 * ln + 2)).gainOf (d.tableBase ln + 0x100 * t.toNat) (q15 (l.gr gs1)) =
        (el (a / 512) + roundShift ((el (a / 512 + 1) - el (a / 512)) * (a % 512 : Nat)) 9) * 2 ^ min (header / 256 % 16) 8 := by
      rw [hbank, ← ha]
      rfl
    exact hgain ▸ used.next_sent _ _ _ _ _
  · intro base i el
    refine (State.done_onRun h _).trans ?_
    dsimp only
    rw [Dev.readTable_good hbad]
    have hi : (bitsOf (l.gr gs1).toNat 22 10 + bitsOf (d.loadN (bank + 0x3000 + 0x10 * u.toNat) 4) 0 10) % 1024 = i := by
      rw [bitsOf_top]
      unfold bitsOf
      omega
    have hforward : (d.usePort (3 * ln + 2)).forwardOf (d.tableBase ln) u.toNat (l.gr gs1) =
        el i + roundShift ((el ((i + 1) % 1024) - el i) * ((l.gr gs1).toNat / 2 ^ 7 % 2 ^ 15 : Nat)) 15 := by
      rw [hbank, ← hi]
      rfl
    exact hforward ▸ used.next_sent _ _ _ _ _

/-! ### Stores -/

theorem leBytes_getElem (n v i : Nat) (h : i < (leBytes n v).length) : (leBytes n v)[i] = BitVec.ofNat 8 (v / 256 ^ i) := by
  induction n generalizing v i with
  | zero => exact absurd h (Nat.not_lt_zero _)
  | succ n ih =>
    cases i with
    | zero => simp [leBytes]
    | succ j => simp only [leBytes, List.getElem_cons_succ]; rw [ih, Nat.div_div_eq_div_mul, Nat.pow_succ']

/-- A device whose memory holds the bytes of a number, and every other byte as before. -/
theorem Dev.byte_of_stored {d e : Dev} {a n v : Nat} (h : e.mem = storeBytes d.mem a (leBytes n v)) :
    (∀ x, x < a ∨ a + n ≤ x → e.byte x = d.byte x) ∧ ∀ i < n, e.byte (a + i) = BitVec.ofNat 8 (v / 256 ^ i) := by
  refine ⟨fun x hx => ?_, fun i hi => ?_⟩
  · rw [Dev.byte, h, storeBytes_get_out _ _ _ _ (by rwa [leBytes_length])]
    rfl
  · have hlen : i < (leBytes n v).length := by rwa [leBytes_length]
    rw [Dev.byte, h, storeBytes_get_in _ _ _ hlen, leBytes_getElem]

theorem Dev.storeN_mem {d : Dev} {a n : Nat} (h : n = 8 ∨ d.isBad a = false) (v : Nat) :
    (d.storeN a n v).mem = storeBytes d.mem a (leBytes n v) := by
  unfold Dev.storeN
  split
  · rfl
  · rename_i hn
    rw [h.resolve_left hn]
    rfl

/-- A record is stored as four whole words. -/
theorem Dev.storeRecord_mem (d : Dev) (a v : Nat) : (d.storeRecord a v).mem = storeBytes d.mem a (leBytes 32 v) := by
  have hwords : leBytes 32 v = leBytes 8 (v / 2 ^ (64 * 0) % 2 ^ 64) ++ (leBytes 8 (v / 2 ^ (64 * 1) % 2 ^ 64) ++
      (leBytes 8 (v / 2 ^ (64 * 2) % 2 ^ 64) ++ leBytes 8 (v / 2 ^ (64 * 3) % 2 ^ 64))) := by
    have hword : ∀ x, leBytes 8 (x % 2 ^ 64) = leBytes 8 x := leBytes_mod 8
    rw [hword, hword, hword, hword, leBytes_add 8 24, leBytes_add 8 16, leBytes_add 8 8, Nat.div_div_eq_div_mul, Nat.div_div_eq_div_mul]
    norm_num
  rw [hwords, storeBytes_append, storeBytes_append, storeBytes_append]
  simp only [leBytes_length, Nat.add_assoc]
  simp only [Dev.storeRecord, Dev.each, List.foldl, Dev.storeN_mem (Or.inl rfl)]
  rfl

/-- What a store to data memory leaves: the bytes of the number, every other byte, and everything but the memories and the port. -/
def Dev.storedAt (d e : Dev) (p a n v : Nat) : Prop :=
  e = { d with mem := e.mem, bad := e.bad, portAt := (d.usePort p).portAt } ∧
    (∀ x, x < a ∨ a + n ≤ x → e.byte x = d.byte x) ∧ ∀ i < n, e.byte (a + i) = BitVec.ofNat 8 (v / 256 ^ i)

/-- A device with other memories. -/
def Dev.withMem (d : Dev) (m : Store Byte) (x : Store Bool) : Dev := { d with mem := m, bad := x }

theorem Dev.storeN_frame (d : Dev) (a n v : Nat) : ∃ m x, d.storeN a n v = d.withMem m x := by
  unfold Dev.storeN
  split
  · exact ⟨_, _, rfl⟩
  · split <;> exact ⟨_, _, rfl⟩

theorem Dev.storeRecord_frame (d : Dev) (a v : Nat) : ∃ m x, d.storeRecord a v = d.withMem m x := by
  unfold Dev.storeRecord Dev.each
  generalize [0, 1, 2, 3] = l
  induction l generalizing d with
  | nil => exact ⟨_, _, rfl⟩
  | cons i t ih =>
    obtain ⟨m, x, h⟩ := d.storeN_frame (a + 8 * i) 8 (v / 2 ^ (64 * i) % 2 ^ 64)
    obtain ⟨m', x', h'⟩ := ih (d.withMem m x)
    refine ⟨m', x', ?_⟩
    rw [List.foldl_cons]
    dsimp only
    rw [h, h']
    rfl

theorem Dev.storedAt_of_frame {d e : Dev} {p a n v : Nat} (hframe : ∃ m x, e = (d.usePort p).withMem m x)
    (hmem : e.mem = storeBytes d.mem a (leBytes n v)) : d.storedAt e p a n v := by
  refine ⟨?_, Dev.byte_of_stored hmem⟩
  obtain ⟨m, x, rfl⟩ := hframe
  rfl

section
variable {d : Dev} {b a n : Nat}

theorem mayStore_data (h : a % n = 0) (h' : a < 0x40000) : mayStore a n = true := by
  simp [mayStore, h, h']

/-- A store in data memory uses its port. -/
theorem Dev.laneStore_data (h : a % n = 0) (h' : a < 0x40000) (v : Nat) :
    d.laneStore b a n v = (d.usePort (3 * b + 1)).storeN (blkBase b + 0x40000 + a) n v := by
  rw [Dev.laneStore, if_pos (mayStore_data h h'), if_pos h']

theorem Dev.laneStore_refused (h : mayStore a n = false) (v : Nat) : d.laneStore b a n v = d.laneAddrRefused b a := by
  rw [Dev.laneStore, if_neg (by simp [h])]

end

/-- A refused access sets LANE_STATUS.addr, raises LANE_ADDR, and leaves the memories, the legs and the writes in flight (R80). -/
theorem Dev.laneAddrRefused_spec (d : Dev) (b a : Nat) :
    let e := d.laneAddrRefused b a
    e.reg (blkReg b + 0x20) = BitVec.ofNat 32 ((d.reg (blkReg b + 0x20)).toNat ||| 16) ∧ e.mem = d.mem ∧ e.legs = d.legs ∧ e.now = d.now := by
  have hflags : ∀ {α : Type} (P : Dev → α), (∀ d a w, P (d.setReg a w) = P d) → (∀ (d : Dev) a v, P (d.noteSet a v) = P d) →
      (∀ (d : Dev) v w, P (d.setLane b { d.lane b with flagAt := v, flagNow := w }) = P d) → P (d.setFlags b 16) = P d :=
    fun P h1 h2 h3 => Dev.setFlags_keeps b P 16 h1 h2 h3
  refine ⟨?_, ?_, ?_, ?_⟩
  · rw [Dev.laneAddrRefused, Dev.raise_reg _ _ _ _ _ (by norm_num) (blkReg_not_routerReg (by norm_num) (by norm_num)),
      Dev.setFlags_status d b (by norm_num) (by norm_num), or_toNat_ofNat _ (by norm_num)]
  · exact (Dev.raise_mem _ _ _ _ (by norm_num)).trans (hflags Dev.mem (fun _ _ _ => rfl) (fun _ _ _ => rfl) (fun _ _ _ => rfl))
  · exact (Dev.raise_legs _ _ _ _ (by norm_num)).trans (hflags Dev.legs (fun _ _ _ => rfl) (fun _ _ _ => rfl) (fun _ _ _ => rfl))
  · exact (Dev.raise_now _ _ _ _ (by norm_num)).trans (hflags Dev.now (fun _ _ _ => rfl) (fun _ _ _ => rfl) (fun _ _ _ => rfl))

/-- A write on its way is among those of its lane; registers and memories stay. -/
theorem Dev.laneWrite_spec (d : Dev) (b slot lat : Nat) (dst : LaneDst) (v : LaneVal) (f : Nat) :
    let e := d.laneWrite b slot lat dst v f
    e.regs = d.regs ∧ e.mem = d.mem ∧ ∃ w ∈ (e.lane b).writes, w.due = d.now + lat ∧ w.dst = dst ∧ w.val = v := by
  refine ⟨rfl, rfl, ?_⟩
  rw [Dev.laneWrite, Dev.laneWriteOf, Dev.lane_setLane_same]
  exact ⟨_, mem_insertWrite.mpr (Or.inl rfl), rfl, rfl, rfl⟩

section
variable {ln : BlockId} {gd gs1 gs2 : GReg} {ms : VReg} {imm : BitVec 11} {size : BitVec 3} {s : State}

theorem exec_st (h : s.running ln) {n : Nat} (hsize : sizeBytes size = some n) :
    exec (.st ln gs1 imm gs2 size) s =
      .next ⟨s.dev.laneStore ln ((s.dev.lane ln).address gs1 imm n) n ((s.dev.lane ln).gr gs2).toNat, s.pending⟩ := by
  refine (State.done_onRun h _).trans ?_
  rw [hsize]

theorem exec_stp (h : s.running ln) :
    exec (.stp ln gs1 imm gs2) s = .next ⟨s.dev.laneStore ln ((s.dev.lane ln).address gs1 imm 8) 8
      ((s.dev.lane ln).gr (regPlus (pairBase gs2) 1) ++ (s.dev.lane ln).gr (pairBase gs2)).toNat, s.pending⟩ := State.done_onRun h _

theorem exec_vst (h : s.running ln) :
    let a := (s.dev.lane ln).address gs1 imm 32
    exec (.vst ln gs1 imm ms) s = .next ⟨if mayStore a 32 then (s.dev.usePort (3 * ln.val + 1)).storeRecord (blkBase ln + 0x40000 + a)
      (vecRecord ((s.dev.lane ln).vmant ms) ((s.dev.lane ln).vexp ms)) else s.dev.laneAddrRefused ln a, s.pending⟩ := State.done_onRun h _

end

theorem append_toNat (x y : Word) : (x ++ y).toNat = y.toNat + 2 ^ 32 * x.toNat := by
  rw [BitVec.toNat_append, ← Nat.shiftLeft_add_eq_or_of_lt y.isLt, Nat.shiftLeft_eq]
  ring

/-- The sizes of R130 are less than a double word. -/
theorem sizeBytes_ne_eight {size : BitVec 3} {n : Nat} (h : sizeBytes size = some n) : n ≠ 8 := by
  rintro rfl
  revert h
  revert size
  decide

/-- Settles O6: an admitted store by `Dev.storedAt_of_frame`, a refused access by `Dev.laneAddrRefused_spec`. -/
theorem laneStores : Obligations.LaneStores := by
  unfold Obligations.LaneStores
  constructor
  · intro ln gs1 gs2 ms imm size s h l place goes stored
    have stores : ∀ n v, goes n → n = 8 ∨ s.dev.isBad (place n) = false → stored n v (.next ⟨s.dev.laneStore ln (l.address gs1 imm n) n v, s.pending⟩) := by
      rintro n v ⟨halign, hin⟩ hword
      rw [Dev.laneStore_data halign hin]
      exact State.answers_next.mpr (Dev.storedAt_of_frame (Dev.storeN_frame _ _ _ _) (Dev.storeN_mem (d := s.dev.usePort _) hword v))
    refine ⟨fun n hsize hgo hword => ?_, fun hgo => ?_, fun hgo => ?_⟩
    · rw [exec_st h hsize]
      exact stores n _ hgo (Or.inr hword)
    · rw [exec_stp h, append_toNat]
      exact stores 8 _ hgo (Or.inl rfl)
    · rw [exec_vst h, if_pos (mayStore_data hgo.1 hgo.2)]
      exact State.answers_next.mpr (Dev.storedAt_of_frame (Dev.storeRecord_frame _ _ _) (Dev.storeRecord_mem (s.dev.usePort _) _ _))
  · intro ln gd gs1 gs2 imm size n s h d a status
    have refused : ∀ x, (d.laneAddrRefused ln x).mem = d.mem ∧ (d.laneAddrRefused ln x).reg (blkReg ln + 0x20) = BitVec.ofNat 32 (status ||| 16) :=
      fun x => by
        obtain ⟨hstat, hmem, -⟩ := d.laneAddrRefused_spec ln x
        exact ⟨hmem, hstat⟩
    refine ⟨fun hsize => ⟨?_, ?_, ?_⟩, fun hsize hmay => ?_, fun hsize hmay => ?_, fun ms hmay hmay' => ⟨?_, ?_⟩⟩
    · refine (State.done_onRun h _).trans ?_
      rw [hsize]
      exact (State.mk (d.setFlags ln 16) s.pending).next_sent _ _ _ _ _
    · refine (State.done_onRun h _).trans ?_
      rw [hsize]
    · rw [Dev.setFlags_status d ln (by norm_num) (by norm_num), or_toNat_ofNat _ (by norm_num)]
    · obtain ⟨x, hport⟩ := d.useLanePort_eq ln a
      obtain ⟨hstat, hmem, -, hnow⟩ := (d.useLanePort ln a).laneAddrRefused_spec ln a
      rw [exec_ld h hsize, Dev.laneLoad_refused _ _ _ _ _ hmay, extendLoad_zero]
      generalize (d.useLanePort ln a).laneAddrRefused ln a = e at *
      obtain ⟨hregs, hmem', w, hw, hwdue, hwdst, hwval⟩ := e.laneWrite_spec ln 2 2 (.g gd) (.word 0) 0
      rw [hport] at hstat hmem hnow
      refine State.answers_next.mpr ⟨?_, hmem'.trans hmem, w, hw, hwdue.trans (congrArg (· + 2) hnow), hwdst, hwval⟩
      rw [Dev.reg, hregs]
      exact hstat
    · rw [exec_st h hsize, Dev.laneStore_refused hmay]
      obtain ⟨hstat, hmem, hlegs, -⟩ := d.laneAddrRefused_spec ln a
      exact State.answers_next.mpr ⟨rfl, hstat, hmem, hlegs⟩
    · rw [exec_stp h, Dev.laneStore_refused hmay]
      exact State.answers_next.mpr (refused _)
    · rw [exec_vst h, if_neg (by rw [Bool.not_eq_true]; exact hmay')]
      exact State.answers_next.mpr (refused _)

end Sys2Proof.Machine
end

section
/-! The reactions to unit, block and chip faults (R20, R35, R36, R38, R103, R324, R325, R327, R331, R335). -/

namespace Sys2Proof.Machine

/-! ### What an order does to the device -/

/-- A turn-on that is tried leaves the device, or puts the leg, or puts it with a trip threshold and an edge count. -/
theorem Dev.tryOn_cases (d : Dev) (k t : Nat) : d.tryOn k t = d ∨ ∃ l, d.tryOn k t = d.setLeg k l ∨
    ∃ r n old f, f.off < 0x100 ∧ d.tryOn k t = ((d.setLeg k l).dacStepped r n old).bumpWrap (legReg k) f := by
  unfold Dev.tryOn
  extract_lets l
  split
  · exact .inl rfl
  next s _ =>
    split
    · split
      · exact .inr ⟨_, .inl rfl⟩
      · cases s
        case high => exact .inr ⟨_, .inr ⟨_, _, _, F.LEG_EDGES_H_count, by norm_num, rfl⟩⟩
        case low => exact .inr ⟨_, .inr ⟨_, _, _, F.LEG_EDGES_L_count, by norm_num, rfl⟩⟩
    · exact .inl rfl

/-- An order leaves the device, or puts a leg that is not in FAULT and may try to turn it on. -/
theorem Dev.order_cases (d : Dev) (k : Nat) (a : Action) (hsl : Bool) : d.order k a hsl = d ∨
    (d.leg k).st ≠ .fault ∧ ∃ l, d.order k a hsl = d.setLeg k l ∨ d.order k a hsl = (d.setLeg k l).tryOn k d.stepNow := by
  have hasc : ∀ s, d.orderAsc k s hsl = d ∨
      (d.leg k).st ≠ .fault ∧ ∃ l, d.orderAsc k s hsl = d.setLeg k l ∨ d.orderAsc k s hsl = (d.setLeg k l).tryOn k d.stepNow := by
    intro s
    unfold Dev.orderAsc
    extract_lets l st l1 go
    have hgo : (d.leg k).st ≠ .fault → go = d ∨
        (d.leg k).st ≠ .fault ∧ ∃ l, go = d.setLeg k l ∨ go = (d.setLeg k l).tryOn k d.stepNow := fun h => .inr ⟨h, _, .inr rfl⟩
    clear_value go
    split
    case h_8 => exact .inl rfl
    case h_1 hst => exact hgo (by rw [hst]; nofun)
    case h_2 hst => exact hgo (by rw [hst]; nofun)
    case h_3 hst => exact hgo (by rw [hst]; nofun)
    all_goals
      next hst =>
        split
        · exact hgo (by rw [hst]; nofun)
        · exact .inl rfl
  have hput : ∀ l, (d.leg k).st ≠ .fault → d.setLeg k l = d ∨
      (d.leg k).st ≠ .fault ∧ ∃ m, d.setLeg k l = d.setLeg k m ∨ d.setLeg k l = (d.setLeg k m).tryOn k d.stepNow :=
    fun l h => .inr ⟨h, l, .inl rfl⟩
  cases a with
  | none => exact .inl rfl
  | off =>
    rw [Dev.order, Dev.orderOff]
    extract_lets l
    split
    case h_6 => exact .inl rfl
    case h_1 hst => exact hput _ (hst ▸ nofun)
    case h_2 hst => exact hput _ (hst ▸ nofun)
    all_goals
      next hst =>
        split
        · exact hput _ (hst ▸ nofun)
        · exact .inl rfl
  | soft =>
    rw [Dev.order, Dev.orderSoft]
    extract_lets
    split
    case h_7 => exact .inl rfl
    case h_1 hst => exact hput _ (hst ▸ nofun)
    case h_2 hst => exact hput _ (hst ▸ nofun)
    all_goals
      next hst =>
        split
        · exact hput _ (hst ▸ nofun)
        · exact .inl rfl
  | ascLow => exact hasc .low
  | ascHigh => exact hasc .high

/-- What is read past one leg, its registers and its trip threshold is read after an order to it as before. -/
theorem Dev.order_keeps {α : Type} (P : Dev → α) (k : Nat) (hreg : ∀ (d : Dev) x w, x < 0x100 → P (d.setReg (legReg k + x) w) = P d)
    (hleg : ∀ (d : Dev) l, P (d.setLeg k l) = P d) (hdac : ∀ (d : Dev) x, P { d with dacAt := x } = P d) (d : Dev) (a : Action)
    (hsl : Bool) : P (d.order k a hsl) = P d := by
  have hstep : ∀ (d : Dev) r n old, P (d.dacStepped r n old) = P d := by
    intro d r n old
    unfold Dev.dacStepped
    split
    · rfl
    · exact hdac _ _
  have htry : ∀ (d : Dev) t, P (d.tryOn k t) = P d := by
    intro d t
    obtain h | ⟨l, h | ⟨r, n, old, f, hf, h⟩⟩ := d.tryOn_cases k t
    · rw [h]
    · rw [h, hleg]
    · rw [h]
      exact (hreg _ _ _ hf).trans ((hstep _ _ _ _).trans (hleg _ _))
  obtain h | ⟨_, l, h | h⟩ := d.order_cases k a hsl
  · rw [h]
  · rw [h, hleg]
  · rw [h, htry, hleg]

/-- A leg in FAULT takes no order. -/
theorem Dev.order_fault {d : Dev} {k : Nat} (h : (d.leg k).st = .fault) (a : Action) (hsl : Bool) : d.order k a hsl = d :=
  (d.order_cases k a hsl).resolve_right fun hmoved => hmoved.1 h

theorem Dev.order_leg_ne (d : Dev) {j k : Nat} (h : k ≠ j) (a : Action) (hsl : Bool) : (d.order j a hsl).leg k = d.leg k :=
  Dev.order_keeps (fun d => d.leg k) j (fun d _ w _ => d.setReg_leg _ w k) (fun _ _ => Dev.leg_setLeg_ne _ _ h) (fun _ _ => rfl) d a hsl

theorem Dev.order_reg (d : Dev) (k : Nat) (a : Action) (hsl : Bool) {x : Nat} (hx : ∀ y < 0x100, x ≠ legReg k + y) :
    (d.order k a hsl).reg x = d.reg x :=
  Dev.order_keeps (fun d => d.reg x) k (fun _ y _ hy => Dev.reg_setReg_ne _ _ (hx y hy)) (fun _ _ => rfl) (fun _ _ => rfl) d a hsl

/-! ### What the steps of a unit fault do to its unit -/

/-- The transitions that follow from the legs move one unit, and neither its decision nor its faults. -/
theorem Dev.checkUnit_cases (d : Dev) (u : Nat) : ∃ x, ((d.checkUnit u) = d.setUnit u x ∨ d.checkUnit u = d ∧ x = d.unit u) ∧
    x.action = (d.unit u).action ∧ x.decided = (d.unit u).decided ∧ x.window = (d.unit u).window ∧ x.faultAt = (d.unit u).faultAt := by
  have hsame : ∃ x, (d = d.setUnit u x ∨ d = d ∧ x = d.unit u) ∧
      x.action = (d.unit u).action ∧ x.decided = (d.unit u).decided ∧ x.window = (d.unit u).window ∧ x.faultAt = (d.unit u).faultAt :=
    ⟨_, .inr ⟨rfl, rfl⟩, rfl, rfl, rfl, rfl⟩
  unfold Dev.checkUnit Dev.startQuiet
  extract_lets x legs live
  split
  case h_2 =>
    split
    · exact hsame
    · split
      · exact ⟨_, .inl rfl, rfl, rfl, rfl, rfl⟩
      · split
        · exact ⟨_, .inl rfl, rfl, rfl, rfl, rfl⟩
        · exact hsame
  case h_6 => exact hsame
  all_goals
    split
    · exact ⟨_, .inl rfl, rfl, rfl, rfl, rfl⟩
    · exact hsame

theorem Dev.checkUnit_other (d : Dev) {u v : Nat} (h : v ≠ u) : (d.checkUnit u).unit v = d.unit v := by
  obtain ⟨x, hx | ⟨hx, -⟩, -⟩ := d.checkUnit_cases u
  · rw [hx, Dev.unit_setUnit, if_neg h]
  · rw [hx]

theorem Dev.checkUnit_keeps_decision (d : Dev) (u : Nat) : ((d.checkUnit u).unit u).action = (d.unit u).action ∧
    ((d.checkUnit u).unit u).decided = (d.unit u).decided ∧ ((d.checkUnit u).unit u).window = (d.unit u).window ∧
    ((d.checkUnit u).unit u).faultAt = (d.unit u).faultAt := by
  obtain ⟨x, hx | ⟨hx, -⟩, hkeep⟩ := d.checkUnit_cases u
  · rw [hx, Dev.unit_setUnit_same]
    exact hkeep
  · rw [hx]
    exact ⟨rfl, rfl, rfl, rfl⟩

theorem Dev.takeDecision_other (d : Dev) {u v : Nat} (h : v ≠ u) (a : Action) : (d.takeDecision u a).unit v = d.unit v := by
  rw [Dev.takeDecision, Dev.checkUnit_other _ h, Dev.unit_of_units (Dev.orderUnit_units _ _ _ _), Dev.unit_setUnit, if_neg h]

/-- A decision that is taken stands, with no open window. -/
theorem Dev.takeDecision_unit (d : Dev) (u : Nat) (a : Action) : ((d.takeDecision u a).unit u).action = a ∧
    ((d.takeDecision u a).unit u).decided = true ∧ ((d.takeDecision u a).unit u).window = none ∧
    ((d.takeDecision u a).unit u).faultAt = (d.unit u).faultAt := by
  have hunit : ((d.setUnit u { d.unit u with action := a, decided := true, deciding := false, window := none }).orderUnit u a false).unit u =
      { d.unit u with action := a, decided := true, deciding := false, window := none } :=
    (Dev.unit_of_units (Dev.orderUnit_units _ _ _ _) u).trans (Dev.unit_setUnit_same _ _ _)
  have hcheck := Dev.checkUnit_keeps_decision
    ((d.setUnit u { d.unit u with action := a, decided := true, deciding := false, window := none }).orderUnit u a false) u
  rwa [hunit] at hcheck

theorem Dev.countFault_other (d : Dev) {u v : Nat} (h : v ≠ u) : (d.countFault u).unit v = d.unit v := by
  unfold Dev.countFault
  extract_lets d1 x recent n
  rw [Dev.unit_setUnit, if_neg h]
  exact Dev.setReg_unit _ _ _ _

theorem Dev.countFault_reg (d : Dev) (u : Nat) {a : Nat} (h : a ≠ unitBase u + F.UNIT_CNT_faults.off) :
    (d.countFault u).reg a = d.reg a := by
  unfold Dev.countFault
  extract_lets d1 x recent n
  have hunit : ∀ (e : Dev) y, (e.setUnit u y).reg a = e.reg a := fun _ _ => rfl
  rw [hunit]
  exact Dev.reg_setReg_ne _ _ h

/-- A counted fault is noted with its time, and leaves the unit where it is. -/
theorem Dev.countFault_unit (d : Dev) (u : Nat) : ((d.countFault u).unit u).st = (d.unit u).st ∧
    ((d.countFault u).unit u).action = (d.unit u).action ∧ ((d.countFault u).unit u).faultAt.head? = some d.now := by
  have hunit := Dev.unit_setUnit_same (d.bump (unitBase u) F.UNIT_CNT_faults) u
  have hd1 : (d.bump (unitBase u) F.UNIT_CNT_faults).unit u = d.unit u := Dev.setReg_unit _ _ _ _
  have hnow : (d.bump (unitBase u) F.UNIT_CNT_faults).now = d.now := Dev.setReg_now _ _ _
  unfold Dev.countFault
  extract_lets d1 x recent n
  rw [hunit, ← hd1]
  exact ⟨rfl, rfl, congrArg some hnow⟩

theorem Dev.shutUnit_other (d : Dev) {u v : Nat} (h : v ≠ u) : (d.shutUnit u).unit v = d.unit v :=
  (Dev.shutUnit_unit d u v).trans (if_neg h)

/-- A unit fault of an active unit: counted, shut down and decided by its kind. -/
theorem Dev.unitFault_active_eq {d : Dev} {u : Nat} (h : (d.unit u).active = true) (bit : Nat) : d.unitFault u bit =
    (((d.latchCause (unitCause u) bit).countFault u).shutUnit u).takeDecision u ((d.latchCause (unitCause u) bit).kindAction u) := by
  rw [← d.latchCause_unit (unitCause u) bit u] at h
  exact if_pos h

/-- A unit fault of any other unit: latched, and counted outside a window. -/
theorem Dev.unitFault_inactive_eq {d : Dev} {u : Nat} (h : (d.unit u).active = false) (bit : Nat) :
    d.unitFault u bit = d.latchCause (unitCause u) bit ∨ d.unitFault u bit = (d.latchCause (unitCause u) bit).countFault u := by
  rw [← d.latchCause_unit (unitCause u) bit u] at h
  unfold Dev.unitFault
  extract_lets d1 x
  rw [if_neg (by rw [Bool.not_eq_true]; exact h)]
  split
  · exact .inl rfl
  · exact .inr rfl

theorem Dev.unitFault_other (d : Dev) {u v : Nat} (h : v ≠ u) (bit : Nat) : (d.unitFault u bit).unit v = d.unit v := by
  cases hactive : (d.unit u).active with
  | true => rw [Dev.unitFault_active_eq hactive, Dev.takeDecision_other _ h, Dev.shutUnit_other _ h, Dev.countFault_other _ h, Dev.latchCause_unit]
  | false =>
    obtain he | he := Dev.unitFault_inactive_eq hactive bit
    · rw [he, Dev.latchCause_unit]
    · rw [he, Dev.countFault_other _ h, Dev.latchCause_unit]

theorem Dev.unitLevelFault_other (d : Dev) {u v : Nat} (h : v ≠ u) (bit : Nat) : (d.unitLevelFault u bit).unit v = d.unit v := by
  unfold Dev.unitLevelFault
  split
  · exact (Dev.takeDecision_other _ h _).trans ((Dev.countFault_other _ h).trans (d.latchCause_unit _ _ _))
  · exact d.unitFault_other h bit

/-! ### The cause of a unit -/

theorem unitCause_ne_legReg {u y : Nat} (hu : u < 32) (k : Nat) (hy : y < 0x100) : unitReg u + 0x0C ≠ legReg k + y := by
  unfold unitReg legReg blkBase rgnBase
  omega

/-- The cause register of a unit is written by no step of its fault but the latching of the cause. -/
theorem Dev.unitFault_reg (d : Dev) {u : Nat} (hu : u < 32) (bit : Nat) :
    (d.unitFault u bit).reg (unitReg u + 0x0C) = (d.latchCause (unitCause u) bit).reg (unitReg u + 0x0C) := by
  have hcount : ∀ e : Dev, (e.countFault u).reg (unitReg u + 0x0C) = e.reg (unitReg u + 0x0C) := by
    intro e
    refine e.countFault_reg u ?_
    rw [show F.UNIT_CNT_faults.off = 0x201C from rfl, unitReg, unitBase]
    omega
  have hshut : ∀ e : Dev, (e.shutUnit u).reg (unitReg u + 0x0C) = e.reg (unitReg u + 0x0C) := fun e =>
    Dev.each_keeps (fun d => d.reg (unitReg u + 0x0C)) (fun k d => d.setLeg k { d.leg k with next := none }) (fun _ _ => rfl) _ _
  have htake : ∀ (e : Dev) a, (e.takeDecision u a).reg (unitReg u + 0x0C) = e.reg (unitReg u + 0x0C) := fun e a =>
    (Dev.checkUnit_keeps (fun d => d.reg (unitReg u + 0x0C)) (fun _ _ _ => rfl) _ _).trans
      (Dev.each_keeps (fun d => d.reg (unitReg u + 0x0C)) _ (fun k e => e.order_reg k a false fun y hy => unitCause_ne_legReg hu k hy) _ _)
  cases hactive : (d.unit u).active with
  | true => rw [Dev.unitFault_active_eq hactive, htake, hshut, hcount]
  | false =>
    obtain he | he := Dev.unitFault_inactive_eq hactive bit
    · rw [he]
    · rw [he, hcount]

theorem Dev.unitFault_cause (d : Dev) {u : Nat} (hu : u < 32) {bit : Nat} (hbit : bit < 8) :
    bitOf ((d.unitFault u bit).reg (unitReg u + 0x0C)).toNat bit = true := by
  rw [d.unitFault_reg hu]
  refine d.latchCause_bit (unitCause u) (by omega) (hbit.trans (by norm_num [unitCause])) (hbit.trans (by norm_num [unitCause])) fun o ho => ?_
  obtain rfl : o = 8 := by simpa [unitCause] using ho.symm
  norm_num

end Sys2Proof.Machine
end

section
/-! The first cause of a block and of the chip, and the units and legs of a chip fault (R20, R35, R38, R331, R335, R367). -/

namespace Sys2Proof.Machine

/-! ### The kind of a unit -/

theorem Dev.latchCause_unitCause_reg (d : Dev) (u i : Nat) {a : Nat} (h1 : a ≠ unitReg u + 0x0C) (h2 : a ≠ unitReg u + 0x14)
    (h3 : a ≠ unitReg u + 0x18) : (d.latchCause (unitCause u) i).reg a = d.reg a := by
  refine Dev.latchCause_keepsAt (fun d => d.reg a) (fun d w => Dev.reg_setReg_ne _ _ h1) (fun o ho d w => ?_) (fun _ _ _ => rfl)
    (fun _ _ => rfl) d i
  obtain rfl : o = 8 := by simpa [unitCause] using ho.symm
  exact ⟨Dev.reg_setReg_ne _ _ h2, Dev.reg_setReg_ne _ _ h3⟩

theorem Dev.kindAction_latchCause (d : Dev) {u : Nat} (hu : u < 32) (i : Nat) :
    (d.latchCause (unitCause u) i).kindAction u = d.kindAction u := by
  have hsafe : (d.latchCause (unitCause u) i).reg (4 * u + 0x40020400) = d.reg (4 * u + 0x40020400) := by
    refine d.latchCause_unitCause_reg u i ?_ ?_ ?_ <;> unfold unitReg <;> omega
  have hcfg : (d.latchCause (unitCause u) i).reg (unitBase u + 0x2000) = d.reg (unitBase u + 0x2000) := by
    refine d.latchCause_unitCause_reg u i ?_ ?_ ?_ <;> unfold unitReg unitBase <;> omega
  have hkind : (d.latchCause (unitCause u) i).fld (4 * u) F.HSL_SAFE_kind = d.fld (4 * u) F.HSL_SAFE_kind := Dev.fld_of_reg hsafe
  have hclass : (d.latchCause (unitCause u) i).fld (unitBase u) F.UNIT_CFG_class = d.fld (unitBase u) F.UNIT_CFG_class := Dev.fld_of_reg hcfg
  have hhigh : (d.latchCause (unitCause u) i).flag (4 * u) F.HSL_SAFE_asc_high = d.flag (4 * u) F.HSL_SAFE_asc_high :=
    congrArg (· != 0) (Dev.fld_of_reg hsafe)
  rw [Dev.kindAction, Dev.kindAction, hkind, hclass, hhigh]

/-- A unit fault of an active unit takes the configured kind, as a decision of that time. -/
theorem Dev.unitFault_of_active {d : Dev} {u : Nat} (hu : u < 32) (h : (d.unit u).active = true) (bit : Nat) :
    ((d.unitFault u bit).unit u).decided = true ∧ ((d.unitFault u bit).unit u).window = none ∧
      ((d.unitFault u bit).unit u).action = d.kindAction u ∧ ((d.unitFault u bit).unit u).faultAt.head? = some d.now := by
  rw [Dev.unitFault_active_eq h]
  obtain ⟨haction, hdecided, hwindow, hfaults⟩ := Dev.takeDecision_unit (((d.latchCause (unitCause u) bit).countFault u).shutUnit u) u
    ((d.latchCause (unitCause u) bit).kindAction u)
  obtain ⟨-, -, hhead⟩ := Dev.countFault_unit (d.latchCause (unitCause u) bit) u
  have hshut := Dev.shutUnit_unit ((d.latchCause (unitCause u) bit).countFault u) u u
  rw [if_pos rfl] at hshut
  refine ⟨hdecided, hwindow, haction.trans (d.kindAction_latchCause hu bit), ?_⟩
  rw [hfaults, hshut]
  exact hhead.trans (congrArg some ((FaultKeeps.refl d).latchCause (unitCause_plain hu) bit).now)

theorem Dev.countFault_legs (d : Dev) (u : Nat) : (d.countFault u).legs = d.legs := by
  unfold Dev.countFault
  extract_lets d1 x recent n
  have hd1 : d1.legs = d.legs := Dev.setReg_legs _ _ _
  rw [Dev.setUnit_legs, hd1]

/-- A unit fault of any other unit leaves its legs, its state and its decision. -/
theorem Dev.unitFault_of_inactive {d : Dev} {u : Nat} (h : (d.unit u).active = false) (bit : Nat) : (d.unitFault u bit).legs = d.legs ∧
    ((d.unitFault u bit).unit u).st = (d.unit u).st ∧ ((d.unitFault u bit).unit u).action = (d.unit u).action := by
  have hlegs : (d.latchCause (unitCause u) bit).legs = d.legs :=
    Dev.latchCause_keeps Dev.legs (fun _ _ _ => rfl) (fun _ _ _ => rfl) (fun _ _ => rfl) d _ _
  have hunit := d.latchCause_unit (unitCause u) bit u
  obtain he | he := Dev.unitFault_inactive_eq h bit
  · rw [he, hunit]
    exact ⟨hlegs, rfl, rfl⟩
  · obtain ⟨hst, haction, -⟩ := Dev.countFault_unit (d.latchCause (unitCause u) bit) u
    rw [he, hst, haction, hunit, Dev.countFault_legs]
    exact ⟨hlegs, rfl, rfl⟩

/-! ### First causes -/

/-- The first cause of a register shows itself and stamps the time. -/
theorem Dev.latchCause_first (d : Dev) {c : CauseReg} {o : Nat} (hts : c.ts = some o) (ho : 0 < o)
    (h : bitOf (d.reg c.at_).toNat c.valid = false) (i : Nat) : (d.latchCause c i).reg c.at_ =
      BitVec.ofNat 32 (withBits (withBits ((d.reg c.at_).toNat ||| 2 ^ i) c.lo c.w i) c.valid 1 1) ∧
      (d.latchCause c i).reg (c.at_ + o) = d.ns.setWidth 32 := by
  have hstamp : ∀ e : Dev, (e.stamp (c.at_ + o)).reg c.at_ = e.reg c.at_ ∧ (e.stamp (c.at_ + o)).reg (c.at_ + o) = e.ns.setWidth 32 := by
    intro e
    rw [Dev.stamp]
    exact ⟨by rw [Dev.reg_setReg_ne _ _ (by omega), Dev.reg_setReg_ne _ _ (by omega)],
      by rw [Dev.reg_setReg_ne _ _ (by omega), Dev.reg_setReg_same]⟩
  unfold Dev.latchCause
  extract_lets v v1 e e1 e2
  rw [if_pos h]
  have he2 : e2 = e1.stamp (c.at_ + o) := by simp only [e2, hts]
  obtain ⟨hword, htime⟩ := hstamp e1
  rw [← he2] at hword htime
  exact ⟨hword.trans (Dev.reg_setReg_same _ _ _), htime⟩

theorem bitsOf_ofNat {v lo w : Nat} (h : lo + w ≤ 32) : bitsOf (BitVec.ofNat 32 v).toNat lo w = bitsOf v lo w := by
  refine Nat.eq_of_testBit_eq fun i => ?_
  rw [bitsOf, bitsOf, BitVec.toNat_ofNat, ← Nat.shiftRight_eq_div_pow, ← Nat.shiftRight_eq_div_pow, Nat.testBit_mod_two_pow,
    Nat.testBit_mod_two_pow, Nat.testBit_shiftRight, Nat.testBit_shiftRight, Nat.testBit_mod_two_pow]
  by_cases hi : i < w
  · have hin : lo + i < 32 := by omega
    simp [hi, hin]
  · simp [hi]

/-- The cause of a block shows the first cause with its time (R38). -/
theorem Dev.latchCause_blk_first (d : Dev) (b : Nat) {i : Nat} (hi : i < 8) (h : bitOf (d.reg (blkReg b + 0x40)).toNat 15 = false) :
    bitsOf ((d.latchCause (blkCause b) i).reg (blkReg b + 0x40)).toNat 8 3 = i ∧
      bitOf ((d.latchCause (blkCause b) i).reg (blkReg b + 0x40)).toNat 15 = true ∧
      (d.latchCause (blkCause b) i).reg (blkReg b + 0x44) = d.ns.setWidth 32 := by
  obtain ⟨hword, htime⟩ := d.latchCause_first (c := blkCause b) rfl (by norm_num) h i
  have hword' : (d.latchCause (blkCause b) i).reg (blkReg b + 0x40) =
    BitVec.ofNat 32 (withBits (withBits ((d.reg (blkReg b + 0x40)).toNat ||| 2 ^ i) 8 3 i) 15 1 1) := hword
  refine ⟨?_, ?_, htime⟩
  · rw [hword', bitsOf_ofNat (by norm_num), bitsOf_withBits_ne _ _ _ _ _ _ (by norm_num), bitsOf_withBits_same]
    exact Nat.mod_eq_of_lt hi
  · rw [hword', bitOf_ofNat (by norm_num), ← bitsOf_one, bitsOf_withBits_same]
    rfl

/-! ### A block fault -/

/-- The halt of a block's lane leaves the program and the registers of another block's lane. -/
theorem Dev.blockFault_lane (d : Dev) {a b : Nat} (h : a ≠ b) (bit : Nat) :
    ((d.blockFault b bit).lane a).mode = (d.lane a).mode ∧ ((d.blockFault b bit).lane a).g = (d.lane a).g := by
  have hcount : FaultReg (blkReg b + F.BLK_CAUSE_CNT_count.off) := faultReg_blk b (by norm_num) (by norm_num)
  have hbase := (((FaultKeeps.refl d).latchCause (blkCause_plain b) bit).bump hcount).raise (src := Ev.BLOCK_FAULT) (scopeBlk b) bit
    (by norm_num)
  have hfault := Dev.blockFault_keeps d b bit
  generalize ((d.latchCause (blkCause b) bit).bump (blkReg b) F.BLK_CAUSE_CNT_count).raise Ev.BLOCK_FAULT (scopeBlk b) bit = g at *
  have hhalt : (g.haltLane b).lane a = g.lane a := (Dev.lane_setLane _ _ _ _).trans (if_neg h)
  have hcore : ((d.blockFault b bit).lane a).core = (d.lane a).core := by rw [hfault.lane, hhalt, hbase.lane]
  exact ⟨(congrArg Lane.mode hcore :), (congrArg Lane.g hcore :)⟩

/-- A unit that owns no leg in the block is left as it is. -/
theorem Dev.blockFault_other (d : Dev) {b u : Nat} (h : u ∉ d.blockUnits b) (bit : Nat) : (d.blockFault b bit).unit u = d.unit u := by
  have hcount : FaultReg (blkReg b + F.BLK_CAUSE_CNT_count.off) := faultReg_blk b (by norm_num) (by norm_num)
  have hbase := (((FaultKeeps.refl d).latchCause (blkCause_plain b) bit).bump hcount).raise (src := Ev.BLOCK_FAULT) (scopeBlk b) bit
    (by norm_num)
  have hunits : ((((d.latchCause (blkCause b) bit).bump (blkReg b) F.BLK_CAUSE_CNT_count).raise Ev.BLOCK_FAULT (scopeBlk b) bit).haltLane b).unit u =
      d.unit u := by
    have hraise := fun e : Dev => Dev.unit_of_units (e.raise_units Ev.BLOCK_FAULT (scopeBlk b) bit (by norm_num)) u
    have hhalt : ∀ e : Dev, (e.haltLane b).unit u = e.unit u := fun _ => rfl
    rw [hhalt, hraise, Dev.bump, Dev.setFld, Dev.setReg_unit, Dev.latchCause_unit]
  rw [← hbase.blockUnits b] at h
  rw [← hunits, Dev.blockFault]
  refine Dev.each_keeps_of_mem (fun e => e.unit u) _ _ (fun v hv e => e.unitLevelFault_other (ne_of_mem_of_not_mem hv h).symm 5) _

/-! ### A chip fault and the units -/

theorem Dev.powerOnLeg_units (d : Dev) (k : Nat) : (d.powerOnLeg k).units = d.units := by
  unfold Dev.powerOnLeg
  extract_lets l
  split <;> rfl

/-- The step of the HSL's action on one leg of a unit, of which `exiting` is the exit it was in. -/
def Dev.hslLeg (exiting : Bool) (a : Action) (k : Nat) (d : Dev) : Dev :=
  let d := d.overruleTrip k
  if (exiting && (d.leg k).st == .off) || !d.flag 0 F.HSL_TEST_pass then d.markHsl k true
  else (d.order k a true).markHsl k true

theorem Dev.hslLeg_units (exiting : Bool) (a : Action) (k : Nat) (d : Dev) : (d.hslLeg exiting a k).units = d.units := by
  have hmark : ∀ e : Dev, (e.markHsl k true).units = e.units := by
    intro e
    unfold Dev.markHsl
    extract_lets l
    split <;> rfl
  have hover : (d.overruleTrip k).units = d.units := by
    unfold Dev.overruleTrip
    extract_lets l
    split <;> rfl
  unfold Dev.hslLeg
  extract_lets e
  split
  · exact (hmark _).trans hover
  · exact (hmark _).trans ((Dev.order_units _ _ _ _).trans hover)

theorem Dev.hslApply_other (d : Dev) {u v : Nat} (h : v ≠ u) (a : Action) : (d.hslApply u a).unit v = d.unit v := by
  unfold Dev.hslApply
  extract_lets x d1 y d2
  have hlegs : (d2.each (d2.unitLegs u) (Dev.hslLeg x.exiting a)).unit v = d2.unit v :=
    Dev.unit_of_units (Dev.each_keeps Dev.units _ (Dev.hslLeg_units x.exiting a) _ _) v
  have hd2 : d2.unit v = d1.unit v := (Dev.unit_setUnit _ _ _ _).trans (if_neg h)
  have hd1 : d1.unit v = d.unit v := by
    simp only [d1]
    split
    · exact d.shutUnit_other h
    · rfl
  exact hlegs.trans (hd2.trans hd1)

/-- A chip fault locks a unit out and moves no other. -/
theorem Dev.chipLockUnit_unit (d : Dev) (u : Nat) : ((d.chipLockUnit u).unit u).st = .locked ∧ ((d.chipLockUnit u).unit u).lockPend = true ∧
    ∀ v, v ≠ u → (d.chipLockUnit u).unit v = d.unit v := by
  unfold Dev.chipLockUnit
  extract_lets was d1 d2
  have hd2 : ∀ v, v ≠ u → d2.unit v = d.unit v := by
    intro v hv
    have hd1 : d1.unit v = d.unit v := (Dev.countFault_other _ hv).trans (d.latchCause_unit _ _ _)
    simp only [d2]
    split
    · exact (Dev.unit_of_units (Dev.each_keeps Dev.units _ (fun k e => e.powerOnLeg_units k) _ _) v).trans hd1
    · exact (d1.hslApply_other hv _).trans hd1
  clear_value d2
  rw [Dev.unit_setUnit_same]
  exact ⟨rfl, rfl, fun v hv => (Dev.unit_setUnit _ _ _ _).trans ((if_neg hv).trans (hd2 v hv))⟩

/-! ### A chip fault and the legs in FAULT -/

/-- A leg stands in FAULT, and no comparator alone put it there in this lane cycle. -/
def Dev.faulted (d : Dev) (k : Nat) : Prop := (d.leg k).st = .fault ∧ (d.leg k).compAt ≠ some d.now

section
variable {d : Dev} {k : Nat} (h : d.faulted k)
include h

theorem Dev.faulted_of_same {e : Dev} (hlegs : e.legs = d.legs) (hnow : e.now = d.now) : e.faulted k := by
  rw [Dev.faulted, Dev.leg_of_legs hlegs, hnow]
  exact h

theorem Dev.faulted_setLeg (j : Nat) {l : Leg} (hl : j = k → l.st = (d.leg k).st ∧ l.compAt = (d.leg k).compAt) :
    (d.setLeg j l).faulted k := by
  have hnow : (d.setLeg j l).now = d.now := rfl
  by_cases hj : j = k
  · subst hj
    rw [Dev.faulted, Dev.leg_setLeg_same, keptLeg_st, keptLeg_field _ _ _ Leg.compAt fun _ _ _ _ _ => rfl, hnow, (hl rfl).1, (hl rfl).2]
    exact h
  · rw [Dev.faulted, Dev.leg_setLeg_ne _ _ (Ne.symm hj), hnow]
    exact h

theorem Dev.faulted_shutUnit (u : Nat) : (d.shutUnit u).faulted k :=
  Dev.each_invariant (I := fun e => e.faulted k) (fun j _ e he => Dev.faulted_setLeg he j fun hj => by subst hj; exact ⟨rfl, rfl⟩)
    (Dev.faulted_of_same h rfl rfl)

theorem Dev.faulted_powerOnLeg (j : Nat) : (d.powerOnLeg j).faulted k := by
  unfold Dev.powerOnLeg
  extract_lets l
  split
  · exact h
  next hrest =>
    refine Dev.faulted_setLeg h j fun hj => absurd ?_ hrest
    subst hj
    simp [l, Leg.atRest, h.1]

theorem Dev.faulted_overruleTrip (j : Nat) : (d.overruleTrip j).faulted k := by
  unfold Dev.overruleTrip
  extract_lets l
  split
  next hcomp => exact Dev.faulted_setLeg h j fun hj => absurd hcomp.2 (by subst hj; exact h.2)
  · exact h

theorem Dev.faulted_markHsl (j : Nat) : (d.markHsl j true).faulted k := by
  unfold Dev.markHsl
  extract_lets l
  split
  · exact h
  · exact Dev.faulted_setLeg h j fun hj => by subst hj; exact ⟨rfl, rfl⟩

theorem Dev.faulted_order (j : Nat) (a : Action) (hsl : Bool) : (d.order j a hsl).faulted k := by
  by_cases hj : k = j
  · subst hj
    rwa [Dev.order_fault h.1]
  · rw [Dev.faulted, d.order_leg_ne hj, ((FaultKeeps.refl d).order j a hsl).now]
    exact h

theorem Dev.faulted_hslLeg (exiting : Bool) (a : Action) (j : Nat) : (d.hslLeg exiting a j).faulted k := by
  have hover := Dev.faulted_overruleTrip h j
  unfold Dev.hslLeg
  extract_lets e
  split
  · exact Dev.faulted_markHsl hover j
  · exact Dev.faulted_markHsl (Dev.faulted_order hover j a true) j

theorem Dev.faulted_hslApply (u : Nat) (a : Action) : (d.hslApply u a).faulted k := by
  unfold Dev.hslApply
  extract_lets x d1 y d2
  have hd1 : d1.faulted k := by
    simp only [d1]
    split
    · exact Dev.faulted_shutUnit h u
    · exact h
  have hd2 : d2.faulted k := Dev.faulted_of_same hd1 rfl rfl
  exact Dev.each_invariant (I := fun e => e.faulted k) (fun j _ e he => Dev.faulted_hslLeg he x.exiting a j) hd2

theorem Dev.faulted_latchCause (c : CauseReg) (i : Nat) : (d.latchCause c i).faulted k :=
  Dev.faulted_of_same h (Dev.latchCause_keeps Dev.legs (fun _ _ _ => rfl) (fun _ _ _ => rfl) (fun _ _ => rfl) d c i)
    (Dev.latchCause_keeps Dev.now (fun _ _ _ => rfl) (fun _ _ _ => rfl) (fun _ _ => rfl) d c i)

theorem Dev.faulted_chipLockUnit {u : Nat} (hu : u < 32) : (d.chipLockUnit u).faulted k := by
  unfold Dev.chipLockUnit
  extract_lets was d1 d2
  have hd1 : d1.faulted k := Dev.faulted_of_same (Dev.faulted_latchCause h (unitCause u) 7) (Dev.countFault_legs _ _)
    (FaultKeeps.countFault (FaultKeeps.refl _) hu).now
  have hd2 : d2.faulted k := by
    simp only [d2]
    split
    · exact Dev.each_invariant (I := fun e => e.faulted k) (fun j _ e he => Dev.faulted_powerOnLeg he j) hd1
    · exact Dev.faulted_hslApply hd1 u _
  exact Dev.faulted_of_same hd2 rfl rfl

end

/-! ### The chip fault -/

theorem Dev.mem_of_stored {d e : Dev} (h : e.stored = d.stored) : e.mem = d.mem := congrArg Prod.fst h

/-- A chip fault with its cause, count and event, before lock-out. -/
def Dev.chipCaused (d : Dev) (bit : Nat) : Dev :=
  ((d.latchCause chipCause bit).bump 0 F.CHIP_CAUSE_CNT_count).raise Ev.CHIP_FAULT scopeChip bit

/-- A device in lock-out, with its safe outputs low. -/
def Dev.lockedOut (d : Dev) : Dev := ((d.setFld 0 F.HSL_STAT_lockout 1).safeOutLow 0).safeOutLow 1

theorem Dev.faulted_setFld {d : Dev} {k : Nat} (h : d.faulted k) (b : Nat) (f : Fld) (v : Nat) : (d.setFld b f v).faulted k :=
  Dev.faulted_of_same h (Dev.setReg_legs _ _ _) (Dev.setReg_now _ _ _)

theorem Dev.faulted_lockedOut {d : Dev} {k : Nat} (h : d.faulted k) : d.lockedOut.faulted k := by
  unfold Dev.lockedOut Dev.safeOutLow
  exact Dev.faulted_setFld (Dev.faulted_setFld (Dev.faulted_setFld (Dev.faulted_setFld (Dev.faulted_setFld h _ _ _) _ _ _) _ _ _) _ _ _) _ _ _

theorem Dev.chipFault_eq (d : Dev) (bit : Nat) :
    d.chipFault bit = (d.chipCaused bit).lockedOut.each (List.range 32) (fun u d => d.chipLockUnit u) := rfl

theorem Dev.safeOutLow_reg (d : Dev) (n : Nat) {a : Nat} (h1 : a ≠ 0x40020228) (h2 : a ≠ 4 * n + 0x40020220) :
    (d.safeOutLow n).reg a = d.reg a := by
  rw [Dev.safeOutLow, Dev.reg_setFld_ne _ _ _ _ _ h2, Dev.reg_setFld_ne _ _ _ _ _ (by rwa [Nat.zero_add])]

/-- The registers of lock-out and of the chip's cause belong to no unit and to no leg. -/
theorem chip_not_sideReg {a : Nat} (h : a = 0x40020000 ∨ a = 0x40020040) : ¬ SideReg a := by
  rintro (⟨u, hu, h1, h2⟩ | ⟨k, h1, h2⟩)
  · unfold unitReg at h1 h2
    omega
  · unfold legReg blkBase rgnBase at h1 h2
    omega

/-- The units' part of a chip fault writes no register of the chip. -/
theorem Dev.chipFault_reg (d : Dev) (bit : Nat) {a : Nat} (ha : ¬ SideReg a) : (d.chipFault bit).reg a = (d.chipCaused bit).lockedOut.reg a :=
  Dev.each_keeps_of_mem (fun d => d.reg a) _ _ (fun _ hu e => (sideKept_reg ha).chipLockUnit (List.mem_range.mp hu) e) _

theorem Dev.chipFault_lockout (d : Dev) (bit : Nat) : (d.chipFault bit).flag 0 F.HSL_STAT_lockout = true := by
  have hreg : (d.chipFault bit).reg (0 + F.HSL_STAT_lockout.off) = ((d.chipCaused bit).setFld 0 F.HSL_STAT_lockout 1).reg (0 + F.HSL_STAT_lockout.off) := by
    rw [d.chipFault_reg bit (chip_not_sideReg (by norm_num)), Dev.lockedOut, Dev.safeOutLow_reg _ _ (by norm_num) (by norm_num),
      Dev.safeOutLow_reg _ _ (by norm_num) (by norm_num)]
  rw [Dev.flag, Dev.fld_of_reg hreg, Dev.fld_setFld_same _ _ _ _ (by norm_num)]
  rfl

theorem Dev.chipFault_cause (d : Dev) {bit : Nat} (hbit : bit < 8) : bitOf ((d.chipFault bit).reg 0x40020040).toNat bit = true := by
  have hreg : (d.chipFault bit).reg 0x40020040 = (d.latchCause chipCause bit).reg chipCause.at_ := by
    rw [d.chipFault_reg bit (chip_not_sideReg (by norm_num)), Dev.lockedOut, Dev.safeOutLow_reg _ _ (by norm_num) (by norm_num),
      Dev.safeOutLow_reg _ _ (by norm_num) (by norm_num), Dev.reg_setFld_ne _ _ _ _ _ (by norm_num), Dev.chipCaused,
      Dev.raise_reg _ _ _ _ _ (by norm_num) (chip_not_routerReg (by norm_num) (by norm_num)), Dev.bump, Dev.reg_setFld_ne _ _ _ _ _ (by norm_num)]
    rfl
  rw [hreg]
  refine d.latchCause_bit chipCause (by omega) hbit (hbit.trans (by norm_num [chipCause])) fun o ho => ?_
  obtain rfl : o = 4 := by simpa [chipCause] using ho.symm
  norm_num

/-- Every unit is locked out by a chip fault. -/
theorem Dev.chipFault_unit (d : Dev) (bit : Nat) {u : Nat} (hu : u < 32) :
    ((d.chipFault bit).unit u).st = .locked ∧ ((d.chipFault bit).unit u).lockPend = true := by
  refine Dev.each_establishes (I := fun _ => True) (Q := fun e => (e.unit u).st = .locked ∧ (e.unit u).lockPend = true)
    (List.mem_range.mpr hu) (fun _ _ _ _ => trivial) (fun v _ e he => ?_) (fun e _ => ?_) trivial
  · obtain ⟨hst, hpend, hother⟩ := e.chipLockUnit_unit v
    by_cases huv : u = v
    · subst huv
      exact ⟨hst, hpend⟩
    · rwa [hother u huv]
  · obtain ⟨hst, hpend, -⟩ := e.chipLockUnit_unit u
    exact ⟨hst, hpend⟩

theorem Dev.faulted_chipFault {d : Dev} {k : Nat} (h : d.faulted k) (bit : Nat) : (d.chipFault bit).faulted k := by
  have hlatch := Dev.faulted_latchCause h chipCause bit
  have hcaused : (d.chipCaused bit).faulted k := Dev.faulted_of_same hlatch (Dev.raise_legs _ _ _ _ (by norm_num)) (Dev.raise_now _ _ _ _ (by norm_num))
  have hlocked : (d.chipCaused bit).lockedOut.faulted k := Dev.faulted_lockedOut hcaused
  rw [Dev.chipFault_eq]
  exact Dev.each_invariant (I := fun e => e.faulted k) (fun u hu e he => Dev.faulted_chipLockUnit he (List.mem_range.mp hu)) hlocked

/-- Settles O20: an active unit is counted, shut down and decided by its kind, any other is latched and counted; a block fault is the halt of its
lane and the faults of its units, each of which moves its own unit alone; a chip fault locks unit after unit, and no step of it moves a leg in FAULT. -/
theorem faultReactions : Obligations.FaultReactions := by
  refine ⟨fun d u bit hbit => ?_, fun d b bit hbit => ?_⟩
  · have hkeeps := (FaultKeeps.refl d).unitFault u.isLt bit
    refine ⟨d.unitFault_cause u.isLt hbit, hkeeps.mem, (congrArg Dev.seqs hkeeps.rest :), (congrArg Dev.progs hkeeps.rest :), hkeeps.now,
      fun k hk => ((hkeeps.leg k).fault hk).1, fun v hv => d.unitFault_other hv bit, fun hactive => ?_, fun hidle => Dev.unitFault_of_inactive hidle bit⟩
    obtain ⟨hdecided, hwindow, haction, hhead⟩ := Dev.unitFault_of_active u.isLt hactive bit
    exact ⟨d.unitFault_inactive u bit, hdecided, hwindow, fun _ => haction, hhead⟩
  · have hreg : (d.blockFault b bit).reg (blkReg b + 0x40) = (d.latchCause (blkCause b) bit).reg (blkReg b + 0x40) :=
      d.blockFault_reg b bit (by norm_num) (by norm_num) (by norm_num)
    have htime : (d.blockFault b bit).reg (blkReg b + 0x44) = (d.latchCause (blkCause b) bit).reg (blkReg b + 0x44) :=
      d.blockFault_reg b bit (by norm_num) (by norm_num) (by norm_num)
    obtain ⟨hhalts, -, hmem, -⟩ := d.blockFault_halts b bit
    refine ⟨hhalts, fun a ha => d.blockFault_lane ha bit, ?_, fun hfirst => ?_, fun u hu => d.blockFault_other hu bit, hmem,
      d.chipFault_lockout bit, d.chipFault_cause hbit, Dev.mem_of_stored (d.stored_chipFault bit), fun u hu => d.chipFault_unit bit hu,
      fun k hst hcomp => (Dev.faulted_chipFault ⟨hst, hcomp⟩ bit).1⟩
    · rw [hreg]
      exact d.latchCause_blk_bit b hbit
    · rw [hreg, htime]
      exact d.latchCause_blk_first b hbit hfirst

end Sys2Proof.Machine
end

section
/-! What racking a region leaves and writes (R86, R522, R525 to R530). -/

namespace Sys2Proof.Machine

/-! ### What racking leaves -/

/-- What the end of a rack leaves: it depends on no racking and no Vintage, and on nothing that an event changes. -/
structure EndKept {α : Type} (P : Dev → α) : Prop where
  rack : ∀ (d : Dev) r x, P (d.setRack r x) = P d
  trimmed : ∀ (d : Dev) x, P { d with trimmed := x } = P d
  vintage : ∀ (d : Dev) t w, P (d.setReg (4 * (t - 1) + 0x40030044) w) = P d
  raise : ∀ (d : Dev) src scope arg, src < 0x100 → P (d.raise src scope arg) = P d

/-- What the clearing of the lanes leaves: it depends on no lane, LANE_STATUS or program. -/
structure ClearKept {α : Type} (P : Dev → α) : Prop where
  status : ∀ (d : Dev) b w, P (d.setReg (blkReg b + 0x20) w) = P d
  lane : ∀ (d : Dev) b l, P (d.setLane b l) = P d
  prog : ∀ (d : Dev) u p, P (d.setProg u p) = P d

/-- What the steps of racking leave but for the registers of the region and the words to copy. -/
structure RackKept {α : Type} (P : Dev → α) : Prop extends ClearKept P, EndKept P

/-- What the steps after the clearing of the lanes leave: it depends on no register of the region and on no word to copy. -/
structure TailKept (r : Nat) {α : Type} (P : Dev → α) : Prop extends EndKept P where
  rgn : ∀ (d : Dev) (f : Fld) v, f.off < 0x4000 → P (d.setFld (rgnReg r) f v) = P d
  copy : ∀ (d : Dev) b l, P (d.setCopyList b l) = P d

section
variable {α : Type} {P : Dev → α} (h : EndKept P)
include h

theorem EndKept.commitCask (d : Dev) (dest : Nat) : P (d.commitCask dest) = P d := by
  unfold Dev.commitCask
  split
  · exact h.vintage _ _ _
  · rfl

theorem EndKept.noteTrim (d : Dev) (r : Nat) : P (d.noteTrim r) = P d := by
  unfold Dev.noteTrim
  extract_lets d1
  split
  · exact (h.commitCask _ _).trans (h.trimmed _ _)
  · exact h.trimmed _ _

end

section
variable {α : Type} {P : Dev → α} (h : ClearKept P)
include h

theorem ClearKept.renewProgs (d : Dev) (b : Nat) (failed : Bool) : P (d.renewProgs b failed) = P d := by
  refine Dev.each_keeps P _ (fun u e => ?_) _ d
  split
  · rfl
  · exact h.prog _ _ _

theorem ClearKept.clearLane (d : Dev) (b : Nat) (mode : LaneMode) : P (d.clearLane b mode) = P d := (h.lane _ _ _).trans (h.status _ _ _)

theorem ClearKept.clearLanes (d : Dev) (r : Nat) (all first : Bool) : P (d.clearLanes r all first) = P d := by
  refine Dev.each_keeps P _ (fun b e => ?_) _ d
  extract_lets mode
  split
  · exact (h.renewProgs _ _ _).trans (h.clearLane _ _ _)
  · split
    · exact h.lane _ _ _
    · rfl

end

/-- Begin to copy the words of an entry of the state map. -/
def Dev.copyEntry (r : Nat) (back : Bool) (d : Dev) (x : MapEntry) : Dev :=
  d.setCopyList (4 * r + x.blk % 4) (d.copyList (4 * r + x.blk % 4) ++ mapWords (blkBase (4 * r + x.blk % 4) + 0x40000) x back)

/-- The words to copy are all that the start of a copy changes. -/
theorem Dev.copyMap_keeps {α : Type} (P : Dev → α) (h : ∀ (d : Dev) b l, P (d.setCopyList b l) = P d) (d : Dev) (r : Nat) (back : Bool) :
    P (d.copyMap r back) = P d := Dev.foldl_keeps P _ (fun _ _ => h _ _ _) _ d

theorem Dev.copyList_setCopyList (d : Dev) (a b : Nat) (l : List (Nat × Nat)) :
    (d.setCopyList a l).copyList b = if b = a then l else d.copyList b := Store.get_set _ _ _ _ _

/-- Each block gets the words of its own entries (R527). -/
theorem Dev.copyEntries_copyList (r : Nat) (back : Bool) {b : Nat} (hb : b / 4 = r) (l : List MapEntry) (d : Dev) :
    (l.foldl (Dev.copyEntry r back) d).copyList b =
      d.copyList b ++ (l.filter (fun x => x.blk % 4 == b % 4)).flatMap (fun x => mapWords (blkBase b + 0x40000) x back) := by
  induction l generalizing d with
  | nil => simp
  | cons x t ih =>
    rw [List.foldl_cons, ih, Dev.copyEntry, Dev.copyList_setCopyList]
    by_cases hx : x.blk % 4 = b % 4
    · have hblk : b = 4 * r + x.blk % 4 := by omega
      rw [if_pos hblk, ← hblk, List.filter_cons_of_pos (by simpa using hx), List.flatMap_cons, List.append_assoc]
    · rw [if_neg (by omega), List.filter_cons_of_neg (by simpa using hx)]

/-! ### What of a device is kept -/

/-- Units, legs and memory. -/
def Dev.body (d : Dev) : Store UnitRec × Store Leg × Store Byte := (d.units, d.legs, d.mem)

theorem Dev.body_raise (d : Dev) (src scope arg : Nat) (hs : src < 0x100) : (d.raise src scope arg).body = d.body := by
  rw [Dev.body, Dev.raise_units _ _ _ _ hs, Dev.raise_legs _ _ _ _ hs, Dev.raise_mem _ _ _ _ hs, Dev.body]

theorem Dev.of_body {d e : Dev} (h : e.body = d.body) : e.units = d.units ∧ e.legs = d.legs ∧ e.mem = d.mem :=
  ⟨congrArg (fun x => x.1) h, congrArg (fun x => x.2.1) h, congrArg (fun x => x.2.2) h⟩

theorem Dev.body_setReg (d : Dev) (a : Nat) (w : Word) : (d.setReg a w).body = d.body := rfl

theorem rackKept_body : RackKept Dev.body where
  status d _ w := d.body_setReg _ w
  lane _ _ _ := rfl
  prog _ _ _ := rfl
  rack _ _ _ := rfl
  trimmed _ _ := rfl
  vintage d _ w := d.body_setReg _ w
  raise := Dev.body_raise

theorem tailKept_body (r : Nat) : TailKept r Dev.body :=
  { rackKept_body.toEndKept with
    rgn := fun d _ _ _ => d.body_setReg _ _
    copy := fun _ _ _ => rfl }

theorem rackKept_copies : RackKept Dev.copies where
  status d _ w := d.setReg_copies _ w
  lane _ _ _ := rfl
  prog _ _ _ := rfl
  rack _ _ _ := rfl
  trimmed _ _ := rfl
  vintage d _ w := d.setReg_copies _ w
  raise d src scope arg hs := d.raise_copies src scope arg hs

theorem rgnReg_ne_status {q x b : Nat} (hx : x < 0x4000) : rgnReg q + x ≠ blkReg b + 0x20 := by
  unfold rgnReg blkReg blkBase rgnBase
  omega

theorem rgnReg_ne_vintage {q x t : Nat} (hq : q < 4) (hx : x < 0x4000) : rgnReg q + x ≠ 4 * (t - 1) + 0x40030044 := by
  unfold rgnReg rgnBase
  omega

theorem rgnReg_ne_rgnReg {q r x y : Nat} (h : q ≠ r) (hx : x < 0x4000) (hy : y < 0x4000) : rgnReg q + x ≠ rgnReg r + y := by
  unfold rgnReg rgnBase
  omega

theorem rackKept_rgnReg {q x : Nat} (hq : q < 4) (hx : x < 0x4000) : RackKept (fun d => d.reg (rgnReg q + x)) where
  status _ _ _ := Dev.reg_setReg_ne _ _ (rgnReg_ne_status hx)
  lane _ _ _ := rfl
  prog _ _ _ := rfl
  rack _ _ _ := rfl
  trimmed _ _ := rfl
  vintage _ _ _ := Dev.reg_setReg_ne _ _ (rgnReg_ne_vintage hq hx)
  raise d src scope arg hs := d.raise_reg src scope arg _ hs (rgnReg_not_routerReg q x (by omega))

theorem rackKept_fld {q : Nat} (hq : q < 4) {g : Fld} (hg : g.off < 0x4000) : RackKept (fun d => d.fld (rgnReg q) g) :=
  have h := rackKept_rgnReg hq hg
  { status := fun d b w => Dev.fld_of_reg (h.status d b w)
    lane := fun d b l => Dev.fld_of_reg (h.lane d b l)
    prog := fun d u p => Dev.fld_of_reg (h.prog d u p)
    rack := fun d r x => Dev.fld_of_reg (h.rack d r x)
    trimmed := fun d x => Dev.fld_of_reg (h.trimmed d x)
    vintage := fun d t w => Dev.fld_of_reg (h.vintage d t w)
    raise := fun d src scope arg hs => Dev.fld_of_reg (h.raise d src scope arg hs) }

/-! ### Fields of one register set -/

/-- A field that another one's write leaves: of another register, or of other bits. -/
def Fld.free (f g : Fld) : Bool := decide (f.lo + f.w ≤ 32 ∧ (g.off ≠ f.off ∨ g.lo + g.w ≤ f.lo ∨ f.lo + f.w ≤ g.lo))

theorem Dev.fld_setFld_free {f g : Fld} (h : f.free g = true) (d : Dev) (b v : Nat) : (d.setFld b f v).fld b g = d.fld b g := by
  obtain ⟨hw, hapart⟩ := of_decide_eq_true h
  by_cases hoff : g.off = f.off
  · exact Dev.fld_setFld_field _ _ _ _ _ _ hw (by rw [hoff]) (hapart.resolve_left (fun hne => hne hoff))
  · exact Dev.fld_setFld_ne _ _ _ _ _ _ (by omega)

end Sys2Proof.Machine
end

section
/-! Writes of open registers by their fields: RGN_RACK_CTRL and the exchange descriptors (R8, R105, R106, R524, R525). -/

namespace Sys2Proof.Machine

/-! ### Fields of a written word -/

/-- Two fields without a common bit. -/
def FieldRow.clear (f g : FieldRow) : Prop := f.lo + f.w ≤ g.lo ∨ g.lo + g.w ≤ f.lo

/-- A field that a master may write holds what it holds after the write (R8). -/
theorem Dev.wordAfter_field (d : Dev) (m : Master) (old v : Nat) {g : FieldRow} {l : List FieldRow} (hl : l.Pairwise FieldRow.clear) (hg : g ∈ l)
    (hmay : d.mayWrite m g.acc = true) :
    bitsOf (d.wordAfter m old v l) g.lo g.w = g.after (bitsOf old g.lo g.w) (bitsOf v g.lo g.w) % 2 ^ g.w := by
  induction l with
  | nil => cases hg
  | cons f t ih =>
    obtain ⟨hf, ht⟩ := List.pairwise_cons.mp hl
    unfold Dev.wordAfter
    extract_lets rest
    rcases List.mem_cons.mp hg with rfl | hgt
    · rw [if_pos hmay, bitsOf_withBits_same]
    · split
      · rw [bitsOf_withBits_ne _ _ _ _ _ _ (hf g hgt).symm]
        exact ih ht hgt
      · exact ih ht hgt

/-- A row that every master may write, whose fields lie apart within the word. -/
structure Row.Open (r : Row) : Prop where
  masters : r.fields.all (fun f => !f.acc.isGuarded && !f.acc.isNamed) = true
  w1c : r.w1cBits = 0
  apart : r.fields.Pairwise FieldRow.clear
  within : ∀ f ∈ r.fields, f.lo + f.w ≤ 32

theorem Dev.plainWrite_field {a : Nat} {r : Row} (hrow : rowAt a = some r) (hopen : r.Open) (d : Dev) (m : Master) (v : Word) {g : FieldRow}
    (hg : g ∈ r.fields) : bitsOf ((d.plainWrite m a v).reg a).toNat g.lo g.w =
      g.after (bitsOf (d.reg a).toNat g.lo g.w) (bitsOf v.toNat g.lo g.w) % 2 ^ g.w := by
  have hmay : d.mayWrite m g.acc = true := by
    have hacc := List.all_eq_true.mp hopen.masters g hg
    cases h : g.acc <;> simp_all [Acc.isGuarded, Acc.isNamed, Dev.mayWrite]
  rw [Dev.plainWrite_open hrow hopen.masters hopen.w1c, Dev.reg_setReg_same, bitsOf_ofNat (hopen.within g hg),
    Dev.wordAfter_field d m _ _ hopen.apart hg hmay]

/-- A write of an open row sets its word and nothing else. -/
theorem Dev.plainWrite_setReg {a : Nat} {r : Row} (hrow : rowAt a = some r) (hopen : r.Open) (d : Dev) (m : Master) (v : Word) :
    ∃ w, d.plainWrite m a v = d.setReg a w := ⟨_, Dev.plainWrite_open hrow hopen.masters hopen.w1c d m v⟩

/-! ### RGN_RACK_CTRL -/

abbrev rowRackCtrl : Row :=
  ⟨"RGN_RACK_CTRL", 0x3100, [], [⟨0, 1, .wo, 0, none⟩, ⟨1, 1, .wo, 0, none⟩, ⟨2, 2, .rw, 0, none⟩, ⟨4, 1, .rw, 0, none⟩,
    ⟨16, 16, .rw, 64, some (1, 65535)⟩]⟩

theorem rowAt_rackCtrl {r : Nat} (hr : r < 4) : rowAt (rgnReg r + 0x3100) = some rowRackCtrl := by
  rw [rowAt_rgn hr (by norm_num)]
  rfl

theorem rowRackCtrl_open : rowRackCtrl.Open where
  masters := rfl
  w1c := rfl
  apart := by simp [FieldRow.clear]
  within := by simp

/-- A write of RGN_RACK_CTRL in IDLE takes what, loaded and probation, this at least 1 (R525, R528). -/
theorem Dev.plainWrite_rackCtrl (d : Dev) (m : Master) {r : Nat} (hr : r < 4) (v : Word) :
    (d.plainWrite m (rgnReg r + 0x3100) v).fld (rgnReg r) F.RGN_RACK_CTRL_what = bitsOf v.toNat 2 2 ∧
      (d.plainWrite m (rgnReg r + 0x3100) v).flag (rgnReg r) F.RGN_RACK_CTRL_loaded = bitOf v.toNat 4 ∧
      (d.plainWrite m (rgnReg r + 0x3100) v).fld (rgnReg r) F.RGN_RACK_CTRL_probation = max 1 (bitsOf v.toNat 16 16) := by
  have hfield := fun g hg => d.plainWrite_field (rowAt_rackCtrl hr) rowRackCtrl_open m v (g := g) hg
  have hwhat : (d.plainWrite m (rgnReg r + 0x3100) v).fld (rgnReg r) F.RGN_RACK_CTRL_what = bitsOf v.toNat 2 2 % 2 ^ 2 :=
    hfield ⟨2, 2, .rw, 0, none⟩ (by simp)
  have hloaded : (d.plainWrite m (rgnReg r + 0x3100) v).fld (rgnReg r) F.RGN_RACK_CTRL_loaded = bitsOf v.toNat 4 1 % 2 ^ 1 :=
    hfield ⟨4, 1, .rw, 0, none⟩ (by simp)
  have hprobation : (d.plainWrite m (rgnReg r + 0x3100) v).fld (rgnReg r) F.RGN_RACK_CTRL_probation =
      max 1 (min 65535 (bitsOf v.toNat 16 16)) % 2 ^ 16 := hfield ⟨16, 16, .rw, 64, some (1, 65535)⟩ (by simp)
  refine ⟨?_, ?_, ?_⟩
  · rw [hwhat, Nat.mod_eq_of_lt (bitsOf_lt _ _ _)]
  · rw [Dev.flag, hloaded, Nat.mod_eq_of_lt (bitsOf_lt _ _ _), bitsOf_one]
  · have hlt := bitsOf_lt v.toNat 16 16
    rw [hprobation]
    omega

/-! ### Exchange descriptors -/

abbrev rowExch (setB : Bool) : Row :=
  ⟨if setB then "EXCH_CH_B" else "EXCH_CH_A", if setB then 0x800 else 0x400, [(0x4, 256)],
    [⟨0, 2, .rw, 0, none⟩, ⟨4, 4, .rw, 0, none⟩, ⟨8, 5, .rw, 0, none⟩, ⟨16, 6, .rw, 1, some (1, 32)⟩, ⟨31, 1, .rw, 0, none⟩]⟩

/-- The address of an exchange descriptor (R105). -/
def descrAddr (r : Nat) (setB : Bool) (n : Nat) : Nat := rgnReg r + (if setB then 0x800 else 0x400) + 4 * n

theorem descrAddr_eq (r : Nat) (setB : Bool) {n : Nat} (hn : n < 256) : ∃ x, 0x400 ≤ x ∧ x < 0xC00 ∧ descrAddr r setB n = rgnReg r + x := by
  refine ⟨(if setB then 0x800 else 0x400) + 4 * n, ?_, ?_, Nat.add_assoc _ _ _⟩ <;> split <;> omega

theorem rowAt_exch {r : Nat} (hr : r < 4) (setB : Bool) {n : Nat} (hn : n < 256) : rowAt (descrAddr r setB n) = some (rowExch setB) := by
  cases setB with
  | false =>
    have haddr : descrAddr r false n = rgnReg r + (0x400 + 4 * n) := Nat.add_assoc _ _ _
    rw [haddr, rowAt_rgn hr (by omega)]
    refine findRow_of_first (lo := 0x400) (hi := 0x800) rfl (by omega) (by omega) ?_
    simp [Row.holds, onStride]
    omega
  | true =>
    have haddr : descrAddr r true n = rgnReg r + (0x800 + 4 * n) := Nat.add_assoc _ _ _
    rw [haddr, rowAt_rgn hr (by omega)]
    refine findRow_of_first (lo := 0x800) (hi := 0xC00) rfl (by omega) (by omega) ?_
    simp [Row.holds, onStride]
    omega

theorem rowExch_open (setB : Bool) : (rowExch setB).Open where
  masters := rfl
  w1c := rfl
  apart := by simp [FieldRow.clear]
  within := by simp

end Sys2Proof.Machine
end

section
/-! Arming a region and the reasons for which an arm is refused (R525, R528, R530). -/

namespace Sys2Proof.Machine

/-! ### The reasons -/

/-- How far the tick of a rack lies ahead, modulo 2^32. -/
def Dev.tickAhead (d : Dev) (r : Nat) : Nat := (d.fld (rgnReg r) F.RGN_RACK_TICK_k + 2 ^ 32 - d.fld 0 F.TRL_TICK_CNT_k) % 2 ^ 32

/-- Whether an inactive memory of a block that a rack of `what` would put in force holds a lost word. -/
def Dev.imageLost (d : Dev) (r what i : Nat) : Bool :=
  (what == 0 && bitOf (d.reg (blkReg (4 * r + i) + 0x70)).toNat (17 - d.activeSlot r)) ||
    (what != 2 && bitOf (d.reg (blkReg (4 * r + i) + 0x70)).toNat (20 - d.activeBank r))

theorem Dev.rackReason_eq (d : Dev) (r : Nat) : d.rackReason r =
    if d.rackState r ≠ 0 then 1
    else if d.tickAhead r < 2 ∨ 2 ^ 31 < d.tickAhead r then 2
    else if d.fld (rgnReg r) F.RGN_RACK_CTRL_what ≠ 2 ∧ d.flag (rgnReg r) F.RGN_RACK_CTRL_loaded = false then 3
    else if [0, 1, 2, 3].any (d.imageLost r (d.fld (rgnReg r) F.RGN_RACK_CTRL_what)) then 4
    else if d.fld (rgnReg r) F.RGN_RACK_CTRL_what = 0 ∧ d.wcetFits r = false then 5
    else if (d.mapBad r).isSome ∨ d.mapPasses r = false then 6
    else 0 := rfl

theorem Dev.imageLost_iff (d : Dev) (r what i : Nat) : d.imageLost r what i = true ↔
    (what = 0 ∧ bitOf (d.reg (blkReg (4 * r + i) + 0x70)).toNat (17 - d.activeSlot r) = true) ∨
      (what ≠ 2 ∧ bitOf (d.reg (blkReg (4 * r + i) + 0x70)).toNat (20 - d.activeBank r) = true) := by
  simp [Dev.imageLost]

theorem any_block_iff {p : Nat → Bool} : [0, 1, 2, 3].any p = true ↔ ∃ i < 4, p i = true := by
  rw [List.any_eq_true]
  constructor
  · rintro ⟨i, hi, hp⟩
    simp only [List.mem_cons, List.not_mem_nil, or_false] at hi
    exact ⟨i, by omega, hp⟩
  · rintro ⟨i, hi, hp⟩
    refine ⟨i, ?_, hp⟩
    simp only [List.mem_cons, List.not_mem_nil, or_false]
    omega

/-- A state map without entries passes. -/
theorem Dev.map_passes_of_empty {d : Dev} {r : Nat} (h : d.fld (rgnReg r) F.RGN_RACK_MAP_n = 0) :
    d.mapBad r = none ∧ d.mapPasses r = true := by
  constructor
  · rw [Dev.mapBad, h]
    rfl
  · have hmap : d.stateMap r = [] := by
      rw [Dev.stateMap, h]
      rfl
    simp [Dev.mapPasses, hmap, apart]

/-! ### A write of the control register -/

theorem Dev.setReg_laneBudget (d : Dev) (a : Nat) (w : Word) (b : Nat) : (d.setReg a w).laneBudget b = d.laneBudget b := rfl

section
variable {d : Dev} {r : Nat} (w : Word)

theorem Dev.setCtrl_fld {b : Nat} {f : Fld} (h : b + f.off ≠ rgnReg r + 0x3100) : (d.setReg (rgnReg r + 0x3100) w).fld b f = d.fld b f :=
  Dev.fld_of_reg (Dev.reg_setReg_ne _ _ h)

theorem Dev.setCtrl_rgn {f : Fld} (h : f.off ≠ 0x3100) :
    (d.setReg (rgnReg r + 0x3100) w).fld (rgnReg r) f = d.fld (rgnReg r) f := Dev.setCtrl_fld w (by omega)

theorem Dev.setCtrl_tickAhead (hr : r < 4) : (d.setReg (rgnReg r + 0x3100) w).tickAhead r = d.tickAhead r := by
  have hcount : 0 + F.TRL_TICK_CNT_k.off ≠ rgnReg r + 0x3100 := by
    unfold rgnReg rgnBase
    norm_num
    omega
  rw [Dev.tickAhead, Dev.tickAhead, Dev.setCtrl_rgn w (by norm_num), Dev.setCtrl_fld w hcount]

theorem blkReg_ne_ctrl {b x : Nat} (hx : x < 0x8000) : blkReg b + x ≠ rgnReg r + 0x3100 := by
  unfold blkReg blkBase rgnReg rgnBase
  omega

theorem Dev.setCtrl_imageLost (what i : Nat) : (d.setReg (rgnReg r + 0x3100) w).imageLost r what i = d.imageLost r what i := by
  have hslot : (d.setReg (rgnReg r + 0x3100) w).activeSlot r = d.activeSlot r := Dev.setCtrl_rgn w (by norm_num)
  have hbank : (d.setReg (rgnReg r + 0x3100) w).activeBank r = d.activeBank r := Dev.setCtrl_rgn w (by norm_num)
  have hue : (d.setReg (rgnReg r + 0x3100) w).reg (blkReg (4 * r + i) + 0x70) = d.reg (blkReg (4 * r + i) + 0x70) :=
    Dev.reg_setReg_ne _ _ (blkReg_ne_ctrl (by norm_num))
  rw [Dev.imageLost, Dev.imageLost, hslot, hbank, hue]

theorem Dev.setCtrl_wcetFits (hr : r < 4) : (d.setReg (rgnReg r + 0x3100) w).wcetFits r = d.wcetFits r := by
  have hslot : (d.setReg (rgnReg r + 0x3100) w).activeSlot r = d.activeSlot r := Dev.setCtrl_rgn w (by norm_num)
  have hwcet : ∀ b (f : Fld), f.off = 0x2C → (d.setReg (rgnReg r + 0x3100) w).fld (blkReg b) f = d.fld (blkReg b) f := by
    intro b f hf
    exact Dev.setCtrl_fld w (hf ▸ blkReg_ne_ctrl (by norm_num))
  have hbudget : ∀ b, (d.setReg (rgnReg r + 0x3100) w).laneBudget b = d.laneBudget b := fun b => d.setReg_laneBudget _ w b
  have hpending : (d.setReg (rgnReg r + 0x3100) w).flag 0 F.TRL_STATUS_apply_pending = d.flag 0 F.TRL_STATUS_apply_pending := by
    refine congrArg (· != 0) (Dev.setCtrl_fld w ?_)
    unfold rgnReg rgnBase
    norm_num
    omega
  simp only [Dev.wcetFits, hslot, hwcet _ F.LANE_WCET_a rfl, hwcet _ F.LANE_WCET_b rfl, hbudget, hpending]

end

/-- The reason after a write in IDLE, of what was written and of the device before it. -/
theorem Dev.rackReason_written {d : Dev} {m : Master} {r : Nat} {v : Word} (hr : r < 4) (hidle : d.rackState r = 0) :
    (d.plainWrite m (rgnReg r + 0x3100) v).rackReason r =
      if d.tickAhead r < 2 ∨ 2 ^ 31 < d.tickAhead r then 2
      else if bitsOf v.toNat 2 2 ≠ 2 ∧ bitOf v.toNat 4 = false then 3
      else if [0, 1, 2, 3].any (d.imageLost r (bitsOf v.toNat 2 2)) then 4
      else if bitsOf v.toNat 2 2 = 0 ∧ d.wcetFits r = false then 5
      else if ((d.plainWrite m (rgnReg r + 0x3100) v).mapBad r).isSome ∨ (d.plainWrite m (rgnReg r + 0x3100) v).mapPasses r = false then 6
      else 0 := by
  obtain ⟨hwhat, hloaded, -⟩ := d.plainWrite_rackCtrl m hr v
  obtain ⟨w, hw⟩ := Dev.plainWrite_setReg (rowAt_rackCtrl hr) rowRackCtrl_open d m v
  rw [Dev.rackReason_eq, hwhat, hloaded, hw]
  have hstate : (d.setReg (rgnReg r + 0x3100) w).rackState r = 0 := (Dev.setCtrl_rgn w (by norm_num)).trans hidle
  have hlost : (d.setReg (rgnReg r + 0x3100) w).imageLost r (bitsOf v.toNat 2 2) = d.imageLost r (bitsOf v.toNat 2 2) :=
    funext fun i => Dev.setCtrl_imageLost w _ i
  rw [hstate, if_neg (by norm_num), Dev.setCtrl_tickAhead w hr, hlost, Dev.setCtrl_wcetFits w hr]

/-! ### Arms -/

theorem Dev.rackArm_refused {d : Dev} {r k : Nat} (h : d.rackReason r = k) (hpos : 0 < k) (hlt : k < 6) :
    d.rackArm r = d.raise Ev.RACK_REFUSED (scopeRgn r) k := by
  rw [Dev.rackArm, h]
  interval_cases k <;> rfl

/-- A device whose region is armed (R525). -/
def Dev.armed (d : Dev) (r : Nat) : Dev := (d.setRackState r rackArmed).setRack r { d.rack r with armAt := d.now + 1 }

theorem Dev.rackArm_armed {d : Dev} {r : Nat} (h : d.rackReason r = 0) :
    d.rackArm r = (d.armed r).raise Ev.RACK_ARMED (scopeRgn r) (d.fld (rgnReg r) F.RGN_RACK_TICK_k) := by
  rw [Dev.rackArm, h]
  rfl

theorem bitOf_of_mod_four {x : Nat} (h : x % 4 = 1) : bitOf x 0 = true ∧ bitOf x 1 = false := by
  unfold bitOf
  constructor
  · rw [show x / 2 ^ 0 % 2 = 1 by omega]
    rfl
  · rw [show x / 2 ^ 1 % 2 = 0 by omega]
    rfl

theorem Dev.writeRackCtrl_arm {d : Dev} {m : Master} {r : Nat} {v : Word} (h : v.toNat % 4 = 1) :
    (d.rackState r = 0 → d.writeRackCtrl m r v = (d.plainWrite m (rgnReg r + 0x3100) v).rackArm r) ∧
      (d.rackState r ≠ 0 → d.writeRackCtrl m r v =
        (d.setFld (rgnReg r) F.RGN_RACK_CTRL_loaded (bitsOf v.toNat 4 1)).rackArm r) := by
  obtain ⟨harm, hcancel⟩ := bitOf_of_mod_four h
  constructor
  · intro hst
    simp [Dev.writeRackCtrl, harm, hcancel, hst]
  · intro hst
    simp [Dev.writeRackCtrl, harm, hcancel, hst]

/-- What a refused arm leaves: the region's state, its slot and bank, units, legs and memory. -/
structure Dev.ArmRefused (d : Dev) (r k : Nat) (e : Dev) : Prop where
  state : e.rackState r = d.rackState r
  event : ∃ x : Dev, e = x.raise Ev.RACK_REFUSED (scopeRgn r) k
  slot : e.activeSlot r = d.activeSlot r
  bank : e.activeBank r = d.activeBank r
  body : e.body = d.body

theorem Dev.armRefused_raise {d x : Dev} {r : Nat} (k : Nat) (hr : r < 4) (hstat : x.reg (rgnReg r + 0x3108) = d.reg (rgnReg r + 0x3108))
    (hbody : x.body = d.body) : d.ArmRefused r k (x.raise Ev.RACK_REFUSED (scopeRgn r) k) := by
  have hreg : (x.raise Ev.RACK_REFUSED (scopeRgn r) k).reg (rgnReg r + 0x3108) = d.reg (rgnReg r + 0x3108) :=
    ((rackKept_rgnReg hr (by norm_num)).raise _ _ _ _ (by norm_num)).trans hstat
  have hfld : ∀ f : Fld, f.off = 0x3108 → (x.raise Ev.RACK_REFUSED (scopeRgn r) k).fld (rgnReg r) f = d.fld (rgnReg r) f :=
    fun f hf => Dev.fld_of_reg (by rw [hf]; exact hreg)
  exact ⟨hfld _ rfl, ⟨x, rfl⟩, hfld _ rfl, hfld _ rfl, (Dev.body_raise _ _ _ _ (by norm_num)).trans hbody⟩

theorem Dev.armRefused_busy {d : Dev} {m : Master} {r : Nat} {v : Word} (hr : r < 4) (harm : v.toNat % 4 = 1) (hst : d.rackState r ≠ 0) :
    d.ArmRefused r 1 (d.writeRackCtrl m r v) := by
  have hreason : (d.setFld (rgnReg r) F.RGN_RACK_CTRL_loaded (bitsOf v.toNat 4 1)).rackReason r = 1 := by
    have hstate : (d.setFld (rgnReg r) F.RGN_RACK_CTRL_loaded (bitsOf v.toNat 4 1)).rackState r = d.rackState r :=
      Dev.fld_setFld_free (by decide) _ _ _
    rw [Dev.rackReason_eq, hstate, if_pos hst]
  rw [(Dev.writeRackCtrl_arm harm).2 hst, Dev.rackArm_refused hreason (by norm_num) (by norm_num)]
  exact Dev.armRefused_raise 1 hr (Dev.reg_setFld_ne _ _ _ _ _ (by norm_num)) (d.body_setReg _ _)

theorem Dev.armRefused_idle {d : Dev} {m : Master} {r k : Nat} {v : Word} (hr : r < 4) (harm : v.toNat % 4 = 1) (hidle : d.rackState r = 0)
    (hreason : (d.plainWrite m (rgnReg r + 0x3100) v).rackReason r = k) (hpos : 0 < k) (hlt : k < 6) :
    d.ArmRefused r k (d.writeRackCtrl m r v) := by
  obtain ⟨w, hw⟩ := Dev.plainWrite_setReg (rowAt_rackCtrl hr) rowRackCtrl_open d m v
  rw [(Dev.writeRackCtrl_arm harm).1 hidle, Dev.rackArm_refused hreason hpos hlt, hw]
  exact Dev.armRefused_raise k hr (Dev.reg_setReg_ne _ _ (by omega)) (d.body_setReg _ w)

/-! ### Other regions -/

/-- The racking of the other regions stands as before. -/
def Dev.othersKept (d : Dev) (r : Nat) (e : Dev) : Prop :=
  ∀ q, q < 4 → q ≠ r → e.rackState q = d.rackState q ∧ e.activeSlot q = d.activeSlot q ∧ e.activeBank q = d.activeBank q

theorem Dev.othersKept_of_stat {d e : Dev} {r : Nat} (h : ∀ q, q < 4 → q ≠ r → e.reg (rgnReg q + 0x3108) = d.reg (rgnReg q + 0x3108)) :
    d.othersKept r e := fun q hq hne =>
  have hfld : ∀ f : Fld, f.off = 0x3108 → e.fld (rgnReg q) f = d.fld (rgnReg q) f := fun f hf => Dev.fld_of_reg (by rw [hf]; exact h q hq hne)
  ⟨hfld _ rfl, hfld _ rfl, hfld _ rfl⟩

/-- A register of another region stands as a field of this one is written. -/
theorem Dev.setFld_otherRegion (d : Dev) {q r x : Nat} (hne : q ≠ r) (hx : x < 0x4000) {f : Fld} (hf : f.off < 0x4000) (v : Nat) :
    (d.setFld (rgnReg r) f v).reg (rgnReg q + x) = d.reg (rgnReg q + x) := Dev.reg_setFld_ne _ _ _ _ _ (rgnReg_ne_rgnReg hne hx hf)

theorem Dev.body_setFld (d : Dev) (b : Nat) (f : Fld) (v : Nat) : (d.setFld b f v).body = d.body := d.body_setReg _ _

/-- An accepted arm: the region is ARMED with what was written, at its present slot and bank. -/
theorem Dev.writeRackCtrl_armed {d : Dev} {m : Master} {r : Nat} {v : Word} (hr : r < 4) (harm : v.toNat % 4 = 1) (hidle : d.rackState r = 0)
    (hreason : (d.plainWrite m (rgnReg r + 0x3100) v).rackReason r = 0) :
    (d.writeRackCtrl m r v).rackState r = 1 ∧ (d.writeRackCtrl m r v).fld (rgnReg r) F.RGN_RACK_CTRL_what = bitsOf v.toNat 2 2 ∧
      (d.writeRackCtrl m r v).fld (rgnReg r) F.RGN_RACK_CTRL_probation = max 1 (bitsOf v.toNat 16 16) ∧
      (d.writeRackCtrl m r v).activeSlot r = d.activeSlot r ∧ (d.writeRackCtrl m r v).activeBank r = d.activeBank r ∧
      (d.writeRackCtrl m r v).body = d.body ∧ d.othersKept r (d.writeRackCtrl m r v) := by
  obtain ⟨hwhat, -, hprobation⟩ := d.plainWrite_rackCtrl m hr v
  obtain ⟨w, hw⟩ := Dev.plainWrite_setReg (rowAt_rackCtrl hr) rowRackCtrl_open d m v
  have hraise : ∀ (x : Dev) k (f : Fld), f.off < 0x4000 → (x.raise Ev.RACK_ARMED (scopeRgn r) k).fld (rgnReg r) f = x.fld (rgnReg r) f :=
    fun x k f hf => (rackKept_fld hr hf).raise _ _ _ _ (by norm_num)
  have hset : ∀ (x : Dev) (f : Fld), f.off < 0x4000 → F.RGN_RACK_STAT_state.free f = true → (x.armed r).fld (rgnReg r) f = x.fld (rgnReg r) f :=
    fun x f hf hfree => ((rackKept_fld hr hf).rack _ _ _).trans (Dev.fld_setFld_free hfree _ _ _)
  have hstate : ∀ x : Dev, (x.armed r).fld (rgnReg r) F.RGN_RACK_STAT_state = 1 :=
    fun x => ((rackKept_fld hr (by norm_num)).rack _ _ _).trans (Dev.fld_setFld_same _ _ _ _ (by norm_num))
  have hbody : ∀ x : Dev, (x.armed r).body = x.body := fun x => (rackKept_body.rack _ _ _).trans (Dev.body_setFld _ _ _ _)
  rw [(Dev.writeRackCtrl_arm harm).1 hidle, Dev.rackArm_armed hreason, Dev.rackState, Dev.activeSlot, Dev.activeBank]
  rw [hraise _ _ _ (by norm_num), hraise _ _ _ (by norm_num), hraise _ _ _ (by norm_num), hraise _ _ _ (by norm_num), hraise _ _ _ (by norm_num),
    hstate, hset _ _ (by norm_num) (by decide), hset _ _ (by norm_num) (by decide), hset _ _ (by norm_num) (by decide),
    hset _ _ (by norm_num) (by decide), Dev.body_raise _ _ _ _ (by norm_num), hbody]
  refine ⟨rfl, hwhat, hprobation, ?_, ?_, ?_, Dev.othersKept_of_stat fun q hq hne => ?_⟩
  · rw [hw]
    exact Dev.setCtrl_rgn w (by norm_num)
  · rw [hw]
    exact Dev.setCtrl_rgn w (by norm_num)
  · rw [hw]
    exact d.body_setReg _ w
  · have hkept := rackKept_rgnReg hq (x := 0x3108) (by norm_num)
    rw [hw]
    exact (hkept.raise _ _ _ _ (by norm_num)).trans ((hkept.rack _ _ _).trans ((Dev.setFld_otherRegion _ hne (by norm_num) (by norm_num) _).trans
      (Dev.reg_setReg_ne _ _ (rgnReg_ne_rgnReg hne (by norm_num) (by norm_num)))))

/-- A cancel takes an ARMED region back to IDLE (R525). -/
theorem Dev.cancelled_spec (d : Dev) {r : Nat} : (d.setRackState r 0).rackState r = 0 ∧
    (d.setRackState r 0).activeSlot r = d.activeSlot r ∧ (d.setRackState r 0).activeBank r = d.activeBank r ∧
    (d.setRackState r 0).body = d.body ∧ d.othersKept r (d.setRackState r 0) ∧ (d.setRackState r 0).lanes = d.lanes :=
  ⟨Dev.fld_setFld_same _ _ _ _ (by norm_num), Dev.fld_setFld_free (by decide) _ _ _, Dev.fld_setFld_free (by decide) _ _ _,
    Dev.body_setFld _ _ _ _, Dev.othersKept_of_stat fun _ _ hne => Dev.setFld_otherRegion _ hne (by norm_num) (by norm_num) _,
    Dev.setReg_lanes _ _ _⟩

end Sys2Proof.Machine
end

section
/-! The switch of a region, its commit and its un-rack (R526 to R531). -/

namespace Sys2Proof.Machine

/-! ### Cleared lanes -/

/-- The lane of a block and its LANE_STATUS. -/
def Dev.laneView (b : Nat) (d : Dev) : Lane × Word := (d.lane b, d.reg (blkReg b + 0x20))

theorem Dev.laneView_clearLane (d : Dev) (b : Nat) (mode : LaneMode) : (d.clearLane b mode).laneView b = ((d.lane b).cleared mode, 0) := by
  rw [Dev.laneView, Dev.clearLane, Dev.lane_setLane_same, Dev.setLane_reg, Dev.reg_setReg_same]

theorem Dev.laneView_clearLane_ne (d : Dev) {a b : Nat} (h : a ≠ b) (mode : LaneMode) : (d.clearLane a mode).laneView b = d.laneView b := by
  have hreg : blkReg b + 0x20 ≠ blkReg a + 0x20 := by
    unfold blkReg blkBase rgnBase
    omega
  rw [Dev.laneView, Dev.clearLane, Dev.lane_setLane, if_neg h.symm, Dev.setLane_reg, Dev.reg_setReg_ne _ _ hreg, Dev.setReg_lane, Dev.laneView]

theorem Dev.laneView_renewProgs (d : Dev) (a b : Nat) (failed : Bool) : (d.renewProgs a failed).laneView b = d.laneView b := by
  refine Dev.each_keeps (Dev.laneView b) _ (fun u e => ?_) _ d
  split <;> rfl

/-- A lane set's switch clears the lane of each block (R86, R526). -/
theorem Dev.clearLanes_all (d : Dev) (b : Nat) (first : Bool) : (d.clearLanes (b / 4) true first).laneView b =
    ((d.lane b).cleared (if (d.lane b).mode = .halted ∧ first = false then .halted else .done), 0) := by
  obtain ⟨e, he, hat⟩ := Dev.each_at (Dev.laneView b) (fun b d => (d.clearLane b (if (d.lane b).mode = .halted ∧ first = false then .halted else .done)).renewProgs b false)
    (regionBlocks (b / 4)) (regionBlocks_nodup _) (mem_regionBlocks.mpr rfl)
    (fun a _ ha d => (Dev.laneView_renewProgs _ _ _ _).trans (d.laneView_clearLane_ne ha _)) d
  have hlane : e.lane b = d.lane b := congrArg Prod.fst he
  refine Eq.trans hat ?_
  rw [Dev.laneView_renewProgs, Dev.laneView_clearLane, hlane]

/-- Another switch starts the lanes at the region's first rack and leaves them at a later one (R86). -/
theorem Dev.clearLanes_bank (d : Dev) (b : Nat) (first : Bool) : (d.clearLanes (b / 4) false first).lane b =
    if first then { d.lane b with mode := .done } else d.lane b := by
  cases first with
  | false => exact congrArg (fun e : Dev => e.lane b) (Dev.each_fixed (f := fun _ d => d) (fun _ _ => rfl))
  | true =>
    obtain ⟨e, he, hat⟩ := Dev.each_at (fun d => d.lane b) (fun b d => d.setLane b { d.lane b with mode := .done })
      (regionBlocks (b / 4)) (regionBlocks_nodup _) (mem_regionBlocks.mpr rfl)
      (fun a _ ha d => (Dev.lane_setLane _ _ _ _).trans (if_neg ha.symm)) d
    refine Eq.trans hat ?_
    rw [Dev.lane_setLane_same, he, if_pos rfl]

/-! ### What follows the clearing of the lanes -/

/-- The step between the flips of a switch and the copy: lanes cleared, loaded cleared, no trigger but one of this lane cycle (R526, R530). -/
def Dev.cleaned (d : Dev) (r what : Nat) (first : Bool) : Dev :=
  let d2 := (d.clearLanes r (what == 0) first).setFld (rgnReg r) F.RGN_RACK_CTRL_loaded 0
  let x := d2.rack r
  d2.setRack r { x with trig := if what = 0 ∧ x.faultAt = d2.now + 1 then some x.faultSrc else none, due := false, racked := true }

/-- A region in PROBATION with its count. -/
def Dev.onProbation (d : Dev) (r left : Nat) : Dev := (d.setRackState r rackProbation).setFld (rgnReg r) F.RGN_RACK_STAT_left left

/-- The slot and the bank switched. -/
def Dev.flipBoth (d : Dev) (r : Nat) : Dev := (d.flip r F.RGN_RACK_STAT_slot).flip r F.RGN_RACK_STAT_tbank

/-- A region that has switched back, before its lanes are cleared. -/
def Dev.undone (d : Dev) (r : Nat) : Dev :=
  (((d.flipBoth r).setRackState r rackIdle).setFld (rgnReg r) F.RGN_RACK_CTRL_loaded 0).setRack r { d.rack r with trig := none, due := false }

section
variable {d : Dev} {r : Nat}

theorem Dev.rackSwitchNow_set (h : d.fld (rgnReg r) F.RGN_RACK_CTRL_what = 0) : d.rackSwitchNow r =
    (((((d.flipBoth r).cleaned r 0 (!(d.rack r).racked)).onProbation r (d.fld (rgnReg r) F.RGN_RACK_CTRL_probation)).copyMap r false)).raise
      Ev.RACK_SWITCH (scopeRgn r) 0 := by
  unfold Dev.rackSwitchNow
  extract_lets what first d1 d2 x d3 d4 d5
  have hd1 : d1 = d.flipBoth r := if_pos h
  have hd3 : d3 = d1.cleaned r what first := rfl
  have hd4 : d4 = d3.onProbation r (d.fld (rgnReg r) F.RGN_RACK_CTRL_probation) := if_pos h
  have hd5 : d5 = (d4.copyMap r false).raise Ev.RACK_SWITCH (scopeRgn r) what := rfl
  clear_value d5 d4 d3 d1
  rw [if_pos h, hd5, hd4, hd3, hd1, show what = 0 from h]

theorem Dev.rackSwitchNow_trim (h : d.fld (rgnReg r) F.RGN_RACK_CTRL_what = 2) : d.rackSwitchNow r =
    (((((d.flip r F.RGN_RACK_STAT_trim).cleaned r 2 (!(d.rack r).racked)).copyMap r false).raise Ev.RACK_SWITCH (scopeRgn r) 2).rackCommitted r).noteTrim r := by
  have hset : d.fld (rgnReg r) F.RGN_RACK_CTRL_what ≠ 0 := by omega
  unfold Dev.rackSwitchNow
  extract_lets what first d1 d2 x d3 d4 d5
  have hd1 : d1 = d.flip r F.RGN_RACK_STAT_trim := (if_neg hset).trans (if_pos h)
  have hd3 : d3 = d1.cleaned r what first := rfl
  have hd4 : d4 = d3 := if_neg hset
  have hd5 : d5 = (d4.copyMap r false).raise Ev.RACK_SWITCH (scopeRgn r) what := rfl
  clear_value d5 d4 d3 d1
  rw [if_neg hset, if_pos h, hd5, hd4, hd3, hd1, show what = 2 from h]

theorem Dev.rackSwitchNow_bank (h : d.fld (rgnReg r) F.RGN_RACK_CTRL_what = 1 ∨ d.fld (rgnReg r) F.RGN_RACK_CTRL_what = 3) :
    ∃ what dest, what ≠ 0 ∧ d.rackSwitchNow r = (((((d.flip r F.RGN_RACK_STAT_tbank).cleaned r what (!(d.rack r).racked)).copyMap r false).raise
      Ev.RACK_SWITCH (scopeRgn r) what).rackCommitted r).commitCask dest := by
  have hset : d.fld (rgnReg r) F.RGN_RACK_CTRL_what ≠ 0 := by omega
  have htrim : d.fld (rgnReg r) F.RGN_RACK_CTRL_what ≠ 2 := by omega
  unfold Dev.rackSwitchNow
  extract_lets what first d1 d2 x d3 d4 d5
  have hd1 : d1 = d.flip r F.RGN_RACK_STAT_tbank := (if_neg hset).trans (if_neg htrim)
  have hd3 : d3 = d1.cleaned r what first := rfl
  have hd4 : d4 = d3 := if_neg hset
  have hd5 : d5 = (d4.copyMap r false).raise Ev.RACK_SWITCH (scopeRgn r) what := rfl
  refine ⟨what, 12 + 2 * r + d5.activeBank r, hset, ?_⟩
  clear_value d5 d4 d3 d1
  rw [if_neg hset, if_neg htrim, hd5, hd4, hd3, hd1]

theorem Dev.unrackNow_eq (src : Nat) : d.unrackNow r src =
    ((((d.undone r).clearLanes r true false).copyMap r true).bump (rgnReg r) F.RGN_RACK_CNT_unracks).raise Ev.UNRACK (scopeRgn r) src := rfl

end

end Sys2Proof.Machine
end

section
/-! What a switch, a commit and an un-rack do to the region's registers, to its lanes and to the words to copy (R526 to R531). -/

namespace Sys2Proof.Machine

/-! ### What the steps leave -/

section
variable {α : Type} {P : Dev → α} {r : Nat} (h : TailKept r P)
include h

theorem TailKept.copyMap (d : Dev) (back : Bool) : P (d.copyMap r back) = P d := Dev.copyMap_keeps P h.copy d r back

theorem TailKept.flip (d : Dev) {f : Fld} (hf : f.off < 0x4000) : P (d.flip r f) = P d := h.rgn _ _ _ hf

theorem TailKept.flipBoth (d : Dev) : P (d.flipBoth r) = P d := (h.flip _ (by norm_num)).trans (h.flip _ (by norm_num))

theorem TailKept.cleaned (d : Dev) (what : Nat) (first : Bool) : P (d.cleaned r what first) = P (d.clearLanes r (what == 0) first) :=
  (h.rack _ _ _).trans (h.rgn _ _ _ (by norm_num))

theorem TailKept.onProbation (d : Dev) (left : Nat) : P (d.onProbation r left) = P d :=
  (h.rgn _ _ _ (by norm_num)).trans (h.rgn _ _ _ (by norm_num))

theorem TailKept.rackCommitted (d : Dev) : P (d.rackCommitted r) = P d :=
  (h.raise _ _ _ _ (by norm_num)).trans ((h.rgn _ _ _ (by norm_num)).trans (h.rgn _ _ _ (by norm_num)))

theorem TailKept.undone (d : Dev) : P (d.undone r) = P d :=
  (h.rack _ _ _).trans ((h.rgn _ _ _ (by norm_num)).trans ((h.rgn _ _ _ (by norm_num)).trans (h.flipBoth _)))

theorem TailKept.switchSet {d : Dev} (hwhat : d.fld (rgnReg r) F.RGN_RACK_CTRL_what = 0) :
    P (d.rackSwitchNow r) = P ((d.flipBoth r).clearLanes r true (!(d.rack r).racked)) := by
  rw [Dev.rackSwitchNow_set hwhat]
  exact (h.raise _ _ _ _ (by norm_num)).trans ((h.copyMap _ _).trans ((h.onProbation _ _).trans (h.cleaned _ _ _)))

theorem TailKept.switchTrim {d : Dev} (hwhat : d.fld (rgnReg r) F.RGN_RACK_CTRL_what = 2) :
    P (d.rackSwitchNow r) = P ((d.flip r F.RGN_RACK_STAT_trim).clearLanes r false (!(d.rack r).racked)) := by
  rw [Dev.rackSwitchNow_trim hwhat]
  exact (h.noteTrim _ _).trans ((h.rackCommitted _).trans ((h.raise _ _ _ _ (by norm_num)).trans ((h.copyMap _ _).trans (h.cleaned _ _ _))))

theorem TailKept.switchBank {d : Dev} (hwhat : d.fld (rgnReg r) F.RGN_RACK_CTRL_what = 1 ∨ d.fld (rgnReg r) F.RGN_RACK_CTRL_what = 3) :
    P (d.rackSwitchNow r) = P ((d.flip r F.RGN_RACK_STAT_tbank).clearLanes r false (!(d.rack r).racked)) := by
  obtain ⟨what, dest, hset, heq⟩ := Dev.rackSwitchNow_bank hwhat
  have hlanes : (what == 0) = false := by simpa using hset
  rw [heq, ← hlanes]
  exact (h.commitCask _ _).trans ((h.rackCommitted _).trans ((h.raise _ _ _ _ (by norm_num)).trans ((h.copyMap _ _).trans (h.cleaned _ _ _))))

theorem TailKept.unrackNow (d : Dev) (src : Nat) :
    P (d.unrackNow r src) = P ((d.undone r).clearLanes r true false) := by
  rw [Dev.unrackNow_eq]
  exact (h.raise _ _ _ _ (by norm_num)).trans ((h.rgn _ _ _ (by norm_num)).trans (h.copyMap _ _))

end

/-- What neither lanes nor the region's registers touch is left by a switch. -/
theorem RackKept.switchNow {α : Type} {P : Dev → α} {r : Nat} (h : RackKept P) (ht : TailKept r P) (d : Dev) : P (d.rackSwitchNow r) = P d := by
  have hlt : d.fld (rgnReg r) F.RGN_RACK_CTRL_what < 4 := bitsOf_lt _ _ _
  obtain hwhat | hwhat | hwhat : d.fld (rgnReg r) F.RGN_RACK_CTRL_what = 0 ∨ d.fld (rgnReg r) F.RGN_RACK_CTRL_what = 2 ∨
      (d.fld (rgnReg r) F.RGN_RACK_CTRL_what = 1 ∨ d.fld (rgnReg r) F.RGN_RACK_CTRL_what = 3) := by omega
  · exact (ht.switchSet hwhat).trans ((h.clearLanes _ _ _ _).trans (ht.flipBoth _))
  · exact (ht.switchTrim hwhat).trans ((h.clearLanes _ _ _ _).trans (ht.flip _ (by norm_num)))
  · exact (ht.switchBank hwhat).trans ((h.clearLanes _ _ _ _).trans (ht.flip _ (by norm_num)))

theorem RackKept.unrackNow {α : Type} {P : Dev → α} {r : Nat} (h : RackKept P) (ht : TailKept r P) (d : Dev) (src : Nat) :
    P (d.unrackNow r src) = P d := (ht.unrackNow d src).trans ((h.clearLanes _ _ _ _).trans (ht.undone _))

theorem tailKept_otherReg {q r x : Nat} (hq : q < 4) (hne : q ≠ r) (hx : x < 0x4000) : TailKept r (fun d => d.reg (rgnReg q + x)) :=
  { (rackKept_rgnReg hq hx).toEndKept with
    rgn := fun d _ v hf => d.setFld_otherRegion hne hx hf v
    copy := fun _ _ _ => rfl }

/-- Units, legs and memory, and the racking of the other regions, stand as before. -/
structure Dev.RackFrame (d : Dev) (r : Nat) (e : Dev) : Prop where
  body : e.body = d.body
  others : d.othersKept r e

theorem Dev.rackFrame_of {d e : Dev} {r : Nat} (h : ∀ {α : Type} (P : Dev → α), RackKept P → TailKept r P → P e = P d) : d.RackFrame r e :=
  ⟨h _ rackKept_body (tailKept_body r), Dev.othersKept_of_stat fun _ hq hne =>
    h _ (rackKept_rgnReg hq (by norm_num)) (tailKept_otherReg hq hne (by norm_num))⟩

theorem Dev.rackFrame_switchNow (d : Dev) (r : Nat) : d.RackFrame r (d.rackSwitchNow r) := Dev.rackFrame_of fun _ h ht => h.switchNow ht d

theorem Dev.rackFrame_unrackNow (d : Dev) (r src : Nat) : d.RackFrame r (d.unrackNow r src) := Dev.rackFrame_of fun _ h ht => h.unrackNow ht d src

/-! ### The registers of the region -/

section
variable {r : Nat}

theorem Dev.copyMap_fld (d : Dev) (back : Bool) (g : Fld) : (d.copyMap r back).fld (rgnReg r) g = d.fld (rgnReg r) g :=
  Dev.copyMap_keeps (fun d => d.fld (rgnReg r) g) (fun _ _ _ => rfl) d r back

theorem Dev.flip_same (d : Dev) {f : Fld} (hw : f.w = 1) (hlo : f.lo < 32) : (d.flip r f).fld (rgnReg r) f = 1 - d.fld (rgnReg r) f := by
  rw [Dev.flip, Dev.fld_setFld_same _ _ _ _ (by omega), hw]
  exact Nat.mod_eq_of_lt (by omega)

theorem Dev.flip_free (d : Dev) {f g : Fld} (h : f.free g = true) : (d.flip r f).fld (rgnReg r) g = d.fld (rgnReg r) g :=
  Dev.fld_setFld_free h _ _ _

theorem Dev.flipBoth_free (d : Dev) {g : Fld} (h1 : F.RGN_RACK_STAT_slot.free g = true) (h2 : F.RGN_RACK_STAT_tbank.free g = true) :
    (d.flipBoth r).fld (rgnReg r) g = d.fld (rgnReg r) g := (Dev.flip_free _ h2).trans (Dev.flip_free _ h1)

theorem Dev.flipBoth_spec (d : Dev) : (d.flipBoth r).activeSlot r = 1 - d.activeSlot r ∧ (d.flipBoth r).activeBank r = 1 - d.activeBank r := by
  constructor
  · exact (Dev.flip_free (r := r) _ (by decide)).trans (Dev.flip_same _ rfl (by norm_num))
  · exact (Dev.flip_same _ rfl (by norm_num)).trans (congrArg (1 - ·) (Dev.flip_free (r := r) _ (by decide)))

variable (hr : r < 4)
include hr

/-- Of the region's registers the cleaning after a flip writes loaded alone. -/
theorem Dev.cleaned_fld (d : Dev) (what : Nat) (first : Bool) {g : Fld} (hg : g.off < 0x4000) (hfree : F.RGN_RACK_CTRL_loaded.free g = true) :
    (d.cleaned r what first).fld (rgnReg r) g = d.fld (rgnReg r) g :=
  ((rackKept_fld hr hg).rack _ _ _).trans ((Dev.fld_setFld_free hfree _ _ _).trans ((rackKept_fld hr hg).clearLanes _ _ _ _))

theorem Dev.cleaned_loaded (d : Dev) (what : Nat) (first : Bool) : (d.cleaned r what first).fld (rgnReg r) F.RGN_RACK_CTRL_loaded = 0 :=
  ((rackKept_fld hr (by norm_num)).rack _ _ _).trans (Dev.fld_setFld_same _ _ _ _ (by norm_num))

/-- A committed rack leaves the region in IDLE and counts (R526, R529). -/
theorem Dev.rackCommitted_spec (d : Dev) : (d.rackCommitted r).rackState r = 0 ∧
    (d.rackCommitted r).fld (rgnReg r) F.RGN_RACK_CNT_racks = satInc 16 (d.fld (rgnReg r) F.RGN_RACK_CNT_racks) ∧
    ∀ g : Fld, g.off < 0x4000 → F.RGN_RACK_STAT_state.free g = true → F.RGN_RACK_CNT_racks.free g = true →
      (d.rackCommitted r).fld (rgnReg r) g = d.fld (rgnReg r) g := by
  have hraise := fun (x : Dev) k (g : Fld) (hg : g.off < 0x4000) => (rackKept_fld hr hg).raise x Ev.RACK_COMMIT (scopeRgn r) k (by norm_num)
  refine ⟨?_, ?_, fun g hg hstate hcount => ?_⟩
  · exact (hraise _ _ _ (by norm_num)).trans ((Dev.fld_setFld_free (by decide) _ _ _).trans (Dev.fld_setFld_same _ _ _ _ (by norm_num)))
  · refine (hraise _ _ _ (by norm_num)).trans ((Dev.fld_bump_same _ _ _ (by norm_num)).trans (congrArg (satInc 16) ?_))
    exact Dev.fld_setFld_free (by decide) _ _ _
  · exact (hraise _ _ _ hg).trans ((Dev.fld_setFld_free hcount _ _ _).trans (Dev.fld_setFld_free hstate _ _ _))

end

end Sys2Proof.Machine
end

section
/-! A region after a switch, a commit and an un-rack (R86, R526 to R531). -/

namespace Sys2Proof.Machine

/-! ### The words to copy -/

theorem Dev.copyMap_copyList (d : Dev) (b : Nat) (back : Bool) : (d.copyMap (b / 4) back).copyList b = d.copyList b ++
    ((d.stateMap (b / 4)).filter (fun x => x.blk % 4 == b % 4)).flatMap (fun x => mapWords (blkBase b + 0x40000) x back) :=
  Dev.copyEntries_copyList (b / 4) back rfl _ d

theorem Dev.copyList_of_copies {d e : Dev} (h : e.copies = d.copies) (b : Nat) : e.copyList b = d.copyList b :=
  congrArg (fun m => Store.get (fun _ => []) m b) h

/-- The state map is read from its register and the memory. -/
theorem Dev.stateMap_of_mem {d e : Dev} {r : Nat} (hreg : e.reg (rgnReg r + 0x3114) = d.reg (rgnReg r + 0x3114)) (hmem : e.mem = d.mem) :
    e.stateMap r = d.stateMap r := by
  have hn : e.fld (rgnReg r) F.RGN_RACK_MAP_n = d.fld (rgnReg r) F.RGN_RACK_MAP_n := Dev.fld_of_reg hreg
  have haddr : e.fld (rgnReg r) F.RGN_RACK_MAP_addr = d.fld (rgnReg r) F.RGN_RACK_MAP_addr := Dev.fld_of_reg hreg
  have hbytes : ∀ a n, e.bytes a n = d.bytes a n := by
    intro a n
    induction n generalizing a with
    | zero => rfl
    | succ n ih => rw [Dev.bytes, Dev.bytes, ih, Dev.byte, Dev.byte, hmem]
  have hload : ∀ a n, e.loadN a n = d.loadN a n := fun a n => congrArg leNat (hbytes a n)
  rw [Dev.stateMap, Dev.stateMap, hn]
  simp only [Dev.mapBase, haddr, hload]

/-- What is read of the state map and of the words to copy before a copy begins. -/
def Dev.mapView (r : Nat) (d : Dev) : Word × (Store UnitRec × Store Leg × Store Byte) × Store (List (Nat × Nat)) :=
  (d.reg (rgnReg r + 0x3114), d.body, d.copies)

theorem rackKept_mapView {r : Nat} (hr : r < 4) : RackKept (Dev.mapView r) :=
  have hreg := rackKept_rgnReg hr (x := 0x3114) (by norm_num)
  { rack := fun d k x => congrArg₂ Prod.mk (hreg.rack d k x) (congrArg₂ Prod.mk (rackKept_body.rack d k x) (rackKept_copies.rack d k x))
    trimmed := fun d x => congrArg₂ Prod.mk (hreg.trimmed d x) (congrArg₂ Prod.mk (rackKept_body.trimmed d x) (rackKept_copies.trimmed d x))
    vintage := fun d t w => congrArg₂ Prod.mk (hreg.vintage d t w) (congrArg₂ Prod.mk (rackKept_body.vintage d t w) (rackKept_copies.vintage d t w))
    raise := fun d s c a hs => congrArg₂ Prod.mk (hreg.raise d s c a hs) (congrArg₂ Prod.mk (rackKept_body.raise d s c a hs) (rackKept_copies.raise d s c a hs))
    status := fun d b w => congrArg₂ Prod.mk (hreg.status d b w) (congrArg₂ Prod.mk (rackKept_body.status d b w) (rackKept_copies.status d b w))
    lane := fun d b l => congrArg₂ Prod.mk (hreg.lane d b l) (congrArg₂ Prod.mk (rackKept_body.lane d b l) (rackKept_copies.lane d b l))
    prog := fun d u p => congrArg₂ Prod.mk (hreg.prog d u p) (congrArg₂ Prod.mk (rackKept_body.prog d u p) (rackKept_copies.prog d u p)) }

theorem Dev.mapView_setFld (d : Dev) {r : Nat} {f : Fld} (hf : f.off ≠ 0x3114) (v : Nat) : (d.setFld (rgnReg r) f v).mapView r = d.mapView r :=
  congrArg₂ Prod.mk (Dev.reg_setFld_ne _ _ _ _ _ (by omega)) (congrArg₂ Prod.mk (d.body_setReg _ _) (d.setReg_copies _ _))

/-- The region's state map and its words to copy stand up to the copy. -/
theorem Dev.mapView_steps {r : Nat} (hr : r < 4) (d : Dev) : (d.flipBoth r).mapView r = d.mapView r ∧
    (∀ what first, (d.cleaned r what first).mapView r = d.mapView r) ∧ (∀ left, (d.onProbation r left).mapView r = d.mapView r) ∧
    (d.undone r).mapView r = d.mapView r := by
  have h := rackKept_mapView hr
  have hflip : (d.flipBoth r).mapView r = d.mapView r := (Dev.mapView_setFld _ (by norm_num) _).trans (Dev.mapView_setFld _ (by norm_num) _)
  refine ⟨hflip, fun what first => ?_, fun left => ?_, ?_⟩
  · exact (h.rack _ _ _).trans ((Dev.mapView_setFld _ (by norm_num) _).trans (h.clearLanes _ _ _ _))
  · exact (Dev.mapView_setFld _ (by norm_num) _).trans (Dev.mapView_setFld _ (by norm_num) _)
  · exact (h.rack _ _ _).trans ((Dev.mapView_setFld _ (by norm_num) _).trans ((Dev.mapView_setFld _ (by norm_num) _).trans hflip))

/-- The words of the state map are to be copied, in addition to those that were (R526, R527, R529). -/
def Dev.CopyBegun (d : Dev) (r : Nat) (back : Bool) (e : Dev) : Prop := ∀ b, b / 4 = r → e.copyList b = d.copyList b ++
  ((d.stateMap r).filter (fun x => x.blk % 4 == b % 4)).flatMap (fun x => mapWords (blkBase b + 0x40000) x back)

theorem Dev.copyBegun_of {d x e : Dev} {r : Nat} {back : Bool} (hx : x.mapView r = d.mapView r) (he : e.copies = (x.copyMap r back).copies) :
    d.CopyBegun r back e := by
  rintro b rfl
  have hcopies : x.copies = d.copies := congrArg (fun y => y.2.2) hx
  have hmap : x.stateMap (b / 4) = d.stateMap (b / 4) := Dev.stateMap_of_mem (congrArg Prod.fst hx) (Dev.of_body (congrArg (fun y => y.2.1) hx)).2.2
  rw [Dev.copyList_of_copies he, Dev.copyMap_copyList, Dev.copyList_of_copies hcopies, hmap]

/-! ### Lanes after the switch -/

/-- A lane and its LANE_STATUS, but for the freshness of its conditions. -/
def Dev.laneCore (b : Nat) (d : Dev) : Lane × Word := ((d.lane b).core, d.reg (blkReg b + 0x20))

theorem blkReg_ne_rgnReg {b r x y : Nat} (hy : y < 0x8000) (hx : x < 0x4000) : blkReg b + y ≠ rgnReg r + x := by
  unfold blkReg blkBase rgnReg rgnBase
  omega

theorem blkReg_ne_vintage {b y t : Nat} (hb : b < 16) (hy : y < 0x8000) : blkReg b + y ≠ 4 * (t - 1) + 0x40030044 := by
  unfold blkReg blkBase rgnBase
  omega

theorem Dev.laneCore_of {d e : Dev} {b : Nat} (hlane : e.lane b = d.lane b) (hreg : e.reg (blkReg b + 0x20) = d.reg (blkReg b + 0x20)) :
    e.laneCore b = d.laneCore b := by rw [Dev.laneCore, hlane, hreg, Dev.laneCore]

theorem Dev.laneCore_raise (d : Dev) (b src scope arg : Nat) (hs : src < 0x100) : (d.raise src scope arg).laneCore b = d.laneCore b :=
  congrArg₂ Prod.mk (((FaultKeeps.refl d).raise scope arg hs).lane b)
    (d.raise_reg src scope arg _ hs (blkReg_not_routerReg (by norm_num) (by norm_num)))

theorem tailKept_laneCore {b : Nat} (hb : b < 16) (r : Nat) : TailKept r (Dev.laneCore b) where
  rack _ _ _ := rfl
  trimmed _ _ := rfl
  vintage d _ w := Dev.laneCore_of (d.setReg_lane _ w b) (Dev.reg_setReg_ne _ _ (blkReg_ne_vintage hb (by norm_num)))
  raise d src scope arg hs := d.laneCore_raise b src scope arg hs
  rgn d f _ hf := Dev.laneCore_of (d.setReg_lane _ _ b) (Dev.reg_setFld_ne _ _ _ _ _ (blkReg_ne_rgnReg (by norm_num) hf))
  copy _ _ _ := rfl

theorem Lane.eq_of_core {l m : Lane} (h : l.core = m.core) : l = { m with freshAt := l.freshAt, fresh := l.fresh, freshNew := l.freshNew } := by
  calc l = { l.core with freshAt := l.freshAt, fresh := l.fresh, freshNew := l.freshNew } := rfl
    _ = { m.core with freshAt := l.freshAt, fresh := l.fresh, freshNew := l.freshNew } := by rw [h]
    _ = { m with freshAt := l.freshAt, fresh := l.fresh, freshNew := l.freshNew } := rfl

/-- A lane has been cleared into a mode, with its LANE_STATUS (R76, R522, R526). -/
def Dev.LaneCleared (d : Dev) (b : Nat) (mode : LaneMode) (e : Dev) : Prop :=
  e.reg (blkReg b + 0x20) = 0 ∧ ∃ x y z, e.lane b = { (d.lane b).cleared mode with freshAt := x, fresh := y, freshNew := z }

theorem Dev.laneCleared_of {d e x : Dev} {b : Nat} {mode : LaneMode} (he : e.laneCore b = x.laneCore b)
    (hx : x.laneView b = ((d.lane b).cleared mode, 0)) : d.LaneCleared b mode e := by
  have hstatus : e.reg (blkReg b + 0x20) = x.reg (blkReg b + 0x20) := congrArg Prod.snd he
  have hlane : x.lane b = (d.lane b).cleared mode := congrArg Prod.fst hx
  have hcore : (e.lane b).core = ((d.lane b).cleared mode).core := (congrArg Prod.fst he).trans (congrArg Lane.core hlane)
  exact ⟨hstatus.trans (congrArg Prod.snd hx), _, _, _, Lane.eq_of_core hcore⟩

theorem Dev.flip_lane (d : Dev) (r b : Nat) (f : Fld) : (d.flip r f).lane b = d.lane b := d.setReg_lane _ _ b

theorem Dev.flipBoth_lane (d : Dev) (r b : Nat) : (d.flipBoth r).lane b = d.lane b := (Dev.flip_lane _ _ _ _).trans (Dev.flip_lane _ _ _ _)

theorem Dev.undone_lane (d : Dev) (r b : Nat) : (d.undone r).lane b = d.lane b := by
  have hrack : ∀ (x : Dev) y, (x.setRack r y).lane b = x.lane b := fun _ _ => rfl
  rw [Dev.undone, hrack, Dev.setFld, Dev.setReg_lane, Dev.setRackState, Dev.setFld, Dev.setReg_lane, Dev.flipBoth_lane]

/-! ### Events and the racking -/

/-- An event that is no trigger leaves the racking (R529). -/
theorem Dev.raise_racks (d : Dev) {src : Nat} (scope arg : Nat)
    (h : (src == Ev.LANE_OVERRUN || src == Ev.BLOCK_FAULT || src == Ev.REGION_FAULT) = false) : (d.raise src scope arg).racks = d.racks := by
  have htrigger : ∀ e : Dev, e.rackTrigger src scope = e := by
    intro e
    unfold Dev.rackTrigger
    extract_lets r x
    rw [h, if_neg Bool.false_ne_true]
  have hcapture : ∀ e : Dev, (e.captureEvent src).racks = e.racks := by
    intro e
    simp only [Dev.captureEvent, List.foldl, Dev.noteCapture_keeps Dev.racks (fun _ _ _ => rfl)]
  have hlog : ∀ e : Dev, (e.logRaise src scope arg).racks = e.racks := by
    intro e
    unfold Dev.logRaise
    split
    · split
      · rfl
      · exact Dev.setReg_racks _ _ _
    · rfl
  unfold Dev.raise
  extract_lets c x y
  rw [htrigger, hcapture, hlog]
  exact (routeLanes_keeps Dev.racks (fun _ _ _ _ => rfl) (fun _ _ _ => rfl) (fun _ _ _ _ _ => rfl) _ _ _ _).trans
    ((routeCores_keeps Dev.racks (fun _ _ _ _ => rfl) (fun _ _ _ => rfl) _ _ _ _ _).trans (Dev.setReg_racks _ _ _))

theorem Dev.rack_of_racks {d e : Dev} (h : e.racks = d.racks) (r : Nat) : e.rack r = d.rack r :=
  congrArg (fun m => Store.get (fun _ => Rack.initial) m r) h

end Sys2Proof.Machine
end

section
/-! The outcomes of a switch, a commit, an un-rack and a restart (R86, R522, R526 to R531). -/

namespace Sys2Proof.Machine

/-! ### The rack of a lane set -/

section
variable {d : Dev} {r : Nat} (hr : r < 4) (hwhat : d.fld (rgnReg r) F.RGN_RACK_CTRL_what = 0)
include hr hwhat

/-- The region is in PROBATION at the other slot and bank, with its count and nothing loaded (R526). -/
theorem Dev.switchSet_regs : (d.rackSwitchNow r).rackState r = 2 ∧ (d.rackSwitchNow r).activeSlot r = 1 - d.activeSlot r ∧
    (d.rackSwitchNow r).activeBank r = 1 - d.activeBank r ∧
    (d.rackSwitchNow r).fld (rgnReg r) F.RGN_RACK_STAT_left = d.fld (rgnReg r) F.RGN_RACK_CTRL_probation ∧
    (d.rackSwitchNow r).fld (rgnReg r) F.RGN_RACK_CTRL_loaded = 0 := by
  rw [Dev.rackSwitchNow_set hwhat]
  generalize (!(d.rack r).racked) = first
  have hend : ∀ (x : Dev) (g : Fld), g.off < 0x4000 → ((x.copyMap r false).raise Ev.RACK_SWITCH (scopeRgn r) 0).fld (rgnReg r) g = x.fld (rgnReg r) g :=
    fun x g hg => ((rackKept_fld hr hg).raise _ _ _ _ (by norm_num)).trans (x.copyMap_fld false g)
  have hprobation : ∀ (x : Dev) n (g : Fld), F.RGN_RACK_STAT_state.free g = true → F.RGN_RACK_STAT_left.free g = true →
      (x.onProbation r n).fld (rgnReg r) g = x.fld (rgnReg r) g :=
    fun x n g h1 h2 => (Dev.fld_setFld_free h2 _ _ _).trans (Dev.fld_setFld_free h1 _ _ _)
  have hleft : d.fld (rgnReg r) F.RGN_RACK_CTRL_probation < 2 ^ 16 := bitsOf_lt _ _ _
  obtain ⟨hslot, hbank⟩ := d.flipBoth_spec (r := r)
  refine ⟨(hend _ _ (by norm_num)).trans ?_, (hend _ _ (by norm_num)).trans ?_, (hend _ _ (by norm_num)).trans ?_,
    (hend _ _ (by norm_num)).trans ?_, (hend _ _ (by norm_num)).trans ?_⟩
  · exact (Dev.fld_setFld_free (by decide) _ _ _).trans (Dev.fld_setFld_same _ _ _ _ (by norm_num))
  · rw [hprobation _ _ _ (by decide) (by decide), Dev.cleaned_fld hr _ _ _ (by norm_num) (by decide)]
    exact hslot
  · rw [hprobation _ _ _ (by decide) (by decide), Dev.cleaned_fld hr _ _ _ (by norm_num) (by decide)]
    exact hbank
  · exact (Dev.fld_setFld_same _ _ _ _ (by norm_num)).trans (Nat.mod_eq_of_lt hleft)
  · rw [hprobation _ _ _ (by decide) (by decide), Dev.cleaned_loaded hr]

omit hr in
/-- The region counts as racked, and has no trigger but one of this lane cycle (R526, R530). -/
theorem Dev.switchSet_rack : ((d.rackSwitchNow r).rack r).racked = true ∧
    ((d.rack r).faultAt ≠ d.now + 1 → ((d.rackSwitchNow r).rack r).trig = none) := by
  have hrack : (d.rackSwitchNow r).rack r = ((d.flipBoth r).cleaned r 0 (!(d.rack r).racked)).rack r := by
    rw [Dev.rackSwitchNow_set hwhat]
    refine (Dev.rack_of_racks (Dev.raise_racks _ _ _ (by decide)) r).trans ((Dev.copyMap_keeps (fun d => d.rack r) (fun _ _ _ => rfl) _ r false).trans ?_)
    exact (Dev.setReg_rack _ _ _ r).trans (Dev.setReg_rack _ _ _ r)
  have hracks : ∀ x : Dev, (x.clearLanes r true (!(d.rack r).racked)).racks = x.racks :=
    fun x => (⟨fun d _ w => d.setReg_racks _ w, fun _ _ _ => rfl, fun _ _ _ => rfl⟩ : ClearKept Dev.racks).clearLanes x _ _ _
  have hnow : ∀ x : Dev, (x.clearLanes r true (!(d.rack r).racked)).now = x.now :=
    fun x => (⟨fun d _ w => d.setReg_now _ w, fun _ _ _ => rfl, fun _ _ _ => rfl⟩ : ClearKept Dev.now).clearLanes x _ _ _
  have hbefore : (((d.flipBoth r).clearLanes r true (!(d.rack r).racked)).setFld (rgnReg r) F.RGN_RACK_CTRL_loaded 0).rack r = d.rack r :=
    (Dev.setReg_rack _ _ _ r).trans ((Dev.rack_of_racks (hracks _) r).trans ((Dev.setReg_rack _ _ _ r).trans (Dev.setReg_rack _ _ _ r)))
  have hcycle : (((d.flipBoth r).clearLanes r true (!(d.rack r).racked)).setFld (rgnReg r) F.RGN_RACK_CTRL_loaded 0).now = d.now :=
    (Dev.setReg_now _ _ _).trans ((hnow _).trans ((Dev.setReg_now _ _ _).trans (Dev.setReg_now _ _ _)))
  have hcleaned : ((d.flipBoth r).cleaned r 0 (!(d.rack r).racked)).rack r =
      { d.rack r with trig := if 0 = 0 ∧ (d.rack r).faultAt = d.now + 1 then some (d.rack r).faultSrc else none, due := false, racked := true } := by
    unfold Dev.cleaned
    extract_lets d2 x
    have hx : x = d.rack r := hbefore
    have hd2 : d2.now = d.now := hcycle
    rw [Dev.rack_setRack_same, hx, hd2]
  rw [hrack, hcleaned]
  exact ⟨rfl, fun hfault => if_neg fun h => hfault h.2⟩

end

/-- A lane set's rack clears the lanes of the region; a HALTED one stays so but at the first rack (R86, R526). -/
theorem Dev.switchSet_lane {d : Dev} {b : Nat} (hb : b < 16) (hwhat : d.fld (rgnReg (b / 4)) F.RGN_RACK_CTRL_what = 0) :
    d.LaneCleared b (if (d.lane b).mode = .halted ∧ (d.rack (b / 4)).racked = true then .halted else .done) (d.rackSwitchNow (b / 4)) := by
  have hview := (d.flipBoth (b / 4)).clearLanes_all b (!(d.rack (b / 4)).racked)
  rw [Dev.flipBoth_lane] at hview
  simp only [Bool.not_eq_eq_eq_not, Bool.not_false] at hview
  exact Dev.laneCleared_of ((tailKept_laneCore hb (b / 4)).switchSet hwhat) hview

theorem Dev.switchSet_copies {d : Dev} {r : Nat} (hr : r < 4) (hwhat : d.fld (rgnReg r) F.RGN_RACK_CTRL_what = 0) :
    d.CopyBegun r false (d.rackSwitchNow r) := by
  obtain ⟨hflip, -⟩ := Dev.mapView_steps hr d
  obtain ⟨-, hcleaned, -⟩ := Dev.mapView_steps hr (d.flipBoth r)
  obtain ⟨-, -, hprobation, -⟩ := Dev.mapView_steps hr ((d.flipBoth r).cleaned r 0 (!(d.rack r).racked))
  refine Dev.copyBegun_of ((hprobation (d.fld (rgnReg r) F.RGN_RACK_CTRL_probation)).trans ((hcleaned _ _).trans hflip)) ?_
  rw [Dev.rackSwitchNow_set hwhat]
  exact rackKept_copies.raise _ _ _ _ (by norm_num)

/-! ### The rack of tables and of trims -/

section
variable {r : Nat} (hr : r < 4)
include hr

/-- A field of the region that the end of a rack at once leaves, after its flip. -/
theorem Dev.endAtOnce_fld (d : Dev) (what what' : Nat) (first : Bool) {g : Fld} (hg : g.off < 0x4000) (h1 : F.RGN_RACK_STAT_state.free g = true)
    (h2 : F.RGN_RACK_CNT_racks.free g = true) (h3 : F.RGN_RACK_CTRL_loaded.free g = true) :
    ((((d.cleaned r what first).copyMap r false).raise Ev.RACK_SWITCH (scopeRgn r) what').rackCommitted r).fld (rgnReg r) g = d.fld (rgnReg r) g := by
  obtain ⟨-, -, hcommit⟩ := Dev.rackCommitted_spec hr (((d.cleaned r what first).copyMap r false).raise Ev.RACK_SWITCH (scopeRgn r) what')
  rw [hcommit g hg h1 h2]
  exact ((rackKept_fld hr hg).raise _ _ _ _ (by norm_num)).trans ((Dev.copyMap_fld _ _ _).trans (Dev.cleaned_fld hr _ _ _ hg h3))

/-- Before the count of a rack that commits at once, the region counts as before. -/
theorem Dev.endAtOnce_count (d : Dev) (what what' : Nat) (first : Bool) :
    ((((d.cleaned r what first).copyMap r false).raise Ev.RACK_SWITCH (scopeRgn r) what').rackCommitted r).rackState r = 0 ∧
      ((((d.cleaned r what first).copyMap r false).raise Ev.RACK_SWITCH (scopeRgn r) what').rackCommitted r).fld (rgnReg r) F.RGN_RACK_CNT_racks =
        satInc 16 (d.fld (rgnReg r) F.RGN_RACK_CNT_racks) := by
  obtain ⟨hstate, hcount, -⟩ := Dev.rackCommitted_spec hr (((d.cleaned r what first).copyMap r false).raise Ev.RACK_SWITCH (scopeRgn r) what')
  refine ⟨hstate, hcount.trans (congrArg (satInc 16) ?_)⟩
  exact ((rackKept_fld hr (by norm_num)).raise _ _ _ _ (by norm_num)).trans
    ((Dev.copyMap_fld _ _ _).trans (Dev.cleaned_fld hr _ _ _ (by norm_num) (by decide)))

/-- A rack of tables commits at once at the other bank (R526). -/
theorem Dev.switchBank_regs {d : Dev} (hwhat : d.fld (rgnReg r) F.RGN_RACK_CTRL_what = 1 ∨ d.fld (rgnReg r) F.RGN_RACK_CTRL_what = 3) :
    (d.rackSwitchNow r).rackState r = 0 ∧ (d.rackSwitchNow r).activeSlot r = d.activeSlot r ∧
      (d.rackSwitchNow r).activeBank r = 1 - d.activeBank r ∧
      (d.rackSwitchNow r).fld (rgnReg r) F.RGN_RACK_CNT_racks = satInc 16 (d.fld (rgnReg r) F.RGN_RACK_CNT_racks) := by
  obtain ⟨what, dest, -, heq⟩ := Dev.rackSwitchNow_bank hwhat
  rw [heq]
  have hcask := fun (x : Dev) (g : Fld) (hg : g.off < 0x4000) => (rackKept_fld hr hg).commitCask x dest
  obtain ⟨hstate, hcount⟩ := Dev.endAtOnce_count hr (d.flip r F.RGN_RACK_STAT_tbank) what what (!(d.rack r).racked)
  have hkeep := fun g => Dev.endAtOnce_fld hr (d.flip r F.RGN_RACK_STAT_tbank) what what (!(d.rack r).racked) (g := g)
  refine ⟨(hcask _ _ (by norm_num)).trans hstate, (hcask _ _ (by norm_num)).trans ?_, (hcask _ _ (by norm_num)).trans ?_,
    (hcask _ _ (by norm_num)).trans ?_⟩
  · exact (hkeep _ (by norm_num) (by decide) (by decide) (by decide)).trans (Dev.flip_free d (by decide))
  · exact (hkeep _ (by norm_num) (by decide) (by decide) (by decide)).trans (Dev.flip_same d rfl (by norm_num))
  · exact hcount.trans (congrArg (satInc 16) (Dev.flip_free d (by decide)))

/-- A rack of trims commits at once with the other trims (R526, R531). -/
theorem Dev.switchTrim_regs {d : Dev} (hwhat : d.fld (rgnReg r) F.RGN_RACK_CTRL_what = 2) :
    (d.rackSwitchNow r).rackState r = 0 ∧ (d.rackSwitchNow r).activeSlot r = d.activeSlot r ∧
      (d.rackSwitchNow r).activeBank r = d.activeBank r ∧
      (d.rackSwitchNow r).fld (rgnReg r) F.RGN_RACK_STAT_trim = 1 - d.fld (rgnReg r) F.RGN_RACK_STAT_trim := by
  rw [Dev.rackSwitchNow_trim hwhat]
  have htrim := fun (x : Dev) (g : Fld) (hg : g.off < 0x4000) => (rackKept_fld hr hg).noteTrim x r
  obtain ⟨hstate, -⟩ := Dev.endAtOnce_count hr (d.flip r F.RGN_RACK_STAT_trim) 2 2 (!(d.rack r).racked)
  have hkeep := fun g => Dev.endAtOnce_fld hr (d.flip r F.RGN_RACK_STAT_trim) 2 2 (!(d.rack r).racked) (g := g)
  refine ⟨(htrim _ _ (by norm_num)).trans hstate, (htrim _ _ (by norm_num)).trans ?_, (htrim _ _ (by norm_num)).trans ?_,
    (htrim _ _ (by norm_num)).trans ?_⟩
  · exact (hkeep _ (by norm_num) (by decide) (by decide) (by decide)).trans (Dev.flip_free d (by decide))
  · exact (hkeep _ (by norm_num) (by decide) (by decide) (by decide)).trans (Dev.flip_free d (by decide))
  · exact (hkeep _ (by norm_num) (by decide) (by decide) (by decide)).trans (Dev.flip_same d rfl (by norm_num))

theorem Dev.switchBank_copies {d : Dev} (hwhat : d.fld (rgnReg r) F.RGN_RACK_CTRL_what = 1 ∨ d.fld (rgnReg r) F.RGN_RACK_CTRL_what = 3) :
    d.CopyBegun r false (d.rackSwitchNow r) := by
  obtain ⟨what, dest, -, heq⟩ := Dev.rackSwitchNow_bank hwhat
  obtain ⟨-, hcleaned, -⟩ := Dev.mapView_steps hr (d.flip r F.RGN_RACK_STAT_tbank)
  refine Dev.copyBegun_of ((hcleaned what (!(d.rack r).racked)).trans (Dev.mapView_setFld _ (by norm_num) _)) ?_
  have hcommit : ∀ x : Dev, (x.rackCommitted r).copies = x.copies := fun x =>
    (rackKept_copies.raise _ _ _ _ (by norm_num)).trans ((Dev.setReg_copies _ _ _).trans (Dev.setReg_copies _ _ _))
  rw [heq, rackKept_copies.commitCask, hcommit]
  exact rackKept_copies.raise _ _ _ _ (by norm_num)

end

/-- A rack of tables leaves the lanes where they are, and starts them at the region's first rack (R86, R526). -/
theorem Dev.switchBank_lane {d : Dev} {b : Nat} (hb : b < 16)
    (hwhat : d.fld (rgnReg (b / 4)) F.RGN_RACK_CTRL_what = 1 ∨ d.fld (rgnReg (b / 4)) F.RGN_RACK_CTRL_what = 3) :
    ((d.rackSwitchNow (b / 4)).lane b).mode = (if (d.rack (b / 4)).racked then (d.lane b).mode else .done) ∧
      ((d.rackSwitchNow (b / 4)).lane b).pc = (d.lane b).pc := by
  have hlane := (d.flip (b / 4) F.RGN_RACK_STAT_tbank).clearLanes_bank b (!(d.rack (b / 4)).racked)
  rw [Dev.flip_lane] at hlane
  have hcore : ((d.rackSwitchNow (b / 4)).lane b).core = (if !(d.rack (b / 4)).racked then { d.lane b with mode := .done } else d.lane b : Lane).core :=
    (congrArg Prod.fst ((tailKept_laneCore hb (b / 4)).switchBank hwhat)).trans (congrArg Lane.core hlane)
  have hmode : ((d.rackSwitchNow (b / 4)).lane b).mode = _ := (congrArg Lane.mode hcore :)
  have hpc : ((d.rackSwitchNow (b / 4)).lane b).pc = _ := (congrArg Lane.pc hcore :)
  rw [hmode, hpc]
  cases (d.rack (b / 4)).racked <;> exact ⟨rfl, rfl⟩

/-! ### A refusal at the tick, and a commit -/

/-- A rack whose worst cases do not fit the new timing is dropped (R530). -/
theorem Dev.switchRefused_spec (d : Dev) {r : Nat} (hr : r < 4) :
    ((d.setRackState r 0).raise Ev.RACK_REFUSED (scopeRgn r) 7).rackState r = 0 ∧
      ((d.setRackState r 0).raise Ev.RACK_REFUSED (scopeRgn r) 7).activeSlot r = d.activeSlot r ∧
      ((d.setRackState r 0).raise Ev.RACK_REFUSED (scopeRgn r) 7).activeBank r = d.activeBank r ∧
      d.RackFrame r ((d.setRackState r 0).raise Ev.RACK_REFUSED (scopeRgn r) 7) := by
  obtain ⟨hstate, hslot, hbank, -⟩ := d.cancelled_spec (r := r)
  have hraise := fun (g : Fld) (hg : g.off < 0x4000) => (rackKept_fld hr hg).raise (d.setRackState r 0) Ev.RACK_REFUSED (scopeRgn r) 7 (by norm_num)
  exact ⟨(hraise _ (by norm_num)).trans hstate, (hraise _ (by norm_num)).trans hslot, (hraise _ (by norm_num)).trans hbank,
    Dev.rackFrame_of fun _ h ht => (h.raise _ _ _ _ (by norm_num)).trans (ht.rgn _ _ _ (by norm_num))⟩

/-- A rack commits with its region in IDLE, counted (R529). -/
theorem Dev.committed_spec (d : Dev) {r : Nat} (hr : r < 4) (x y : Nat) :
    (((d.rackCommitted r).commitCask x).commitCask y).rackState r = 0 ∧
      (((d.rackCommitted r).commitCask x).commitCask y).activeSlot r = d.activeSlot r ∧
      (((d.rackCommitted r).commitCask x).commitCask y).activeBank r = d.activeBank r ∧
      d.RackFrame r (((d.rackCommitted r).commitCask x).commitCask y) ∧
      (((d.rackCommitted r).commitCask x).commitCask y).fld (rgnReg r) F.RGN_RACK_CNT_racks = satInc 16 (d.fld (rgnReg r) F.RGN_RACK_CNT_racks) := by
  obtain ⟨hstate, hcount, hkeep⟩ := Dev.rackCommitted_spec hr d
  have hcask : ∀ g : Fld, g.off < 0x4000 → (((d.rackCommitted r).commitCask x).commitCask y).fld (rgnReg r) g = (d.rackCommitted r).fld (rgnReg r) g :=
    fun g hg => ((rackKept_fld hr hg).commitCask _ _).trans ((rackKept_fld hr hg).commitCask _ _)
  exact ⟨(hcask _ (by norm_num)).trans hstate, (hcask _ (by norm_num)).trans (hkeep _ (by norm_num) (by decide) (by decide)),
    (hcask _ (by norm_num)).trans (hkeep _ (by norm_num) (by decide) (by decide)),
    Dev.rackFrame_of fun _ h ht => (h.commitCask _ _).trans ((h.commitCask _ _).trans (ht.rackCommitted _)), (hcask _ (by norm_num)).trans hcount⟩

/-! ### An un-rack -/

/-- A region that switches back is in IDLE at the slot and bank before, counted, with nothing loaded (R529). -/
theorem Dev.unrackNow_regs (d : Dev) {r : Nat} (hr : r < 4) (src : Nat) : (d.unrackNow r src).rackState r = 0 ∧
    (d.unrackNow r src).activeSlot r = 1 - d.activeSlot r ∧ (d.unrackNow r src).activeBank r = 1 - d.activeBank r ∧
    (d.unrackNow r src).fld (rgnReg r) F.RGN_RACK_CNT_unracks = satInc 16 (d.fld (rgnReg r) F.RGN_RACK_CNT_unracks) ∧
    (d.unrackNow r src).fld (rgnReg r) F.RGN_RACK_CTRL_loaded = 0 := by
  rw [Dev.unrackNow_eq]
  have hclear : ∀ g : Fld, g.off < 0x4000 → (((d.undone r).clearLanes r true false).copyMap r true).fld (rgnReg r) g = (d.undone r).fld (rgnReg r) g :=
    fun g hg => (Dev.copyMap_fld _ _ _).trans ((rackKept_fld hr hg).clearLanes _ _ _ _)
  have hend : ∀ g : Fld, g.off < 0x4000 → F.RGN_RACK_CNT_unracks.free g = true →
      (((((d.undone r).clearLanes r true false).copyMap r true).bump (rgnReg r) F.RGN_RACK_CNT_unracks).raise Ev.UNRACK (scopeRgn r) src).fld (rgnReg r) g =
        (d.undone r).fld (rgnReg r) g :=
    fun g hg hfree => ((rackKept_fld hr hg).raise _ _ _ _ (by norm_num)).trans ((Dev.fld_setFld_free hfree _ _ _).trans (hclear g hg))
  have hundone : ∀ g : Fld, g.off < 0x4000 → F.RGN_RACK_CTRL_loaded.free g = true → F.RGN_RACK_STAT_state.free g = true →
      (d.undone r).fld (rgnReg r) g = (d.flipBoth r).fld (rgnReg r) g :=
    fun g hg h1 h2 => ((rackKept_fld hr hg).rack _ _ _).trans ((Dev.fld_setFld_free h1 _ _ _).trans (Dev.fld_setFld_free h2 _ _ _))
  obtain ⟨hslot, hbank⟩ := d.flipBoth_spec (r := r)
  refine ⟨(hend _ (by norm_num) (by decide)).trans ?_, (hend _ (by norm_num) (by decide)).trans ?_, (hend _ (by norm_num) (by decide)).trans ?_,
    ?_, (hend _ (by norm_num) (by decide)).trans ?_⟩
  · exact ((rackKept_fld hr (by norm_num)).rack _ _ _).trans ((Dev.fld_setFld_free (by decide) _ _ _).trans (Dev.fld_setFld_same _ _ _ _ (by norm_num)))
  · exact (hundone _ (by norm_num) (by decide) (by decide)).trans hslot
  · exact (hundone _ (by norm_num) (by decide) (by decide)).trans hbank
  · refine ((rackKept_fld hr (by norm_num)).raise _ _ _ _ (by norm_num)).trans ((Dev.fld_bump_same _ _ _ (by norm_num)).trans (congrArg (satInc 16) ?_))
    exact (hclear _ (by norm_num)).trans ((hundone _ (by norm_num) (by decide) (by decide)).trans (d.flipBoth_free (by decide) (by decide)))
  · exact ((rackKept_fld hr (by norm_num)).rack _ _ _).trans (Dev.fld_setFld_same _ _ _ _ (by norm_num))

theorem Dev.unrackNow_lane (d : Dev) {b : Nat} (hb : b < 16) (src : Nat) :
    d.LaneCleared b (if (d.lane b).mode = .halted then .halted else .done) (d.unrackNow (b / 4) src) := by
  have hview := (d.undone (b / 4)).clearLanes_all b false
  rw [Dev.undone_lane] at hview
  simp only [and_true] at hview
  exact Dev.laneCleared_of ((tailKept_laneCore hb (b / 4)).unrackNow d src) hview

theorem Dev.unrackNow_copies (d : Dev) {r : Nat} (hr : r < 4) (src : Nat) : d.CopyBegun r true (d.unrackNow r src) := by
  obtain ⟨-, -, -, hundone⟩ := Dev.mapView_steps hr d
  refine Dev.copyBegun_of (((rackKept_mapView hr).clearLanes (d.undone r) r true false).trans hundone) ?_
  rw [Dev.unrackNow_eq]
  exact (rackKept_copies.raise _ _ _ _ (by norm_num)).trans (Dev.setReg_copies _ _ _)

end Sys2Proof.Machine
end

section
/-! Restarts, the entry and worst-case registers, exchange descriptors, and the settling of the statement on racking (R99, R106, R152, R522, R524 to R530). -/

namespace Sys2Proof.Machine

/-! ### The restart of a lane -/

theorem bitOf_zero_iff (x : Nat) : bitOf x 0 = true ↔ x % 2 = 1 := by
  unfold bitOf
  rw [show x / 2 ^ 0 % 2 = x % 2 by omega]
  exact beq_iff_eq

/-- A lane is restarted from HALTED, with no cause of its block or region and no lost word in what it uses (R522). -/
theorem Dev.mayRestart_iff (d : Dev) (b : Nat) : d.mayRestart b = true ↔ (d.lane b).mode = .halted ∧ d.reg (blkReg b + 0x40) = 0 ∧
    d.reg (rgnReg (b / 4) + 0x40) = 0 ∧ bitOf (d.reg (blkReg b + 0x70)).toNat (16 + d.activeSlot (b / 4)) = false ∧
    bitOf (d.reg (blkReg b + 0x70)).toNat (19 + d.activeBank (b / 4)) = false ∧ bitOf (d.reg (blkReg b + 0x70)).toNat 18 = false := by
  simp [Dev.mayRestart, and_assoc]

/-- No un-rack falls due in this lane cycle. -/
theorem Dev.unrackFirst_quiet {d : Dev} {r : Nat} (h : (d.rack r).trig = none ∨ d.rackState r ≠ 2 ∨
    ((d.rack r).due = false ∧ (d.stepNow : Int) + 31 < d.trl.nextStep)) : d.unrackFirst r = d := by
  unfold Dev.unrackFirst
  split
  next src htrig =>
    refine if_neg fun hdue => ?_
    obtain hnone | hstate | ⟨hnot, hlate⟩ := h
    · rw [htrig] at hnone
      cases hnone
    · exact hstate hdue.1
    · obtain hyes | htick := hdue.2
      · rw [hnot] at hyes
        cases hyes
      · omega
  · rfl

theorem Dev.unrackFirst_due {d : Dev} {r : Nat} (h : ¬ ((d.rack r).trig = none ∨ d.rackState r ≠ 2 ∨
    ((d.rack r).due = false ∧ (d.stepNow : Int) + 31 < d.trl.nextStep))) : ∃ src, d.unrackFirst r = d.unrackNow r src := by
  obtain ⟨htrig, hstate, hdue⟩ := not_or.mp h |>.imp_right not_or.mp
  obtain ⟨src, hsrc⟩ := Option.ne_none_iff_exists'.mp htrig
  refine ⟨src, ?_⟩
  have hnow : (d.rack r).due = true ∨ d.trl.nextStep ≤ (d.stepNow : Int) + 31 := by
    cases hd : (d.rack r).due with
    | true => exact .inl rfl
    | false => exact .inr (not_lt.mp fun hlt => hdue ⟨hd, hlt⟩)
  unfold Dev.unrackFirst
  rw [hsrc]
  exact if_pos ⟨not_not.mp hstate, hnow⟩

theorem Dev.clearLane_cleared (d : Dev) (b : Nat) (mode : LaneMode) : d.LaneCleared b mode (d.clearLane b mode) :=
  Dev.laneCleared_of rfl (d.laneView_clearLane b mode)

theorem Dev.clearLane_lane_ne (d : Dev) {a b : Nat} (h : a ≠ b) (mode : LaneMode) : (d.clearLane b mode).lane a = d.lane a := by
  rw [Dev.clearLane, Dev.lane_setLane, if_neg h, Dev.setReg_lane]

/-- What a restart, granted or refused, leaves of the region and of units, legs and memory. -/
theorem RackKept.restarted {α : Type} {P : Dev → α} (h : RackKept P) (d : Dev) (b : Nat) :
    P (if d.mayRestart b then d.clearLane b .done else d.raise Ev.LANE_RESTART_REFUSED (scopeBlk b) 0) = P d := by
  split
  · exact h.clearLane _ _ _
  · exact h.raise _ _ _ _ (by norm_num)

theorem Dev.writeBlkCtrl_zero {d : Dev} {b : Nat} {v : Word} (h : v.toNat % 2 = 0) : d.writeBlkCtrl b v = d :=
  if_neg fun hbit => by
    have hone := (bitOf_zero_iff _).mp hbit
    omega

theorem Dev.writeBlkCtrl_one {d : Dev} {b : Nat} {v : Word} (h : v.toNat % 2 = 1) : d.writeBlkCtrl b v =
    if (d.unrackFirst (b / 4)).mayRestart b then (d.unrackFirst (b / 4)).clearLane b .done
    else (d.unrackFirst (b / 4)).raise Ev.LANE_RESTART_REFUSED (scopeBlk b) 0 := if_pos ((bitOf_zero_iff _).mpr h)

/-! ### The restart of DMA channels -/

/-- A STOPPED channel goes to IDLE. -/
def Dev.restartChan (r c : Nat) (d : Dev) : Dev := if d.dmaState r c = dmaStopped then d.setDmaState r c dmaIdle else d

theorem Dev.restartChan_keeps {α : Type} (P : Dev → α) (h : ∀ (d : Dev) a w, P (d.setReg a w) = P d) (r c : Nat) (d : Dev) :
    P (d.restartChan r c) = P d := by
  unfold Dev.restartChan
  split
  · exact h _ _ _
  · rfl

theorem Dev.restartChan_same (d : Dev) (r c : Nat) : (d.restartChan r c).dmaState r c = if d.dmaState r c = 3 then 0 else d.dmaState r c := by
  unfold Dev.restartChan
  split
  · exact Dev.fld_setFld_same _ _ _ _ (by norm_num)
  · rfl

theorem Dev.restartChan_ne (d : Dev) {r a c : Nat} (h : a ≠ c) : (d.restartChan r a).dmaState r c = d.dmaState r c := by
  unfold Dev.restartChan
  split
  · refine Dev.fld_setFld_ne _ _ _ _ _ _ ?_
    unfold dmaBase
    omega
  · rfl

/-- With no cause of the region a write of 1 restarts its DMA channels (R522). -/
theorem Dev.writeRestartDma_spec {d : Dev} {r : Nat} {v : Word} (hv : v.toNat % 2 = 1) (hcause : d.reg (rgnReg r + 0x40) = 0) :
    (d.writeRestartDma r v).body = d.body ∧ (d.writeRestartDma r v).dma = d.dma ∧
      ∀ c < 4, (d.writeRestartDma r v).dmaState r c = if d.dmaState r c = 3 then 0 else d.dmaState r c := by
  have heq : d.writeRestartDma r v = d.each [0, 1, 2, 3] (fun c e => e.restartChan r c) :=
    if_pos (by rw [(bitOf_zero_iff _).mpr hv, hcause]; rfl)
  rw [heq]
  refine ⟨Dev.each_keeps Dev.body _ (Dev.restartChan_keeps Dev.body Dev.body_setReg r) _ _,
    Dev.each_keeps Dev.dma _ (Dev.restartChan_keeps Dev.dma Dev.setReg_dma r) _ _, fun c hc => ?_⟩
  have hmem : c ∈ [0, 1, 2, 3] := by
    simp only [List.mem_cons, List.not_mem_nil, or_false]
    omega
  obtain ⟨e, he, hat⟩ := Dev.each_at (fun e => e.dmaState r c) (fun c e => e.restartChan r c) [0, 1, 2, 3] (by decide) hmem
    (fun a _ ha e => e.restartChan_ne ha) d
  refine hat.trans ((e.restartChan_same r c).trans ?_)
  rw [show e.dmaState r c = d.dmaState r c from he]

theorem Dev.writeRestartDma_none {d : Dev} {r : Nat} {v : Word} (h : v.toNat % 2 = 0 ∨ d.reg (rgnReg r + 0x40) ≠ 0) : d.writeRestartDma r v = d := by
  refine if_neg fun hand => ?_
  obtain ⟨hbit, hcause⟩ := Bool.and_eq_true_iff.mp hand
  obtain hzero | hne := h
  · have hone := (bitOf_zero_iff _).mp hbit
    omega
  · exact hne (beq_iff_eq.mp hcause)

/-! ### Registers with a field of each slot -/

/-- A write takes the field of the other slot, and is refused where it would change the active slot's (R99, R152). -/
theorem Dev.writeSlotPair_spec (d : Dev) (b : Nat) {fa fb : Fld} (hab : fa.free fb = true) (hba : fb.free fa = true) (hoff : fb.off = fa.off)
    (hlt : fa.off < 0x8000) (hcond : fa.off ≠ 0x30) (v : Word) :
    let active := if d.activeSlot (b / 4) = 0 then fa else fb
    let other := if d.activeSlot (b / 4) = 0 then fb else fa
    (d.writeSlotPair b fa fb v).fld (blkReg b) other = bitsOf v.toNat other.lo other.w ∧
      (d.writeSlotPair b fa fb v).fld (blkReg b) active = d.fld (blkReg b) active ∧ (d.writeSlotPair b fa fb v).body = d.body ∧
      (bitsOf v.toNat active.lo active.w ≠ d.fld (blkReg b) active →
        ∃ x : Dev, d.writeSlotPair b fa fb v = x.raise Ev.LANE_MEM_REFUSED (scopeBlk b) (blkReg b + active.off)) := by
  intro active other
  have hfree : other.free active = true := by
    simp only [active, other]
    split
    · exact hba
    · exact hab
  have hactive : active.off = fa.off := by
    simp only [active]
    split
    · rfl
    · exact hoff
  have hother : other.off = fa.off := by
    simp only [other]
    split
    · exact hoff
    · rfl
  have hwidth : other.lo + other.w ≤ 32 := (of_decide_eq_true hfree).1
  have hnew : (d.setFld (blkReg b) other (fget v other)).fld (blkReg b) other = bitsOf v.toNat other.lo other.w :=
    (Dev.fld_setFld_same _ _ _ _ hwidth).trans (Nat.mod_eq_of_lt (bitsOf_lt _ _ _))
  have hold : (d.setFld (blkReg b) other (fget v other)).fld (blkReg b) active = d.fld (blkReg b) active := Dev.fld_setFld_free hfree _ _ _
  have hraise : ∀ f : Fld, f.off = fa.off → ((d.setFld (blkReg b) other (fget v other)).raise Ev.LANE_MEM_REFUSED (scopeBlk b) (blkReg b + fa.off)).fld (blkReg b) f =
      (d.setFld (blkReg b) other (fget v other)).fld (blkReg b) f :=
    fun f hf => Dev.raise_fld _ (by norm_num) _ _ _ _ (by rw [hf]; exact blkReg_not_routerReg hlt hcond)
  have heq : d.writeSlotPair b fa fb v = if fget v active = d.fld (blkReg b) active then d.setFld (blkReg b) other (fget v other)
      else (d.setFld (blkReg b) other (fget v other)).raise Ev.LANE_MEM_REFUSED (scopeBlk b) (blkReg b + fa.off) := rfl
  by_cases hsame : fget v active = d.fld (blkReg b) active
  · rw [heq, if_pos hsame]
    exact ⟨hnew, hold, d.body_setReg _ _, fun hne => absurd hsame hne⟩
  · rw [heq, if_neg hsame, hactive]
    exact ⟨(hraise _ hother).trans hnew, (hraise _ hactive).trans hold, (Dev.body_raise _ _ _ _ (by norm_num)).trans (d.body_setReg _ _), fun _ => ⟨_, rfl⟩⟩

/-! ### Exchange descriptors -/

theorem Dev.writeExch_eq (d : Dev) (m : Master) (r : Nat) (setB : Bool) (n : Nat) (v : Word) : d.writeExch m r setB n v =
    if setB == (d.activeSlot r == 1) then d.raise Ev.EXCH_CFG_REFUSED (scopeRgn r) (descrAddr r setB n)
    else if d.rackState r ≠ rackIdle ∧ d.armedHere r = false then d.raise Ev.LANE_MEM_REFUSED (scopeRgn r) (descrAddr r setB n)
    else (d.unload r).plainWrite m (descrAddr r setB n) v := rfl

/-- The set in force is the one of the active slot. -/
theorem Dev.exchInForce_iff (d : Dev) (r : Nat) (setB : Bool) : (setB == (d.activeSlot r == 1)) = true ↔ d.activeSlot r = if setB then 1 else 0 := by
  have hlt : d.activeSlot r < 2 := bitsOf_lt _ _ _
  cases setB with
  | true => simp
  | false =>
    have hiff : ((d.activeSlot r == 1) = false) ↔ d.activeSlot r = 0 := by
      rw [beq_eq_false_iff_ne]
      omega
    simpa using hiff

/-- An unload of IDLE clears loaded alone; one of an arm of the same cycle may also take that back, with an event. -/
theorem Dev.unload_spec (d : Dev) {r : Nat} (hr : r < 4) : (d.unload r).fld (rgnReg r) F.RGN_RACK_CTRL_loaded = 0 ∧ (d.unload r).body = d.body ∧
    (d.rackState r = 0 → (d.unload r).lanes = d.lanes) := by
  unfold Dev.unload
  extract_lets d1
  have hloaded : d1.fld (rgnReg r) F.RGN_RACK_CTRL_loaded = 0 := Dev.fld_setFld_same _ _ _ _ (by norm_num)
  have hbody : d1.body = d.body := d.body_setReg _ _
  have hlanes : d1.lanes = d.lanes := d.setReg_lanes _ _
  clear_value d1
  split
  next harmed =>
    refine ⟨?_, ?_, fun hidle => absurd harmed ?_⟩
    · exact ((rackKept_fld hr (by norm_num)).raise _ _ _ _ (by norm_num)).trans ((Dev.fld_setFld_free (by decide) _ _ _).trans hloaded)
    · exact (Dev.body_raise _ _ _ _ (by norm_num)).trans ((Dev.body_setReg _ _ _).trans hbody)
    · have hstate : d.fld (rgnReg r) F.RGN_RACK_STAT_state = 0 := hidle
      simp [Dev.armedHere, hstate]
  · exact ⟨hloaded, hbody, fun _ => hlanes⟩

/-- An accepted descriptor: nothing is loaded, and its fields are those written (R106, R524). -/
theorem Dev.writeExch_accepted {d : Dev} {m : Master} {r : Nat} (hr : r < 4) {setB : Bool} {n : Nat} (hn : n < 256) {v : Word} :
    ((d.unload r).plainWrite m (descrAddr r setB n) v).fld (rgnReg r) F.RGN_RACK_CTRL_loaded = 0 ∧
      ((d.unload r).plainWrite m (descrAddr r setB n) v).body = d.body ∧
      (d.rackState r = 0 → ((d.unload r).plainWrite m (descrAddr r setB n) v).lanes = d.lanes) ∧
      ∀ f ∈ [(0, 2), (4, 4), (8, 5), (31, 1)],
        bitsOf (((d.unload r).plainWrite m (descrAddr r setB n) v).reg (descrAddr r setB n)).toNat f.1 f.2 = bitsOf v.toNat f.1 f.2 := by
  obtain ⟨hloaded, hbody, hlanes⟩ := d.unload_spec hr
  obtain ⟨w, hw⟩ := Dev.plainWrite_setReg (rowAt_exch hr setB hn) (rowExch_open setB) (d.unload r) m v
  have hfield : ∀ lo k, (⟨lo, k, .rw, 0, none⟩ : FieldRow) ∈ (rowExch setB).fields →
      bitsOf (((d.unload r).plainWrite m (descrAddr r setB n) v).reg (descrAddr r setB n)).toNat lo k = bitsOf v.toNat lo k :=
    fun lo k hg => ((d.unload r).plainWrite_field (rowAt_exch hr setB hn) (rowExch_open setB) m v hg).trans (Nat.mod_eq_of_lt (bitsOf_lt _ _ _))
  obtain ⟨x, hlo, hhi, haddr⟩ := descrAddr_eq r setB hn
  refine ⟨?_, ?_, fun hidle => ?_, fun f hf => ?_⟩
  · rw [hw]
    refine (Dev.fld_setReg_ne _ _ _ _ _ ?_).trans hloaded
    rw [haddr, show F.RGN_RACK_CTRL_loaded.off = 0x3100 from rfl]
    omega
  · rw [hw]
    exact ((d.unload r).body_setReg _ w).trans hbody
  · rw [hw]
    exact ((d.unload r).setReg_lanes _ w).trans (hlanes hidle)
  · simp only [List.mem_cons, List.not_mem_nil, or_false] at hf
    obtain rfl | rfl | rfl | rfl := hf <;> exact hfield _ _ (by simp)

end Sys2Proof.Machine
end

section
/-! The settling of the statement on racking (R86, R99, R106, R152, R522, R524 to R530). -/

namespace Sys2Proof.Machine

/-! ### The instructions -/

theorem exec_rackArm (m : Master) (r : RegionId) (v : Word) (s : State) : exec (.rackArm m r v) s = .next ⟨s.dev.writeRackCtrl m r v, s.pending⟩ := rfl

theorem exec_rackCancel (m : Master) (r : RegionId) (s : State) :
    (s.dev.rackState r = 1 → exec (.rackCancel m r) s = .next ⟨s.dev.setRackState r 0, s.pending⟩) ∧
      (s.dev.rackState r ≠ 1 → exec (.rackCancel m r) s = .next s) :=
  ⟨fun h => congrArg (fun d => Host.Outcome.next (State.mk d s.pending)) (if_pos h),
    fun h => congrArg (fun d => Host.Outcome.next (State.mk d s.pending)) (if_neg h)⟩

/-- The tick of an ARMED region has come. -/
def Dev.switchDue (d : Dev) (r : Nat) : Prop := d.rackState r = 1 ∧ d.fld 0 F.TRL_TICK_CNT_k = d.fld (rgnReg r) F.RGN_RACK_TICK_k

theorem exec_rackSwitch_idle {r : RegionId} {s : State} (h : ¬ s.dev.switchDue r) : exec (.rackSwitch r) s = .next s :=
  congrArg (fun d => Host.Outcome.next (State.mk d s.pending)) (if_neg h)

theorem exec_rackSwitch_now {r : RegionId} {s : State} (h : s.dev.switchDue r) (hsteady : s.dev.trl.appliedStep ≠ some s.dev.trl.tickStep) :
    exec (.rackSwitch r) s = .next ⟨s.dev.rackSwitchNow r, s.pending⟩ :=
  congrArg (fun d => Host.Outcome.next (State.mk d s.pending)) ((if_pos h).trans (if_neg fun hmoved => hsteady hmoved.1))

theorem exec_rackSwitch_refused {r : RegionId} {s : State} (h : s.dev.switchDue r) (happlied : s.dev.trl.appliedStep = some s.dev.trl.tickStep)
    (hwhat : s.dev.fld (rgnReg r) F.RGN_RACK_CTRL_what = 0) (hfits : s.dev.wcetFits r = false) :
    exec (.rackSwitch r) s = .next ⟨(s.dev.setRackState r 0).raise Ev.RACK_REFUSED (scopeRgn r) 7, s.pending⟩ :=
  congrArg (fun d => Host.Outcome.next (State.mk d s.pending)) ((if_pos h).trans (if_pos ⟨happlied, hwhat, hfits⟩))

theorem exec_rackCommit (r : RegionId) (s : State) :
    (s.dev.rackState r = 2 ∧ s.dev.fld (rgnReg r) F.RGN_RACK_STAT_left = 0 ∧ (s.dev.rack r).trig = none → exec (.rackCommit r) s =
      .next ⟨((s.dev.rackCommitted r).commitCask (4 + 2 * r + s.dev.activeSlot r)).commitCask (12 + 2 * r + s.dev.activeBank r), s.pending⟩) ∧
      (¬ (s.dev.rackState r = 2 ∧ s.dev.fld (rgnReg r) F.RGN_RACK_STAT_left = 0 ∧ (s.dev.rack r).trig = none) → exec (.rackCommit r) s = .next s) :=
  ⟨fun h => congrArg (fun d => Host.Outcome.next (State.mk d s.pending)) (if_pos h),
    fun h => congrArg (fun d => Host.Outcome.next (State.mk d s.pending)) (if_neg h)⟩

/-- An un-rack that has fallen due (R529). -/
def Dev.unrackDue (d : Dev) (r : Nat) : Dev :=
  match (d.rack r).trig with
  | some src => if d.rackState r = rackProbation ∧ (d.rack r).due = true then d.unrackNow r src else d
  | none => d

theorem exec_unrack (r : RegionId) (s : State) : exec (.unrack r) s = .next ⟨s.dev.unrackDue r, s.pending⟩ := rfl

theorem Dev.unrackDue_now {d : Dev} {r src : Nat} (hstate : d.rackState r = 2) (htrig : (d.rack r).trig = some src) (hdue : (d.rack r).due = true) :
    d.unrackDue r = d.unrackNow r src := by
  unfold Dev.unrackDue
  rw [htrig]
  exact if_pos ⟨hstate, hdue⟩

theorem Dev.unrackDue_none {d : Dev} {r : Nat} (h : d.rackState r ≠ 2 ∨ (d.rack r).trig = none ∨ (d.rack r).due = false) : d.unrackDue r = d := by
  unfold Dev.unrackDue
  split
  next src htrig =>
    refine if_neg fun hnow => ?_
    obtain hstate | hnone | hdue := h
    · exact hstate hnow.1
    · rw [htrig] at hnone
      cases hnone
    · rw [hdue] at hnow
      cases hnow.2
  · rfl

theorem exec_blkCtrlRestart (m : Master) (b : BlockId) (v : Word) (s : State) :
    exec (.blkCtrlRestart m b v) s = .next ⟨s.dev.writeBlkCtrl b v, s.pending⟩ := rfl

theorem exec_rgnRestartDma (m : Master) (r : RegionId) (v : Word) (s : State) :
    exec (.rgnRestartDma m r v) s = .next ⟨s.dev.writeRestartDma r v, s.pending⟩ := rfl

theorem exec_laneEntryWrite (m : Master) (b : BlockId) (v : Word) (s : State) :
    exec (.laneEntryWrite m b v) s = .next ⟨s.dev.writeSlotPair b F.LANE_ENTRY_a F.LANE_ENTRY_b v, s.pending⟩ := rfl

theorem exec_laneWcetWrite (m : Master) (b : BlockId) (v : Word) (s : State) :
    exec (.laneWcetWrite m b v) s = .next ⟨s.dev.writeSlotPair b F.LANE_WCET_a F.LANE_WCET_b v, s.pending⟩ := rfl

theorem exec_exchChWrite (m : Master) (r : RegionId) (setB : Bool) (n : Fin 256) (v : Word) (s : State) :
    exec (.exchChWrite m r setB n v) s = .next ⟨s.dev.writeExch m r setB n v, s.pending⟩ := rfl

/-- A state map without entries passes after a write of RGN_RACK_CTRL, and the arm has no reason against it. -/
theorem Dev.rackReason_sound {d : Dev} {m : Master} {r : Nat} {v : Word} (hr : r < 4) (hidle : d.rackState r = 0)
    (hahead : ¬ (d.tickAhead r < 2 ∨ 2 ^ 31 < d.tickAhead r)) (hloaded : ¬ (bitsOf v.toNat 2 2 ≠ 2 ∧ bitOf v.toNat 4 = false))
    (hlost : ¬ [0, 1, 2, 3].any (d.imageLost r (bitsOf v.toNat 2 2)) = true) (hfits : ¬ (bitsOf v.toNat 2 2 = 0 ∧ d.wcetFits r = false))
    (hmap : d.fld (rgnReg r) F.RGN_RACK_MAP_n = 0) : (d.plainWrite m (rgnReg r + 0x3100) v).rackReason r = 0 := by
  obtain ⟨w, hw⟩ := Dev.plainWrite_setReg (rowAt_rackCtrl hr) rowRackCtrl_open d m v
  have hempty : (d.plainWrite m (rgnReg r + 0x3100) v).fld (rgnReg r) F.RGN_RACK_MAP_n = 0 := by
    rw [hw]
    exact (Dev.setCtrl_rgn w (by norm_num)).trans hmap
  obtain ⟨hbad, hpasses⟩ := Dev.map_passes_of_empty hempty
  rw [Dev.rackReason_written hr hidle, if_neg hahead, if_neg hloaded, if_neg hlost, if_neg hfits, hbad, hpasses]
  rfl

/-- Settles O51: a refused arm leaves what `Dev.ArmRefused` names; switch, commit and un-rack are chains of steps, of which each keeps what it does not name
(`EndKept`, `ClearKept`, `TailKept`) and the fields of the region are read off step by step. -/
theorem regionRacking : Obligations.RegionRacking := by
  intro m r b v setB n s d st what field frame others refusedArm word ahead early w lost sound armOnly mapless blocks cleared copied modeAfter swapped kept
    due steady descr inForce restartable quiet pairs
  have hr := r.isLt
  have hb := b.isLt
  have hrb : b.val / 4 < 4 := by omega
  have hframe : ∀ {e : Dev}, e.body = d.body → frame e := fun h => Dev.of_body h
  have hrefused : ∀ {k e}, d.ArmRefused r k e → refusedArm e k ∧ kept e ∧ frame e :=
    fun h => ⟨⟨h.state, h.event⟩, ⟨h.slot, h.bank⟩, Dev.of_body h.body⟩
  have hreason := fun hidle => Dev.rackReason_written (d := d) (m := m) (v := v) hr hidle
  have htick : d.fld (rgnReg r) F.RGN_RACK_TICK_k = word.toNat := by
    rw [Dev.fld, fget, bitsOf, pow_zero, Nat.div_one, Nat.mod_eq_of_lt (BitVec.isLt _)]
  have hahead : d.tickAhead r = ahead := by rw [Dev.tickAhead, htick]
  have hearly : (d.tickAhead r < 2 ∨ 2 ^ 31 < d.tickAhead r) ↔ early := by rw [hahead]
  have hlost : [0, 1, 2, 3].any (d.imageLost r w) = true ↔ ∃ i < 4, lost i :=
    any_block_iff.trans (exists_congr fun i => and_congr_right fun _ => d.imageLost_iff r w i)
  have hwidth : w < 4 := bitsOf_lt _ _ _
  have hdue : due ↔ d.switchDue r := by rw [Dev.switchDue, htick]
  have hblocks : ∀ {p : Nat → Prop}, (∀ k, k < 16 → k / 4 = r.val → p k) → blocks p := fun h i hi => h _ (by omega) (by omega)
  have hcopied : ∀ {back e}, d.CopyBegun r back e → copied e back := fun h => hblocks fun k _ hk => h k hk
  refine ⟨fun harm hst => ?_, fun harm hst he => ?_, fun harm hst he hw hload => ?_, fun harm hst he hload hl => ?_,
    fun harm hst he hload hw hl hfits => ?_, fun harm hst he hsound hmap => ?_, fun hst => ?_, (exec_rackCancel m r s).2, fun hnot => ?_,
    fun hnow hsteady hwhat => ?_, fun hnow hsteady hwhat => ?_, fun hnow hsteady hwhat => ?_, fun hnow hsteady hwhat hfits => ?_,
    fun hst hleft htrig => ?_, (exec_rackCommit r s).2, fun src hst htrig hd => ?_, fun h => ?_, fun hv hq hmay => ?_, fun hv hq hmay => ?_,
    fun hv hq => ?_, fun hv => ?_, fun hv hcause => ?_, fun h => ?_, fun x hx => ?_, fun hin => ?_, fun hin hst harmed => ?_, fun hin hst => ?_⟩
  · rw [exec_rackArm, State.answers_next]
    exact hrefused (Dev.armRefused_busy hr harm hst)
  · rw [exec_rackArm, State.answers_next]
    exact hrefused (Dev.armRefused_idle hr harm hst ((hreason hst).trans (if_pos (hearly.mpr he))) (by norm_num) (by norm_num))
  · rw [exec_rackArm, State.answers_next]
    exact hrefused (Dev.armRefused_idle hr harm hst ((hreason hst).trans ((if_neg (mt hearly.mp he)).trans (if_pos ⟨hw, hload⟩)))
      (by norm_num) (by norm_num))
  · rw [exec_rackArm, State.answers_next]
    have hloaded : ¬ (w ≠ 2 ∧ bitOf v.toNat 4 = false) := by simp [hload]
    exact hrefused (Dev.armRefused_idle hr harm hst ((hreason hst).trans ((if_neg (mt hearly.mp he)).trans ((if_neg hloaded).trans
      (if_pos (hlost.mpr hl))))) (by norm_num) (by norm_num))
  · rw [exec_rackArm, State.answers_next]
    have hloaded : ¬ (w ≠ 2 ∧ bitOf v.toNat 4 = false) := by simp [hload]
    have hnone : ¬ [0, 1, 2, 3].any (d.imageLost r w) = true := fun h => by
      obtain ⟨i, hi, hli⟩ := hlost.mp h
      exact hl i hi hli
    exact hrefused (Dev.armRefused_idle hr harm hst ((hreason hst).trans ((if_neg (mt hearly.mp he)).trans ((if_neg hloaded).trans
      ((if_neg hnone).trans (if_pos ⟨hw, hfits⟩))))) (by norm_num) (by norm_num))
  · rw [exec_rackArm, State.answers_next]
    have hloaded : ¬ (w ≠ 2 ∧ bitOf v.toNat 4 = false) := fun h => by
      rw [(hsound h.1).1] at h
      cases h.2
    have hnone : ¬ [0, 1, 2, 3].any (d.imageLost r w) = true := fun h => by
      obtain ⟨i, hi, hli⟩ := hlost.mp h
      have htwo : w ≠ 2 := hli.elim (fun h0 => by omega) (fun h2 => h2.1)
      exact (hsound htwo).2.1 i hi hli
    have hfit : ¬ (w = 0 ∧ d.wcetFits r = false) := fun h => by
      rw [(hsound (by omega)).2.2 h.1] at h
      cases h.2
    obtain ⟨hstate, hwhat, hprobation, hslot, hbank, hbody, hothers⟩ := Dev.writeRackCtrl_armed (m := m) hr harm hst
      (Dev.rackReason_sound hr hst (mt hearly.mp he) hloaded hnone hfit hmap)
    exact ⟨hstate, hwhat, hprobation, ⟨hslot, hbank⟩, hframe hbody, hothers⟩
  · obtain ⟨hstate, hslot, hbank, hbody, hothers, hlanes⟩ := d.cancelled_spec (r := r)
    rw [(exec_rackCancel m r s).1 hst, State.answers_next]
    exact ⟨hstate, ⟨hslot, hbank⟩, hframe hbody, hothers, hlanes⟩
  · exact exec_rackSwitch_idle (mt hdue.mpr hnot)
  · obtain ⟨hstate, hslot, hbank, hleft, hloaded⟩ := Dev.switchSet_regs hr hwhat
    obtain ⟨hracked, htrig⟩ := Dev.switchSet_rack hwhat
    obtain ⟨hbody, hothers⟩ := d.rackFrame_switchNow r
    rw [exec_rackSwitch_now (hdue.mp hnow) hsteady, State.answers_next]
    have hlanes : ∀ k, k < 16 → k / 4 = r.val → cleared (d.rackSwitchNow r) k (modeAfter k) := fun k hk hkr => by
      have hlane := Dev.switchSet_lane (d := d) hk (by rw [hkr]; exact hwhat)
      rwa [hkr] at hlane
    exact ⟨hstate, ⟨hslot, hbank⟩, hframe hbody, hothers, hleft, hloaded, hracked, hcopied (Dev.switchSet_copies hr hwhat), htrig, hblocks hlanes⟩
  · obtain ⟨hstate, hslot, hbank, hracks⟩ := Dev.switchBank_regs hr hwhat
    obtain ⟨hbody, hothers⟩ := d.rackFrame_switchNow r
    rw [exec_rackSwitch_now (hdue.mp hnow) hsteady, State.answers_next]
    have hlanes : ∀ k, k < 16 → k / 4 = r.val → ((d.rackSwitchNow r).lane k).mode = (if (d.rack r).racked then (d.lane k).mode else .done) ∧
        ((d.rackSwitchNow r).lane k).pc = (d.lane k).pc := fun k hk hkr => by
      have hlane := Dev.switchBank_lane (d := d) hk (by rw [hkr]; exact hwhat)
      rwa [hkr] at hlane
    exact ⟨hstate, hslot, hbank, hframe hbody, hothers, hracks, hcopied (Dev.switchBank_copies hr hwhat), hblocks hlanes⟩
  · obtain ⟨hstate, hslot, hbank, htrim⟩ := Dev.switchTrim_regs hr hwhat
    obtain ⟨hbody, hothers⟩ := d.rackFrame_switchNow r
    rw [exec_rackSwitch_now (hdue.mp hnow) hsteady, State.answers_next]
    exact ⟨hstate, ⟨hslot, hbank⟩, hframe hbody, hothers, htrim⟩
  · obtain ⟨hstate, hslot, hbank, hbody, hothers⟩ := d.switchRefused_spec hr
    rw [exec_rackSwitch_refused (hdue.mp hnow) (not_not.mp hsteady) hwhat hfits, State.answers_next]
    exact ⟨hstate, ⟨hslot, hbank⟩, hframe hbody, hothers, _, rfl⟩
  · obtain ⟨hstate, hslot, hbank, ⟨hbody, hothers⟩, hracks⟩ := d.committed_spec hr (4 + 2 * r + d.activeSlot r) (12 + 2 * r + d.activeBank r)
    rw [(exec_rackCommit r s).1 ⟨hst, hleft, htrig⟩, State.answers_next]
    exact ⟨hstate, ⟨hslot, hbank⟩, hframe hbody, hothers, hracks⟩
  · obtain ⟨hstate, hslot, hbank, hcount, hloaded⟩ := d.unrackNow_regs hr src
    obtain ⟨hbody, hothers⟩ := d.rackFrame_unrackNow r src
    rw [exec_unrack, Dev.unrackDue_now hst htrig hd, State.answers_next]
    have hlanes : ∀ k, k < 16 → k / 4 = r.val → cleared (d.unrackNow r src) k (if (d.lane k).mode = .halted then .halted else .done) :=
      fun k hk hkr => by
        have hlane := d.unrackNow_lane hk src
        rwa [hkr] at hlane
    exact ⟨hstate, ⟨hslot, hbank⟩, hframe hbody, hothers, hcount, hloaded, hcopied (d.unrackNow_copies hr src), hblocks hlanes, _, Dev.unrackNow_eq src⟩
  · rw [exec_unrack, Dev.unrackDue_none h]
  · rw [exec_blkCtrlRestart, Dev.writeBlkCtrl_one hv, Dev.unrackFirst_quiet hq, if_pos ((d.mayRestart_iff b).mpr hmay), State.answers_next]
    exact ⟨d.clearLane_cleared b .done, hframe (rackKept_body.clearLane _ _ _), fun q hne => d.clearLane_lane_ne hne .done⟩
  · rw [exec_blkCtrlRestart, Dev.writeBlkCtrl_one hv, Dev.unrackFirst_quiet hq, if_neg (mt (d.mayRestart_iff b).mp hmay)]
  · obtain ⟨src, hsrc⟩ := Dev.unrackFirst_due hq
    obtain ⟨hstate, hslot, hbank, -⟩ := d.unrackNow_regs hrb src
    have hkeep := fun (g : Fld) (hg : g.off < 0x4000) => (rackKept_fld hrb hg).restarted (d.unrackNow (b / 4) src) b
    rw [exec_blkCtrlRestart, Dev.writeBlkCtrl_one hv, hsrc, State.answers_next]
    exact ⟨(hkeep _ (by norm_num)).trans hstate, (hkeep _ (by norm_num)).trans hslot, (hkeep _ (by norm_num)).trans hbank,
      hframe ((rackKept_body.restarted _ _).trans (d.rackFrame_unrackNow (b / 4) src).body)⟩
  · rw [exec_blkCtrlRestart, Dev.writeBlkCtrl_zero hv]
  · obtain ⟨hbody, hdma, hstates⟩ := Dev.writeRestartDma_spec hv hcause
    rw [exec_rgnRestartDma, State.answers_next]
    exact ⟨hframe hbody, hdma, hstates⟩
  · rw [exec_rgnRestartDma, Dev.writeRestartDma_none h]
  · simp only [pairs, List.mem_cons, List.not_mem_nil, or_false] at hx
    obtain rfl | rfl := hx
    · obtain ⟨hother, hactive, hbody, hevent⟩ := d.writeSlotPair_spec b (fa := F.LANE_ENTRY_a) (fb := F.LANE_ENTRY_b) (by decide) (by decide) rfl
        (by norm_num) (by norm_num) v
      rw [exec_laneEntryWrite, State.answers_next]
      exact ⟨hother, hactive, hframe hbody, hevent⟩
    · obtain ⟨hother, hactive, hbody, hevent⟩ := d.writeSlotPair_spec b (fa := F.LANE_WCET_a) (fb := F.LANE_WCET_b) (by decide) (by decide) rfl
        (by norm_num) (by norm_num) v
      rw [exec_laneWcetWrite, State.answers_next]
      exact ⟨hother, hactive, hframe hbody, hevent⟩
  · rw [exec_exchChWrite, Dev.writeExch_eq, if_pos ((d.exchInForce_iff r setB).mpr hin)]
    rfl
  · rw [exec_exchChWrite, Dev.writeExch_eq, if_neg (mt (d.exchInForce_iff r setB).mp hin), if_pos ⟨hst, harmed⟩]
    rfl
  · have hopen : ¬ (d.rackState r ≠ rackIdle ∧ d.armedHere r = false) := fun h => hst.elim h.1 fun harmed => by
      rw [harmed] at h
      cases h.2
    obtain ⟨hloaded, hbody, hlanes, hfields⟩ := Dev.writeExch_accepted (d := d) (m := m) hr (setB := setB) n.isLt (v := v)
    rw [exec_exchChWrite, Dev.writeExch_eq, if_neg (mt (d.exchInForce_iff r setB).mp hin), if_neg hopen, State.answers_next]
    exact ⟨hloaded, hframe hbody, hlanes, hfields⟩

end Sys2Proof.Machine
end

section
/-! Slot operations and their words (R119, R120, R125, R129, R131, R136): what a reader finds in a word made of fields, and the operation that
the word of an operation spells. -/

namespace Sys2Proof.Machine

/-! ### The fields of a slot word (R119) -/

section
variable {op d s1 s2 low lo n : Nat}

/-- A reader of the bits of a slot word reads the number that its fields form. -/
theorem bitsOf_slotWord (h : lo + n ≤ 32) :
    bitsOf (slotWord op d s1 s2 low).toNat lo n = (op * 2 ^ 26 + d * 2 ^ 21 + s1 * 2 ^ 16 + s2 * 2 ^ 11 + low) / 2 ^ lo % 2 ^ n :=
  bitsOf_ofNat h

theorem opcode_slotWord (hop : op < 64) (h : d * 2 ^ 21 + s1 * 2 ^ 16 + s2 * 2 ^ 11 + low < 2 ^ 26) :
    bitsOf (slotWord op d s1 s2 low).toNat 26 6 = op := by
  rw [bitsOf_slotWord (by norm_num)]
  omega

/-- A register of one of the three kinds is read from a field of five bits that holds its number. -/
theorem register_slotWord [NeZero n] {r : Fin n} (hn : n ∣ 32) (hlo : lo + 5 ≤ 32)
    (h : (op * 2 ^ 26 + d * 2 ^ 21 + s1 * 2 ^ 16 + s2 * 2 ^ 11 + low) / 2 ^ lo % 2 ^ 5 = r) :
    Fin.ofNat n ((slotWord op d s1 s2 low).toNat / 2 ^ lo) = r := by
  have hfield : (slotWord op d s1 s2 low).toNat / 2 ^ lo % 32 = r := (bitsOf_slotWord hlo).trans h
  apply Fin.ext
  rw [Fin.val_ofNat, ← Nat.mod_mod_of_dvd _ hn, hfield, Nat.mod_eq_of_lt r.isLt]

/-- The bits of a slot word from bit `lo` up, as a bit vector. -/
theorem ofNat_div_slotWord {x : BitVec n} (h : lo + n ≤ 32)
    (hx : (op * 2 ^ 26 + d * 2 ^ 21 + s1 * 2 ^ 16 + s2 * 2 ^ 11 + low) / 2 ^ lo % 2 ^ n = x.toNat) :
    BitVec.ofNat n ((slotWord op d s1 s2 low).toNat / 2 ^ lo) = x :=
  BitVec.eq_of_toNat_eq ((BitVec.toNat_ofNat _ _).trans ((bitsOf_slotWord h).trans hx))

/-- The bits from bit 0 up, as a bit vector. -/
theorem ofNat_slotWord {x : BitVec n} (h : n ≤ 32) (hx : (op * 2 ^ 26 + d * 2 ^ 21 + s1 * 2 ^ 16 + s2 * 2 ^ 11 + low) % 2 ^ n = x.toNat) :
    BitVec.ofNat n (slotWord op d s1 s2 low).toNat = x := by
  have hbits := ofNat_div_slotWord (op := op) (d := d) (s1 := s1) (s2 := s2) (low := low) (lo := 0) (x := x) (by omega)
  rw [pow_zero, Nat.div_one, Nat.div_one] at hbits
  exact hbits hx

theorem oneIf_le (b : Bool) : oneIf b ≤ 1 := by cases b <;> decide

theorem bitOf_slotWord {b : Bool} (h : lo < 32)
    (hb : (op * 2 ^ 26 + d * 2 ^ 21 + s1 * 2 ^ 16 + s2 * 2 ^ 11 + low) / 2 ^ lo % 2 = oneIf b) :
    bitOf (slotWord op d s1 s2 low).toNat lo = b := by
  rw [slotWord, bitOf_ofNat h, bitOf, hb]
  cases b <;> rfl

/-- An immediate that takes up the low bits of a word, above which lies the s2 field or nothing (R125, R129, R131). -/
@[simp] theorem setWidth_slotWord {x : BitVec n} (h : n ≤ 11 ∨ (s2 = 0 ∧ n ≤ 16)) : (slotWord op d s1 s2 x.toNat).setWidth n = x := by
  have hdvd : 2 ^ n ∣ op * 2 ^ 26 + d * 2 ^ 21 + s1 * 2 ^ 16 + s2 * 2 ^ 11 := by
    obtain hn | ⟨rfl, hn⟩ := h
    · have h11 := Nat.pow_dvd_pow 2 hn
      exact h11.trans (by omega)
    · have h16 := Nat.pow_dvd_pow 2 hn
      exact h16.trans (by omega)
  rw [← BitVec.ofNat_toNat]
  refine ofNat_slotWord (by omega) ?_
  rw [Nat.add_mod, Nat.mod_eq_zero_of_dvd hdvd, Nat.zero_add, Nat.mod_mod, Nat.mod_eq_of_lt x.isLt]

/-- The registers that a word names. -/
@[simp] theorem rd_slotWord {r : GReg} (h : s1 * 2 ^ 16 + s2 * 2 ^ 11 + low < 2 ^ 21) : rd (slotWord op r s1 s2 low).toNat = r :=
  register_slotWord (by norm_num) (by norm_num) (by omega)
@[simp] theorem ad_slotWord {r : AReg} (h : s1 * 2 ^ 16 + s2 * 2 ^ 11 + low < 2 ^ 21) : ad (slotWord op r s1 s2 low).toNat = r :=
  register_slotWord (by norm_num) (by norm_num) (by omega)
@[simp] theorem vd_slotWord {r : VReg} (h : s1 * 2 ^ 16 + s2 * 2 ^ 11 + low < 2 ^ 21) : vd (slotWord op r s1 s2 low).toNat = r :=
  register_slotWord (by norm_num) (by norm_num) (by omega)
@[simp] theorem rs1_slotWord {r : GReg} (h : s2 * 2 ^ 11 + low < 2 ^ 16) : rs1 (slotWord op d r s2 low).toNat = r :=
  register_slotWord (by norm_num) (by norm_num) (by omega)
@[simp] theorem as1_slotWord {r : AReg} (h : s2 * 2 ^ 11 + low < 2 ^ 16) : as1 (slotWord op d r s2 low).toNat = r :=
  register_slotWord (by norm_num) (by norm_num) (by omega)
@[simp] theorem vs1_slotWord {r : VReg} (h : s2 * 2 ^ 11 + low < 2 ^ 16) : vs1 (slotWord op d r s2 low).toNat = r :=
  register_slotWord (by norm_num) (by norm_num) (by omega)
@[simp] theorem rs2_slotWord {r : GReg} (h : low < 2 ^ 11) : rs2 (slotWord op d s1 r low).toNat = r :=
  register_slotWord (by norm_num) (by norm_num) (by omega)
@[simp] theorem vs2_slotWord {r : VReg} (h : low < 2 ^ 11) : vs2 (slotWord op d s1 r low).toNat = r :=
  register_slotWord (by norm_num) (by norm_num) (by omega)

/-- The shift amounts of SHL and SHRA (R125). -/
@[simp] theorem shiftField_slotWord_imm (x : BitVec 5) : shiftField (slotWord op d s1 0 x.toNat).toNat = .imm x := by
  have hbit : bitOf (slotWord op d s1 0 x.toNat).toNat 5 = false := bitOf_slotWord (by norm_num) (show _ = 0 by omega)
  simp [shiftField, hbit]
@[simp] theorem shiftField_slotWord_reg (r : GReg) : shiftField (slotWord op d s1 r 32).toNat = .reg r := by
  have hbit : bitOf (slotWord op d s1 r 32).toNat 5 = true := bitOf_slotWord (by norm_num) (show _ = 1 by omega)
  simp [shiftField, hbit]

/-- The operands of PUT and GET, below which lies the seal (R131). -/
theorem exchField_slotWord (x : ExchOp) (h : low < 2 ^ 4) : exchField (slotWord op x.d 0 0 (exchBits x + low)).toNat = x := by
  obtain ⟨ch, wo, n, vec, d⟩ := x
  have hvec := oneIf_le vec
  simp only [exchField, exchBits, ExchOp.mk.injEq]
  exact ⟨ofNat_div_slotWord (by norm_num) (by omega), ofNat_div_slotWord (by norm_num) (by omega),
    ofNat_div_slotWord (by norm_num) (by omega), bitOf_slotWord (by norm_num) (by omega), rd_slotWord (by omega)⟩

end

theorem exchBits_le (x : ExchOp) : exchBits x + 2 ^ 4 ≤ 2 ^ 21 := by
  have hvec := oneIf_le x.vec
  rw [exchBits]
  omega

/-! ### Decoding what was encoded -/

@[simp] theorem decodeSlot_aSlot (ln : BlockId) (sl : ASlot) (w : Word) : decodeSlot ln (aSlot sl) w = decodeA ln sl w.toNat := by
  cases sl <;> rfl

@[simp] theorem decodeSlot_m (ln : BlockId) (w : Word) : decodeSlot ln .m w = decodeM ln w.toNat := rfl
@[simp] theorem decodeSlot_c (ln : BlockId) (w : Word) : decodeSlot ln .c w = decodeC ln w.toNat := rfl

/-- Every operation of a slot but an unassigned opcode has a word, and that word decodes to it. -/
theorem encodeSlot_spec {i : Instr} {ln : BlockId} {sl : Slot} (h : laneSlot i = some (ln, sl)) (hne : i ≠ .unassignedOpcode ln sl) :
    ∃ w, encodeSlot i = some w ∧ decodeSlot ln sl w = i := by
  cases i with
  | nop =>
    cases h
    exact ⟨_, rfl, by cases sl <;> rfl⟩
  | unassignedOpcode =>
    cases h
    exact absurd rfl hne
  | add | sub | and | or | xor | cmplt | qadd | qsub | qmul | lim | ramp | clarke | park | ipark | qneg | qabs | svpwm | mpy | mac | msu |
    addi | movl | movh | extr | accld | vmul | vsmul | bnorm | vscl | vtoq | qtov =>
    cases h
    exact ⟨_, rfl, by simp (disch := omega) [decodeA, opcode_slotWord]⟩
  | shl _ _ _ _ sh | shra _ _ _ _ sh =>
    cases h
    refine ⟨_, rfl, ?_⟩
    cases sh with
    | imm => simp (disch := omega) [decodeA, opcode_slotWord, shiftReg, shiftImm]
    | reg => simp (disch := omega) [decodeA, opcode_slotWord, shiftReg, shiftImm]
  | vadd _ _ md ms1 ms2 sub =>
    cases h
    have hsub := oneIf_le sub
    refine ⟨_, rfl, ?_⟩
    simp (disch := omega) only [decodeSlot_aSlot, decodeA, opcode_slotWord]
    rw [vd_slotWord (by omega), vs1_slotWord (by omega), vs2_slotWord (by omega), bitOf_slotWord (b := sub) (by norm_num) (by omega)]
  | ldp | stp | vld | vst | gtab | ftab =>
    cases h
    exact ⟨_, rfl, by simp (disch := omega) [decodeM, opcode_slotWord]⟩
  | ld ln gd gs1 imm size =>
    cases h
    refine ⟨_, rfl, ?_⟩
    simp (disch := omega) only [decodeSlot_m, decodeM, opcode_slotWord]
    rw [rd_slotWord (by omega), rs1_slotWord (by omega), ofNat_slotWord (x := imm) (by norm_num) (by omega),
      ofNat_div_slotWord (x := size) (by norm_num) (by omega)]
  | st ln gs1 imm gs2 size =>
    cases h
    refine ⟨_, rfl, ?_⟩
    simp (disch := omega) only [decodeSlot_m, decodeM, opcode_slotWord]
    rw [rs1_slotWord (by omega), rs2_slotWord (by omega), ofNat_slotWord (x := imm) (by norm_num) (by omega),
      ofNat_div_slotWord (x := size) (by norm_num) (by omega)]
  | ret | waitPhaseIntake | waitPhaseCompute | waitPhaseExchange | waitPhaseCommit =>
    cases h
    exact ⟨_, rfl, rfl⟩
  | br | call | commit =>
    cases h
    exact ⟨_, rfl, by simp (disch := omega) [decodeC, opcode_slotWord]⟩
  | brnz ln gs1 sense off =>
    cases h
    have hsense := oneIf_le sense
    refine ⟨_, rfl, ?_⟩
    simp (disch := omega) only [decodeSlot_c, decodeC, opcode_slotWord]
    rw [rs1_slotWord (by omega), bitOf_slotWord (b := sense) (by norm_num) (by omega), ofNat_slotWord (x := off) (by norm_num) (by omega)]
  | brc ln bit prev sense off =>
    cases h
    have hsense := oneIf_le sense
    have hprev := oneIf_le prev
    refine ⟨_, rfl, ?_⟩
    simp (disch := omega) only [decodeSlot_c, decodeC, opcode_slotWord]
    rw [ofNat_div_slotWord (x := bit) (by norm_num) (by omega), bitOf_slotWord (b := prev) (by norm_num) (by omega),
      bitOf_slotWord (b := sense) (by norm_num) (by omega), ofNat_slotWord (x := off) (by norm_num) (by omega)]
  | loop ln last cnt =>
    cases h
    refine ⟨_, rfl, ?_⟩
    simp (disch := omega) only [decodeSlot_c, decodeC, opcode_slotWord]
    rw [ofNat_div_slotWord (x := last) (by norm_num) (by omega), ofNat_slotWord (x := cnt) (by norm_num) (by omega)]
  | put ln x sealing =>
    cases h
    have hx := exchBits_le x
    have hsealing := oneIf_le sealing
    refine ⟨_, rfl, ?_⟩
    simp (disch := omega) only [decodeSlot_c, decodeC, opcode_slotWord]
    rw [exchField_slotWord x (by omega), bitOf_slotWord (b := sealing) (by norm_num) (by rw [exchBits]; omega)]
  | get ln x =>
    cases h
    have hx := exchBits_le x
    refine ⟨_, rfl, ?_⟩
    simp (disch := omega) only [decodeSlot_c, decodeC, opcode_slotWord]
    exact congrArg (Instr.get ln) (exchField_slotWord (low := 0) x (by norm_num))
  | sig ln n =>
    cases h
    refine ⟨_, rfl, ?_⟩
    fin_cases n <;> rfl
  | waitPhaseEvent ln bit dl =>
    cases h
    have hmode : bitsOf (slotWord 8 16 bit.toNat 0 dl.toNat).toNat 23 3 = 4 := by
      rw [bitsOf_slotWord (by norm_num)]
      omega
    refine ⟨_, rfl, ?_⟩
    simp (disch := omega) only [decodeSlot_c, decodeC, opcode_slotWord, decodeWait, hmode]
    rw [ofNat_div_slotWord (x := bit) (by norm_num) (by omega), ofNat_slotWord (x := dl) (by norm_num) (by omega)]
  | waitPhaseReserved ln mode =>
    cases h
    refine ⟨_, rfl, ?_⟩
    fin_cases mode <;> rfl
  | _ => nomatch h

/-! ### Every word spells an operation of its slot -/

theorem laneSlot_decodeA (ln : BlockId) (sl : ASlot) (w : Nat) : laneSlot (decodeA ln sl w) = some (ln, aSlot sl) := by
  unfold decodeA
  split <;> rfl

theorem laneSlot_decodeM (ln : BlockId) (w : Nat) : laneSlot (decodeM ln w) = some (ln, .m) := by
  unfold decodeM
  split <;> rfl

theorem laneSlot_decodeWait (ln : BlockId) (w : Nat) : laneSlot (decodeWait ln w) = some (ln, .c) := by
  unfold decodeWait
  split <;> rfl

theorem laneSlot_decodeC (ln : BlockId) (w : Nat) : laneSlot (decodeC ln w) = some (ln, .c) := by
  unfold decodeC
  split
  case h_8 => exact laneSlot_decodeWait ln w
  all_goals rfl

/-- Settles O59: the word of an operation holds its operands in its fields, from which the decoder reads them again. -/
theorem slotWordsRoundTrip : Obligations.SlotWordsRoundTrip := by
  unfold Obligations.SlotWordsRoundTrip
  refine fun ln sl => ⟨fun i w h hw => ?_, fun i h hne => ?_, fun w => ?_⟩
  · have hne : i ≠ .unassignedOpcode ln sl := by
      rintro rfl
      nomatch hw
    obtain ⟨v, hv, hdec⟩ := encodeSlot_spec h hne
    rwa [Option.some.inj (hw.symm.trans hv)]
  · obtain ⟨w, hw, -⟩ := encodeSlot_spec h hne
    exact ⟨w, hw⟩
  · cases sl with
    | a0 => exact laneSlot_decodeA ln .a0 w.toNat
    | a1 => exact laneSlot_decodeA ln .a1 w.toNat
    | m => exact laneSlot_decodeM ln w.toNat
    | c => exact laneSlot_decodeC ln w.toNat

end Sys2Proof.Machine
end

section
/-! The fused transforms (R124, R126, R127). -/

namespace Sys2Proof.Machine

/-! ### The square root -/

/-- The bits found so far enclose the root: its square is at most `n`, and that with `2 ^ k` added above it. -/
theorem isqrtFrom_spec (n k r : Nat) (hlo : r * r ≤ n) (hhi : n < (r + 2 ^ k) * (r + 2 ^ k)) :
    isqrtFrom n k r * isqrtFrom n k r ≤ n ∧ n < (isqrtFrom n k r + 1) * (isqrtFrom n k r + 1) := by
  induction k generalizing r with
  | zero => exact ⟨hlo, hhi⟩
  | succ k ih =>
    rw [isqrtFrom]
    split
    next h => exact ih _ h (by rwa [add_assoc, ← two_mul, ← pow_succ'])
    next h => exact ih _ hlo (Nat.lt_of_not_le h)

theorem isqrt_spec {n : Nat} (h : n < 2 ^ 96) : isqrt n * isqrt n ≤ n ∧ n < (isqrt n + 1) * (isqrt n + 1) :=
  isqrtFrom_spec n 48 0 (Nat.zero_le _) (by norm_num at h ⊢; exact h)

/-- The magnitude of a quotient by √3: half the root of 4/3 a², rounded (R126). -/
def sqrt3Quot (a : Nat) : Nat := (isqrt (4 * a * a / 3) + 1) / 2

theorem sqrt3Quot_zero : sqrt3Quot 0 = 0 := by
  obtain ⟨hroot, -⟩ := isqrt_spec (n := 0) (by norm_num)
  rw [sqrt3Quot, mul_zero, Nat.zero_div, mul_self_eq_zero.mp (Nat.le_zero.mp hroot)]
  rfl

theorem divSqrt3_eq (n : Int) : divSqrt3 n = if n < 0 then -(sqrt3Quot n.natAbs : Int) else sqrt3Quot n.natAbs := rfl

theorem abs_divSqrt3 (n : Int) : |divSqrt3 n| = sqrt3Quot n.natAbs := by
  rw [divSqrt3_eq]
  split
  · rw [abs_neg, Nat.abs_cast]
  · exact Nat.abs_cast _

theorem divSqrt3_nonneg {n : Int} (h : 0 ≤ n) : 0 ≤ divSqrt3 n := by
  rw [divSqrt3_eq, if_neg (by omega)]
  exact Int.natCast_nonneg _

theorem divSqrt3_nonpos {n : Int} (h : n ≤ 0) : divSqrt3 n ≤ 0 := by
  obtain rfl | hneg := h.eq_or_lt
  · rw [divSqrt3_eq, Int.natAbs_zero, sqrt3Quot_zero]
    rfl
  · rw [divSqrt3_eq, if_pos hneg]
    exact Int.neg_nonpos_of_nonneg (Int.natCast_nonneg _)

/-- The quotient lies within one half of a / √3. -/
theorem sqrt3Quot_nearest {a : Nat} (h : a < 2 ^ 32) :
    3 * (2 * (sqrt3Quot a : Int) - 1) ^ 2 ≤ 4 * (a : Int) ^ 2 + 3 ∧ 4 * (a : Int) ^ 2 < 3 * (2 * (sqrt3Quot a : Int) + 1) ^ 2 := by
  have hsq : a * a < 2 ^ 32 * 2 ^ 32 := Nat.mul_lt_mul'' h h
  have hn : 4 * a * a / 3 < 2 ^ 96 := by
    rw [mul_assoc]
    omega
  obtain ⟨hlo, hhi⟩ := isqrt_spec hn
  have hm : sqrt3Quot a = (isqrt (4 * a * a / 3) + 1) / 2 := rfl
  generalize isqrt (4 * a * a / 3) = r at *
  generalize sqrt3Quot a = m at *
  have hle : 3 * (r * r) ≤ 4 * a * a := by omega
  have hlt : 4 * a * a < 3 * ((r + 1) * (r + 1)) := by omega
  have hmr : 2 * m ≤ r + 1 := by omega
  have hrm : r + 1 ≤ 2 * m + 1 := by omega
  zify at hle hlt hmr hrm
  constructor
  · obtain rfl | hpos := Nat.eq_zero_or_pos m
    · norm_num
    · have hroot : (2 * (m : Int) - 1) ^ 2 ≤ (r : Int) ^ 2 := pow_le_pow_left₀ (by omega) (by omega) 2
      linarith
  · have hroot : ((r : Int) + 1) ^ 2 ≤ (2 * (m : Int) + 1) ^ 2 := pow_le_pow_left₀ (by omega) (by omega) 2
    linarith

/-! ### Sine and cosine (R126) -/

/-- A table value lies within the bound of the exact one, whatever its error is. -/
theorem abs_add_clamp_sub (x e : Int) : |x + clampInt (-(2 ^ 26 - 2 ^ 10)) (2 ^ 26 - 2 ^ 10) e - x| ≤ 2 ^ 26 := by
  rw [clampInt_eq _ _ _ (by norm_num), abs_le]
  omega

/-! ### What the transforms send -/

theorem satQ15_range (x : Int) : -0x8000 ≤ (satQ15 x).1 ∧ (satQ15 x).1 ≤ 0x7FFF := by
  rw [satQ15_eq]
  dsimp only
  omega

/-- A fused transform sends its two results to the pair of its destination, sat with the first. -/
theorem State.aluPair_sent {ln : BlockId} {s : State} (h : s.running ln) (sl : ASlot) (gd : GReg) (f : Lane → Int × Int × Bool) :
    s.aluPair ln sl gd f =
      .next ((s.sent ln (aslotNum sl) 3 (.g (pairBase gd)) (.word (BitVec.ofInt 32 (f (s.dev.lane ln)).1))
        (if (f (s.dev.lane ln)).2.2 then 1 else 0)).sent ln (aslotNum sl) 3 (.g (regPlus (pairBase gd) 1))
        (.word (BitVec.ofInt 32 (f (s.dev.lane ln)).2.1)) 0) :=
  State.done_onRun h _

/-- SVPWM clamps each of its three duties, and saturates where one lies outside (R127). -/
theorem svpwmOf_clamped (va vb : Int) : ∃ x y z : Int, svpwmOf va vb =
    ([clampInt 0 32767 x, clampInt 0 32767 y, clampInt 0 32767 z], [x, y, z].any (fun x => decide (x < 0 ∨ 32767 < x))) :=
  ⟨_, _, _, rfl⟩

theorem clampInt_duty_range (x : Int) : 0 ≤ clampInt 0 32767 x ∧ clampInt 0 32767 x ≤ 0x7FFF := by
  rw [clampInt_eq _ _ _ (by norm_num)]
  omega

theorem regPlus_zero (r : GReg) : regPlus r 0 = r := Fin.ext (Nat.mod_eq_of_lt r.isLt)

/-- SVPWM sends three duties upwards from its destination, sat with the first (R124, R127). -/
theorem exec_svpwm {ln : BlockId} {s : State} (h : s.running ln) (sl : ASlot) (gd gs1 : GReg) {x y z : Int} {sat : Bool}
    (hd : svpwmOf (q15 ((s.dev.lane ln).gr (pairBase gs1))) (q15 ((s.dev.lane ln).gr (regPlus (pairBase gs1) 1))) = ([x, y, z], sat)) :
    exec (.svpwm ln sl gd gs1) s =
      .next (((s.sent ln (aslotNum sl) 3 (.g gd) (.word (BitVec.ofInt 32 x)) (if sat then 1 else 0)).sent ln (aslotNum sl) 3
        (.g (regPlus gd 1)) (.word (BitVec.ofInt 32 y)) 0).sent ln (aslotNum sl) 3 (.g (regPlus gd 2)) (.word (BitVec.ofInt 32 z)) 0) := by
  refine (State.done_onRun h _).trans ?_
  dsimp only
  rw [hd, regPlus_zero]
  rfl

/-- Settles O3: the root of CLARKE by `isqrt_spec`, the tables by the clamp of their error, and the duties by theirs. -/
theorem laneTransformOps : Obligations.LaneTransformOps := by
  unfold Obligations.LaneTransformOps
  intro ln sl gd gs1 gs2 s h l lo a b pair
  have hsends : ∀ f : Lane → Int × Int × Bool, s.aluPair ln sl gd f = pair (f l).1 (f l).2.1 (f l).2.2 := State.aluPair_sent h sl gd
  refine ⟨⟨divSqrt3 (q15 (l.gr gs1) + 2 * q15 (l.gr gs2)), ?_, divSqrt3_nonneg, divSqrt3_nonpos, ?_⟩,
    ⟨hsends _, satQ15_range _, satQ15_range _⟩, ⟨hsends _, satQ15_range _, satQ15_range _⟩,
    abs_add_clamp_sub _ _, abs_add_clamp_sub _ _, ?_⟩
  · refine (hsends _).trans ?_
    simp only [clarkeOf, satQ15_eq]
  · obtain ⟨hlo1, hhi1⟩ := q15_range (l.gr gs1)
    obtain ⟨hlo2, hhi2⟩ := q15_range (l.gr gs2)
    rw [abs_divSqrt3, ← Int.natAbs_sq (q15 (l.gr gs1) + 2 * q15 (l.gr gs2))]
    exact sqrt3Quot_nearest (by omega)
  · obtain ⟨x, y, z, hd⟩ := svpwmOf_clamped a b
    exact ⟨_, _, _, _, exec_svpwm h sl gd gs1 hd, hd, clampInt_duty_range x, clampInt_duty_range y, clampInt_duty_range z⟩

end Sys2Proof.Machine
end

section
/-! The operations of the C slot that direct a lane, and the bundle that follows (R120, R131 to R136). -/

namespace Sys2Proof.Machine

/-! ### Operations that direct the lane -/

theorem Dev.laneIllegal_eq (d : Dev) (ln : BlockId) :
    d.laneIllegal ln = d.raise Ev.LANE_ILLEGAL (scopeBlk ln) (ln.val + 16 * ((d.lane ln).pc % 4096)) := by
  have hpack : pack [(ln.val, 4), ((d.lane ln).pc, 12)] = ln.val % 2 ^ 4 + 2 ^ 4 * ((d.lane ln).pc % 2 ^ 12 + 2 ^ 12 * 0) := rfl
  rw [Dev.laneIllegal, hpack, Nat.mod_eq_of_lt (b := 2 ^ 4) ln.isLt]
  norm_num

theorem toNat_eq_zero_iff {n : Nat} (x : BitVec n) : x.toNat = 0 ↔ x = 0 := by
  rw [← BitVec.toNat_inj]
  exact Iff.rfl

/-- A branch by its offset and its condition (R132). -/
theorem Dev.branch_eq (d : Dev) (b : Nat) (off : BitVec 12) (taken : Bool) :
    d.branch b off taken = if off = 0 ∨ 4095 < (d.lane b).pc + off.toNat then d.laneIllegal b
      else if taken then d.setLane b { d.lane b with redirect := some ((d.lane b).pc + off.toNat) } else d := by
  simp only [Dev.branch, toNat_eq_zero_iff, Dev.redirect]

/-- The answer of a branch, case by case. -/
theorem next_branch (s : State) (b : Nat) (off : BitVec 12) (taken : Bool) :
    (.next ⟨s.dev.branch b off taken, s.pending⟩ : Host.Outcome State Fault Refusal) =
      if off = 0 ∨ 4095 < (s.dev.lane b).pc + off.toNat then .next ⟨s.dev.laneIllegal b, s.pending⟩
      else if taken then .next ⟨s.dev.setLane b { s.dev.lane b with redirect := some ((s.dev.lane b).pc + off.toNat) }, s.pending⟩
      else .next s := by
  rw [Dev.branch_eq]
  split_ifs <;> rfl

/-- The condition of BRNZ. -/
theorem bne_zero_bne (w : Word) (sense : Bool) : ((w != 0) != sense) = if sense then w == 0 else w != 0 := by
  cases sense
  · exact Bool.bne_false _
  · exact (Bool.bne_true _).trans (Bool.not_not _)

/-- The condition of BRC. -/
theorem bitOf_bne (w : Word) (bit : BitVec 5) (sense : Bool) :
    (bitOf w.toNat bit.toNat != sense) = if sense then !w.getLsbD bit.toNat else w.getLsbD bit.toNat := by
  rw [bitOf_eq_testBit]
  cases sense
  · exact Bool.bne_false _
  · exact Bool.bne_true _

section
variable {ln : BlockId} {s : State}

theorem exec_loop (h : s.running ln) (last cnt : BitVec 12) : exec (.loop ln last cnt) s =
    if last = 0 ∨ 2 ≤ (s.dev.lane ln).loops.length then .next ⟨s.dev.laneIllegal ln, s.pending⟩
    else .next ⟨s.dev.setLane ln { s.dev.lane ln with loops := ⟨(s.dev.lane ln).pc + 1, (s.dev.lane ln).pc + last.toNat, cnt.toNat⟩ ::
      (s.dev.lane ln).loops }, s.pending⟩ := by
  refine (State.done_onRun h _).trans ?_
  simp only [toNat_eq_zero_iff]
  split_ifs <;> rfl

theorem exec_call (h : s.running ln) (target : BitVec 12) : exec (.call ln target) s =
    if (s.dev.lane ln).link = none then
      .next ⟨s.dev.setLane ln { s.dev.lane ln with link := some ((s.dev.lane ln).pc + 1), redirect := some target.toNat }, s.pending⟩
    else .next ⟨s.dev.laneIllegal ln, s.pending⟩ := by
  refine (State.done_onRun h _).trans ?_
  cases hlink : (s.dev.lane ln).link with
  | none => rfl
  | some p => rfl

theorem exec_ret_empty (h : s.running ln) (hlink : (s.dev.lane ln).link = none) :
    exec (.ret ln) s = .next ⟨s.dev.laneIllegal ln, s.pending⟩ := by
  refine (State.done_onRun h _).trans ?_
  rw [hlink]

theorem exec_ret_held (h : s.running ln) {p : Nat} (hlink : (s.dev.lane ln).link = some p) :
    exec (.ret ln) s = .next ⟨s.dev.setLane ln { s.dev.lane ln with link := none, redirect := some p }, s.pending⟩ := by
  refine (State.done_onRun h _).trans ?_
  rw [hlink]

end

/-! ### The bundle that follows (R131, R133, R134) -/

section
variable {l : Lane} {t : Nat}

theorem Lane.advance_redirect {p : Nat} (h : l.redirect = some p) :
    l.advance t = { l with pc := p, redirect := none, issued := false, nextAt := t + 1 } := by
  rw [Lane.advance, h]

/-- At the end bundle of its innermost loop a lane goes back as long as repeats are left, and leaves the loop otherwise. -/
theorem Lane.advance_loop {e : LoopEntry} {rest : List LoopEntry} (h : l.redirect = none) (hloops : l.loops = e :: rest) :
    l.advance t =
      if e.last = l.pc then
        if e.left = 0 then { l with loops := rest, pc := l.pc + 1, issued := false, nextAt := t }
        else { l with loops := { e with left := e.left - 1 } :: rest, pc := e.first, pair := some (e.first / 2), issued := false, nextAt := t }
      else { l with pc := l.pc + 1, issued := false, nextAt := t } := by
  rw [Lane.advance, h]
  dsimp only
  rw [hloops]

theorem Lane.advance_next (h : l.redirect = none) (hloops : l.loops = []) :
    l.advance t = { l with pc := l.pc + 1, issued := false, nextAt := t } := by
  rw [Lane.advance, h]
  dsimp only
  rw [hloops]

/-- A lane that is not redirected issues its next bundle in the cycle given. -/
theorem Lane.advance_nextAt (h : l.redirect = none) : (l.advance t).nextAt = t := by
  cases hl : l.loops with
  | nil => rw [Lane.advance_next h hl]
  | cons e rest =>
    rw [Lane.advance_loop h hl]
    split_ifs <;> rfl

end

/-- A lane that advances changes its place in the program alone. -/
theorem Lane.advance_frame (l : Lane) (t : Nat) :
    l.advance t = { l with
      issued := false, redirect := none, pc := (l.advance t).pc, nextAt := (l.advance t).nextAt, loops := (l.advance t).loops,
      pair := (l.advance t).pair } := by
  cases hr : l.redirect with
  | some p => rw [Lane.advance_redirect hr]
  | none =>
    cases hl : l.loops with
    | nil => rw [Lane.advance_next hr hl, ← hr]
    | cons e rest =>
      rw [Lane.advance_loop hr hl]
      split_ifs <;> rw [← hr]

/-- Settles O8: each operation is one branch of its command, and the lane goes on as the branches of `Lane.advance` say. -/
theorem laneControl : Obligations.LaneControl := by
  unfold Obligations.LaneControl
  constructor
  · intro ln sl gs1 off last cnt bit prev sense mode s h d l goes illegal branch live
    have hillegal : illegal = .next ⟨s.dev.laneIllegal ln, s.pending⟩ := by rw [Dev.laneIllegal_eq]
    have hbranch : ∀ taken, .next ⟨s.dev.branch ln off taken, s.pending⟩ = branch taken := fun taken => by
      rw [next_branch, ← hillegal]
    refine ⟨rfl, ?_, ?_, ?_, ?_, ?_, ?_, fun hlink => ?_, fun p hlink => exec_ret_held h hlink, ?_⟩
    · exact (State.done_onRun h _).trans hillegal.symm
    · exact (State.done_onRun h _).trans (hbranch true)
    · rw [← bne_zero_bne]
      exact (State.done_onRun h _).trans (hbranch _)
    · rw [← bitOf_bne]
      exact (State.done_onRun h _).trans (hbranch _)
    · rw [exec_loop h, ← hillegal]
    · rw [exec_call h, ← hillegal]
    · rw [exec_ret_empty h hlink, ← hillegal]
    · exact (State.done_onRun h _).trans hillegal.symm
  · intro l t n
    have hn : n = _ := l.advance_frame (t + 1)
    refine ⟨by rw [hn], by rw [hn], by rw [hn], by rw [hn], by rw [hn], by rw [hn], by rw [hn], by rw [hn], fun p hp => ?_, fun hr => ?_⟩
    · have hp : n = _ := Lane.advance_redirect hp
      rw [hp]
      exact ⟨rfl, rfl, rfl⟩
    · refine ⟨Lane.advance_nextAt hr, fun hl => ?_, fun e rest hl => ?_⟩
      · exact congrArg Lane.pc (Lane.advance_next hr hl)
      · have hloop : n = _ := Lane.advance_loop hr hl
        refine ⟨fun hlast => ?_, fun hlast hleft => ?_, fun hlast hleft => ?_⟩
        · rw [hloop, if_neg hlast]
          exact ⟨rfl, rfl⟩
        · rw [hloop, if_pos hlast, if_pos hleft]
          exact ⟨rfl, rfl⟩
        · rw [hloop, if_pos hlast, if_neg hleft]
          exact ⟨rfl, rfl⟩

end Sys2Proof.Machine
end
